-- ==== Sys2Proof/Word.lean ====
section
/-! DEFINITION. The word of the register space: 32 bits (R7). -/

namespace Sys2Proof

/-- A register word (R7: all registers are 32 bits wide). -/
abbrev Word := BitVec 32

end Sys2Proof
end

