-- ==== Sys2Proof/Syntax.lean ====
section
/-! DEFINITION. The commands the block takes: one constructor per row of the table of operations and events, with the
operands a command carries from outside. -/

namespace Sys2Proof.Machine

/-- The two compute halves (R16). -/
inductive Half | a | b
  deriving DecidableEq, Repr

/-- The masters of the register space: each half over the main bus, Shepherd over the side band (R16, R41). -/
inductive Master | half (h : Half) | shep
  deriving DecidableEq, Repr

/-- What an access carries (R34, R41): the issuing master, the world attribute (`secure`; for Shepherd, 1 only within
a secure-authenticated session) and the VI number (a side-band access counts as VI0). -/
structure Access where
  master : Master
  secure : Bool
  vi : Fin 128
  deriving DecidableEq, Repr

/-- A request frame on a tile's configuration link (R168, R169): TYPE, SEQ, SRC, CLAIM, and UNIT, REG, DATA and KEY
where the type has them; the reserved bits of octet 1, and the octets between header and CRC of a reserved TYPE. -/
structure TclReq where
  type : Nat
  seq : Nat
  src : Nat
  claim : Nat
  unit : Nat := 0
  reg : Nat := 0
  data : Word := 0
  key : Nat := 0
  low : Nat := 0
  tail : List Nat := []
  deriving DecidableEq, Repr

/-- A reset in progress (R297): a power-on reset, an SRST, an HRST of a half, a CRST of core 0 to 3 or S-pair 4 to 6 of
a half. -/
inductive Rst | por | srst | hrst (h : Half) | crst (h : Half) (core : Fin 7)
  deriving DecidableEq, Repr

/-- A reply frame of a tile (R170). -/
structure TclRep where
  type : Nat
  seq : Nat
  holder : Nat
  state : Nat
  cur : Nat
  out : Nat := 0
  unit : Nat := 0
  reg : Nat := 0
  data : Word := 0
  reason : Nat := 0
  refType : Nat := 0
  deriving DecidableEq, Repr

/-- Where a frame's SFD passed the timestamp point (R76, R77): how many tick edges ago, and the bin of the tick. -/
structure SfdPoint where
  ago : Fin 40960
  bin : Fin 13
  deriving DecidableEq, Repr

/-- What the two cores of a pair present on one lane of the comparator in one cycle (R337). -/
structure LaneOut where
  lane : Fin 8
  main : Nat
  checker : Nat
  deriving DecidableEq, Repr

/-- What a received MACsec frame's SecTAG says (R582): the SCI it names or implies, AN, the full packet number, and whether it is
encrypted. -/
structure SecTag where
  sci : Nat
  an : Fin 4
  pn : Nat
  conf : Bool
  deriving DecidableEq, Repr

/-- A CAN message on the bus (R447, R449): format (0 classical, 1 FD, 2 XL), identifier or priority identifier, IDE, RTR or
RRS, BRS, ESI, data, and for XL the SDU type, VCID, acceptance field and SEC. -/
structure CanMsg where
  fmt : Fin 3
  id : Nat
  ide : Bool := false
  rtr : Bool := false
  brs : Bool := false
  esi : Bool := false
  data : List Nat
  sdt : Nat := 0
  vcid : Nat := 0
  af : Nat := 0
  sec : Bool := false
  deriving DecidableEq, Repr

/-- What followed a LIN header on the bus (R452, R453): a complete frame with its data, a checksum error, or a bit or
framing error. -/
inductive LinRes | complete (data : List Nat) | checksum | bits
  deriving DecidableEq, Repr

end Sys2Proof.Machine

namespace Sys2Proof

open Machine

/-- The commands: the rows of the table of operations and events, in its order. -/
inductive Instr where
  /-- REGISTER_WRITE (R34). A main-bus or side-band write to a register that has no row of its own is checked for ownership, locks and alignment, and then applied. -/
  | registerWrite (acc : Access) (size addr : Nat) (v : Word)
  /-- RC_READ (R12). A read of a read-to-clear field returns the value and clears it when the reader keeps the page's counts. -/
  | rcRead (acc : Access) (size addr : Nat)
  /-- OWNER_WRITE (R39). A write to OWNER is judged by the ownership check, the secure-only rule and OWNER_LOCK, then takes effect in the next cycle. -/
  | ownerWrite (acc : Access) (page : Nat) (v : Word)
  /-- LOCK_WRITE (R38). A write of 1 to a LOCK bit sets OWNER_LOCK or FIELD_LOCK until the register's class loses it. -/
  | lockWrite (acc : Access) (page : Nat) (v : Word)
  /-- IRQ_CLR (R29). A write of IRQ_CLR clears the named IRQ_RAW bits unless hardware sets them in the same cycle. -/
  | irqClr (acc : Access) (page : Nat) (v : Word)
  /-- IRQ_FORCE (R30). A write of IRQ_FORCE sets IRQ_RAW bits as if their conditions had occurred. -/
  | irqForce (acc : Access) (page : Nat) (v : Word)
  /-- UNIT_NOP (R25). UNIT_CTRL NOP does nothing and leaves CMD_RESULT unchanged. -/
  | unitNop (acc : Access) (page : Nat)
  /-- UNIT_CMD_RESERVED (R25). A reserved UNIT_CTRL command ends with CMD_RESULT UNSUPPORTED. -/
  | unitCmdReserved (acc : Access) (page cmd : Nat)
  /-- UNIT_PRST (R25). UNIT_CTRL PRST resets the class-X content of the page. -/
  | unitPrst (acc : Access) (page : Nat)
  /-- UNIT_UNSUPPORTED (R27). A command that the unit's type does not support ends with CMD_RESULT UNSUPPORTED. -/
  | unitUnsupported (acc : Access) (page cmd : Nat)
  /-- COMPOSITE_CMD (R49). A command written to a composite unit starts its fan-out to the members in ascending local number, or ends with BUSY. -/
  | compositeCmd (acc : Access) (page cmd : Nat)
  /-- FAN_OUT_STEP (R49). Once the previous member's result is known, the fan-out delivers the command to the next member. -/
  | fanOutStep (comp : Nat)
  /-- CHANNEL_ON (R190). UNIT_CTRL ON on a channel sets its IN line in the level image, or is refused. -/
  | channelOn (acc : Access) (n : Fin 128)
  /-- CHANNEL_OFF (R190). UNIT_CTRL OFF on a channel clears its IN line in the level image, or is refused. -/
  | channelOff (acc : Access) (n : Fin 128)
  /-- CHANNEL_CLEAR (R216). UNIT_CTRL CLEAR on a channel sends PROT_CLR with all four bits set and waits for the ACK. -/
  | channelClear (acc : Access) (n : Fin 128)
  /-- DOMAIN_ON (R98). UNIT_CTRL ON on a phase domain sets its initial position, enters WAIT or RUN and rebinds NEXT events, or is refused. -/
  | domainOn (acc : Access) (d : Fin 16)
  /-- DOMAIN_OFF (R97). UNIT_CTRL OFF stops a domain, withdraws its placed events and turns its children OFF. -/
  | domainOff (acc : Access) (d : Fin 16)
  /-- DOMAIN_PRST (R97). PRST of a domain puts it in OFF as by OFF and resets its position, rate and readings. -/
  | domainPrst (acc : Access) (d : Fin 16)
  /-- HALF_HALT (R291). UNIT_CTRL HALT on a HALFx page halts the half and yields when the half is active. -/
  | halfHalt (acc : Access) (h : Half)
  /-- HALF_RESUME (R301). RESUME written by a half's own software moves it from RESETTING to RUNNING. -/
  | halfResume (acc : Access) (h : Half)
  /-- HALF_CLEAR (R291). CLEAR on a HALFx page clears CTRL_REFUSED and the fault bit of a path no longer silent. -/
  | halfClear (acc : Access) (h : Half)
  /-- PORT_ON (R440). UNIT_CTRL ON on a port page sets ADMIN_EN. -/
  | portOn (acc : Access) (p : Fin 29)
  /-- PORT_OFF (R440). UNIT_CTRL OFF on a port page clears ADMIN_EN and holds the link down. -/
  | portOff (acc : Access) (p : Fin 29)
  /-- CAN_CLEAR (R448). UNIT_CTRL CLEAR on a CAN controller in bus-off starts recovery when BO_AUTO is 0. -/
  | canClear (acc : Access) (k : Fin 12)
  /-- MSG_SEND (R63). A write of MSG_SEND.GO captures MSG_TX0 to MSG_TX7 and sends the directory message locally or to its host module. -/
  | msgSend (acc : Access) (v : Word)
  /-- MRQ_POP (R63). A write of MRQ_POP discards the oldest returned message. -/
  | mrqPop (acc : Access) (v : Word)
  /-- MSG_ARRIVE (R60). A directory message arriving at its host is checked for enable, entry, type and generation, then executed or returned. -/
  | msgArrive
  /-- MSG_RETURN (R62). A returned message reaches its sender's misroute queue, or is dropped and counted in LOST_CNT. -/
  | msgReturn
  /-- CLOCK_TICK (R67). On each 625 MHz tick each clock advances by its increment, with slew applied. -/
  | clockTick
  /-- INC_LO_WRITE (R68). A write of INC_LO loads the increment shadow. -/
  | incLoWrite (acc : Access) (k : Fin 2) (v : Word)
  /-- INC_HI_WRITE (R68). A write of INC_HI requests a commit of INC_HI and the shadowed INC_LO, or is refused for range. -/
  | incHiWrite (acc : Access) (k : Fin 2) (v : Word)
  /-- INC_COMMIT (R68). At the next tick the requested increment becomes the running increment. -/
  | incCommit (k : Fin 2)
  /-- SLEW_GO (R69). SLEW_CTRL.GO loads SLEW_AMT into SLEW_REMAIN to start or replace a slew. -/
  | slewGo (acc : Access) (k : Fin 2)
  /-- SLEW_CANCEL (R69). SLEW_CTRL.CANCEL sets SLEW_REMAIN to 0 at the next tick without SLEW_DONE. -/
  | slewCancel (acc : Access) (k : Fin 2)
  /-- SLEW_DONE (R69). SLEW_REMAIN reaching 0 clears SLEWING and raises the clock's SLEW_DONE bit. -/
  | slewDone (k : Fin 2)
  /-- OFS_GO (R70). OFS_CTRL.GO requests a one-shot offset at the next tick, or sets OFS_BUSY when one is pending. -/
  | ofsGo (acc : Access) (k : Fin 2)
  /-- OFFSET_APPLY (R72). At the next tick the offset steps the clock, or is refused with OFS_RANGE, and acts on the scheduled acts. -/
  | offsetApply (k : Fin 2)
  /-- SNAP_GO (R75). A write of TB.SNAP.GO requests a snapshot of the three clocks into the writer's bank. -/
  | snapGo (acc : Access)
  /-- SNAP_LATCH (R75). At the next tick the three clocks are latched into the writer's bank and VALID is set. -/
  | snapLatch (m : Master)
  /-- CAP_POP (R93). A write of CAP_POP discards the head entry of a timestamp capture FIFO. -/
  | capPop (acc : Access) (h : Half)
  /-- TIME_EPOCH_REACHED (R99). A TIME domain in WAIT enters RUN when its clock reaches EPOCH. -/
  | timeEpochReached (d : Fin 16)
  /-- ENC_EDGE (R456). A filtered edge on an encoder or Hall input is timestamped, counted and delivered to the domains that use it. -/
  | encEdge (pin : Fin 16) (rising : Bool)
  /-- LS_EDGE (R456). A filtered line-sync edge is timestamped, updates LS_PERIOD and reaches LINE domains. -/
  | lsEdge (pin : Fin 4) (rising : Bool)
  /-- LINE_MSG_GO (R107). A write of LINE_MSG_GO acts as a frame start at the stated instant, projected to the present. -/
  | lineMsgGo (acc : Access) (d : Fin 16) (v : Word)
  /-- DOMAIN_HOLD (R112). A domain whose position reaches its clamp enters HOLD. -/
  | domainHold (d : Fin 16)
  /-- STALL_TIMEOUT (R113). A HOLD lasting STALL_TIMEOUT makes the domain STALLED and flags or disarms its events. -/
  | stallTimeout (d : Fin 16)
  /-- EVT_SHADOW_WRITE (R118). A write of word 0, 2 or 3 of an event entry goes to the page's shadow tagged with the entry index. -/
  | evtShadowWrite (acc : Access) (i : Fin 4096) (j : Fin 4) (v : Word)
  /-- EVT_COMMIT (R118). A write of word 1 commits the entry with its shadowed words at the next tick, or is refused. -/
  | evtCommit (acc : Access) (i : Fin 4096) (v : Word)
  /-- EVENT_EVALUATE (R124). The engine's periodic evaluation projects every armed eligible event and places it or finds it LATE. -/
  | eventEvaluate
  /-- ACTION_SET (R132). At its instant a SET action drives the target IN lines high in the image and on the lines. -/
  | actionSet (i : Fin 4096)
  /-- ACTION_CLEAR (R132). At its instant a CLEAR action drives the target IN lines low. -/
  | actionClear (i : Fin 4096)
  /-- ACTION_TOGGLE (R132). At its instant a TOGGLE action inverts each target IN line. -/
  | actionToggle (i : Fin 4096)
  /-- ACTION_OPEN (R136). At its instant an OPEN action opens the target egress launch gate. -/
  | actionOpen (i : Fin 4096)
  /-- ACTION_CLOSE (R136). At its instant a CLOSE action closes the target egress launch gate. -/
  | actionClose (i : Fin 4096)
  /-- ACTION_PULSE (R139). At its instant a PULSE action drives a timed output active for its width. -/
  | actionPulse (i : Fin 4096)
  /-- PULSE_END (R139). When the pulse width expires the timed output returns to idle. -/
  | pulseEnd (k : Fin 8)
  /-- ACTION_SAMPLE (R138). At its instant a SAMPLE action starts a conversion, slipped when the converter is busy. -/
  | actionSample (i : Fin 4096)
  /-- ACTION_IRQ (R140). At its instant an IRQ action sets a bit of HRN.EVIRQ_RAW. -/
  | actionIrq (i : Fin 4096)
  /-- ACTION_CHAIN (R141). At its instant a CHAIN action arms and binds its target event. -/
  | actionChain (i : Fin 4096)
  /-- LINE_SET (R132). A write of HRN.LINE_SET sets the named IN lines at the next tick for channels that pass ownership. -/
  | lineSet (acc : Access) (w : Fin 4) (v : Word)
  /-- LINE_CLR (R132). A write of HRN.LINE_CLR clears the named IN lines at the next tick for channels that pass ownership. -/
  | lineClr (acc : Access) (w : Fin 4) (v : Word)
  /-- GATE_STATE_WRITE (R136). A software write of GATE_STATE changes launch gates at the next tick. -/
  | gateStateWrite (acc : Access) (w : Fin 8) (v : Word)
  /-- TO_ARM (R142). A write of TO_CTRL.ARM writes the compatibility slot's event entry and arms it. -/
  | toArm (acc : Access) (k : Fin 8) (v : Word)
  /-- TO_DISARM (R151). A write of TO_CTRL.DISARM disarms a compatibility slot. -/
  | toDisarm (acc : Access) (k : Fin 8) (v : Word)
  /-- PHASE_READ (R149). A read of DOMd.PHASE latches cycle, rate and timestamp from the same tick. -/
  | phaseRead (acc : Access) (d : Fin 16)
  /-- TCL_KEEPALIVE (R176). A tile acts on a KEEPALIVE request, restarting the Stay timer or returning from STAY, or refuses it. -/
  | tclKeepalive (t : Fin 8) (seq : Fin 16) (src : Fin 4) (claim : Fin 65536)
  /-- TCL_CLAIM (R176). A tile acts on a CLAIM request, taking the new claim number and holder under the take rule, or refuses it. -/
  | tclClaim (t : Fin 8) (seq : Fin 16) (src : Fin 4) (claim : Fin 65536)
  /-- TCL_RENEW (R176). A tile acts on a RENEW request from its holder under the take rule, or refuses it. -/
  | tclRenew (t : Fin 8) (seq : Fin 16) (src : Fin 4) (claim : Fin 65536)
  /-- TCL_WRITE (R176). A tile applies a WRITE request from its holder to a writable register and answers ACK, or refuses it. -/
  | tclWrite (t : Fin 8) (seq : Fin 16) (src : Fin 4) (claim : Fin 65536) (unit reg : Fin 256) (data : Word)
  /-- TCL_READ (R176). A tile answers a READ request with DATA, or refuses an undefined register. -/
  | tclRead (t : Fin 8) (seq : Fin 16) (src : Fin 4) (claim : Fin 65536) (unit reg : Fin 256)
  /-- TCL_PARK (R187). A tile accepts PARK from its holder and applies each channel's PARK policy, or refuses it. -/
  | tclPark (t : Fin 8) (seq : Fin 16) (src : Fin 4) (claim : Fin 65536)
  /-- TCL_TRST (R189). A tile accepts TRST with the correct key from its holder and schedules its reset, or refuses it. -/
  | tclTrst (t : Fin 8) (seq : Fin 16) (src : Fin 4) (claim key : Fin 65536)
  /-- TCL_BAD_FRAME (R171). A request with a bad CRC or wrong length is discarded unanswered and counted. -/
  | tclBadFrame (t : Fin 8) (octs : List Nat)
  /-- STORED_REPLY_DISCARD (R172). The tile discards its stored request and reply 100 µs after the end of that reply. -/
  | storedReplyDiscard (t : Fin 8)
  /-- REPLY_STATUS (R178). A STATUS reply reaches tile control, completing a claim, keepalive, park or reset request and updating the mirrors. -/
  | replyStatus (t : Fin 8) (r : TclRep)
  /-- REPLY_ACK (R174). An ACK reply enters the written value into tile control's mirror. -/
  | replyAck (t : Fin 8) (r : TclRep)
  /-- REPLY_DATA (R175). A DATA reply updates the mirror and serves a stalled read. -/
  | replyData (t : Fin 8) (r : TclRep)
  /-- REPLY_NACK (R174). A NACK reply leaves the mirror unchanged and records LAST_NACK and NACK_CNT. -/
  | replyNack (t : Fin 8) (r : TclRep)
  /-- REPLY_TIMEOUT (R173). No valid reply within 20 µs fails an attempt, retries it, or ends the request with TIMEOUT. -/
  | replyTimeout (t : Fin 8) (seq : Fin 16) (began : Option (List Nat))
  /-- LEASH_STAY_ENTRY (R180). A HELD tile with no valid KEEPALIVE for 120 µs enters STAY and holds its levels. -/
  | leashStayEntry (t : Fin 8)
  /-- LEASH_LOSS_ENTRY (R185). STAY_TIME elapsing since the last valid keepalive puts the tile in LOSS and applies the LOSS policies. -/
  | leashLossEntry (t : Fin 8)
  /-- TAKE_INSTANT (R178). 2.0 µs after its STATUS reply the tile takes the IN lines and enters HELD. -/
  | takeInstant (t : Fin 8)
  /-- TRST_TAKE_EFFECT (R189). 2.0 µs after its STATUS reply a TRST resets the tile's claim, class-T content and channels. -/
  | trstTakeEffect (t : Fin 8)
  /-- TILE_POWER_UP (R189). A tile's feed rising through 3.0 V powers it up and performs TRST. -/
  | tilePowerUp (t : Fin 8) (mv : Nat)
  /-- TILE_BROWNOUT (R156). A feed below 2.8 V for 50 µs or more resets the tile as in TRST. -/
  | tileBrownout (t : Fin 8) (mv : Nat)
  /-- FEED_BAND_CHANGE (R156). The tile's feed voltage moving into or out of a band is recorded for tile control. -/
  | feedBandChange (t : Fin 8) (mv : Nat)
  /-- SUPPLY_SAMPLE (R154). The tile samples its supply shunt and updates the 1 s mean and its supply warning. -/
  | supplySample (t : Fin 8) (i : Nat)
  /-- LH_INPUT_CHANGE (R162). A limp-home input stable for 20 µs is taken by the tile and drives its LIMP channels. -/
  | lhInputChange (t : Fin 9) (i : Fin 16) (lv : Bool)
  /-- IN_EDGE (R158). An IN line edge reaching a tile changes the channel's source level when the tile accepts edges. -/
  | inEdge (n : Fin 128)
  /-- LEASH_CTRL_CLAIM (R183). A write of LEASH_CTRL.CLAIM sends CLAIM with CUR + 1 for the writing half. -/
  | leashCtrlClaim (acc : Access) (t : Fin 8)
  /-- LEASH_CTRL_RENEW (R183). A write of LEASH_CTRL.RENEW sends RENEW with CUR for the writing half. -/
  | leashCtrlRenew (acc : Access) (t : Fin 8)
  /-- LEASH_CTRL_PARK (R195). A write of LEASH_CTRL.PARK sends PARK for the writing half. -/
  | leashCtrlPark (acc : Access) (t : Fin 8)
  /-- TRST_REQ (R189). A write of 0x0000_C3A5 to TILEt.TRST_REQ sends TRST to the tile. -/
  | trstReq (acc : Access) (t : Fin 8) (v : Word)
  /-- RWT_WRITE (R174). A write to a tile-held field is posted and queued as a TCL WRITE with the writer's claim number. -/
  | rwtWrite (acc : Access) (n : Fin 128) (r : Fin 7) (v : Word)
  /-- POLICY_WRITE (R186). A write to STAY_TIME or CH_POL updates the P register and, from the holder, is forwarded to the tile. -/
  | policyWrite (acc : Access) (t : Fin 8) (unit : Fin 17) (v : Word)
  /-- KEEPALIVE_TIMER (R182). Every 50 µs the holding half's tile agent sends KEEPALIVE to each tile it holds. -/
  | keepaliveTimer (h : Half)
  /-- MIRROR_RELOAD (R175). After SRST, at LINK_UP or on an unexpected reset reply, tile control reads every tile-held register. -/
  | mirrorReload (t : Fin 8)
  /-- LEASH_POLL (R175). Tile control reads LEASH_STAT when no reply has reported the state for 1 ms. -/
  | leashPoll (t : Fin 8)
  /-- MIRROR_REFRESH (R222). Tile control reads the channels' protection registers and the tile conditions after a FAULT_N change or every 10 ms. -/
  | mirrorRefresh (t : Fin 8)
  /-- FAST_TRIP (R202). Current above twice nominal turns the channel off and sets the over-current latch. -/
  | fastTrip (n : Fin 128) (ma out : Nat)
  /-- DIGITAL_TRIP (R203). Current above the digital threshold for OC_FILT turns the channel off and sets the latch. -/
  | digitalTrip (n : Fin 128) (ma out : Nat)
  /-- INRUSH_WINDOW_CLOSE (R205). The inrush window expires and ILIM applies again. -/
  | inrushWindowClose (n : Fin 128)
  /-- THERMAL_LATCH (R208). A junction reaching 175 °C sets TH_LATCH and turns the channel off. -/
  | thermalLatch (n : Fin 128) (t : Int)
  /-- JUNCTION_THRESHOLD (R208). A junction crossing 150 °C or the warning temperature changes HOT or TH_WARN. -/
  | junctionThreshold (n : Fin 128) (t : Int)
  /-- RETRY_TIMER_EXPIRY (R211). The retry timer expiring evaluates the restart rule: defer, lock out or restart. -/
  | retryTimerExpiry (n : Fin 128)
  /-- CLEAN_TIME_EXPIRY (R212). CLEAN_TIME without a trip returns RETRY_LEFT to RETRY_MAX. -/
  | cleanTimeExpiry (n : Fin 128)
  /-- PROT_CLR_TH (R213). PROT_CLR.TH clears TH_LATCH when HOT is 0, else sets TH_CLR_DENIED. -/
  | protClrTh (n : Fin 128)
  /-- PROT_CLR_OC (R213). PROT_CLR.OC clears OC_LATCH and, without a thermal latch, RESTART_PEND. -/
  | protClrOc (n : Fin 128)
  /-- PROT_CLR_RETRY (R213). PROT_CLR.RETRY clears LOCKOUT, OC_LATCH and RESTART_PEND and reloads RETRY_LEFT. -/
  | protClrRetry (n : Fin 128)
  /-- PROT_CLR_DIAG (R213). PROT_CLR.DIAG clears DIAG_HIST, TRIP_CAUSE and TH_CLR_DENIED. -/
  | protClrDiag (n : Fin 128)
  /-- OL_ON_DETECT (R217). 10 ms of accumulated on-time below or above OL_ON_LIM sets or clears OL_ON. -/
  | olOnDetect (n : Fin 128) (ua : Nat)
  /-- REV_DETECT (R217). Reverse current above or below 2 % of nominal for 100 µs sets or clears REV. -/
  | revDetect (n : Fin 128) (ma : Nat)
  /-- OFF_DIAG_START (R218). An eligible non-conducting channel starts an off-state sequence with the pull-down phase. -/
  | offDiagStart (n : Fin 128)
  /-- OFF_DIAG_PHASE1_END (R218). After 200 µs the pull-down phase judges SHORT_BAT and starts the pull-up phase when not set. -/
  | offDiagPhase1End (n : Fin 128) (out : Nat)
  /-- OFF_DIAG_PHASE2_END (R218). After 200 µs the pull-up phase judges OL_OFF and completes the sequence. -/
  | offDiagPhase2End (n : Fin 128) (out : Nat)
  /-- CONVERSION_HOLD (R234). A sense converter samples the SENSE line at a hold instant in the chosen range. -/
  | conversionHold (t : Fin 8) (pre : Nat)
  /-- CONVERSION_RESULT (R239). A conversion result is calibrated and written to its destination and the composite I_SUMs. -/
  | conversionResult (t : Fin 8) (code : Fin 65536)
  /-- SW_CONV (R235). A write of SADCt.SW_CONV requests a software conversion at the earliest free hold. -/
  | swConv (acc : Access) (t : Fin 8) (v : Word)
  /-- BG_SCAN_START (R236). Every BG_INT × 100 µs a background scan starts when none is running and no capture runs. -/
  | bgScanStart (t : Fin 8)
  /-- CAP_ARM (R244). A write of CAP_CTRL.ARM arms an inrush capture of one channel. -/
  | capArm (acc : Access) (t : Fin 8) (v : Word)
  /-- CAP_ABORT (R244). A write of CAP_CTRL.ABORT ends a capture at once and sets ABORTED. -/
  | capAbort (acc : Access) (t : Fin 8) (v : Word)
  /-- CAP_DONE (R245). After the last hold the converter computes the features and hint and raises CAP_DONE. -/
  | capDone (t : Fin 8)
  /-- CAP_DATA_READ (R252). A main-bus read of CAP_DATA returns a sample and advances CAP_PTR. -/
  | capDataRead (acc : Access) (t : Fin 8)
  /-- FMON_SAMPLE (R243). Every 100 µs the feed monitor samples both feeds, tracks extremes and raises undervoltage. -/
  | fmonSample (va : Int) (vb : Int)
  /-- FMON_CLR (R253). A write of FMON_CLR sets a feed's minimum and maximum to the next sample. -/
  | fmonClr (acc : Access) (v : Word)
  /-- MEMB_ADD (R247). A write of MEMB_CTRL with OP ADD checks and requests adding a member to a group. -/
  | membAdd (acc : Access) (g : Fin 64) (m : Fin 4096)
  /-- MEMB_REMOVE (R247). A write of MEMB_CTRL with OP REMOVE checks and requests removing a member from a group. -/
  | membRemove (acc : Access) (g : Fin 64) (m : Fin 4096)
  /-- MEMB_APPLY (R248). In the cycle after its check an applied membership change recomputes levels, sums and generations. -/
  | membApply
  /-- DIST_ITEM (R264). The input distributor delivers one numbered item to the rings or host ports of the in-step halves. -/
  | distItem
  /-- BARK_FEED (R271). A write of LOCAL.BARK_FEED permits Barks for FEED_WIN. -/
  | barkFeed (acc : Access) (v : Word)
  /-- BARK_SEND (R271). Every 100 µs the active half sends a Bark on the line and network paths. -/
  | barkSend
  /-- BARK_RECEIVE (R273). A Bark word arriving at the other half is validated and resets that path's miss count. -/
  | barkReceive (h : Half) (net : Bool) (w : BitVec 64)
  /-- ECHO_RECEIVE (R275). A valid ECHO at the active half resets that path's miss count. -/
  | echoReceive (h : Half) (net : Bool) (w : BitVec 64)
  /-- BARK_MISS_TIMER (R275). A path's miss timer expiring increments its miss count and may declare the path or peer silent. -/
  | barkMissTimer (h : Half) (net : Bool)
  /-- TAKEOVER_GRANT (R279). The arbiter grants the standby the active role, increments generations and records the cause. -/
  | takeoverGrant
  /-- TAKEOVER_CLAIM (R279). The new active half's tile agent issues a takeover CLAIM to every tile, aborting a request in progress. -/
  | takeoverClaim
  /-- ROLE_SWAP (R289). A secure ROLE_CTRL.SWAP from the active half hands the role to a HEEL standby, or is refused. -/
  | roleSwap (acc : Access) (h : Half)
  /-- ROLE_ASSUME (R281). A secure ROLE_CTRL.ASSUME grants the requesting half the active role when allowed, or is refused. -/
  | roleAssume (acc : Access) (h : Half)
  /-- RESYNC_REQ (R287). ROLE_CTRL.RESYNC_REQ puts an OFFLINE running half in RESYNC and records FIRST_SEQ. -/
  | resyncReq (acc : Access) (h : Half)
  /-- RESYNC_ABORT (R287). ROLE_CTRL.RESYNC_ABORT returns a resynchronising half to OFFLINE. -/
  | resyncAbort (acc : Access) (h : Half)
  /-- CMP_EPOCH (R285). A write of LOCAL.CMP_EPOCH closes the open epoch and sends its record to the other half. -/
  | cmpEpoch (acc : Access) (v : Word)
  /-- CMP_BASE (R287). A write of LOCAL.CMP_BASE sets the last closed epoch number without closing. -/
  | cmpBase (acc : Access) (v : Word)
  /-- CMP_RECORD_RX (R286). A comparison record from the other half is compared with the own record for the same epoch. -/
  | cmpRecordRx (h : Half)
  /-- CMP_LATE_TIMER (R286). The other half's record missing CMP_TIMEOUT after the own close is a late outcome. -/
  | cmpLateTimer (h : Half)
  /-- POR (R297). The logic supply good for 1 ms releases power-on reset and starts the module from step 1. -/
  | por (cell : Bool)
  /-- BOR (R299). An internal rail below 90 % for 1 µs acts as the reset its rail maps to. -/
  | bor (rail : Fin 4)
  /-- SRST_REQUEST (R329). RST_REQ with KIND SRST and the correct key resets all logic except the always-on logic and tiles. -/
  | srstRequest (acc : Access) (key : Fin 65536)
  /-- HRST_A_REQUEST (R329). RST_REQ with KIND HRST-A resets compute Half A. -/
  | hrstARequest (acc : Access) (key : Fin 65536)
  /-- HRST_B_REQUEST (R329). RST_REQ with KIND HRST-B resets compute Half B. -/
  | hrstBRequest (acc : Access) (key : Fin 65536)
  /-- CRST_REQUEST (R329). RST_REQ with KIND CRST resets one application core or one S-pair. -/
  | crstRequest (acc : Access) (key : Fin 65536) (h : Half) (core : Fin 8)
  /-- RESET_RELEASE (R301). A reset's release bound elapsing releases its scope, putting halves in RESETTING with their roles. -/
  | resetRelease (r : Rst)
  /-- STATE_REQ_DOZE (R303). A secure STATE_REQ of DOZE stops the application clusters and puts DRAM in self-refresh, or is refused. -/
  | stateReqDoze (acc : Access)
  /-- STATE_REQ_RUN (R302). A secure STATE_REQ of RUN leaves DOZE, or is refused. -/
  | stateReqRun (acc : Access)
  /-- STATE_REQ_PARK (R304). A secure STATE_REQ of PARK starts PARK entry, or is refused. -/
  | stateReqPark (acc : Access)
  /-- DOZE_WAKE (R303). An interrupt pending for an application core ends DOZE for both halves. -/
  | dozeWake
  /-- PARK_ENTRY (R304). PARK entry arms the wake sources, stops Huarneel and sends PARK to every tile. -/
  | parkEntry
  /-- PARK_TILE_WAIT_END (R304). After the tile replies or 1 ms, PARK entry parks the halves, records the clocks and switches the domains off. -/
  | parkTileWaitEnd
  /-- WAKE_SOURCE (R306). An armed wake source fires and is latched in WAKE_CAUSE. -/
  | wakeSource (kind : Fin 16) (i : Fin 128) (rtc : Nat)
  /-- PARK_EXIT (R307). With a wake latched and entry complete, the device restores the clocks, powers the domains and releases the halves. -/
  | parkExit (periods : Nat)
  /-- SUPPLY_LOW (R308). The logic supply falling below 5.0 V sets DEV_STATE.SUPPLY_LOW. -/
  | supplyLow
  /-- SUPPLY_LOSS (R308). The logic supply below 4.0 V for 20 µs puts the device in OFF. -/
  | supplyLoss
  /-- PD_REQ_ON (R315). A PD_CTRLk ON request is checked and starts switching the domain on, or ends with a refusal. -/
  | pdReqOn (acc : Access) (k : Fin 12)
  /-- PD_REQ_OFF (R315). A PD_CTRLk OFF request is checked and starts switching the domain off, is held pending, or is refused. -/
  | pdReqOff (acc : Access) (k : Fin 12)
  /-- PD_TRANSITION_END (R315). A domain transition completes, RESULT reads DONE and PWR raises PD_DONE. -/
  | pdTransitionEnd (k : Fin 12)
  /-- SECURE_HOLD_WRITE (R316). A secure write of SECURE_HOLD sets or clears the hold, clearing re-checks a pending request. -/
  | secureHoldWrite (acc : Access) (k : Fin 20) (b : Bool)
  /-- CKG_REQ_ON (R317). A CKG_CTRLj ON request opens a clock gate. -/
  | ckgReqOn (acc : Access) (j : Fin 8)
  /-- CKG_REQ_OFF (R317). A CKG_CTRLj OFF request gates the engines' clock, or is held pending. -/
  | ckgReqOff (acc : Access) (j : Fin 8)
  /-- RWP_WRITE (R319). A write to a persistent field stalls the master, writes MRAM atomically and counts the word's wear. -/
  | rwpWrite (acc : Access) (addr : Nat) (v : Word)
  /-- LIFE_HOUR (R322). Each whole hour in RUN, DOZE, DEAD or PARK increments a life counter. -/
  | lifeHour
  /-- LS_DIVERGENCE (R338). A lane difference at a pair's comparator freezes the pair and records LS_DIV. -/
  | lsDivergence (x : Fin 6) (d : LaneOut)
  /-- LS_UE (R339). An uncorrectable error in a pair's cache or SRAM freezes the pair and records LS_UE. -/
  | lsUe (x : Fin 6) (array : Fin 3) (checker : Bool) (addr : Nat)
  /-- CORRECTABLE_ERROR (R339). A correctable error in one cache copy is corrected and counted in CE_CNT. -/
  | correctableError (x : Fin 6)
  /-- SCRUB_GO (R342). A write of LSPx.SCRUB_GO triggers a SCRUB of the pair. -/
  | scrubGo (acc : Access) (x : Fin 6)
  /-- SCRUB_AUTO (R342). Every SCRUB_PERIOD an automatic SCRUB is triggered. -/
  | scrubAuto (x : Fin 6)
  /-- SCRUB_COMPARE (R341). 1,118 ns after the trigger the two digests are compared, giving MATCH or a divergence. -/
  | scrubCompare (x : Fin 6) (main checker : List Word)
  /-- LS_INJECT (R343). A secure write of LSPx.INJECT forces a one-cycle difference on a lane for the comparator to detect. -/
  | lsInject (acc : Access) (x : Fin 6) (lane : Fin 16)
  /-- MONITOR_RECORD (R349). An occurrence of an error source is recorded and its reaction applied. -/
  | monitorRecord (src : Fin 64) (info : Word)
  /-- SAFE_INJECT (R352). A write of SAFE.INJECT with the key records a source as if it occurred, with or without its reaction. -/
  | safeInject (acc : Access) (src : Fin 64) (dry : Bool) (key : Fin 65536)
  /-- PATH_PERSIST_EXPIRY (R350). PATH_FAULT lasting PATH_PERSIST records the PATH_FAULT source. -/
  | pathPersistExpiry (h : Half)
  /-- CE_WINDOW_EXPIRY (R350). At the end of a CE_WINDOW the corrected error count is judged against CE_LIMIT. -/
  | ceWindowExpiry (h : Half)
  /-- BUS_STALL_TIMER (R345). A main-bus access outstanding for 1 ms records BUS_STALL. -/
  | busStallTimer (h : Half) (addr : Nat)
  /-- FRAME_LOOKUP (R395). When a frame's first cell is complete the lookup forms its key, searches the tables and binds the result. -/
  | frameLookup (p : Fin 29) (pre : Bool) (octs : List Nat) (sfd : SfdPoint) (sec : Option SecTag)
  /-- FABRIC_SLOT (R358). In each 5 ns slot the two fabric stages move one cell per link under the cyclic pattern. -/
  | fabricSlot (arr : List (Fin 29 × Bool × List Nat))
  /-- INGRESS_FRAME_END (R367). A frame's last cell arrives at its ingress MAC with a good or bad FCS. -/
  | ingressFrameEnd (p : Fin 29) (pre : Bool) (octs : List Nat) (err : Bool) (icv : Bool)
  /-- TX_SELECT (R377). A free egress port selects the highest eligible queue head and starts its transmission. -/
  | txSelect (p : Fin 29) (bin : Fin 13)
  /-- TX_COMPLETE (R375). A frame's transmission ends and its cells leave the queue and the buffer. -/
  | txComplete (p : Fin 29)
  /-- LAUNCH_LATE (R381). A launch-time frame not started LATE_TOL after its instant is dropped or sent late. -/
  | launchLate (p : Fin 29) (q : Fin 8)
  /-- RSV_COMMIT (R369). RSV_CTRL.COMMIT checks the shadow reservation table and requests its activation, or refuses it. -/
  | rsvCommit (acc : Access)
  /-- RSV_REVERT (R390). RSV_CTRL.REVERT copies the active table into the shadow. -/
  | rsvRevert (acc : Access)
  /-- RSV_ACTIVATE (R369). At the start of the next fabric cycle the committed table becomes active. -/
  | rsvActivate
  /-- FDB_WRITE (R402). An FDB_CMT WRITE stores the shadow entry, or ends with DUPLICATE or BAD_ENTRY. -/
  | fdbWrite (acc : Access) (idx : Fin 8192)
  /-- FDB_CLEAR (R402). An FDB_CMT CLEAR invalidates a forwarding entry. -/
  | fdbClear (acc : Access) (idx : Fin 8192)
  /-- FDB_READ (R402). An FDB_CMT READ copies an entry into the read-back words. -/
  | fdbRead (acc : Access) (idx : Fin 8192)
  /-- FDB_FIND (R402). An FDB_CMT FIND searches for the shadow key and reports its index. -/
  | fdbFind (acc : Access) (idx : Fin 8192)
  /-- SF_WRITE (R402). An SF_CMT WRITE stores the shadow stream filter. -/
  | sfWrite (acc : Access) (idx : Fin 2048) (clr : Bool)
  /-- SF_CLEAR (R402). An SF_CMT CLEAR invalidates a stream filter and discards its meter count. -/
  | sfClear (acc : Access) (idx : Fin 2048) (clr : Bool)
  /-- SF_READ (R427). An SF_CMT READ copies a filter and its counts, clearing them when CNT_CLR is 1. -/
  | sfRead (acc : Access) (idx : Fin 2048) (clr : Bool)
  /-- MG_WRITE (R402). An MG_CMT WRITE stores the shadow multicast group. -/
  | mgWrite (acc : Access) (idx : Fin 1024)
  /-- MG_CLEAR (R402). An MG_CMT CLEAR invalidates a multicast group. -/
  | mgClear (acc : Access) (idx : Fin 1024)
  /-- MG_READ (R402). An MG_CMT READ copies a group into the read-back words. -/
  | mgRead (acc : Access) (idx : Fin 1024)
  /-- CMT_BAD_OP (R404). A table commit with a reserved OP, or FIND outside the forwarding database, ends with BAD_OP. -/
  | cmtBadOp (acc : Access) (tbl : Fin 3) (v : Word)
  /-- LEARN_INSERT (R406). At its turn a learn request searches again and inserts, keeps or drops the learned entry. -/
  | learnInsert
  /-- RESIDUE_EVALUATE (R416). Waiting READY residue copies are evaluated for admission to their queues. -/
  | residueEvaluate
  /-- RESIDUE_TIMEOUT (R417). A residue copy not admitted RESIDUE_TO after binding is refused. -/
  | residueTimeout
  /-- LINK_UP (R431). A port's link comes up at the resolved speed and selects its correction slot. -/
  | linkUp (p : Fin 27) (sp : Fin 3) (master : Bool) (lo : Word) (hi : Fin 65536)
  /-- LINK_DOWN (R433). A port's link goes down, aborting the frame in transmission and keeping queued frames. -/
  | linkDown (p : Fin 27)
  /-- AN_FAIL (R432). Negotiation finding no common speed or role sets AN_FAIL and keeps the link down. -/
  | anFail (p : Fin 22)
  /-- AN_RETRY (R432). 1 s after a failure the port restarts auto-negotiation. -/
  | anRetry (p : Fin 22)
  /-- TDR_GO (R437). TDR_CTRL.GO starts a cable measurement, or ends with REFUSED while ADMIN_EN is 1. -/
  | tdrGo (acc : Access) (p : Fin 29) (vf : Fin 256)
  /-- TDR_DONE (R439). A cable measurement completes with its reflections and result. -/
  | tdrDone (p : Fin 26) (refl : List (Fin 4096 × Int)) (noise : Bool)
  /-- PLCA_CYCLE (R436). A PLCA cycle between BEACONs is counted and checked against NODE_COUNT. -/
  | plcaCycle (p : Fin 4) (seen : Fin 256)
  /-- COLLISION (R435). A collision on a 10BASE-T1S segment backs off, drops or retries the frame. -/
  | collision (p : Fin 4) (late : Bool) (node : Fin 32)
  /-- PLCA_OBS_EXPIRY (R436). At the end of each observation window PLCA_ACTIVE is updated. -/
  | plcaObsExpiry (p : Fin 4) (mask : Word)
  /-- GW_FRAME_RX (R446). An AVTP frame from the fabric is parsed and its messages queued for their controllers. -/
  | gwFrameRx
  /-- GW_AGG_SEND (R445). A gateway frame is sent when AGG_MAX, AGG_TIME or the size limit is reached. -/
  | gwAggSend (bus : Fin 24)
  /-- CAN_RX (R449). A valid CAN message received is stamped and forwarded to the gateway when it passes the filters. -/
  | canRx (k : Fin 12) (m : CanMsg) (ago : Nat)
  /-- CAN_TX_DONE (R450). A queued CAN message is sent successfully. -/
  | canTxDone (k : Fin 12)
  /-- CAN_TX_ERROR (R450). A lost arbitration or transmit error retries the message or drops it after TX_RETRY. -/
  | canTxError (k : Fin 12) (arb : Bool)
  /-- CAN_BUS_OFF (R448). A controller enters bus-off, counts it and starts recovery when BO_AUTO is 1. -/
  | canBusOff (k : Fin 12)
  /-- CAN_ERR_STATE (R448). A controller's error state changes and raises ERR_STATE_CHG. -/
  | canErrState (k : Fin 12) (passive : Bool) (tec : Fin 256) (rec : Fin 256) (errs : Nat)
  /-- CAN_RECOVERY_DONE (R448). Bus-off recovery completes and queued messages are sent again. -/
  | canRecoveryDone (k : Fin 12)
  /-- LIN_HEADER (R452). A LIN channel sends or answers a header and forwards every complete frame seen. -/
  | linHeader (k : Fin 8) (id : Fin 64) (res : LinRes) (ago : Nat)
  /-- LIN_NO_RESP (R453). A subscribe response not begun within 1.4 × nominal response time is a non-response. -/
  | linNoResp (k : Fin 8) (id : Fin 64)
  /-- DI_CHANGE (R454). A filtered discrete input level change updates DI_LEVEL and DI_CHG. -/
  | diChange (i : Fin 96) (lv : Bool)
  /-- AI_CONVERSION (R455). An analog input conversion completes and writes AI_DATA. -/
  | aiConversion (m : Fin 4) (code : Fin 65536)
  /-- AI_SCAN (R455). Every AI_SCAN_INT a periodic analog scan starts. -/
  | aiScan
  /-- AI_SW_CONV (R455). A write of AI_SW_CONV requests a software analog conversion. -/
  | aiSwConv (acc : Access) (v : Word)
  /-- LH_DIFF_TIMER (R457). A bank and tile LH level differing for 1 ms sets LH_DIFF. -/
  | lhDiffTimer (i : Fin 16)
  /-- QASSIGN_WRITE (R464). A write of QASSIGNn assigns host queues to a VI, or is refused. -/
  | qassignWrite (acc : Access) (n : Fin 128) (v : Word)
  /-- CTX_VI_WRITE (R470). A write of CTX_VIw changes context owners and zeroes their state, or records CTX_BUSY. -/
  | ctxViWrite (acc : Access) (w : Fin 64) (v : Word)
  /-- VI_ENABLE (R475). VI_CMD ENABLE moves a STOPPED VI to RUN, or is refused. -/
  | viEnable (acc : Access) (n : Fin 128)
  /-- VI_QUIESCE (R476). VI_CMD QUIESCE stops new work of a running VI and enters QUIESCING. -/
  | viQuiesce (acc : Access) (n : Fin 128)
  /-- VI_RESUME (R475). VI_CMD RESUME returns a quiescing, quiesced or frozen VI to RUN. -/
  | viResume (acc : Access) (n : Fin 128)
  /-- VI_FREEZE (R476). VI_CMD FREEZE stops new work and reaches FROZEN with a snapshot. -/
  | viFreeze (acc : Access) (n : Fin 128)
  /-- VI_SAVE (R481). VI_CMD SAVE of a frozen VI starts writing its wrapped image. -/
  | viSave (acc : Access) (n : Fin 128) (mig : Fin 256)
  /-- VI_RESTORE (R483). VI_CMD RESTORE of a stopped VI starts loading and checking an image. -/
  | viRestore (acc : Access) (n : Fin 128) (mig : Fin 256)
  /-- VI_VRST (R477). VI_CMD VRST starts a function reset of a quiesced, frozen or stopped VI, or is refused. -/
  | viVrst (acc : Access) (n : Fin 128)
  /-- VI_VRST_FORCE (R478). VI_CMD VRST_FORCE stops new work and suppresses the VI's DMA writes until in-flight work ends. -/
  | viVrstForce (acc : Access) (n : Fin 128)
  /-- QUIESCE_COMPLETE (R476). The last work in flight ending makes the VI QUIESCED or FROZEN. -/
  | quiesceComplete (n : Fin 128)
  /-- VRST_COMPLETE (R477). A VRST completes: queues reset, contexts zeroed, owned ports and buses flushed, VI STOPPED. -/
  | vrstComplete (n : Fin 128)
  /-- SAVE_COMPLETE (R481). A SAVE ends with its result and leaves the VI FROZEN. -/
  | saveComplete
  /-- RESTORE_COMPLETE (R483). A RESTORE ends with its result, loading the VI state and entering FROZEN on DONE. -/
  | restoreComplete (img : List Nat)
  /-- DOORBELL (R487). A write of DOORBELL sets a queue's WR or RD index. -/
  | doorbell (acc : Access) (n : Fin 127) (v : Word)
  /-- Q_WR_WRITE (R466). A write of Q_WR advances a transmit queue's write index. -/
  | qWrWrite (acc : Access) (n : Fin 127) (v : Word)
  /-- Q_RD_WRITE (R467). A write of Q_RD returns receive ring units. -/
  | qRdWrite (acc : Access) (n : Fin 127) (v : Word)
  /-- HOST_TX_FETCH (R466). A host port fetches a transmit descriptor when the VI's share permits and submits the frame. -/
  | hostTxFetch (h : Half) (desc : List Word) (octs : List Nat)
  /-- HOST_RX_DELIVER (R467). A frame for a host port is steered to a pool queue and written into its ring, or dropped. -/
  | hostRxDeliver (h : Half)
  /-- TOKEN_REFILL (R472). Every 1 µs each VI's token bucket gains TB_RATE / 8 octets up to TB_BURST. -/
  | tokenRefill
  /-- DWRR_ROUND (R471). A shared engine's round visits each VI with work and starts items within its deficit. -/
  | dwrrRound (e : Fin 6)
  /-- OUTBOUND_POSTED_WRITE (R497). A posted write to the bridge aperture is accepted and sent, or answered with RETRY or a bus error. -/
  | outboundPostedWrite (acc : Access) (mst : Fin 64) (off : BitVec 32) (octs : List Nat) (excl : Bool) (backlog : Fin 33)
  /-- DELAYED_TRANSACTION (R498). A read or non-posted write to the aperture is retried, allocated or collected as a delayed transaction. -/
  | delayedTransaction (acc : Access) (mst : Fin 64) (off : BitVec 32) (size : Fin 65) (data : Option (List Nat)) (excl : Bool)
  /-- FENCE_READ (R504). A read of SPAN.FENCE is answered once every earlier posted write has an ACK or failure record. -/
  | fenceRead (acc : Access) (mst : Fin 64)
  /-- SPAN_REQUEST_RX (R494). An inbound request at the head of its buffer is matched to an inbound window and performed or refused. -/
  | spanRequestRx (buf : Fin 6) (ok : Bool) (data : List Nat)
  /-- SPAN_CPL_RX (R501). A completion arrives at its delayed-transaction entry. -/
  | spanCplRx (h : Half) (tun : Bool)
  /-- SPAN_ACK_RX (R503). An ACK arrives for a posted write. -/
  | spanAckRx (h : Half) (tun : Bool)
  /-- SPAN_WFAIL_RX (R503). A WRITE_FAILED record is entered in the posted-write-failure log. -/
  | spanWfailRx (h : Half) (tun : Bool)
  /-- DT_DISCARD_TIMER (R499). An uncollected delayed-transaction result is freed at DISCARD_TIMER. -/
  | dtDiscardTimer
  /-- TUNNEL_TIMEOUT (R500). A tunnel request without a result within TUN_TIMEOUT ends with TIMEOUT. -/
  | tunnelTimeout
  /-- SPAN_LINK_DOWN (R505). The cross-half link goes down, ending outstanding requests and returning credits. -/
  | spanLinkDown
  /-- SPAN_FRAME_RX (R489). A Span frame at a host port goes to heartbeat logic, the bridge or is discarded. -/
  | spanFrameRx (h : Half)
  /-- PWF_POP (R510). A write of PWF_POP discards the oldest posted-write-failure log entry. -/
  | pwfPop (acc : Access) (v : Word)
  /-- MWORLD_WRITE (R513). A machine-mode write of mworld sets the world and VI of lower-mode execution. -/
  | mworldWrite (h : Half) (c : Fin 7) (machine : Bool) (v : Word)
  /-- SMR_WRITE (R515). A secure write of SMR_BASE or SMR_LIM changes a secure memory region. -/
  | smrWrite (acc : Access) (h : Half) (r : Fin 16) (lim : Bool) (v : Word)
  /-- SRCCFG_WRITE (R518). A write of a source's SRCCFG sets target, group and priority, subject to world and ACTIVE rules. -/
  | srccfgWrite (acc : Access) (h : Half) (n : Fin 1024) (v : Word)
  /-- IRQ_LINE_CHANGE (R517). A source line rising or falling makes a level source pending or not. -/
  | irqLineChange (h : Half) (n : Fin 1024)
  /-- CLAIM_READ (R520). A read of CLAIM_S or CLAIM_N claims the highest eligible source and makes it ACTIVE. -/
  | claimRead (acc : Access) (h : Half) (c : Fin 7) (sec : Bool)
  /-- COMPLETE_WRITE (R520). A write of a source number to CLAIM_S or CLAIM_N completes that source. -/
  | completeWrite (acc : Access) (h : Half) (c : Fin 7) (sec : Bool) (v : Word)
  /-- SGI_WRITE (R521). A write of SGI makes a software-generated source pending. -/
  | sgiWrite (acc : Access) (h : Half) (v : Word)
  /-- DBG_EN_WRITE (R527). A write of DBG_EN raises or lowers debug enables under their locks. -/
  | dbgEnWrite (acc : Access) (v : Word)
  /-- DBG_LOCK_WRITE (R527). A write of DBG_LOCK sets or clears debug enable locks. -/
  | dbgLockWrite (acc : Access) (v : Word)
  /-- HALT_REQUEST (R528). A debug halt request halts a hart at the first boundary in a world whose invasive enable is 1. -/
  | haltRequest (h : Half) (c : Fin 7) (sec : Bool)
  /-- BANK_EN_WRITE (R532). A write of BANK_EN starts and stops event counters. -/
  | bankEnWrite (acc : Access) (k : Fin 4) (v : Word)
  /-- CNT_HI_WRITE (R533). A write of CNT_HI loads the counter's high-word shadow. -/
  | cntHiWrite (acc : Access) (k : Fin 4) (i : Fin 32) (v : Word)
  /-- CNT_LO_WRITE (R533). A write of CNT_LO commits the shadow and CNT_LO together while the counter is stopped. -/
  | cntLoWrite (acc : Access) (k : Fin 4) (i : Fin 32) (v : Word)
  /-- COUNTER_OVERFLOW (R532). A count passing 2^48 − 1 wraps, sets OVF_STAT and feeds a CHAIN counter. -/
  | counterOverflow (k : Fin 4) (i : Fin 32)
  /-- TAMPER (R539). A vault tamper detector trips, zeroing the DRS and the key RAM and recording the source. -/
  | tamper (src : Fin 6)
  /-- PROVISION (R541). A write of VAULT.PROVISION fills a new DRS and invalidates every record, or is refused. -/
  | provision (acc : Access) (v : Word)
  /-- KS_WRITE (R547). KS_CMD WRITE fills a slot with the shadow key and attributes. -/
  | ksWrite (acc : Access) (slot : Fin 256) (parent : Fin 256) (record : Fin 1024)
  /-- KS_ERASE (R547). KS_CMD ERASE erases a slot and cascades to its descendants. -/
  | ksErase (acc : Access) (slot : Fin 256) (parent : Fin 256) (record : Fin 1024)
  /-- KS_DERIVE (R554). KS_CMD DERIVE fills a slot from a parent slot with the SP 800-108 KDF. -/
  | ksDerive (acc : Access) (slot : Fin 256) (parent : Fin 256) (record : Fin 1024)
  /-- KS_READ (R547). KS_CMD READ copies a slot's attributes and link into the read registers. -/
  | ksRead (acc : Access) (slot : Fin 256) (parent : Fin 256) (record : Fin 1024)
  /-- KS_ATTEST (R561). KS_CMD ATTEST computes the HMAC attestation response under a slot. -/
  | ksAttest (acc : Access) (slot : Fin 256) (parent : Fin 256) (record : Fin 1024)
  /-- KS_STORE_P (R558). KS_CMD STORE_P wraps a slot into the non-winning bank of a persistent record. -/
  | ksStoreP (acc : Access) (slot : Fin 256) (parent : Fin 256) (record : Fin 1024)
  /-- KS_LOAD_P (R559). KS_CMD LOAD_P unwraps the winning bank of a record into a slot. -/
  | ksLoadP (acc : Access) (slot : Fin 256) (parent : Fin 256) (record : Fin 1024)
  /-- KS_ERASE_P (R559). KS_CMD ERASE_P invalidates both banks of a persistent record. -/
  | ksEraseP (acc : Access) (slot : Fin 256) (parent : Fin 256) (record : Fin 1024)
  /-- KS_READ_P (R547). KS_CMD READ_P copies a record's winning attributes and generation. -/
  | ksReadP (acc : Access) (slot : Fin 256) (parent : Fin 256) (record : Fin 1024)
  /-- KS_DERIVE_ROOT (R555). KS_CMD DERIVE_ROOT fills a slot from the DRS for a world and VI. -/
  | ksDeriveRoot (acc : Access) (slot : Fin 256) (parent : Fin 256) (record : Fin 1024)
  /-- KS_CMD_RESERVED (R548). A KS_CMD with a reserved OP ends with BAD_OP. -/
  | ksCmdReserved (acc : Access) (op : Fin 6) (slot : Fin 256) (parent : Fin 256) (record : Fin 1024)
  /-- KS_CMD_END (R547). A slot command ends, records its RESULT, clears SH_KEY and raises KS_DONE. -/
  | ksCmdEnd
  /-- CSUBMIT (R568). A write of VIn.CSUBMIT submits a cipher descriptor, or the submission is dropped. -/
  | csubmit (acc : Access) (n : Fin 127) (v : Word)
  /-- CIPH_SUBMIT (R568). A write of CIPH.SUBMIT submits a descriptor for VI0. -/
  | ciphSubmit (acc : Access) (v : Word)
  /-- LANE_ACCEPT (R574). A lane checks an eligible descriptor and accepts it, referencing context and slot, or refuses it. -/
  | laneAccept (lane : Fin 4) (heads : List (Fin 128 × Option (List Word))) (iv : Option (List Nat)) (aad : Option (List Nat)) (tag : Option (List Nat)) (wbOk : Bool)
  /-- LANE_BLOCK (R550). A lane's output block is ready and written after its slot generation check. -/
  | laneBlock (lane : Fin 4) (inp : Option (List Nat)) (wrOk : Bool)
  /-- LANE_OP_END (R579). An operation ends, its write-back and completion record are written and references released. -/
  | laneOpEnd (lane : Fin 4) (wrOk : Bool) (wbOk : Bool)
  /-- SA_ENABLE (R583). A write of SA_CTRL enables a MACsec SA on its slot, or records the refusal. -/
  | saEnable (acc : Access) (p : Fin 6) (v : Word)
  /-- CIPHER_ALARM (R586). A TRNG, fault or tamper alarm zeroes every slot, disables every SA and holds the lanes. -/
  | cipherAlarm (cause : Fin 3)
  /-- ALARM_CLR (R586). A secure write of ALARM_CLR clears HOLD pending a successful start-up test. -/
  | alarmClr (acc : Access) (v : Word)
  /-- TRNG_STARTUP_DONE (R585). 1,024 passing start-up samples set TRNG_STAT.READY. -/
  | trngStartupDone
  /-- RAND_DATA_READ (R585). A secure read of RAND_DATA returns conditioned bits, or 0 with RAND_EMPTY before READY. -/
  | randDataRead (acc : Access)
  /-- SP_FRAME_RX (R594). A frame on the service port is accepted into the protocol request queue or discarded. -/
  | spFrameRx (octs : List Nat)
  /-- FABRIC_ISP_RX (R595). An Ifeanan frame arriving at a host port is taken by Shepherd. -/
  | fabricIspRx (h : Half)
  /-- HELLO (R601). HELLO allocates a session for a level and answers the device nonce and identity. -/
  | hello
  /-- AUTH (R601). AUTH checks the tool's proof and opens the session with the device proof, or counts a failure. -/
  | auth
  /-- CLOSE (R604). CLOSE ends the session. -/
  | close
  /-- PING (R605). PING returns the octets it carries. -/
  | ping
  /-- REG_READ (R605). REG_READ reads up to 64 registers side-band until a non-OK code. -/
  | regRead
  /-- REG_WRITE (R605). REG_WRITE writes up to 64 registers side-band until a non-OK code. -/
  | regWrite
  /-- DM_READ (R605). DM_READ reads a half's debug module register. -/
  | dmRead
  /-- DM_WRITE (R605). DM_WRITE writes a half's debug module register. -/
  | dmWrite
  /-- ISP_MSG_SEND (R628). The protocol's MSG_SEND sends a directory message from Shepherd. -/
  | ispMsgSend
  /-- MSG_POLL (R628). MSG_POLL returns Shepherd's oldest returned message and optionally pops it. -/
  | msgPoll
  /-- STAGE_OPEN (R612). STAGE_OPEN takes the staging lock and starts writing the target slot, or is refused. -/
  | stageOpen
  /-- STAGE_DATA (R613). STAGE_DATA programs octets at the next offset into both code stores. -/
  | stageData (ok : Bool)
  /-- STAGE_CLOSE (R613). STAGE_CLOSE starts the verification of the staged image. -/
  | stageClose
  /-- STAGE_VERIFY_DONE (R608). The staging verification ends, the slot becomes VERIFIED or INVALID and the lock is released. -/
  | stageVerifyDone (same : Bool)
  /-- STAGE_ABORT (R614). STAGE_ABORT releases the lock and invalidates the target. -/
  | stageAbort
  /-- STAGE_STATUS (R605). STAGE_STATUS returns the staging state, holder and next offset. -/
  | stageStatus
  /-- ARM_ACTIVATION (R617). ARM_ACTIVATION checks a signed Whistle body and starts the group broadcast, or is refused. -/
  | armActivation
  /-- DISARM (R617). DISARM checks a signed cancel body and broadcasts the cancel, or is refused. -/
  | disarm
  /-- ACT_STATUS (R605). ACT_STATUS returns the activation state, identifier, instant and acknowledgement counts. -/
  | actStatus
  /-- RECOVER (R624). RECOVER in DEAD restarts the boot slot, the other slot or a newly staged slot under TRIAL. -/
  | recover
  /-- AUTH_TIMEOUT (R601). A session without AUTH within 1 s of HELLO is dropped. -/
  | authTimeout (num : Nat)
  /-- AUTH_LOCK_EXPIRY (R601). 10 s after three failures the HELLO lockout ends. -/
  | authLockExpiry
  /-- SESSION_TIMEOUT (R604). A session with no executed request for 60 s ends. -/
  | sessionTimeout (num : Nat)
  /-- STAGE_LOCK_TIMEOUT (R614). 60 s without a staging command releases the lock and invalidates the target. -/
  | stageLockTimeout
  /-- WHISTLE_SEND (R617). The origin sends the Whistle body, five times 20 ms apart. -/
  | whistleSend
  /-- WHISTLE_RX (R618). A module receiving a new Whistle checks it, arms or cancels and sends a WHISTLE_ACK. -/
  | whistleRx
  /-- WHISTLE_ACK_RX (R618). The origin counts an acknowledgement for its last activation. -/
  | whistleAckRx
  /-- ACTIVATION_INSTANT (R620). TB0 reaching the armed instant switches BOOT_SLOT and requests SRST, or records a miss. -/
  | activationInstant
  /-- BOOT_VERIFY (R608). At POR or SRST Shepherd verifies the boot slot, writes the digest and releases the halves or enters DEAD. -/
  | bootVerify (head : List Nat) (digest : List Nat) (same : Bool)
  /-- HEALTH_OK (R621). A write of HEALTH_OK sets the half's bit, committing the trial when both are set. -/
  | healthOk (acc : Access) (v : Word)
  /-- HEALTH_WINDOW_EXPIRY (R622). A health window closing without both bits puts the device in DEAD. -/
  | healthWindowExpiry
  /-- SHEP_RESTART (R604). Shepherd's watchdog restarts its core, ending every session. -/
  | shepRestart
  /-- MIN_VERSION_WRITE (R609). A write of MIN_VERSION raises it, or is ignored when lower. -/
  | minVersionWrite (acc : Access) (v : Word)
  /-- ACT_GROUP_WRITE (R615). A write of ACT_GROUP sets a group membership, ignored while an activation is armed. -/
  | actGroupWrite (acc : Access) (k : Fin 8) (v : Word)
  /-- DOZE_ENTRY_COMPLETE (R303). Once the application clusters' outstanding bus transactions complete, their clocks stop, DRAM enters self-refresh, DEV_STATE reads DOZE and any exit condition that arose during entry is honoured. -/
  | dozeEntryComplete
  /-- MAC_MERGE_VERIFICATION (R383). The MAC merge verification of a preemption port sends verify mPackets and, on a response or on expiry of verifyTime after 3 attempts, sets PORT_EQ_STAT.VERIFY to succeeded or failed. -/
  | macMergeVerification (p : Fin 14) (ok : Bool)
  /-- CELL_MEASUREMENT (R564). Every hour the vault measures the backup cell, updating VAULT.CELL_MV and CELL_LOW. -/
  | cellMeasurement (mv : Fin 65536)
  /-- SUPPLY_MV_SAMPLE (R326). Every 100 µs the logic supply voltage is sampled into PWR.SUPPLY_MV. -/
  | supplyMvSample (mv : Nat)
  deriving DecidableEq, Repr

end Sys2Proof
end

