-- ==== Sys2Proof/Decode.lean ====
section
/-! DEFINITION. Words that spell a command by the table's bits. The table of operations and events gives no row any
bits, so no word spells a command. -/

namespace Sys2Proof

/-- The command a word spells by the bits of the table: none, since no row gives bits. -/
def decodeTableWord (_nbits _w : Nat) : Option Instr := none

end Sys2Proof
end

