-- ==== Sys2Proof/Config.lean ====
section
/-! DEFINITION. What the spec leaves open: free values, and the functions of published standards the spec names
without restating them. None has a body: nothing can be proved of the value of any of them. -/

namespace Sys2Proof.Config

/-- A free number: the value the spec leaves open, the n-th time one is needed in a run (log entry 3). -/
opaque freeNat : Nat → Nat

/-- A free number that is a function of its operands: a `tag` naming the open point and the operands it may depend
on (log entry 3). -/
opaque freeOf : (tag : Nat) → List Nat → Nat

/-- Where an address of a half's memory map lies in its code store, none where it does not: the spec places the store at no
address (log entry 82). -/
opaque codeAt : (addr : Nat) → Option Nat

/-- AES-128/256 block encryption, NIST FIPS 197, under a key, as octet lists (log entry 4). -/
opaque aesEncrypt : (key block : List Nat) → List Nat

/-- AES-CMAC, NIST SP 800-38B (log entry 4). -/
opaque aesCmac : (key msg : List Nat) → List Nat

/-- HMAC-SHA-256 and HMAC-SHA-384, FIPS 198-1 (log entry 4). -/
opaque hmac : (bits : Nat) → (key msg : List Nat) → List Nat

/-- SHA-2 digest of the stated width, FIPS 180-4 (log entry 4). -/
opaque sha : (bits : Nat) → (msg : List Nat) → List Nat

/-- ECDSA signature verification, FIPS 186-5 curve P-384 (log entry 4). -/
opaque ecdsaVerify : (key : List Nat) → (digest : List Nat) → (sig : List Nat) → Bool

/-- AES key wrap with padding, RFC 5649 / RFC 3394 wrapping (log entry 4). -/
opaque keyWrap : (key plain : List Nat) → List Nat

/-- The inverse of `keyWrap`: the plain octets, or none where the integrity check fails (log entry 4). -/
opaque keyUnwrap : (key wrapped : List Nat) → Option (List Nat)

/-- Authenticated encryption or plain cipher transform of a cipher-engine operation: algorithm code, direction, key,
IV, associated data, data. Answers the output octets and the tag (log entry 4). -/
opaque cipher : (alg dir : Nat) → (key iv aad data : List Nat) → List Nat × List Nat

/-- The 40 octets a session context's running state is kept in, whose layout the spec does not state (log entry 4). -/
opaque packCtx : List Nat → List Nat

/-- A session context's running state from its 40 octets (log entry 4). -/
opaque unpackCtx : List Nat → List Nat

end Sys2Proof.Config
end

