-- ==== Sys2Proof/Machine/Bits.lean ====
section
/-! DEFINITION. Bit fields of a word, signed readings of a field, rounding and limiting: the plain arithmetic the
meanings share. -/

namespace Sys2Proof.Machine

/-- The field of `n` bits from bit `lo` up, as a number. -/
def bitsOf (w : Word) (lo n : Nat) : Nat := w.toNat / 2 ^ lo % 2 ^ n

/-- The word with the field of `n` bits from bit `lo` up replaced by `v` (modulo 2^n). -/
def setBits (w : Word) (lo n v : Nat) : Word :=
  BitVec.ofNat 32 (w.toNat % 2 ^ lo + v % 2 ^ n * 2 ^ lo + w.toNat / 2 ^ (lo + n) * 2 ^ (lo + n))

/-- Bit `i` of a word. -/
def bitOf (w : Word) (i : Nat) : Bool := bitsOf w i 1 == 1

/-- 1 for true, 0 for false. -/
def b2n (b : Bool) : Nat := if b then 1 else 0

/-- The word with bit `i` set to `b`. -/
def setBit (w : Word) (i : Nat) (b : Bool) : Word := setBits w i 1 (b2n b)

/-- Two's-complement reading of an `n`-bit number. -/
def signedOf (n v : Nat) : Int := if v % 2 ^ n < 2 ^ (n - 1) then (v % 2 ^ n : Nat) else (v % 2 ^ n : Nat) - (2 ^ n : Nat)

/-- Two's-complement `n`-bit encoding of an integer. -/
def unsignedOf (n : Nat) (i : Int) : Nat := (i % (2 ^ n : Nat)).toNat

/-- A word from a number, modulo 2^32. -/
def word (n : Nat) : Word := BitVec.ofNat 32 n

/-- A number limited to the range from `lo` to `hi`. -/
def limit (lo hi v : Nat) : Nat := if v < lo then lo else if hi < v then hi else v

/-- An integer limited to the range from `lo` to `hi`. -/
def limitI (lo hi v : Int) : Int := if v < lo then lo else if hi < v then hi else v

/-- Quotient rounded to the nearest integer, halves away from zero. -/
def roundDiv (a : Int) (b : Nat) : Int :=
  if 0 ≤ a then (2 * a + b) / (2 * b) else -((2 * (-a) + b) / (2 * b))

/-- Truncating quotient (toward zero). -/
def truncDiv (a : Int) (b : Nat) : Int := if 0 ≤ a then a / b else -((-a) / b)

/-- A natural number with bit `i` set to `b`. -/
def setNatBit (x i : Nat) (b : Bool) : Nat :=
  if x.testBit i == b then x else if b then x + 2 ^ i else x - 2 ^ i

end Sys2Proof.Machine
end

