-- ==== Sys2Proof/Machine/RegMap.lean ====
section
/-! DEFINITION. The register map: for every kind of page of R17 its registers (offset, count, stride, reset value,
survival class, access code, writable bits), as the register tables of the spec's chapters give them, the offsets
by name, and the map from an address to its page. What a key of the register file reads when it is not listed is
`regReset`. -/

namespace Sys2Proof.Machine

/-- Survival classes of R13; `const` is a constant fixed in silicon (R14). -/
inductive Cls | p | v | t | a | s | h | x | const
  deriving DecidableEq, Repr

/-- Access codes of R10. A register with fields of several codes carries the code of its writable fields. -/
inductive AccCode | rw | ro | wo | w1c | w1s | rc | rwp | rwl | rwt
  deriving DecidableEq, Repr

/-- One row of a register table: `cnt` registers of one layout, `stride` bytes apart. `mask` holds the bits a write
reaches: the bits stored for RW, RWP, RWL and RWT, the bits cleared by writing 1 for W1C, set by writing 1 for W1S. -/
structure RegRow where
  off : Nat
  acc : AccCode
  reset : Nat
  cls : Cls
  mask : Nat := 0
  cnt : Nat := 1
  stride : Nat := 4
  deriving DecidableEq, Repr

/-- The kinds of register page (R17 and the layout tables of the chapters). `absent` is the page of a unit the member
lacks (R4). -/
inductive PageKind
  | sys | dir | dirtab | msg | tb | clk | tbcor | tbcap | hrn | dom | evt | tpo | tile | chan | sadc | cg | half | local | pwr | pdc | safe | lsp | sw | frsv | eq | fwd | sflt | mcg | mir | fetch | port | sport | fbio | can | lin | di | ai | enc | ls | lh | vi0 | vi | span | spow | spiw | intc | intcSrc | intcHart | intcPend | ec | ciph | lane | trng | ctxp | msec | keys | vault | shep | absent
  deriving DecidableEq, Repr

namespace Reg.Hdr
def UNIT_ID : Nat := 0x0
def UNIT_PARAM : Nat := 0x4
def UNIT_CTRL : Nat := 0x8
def UNIT_STAT : Nat := 0xC
def IRQ_RAW : Nat := 0x10
def IRQ_EN : Nat := 0x14
def IRQ_CLR : Nat := 0x18
def IRQ_FORCE : Nat := 0x1C
def OWNER : Nat := 0x20
def LOCK : Nat := 0x24
def ROLE_GEN : Nat := 0x28
def WEAR : Nat := 0x2C
end Reg.Hdr

namespace Reg.Sys
def DEV_ID : Nat := 0x40
def DEV_PARAM : Nat := 0x44
def ACC_VIOL_ADDR : Nat := 0x48
def ACC_VIOL_CNT : Nat := 0x4C
def STBY_DISCARD : Nat := 0x50
def SB_REFUSE_CNT : Nat := 0x54
def I_SUM : Nat := 0x58
def DBG_EN : Nat := 0x60
def DBG_LOCK : Nat := 0x64
end Reg.Sys

namespace Reg.Dir
def SELF_UNIT : Nat := 0x40
def DIR_CTRL : Nat := 0x44
def MAC_BASE_LO : Nat := 0x48
def MAC_BASE_HI : Nat := 0x4C
def MISROLE_CNT : Nat := 0x50
def NO_UNIT_CNT : Nat := 0x54
def NO_ROUTE_CNT : Nat := 0x58
def LOST_CNT : Nat := 0x5C
end Reg.Dir

namespace Reg.Dirtab
def DIRENT : Nat := 0x0
end Reg.Dirtab

namespace Reg.Msg
def MSG_TX : Nat := 0x40
def MSG_SEND : Nat := 0x60
def MSG_TX_STAT : Nat := 0x64
def MRQ_HEAD : Nat := 0x80
def MRQ_POP : Nat := 0xA0
def MRQ_COUNT : Nat := 0xA4
end Reg.Msg

namespace Reg.Tb
def TB_STAT : Nat := 0x40
def ONE_STEP_SKIP : Nat := 0x44
def SNAP : Nat := 0x48
def SNAP_STAT : Nat := 0x4C
def SNAP0 : Nat := 0x50
def SNAP1 : Nat := 0x60
def SNAPF : Nat := 0x70
end Reg.Tb

namespace Reg.Clk
def INC_LO : Nat := 0x40
def INC_HI : Nat := 0x44
def SLEW_AMT : Nat := 0x48
def SLEW_STEP : Nat := 0x4C
def SLEW_CTRL : Nat := 0x50
def SLEW_REMAIN : Nat := 0x54
def OFS_SEC_LO : Nat := 0x58
def OFS_SEC_HI : Nat := 0x5C
def OFS_NS : Nat := 0x60
def OFS_FRAC : Nat := 0x64
def OFS_CTRL : Nat := 0x68
def ADJ_STAT : Nat := 0x6C
def DOMAIN_CFG : Nat := 0x70
def ONE_STEP_MASK : Nat := 0x74
end Reg.Clk

namespace Reg.Tbcor
def ING_S0 : Nat := 0x100
def EGR_S0 : Nat := 0x104
def ING_S1 : Nat := 0x108
def EGR_S1 : Nat := 0x10C
def ING_S2 : Nat := 0x110
def EGR_S2 : Nat := 0x114
def COR_STAT : Nat := 0x118
end Reg.Tbcor

namespace Reg.Tbcap
def CAP_TS_LO : Nat := 0x40
def CAP_TS_HI : Nat := 0x44
def CAP_INFO : Nat := 0x48
def CAP_POP : Nat := 0x4C
def CAP_COUNT : Nat := 0x50
def CAP_LOST : Nat := 0x54
end Reg.Tbcap

namespace Reg.Hrn
def LATE_CNT : Nat := 0x40
def SKIP_CNT : Nat := 0x44
def SLIP_CNT : Nat := 0x48
def STAY_EDGES : Nat := 0x4C
def COMMIT_REFUSED : Nat := 0x50
def OWNER_FAIL : Nat := 0x54
def LAST_LATE : Nat := 0x58
def LAST_REFUSED : Nat := 0x5C
def EVIRQ_RAW : Nat := 0x60
def EVIRQ_EN : Nat := 0x64
def LEVEL : Nat := 0x80
def LINE_SET : Nat := 0xA0
def LINE_CLR : Nat := 0xB0
def GATE_STATE : Nat := 0xC0
def LCOMP : Nat := 0x100
end Reg.Hrn

namespace Reg.Dom
def SRC_CFG : Nat := 0x40
def TIME_PERIOD_NS : Nat := 0x44
def TIME_PERIOD_FRAC : Nat := 0x48
def TIME_EPOCH_SEC_LO : Nat := 0x4C
def TIME_EPOCH_SEC_HI : Nat := 0x50
def TIME_EPOCH_NS : Nat := 0x54
def TRACK_PPM : Nat := 0x58
def ANG_CFG : Nat := 0x60
def ANG_EPC : Nat := 0x64
def HALL_SEQ : Nat := 0x68
def HALL_ANG : Nat := 0x6C
def INIT_PHASE : Nat := 0x84
def INDEX_PHASE : Nat := 0x88
def LINE_CFG : Nat := 0x90
def LINE_FRAME_NS : Nat := 0x94
def LINE_FRAME_FRAC : Nat := 0x98
def LINE_LINES : Nat := 0x9C
def LINE_PERIOD_NS : Nat := 0xA0
def LINE_PERIOD_FRAC : Nat := 0xA4
def LINE_MSG_SEC : Nat := 0xA8
def LINE_MSG_NS : Nat := 0xAC
def LINE_MSG_GO : Nat := 0xB0
def CHILD_CFG : Nat := 0xB4
def CHILD_NUM : Nat := 0xB8
def CHILD_DEN : Nat := 0xBC
def CHILD_OFS : Nat := 0xC0
def STALL_TIMEOUT : Nat := 0xC4
def PHASE : Nat := 0xD0
def CYCLE : Nat := 0xD4
def RATE_LO : Nat := 0xD8
def RATE_HI : Nat := 0xDC
def DOM_TS_LO : Nat := 0xE0
def DOM_TS_HI : Nat := 0xE4
def DOM_STAT : Nat := 0xE8
def STALL_CNT : Nat := 0xEC
def EDGE_ERR_CNT : Nat := 0xF0
end Reg.Dom

namespace Reg.Evt
def LATE_FLAG : Nat := 0x40
def STALL_FLAG : Nat := 0x50
def PLACED : Nat := 0x60
def SHADOW_STAT : Nat := 0x70
def ENTRY : Nat := 0x800
end Reg.Evt

namespace Reg.Tpo
def TO_CTRL : Nat := 0x100
def TO_WIDTH : Nat := 0x104
def TO_PERIOD : Nat := 0x108
def TO_STAT : Nat := 0x10C
def SLOT0_SEC : Nat := 0x110
def SLOT0_NS : Nat := 0x114
def SLOT1_SEC : Nat := 0x118
def SLOT1_NS : Nat := 0x11C
def SLOT2_SEC : Nat := 0x120
def SLOT2_NS : Nat := 0x124
def SLOT3_SEC : Nat := 0x128
def SLOT3_NS : Nat := 0x12C
def GCFG : Nat := 0x300
end Reg.Tpo

namespace Reg.Tile
def I_SUM : Nat := 0x40
def LEASH_STAT : Nat := 0x44
def LEASH_CTRL : Nat := 0x48
def STAY_TIME : Nat := 0x4C
def STAY_TIME_ACT : Nat := 0x50
def TILE_STAT : Nat := 0x54
def TCL_ERR : Nat := 0x58
def NACK_CNT : Nat := 0x5C
def LAST_NACK : Nat := 0x60
def TRST_REQ : Nat := 0x64
def LH_STATE : Nat := 0x68
def SUPPLY_I : Nat := 0x6C
def IO_STATE : Nat := 0x70
def FAULT_STAT : Nat := 0x80
def LATCH_SUM : Nat := 0x84
def VFEED : Nat := 0xA0
def TTILE : Nat := 0xA4
def SUPPLY_I_CV : Nat := 0xA8
end Reg.Tile

namespace Reg.Chan
def I_SUM : Nat := 0x40
def CH_CFG : Nat := 0x44
def CH_POL : Nat := 0x48
def CH_POL_ACT : Nat := 0x4C
def CH_STAT : Nat := 0x50
def CLAMP_CNT : Nat := 0x54
def OC_CFG : Nat := 0x80
def RETRY_CFG : Nat := 0x84
def TH_CFG : Nat := 0x88
def DIAG_CFG : Nat := 0x8C
def FLT_MASK : Nat := 0x90
def PROT_CLR : Nat := 0x94
def PROT_STAT : Nat := 0x98
def DIAG_HIST : Nat := 0x9C
def TRIP_CNT : Nat := 0xA0
def RESTART_CNT : Nat := 0xA4
def MEAS_CFG : Nat := 0xC0
def MEAS_RAW : Nat := 0xC4
def MEAS_TS_LO : Nat := 0xC8
def MEAS_TS_HI : Nat := 0xCC
def MEAS_TAG : Nat := 0xD0
def TJ : Nat := 0xD4
def VOUT : Nat := 0xD8
def WIRE_R : Nat := 0xDC
def CAL_FINE : Nat := 0xE0
def CAL_COARSE : Nat := 0xE4
def CAL_TC : Nat := 0xE8
def CLIP_CNT : Nat := 0xEC
def GROUP : Nat := 0xF0
end Reg.Chan

namespace Reg.Sadc
def SADC_CFG : Nat := 0x40
def SADC_STAT : Nat := 0x44
def CONV_CNT : Nat := 0x48
def SW_CONV : Nat := 0x4C
def CAP_CTRL : Nat := 0x50
def CAP_STAT : Nat := 0x54
def CAP_TS_LO : Nat := 0x58
def CAP_TS_HI : Nat := 0x5C
def CAP_PTR : Nat := 0x60
def CAP_DATA : Nat := 0x64
def SIG_PEAK : Nat := 0x68
def SIG_END : Nat := 0x6C
def SIG_HINT : Nat := 0x70
def SELF_ZERO : Nat := 0x74
def SELF_REF : Nat := 0x78
def FMON_A : Nat := 0x100
def FMON_B : Nat := 0x104
def FMON_A_MIN : Nat := 0x108
def FMON_A_MAX : Nat := 0x10C
def FMON_B_MIN : Nat := 0x110
def FMON_B_MAX : Nat := 0x114
def FMON_CLR : Nat := 0x118
def FMON_UV : Nat := 0x11C
end Reg.Sadc

namespace Reg.Cg
def I_SUM : Nat := 0x40
def MEMB_CTRL : Nat := 0x44
def MEMB_STAT : Nat := 0x48
def PARENT : Nat := 0x4C
def CH_MEMB : Nat := 0x50
def GRP_MEMB : Nat := 0x60
def ISUM_LIM : Nat := 0x68
def I_SPAN : Nat := 0x6C
end Reg.Cg

namespace Reg.Half
def ROLE_STAT : Nat := 0x40
def FO_CFG : Nat := 0x44
def ROLE_CTRL : Nat := 0x48
def TAKEOVER_CNT : Nat := 0x4C
def LAST_TAKEOVER_TS_LO : Nat := 0x50
def LAST_TAKEOVER_TS_HI : Nat := 0x54
def CLAIM_RESULT : Nat := 0x58
def PATH_FAULT_CNT : Nat := 0x5C
def BARK_ERR_CNT : Nat := 0x60
def CMP_MISMATCH_CNT : Nat := 0x64
def CMP_LATE_CNT : Nat := 0x68
def INPUT_LOST_CNT : Nat := 0x6C
def HOST_TX_DISCARD : Nat := 0x70
def BARK_AGE : Nat := 0x74
def SMR_BASE : Nat := 0x100
def SMR_LIM : Nat := 0x104
end Reg.Half

namespace Reg.Local
def RING_BASE : Nat := 0x40
def RING_CFG : Nat := 0x44
def RING_WR : Nat := 0x48
def RING_RD : Nat := 0x4C
def DIST_SEL : Nat := 0x50
def INSEQ_LO : Nat := 0x54
def INSEQ_HI : Nat := 0x58
def FIRST_SEQ_LO : Nat := 0x5C
def FIRST_SEQ_HI : Nat := 0x60
def BARK_FEED : Nat := 0x64
def CMP_EPOCH : Nat := 0x68
def CMP_BASE : Nat := 0x6C
def CMP_STAT : Nat := 0x70
def CMP_LAST_EPOCH : Nat := 0x74
def CMP_DIGEST : Nat := 0x78
def CMP_PEER_DIGEST : Nat := 0x7C
def CMP_WRITES : Nat := 0x80
def CMP_LAG : Nat := 0x84
end Reg.Local

namespace Reg.Pwr
def DEV_STATE : Nat := 0x40
def STATE_REQ : Nat := 0x44
def RST_REQ : Nat := 0x48
def RST_CAUSE : Nat := 0x4C
def WAKE_EN_DI : Nat := 0x50
def WAKE_EN_ETH : Nat := 0x5C
def WAKE_EN_MISC : Nat := 0x60
def ALARM_LO : Nat := 0x64
def ALARM_HI : Nat := 0x68
def WAKE_CAUSE : Nat := 0x6C
def PARK_STAT : Nat := 0x70
def P_WORN_CNT : Nat := 0x74
def SUPPLY_MV : Nat := 0x78
def LIFE_OP_H : Nat := 0x80
def LIFE_PARK_H : Nat := 0x84
def LIFE_CYCLES : Nat := 0x88
def POR_CNT : Nat := 0x8C
def BOOT_CNT : Nat := 0x90
def USER_P : Nat := 0x100
end Reg.Pwr

namespace Reg.Pdc
def PD_CTRL : Nat := 0x40
def CKG_CTRL : Nat := 0x80
def PD_PENDING : Nat := 0xA0
end Reg.Pdc

namespace Reg.Safe
def ERR_STAT0 : Nat := 0x40
def ERR_STAT1 : Nat := 0x44
def FIRST_ERR : Nat := 0x48
def FIRST_INFO : Nat := 0x4C
def FIRST_TS_LO : Nat := 0x50
def FIRST_TS_HI : Nat := 0x54
def LAST_ERR : Nat := 0x58
def LAST_INFO : Nat := 0x5C
def ERR_CNT : Nat := 0x60
def REACT0 : Nat := 0x64
def REACT1 : Nat := 0x68
def REACT2 : Nat := 0x6C
def REACT3 : Nat := 0x70
def REACT4 : Nat := 0x74
def REACT5 : Nat := 0x78
def CE_CFG : Nat := 0x7C
def PATH_PERSIST : Nat := 0x80
def INJECT : Nat := 0x84
end Reg.Safe

namespace Reg.Lsp
def LS_CFG : Nat := 0x40
def SCRUB_GO : Nat := 0x44
def LS_STAT : Nat := 0x48
def SCRUB_DIGEST : Nat := 0x4C
def SCRUB_CNT : Nat := 0x50
def DIV_INFO : Nat := 0x54
def INJECT : Nat := 0x58
def INJECT_STAT : Nat := 0x5C
def CE_CNT : Nat := 0x60
end Reg.Lsp

namespace Reg.Sw
def FAB_CYCLE : Nat := 0x40
def BUF_FREE : Nat := 0x44
def BUF_MIN : Nat := 0x48
def GLOB_HEADROOM : Nat := 0x4C
def SCHED_RSV : Nat := 0x50
def GLOB_DROP : Nat := 0x54
def TRUNC_DROP : Nat := 0x58
def CT_ABORT : Nat := 0x5C
def CT_CFG : Nat := 0x60
def HOST_DESC_ERR : Nat := 0x64
end Reg.Sw

namespace Reg.Frsv
def RSV_CTRL : Nat := 0x40
def RSV_STAT : Nat := 0x44
def RSV_DEFER : Nat := 0x48
def LSTORE_FULL_CNT : Nat := 0x4C
def SHADOW : Nat := 0x100
def ACTIVE : Nat := 0x500
end Reg.Frsv

namespace Reg.Eq
def PORT_EQ_CFG : Nat := 0x40
def PORT_EQ_STAT : Nat := 0x44
def GATE_OVERRUN : Nat := 0x48
def CT_UNDERRUN : Nat := 0x4C
def PREEMPT_CNT : Nat := 0x50
def QCFG : Nat := 0x100
def QLIM : Nat := 0x104
def CBS_IDLE : Nat := 0x108
def LATE_TOL : Nat := 0x10C
def MAXLEN : Nat := 0x110
def Q_OCC : Nat := 0x114
def Q_FRAMES : Nat := 0x118
def CBS_CREDIT : Nat := 0x11C
def ENQ_CNT : Nat := 0x120
def TX_CNT : Nat := 0x124
def TAIL_DROP : Nat := 0x128
def LATE_DROP : Nat := 0x12C
def LATE_SENT : Nat := 0x130
def LT_IGNORED : Nat := 0x134
def GUARD_HOLD : Nat := 0x138
end Reg.Eq

namespace Reg.Fwd
def FDB_SH : Nat := 0x40
def FDB_CMT : Nat := 0x50
def FDB_CMT_STAT : Nat := 0x54
def FDB_RD : Nat := 0x58
def LEARN_CFG : Nat := 0x68
def FDB_USED : Nat := 0x6C
def HOST_CFG : Nat := 0x70
def LOOKUP_CNT : Nat := 0x74
def MISS_CNT : Nat := 0x78
def MISS_DROP : Nat := 0x7C
def LL_CNT : Nat := 0x80
def LEARN_ADD : Nat := 0x84
def LEARN_FULL : Nat := 0x88
def LEARN_MOVE : Nat := 0x8C
def FILTER_DROP : Nat := 0x90
def IN_CFG : Nat := 0x100
def MISS_MASK : Nat := 0x180
end Reg.Fwd

namespace Reg.Sflt
def SF_SH : Nat := 0x40
def SF_CMT : Nat := 0x60
def SF_CMT_STAT : Nat := 0x64
def SF_RD : Nat := 0x68
def SF_RD_MATCH : Nat := 0x88
def SF_RD_SDU : Nat := 0x8C
def SF_RD_METER : Nat := 0x90
def SF_USED : Nat := 0x94
def SDU_DROP_TOTAL : Nat := 0x98
def METER_DROP_TOTAL : Nat := 0x9C
end Reg.Sflt

namespace Reg.Mcg
def MG_SH : Nat := 0x40
def MG_CMT : Nat := 0x48
def MG_CMT_STAT : Nat := 0x4C
def MG_RD : Nat := 0x50
def MC_NONE : Nat := 0x58
def RESIDUE_WAIT : Nat := 0x5C
def RESIDUE_ADMIT : Nat := 0x60
def MC_PARTIAL : Nat := 0x100
def MC_RESIDUE_DROP : Nat := 0x180
end Reg.Mcg

namespace Reg.Mir
def MIR_CFG : Nat := 0x100
def MIR_IN_MASK : Nat := 0x104
def MIR_EG_MASK : Nat := 0x108
def MIR_COPIES : Nat := 0x10C
def MIR_DROP : Nat := 0x110
end Reg.Mir

namespace Reg.Fetch
def FETCH_CFG : Nat := 0x100
def FETCH_CNT : Nat := 0x104
def SAMPLES : Nat := 0x108
def SAMPLE_DROP : Nat := 0x10C
end Reg.Fetch

namespace Reg.Port
def PORT_CFG : Nat := 0x40
def PORT_STAT : Nat := 0x44
def MAC_CFG : Nat := 0x48
def LP_PAGE_LO : Nat := 0x4C
def LP_PAGE_HI : Nat := 0x50
def LINK_DOWN_CNT : Nat := 0x54
def RX_GOOD : Nat := 0x58
def RX_BAD : Nat := 0x5C
def TX_GOOD : Nat := 0x60
def TX_ABORT : Nat := 0x64
def AN_FAIL_CNT : Nat := 0x68
def PLCA_CFG : Nat := 0x70
def PLCA_TIMERS : Nat := 0x74
def PLCA_OBS : Nat := 0x78
def PLCA_STAT : Nat := 0x7C
def PLCA_ACTIVE : Nat := 0x80
def COLL_CNT : Nat := 0x84
def EXC_COLL_DROP : Nat := 0x88
def NC_MISMATCH_CNT : Nat := 0x8C
def TDR_CTRL : Nat := 0xA0
def TDR_STAT : Nat := 0xA4
def TDR_REFL : Nat := 0xA8
end Reg.Port

namespace Reg.Sport
def SP_CFG : Nat := 0x40
def SP_STAT : Nat := 0x44
def SP_MAC_LO : Nat := 0x48
def SP_MAC_HI : Nat := 0x4C
def ISP_RX : Nat := 0x50
def ISP_DROP : Nat := 0x54
end Reg.Sport

namespace Reg.Fbio
def GW_CFG : Nat := 0x40
def GW_AGG_TIME : Nat := 0x44
def GW_DST_LO : Nat := 0x48
def GW_DST_HI : Nat := 0x4C
def GW_SRC_LO : Nat := 0x50
def GW_SRC_HI : Nat := 0x54
def GW_VLAN : Nat := 0x58
def GW_STREAM_LO : Nat := 0x5C
def GW_STREAM_HI : Nat := 0x60
def GW_RX_DROP : Nat := 0x64
def GW_RX_MSGS : Nat := 0x68
def GW_TX_MSGS : Nat := 0x6C
end Reg.Fbio

namespace Reg.Can
def CAN_CFG : Nat := 0x40
def NBT : Nat := 0x44
def DBT : Nat := 0x48
def XBT : Nat := 0x4C
def CAN_STAT : Nat := 0x50
def RX_CNT : Nat := 0x54
def RX_FILTERED : Nat := 0x58
def TX_CNT : Nat := 0x5C
def TX_DROP : Nat := 0x60
def ERR_CNT : Nat := 0x64
def BUSOFF_CNT : Nat := 0x68
def WUF_ID : Nat := 0x70
def WUF_MASK : Nat := 0x74
def WUF_CFG : Nat := 0x78
def WUF_DATA : Nat := 0x7C
def FLT_ID : Nat := 0x100
def FLT_MASK : Nat := 0x104
end Reg.Can

namespace Reg.Lin
def LIN_CFG : Nat := 0x40
def NO_RESP_CNT : Nat := 0x44
def CKSUM_ERR_CNT : Nat := 0x48
def BIT_ERR_CNT : Nat := 0x4C
def LAST_NO_RESP : Nat := 0x50
def NO_RESP_MAP : Nat := 0x54
def PUB_MAP : Nat := 0x5C
end Reg.Lin

namespace Reg.Di
def DI_LEVEL : Nat := 0x40
def DI_CHG : Nat := 0x4C
def DI_CFG : Nat := 0x100
end Reg.Di

namespace Reg.Ai
def AI_SCAN_EN : Nat := 0x40
def AI_SCAN_INT : Nat := 0x48
def AI_SW_CONV : Nat := 0x4C
def AI_LOWR : Nat := 0x50
def AI_DATA : Nat := 0x100
end Reg.Ai

namespace Reg.Enc
def ENC_LEVEL : Nat := 0x40
def ENC_CFG : Nat := 0x100
def ENC_CNT : Nat := 0x140
end Reg.Enc

namespace Reg.Ls
def LS_LEVEL : Nat := 0x40
def LS_CFG : Nat := 0x100
def LS_TS_LO : Nat := 0x120
def LS_TS_HI : Nat := 0x124
def LS_PERIOD : Nat := 0x140
end Reg.Ls

namespace Reg.Lh
def LH_LEVEL : Nat := 0x40
def LH_DIFF : Nat := 0x44
end Reg.Lh

namespace Reg.Vi0
def VI_CMD : Nat := 0x40
def VI_CMD_STAT : Nat := 0x44
def IMG_ADDR_LO : Nat := 0x48
def IMG_ADDR_HI : Nat := 0x4C
def ASSIGN_STAT : Nat := 0x50
def STEER_SEL : Nat := 0x54
def STEER_DATA : Nat := 0x58
def RX_NOQ : Nat := 0x5C
def CLASS_RXQ : Nat := 0x60
def CTX_VI : Nat := 0x100
def QASSIGN : Nat := 0x200
def SHARE_W : Nat := 0x400
def SHARE_RATE : Nat := 0x404
def SHARE_BURST : Nat := 0x408
def SHARE_LEVEL : Nat := 0x40C
end Reg.Vi0

namespace Reg.Vi
def VI_STAT : Nat := 0x40
def SUPPRESSED_CNT : Nat := 0x44
def QUIESCE_DROP : Nat := 0x48
def BUS_REFUSED : Nat := 0x4C
def VRST_FLUSH : Nat := 0x50
def Q_SEL : Nat := 0x60
def Q_CFG : Nat := 0x64
def Q_RING_LO : Nat := 0x68
def Q_RING_HI : Nat := 0x6C
def Q_WR : Nat := 0x70
def Q_RD : Nat := 0x74
def Q_DROP : Nat := 0x78
def DOORBELL : Nat := 0x7C
def Q_PEND : Nat := 0x80
def Q_IEN : Nat := 0x88
def CSUBMIT : Nat := 0x100
def CS_OUT : Nat := 0x104
end Reg.Vi

namespace Reg.Span
def SPAN_CTRL : Nat := 0x40
def SPAN_STAT : Nat := 0x44
def DR_CFG : Nat := 0x48
def FENCE : Nat := 0x50
def PWF_HEAD : Nat := 0x54
def PWF_POP : Nat := 0x60
def PWF_COUNT : Nat := 0x64
def PWF_LOST : Nat := 0x68
def DR_DISCARD_CNT : Nat := 0x6C
def DR_FULL_CNT : Nat := 0x70
def ERR_CNT : Nat := 0x74
def LAST_ERR : Nat := 0x78
def LAST_ERR_ADDR_LO : Nat := 0x7C
def LAST_ERR_ADDR_HI : Nat := 0x80
def STBY_DROP : Nat := 0x84
def IN_REFUSED : Nat := 0x88
def TUN_RX_DROP : Nat := 0x8C
def LINK_DOWN_CNT : Nat := 0x90
end Reg.Span

namespace Reg.Spow
def OW0 : Nat := 0x100
def OW1 : Nat := 0x104
def OW2 : Nat := 0x108
def OW3 : Nat := 0x10C
end Reg.Spow

namespace Reg.Spiw
def IW0 : Nat := 0x100
def IW1 : Nat := 0x104
def IW2 : Nat := 0x108
def IW3 : Nat := 0x10C
def IW4 : Nat := 0x110
def IW5 : Nat := 0x114
end Reg.Spiw

namespace Reg.Intc
def INTC_CTRL : Nat := 0x40
def SGI : Nat := 0x44
def SEC_REFUSE : Nat := 0x48
def BAD_COMPLETE : Nat := 0x4C
def CFG_BUSY : Nat := 0x50
end Reg.Intc

namespace Reg.IntcSrc
def SRCCFG : Nat := 0x100
end Reg.IntcSrc

namespace Reg.IntcHart
def THR_N : Nat := 0x100
def THR_S : Nat := 0x104
def CLAIM_N : Nat := 0x108
def CLAIM_S : Nat := 0x10C
def HART_WORLD : Nat := 0x110
end Reg.IntcHart

namespace Reg.IntcPend
def IPEND : Nat := 0x100
end Reg.IntcPend

namespace Reg.Ec
def BANK_EN : Nat := 0x40
def OVF_STAT : Nat := 0x44
def OVF_IE : Nat := 0x48
def SNAP_CFG : Nat := 0x4C
def SNAP_STAT : Nat := 0x50
def SNAP_TS_LO : Nat := 0x54
def SNAP_TS_HI : Nat := 0x58
def SRC_BAD : Nat := 0x5C
def CFG : Nat := 0x100
def CNT_LO : Nat := 0x104
def CNT_HI : Nat := 0x108
def SNAP_LO : Nat := 0x10C
def SNAP_HI : Nat := 0x110
end Reg.Ec

namespace Reg.Ciph
def SUBMIT : Nat := 0x40
def ALARM_STAT : Nat := 0x44
def ALARM_CLR : Nat := 0x48
def ALARM_CNT : Nat := 0x4C
def OPS_CNT : Nat := 0x50
def TAG_FAIL_CNT : Nat := 0x54
def LENGTH_CNT : Nat := 0x58
def REFUSED_CNT : Nat := 0x5C
def SUBMIT_DROP : Nat := 0x60
def CPL_DROP : Nat := 0x64
def WAITING : Nat := 0x68
end Reg.Ciph

namespace Reg.Lane
def LANE_STAT : Nat := 0x40
def LANE_DONE : Nat := 0x44
def LANE_OPS : Nat := 0x48
def LANE_KIB : Nat := 0x4C
end Reg.Lane

namespace Reg.Trng
def TRNG_STAT : Nat := 0x40
def RCT_FAIL : Nat := 0x44
def APT_FAIL : Nat := 0x48
def RAND_DATA : Nat := 0x4C
end Reg.Trng

namespace Reg.Ctxp
def CTX_STAT : Nat := 0x100
end Reg.Ctxp

namespace Reg.Msec
def MS_CFG : Nat := 0x40
def REPLAY_WIN : Nat := 0x44
def PN_WARN_LO : Nat := 0x48
def PN_WARN_HI : Nat := 0x4C
def SA_SEL : Nat := 0x50
def SA_CTRL : Nat := 0x54
def SA_SSCI : Nat := 0x58
def SA_SALT : Nat := 0x5C
def SA_PN_LO : Nat := 0x68
def SA_PN_HI : Nat := 0x6C
def SC_SCI_LO : Nat := 0x70
def SC_SCI_HI : Nat := 0x74
def SC_EN : Nat := 0x78
def TX_PROT : Nat := 0x80
def RX_OK : Nat := 0x84
def RX_DROP : Nat := 0x88
def RX_ICV_FAIL : Nat := 0x8C
def TX_PN_EXH : Nat := 0x90
def KEY_LOST : Nat := 0x94
end Reg.Msec

namespace Reg.Keys
def KS_CMD : Nat := 0x40
def KS_STAT : Nat := 0x44
def SH_ATTR0 : Nat := 0x48
def SH_ATTR1 : Nat := 0x4C
def SH_KEY : Nat := 0x50
def SH_LABEL : Nat := 0x70
def SH_CTX : Nat := 0x80
def SH_KDF : Nat := 0xA0
def RD_ATTR0 : Nat := 0xA4
def RD_ATTR1 : Nat := 0xA8
def RD_LINK : Nat := 0xAC
def REVOKED_CNT : Nat := 0xB0
def SLOT_BUSY_CNT : Nat := 0xB4
def ATT_BOOT : Nat := 0xB8
def SLOT_VALID : Nat := 0x100
def SLOT_INUSE : Nat := 0x120
def ATT_MAC : Nat := 0x140
end Reg.Keys

namespace Reg.Vault
def VAULT_STAT : Nat := 0x40
def TAMPER_STAT : Nat := 0x44
def TAMPER_CNT : Nat := 0x48
def CELL_MV : Nat := 0x4C
def PROVISION : Nat := 0x50
def PROV_STAT : Nat := 0x54
def PK_WEAR : Nat := 0x58
def IMG_DIGEST : Nat := 0x60
end Reg.Vault

namespace Reg.Shep
def SHEP_STAT : Nat := 0x40
def BOOT_SLOT : Nat := 0x44
def ACT_STAT : Nat := 0x48
def ACT_ID : Nat := 0x4C
def LAST_ACT_ID : Nat := 0x50
def INSTANT_SEC_LO : Nat := 0x54
def INSTANT_SEC_HI : Nat := 0x58
def INSTANT_NS : Nat := 0x5C
def ACT_GROUP : Nat := 0x60
def HEALTH_WIN : Nat := 0x80
def HEALTH_OK : Nat := 0x84
def HEALTH_STAT : Nat := 0x88
def STAGE_STAT : Nat := 0x8C
def STAGE_VERSION : Nat := 0x90
def RUN_VERSION : Nat := 0x94
def MIN_VERSION : Nat := 0x98
def WHISTLE_MAC_LO : Nat := 0x9C
def WHISTLE_MAC_HI : Nat := 0xA0
def ACK_CNT : Nat := 0xA4
def WHISTLE_BAD : Nat := 0xA8
def AUTH_FAIL_CNT : Nat := 0xAC
def MSG_TX : Nat := 0x200
def MSG_SEND : Nat := 0x220
def MSG_TX_STAT : Nat := 0x224
def MRQ_HEAD : Nat := 0x240
def MRQ_POP : Nat := 0x260
def MRQ_COUNT : Nat := 0x264
def IMG_KEY : Nat := 0x100
def STATION_KEY : Nat := 0x160
end Reg.Shep

/-- Register rows of page kind Hdr. -/
def rowsHdr : List RegRow := [
  ⟨0x0, .ro, 0x0, .const, 0x0, 1, 0x4⟩,
  ⟨0x4, .ro, 0x0, .const, 0x0, 1, 0x4⟩,
  ⟨0x8, .wo, 0x0, .x, 0x0, 1, 0x4⟩,
  ⟨0xC, .w1c, 0x0, .x, 0xC00, 1, 0x4⟩,
  ⟨0x10, .ro, 0x0, .x, 0x0, 1, 0x4⟩,
  ⟨0x14, .rw, 0x0, .s, 0xFFFF003F, 1, 0x4⟩,
  ⟨0x18, .wo, 0x0, .x, 0x0, 1, 0x4⟩,
  ⟨0x1C, .wo, 0x0, .x, 0x0, 1, 0x4⟩,
  ⟨0x20, .rwl, 0x0, .s, 0x7FF, 1, 0x4⟩,
  ⟨0x24, .w1s, 0x0, .s, 0x3, 1, 0x4⟩,
  ⟨0x28, .ro, 0x1, .a, 0x0, 1, 0x4⟩,
  ⟨0x2C, .ro, 0x0, .p, 0x0, 1, 0x4⟩]

/-- Register rows of page kind Sys. -/
def rowsSys : List RegRow := [
  ⟨0x40, .ro, 0x89600010, .const, 0x0, 1, 0x4⟩,
  ⟨0x44, .ro, 0x18C353A2, .const, 0x0, 1, 0x4⟩,
  ⟨0x48, .ro, 0x0, .s, 0x0, 1, 0x4⟩,
  ⟨0x4C, .rc, 0x0, .s, 0x0, 1, 0x4⟩,
  ⟨0x50, .rc, 0x0, .s, 0x0, 1, 0x4⟩,
  ⟨0x54, .rc, 0x0, .s, 0x0, 1, 0x4⟩,
  ⟨0x58, .ro, 0x0, .x, 0x0, 1, 0x4⟩,
  ⟨0x60, .rwp, 0xC, .p, 0xF, 1, 0x4⟩,
  ⟨0x64, .rwp, 0x3, .p, 0xF, 1, 0x4⟩]

/-- Register rows of page kind Dir. -/
def rowsDir : List RegRow := [
  ⟨0x40, .rwp, 0x3FFF, .p, 0x3FFF, 1, 0x4⟩,
  ⟨0x44, .rw, 0x0, .s, 0x1, 1, 0x4⟩,
  ⟨0x48, .rwp, 0x0, .p, 0xFFFFFFFF, 1, 0x4⟩,
  ⟨0x4C, .rwp, 0x0, .p, 0xFFFF, 1, 0x4⟩,
  ⟨0x50, .rc, 0x0, .s, 0x0, 1, 0x4⟩,
  ⟨0x54, .rc, 0x0, .s, 0x0, 1, 0x4⟩,
  ⟨0x58, .rc, 0x0, .s, 0x0, 1, 0x4⟩,
  ⟨0x5C, .rc, 0x0, .s, 0x0, 1, 0x4⟩]

/-- Register rows of page kind Dirtab. -/
def rowsDirtab : List RegRow := [
  ⟨0x0, .rw, 0x0, .a, 0xFFFF0FFF, 1024, 0x4⟩]

/-- Register rows of page kind Msg. -/
def rowsMsg : List RegRow := [
  ⟨0x40, .rw, 0x0, .h, 0xFFFFFFFF, 8, 0x4⟩,
  ⟨0x60, .wo, 0x0, .x, 0x0, 1, 0x4⟩,
  ⟨0x64, .ro, 0x0, .h, 0x0, 1, 0x4⟩,
  ⟨0x80, .ro, 0x0, .h, 0x0, 8, 0x4⟩,
  ⟨0xA0, .wo, 0x0, .x, 0x0, 1, 0x4⟩,
  ⟨0xA4, .ro, 0x0, .h, 0x0, 1, 0x4⟩]

/-- Register rows of page kind Tb. -/
def rowsTb : List RegRow := [
  ⟨0x40, .w1c, 0x0, .a, 0x11F, 1, 0x4⟩,
  ⟨0x44, .rc, 0x0, .a, 0x0, 1, 0x4⟩,
  ⟨0x48, .wo, 0x0, .x, 0x0, 1, 0x4⟩,
  ⟨0x4C, .ro, 0x0, .x, 0x0, 1, 0x4⟩,
  ⟨0x50, .ro, 0x0, .x, 0x0, 4, 0x4⟩,
  ⟨0x60, .ro, 0x0, .x, 0x0, 4, 0x4⟩,
  ⟨0x70, .ro, 0x0, .x, 0x0, 4, 0x4⟩]

/-- Register rows of page kind Clk. -/
def rowsClk : List RegRow := [
  ⟨0x40, .rw, 0x9999999A, .a, 0xFFFFFFFF, 1, 0x4⟩,
  ⟨0x44, .rw, 0x199, .a, 0xFFF, 1, 0x4⟩,
  ⟨0x48, .rw, 0x0, .a, 0xFFFFFFFF, 1, 0x4⟩,
  ⟨0x4C, .rw, 0x1, .a, 0xFFFF, 1, 0x4⟩,
  ⟨0x50, .wo, 0x0, .x, 0x0, 1, 0x4⟩,
  ⟨0x54, .ro, 0x0, .a, 0x0, 1, 0x4⟩,
  ⟨0x58, .rw, 0x0, .a, 0xFFFFFFFF, 1, 0x4⟩,
  ⟨0x5C, .rw, 0x0, .a, 0xFFFF, 1, 0x4⟩,
  ⟨0x60, .rw, 0x0, .a, 0x3FFFFFFF, 1, 0x4⟩,
  ⟨0x64, .rw, 0x0, .a, 0xFFFF, 1, 0x4⟩,
  ⟨0x68, .wo, 0x0, .x, 0x0, 1, 0x4⟩,
  ⟨0x6C, .ro, 0x0, .a, 0x0, 1, 0x4⟩,
  ⟨0x70, .rw, 0x0, .a, 0x17F, 1, 0x4⟩,
  ⟨0x74, .rw, 0x0, .a, 0x3FFFFF, 1, 0x4⟩]

/-- Register rows of page kind Tbcor. -/
def rowsTbcor : List RegRow := [
  ⟨0x100, .rwp, 0x0, .p, 0xFFFFFF, 29, 0x20⟩,
  ⟨0x104, .rwp, 0x0, .p, 0xFFFFFF, 29, 0x20⟩,
  ⟨0x108, .rwp, 0x0, .p, 0xFFFFFF, 29, 0x20⟩,
  ⟨0x10C, .rwp, 0x0, .p, 0xFFFFFF, 29, 0x20⟩,
  ⟨0x110, .rwp, 0x0, .p, 0xFFFFFF, 29, 0x20⟩,
  ⟨0x114, .rwp, 0x0, .p, 0xFFFFFF, 29, 0x20⟩,
  ⟨0x118, .ro, 0x0, .x, 0x0, 29, 0x20⟩]

/-- Register rows of page kind Tbcap. -/
def rowsTbcap : List RegRow := [
  ⟨0x40, .ro, 0x0, .x, 0x0, 1, 0x4⟩,
  ⟨0x44, .ro, 0x0, .x, 0x0, 1, 0x4⟩,
  ⟨0x48, .ro, 0x0, .x, 0x0, 1, 0x4⟩,
  ⟨0x4C, .wo, 0x0, .x, 0x0, 1, 0x4⟩,
  ⟨0x50, .ro, 0x0, .x, 0x0, 1, 0x4⟩,
  ⟨0x54, .rc, 0x0, .x, 0x0, 1, 0x4⟩]

/-- Register rows of page kind Hrn. -/
def rowsHrn : List RegRow := [
  ⟨0x40, .rc, 0x0, .s, 0x0, 1, 0x4⟩,
  ⟨0x44, .rc, 0x0, .s, 0x0, 1, 0x4⟩,
  ⟨0x48, .rc, 0x0, .s, 0x0, 1, 0x4⟩,
  ⟨0x4C, .rc, 0x0, .s, 0x0, 1, 0x4⟩,
  ⟨0x50, .rc, 0x0, .s, 0x0, 1, 0x4⟩,
  ⟨0x54, .rc, 0x0, .s, 0x0, 1, 0x4⟩,
  ⟨0x58, .ro, 0x0, .s, 0x0, 1, 0x4⟩,
  ⟨0x5C, .ro, 0x0, .s, 0x0, 1, 0x4⟩,
  ⟨0x60, .w1c, 0x0, .x, 0xFFFFFFFF, 1, 0x4⟩,
  ⟨0x64, .rw, 0x0, .s, 0xFFFFFFFF, 1, 0x4⟩,
  ⟨0x80, .ro, 0x0, .s, 0x0, 4, 0x4⟩,
  ⟨0xA0, .wo, 0x0, .x, 0x0, 4, 0x4⟩,
  ⟨0xB0, .wo, 0x0, .x, 0x0, 4, 0x4⟩,
  ⟨0xC0, .rw, 0x0, .s, 0xFFFFFFFF, 8, 0x4⟩,
  ⟨0x100, .rw, 0x0, .s, 0xFFFFFFFF, 128, 0x4⟩]

/-- Register rows of page kind Dom. -/
def rowsDomA : List RegRow := [
  ⟨0x40, .rw, 0x0, .s, 0x33, 1, 0x4⟩,
  ⟨0x44, .rw, 0x0, .s, 0xFFFFFFFF, 1, 0x4⟩,
  ⟨0x48, .rw, 0x0, .s, 0xFFFF, 1, 0x4⟩,
  ⟨0x4C, .rw, 0x0, .s, 0xFFFFFFFF, 1, 0x4⟩,
  ⟨0x50, .rw, 0x0, .s, 0xFFFF, 1, 0x4⟩,
  ⟨0x54, .rw, 0x0, .s, 0x3FFFFFFF, 1, 0x4⟩,
  ⟨0x58, .rw, 0x64, .s, 0x3FF, 1, 0x4⟩,
  ⟨0x60, .rw, 0x0, .s, 0x3F1F3, 1, 0x4⟩,
  ⟨0x64, .rw, 0x0, .s, 0xFFFF, 1, 0x4⟩,
  ⟨0x68, .rw, 0x0, .s, 0x3FFFF, 1, 0x4⟩,
  ⟨0x6C, .rw, 0x0, .s, 0xFFFFFFFF, 6, 0x4⟩,
  ⟨0x84, .rw, 0x0, .s, 0xFFFFFFFF, 1, 0x4⟩,
  ⟨0x88, .rw, 0x0, .s, 0xFFFFFFFF, 1, 0x4⟩,
  ⟨0x90, .rw, 0x0, .s, 0x17F, 1, 0x4⟩,
  ⟨0x94, .rw, 0x0, .s, 0xFFFFFFFF, 1, 0x4⟩,
  ⟨0x98, .rw, 0x0, .s, 0xFFFF, 1, 0x4⟩,
  ⟨0x9C, .rw, 0x0, .s, 0xFFFF, 1, 0x4⟩,
  ⟨0xA0, .rw, 0x0, .s, 0xFFFFFFFF, 1, 0x4⟩,
  ⟨0xA4, .rw, 0x0, .s, 0xFFFF, 1, 0x4⟩,
  ⟨0xA8, .rw, 0x0, .x, 0xFFFFFFFF, 1, 0x4⟩]

/-- Register rows of page kind Dom. -/
def rowsDomB : List RegRow := [
  ⟨0xAC, .rw, 0x0, .x, 0x3FFFFFFF, 1, 0x4⟩,
  ⟨0xB0, .wo, 0x0, .x, 0x0, 1, 0x4⟩,
  ⟨0xB4, .rw, 0x0, .s, 0xF, 1, 0x4⟩,
  ⟨0xB8, .rw, 0x1, .s, 0xFFFF, 1, 0x4⟩,
  ⟨0xBC, .rw, 0x1, .s, 0xFFFF, 1, 0x4⟩,
  ⟨0xC0, .rw, 0x0, .s, 0xFFFFFFFF, 1, 0x4⟩,
  ⟨0xC4, .rw, 0x0, .s, 0xFFFFFF, 1, 0x4⟩,
  ⟨0xD0, .ro, 0x0, .x, 0x0, 1, 0x4⟩,
  ⟨0xD4, .ro, 0x0, .x, 0x0, 1, 0x4⟩,
  ⟨0xD8, .ro, 0x0, .x, 0x0, 1, 0x4⟩,
  ⟨0xDC, .ro, 0x0, .x, 0x0, 1, 0x4⟩,
  ⟨0xE0, .ro, 0x0, .x, 0x0, 1, 0x4⟩,
  ⟨0xE4, .ro, 0x0, .x, 0x0, 1, 0x4⟩,
  ⟨0xE8, .w1c, 0x0, .x, 0x10, 1, 0x4⟩,
  ⟨0xEC, .rc, 0x0, .s, 0x0, 1, 0x4⟩,
  ⟨0xF0, .rc, 0x0, .s, 0x0, 1, 0x4⟩]

def rowsDom : List RegRow := rowsDomA ++ rowsDomB

/-- Register rows of page kind Evt. -/
def rowsEvt : List RegRow := [
  ⟨0x40, .w1c, 0x0, .x, 0xFFFFFFFF, 4, 0x4⟩,
  ⟨0x50, .w1c, 0x0, .x, 0xFFFFFFFF, 4, 0x4⟩,
  ⟨0x60, .ro, 0x0, .x, 0x0, 4, 0x4⟩,
  ⟨0x70, .ro, 0x0, .x, 0x0, 1, 0x4⟩,
  ⟨0x800, .rw, 0x0, .s, 0xFFFFFFFF, 512, 0x4⟩]

/-- Register rows of page kind Tpo. -/
def rowsTpo : List RegRow := [
  ⟨0x100, .rw, 0x0, .s, 0x100, 8, 0x40⟩,
  ⟨0x104, .rw, 0x64, .s, 0x3FFFFFFF, 8, 0x40⟩,
  ⟨0x108, .rw, 0x0, .s, 0xFFFFFFFF, 8, 0x40⟩,
  ⟨0x10C, .w1c, 0x0, .x, 0xFF0, 8, 0x40⟩,
  ⟨0x110, .rw, 0x0, .s, 0xFFFFFFFF, 8, 0x40⟩,
  ⟨0x114, .rw, 0x0, .s, 0x3FFFFFFF, 8, 0x40⟩,
  ⟨0x118, .rw, 0x0, .s, 0xFFFFFFFF, 8, 0x40⟩,
  ⟨0x11C, .rw, 0x0, .s, 0x3FFFFFFF, 8, 0x40⟩,
  ⟨0x120, .rw, 0x0, .s, 0xFFFFFFFF, 8, 0x40⟩,
  ⟨0x124, .rw, 0x0, .s, 0x3FFFFFFF, 8, 0x40⟩,
  ⟨0x128, .rw, 0x0, .s, 0xFFFFFFFF, 8, 0x40⟩,
  ⟨0x12C, .rw, 0x0, .s, 0x3FFFFFFF, 8, 0x40⟩,
  ⟨0x300, .rw, 0x0, .s, 0xFFFF, 1, 0x4⟩]

/-- Register rows of page kind Tile. -/
def rowsTile : List RegRow := [
  ⟨0x40, .ro, 0x0, .x, 0x0, 1, 0x4⟩,
  ⟨0x44, .ro, 0x0, .t, 0x0, 1, 0x4⟩,
  ⟨0x48, .wo, 0x0, .x, 0x0, 1, 0x4⟩,
  ⟨0x4C, .rwp, 0x7D0, .p, 0xFFFFFF, 1, 0x4⟩,
  ⟨0x50, .ro, 0x7D0, .t, 0x0, 1, 0x4⟩,
  ⟨0x54, .ro, 0x0, .x, 0x0, 1, 0x4⟩,
  ⟨0x58, .rc, 0x0, .s, 0x0, 1, 0x4⟩,
  ⟨0x5C, .rc, 0x0, .s, 0x0, 1, 0x4⟩,
  ⟨0x60, .ro, 0x0, .s, 0x0, 1, 0x4⟩,
  ⟨0x64, .wo, 0x0, .x, 0x0, 1, 0x4⟩,
  ⟨0x68, .ro, 0x0, .x, 0x0, 1, 0x4⟩,
  ⟨0x6C, .ro, 0x0, .x, 0x0, 1, 0x4⟩,
  ⟨0x70, .ro, 0x0, .x, 0x0, 1, 0x4⟩,
  ⟨0x80, .ro, 0x0, .x, 0x0, 1, 0x4⟩,
  ⟨0x84, .ro, 0x0, .x, 0x0, 1, 0x4⟩,
  ⟨0xA0, .ro, 0x0, .x, 0x0, 1, 0x4⟩,
  ⟨0xA4, .ro, 0x0, .x, 0x0, 1, 0x4⟩,
  ⟨0xA8, .ro, 0x0, .x, 0x0, 1, 0x4⟩]

/-- Register rows of page kind Chan. -/
def rowsChanA : List RegRow := [
  ⟨0x40, .ro, 0x0, .x, 0x0, 1, 0x4⟩,
  ⟨0x44, .rwt, 0x2, .t, 0x7, 1, 0x4⟩,
  ⟨0x48, .rwp, 0x1, .p, 0x1FF, 1, 0x4⟩,
  ⟨0x4C, .ro, 0x80000001, .t, 0x0, 1, 0x4⟩,
  ⟨0x50, .ro, 0x0, .x, 0x0, 1, 0x4⟩,
  ⟨0x54, .ro, 0x0, .t, 0x0, 1, 0x4⟩,
  ⟨0x80, .rwt, 0x864C878, .t, 0x3FFFFFFF, 1, 0x4⟩,
  ⟨0x84, .rwt, 0x646403, .t, 0xFFFF0F, 1, 0x4⟩,
  ⟨0x88, .rwt, 0xA, .t, 0x1F, 1, 0x4⟩,
  ⟨0x8C, .rwt, 0xA05, .t, 0xFF07, 1, 0x4⟩,
  ⟨0x90, .rwt, 0x47, .t, 0xFF, 1, 0x4⟩,
  ⟨0x94, .wo, 0x0, .x, 0x0, 1, 0x4⟩,
  ⟨0x98, .ro, 0x300, .t, 0x0, 1, 0x4⟩,
  ⟨0x9C, .ro, 0x0, .t, 0x0, 1, 0x4⟩,
  ⟨0xA0, .ro, 0x0, .t, 0x0, 1, 0x4⟩,
  ⟨0xA4, .ro, 0x0, .t, 0x0, 1, 0x4⟩,
  ⟨0xC0, .rw, 0x4, .s, 0xF, 1, 0x4⟩,
  ⟨0xC4, .ro, 0x0, .x, 0x0, 1, 0x4⟩,
  ⟨0xC8, .ro, 0x0, .x, 0x0, 1, 0x4⟩,
  ⟨0xCC, .ro, 0x0, .x, 0x0, 1, 0x4⟩]

/-- Register rows of page kind Chan. -/
def rowsChanB : List RegRow := [
  ⟨0xD0, .ro, 0x0, .x, 0x0, 1, 0x4⟩,
  ⟨0xD4, .ro, 0x0, .x, 0x0, 1, 0x4⟩,
  ⟨0xD8, .ro, 0x0, .x, 0x0, 1, 0x4⟩,
  ⟨0xDC, .ro, 0x0, .x, 0x0, 1, 0x4⟩,
  ⟨0xE0, .rwp, 0x0, .p, 0xFFFFFFFF, 1, 0x4⟩,
  ⟨0xE4, .rwp, 0x0, .p, 0xFFFFFFFF, 1, 0x4⟩,
  ⟨0xE8, .rwp, 0x0, .p, 0xFFFF, 1, 0x4⟩,
  ⟨0xEC, .rc, 0x0, .s, 0x0, 1, 0x4⟩,
  ⟨0xF0, .ro, 0x0, .s, 0x0, 1, 0x4⟩]

def rowsChan : List RegRow := rowsChanA ++ rowsChanB

/-- Register rows of page kind Sadc. -/
def rowsSadcA : List RegRow := [
  ⟨0x40, .rw, 0x281, .s, 0xFFC1, 1, 0x4⟩,
  ⟨0x44, .ro, 0x0, .x, 0x0, 1, 0x4⟩,
  ⟨0x48, .rc, 0x0, .s, 0x0, 1, 0x4⟩,
  ⟨0x4C, .wo, 0x0, .x, 0x0, 1, 0x4⟩,
  ⟨0x50, .wo, 0x0, .x, 0x0, 1, 0x4⟩,
  ⟨0x54, .ro, 0x0, .x, 0x0, 1, 0x4⟩,
  ⟨0x58, .ro, 0x0, .x, 0x0, 1, 0x4⟩,
  ⟨0x5C, .ro, 0x0, .x, 0x0, 1, 0x4⟩,
  ⟨0x60, .rw, 0x0, .x, 0xFFF, 1, 0x4⟩,
  ⟨0x64, .ro, 0x0, .x, 0x0, 1, 0x4⟩,
  ⟨0x68, .ro, 0x0, .x, 0x0, 1, 0x4⟩,
  ⟨0x6C, .ro, 0x0, .x, 0x0, 1, 0x4⟩,
  ⟨0x70, .ro, 0x0, .x, 0x0, 1, 0x4⟩,
  ⟨0x74, .ro, 0x0, .x, 0x0, 1, 0x4⟩,
  ⟨0x78, .ro, 0x0, .x, 0x0, 1, 0x4⟩,
  ⟨0x100, .ro, 0x0, .x, 0x0, 1, 0x4⟩,
  ⟨0x104, .ro, 0x0, .x, 0x0, 1, 0x4⟩,
  ⟨0x108, .ro, 0x0, .s, 0x0, 1, 0x4⟩,
  ⟨0x10C, .ro, 0x0, .s, 0x0, 1, 0x4⟩,
  ⟨0x110, .ro, 0x0, .s, 0x0, 1, 0x4⟩]

/-- Register rows of page kind Sadc. -/
def rowsSadcB : List RegRow := [
  ⟨0x114, .ro, 0x0, .s, 0x0, 1, 0x4⟩,
  ⟨0x118, .wo, 0x0, .x, 0x0, 1, 0x4⟩,
  ⟨0x11C, .rw, 0x0, .s, 0xFFFF, 1, 0x4⟩]

def rowsSadc : List RegRow := rowsSadcA ++ rowsSadcB

/-- Register rows of page kind Cg. -/
def rowsCg : List RegRow := [
  ⟨0x40, .ro, 0x0, .x, 0x0, 1, 0x4⟩,
  ⟨0x44, .wo, 0x0, .x, 0x0, 1, 0x4⟩,
  ⟨0x48, .ro, 0x10000, .s, 0x0, 1, 0x4⟩,
  ⟨0x4C, .ro, 0x0, .s, 0x0, 1, 0x4⟩,
  ⟨0x50, .ro, 0x0, .s, 0x0, 4, 0x4⟩,
  ⟨0x60, .ro, 0x0, .s, 0x0, 2, 0x4⟩,
  ⟨0x68, .rw, 0x0, .s, 0xFFFF, 1, 0x4⟩,
  ⟨0x6C, .ro, 0x0, .x, 0x0, 1, 0x4⟩]

/-- Register rows of page kind Half. -/
def rowsHalf : List RegRow := [
  ⟨0x40, .ro, 0x0, .a, 0x0, 1, 0x4⟩,
  ⟨0x44, .rw, 0x64C80C81, .s, 0xFFFFFFF3, 1, 0x4⟩,
  ⟨0x48, .wo, 0x0, .x, 0x0, 1, 0x4⟩,
  ⟨0x4C, .ro, 0x0, .a, 0x0, 1, 0x4⟩,
  ⟨0x50, .ro, 0x0, .a, 0x0, 1, 0x4⟩,
  ⟨0x54, .ro, 0x0, .a, 0x0, 1, 0x4⟩,
  ⟨0x58, .ro, 0x0, .a, 0x0, 1, 0x4⟩,
  ⟨0x5C, .rc, 0x0, .s, 0x0, 1, 0x4⟩,
  ⟨0x60, .rc, 0x0, .s, 0x0, 1, 0x4⟩,
  ⟨0x64, .rc, 0x0, .s, 0x0, 1, 0x4⟩,
  ⟨0x68, .rc, 0x0, .s, 0x0, 1, 0x4⟩,
  ⟨0x6C, .rc, 0x0, .s, 0x0, 1, 0x4⟩,
  ⟨0x70, .rc, 0x0, .s, 0x0, 1, 0x4⟩,
  ⟨0x74, .ro, 0xFFFFFFFF, .x, 0x0, 1, 0x4⟩,
  ⟨0x100, .rw, 0x0, .h, 0x80FFFFFF, 16, 0x8⟩,
  ⟨0x104, .rw, 0x0, .h, 0xFFFFFF, 16, 0x8⟩]

/-- Register rows of page kind Local. -/
def rowsLocal : List RegRow := [
  ⟨0x40, .rw, 0x0, .h, 0xFFFFFFE0, 1, 0x4⟩,
  ⟨0x44, .rw, 0x0, .h, 0x10F, 1, 0x4⟩,
  ⟨0x48, .ro, 0x0, .h, 0x0, 1, 0x4⟩,
  ⟨0x4C, .rw, 0x0, .h, 0xFFFF, 1, 0x4⟩,
  ⟨0x50, .rw, 0x0, .h, 0xFFF, 1, 0x4⟩,
  ⟨0x54, .ro, 0x0, .x, 0x0, 1, 0x4⟩,
  ⟨0x58, .ro, 0x0, .x, 0x0, 1, 0x4⟩,
  ⟨0x5C, .ro, 0x0, .h, 0x0, 1, 0x4⟩,
  ⟨0x60, .ro, 0x0, .h, 0x0, 1, 0x4⟩,
  ⟨0x64, .wo, 0x0, .x, 0x0, 1, 0x4⟩,
  ⟨0x68, .wo, 0x0, .x, 0x0, 1, 0x4⟩,
  ⟨0x6C, .wo, 0x0, .x, 0x0, 1, 0x4⟩,
  ⟨0x70, .ro, 0x0, .x, 0x0, 1, 0x4⟩,
  ⟨0x74, .ro, 0x0, .x, 0x0, 1, 0x4⟩,
  ⟨0x78, .ro, 0x0, .x, 0x0, 1, 0x4⟩,
  ⟨0x7C, .ro, 0x0, .x, 0x0, 1, 0x4⟩,
  ⟨0x80, .ro, 0x0, .x, 0x0, 1, 0x4⟩,
  ⟨0x84, .ro, 0x0, .x, 0x0, 1, 0x4⟩]

/-- Register rows of page kind Pwr. -/
def rowsPwr : List RegRow := [
  ⟨0x40, .ro, 0x0, .a, 0x0, 1, 0x4⟩,
  ⟨0x44, .wo, 0x0, .x, 0x0, 1, 0x4⟩,
  ⟨0x48, .wo, 0x0, .x, 0x0, 1, 0x4⟩,
  ⟨0x4C, .ro, 0x111, .a, 0x0, 1, 0x4⟩,
  ⟨0x50, .rw, 0x0, .a, 0xFFFFFFFF, 3, 0x4⟩,
  ⟨0x5C, .rw, 0x0, .a, 0x3FFFFFF, 1, 0x4⟩,
  ⟨0x60, .rw, 0x300000, .a, 0x3FFFFF, 1, 0x4⟩,
  ⟨0x64, .rw, 0x0, .a, 0xFFFFFFFF, 1, 0x4⟩,
  ⟨0x68, .rw, 0x0, .a, 0xFFFF, 1, 0x4⟩,
  ⟨0x6C, .ro, 0x0, .a, 0x0, 1, 0x4⟩,
  ⟨0x70, .ro, 0x0, .a, 0x0, 1, 0x4⟩,
  ⟨0x74, .rc, 0x0, .s, 0x0, 1, 0x4⟩,
  ⟨0x78, .ro, 0x0, .x, 0x0, 1, 0x4⟩,
  ⟨0x80, .ro, 0x0, .p, 0x0, 1, 0x4⟩,
  ⟨0x84, .ro, 0x0, .p, 0x0, 1, 0x4⟩,
  ⟨0x88, .ro, 0x0, .p, 0x0, 1, 0x4⟩,
  ⟨0x8C, .ro, 0x0, .p, 0x0, 1, 0x4⟩,
  ⟨0x90, .ro, 0x0, .p, 0x0, 1, 0x4⟩,
  ⟨0x100, .rwp, 0x0, .p, 0xFFFFFFFF, 32, 0x4⟩]

/-- Register rows of page kind Pdc. -/
def rowsPdc : List RegRow := [
  ⟨0x40, .rw, 0x10000, .x, 0x100, 12, 0x4⟩,
  ⟨0x80, .rw, 0x10000, .x, 0x100, 8, 0x4⟩,
  ⟨0xA0, .ro, 0x0, .s, 0x0, 1, 0x4⟩]

/-- Register rows of page kind Safe. -/
def rowsSafe : List RegRow := [
  ⟨0x40, .w1c, 0x0, .a, 0xFFFFFFFF, 1, 0x4⟩,
  ⟨0x44, .w1c, 0x0, .a, 0xFFFF, 1, 0x4⟩,
  ⟨0x48, .w1c, 0x0, .a, 0x80000000, 1, 0x4⟩,
  ⟨0x4C, .ro, 0x0, .a, 0x0, 1, 0x4⟩,
  ⟨0x50, .ro, 0x0, .a, 0x0, 1, 0x4⟩,
  ⟨0x54, .ro, 0x0, .a, 0x0, 1, 0x4⟩,
  ⟨0x58, .ro, 0x0, .a, 0x0, 1, 0x4⟩,
  ⟨0x5C, .ro, 0x0, .a, 0x0, 1, 0x4⟩,
  ⟨0x60, .rc, 0x0, .a, 0x0, 1, 0x4⟩,
  ⟨0x64, .rwl, 0x11442222, .s, 0x77777777, 1, 0x4⟩,
  ⟨0x68, .rwl, 0x4111, .s, 0x77777777, 1, 0x4⟩,
  ⟨0x6C, .rwl, 0x11442222, .s, 0x77777777, 1, 0x4⟩,
  ⟨0x70, .rwl, 0x4111, .s, 0x77777777, 1, 0x4⟩,
  ⟨0x74, .rwl, 0x11111111, .s, 0x77777777, 1, 0x4⟩,
  ⟨0x78, .rwl, 0x111, .s, 0x77777777, 1, 0x4⟩,
  ⟨0x7C, .rw, 0x640040, .s, 0xFFFFFF, 1, 0x4⟩,
  ⟨0x80, .rw, 0x64, .s, 0xFF, 1, 0x4⟩,
  ⟨0x84, .wo, 0x0, .x, 0x0, 1, 0x4⟩]

/-- Register rows of page kind Lsp. -/
def rowsLsp : List RegRow := [
  ⟨0x40, .rw, 0x2710, .s, 0xFFFFF, 1, 0x4⟩,
  ⟨0x44, .wo, 0x0, .x, 0x0, 1, 0x4⟩,
  ⟨0x48, .ro, 0x0, .x, 0x0, 1, 0x4⟩,
  ⟨0x4C, .ro, 0x0, .x, 0x0, 1, 0x4⟩,
  ⟨0x50, .rc, 0x0, .s, 0x0, 1, 0x4⟩,
  ⟨0x54, .ro, 0x0, .s, 0x0, 1, 0x4⟩,
  ⟨0x58, .wo, 0x0, .x, 0x0, 1, 0x4⟩,
  ⟨0x5C, .ro, 0x0, .x, 0x0, 1, 0x4⟩,
  ⟨0x60, .rc, 0x0, .s, 0x0, 1, 0x4⟩]

/-- Register rows of page kind Sw. -/
def rowsSw : List RegRow := [
  ⟨0x40, .ro, 0x0, .x, 0x0, 1, 0x4⟩,
  ⟨0x44, .ro, 0x20000, .x, 0x0, 1, 0x4⟩,
  ⟨0x48, .rc, 0x20000, .s, 0x0, 1, 0x4⟩,
  ⟨0x4C, .rw, 0x1830, .s, 0x3FFFF, 1, 0x4⟩,
  ⟨0x50, .rw, 0x2000, .s, 0x3FFFF, 1, 0x4⟩,
  ⟨0x54, .rc, 0x0, .s, 0x0, 1, 0x4⟩,
  ⟨0x58, .rc, 0x0, .s, 0x0, 1, 0x4⟩,
  ⟨0x5C, .rc, 0x0, .s, 0x0, 1, 0x4⟩,
  ⟨0x60, .rw, 0x1FFFFFFF, .s, 0x1FFFFFFF, 1, 0x4⟩,
  ⟨0x64, .rc, 0x0, .s, 0x0, 1, 0x4⟩]

/-- Register rows of page kind Frsv. -/
def rowsFrsv : List RegRow := [
  ⟨0x40, .wo, 0x0, .x, 0x0, 1, 0x4⟩,
  ⟨0x44, .ro, 0x0, .s, 0x0, 1, 0x4⟩,
  ⟨0x48, .rc, 0x0, .s, 0x0, 1, 0x4⟩,
  ⟨0x4C, .rc, 0x0, .s, 0x0, 1, 0x4⟩,
  ⟨0x100, .rw, 0x0, .s, 0x9F9F9F9F, 256, 0x4⟩,
  ⟨0x500, .ro, 0x0, .s, 0x0, 256, 0x4⟩]

/-- Register rows of page kind Eq. -/
def rowsEq : List RegRow := [
  ⟨0x40, .rw, 0x0, .s, 0xF, 1, 0x4⟩,
  ⟨0x44, .ro, 0x0, .x, 0x0, 1, 0x4⟩,
  ⟨0x48, .rc, 0x0, .s, 0x0, 1, 0x4⟩,
  ⟨0x4C, .rc, 0x0, .s, 0x0, 1, 0x4⟩,
  ⟨0x50, .rc, 0x0, .s, 0x0, 1, 0x4⟩,
  ⟨0x100, .rw, 0x40000, .s, 0x7F000, 8, 0x40⟩,
  ⟨0x104, .rw, 0x800, .s, 0x3FFFF, 8, 0x40⟩,
  ⟨0x108, .rw, 0x0, .s, 0x1FFFFFF, 8, 0x40⟩,
  ⟨0x10C, .rw, 0x0, .s, 0xFFFF, 8, 0x40⟩,
  ⟨0x110, .rw, 0x5F2, .s, 0x3FFF, 8, 0x40⟩,
  ⟨0x114, .ro, 0x0, .x, 0x0, 8, 0x40⟩,
  ⟨0x118, .ro, 0x0, .x, 0x0, 8, 0x40⟩,
  ⟨0x11C, .ro, 0x0, .x, 0x0, 8, 0x40⟩,
  ⟨0x120, .rc, 0x0, .s, 0x0, 8, 0x40⟩,
  ⟨0x124, .rc, 0x0, .s, 0x0, 8, 0x40⟩,
  ⟨0x128, .rc, 0x0, .s, 0x0, 8, 0x40⟩,
  ⟨0x12C, .rc, 0x0, .s, 0x0, 8, 0x40⟩,
  ⟨0x130, .rc, 0x0, .s, 0x0, 8, 0x40⟩,
  ⟨0x134, .rc, 0x0, .s, 0x0, 8, 0x40⟩,
  ⟨0x138, .rc, 0x0, .s, 0x0, 8, 0x40⟩]

/-- Register rows of page kind Fwd. -/
def rowsFwd : List RegRow := [
  ⟨0x40, .rw, 0x0, .s, 0xFFFFFFFF, 4, 0x4⟩,
  ⟨0x50, .wo, 0x0, .x, 0x0, 1, 0x4⟩,
  ⟨0x54, .ro, 0x0, .s, 0x0, 1, 0x4⟩,
  ⟨0x58, .ro, 0x0, .x, 0x0, 4, 0x4⟩,
  ⟨0x68, .rw, 0x1000, .s, 0x1FFF, 1, 0x4⟩,
  ⟨0x6C, .ro, 0x0, .s, 0x0, 1, 0x4⟩,
  ⟨0x70, .rw, 0xE, .s, 0x7F, 1, 0x4⟩,
  ⟨0x74, .rc, 0x0, .s, 0x0, 1, 0x4⟩,
  ⟨0x78, .rc, 0x0, .s, 0x0, 1, 0x4⟩,
  ⟨0x7C, .rc, 0x0, .s, 0x0, 1, 0x4⟩,
  ⟨0x80, .rc, 0x0, .s, 0x0, 1, 0x4⟩,
  ⟨0x84, .rc, 0x0, .s, 0x0, 1, 0x4⟩,
  ⟨0x88, .rc, 0x0, .s, 0x0, 1, 0x4⟩,
  ⟨0x8C, .rc, 0x0, .s, 0x0, 1, 0x4⟩,
  ⟨0x90, .rc, 0x0, .s, 0x0, 1, 0x4⟩,
  ⟨0x100, .rw, 0x1, .s, 0x37FFF, 29, 0x4⟩,
  ⟨0x180, .rw, 0x0, .s, 0x3FFFFFFF, 29, 0x4⟩]

/-- Register rows of page kind Sflt. -/
def rowsSflt : List RegRow := [
  ⟨0x40, .rw, 0x0, .s, 0xFFFFFFFF, 8, 0x4⟩,
  ⟨0x60, .wo, 0x0, .x, 0x0, 1, 0x4⟩,
  ⟨0x64, .ro, 0x0, .s, 0x0, 1, 0x4⟩,
  ⟨0x68, .ro, 0x0, .x, 0x0, 8, 0x4⟩,
  ⟨0x88, .ro, 0x0, .x, 0x0, 1, 0x4⟩,
  ⟨0x8C, .ro, 0x0, .x, 0x0, 1, 0x4⟩,
  ⟨0x90, .ro, 0x0, .x, 0x0, 1, 0x4⟩,
  ⟨0x94, .ro, 0x0, .s, 0x0, 1, 0x4⟩,
  ⟨0x98, .rc, 0x0, .s, 0x0, 1, 0x4⟩,
  ⟨0x9C, .rc, 0x0, .s, 0x0, 1, 0x4⟩]

/-- Register rows of page kind Mcg. -/
def rowsMcg : List RegRow := [
  ⟨0x40, .rw, 0x0, .s, 0xFFFFFFFF, 2, 0x4⟩,
  ⟨0x48, .wo, 0x0, .x, 0x0, 1, 0x4⟩,
  ⟨0x4C, .ro, 0x0, .s, 0x0, 1, 0x4⟩,
  ⟨0x50, .ro, 0x0, .x, 0x0, 2, 0x4⟩,
  ⟨0x58, .rc, 0x0, .s, 0x0, 1, 0x4⟩,
  ⟨0x5C, .ro, 0x0, .x, 0x0, 1, 0x4⟩,
  ⟨0x60, .rc, 0x0, .s, 0x0, 1, 0x4⟩,
  ⟨0x100, .rc, 0x0, .s, 0x0, 29, 0x4⟩,
  ⟨0x180, .rc, 0x0, .s, 0x0, 29, 0x4⟩]

/-- Register rows of page kind Mir. -/
def rowsMir : List RegRow := [
  ⟨0x100, .rw, 0x0, .s, 0x1FF, 4, 0x20⟩,
  ⟨0x104, .rw, 0x0, .s, 0x1FFFFFFF, 4, 0x20⟩,
  ⟨0x108, .rw, 0x0, .s, 0x1FFFFFFF, 4, 0x20⟩,
  ⟨0x10C, .rc, 0x0, .s, 0x0, 4, 0x20⟩,
  ⟨0x110, .rc, 0x0, .s, 0x0, 4, 0x20⟩]

/-- Register rows of page kind Fetch. -/
def rowsFetch : List RegRow := [
  ⟨0x100, .rw, 0x0, .s, 0x1FFFFF, 29, 0x10⟩,
  ⟨0x104, .ro, 0x0, .x, 0x0, 29, 0x10⟩,
  ⟨0x108, .rc, 0x0, .s, 0x0, 29, 0x10⟩,
  ⟨0x10C, .rc, 0x0, .s, 0x0, 29, 0x10⟩]

/-- Register rows of page kind Port. -/
def rowsPortA : List RegRow := [
  ⟨0x40, .rw, 0x0, .s, 0x7771, 1, 0x4⟩,
  ⟨0x44, .ro, 0x0, .x, 0x0, 1, 0x4⟩,
  ⟨0x48, .rw, 0x2400, .s, 0x3FFF, 1, 0x4⟩,
  ⟨0x4C, .ro, 0x0, .x, 0x0, 1, 0x4⟩,
  ⟨0x50, .ro, 0x0, .x, 0x0, 1, 0x4⟩,
  ⟨0x54, .rc, 0x0, .s, 0x0, 1, 0x4⟩,
  ⟨0x58, .rc, 0x0, .s, 0x0, 1, 0x4⟩,
  ⟨0x5C, .rc, 0x0, .s, 0x0, 1, 0x4⟩,
  ⟨0x60, .rc, 0x0, .s, 0x0, 1, 0x4⟩,
  ⟨0x64, .rc, 0x0, .s, 0x0, 1, 0x4⟩,
  ⟨0x68, .rc, 0x0, .s, 0x0, 1, 0x4⟩,
  ⟨0x70, .rw, 0x0, .s, 0x1FFFFFF, 1, 0x4⟩,
  ⟨0x74, .rw, 0x0, .s, 0xFFFF, 1, 0x4⟩,
  ⟨0x78, .rw, 0x0, .s, 0xFFFF, 1, 0x4⟩,
  ⟨0x7C, .ro, 0x0, .x, 0x0, 1, 0x4⟩,
  ⟨0x80, .ro, 0x0, .x, 0x0, 1, 0x4⟩,
  ⟨0x84, .rc, 0x0, .s, 0x0, 1, 0x4⟩,
  ⟨0x88, .rc, 0x0, .s, 0x0, 1, 0x4⟩,
  ⟨0x8C, .rc, 0x0, .s, 0x0, 1, 0x4⟩,
  ⟨0xA0, .wo, 0x0, .x, 0x0, 1, 0x4⟩]

/-- Register rows of page kind Port. -/
def rowsPortB : List RegRow := [
  ⟨0xA4, .ro, 0x0, .x, 0x0, 1, 0x4⟩,
  ⟨0xA8, .ro, 0x0, .x, 0x0, 4, 0x4⟩]

def rowsPort : List RegRow := rowsPortA ++ rowsPortB

/-- Register rows of page kind Sport. -/
def rowsSport : List RegRow := [
  ⟨0x40, .rw, 0x1, .a, 0x3, 1, 0x4⟩,
  ⟨0x44, .ro, 0x0, .x, 0x0, 1, 0x4⟩,
  ⟨0x48, .rwp, 0x0, .p, 0xFFFFFFFF, 1, 0x4⟩,
  ⟨0x4C, .rwp, 0x0, .p, 0xFFFF, 1, 0x4⟩,
  ⟨0x50, .rc, 0x0, .a, 0x0, 1, 0x4⟩,
  ⟨0x54, .rc, 0x0, .a, 0x0, 1, 0x4⟩]

/-- Register rows of page kind Fbio. -/
def rowsFbio : List RegRow := [
  ⟨0x40, .rw, 0x17801, .s, 0x1FFF01, 1, 0x4⟩,
  ⟨0x44, .rw, 0x0, .s, 0xFFFF, 1, 0x4⟩,
  ⟨0x48, .rw, 0x0, .s, 0xFFFFFFFF, 1, 0x4⟩,
  ⟨0x4C, .rw, 0x0, .s, 0xFFFF, 1, 0x4⟩,
  ⟨0x50, .rw, 0x0, .s, 0xFFFFFFFF, 1, 0x4⟩,
  ⟨0x54, .rw, 0x0, .s, 0xFFFF, 1, 0x4⟩,
  ⟨0x58, .rw, 0x0, .s, 0xFFFF, 1, 0x4⟩,
  ⟨0x5C, .rw, 0x0, .s, 0xFFFFFFFF, 1, 0x4⟩,
  ⟨0x60, .rw, 0x0, .s, 0xFFFFFFFF, 1, 0x4⟩,
  ⟨0x64, .rc, 0x0, .s, 0x0, 1, 0x4⟩,
  ⟨0x68, .rc, 0x0, .s, 0x0, 1, 0x4⟩,
  ⟨0x6C, .rc, 0x0, .s, 0x0, 1, 0x4⟩]

/-- Register rows of page kind Can. -/
def rowsCan : List RegRow := [
  ⟨0x40, .rw, 0x8, .s, 0xF1F, 1, 0x4⟩,
  ⟨0x44, .rw, 0x8103E04, .s, 0x7FFFFFFF, 1, 0x4⟩,
  ⟨0x48, .rw, 0x8103E01, .s, 0x7FFFFFFF, 1, 0x4⟩,
  ⟨0x4C, .rw, 0x2040A01, .s, 0x7FFFFFFF, 1, 0x4⟩,
  ⟨0x50, .ro, 0x0, .x, 0x0, 1, 0x4⟩,
  ⟨0x54, .rc, 0x0, .s, 0x0, 1, 0x4⟩,
  ⟨0x58, .rc, 0x0, .s, 0x0, 1, 0x4⟩,
  ⟨0x5C, .rc, 0x0, .s, 0x0, 1, 0x4⟩,
  ⟨0x60, .rc, 0x0, .s, 0x0, 1, 0x4⟩,
  ⟨0x64, .rc, 0x0, .s, 0x0, 1, 0x4⟩,
  ⟨0x68, .rc, 0x0, .s, 0x0, 1, 0x4⟩,
  ⟨0x70, .rw, 0x0, .a, 0x3FFFFFFF, 1, 0x4⟩,
  ⟨0x74, .rw, 0x0, .a, 0x1FFFFFFF, 1, 0x4⟩,
  ⟨0x78, .rw, 0x80, .a, 0xFF, 1, 0x4⟩,
  ⟨0x7C, .rw, 0x0, .a, 0xFFFFFFFF, 2, 0x4⟩,
  ⟨0x100, .rw, 0x0, .s, 0xBFFFFFFF, 64, 0x8⟩,
  ⟨0x104, .rw, 0x0, .s, 0x1FFFFFFF, 64, 0x8⟩]

/-- Register rows of page kind Lin. -/
def rowsLin : List RegRow := [
  ⟨0x40, .rw, 0x4B000000, .s, 0xFFFF0003, 1, 0x4⟩,
  ⟨0x44, .rc, 0x0, .s, 0x0, 1, 0x4⟩,
  ⟨0x48, .rc, 0x0, .s, 0x0, 1, 0x4⟩,
  ⟨0x4C, .rc, 0x0, .s, 0x0, 1, 0x4⟩,
  ⟨0x50, .ro, 0x0, .s, 0x0, 1, 0x4⟩,
  ⟨0x54, .w1c, 0x0, .s, 0xFFFFFFFF, 2, 0x4⟩,
  ⟨0x5C, .rw, 0x0, .s, 0xFFFFFFFF, 2, 0x4⟩]

/-- Register rows of page kind Di. -/
def rowsDi : List RegRow := [
  ⟨0x40, .ro, 0x0, .x, 0x0, 3, 0x4⟩,
  ⟨0x4C, .w1c, 0x0, .x, 0xFFFFFFFF, 3, 0x4⟩,
  ⟨0x100, .rw, 0x5, .a, 0xFFF, 96, 0x4⟩]

/-- Register rows of page kind Ai. -/
def rowsAi : List RegRow := [
  ⟨0x40, .rw, 0x0, .s, 0xFFFFFFFF, 1, 0x4⟩,
  ⟨0x44, .rw, 0x0, .s, 0xFFFF, 1, 0x4⟩,
  ⟨0x48, .rw, 0xA, .s, 0xFFFF, 1, 0x4⟩,
  ⟨0x4C, .wo, 0x0, .x, 0x0, 1, 0x4⟩,
  ⟨0x50, .rw, 0x0, .s, 0xFFFFFFFF, 1, 0x4⟩,
  ⟨0x54, .rw, 0x0, .s, 0xFFFF, 1, 0x4⟩,
  ⟨0x100, .ro, 0x0, .x, 0x0, 48, 0x4⟩]

/-- Register rows of page kind Enc. -/
def rowsEnc : List RegRow := [
  ⟨0x40, .ro, 0x0, .x, 0x0, 1, 0x4⟩,
  ⟨0x100, .rw, 0x1, .s, 0xF7, 16, 0x4⟩,
  ⟨0x140, .ro, 0x0, .x, 0x0, 16, 0x4⟩]

/-- Register rows of page kind Ls. -/
def rowsLs : List RegRow := [
  ⟨0x40, .ro, 0x0, .x, 0x0, 1, 0x4⟩,
  ⟨0x100, .rw, 0x1, .s, 0xF7, 4, 0x4⟩,
  ⟨0x120, .ro, 0x0, .x, 0x0, 4, 0x8⟩,
  ⟨0x124, .ro, 0x0, .x, 0x0, 4, 0x8⟩,
  ⟨0x140, .ro, 0x0, .x, 0x0, 4, 0x4⟩]

/-- Register rows of page kind Lh. -/
def rowsLh : List RegRow := [
  ⟨0x40, .ro, 0x0, .x, 0x0, 1, 0x4⟩,
  ⟨0x44, .ro, 0x0, .x, 0x0, 1, 0x4⟩]

/-- Register rows of page kind Vi0. -/
def rowsVi0 : List RegRow := [
  ⟨0x40, .wo, 0x0, .x, 0x0, 1, 0x4⟩,
  ⟨0x44, .ro, 0x0, .s, 0x0, 1, 0x4⟩,
  ⟨0x48, .rw, 0x0, .s, 0xFFFFF000, 1, 0x4⟩,
  ⟨0x4C, .rw, 0x0, .s, 0xFFFFFFFF, 1, 0x4⟩,
  ⟨0x50, .ro, 0x0, .s, 0x0, 1, 0x4⟩,
  ⟨0x54, .rw, 0x0, .s, 0x3FF, 1, 0x4⟩,
  ⟨0x58, .rw, 0x0, .s, 0x800003FF, 1, 0x4⟩,
  ⟨0x5C, .rc, 0x0, .s, 0x0, 1, 0x4⟩,
  ⟨0x60, .rw, 0x0, .s, 0x800003FF, 8, 0x4⟩,
  ⟨0x100, .rw, 0x0, .s, 0x7F7F7F7F, 64, 0x4⟩,
  ⟨0x200, .rw, 0x0, .s, 0x7F03FF, 128, 0x4⟩,
  ⟨0x400, .rw, 0x101, .s, 0xFFFF, 128, 0x10⟩,
  ⟨0x404, .rw, 0x0, .s, 0x7FFF, 128, 0x10⟩,
  ⟨0x408, .rw, 0x4000, .s, 0x1FFFFF, 128, 0x10⟩,
  ⟨0x40C, .ro, 0x4000, .s, 0x0, 128, 0x10⟩]

/-- Register rows of page kind Vi. -/
def rowsVi : List RegRow := [
  ⟨0x40, .ro, 0x0, .s, 0x0, 1, 0x4⟩,
  ⟨0x44, .rc, 0x0, .s, 0x0, 1, 0x4⟩,
  ⟨0x48, .rc, 0x0, .s, 0x0, 1, 0x4⟩,
  ⟨0x4C, .rc, 0x0, .s, 0x0, 1, 0x4⟩,
  ⟨0x50, .rc, 0x0, .s, 0x0, 1, 0x4⟩,
  ⟨0x60, .rw, 0x0, .x, 0x3F, 1, 0x4⟩,
  ⟨0x64, .rw, 0x0, .x, 0xFFFFFFFF, 1, 0x4⟩,
  ⟨0x68, .rw, 0x0, .x, 0xFFFFFFE0, 1, 0x4⟩,
  ⟨0x6C, .rw, 0x0, .x, 0xFFFFFFFF, 1, 0x4⟩,
  ⟨0x70, .rw, 0x0, .x, 0xFFFF, 1, 0x4⟩,
  ⟨0x74, .rw, 0x0, .x, 0xFFFF, 1, 0x4⟩,
  ⟨0x78, .rc, 0x0, .x, 0x0, 1, 0x4⟩,
  ⟨0x7C, .wo, 0x0, .x, 0x0, 1, 0x4⟩,
  ⟨0x80, .w1c, 0x0, .x, 0xFFFFFFFF, 2, 0x4⟩,
  ⟨0x88, .rw, 0x0, .x, 0xFFFFFFFF, 2, 0x4⟩,
  ⟨0x100, .wo, 0x0, .x, 0x0, 1, 0x4⟩,
  ⟨0x104, .ro, 0x0, .s, 0x0, 1, 0x4⟩]

/-- Register rows of page kind Span. -/
def rowsSpan : List RegRow := [
  ⟨0x40, .rw, 0x1, .s, 0x3, 1, 0x4⟩,
  ⟨0x44, .ro, 0x0, .x, 0x0, 1, 0x4⟩,
  ⟨0x48, .rw, 0x1F40064, .s, 0xFFFFFFFF, 1, 0x4⟩,
  ⟨0x50, .ro, 0x0, .x, 0x0, 1, 0x4⟩,
  ⟨0x54, .ro, 0x0, .s, 0x0, 3, 0x4⟩,
  ⟨0x60, .wo, 0x0, .x, 0x0, 1, 0x4⟩,
  ⟨0x64, .ro, 0x0, .s, 0x0, 1, 0x4⟩,
  ⟨0x68, .rc, 0x0, .s, 0x0, 1, 0x4⟩,
  ⟨0x6C, .rc, 0x0, .s, 0x0, 1, 0x4⟩,
  ⟨0x70, .rc, 0x0, .s, 0x0, 1, 0x4⟩,
  ⟨0x74, .rc, 0x0, .s, 0x0, 1, 0x4⟩,
  ⟨0x78, .ro, 0x0, .s, 0x0, 1, 0x4⟩,
  ⟨0x7C, .ro, 0x0, .s, 0x0, 1, 0x4⟩,
  ⟨0x80, .ro, 0x0, .s, 0x0, 1, 0x4⟩,
  ⟨0x84, .rc, 0x0, .s, 0x0, 1, 0x4⟩,
  ⟨0x88, .rc, 0x0, .s, 0x0, 1, 0x4⟩,
  ⟨0x8C, .rc, 0x0, .s, 0x0, 1, 0x4⟩,
  ⟨0x90, .rc, 0x0, .s, 0x0, 1, 0x4⟩]

/-- Register rows of page kind Spow. -/
def rowsSpow : List RegRow := [
  ⟨0x100, .rw, 0x0, .s, 0x3FFF7F7F, 32, 0x20⟩,
  ⟨0x104, .rw, 0x0, .s, 0xFFFFFFFF, 32, 0x20⟩,
  ⟨0x108, .rw, 0x0, .s, 0xFFFF0000, 32, 0x20⟩,
  ⟨0x10C, .rw, 0x0, .s, 0xFFFFFFFF, 32, 0x20⟩]

/-- Register rows of page kind Spiw. -/
def rowsSpiw : List RegRow := [
  ⟨0x100, .rw, 0x0, .s, 0x7FFF7FEF, 32, 0x20⟩,
  ⟨0x104, .rw, 0x0, .s, 0xFFFF, 32, 0x20⟩,
  ⟨0x108, .rw, 0x0, .s, 0xFFFF0000, 32, 0x20⟩,
  ⟨0x10C, .rw, 0x0, .s, 0xFFFFFFFF, 32, 0x20⟩,
  ⟨0x110, .rw, 0x0, .s, 0xFFFF0000, 32, 0x20⟩,
  ⟨0x114, .rw, 0x0, .s, 0xFFFFFFFF, 32, 0x20⟩]

/-- Register rows of page kind Intc. -/
def rowsIntc : List RegRow := [
  ⟨0x40, .rw, 0x0, .h, 0x3, 1, 0x4⟩,
  ⟨0x44, .wo, 0x0, .x, 0x0, 1, 0x4⟩,
  ⟨0x48, .rc, 0x0, .h, 0x0, 1, 0x4⟩,
  ⟨0x4C, .rc, 0x0, .h, 0x0, 1, 0x4⟩,
  ⟨0x50, .ro, 0x0, .x, 0x0, 1, 0x4⟩]

/-- Register rows of page kind IntcSrc. -/
def rowsIntcSrc : List RegRow := [
  ⟨0x100, .rw, 0x0, .h, 0x71F, 512, 0x4⟩]

/-- Register rows of page kind IntcHart. -/
def rowsIntcHart : List RegRow := [
  ⟨0x100, .rw, 0x0, .h, 0xF, 7, 0x20⟩,
  ⟨0x104, .rw, 0x0, .h, 0xF, 7, 0x20⟩,
  ⟨0x108, .rw, 0x0, .x, 0x0, 7, 0x20⟩,
  ⟨0x10C, .rw, 0x0, .x, 0x0, 7, 0x20⟩,
  ⟨0x110, .ro, 0x1, .x, 0x0, 7, 0x20⟩]

/-- Register rows of page kind IntcPend. -/
def rowsIntcPend : List RegRow := [
  ⟨0x100, .ro, 0x0, .x, 0x0, 32, 0x4⟩]

/-- Register rows of page kind Ec. -/
def rowsEc : List RegRow := [
  ⟨0x40, .rw, 0x0, .s, 0xFFFFFFFF, 1, 0x4⟩,
  ⟨0x44, .w1c, 0x0, .x, 0xFFFFFFFF, 1, 0x4⟩,
  ⟨0x48, .rw, 0x0, .s, 0xFFFFFFFF, 1, 0x4⟩,
  ⟨0x4C, .rw, 0x0, .s, 0x11F, 1, 0x4⟩,
  ⟨0x50, .w1c, 0x0, .x, 0x1, 1, 0x4⟩,
  ⟨0x54, .ro, 0x0, .x, 0x0, 1, 0x4⟩,
  ⟨0x58, .ro, 0x0, .x, 0x0, 1, 0x4⟩,
  ⟨0x5C, .ro, 0x0, .x, 0x0, 1, 0x4⟩,
  ⟨0x100, .rw, 0x0, .s, 0xFFFF, 32, 0x20⟩,
  ⟨0x104, .rw, 0x0, .x, 0xFFFFFFFF, 32, 0x20⟩,
  ⟨0x108, .rw, 0x0, .x, 0xFFFF, 32, 0x20⟩,
  ⟨0x10C, .ro, 0x0, .x, 0x0, 32, 0x20⟩,
  ⟨0x110, .ro, 0x0, .x, 0x0, 32, 0x20⟩]

/-- Register rows of page kind Ciph. -/
def rowsCiph : List RegRow := [
  ⟨0x40, .wo, 0x0, .x, 0x0, 1, 0x4⟩,
  ⟨0x44, .ro, 0x0, .a, 0x0, 1, 0x4⟩,
  ⟨0x48, .wo, 0x0, .x, 0x0, 1, 0x4⟩,
  ⟨0x4C, .ro, 0x0, .a, 0x0, 1, 0x4⟩,
  ⟨0x50, .rc, 0x0, .s, 0x0, 1, 0x4⟩,
  ⟨0x54, .rc, 0x0, .s, 0x0, 1, 0x4⟩,
  ⟨0x58, .rc, 0x0, .s, 0x0, 1, 0x4⟩,
  ⟨0x5C, .rc, 0x0, .s, 0x0, 1, 0x4⟩,
  ⟨0x60, .rc, 0x0, .s, 0x0, 1, 0x4⟩,
  ⟨0x64, .rc, 0x0, .s, 0x0, 1, 0x4⟩,
  ⟨0x68, .ro, 0x0, .x, 0x0, 1, 0x4⟩]

/-- Register rows of page kind Lane. -/
def rowsLane : List RegRow := [
  ⟨0x40, .ro, 0x0, .x, 0x0, 1, 0x4⟩,
  ⟨0x44, .ro, 0x0, .x, 0x0, 1, 0x4⟩,
  ⟨0x48, .rc, 0x0, .s, 0x0, 1, 0x4⟩,
  ⟨0x4C, .rc, 0x0, .s, 0x0, 1, 0x4⟩]

/-- Register rows of page kind Trng. -/
def rowsTrng : List RegRow := [
  ⟨0x40, .ro, 0x0, .x, 0x0, 1, 0x4⟩,
  ⟨0x44, .rc, 0x0, .s, 0x0, 1, 0x4⟩,
  ⟨0x48, .rc, 0x0, .s, 0x0, 1, 0x4⟩,
  ⟨0x4C, .ro, 0x0, .x, 0x0, 1, 0x4⟩]

/-- Register rows of page kind Ctxp. -/
def rowsCtxp : List RegRow := [
  ⟨0x100, .ro, 0x0, .s, 0x0, 256, 0x4⟩]

/-- Register rows of page kind Msec. -/
def rowsMsec : List RegRow := [
  ⟨0x40, .rw, 0x0, .s, 0x33F, 1, 0x4⟩,
  ⟨0x44, .rw, 0x0, .s, 0xFFFFFFFF, 1, 0x4⟩,
  ⟨0x48, .rw, 0x0, .s, 0xFFFFFFFF, 1, 0x4⟩,
  ⟨0x4C, .rw, 0xC0000000, .s, 0xFFFFFFFF, 1, 0x4⟩,
  ⟨0x50, .rw, 0x0, .s, 0x11F, 1, 0x4⟩,
  ⟨0x54, .rw, 0x0, .s, 0x1FF, 1, 0x4⟩,
  ⟨0x58, .rw, 0x0, .s, 0xFFFFFFFF, 1, 0x4⟩,
  ⟨0x5C, .rw, 0x0, .s, 0xFFFFFFFF, 3, 0x4⟩,
  ⟨0x68, .rw, 0x1, .s, 0xFFFFFFFF, 1, 0x4⟩,
  ⟨0x6C, .rw, 0x0, .s, 0xFFFFFFFF, 1, 0x4⟩,
  ⟨0x70, .rw, 0x0, .s, 0xFFFFFFFF, 1, 0x4⟩,
  ⟨0x74, .rw, 0x0, .s, 0xFFFFFFFF, 1, 0x4⟩,
  ⟨0x78, .rw, 0x0, .s, 0x1, 1, 0x4⟩,
  ⟨0x80, .rc, 0x0, .s, 0x0, 1, 0x4⟩,
  ⟨0x84, .rc, 0x0, .s, 0x0, 1, 0x4⟩,
  ⟨0x88, .rc, 0x0, .s, 0x0, 1, 0x4⟩,
  ⟨0x8C, .rc, 0x0, .s, 0x0, 1, 0x4⟩,
  ⟨0x90, .rc, 0x0, .s, 0x0, 1, 0x4⟩,
  ⟨0x94, .rc, 0x0, .s, 0x0, 1, 0x4⟩]

/-- Register rows of page kind Keys. -/
def rowsKeys : List RegRow := [
  ⟨0x40, .wo, 0x0, .x, 0x0, 1, 0x4⟩,
  ⟨0x44, .ro, 0x0, .s, 0x0, 1, 0x4⟩,
  ⟨0x48, .rw, 0x0, .x, 0xFFFFFFFF, 1, 0x4⟩,
  ⟨0x4C, .rw, 0x0, .x, 0xFFFFFFFF, 1, 0x4⟩,
  ⟨0x50, .wo, 0x0, .x, 0x0, 8, 0x4⟩,
  ⟨0x70, .rw, 0x0, .x, 0xFFFFFFFF, 4, 0x4⟩,
  ⟨0x80, .rw, 0x0, .x, 0xFFFFFFFF, 8, 0x4⟩,
  ⟨0xA0, .rw, 0x1, .x, 0x3F1F, 1, 0x4⟩,
  ⟨0xA4, .ro, 0x0, .x, 0x0, 1, 0x4⟩,
  ⟨0xA8, .ro, 0x0, .x, 0x0, 1, 0x4⟩,
  ⟨0xAC, .ro, 0x0, .x, 0x0, 1, 0x4⟩,
  ⟨0xB0, .rc, 0x0, .s, 0x0, 1, 0x4⟩,
  ⟨0xB4, .rc, 0x0, .s, 0x0, 1, 0x4⟩,
  ⟨0xB8, .ro, 0x0, .x, 0x0, 1, 0x4⟩,
  ⟨0x100, .ro, 0x0, .s, 0x0, 8, 0x4⟩,
  ⟨0x120, .ro, 0x0, .x, 0x0, 8, 0x4⟩,
  ⟨0x140, .ro, 0x0, .x, 0x0, 8, 0x4⟩]

/-- Register rows of page kind Vault. -/
def rowsVault : List RegRow := [
  ⟨0x40, .ro, 0x0, .x, 0x0, 1, 0x4⟩,
  ⟨0x44, .ro, 0x0, .a, 0x0, 1, 0x4⟩,
  ⟨0x48, .ro, 0x0, .p, 0x0, 1, 0x4⟩,
  ⟨0x4C, .ro, 0x0, .x, 0x0, 1, 0x4⟩,
  ⟨0x50, .wo, 0x0, .x, 0x0, 1, 0x4⟩,
  ⟨0x54, .ro, 0x0, .a, 0x0, 1, 0x4⟩,
  ⟨0x58, .ro, 0x0, .p, 0x0, 1, 0x4⟩,
  ⟨0x60, .ro, 0x0, .s, 0x0, 12, 0x4⟩]

/-- Register rows of page kind Shep. -/
def rowsShepA : List RegRow := [
  ⟨0x40, .ro, 0x0, .x, 0x0, 1, 0x4⟩,
  ⟨0x44, .ro, 0x0, .p, 0x0, 1, 0x4⟩,
  ⟨0x48, .ro, 0x0, .p, 0x0, 1, 0x4⟩,
  ⟨0x4C, .ro, 0x0, .p, 0x0, 1, 0x4⟩,
  ⟨0x50, .ro, 0x0, .p, 0x0, 1, 0x4⟩,
  ⟨0x54, .ro, 0x0, .p, 0x0, 1, 0x4⟩,
  ⟨0x58, .ro, 0x0, .p, 0x0, 1, 0x4⟩,
  ⟨0x5C, .ro, 0x0, .p, 0x0, 1, 0x4⟩,
  ⟨0x60, .rwp, 0x0, .p, 0x8000FFFF, 8, 0x4⟩,
  ⟨0x80, .rwp, 0x7D0, .p, 0xFFFF, 1, 0x4⟩,
  ⟨0x84, .wo, 0x0, .x, 0x0, 1, 0x4⟩,
  ⟨0x88, .ro, 0x0, .x, 0x0, 1, 0x4⟩,
  ⟨0x8C, .ro, 0x60, .p, 0x0, 1, 0x4⟩,
  ⟨0x90, .ro, 0x0, .p, 0x0, 1, 0x4⟩,
  ⟨0x94, .ro, 0x0, .p, 0x0, 1, 0x4⟩,
  ⟨0x98, .rwp, 0x0, .p, 0xFFFFFFFF, 1, 0x4⟩,
  ⟨0x9C, .rwp, 0x0, .p, 0xFFFFFFFF, 1, 0x4⟩,
  ⟨0xA0, .rwp, 0x0, .p, 0xFFFF, 1, 0x4⟩,
  ⟨0xA4, .rc, 0x0, .a, 0x0, 1, 0x4⟩,
  ⟨0xA8, .rc, 0x0, .a, 0x0, 1, 0x4⟩]

/-- Register rows of page kind Shep. -/
def rowsShepB : List RegRow := [
  ⟨0xAC, .rc, 0x0, .a, 0x0, 1, 0x4⟩,
  ⟨0x200, .rw, 0x0, .a, 0xFFFFFFFF, 8, 0x4⟩,
  ⟨0x220, .wo, 0x0, .x, 0x0, 1, 0x4⟩,
  ⟨0x224, .ro, 0x0, .a, 0x0, 1, 0x4⟩,
  ⟨0x240, .ro, 0x0, .a, 0x0, 8, 0x4⟩,
  ⟨0x260, .wo, 0x0, .x, 0x0, 1, 0x4⟩,
  ⟨0x264, .ro, 0x0, .a, 0x0, 1, 0x4⟩,
  ⟨0x100, .rwp, 0x0, .p, 0xFFFFFFFF, 24, 0x4⟩,
  ⟨0x160, .rwp, 0x0, .p, 0xFFFFFFFF, 24, 0x4⟩]

def rowsShep : List RegRow := rowsShepA ++ rowsShepB

/-- The block registers of a page kind (those of the header aside). -/
def PageKind.rows : PageKind → List RegRow
  | .sys => rowsSys
  | .dir => rowsDir
  | .dirtab => rowsDirtab
  | .msg => rowsMsg
  | .tb => rowsTb
  | .clk => rowsClk
  | .tbcor => rowsTbcor
  | .tbcap => rowsTbcap
  | .hrn => rowsHrn
  | .dom => rowsDom
  | .evt => rowsEvt
  | .tpo => rowsTpo
  | .tile => rowsTile
  | .chan => rowsChan
  | .sadc => rowsSadc
  | .cg => rowsCg
  | .half => rowsHalf
  | .local => rowsLocal
  | .pwr => rowsPwr
  | .pdc => rowsPdc
  | .safe => rowsSafe
  | .lsp => rowsLsp
  | .sw => rowsSw
  | .frsv => rowsFrsv
  | .eq => rowsEq
  | .fwd => rowsFwd
  | .sflt => rowsSflt
  | .mcg => rowsMcg
  | .mir => rowsMir
  | .fetch => rowsFetch
  | .port => rowsPort
  | .sport => rowsSport
  | .fbio => rowsFbio
  | .can => rowsCan
  | .lin => rowsLin
  | .di => rowsDi
  | .ai => rowsAi
  | .enc => rowsEnc
  | .ls => rowsLs
  | .lh => rowsLh
  | .vi0 => rowsVi0
  | .vi => rowsVi
  | .span => rowsSpan
  | .spow => rowsSpow
  | .spiw => rowsSpiw
  | .intc => rowsIntc
  | .intcSrc => rowsIntcSrc
  | .intcHart => rowsIntcHart
  | .intcPend => rowsIntcPend
  | .ec => rowsEc
  | .ciph => rowsCiph
  | .lane => rowsLane
  | .trng => rowsTrng
  | .ctxp => rowsCtxp
  | .msec => rowsMsec
  | .keys => rowsKeys
  | .vault => rowsVault
  | .shep => rowsShep
  | .absent => []
/-- One register page: its kind, its index among the pages of that kind, the key of its first register and the key of
the first register of its unit's primary page (R19). -/
structure Page where
  kind : PageKind
  idx : Nat
  base : Nat
  prim : Nat
  deriving DecidableEq, Repr

/-- A key of the register file is `bank * 2^32 + address`. Bank 0 is the map both halves and Shepherd see, with Half
A's half-local pages and, of banked registers, Half A's bank; bank 1 is Half B's half-local pages and Half B's bank;
bank 2 is the drive tiles' own copies of the tile-held registers; bank 3 is Shepherd's bank of banked registers; bank
4 holds shadow words the map does not show; bank 5 holds the queue pages EQ16 to EQ20, which no address reaches. -/
def bank (b k : Nat) : Nat := b * 0x100000000 + k

def sysBase : Nat := 0x40000000
def halfBase (h : Nat) : Nat := 0x40001000 + 0x1000 * h
def shepBase : Nat := 0x40003000
def hrnBase : Nat := 0x40100000
def domBase (d : Nat) : Nat := 0x40101000 + 0x1000 * d
def tpoBase : Nat := 0x40111000
def evtBase (k : Nat) : Nat := 0x40120000 + 0x1000 * k
def sadcBase (t : Nat) : Nat := 0x40140000 + 0x1000 * t
def tileBase (t : Nat) : Nat := 0x40200000 + 0x20000 * t
def chanBase (n : Nat) : Nat := 0x40200000 + 0x20000 * (n / 16) + 0x1000 * (n % 16 + 1)
def swBase : Nat := 0x40300000
def frsvBase : Nat := 0x40301000
/-- EQp (R387). The pages of p = 16 to 20 would lie where R424 puts FWD to FETCH; they are kept in bank 5. -/
def eqBase (p : Nat) : Nat :=
  if 16 ≤ p ∧ p ≤ 20 then bank 5 (0x40310000 + 0x1000 * p) else 0x40310000 + 0x1000 * p
def fwdBase : Nat := 0x40320000
def sfltBase : Nat := 0x40321000
def mcgBase : Nat := 0x40322000
def mirBase : Nat := 0x40323000
def fetchBase : Nat := 0x40324000
def portBase (n : Nat) : Nat := 0x40400000 + 0x1000 * n
def sportBase : Nat := 0x40420000
def fbioBase : Nat := 0x40500000
def canBase (k : Nat) : Nat := 0x40501000 + 0x1000 * k
def linBase (k : Nat) : Nat := 0x40510000 + 0x1000 * k
def diBase : Nat := 0x40520000
def aiBase : Nat := 0x40521000
def encBase : Nat := 0x40522000
def lsBase : Nat := 0x40523000
def lhBase : Nat := 0x40524000
def ciphBase : Nat := 0x40600000
def laneBase (k : Nat) : Nat := 0x40601000 + 0x1000 * k
def trngBase : Nat := 0x40605000
def ctxBase : Nat := 0x40606000
def msecBase (p : Nat) : Nat := 0x40610000 + 0x1000 * p
def keysBase : Nat := 0x40640000
def vaultBase : Nat := 0x40650000
def spanBase : Nat := 0x40700000
def spowBase : Nat := 0x40701000
def spiwBase : Nat := 0x40702000
def viBase (n : Nat) : Nat := 0x40800000 + 0x1000 * n
def safeBase : Nat := 0x40900000
def lspBase (x : Nat) : Nat := 0x40901000 + 0x1000 * x
def intcBase (h : Nat) : Nat := 0x40A00000 + 0x10000 * h
def pwrBase : Nat := 0x40B00000
def pdcBase : Nat := 0x40B01000
def tbBase : Nat := 0x40C00000
def clkBase (k : Nat) : Nat := 0x40C01000 + 0x1000 * k
def tbcorBase : Nat := 0x40C03000
def tbcapBase (h : Nat) : Nat := 0x40C04000 + 0x1000 * h
def ecBase (b : Nat) : Nat := 0x40D00000 + 0x1000 * b
/-- The half-local pages, each half's in its own bank (R17). -/
def localBase (h : Nat) : Nat := bank h 0x40E00000
def msgBase (h : Nat) : Nat := bank h 0x40E01000
def dirBase : Nat := 0x40F00000
def dirtabBase : Nat := 0x40F10000
def cgBase (g : Nat) : Nat := 0x40F20000 + 0x1000 * g

/-- A page that is its unit's primary page. -/
def Page.own (k : PageKind) (i b : Nat) : Page := ⟨k, i, b, b⟩

/-- The page an address lies in, seen from `view` (0 Half A and Shepherd, 1 Half B); none where no page is defined
(R5, R17). DESIGN CHOICE (log entry 23): R387 lays EQ16 to EQ28 over 0x4032_0000 to 0x4032_CFFF and R424 ends all but its five
pages there with a bus error; the five are R424's, and EQ21 to EQ28 are answered at R387's addresses. -/
def pageOf (view addr : Nat) : Option Page :=
  let n := addr / 0x1000
  if n < 0x40000 ∨ 0x41000 ≤ n then none
  else
    let n := n - 0x40000
    if n < 0x200 then
      if n = 0 then some (.own .sys 0 sysBase)
      else if n ≤ 2 then some (.own .half (n - 1) (halfBase (n - 1)))
      else if n = 3 then some (.own .shep 0 shepBase)
      else if n < 0x100 then none
      else if n = 0x100 then some (.own .hrn 0 hrnBase)
      else if n ≤ 0x110 then some (.own .dom (n - 0x101) (domBase (n - 0x101)))
      else if n = 0x111 then some ⟨.tpo, 0, tpoBase, hrnBase⟩
      else if n < 0x120 then none
      else if n < 0x140 then some ⟨.evt, n - 0x120, evtBase (n - 0x120), hrnBase⟩
      else if n < 0x148 then some ⟨.sadc, n - 0x140, sadcBase (n - 0x140), sadcBase 0⟩
      else none
    else if n < 0x300 then
      let t := (n - 0x200) / 0x20
      let r := (n - 0x200) % 0x20
      if r = 0 then some (.own .tile t (tileBase t))
      else if r ≤ 16 then some (.own .chan (16 * t + (r - 1)) (chanBase (16 * t + (r - 1))))
      else none
    else if n < 0x400 then
      if n = 0x300 then some (.own .sw 0 swBase)
      else if n = 0x301 then some ⟨.frsv, 0, frsvBase, swBase⟩
      else if n < 0x310 then none
      else if n < 0x320 then some ⟨.eq, n - 0x310, eqBase (n - 0x310), swBase⟩
      else if n = 0x320 then some ⟨.fwd, 0, fwdBase, swBase⟩
      else if n = 0x321 then some ⟨.sflt, 0, sfltBase, swBase⟩
      else if n = 0x322 then some ⟨.mcg, 0, mcgBase, swBase⟩
      else if n = 0x323 then some ⟨.mir, 0, mirBase, swBase⟩
      else if n = 0x324 then some ⟨.fetch, 0, fetchBase, swBase⟩
      else if n ≤ 0x32C then some ⟨.eq, n - 0x310, eqBase (n - 0x310), swBase⟩
      else none
    else if n < 0x500 then
      if n ≤ 0x41C then some (.own .port (n - 0x400) (portBase (n - 0x400)))
      else if n < 0x420 then some (.own .absent (n - 0x400) (portBase (n - 0x400)))
      else if n = 0x420 then some (.own .sport 0 sportBase)
      else none
    else if n < 0x600 then
      if n = 0x500 then some (.own .fbio 0 fbioBase)
      else if n ≤ 0x50C then some (.own .can (n - 0x501) (canBase (n - 0x501)))
      else if n < 0x510 then none
      else if n < 0x518 then some (.own .lin (n - 0x510) (linBase (n - 0x510)))
      else if n < 0x520 then none
      else if n = 0x520 then some (.own .di 0 diBase)
      else if n = 0x521 then some (.own .ai 0 aiBase)
      else if n = 0x522 then some (.own .enc 0 encBase)
      else if n = 0x523 then some (.own .ls 0 lsBase)
      else if n = 0x524 then some (.own .lh 0 lhBase)
      else none
    else if n < 0x700 then
      if n = 0x600 then some (.own .ciph 0 ciphBase)
      else if n < 0x605 then some (.own .lane (n - 0x601) (laneBase (n - 0x601)))
      else if n = 0x605 then some ⟨.trng, 0, trngBase, ciphBase⟩
      else if n = 0x606 then some ⟨.ctxp, 0, ctxBase, ciphBase⟩
      else if n < 0x610 then none
      else if n < 0x616 then some ⟨.msec, n - 0x610, msecBase (n - 0x610), ciphBase⟩
      else if n = 0x640 then some ⟨.keys, 0, keysBase, ciphBase⟩
      else if n = 0x650 then some ⟨.vault, 0, vaultBase, ciphBase⟩
      else none
    else if n < 0x800 then
      if n = 0x700 then some (.own .span 0 spanBase)
      else if n = 0x701 then some ⟨.spow, 0, spowBase, spanBase⟩
      else if n = 0x702 then some ⟨.spiw, 0, spiwBase, spanBase⟩
      else none
    else if n < 0x900 then
      if n = 0x800 then some (.own .vi0 0 (viBase 0))
      else if n < 0x880 then some (.own .vi (n - 0x800) (viBase (n - 0x800)))
      else none
    else if n < 0xB00 then
      if n = 0x900 then some (.own .safe 0 safeBase)
      else if n < 0x907 then some ⟨.lsp, n - 0x901, lspBase (n - 0x901), safeBase⟩
      else if n < 0xA00 then none
      else
        let h := (n - 0xA00) / 0x10
        let r := (n - 0xA00) % 0x10
        if 2 ≤ h then none
        else if r = 0 then some (.own .intc h (intcBase h))
        else if r ≤ 2 then some ⟨.intcSrc, 2 * h + (r - 1), intcBase h + 0x1000 * r, intcBase h⟩
        else if r = 3 then some ⟨.intcHart, h, intcBase h + 0x3000, intcBase h⟩
        else if r = 4 then some ⟨.intcPend, h, intcBase h + 0x4000, intcBase h⟩
        else none
    else if n < 0xE00 then
      if n = 0xB00 then some (.own .pwr 0 pwrBase)
      else if n = 0xB01 then some ⟨.pdc, 0, pdcBase, pwrBase⟩
      else if n < 0xC00 then none
      else if n = 0xC00 then some (.own .tb 0 tbBase)
      else if n ≤ 0xC02 then some ⟨.clk, n - 0xC01, clkBase (n - 0xC01), tbBase⟩
      else if n = 0xC03 then some ⟨.tbcor, 0, tbcorBase, tbBase⟩
      else if n ≤ 0xC05 then some ⟨.tbcap, n - 0xC04, tbcapBase (n - 0xC04), tbBase⟩
      else if n < 0xD00 then none
      else if n = 0xD00 then some (.own .ec 0 (ecBase 0))
      else if n < 0xD04 then some ⟨.ec, n - 0xD00, ecBase (n - 0xD00), ecBase 0⟩
      else none
    else
      if n = 0xE00 then some (.own .local view (localBase view))
      else if n = 0xE01 then some (.own .msg view (msgBase view))
      else if n < 0xF00 then none
      else if n = 0xF00 then some (.own .dir 0 dirBase)
      else if n < 0xF10 then none
      else if n < 0xF20 then some ⟨.dirtab, n - 0xF10, dirtabBase + 0x1000 * (n - 0xF10), dirBase⟩
      else if n < 0xF60 then some (.own .cg (n - 0xF20) (cgBase (n - 0xF20)))
      else none

/-- Whether a page is the primary page of its unit, or one of the half-local pages, which keep their own status and
interrupt registers (R19, R650). -/
def Page.isPrimary (p : Page) : Bool := p.base == p.prim

/-- Local number of the unit a page belongs to (R20, R650). -/
def Page.localNum (p : Page) : Nat :=
  match p.kind with
  | .sys => 0x001
  | .half | .local | .msg => 0x002 + p.idx
  | .shep => 0x004
  | .hrn | .tpo | .evt => 0x010
  | .sw | .frsv | .eq | .fwd | .sflt | .mcg | .mir | .fetch => 0x011
  | .fbio => 0x012
  | .ciph | .trng | .ctxp | .msec | .keys | .vault => 0x013
  | .span | .spow | .spiw => 0x014
  | .dir | .dirtab => 0x015
  | .safe | .lsp => 0x016
  | .intc | .intcHart | .intcPend => 0x017 + p.idx
  | .intcSrc => 0x017 + p.idx / 2
  | .pwr | .pdc => 0x019
  | .tb | .clk | .tbcor | .tbcap => 0x01A
  | .ec => 0x01B
  | .sadc => 0x01C
  | .tile => 0x020 + p.idx
  | .port => 0x040 + p.idx
  | .sport => 0x060
  | .can => 0x070 + p.idx
  | .lin => 0x080 + p.idx
  | .di => 0x088 | .ai => 0x089 | .enc => 0x08A | .ls => 0x08B | .lh => 0x08C
  | .dom => 0x090 + p.idx
  | .lane => 0x0A0 + p.idx
  | .cg => 0x0C0 + p.idx
  | .chan => 0x100 + p.idx
  | .vi0 | .vi => 0x200 + p.idx
  | .absent => 0

/-- Page key and kind of the primary page of the unit with a local number (R20), or none where no unit has it. -/
def unitPage (l : Nat) : Option Page :=
  if l = 1 then pageOf 0 sysBase
  else if l = 2 ∨ l = 3 then pageOf 0 (halfBase (l - 2))
  else if l = 4 then pageOf 0 shepBase
  else if l = 0x10 then pageOf 0 hrnBase
  else if l = 0x11 then pageOf 0 swBase
  else if l = 0x12 then pageOf 0 fbioBase
  else if l = 0x13 then pageOf 0 ciphBase
  else if l = 0x14 then pageOf 0 spanBase
  else if l = 0x15 then pageOf 0 dirBase
  else if l = 0x16 then pageOf 0 safeBase
  else if l = 0x17 ∨ l = 0x18 then pageOf 0 (intcBase (l - 0x17))
  else if l = 0x19 then pageOf 0 pwrBase
  else if l = 0x1A then pageOf 0 tbBase
  else if l = 0x1B then pageOf 0 (ecBase 0)
  else if l = 0x1C then pageOf 0 (sadcBase 0)
  else if 0x20 ≤ l ∧ l < 0x28 then pageOf 0 (tileBase (l - 0x20))
  else if 0x40 ≤ l ∧ l < 0x5D then pageOf 0 (portBase (l - 0x40))
  else if l = 0x60 then pageOf 0 sportBase
  else if 0x70 ≤ l ∧ l < 0x7C then pageOf 0 (canBase (l - 0x70))
  else if 0x80 ≤ l ∧ l < 0x88 then pageOf 0 (linBase (l - 0x80))
  else if 0x88 ≤ l ∧ l < 0x8D then pageOf 0 (diBase + 0x1000 * (l - 0x88))
  else if 0x90 ≤ l ∧ l < 0xA0 then pageOf 0 (domBase (l - 0x90))
  else if 0xA0 ≤ l ∧ l < 0xA4 then pageOf 0 (laneBase (l - 0xA0))
  else if 0xC0 ≤ l ∧ l < 0x100 then pageOf 0 (cgBase (l - 0xC0))
  else if 0x100 ≤ l ∧ l < 0x180 then pageOf 0 (chanBase (l - 0x100))
  else if 0x200 ≤ l ∧ l < 0x280 then pageOf 0 (viBase (l - 0x200))
  else none

/-- Unit type code of a local number (R20, R22). -/
def unitType (l : Nat) : Nat :=
  if l = 1 then 0x01
  else if l = 2 ∨ l = 3 then 0x02
  else if l = 4 then 0x03
  else if 0x10 ≤ l ∧ l ≤ 0x1C then 0x04
  else if 0x20 ≤ l ∧ l < 0x28 then 0x05
  else if (0x40 ≤ l ∧ l < 0x5D) ∨ l = 0x60 then 0x08
  else if 0x70 ≤ l ∧ l < 0x7C then 0x09
  else if 0x80 ≤ l ∧ l < 0x88 then 0x0A
  else if 0x88 ≤ l ∧ l < 0x8D then 0x0B
  else if 0x90 ≤ l ∧ l < 0xA0 then 0x0D
  else if 0xA0 ≤ l ∧ l < 0xA4 then 0x0E
  else if 0xC0 ≤ l ∧ l < 0x100 then 0x07
  else if 0x100 ≤ l ∧ l < 0x180 then 0x06
  else if 0x200 ≤ l ∧ l < 0x280 then 0x0C
  else 0x00

/-- Local number of the structural parent of a unit (R20). -/
def unitParent (l : Nat) : Nat :=
  if l ≤ 1 then 0
  else if l < 0x40 then 1
  else if l < 0x5D then 0x11
  else if l = 0x60 then 4
  else if l < 0x8D then 0x12
  else if l < 0xA0 then 0x10
  else if l < 0xA4 then 0x13
  else if l < 0x100 then 0x15
  else if l < 0x180 then 0x20 + (l - 0x100) / 16
  else 1

/-- UNIT_ID as R21 lays it out. -/
def unitId (l : Nat) : Nat :=
  if unitType l = 0 then 0 else unitParent l * 0x100000 + unitType l * 0x1000 + l

/-- Nominal current of channel n in 100 mA units (R155, R193). -/
def chanInom (n : Nat) : Nat :=
  if n % 16 < 2 then 400 else if n % 16 < 8 then 150 else 40

/-- Class code of channel n: 0 H, 1 M, 2 L (R155, R193). -/
def chanClass (n : Nat) : Nat :=
  if n % 16 < 2 then 0 else if n % 16 < 8 then 1 else 2

/-- UNIT_PARAM of a page (R649 and the registers sections of the chapters). Pages other than the primary page of a
unit read 0 (R19). -/
def Page.unitParam (p : Page) : Nat :=
  match p.kind with
  | .sys => 0x00000008
  | .half => 0x0001011C
  | .shep => 0x00000144
  | .hrn => 0x02221000
  | .dom => p.idx
  | .tile => if p.idx < 4 then 0x00086210 else 0x00086230
  | .chan => chanInom p.idx * 0x10000 + p.idx / 16 * 0x100 + p.idx % 16 * 0x10 + chanClass p.idx
  | .cg => 0x0001BF80
  | .sadc => if p.idx = 0 then 0x00020018 else 0
  | .sw => 0x08000220
  | .port =>
    (if p.idx < 2 then 0x61A81E00 else if p.idx < 6 then 0x27101E00 else if p.idx < 14 then 0x03E80E00
     else if p.idx < 22 then 0x00640600 else if p.idx < 26 then 0x000A0500 else if p.idx < 28 then 0x61A80000
     else 0x27100000) + p.idx
  | .sport => 0x00640000
  | .fbio => 0x0000008C
  | .safe => 0x000001B0
  | .intc => 0x0003FC00
  | .pwr => 0x0000208C
  | .tb => 0x0000EA06
  | .ec => if p.idx = 0 then 0x00100C38 else 0
  | .ciph => 0x00804034
  | .span => 0x00210820
  | .vi0 => 0x08080400
  | .vi => 0x00004000 + p.idx
  | _ => 0

/-- Reset value of OWNER of a page, as the chapters give it; 0 where a chapter states nothing (R23). -/
def Page.ownerReset (p : Page) : Nat :=
  match p.kind with
  | .sys | .local | .msg | .dir | .dirtab | .absent => 0
  | .half => if p.idx = 0 then 0x500 else 0x600
  | .shep | .sport => 0x001
  | .clk | .tbcor | .pwr | .pdc => 0x700
  | .tbcap => if p.idx = 0 then 0x100 else 0x200
  | .intc | .intcHart | .intcPend => if p.idx = 0 then 0x100 else 0x200
  | .intcSrc => if p.idx < 2 then 0x100 else 0x200
  | .ec => if p.idx = 0 then 0x100 else if p.idx = 1 then 0x200 else 0x300
  | .safe => 0x301
  | .lsp => if p.idx < 3 then 0x101 else 0x201
  | .trng => 0x301
  | .vault => 0x701
  | .vi => 2 * p.idx
  | _ => 0x300

/-- The bits of IRQ_RAW a page defines: the common ones of R29 and the type-specific ones of its chapter. The others
are reserved (R9). -/
def Page.irqMask (p : Page) : Nat :=
  0x3F + 0x10000 *
  (match p.kind with
  | .tb => 0x1FF | .hrn => 0x7F | .dom => 0x1F | .tile => 0x7FF | .chan => 0x1DFF | .cg => 0x3
  | .sadc => 0x3FF | .half => 0x7FF | .local => 0x3 | .pwr => 0x7F | .safe => 0x7 | .sw => 0xFF
  | .port => 0x3F | .can => 0x7 | .lin => 0x3 | .di => 0x1 | .lh => 0x1 | .vi0 => 0x7 | .vi => 0x1
  | .span => 0x1F | .intc => 0x3 | .ciph => 0xF07F | .shep => 0x7F | .sport => 0x1
  | _ => 0)

/-- Port type slot corrections as shipped, ING and EGR in 1/16 ns (R81, R82). -/
def corShipped (port slot : Nat) : Nat × Nat :=
  if port < 2 then (if slot = 0 then (7781, 4782) else (0, 0))
  else if port < 6 then
    (if slot = 0 then (19272, 13796) else if slot = 1 then (11874, 8241) else (8300, 5783))
  else if slot ≠ 0 then (0, 0)
  else if port < 14 then (16576, 9352)
  else if port < 22 then (22592, 11008)
  else if port < 26 then (84960, 62800)
  else (200, 200)

/-- The row of a register table an offset falls in, with the index within an array. -/
def findRow (rows : List RegRow) (off : Nat) : Option (RegRow × Nat) :=
  match rows with
  | [] => none
  | r :: rs =>
    if r.off ≤ off ∧ (off - r.off) % r.stride = 0 ∧ (off - r.off) / r.stride < r.cnt then
      some (r, (off - r.off) / r.stride)
    else findRow rs off

/-- Whether a page kind has the common page header: all but the directory table (R18). -/
def Page.hasHeader (p : Page) : Bool := p.kind != .dirtab

/-- Offsets a page's registers do not have although its kind's table lists them: counters beyond a bank's number
(R530: 16 in ECSW, 8 in ECHRN), PLCA registers outside P22 to P25 and TDR registers on P26 to P28 (R440), the feed
monitor outside SADC0 (R253), and the switch ports without preemption (R392). -/
def Page.lacks (p : Page) (off : Nat) : Bool :=
  match p.kind with
  | .ec => (p.idx == 2 && decide (0x100 + 0x20 * 16 ≤ off)) || (p.idx == 3 && decide (0x100 + 0x20 * 8 ≤ off))
  | .port =>
    (decide (0x070 ≤ off ∧ off < 0x090) && !(decide (22 ≤ p.idx ∧ p.idx < 26))) ||
    (decide (0x0A0 ≤ off ∧ off < 0x0B8) && decide (26 ≤ p.idx))
  | .eq => (off == 0x040) && decide (14 ≤ p.idx)
  | .sadc => p.idx != 0 && decide (0x100 ≤ off)
  | .absent => true
  | _ => false

/-- The register row at an offset of a page: a header row, a row of the page's kind, or none (a reserved offset). -/
def Page.row (p : Page) (off : Nat) : Option (RegRow × Nat) :=
  if p.lacks off then none
  else if p.hasHeader && decide (off < 0x40) then findRow rowsHdr off
  else findRow p.kind.rows off

/-- The survival class of a row on a page: class S is class H on half-local pages (R23) and for the block registers of the
two halves' counter banks (R536), and class H elsewhere as the table says. -/
def Page.clsOf (p : Page) (r : RegRow) : Cls :=
  match r.cls with
  | .s =>
    match p.kind with
    | .local | .msg => .h
    | .ec => if p.idx < 2 ∧ 0x40 ≤ r.off then .h else .s
    | _ => .s
  | c => c

/-- Whether a page has persistent fields software writes: WEAR of the others is constant 0 (R23). -/
def Page.hasRwp (p : Page) : Bool := p.kind.rows.any (fun r => r.acc == .rwp)

/-- Reset values that differ from one register of a row to the next (R82, R294, R390, R441). -/
def Page.specialReset (p : Page) (off : Nat) : Option Nat :=
  match p.kind with
  | .tbcor =>
    if 0x100 ≤ off ∧ off < 0x100 + 0x20 * 29 then
      let n := (off - 0x100) / 0x20
      let r := (off - 0x100) % 0x20
      if r < 0x18 then
        some (if r % 8 = 0 then (corShipped n (r / 8)).1 else (corShipped n (r / 8)).2)
      else none
    else none
  | .half => if off = 0x040 then some (if p.idx = 0 then 0x1301 else 0x1300) else none
  | .frsv =>
    if off = 0x440 ∨ off = 0x840 then some 0x9B
    else if off = 0x460 ∨ off = 0x860 then some 0x9A
    else none
  | .port =>
    if off = 0x040 then some (if p.idx < 2 then 0x011 else if p.idx < 6 then 0x711 else if p.idx < 22 then 0x011 else 0x001)
    else if off = 0x070 then some 0x08FF
    else if off = 0x074 then some 0x8020
    else if off = 0x078 then some 0x03E8
    else none
  | _ => none

/-- What a register of a page reads at reset (R15, R23): the Reset column of its row. Reserved offsets read 0 (R9).
UNIT_PARAM, UNIT_STAT, the interrupt registers and ROLE_GEN of a page other than the primary read 0 (R19). -/
def Page.resetAt (p : Page) (off : Nat) : Nat :=
  if p.lacks off then 0
  else if p.hasHeader && decide (off < 0x40) then
    if off = 0x00 then (if p.kind = .absent then 0 else unitId p.localNum)
    else if off = 0x04 then (if p.isPrimary then p.unitParam else 0)
    else if off = 0x20 then p.ownerReset
    else if off = 0x28 then
      (if p.isPrimary && p.kind != .local && p.kind != .msg then 1 else 0)
    else 0
  else
    match p.specialReset off with
    | some v => v
    | none =>
      match findRow p.kind.rows off with
      | some (r, _) => r.reset
      | none => 0

/-- The page behind a key of the register file, and the offset within it. -/
def keyPage (key : Nat) : Option (Page × Nat) :=
  let b := key / 0x100000000
  let a := key % 0x100000000
  let off := a % 0x1000
  if b = 5 then
    some (⟨.eq, a / 0x1000 - 0x40310, eqBase (a / 0x1000 - 0x40310), swBase⟩, off)
  else if b ≤ 3 then
    match pageOf (if b = 1 then 1 else 0) a with
    | some p => some (p, off)
    | none => none
  else none

/-- What a key of the register file reads while it is not listed: its register's Reset value (R15). -/
def regReset (key : Nat) : Word :=
  match keyPage key with
  | some (p, off) => BitVec.ofNat 32 (p.resetAt off)
  | none => 0

/-- Power domains that serve a page (R313, R651), by number. -/
def Page.domain (p : Page) : Nat :=
  match p.kind with
  | .sys | .half | .shep | .pwr | .pdc | .safe | .lsp | .tb | .clk | .tbcor | .tbcap | .vault | .sport | .absent => 0
  | .local | .msg => if p.idx = 0 then 2 else 4
  | .intc | .intcHart | .intcPend => if p.idx = 0 then 2 else 4
  | .intcSrc => if p.idx < 2 then 2 else 4
  | .ec => if p.idx = 0 then 2 else if p.idx = 1 then 4 else if p.idx = 2 then 6 else 11
  | .hrn | .dom | .evt | .tpo | .sadc | .tile | .chan | .cg => 11
  | .sw | .frsv | .eq | .fwd | .sflt | .mcg | .mir | .fetch | .dir | .dirtab | .span | .spow | .spiw | .vi0 | .vi => 6
  | .port => if p.idx < 6 then 7 else if p.idx < 26 then 8 else 6
  | .msec => 7
  | .fbio | .can | .lin | .di | .ai | .enc | .ls | .lh => 9
  | .ciph | .lane | .trng | .ctxp | .keys => 10

end Sys2Proof.Machine
end

