-- ==== Sys2Proof/Machine/State.lean ====
section
/-! DEFINITION. The state of the block as plain data, the reasons a step can stop, and the state after reset. -/

namespace Sys2Proof.Machine

/-- Why the block could stop with a fault. The spec gives every command of the table an effect or an answer to its
sender, so no meaning raises one; the type has one name for the sake of the interface. -/
inductive Fault where
  /-- Raised by nobody: kept so that the type is inhabited. Safe. -/
  | unreachable
  deriving DecidableEq, Repr

/-- Why the block could refuse a command. -/
inductive Refusal where
  /-- Raised by the dispatcher for a command that has no meaning yet. Safe: nothing is claimed of it. -/
  | notModelled (mnemonic : String)
  deriving DecidableEq, Repr

/-- A sparse table by number: strictly rising keys, no entry equal to what an unlisted key reads. -/
abbrev Tbl (α : Type) := List (Nat × α)

/-- The answer the last access got (MODEL's own field: the bus is outside the block). -/
inductive Resp where
  | none
  | ok
  | data (w : Word)
  /-- Octets read through the Span aperture, lowest address first (R493). -/
  | octets (l : List Nat)
  | busError
  /-- A side-band status code of R45. -/
  | code (c : Nat)
  /-- The access is held and presented again (R498). -/
  | retry
  /-- A read that waits for a DATA reply (R175). -/
  | stalled
  /-- An illegal-instruction exception at the hart (R513). -/
  | illegal
  deriving DecidableEq, Repr

/-- A composite's fan-out (R49): its command word, the access that gave it, the member whose result is awaited, the members still to come in
ascending local number, and whether every member so far reported DONE. -/
structure Fan where
  cmd : Nat := 0
  acc : Access := ⟨.shep, true, 0⟩
  cur : Option Nat := none
  rest : List Nat := []
  allDone : Bool := true
  deriving DecidableEq, Repr

/-- A clock in the TIME format (R65): seconds, nanoseconds, and the 40-bit fraction accumulator. -/
structure Clock where
  sec : Nat := 0
  ns : Nat := 0
  acc : Nat := 0
  deriving DecidableEq, Repr

/-- A one-shot offset taken at GO (R70): signed seconds, nanoseconds and 2^-16 ns. -/
structure OfsReq where
  sec : Int
  ns : Nat
  frac : Nat
  deriving DecidableEq, Repr

/-- An adjustable clock (R64 to R70): its value, the running INCREMENT in units of 2^-40 ns, the INC_LO shadow, the
increment waiting for its commit, the remaining slew in units of 2^-40 ns, whether one runs, whether a GO or a CANCEL waits
for the next tick, SLEWING as the last tick left it, and the offset due, in units of 2^-40 ns. -/
structure AdjClock where
  now : Clock := {}
  inc : Nat := 0x1999999999A
  shadow : Word := 0x9999999A
  incReq : Option Nat := none
  slew : Int := 0
  slewing : Bool := false
  slewNew : Bool := false
  slewOff : Bool := false
  slewOn : Bool := false
  ofsReq : Option OfsReq := none
  deriving DecidableEq, Repr

/-- An entry of a timestamp capture FIFO (R85, R93): the TS64 words and the info word. -/
structure CapEntry where
  lo : Word
  hi : Word
  info : Word
  deriving DecidableEq, Repr

/-- An adjustable clock's value and INCREMENT at one tick edge (R76). -/
structure TickRec where
  now0 : Clock
  inc0 : Nat
  now1 : Clock
  inc1 : Nat
  deriving DecidableEq, Repr

/-- The time base beyond its registers (chapter "Device Time and Network Time"): the clocks, which masters have a
snapshot requested, whether the 625 MHz timebase stands still (R74), the record taken at PARK entry, and the capture
FIFOs of P26 and P27, oldest entry first; and what the adjustable clocks read at the tick edges before the present one, the
latest first, as far back as a frame's first cell can reach (R76). -/
structure TimeSt where
  clk0 : AdjClock := {}
  clk1 : AdjClock := {}
  tbf : Clock := {}
  snapReq : List Master := []
  stopped : Bool := false
  rtc : Nat := 0
  parked : Option (Clock × Clock × Clock × Nat) := none
  capA : List CapEntry := []
  capB : List CapEntry := []
  hist : List TickRec := []
  deriving DecidableEq, Repr

/-- State of a phase domain (R96). -/
inductive DomState | off | wait | run | hold | stalled
  deriving DecidableEq, Repr

/-- A phase domain beyond its configuration registers (R94 to R114). -/
structure Dom where
  st : DomState := .off
  /-- Position, modulo 2^64 phase units, in units of 2^-56 of a phase unit: X is `p / 2^56`. -/
  p : Nat := 0
  /-- Rate estimate R in units of 2^-16 phase units per ns of TB0 (R95). -/
  rate : Int := 0
  /-- Last direction of motion: true reverse; none while no motion has been seen. -/
  dir : Option Bool := none
  /-- Position X of the last source edge, or of the set phase (R105). -/
  xe : Nat := 0
  /-- The position was set at ON or by an index and no source edge has come since (R105). -/
  setPhase : Bool := true
  /-- Hall: field of HALL_SEQ of the present state, if it is a valid one (R103). -/
  hall : Option Nat := none
  /-- Instant of the last source edge, TB0 in 2^-16 ns. -/
  lastT : Option Nat := none
  /-- The previous interval and its rate (R104). -/
  prevT : Nat := 0
  prevR : Int := 0
  /-- Intervals since ON, STALLED or a reversal (R104). -/
  intervals : Nat := 0
  /-- Edges in the present direction since ON (R105). -/
  sameDir : Nat := 0
  /-- Residual error of a TB1-locked TIME domain, in 2^-40 ns of TB1 (R101). -/
  resid : Int := 0
  /-- Remainder carried by the position arithmetic (R101, R109). -/
  rem : Int := 0
  /-- LINE: the last measured frame intervals, newest first, in 2^-16 ns, and the last frame start (R107). -/
  frames : List Nat := []
  frameStart : Option Nat := none
  /-- LINE, MSG source: the projected position while it lies behind the present one, and its rate (R108). -/
  lag : Option (Nat × Int) := none
  deriving DecidableEq, Repr

/-- The shadow of an EVT page (R118): the index it is tagged with and the shadowed words 0, 2 and 3. -/
structure EvtShadow where
  idx : Option Nat := none
  w0 : Option Word := none
  w2 : Option Word := none
  w3 : Option Word := none
  deriving DecidableEq, Repr

/-- An event occurrence handed to the action path (R125, R126): the index, the content fixed (words 1 and 3), the
instant in whole ns of TB0, for SET, CLEAR and TOGGLE the lines still to change with their own instants (R133),
whether it is a LATE EXECUTE, whether a commit has replaced the entry meanwhile (R123), and for a LATE one the instant it was projected or placed for,
if it had one (R235). -/
structure Placed where
  idx : Nat
  w1 : Word
  w3 : Word
  inst : Nat
  lines : List (Nat × Nat) := []
  late : Bool := false
  replaced : Bool := false
  proj : Option Nat := none
  deriving DecidableEq, Repr

/-- A channel inside its tile, beyond its tile-held registers (R201 to R218): whether it conducts, the inrush window,
the retry timer running, whether its present trip was counted in TH_BLOCKED, whether no trip came since the last
automatic restart, the phase of an off-state sequence (0 none, 1 pull-down, 2 pull-up), the instants at which conduction
last ended and of the last trip, and what PROT_STAT, DIAG_HIST and RESTART_CNT held before the restart rule acted,
with that instant (instants in TBF nanoseconds, R215). -/
structure ChanT where
  conducts : Bool := false
  inrush : Bool := false
  timer : Bool := false
  deferred : Bool := false
  clean : Bool := false
  diag : Nat := 0
  offAt : Option Nat := none
  tripAt : Option Nat := none
  before : Option (Nat × Word × Word × Word) := none
  deriving DecidableEq, Repr

/-- A drive tile beyond its tile-held registers (R152 to R189, R220). -/
structure Tile where
  powered : Bool := true
  /-- A TRST accepted, or a power-up, whose reset has not yet taken effect (R189). -/
  trst : Bool := false
  /-- The tile powered up and its power-up TRST is not complete: FAULT_N is held low (R220). -/
  starting : Bool := false
  /-- Levels latched by the take rule until the take instant (R178). -/
  latch : Option Nat := none
  /-- Levels of IN at entry to STAY (R180, R184). -/
  stay : Nat := 0
  /-- Levels at the acceptance of PARK (R187). -/
  park : Nat := 0
  /-- IN levels at the tile. -/
  inLv : Nat := 0
  /-- Filtered limp-home levels (R162). -/
  lh : Nat := 0
  /-- Feed voltage in mV, and whether it moved into or out of a band since tile control last read (R156). -/
  feed : Nat := 13500
  moved : Bool := false
  /-- Supply current samples of the last second, 10 mA units, newest first, and the warning (R154). -/
  samples : List Nat := []
  supWarn : Bool := false
  /-- The stored request and reply (R171). -/
  lastReq : Option TclReq := none
  lastRep : Option TclRep := none
  /-- FAULT_N was low when last looked at (R220). -/
  faultLow : Bool := false
  /-- The tile's pointer channel (R233). -/
  ptr : Nat := 0
  deriving DecidableEq, Repr

/-- Why tile control sends a request: for a master's write; for CLEAR of a channel (R216); to serve a stalled read of
an address (R175), whose reader waits for the answer or presents its access `again`; as the agent's policy copy (R186); a takeover CLAIM and whether it is the second (R280); the
LEASH_STAT read after a refused takeover CLAIM; the state poll (R175); a request of LEASH_CTRL, TRST_REQ, the
keepalives or PARK entry. -/
inductive TcWhy where
  | master
  | clear (n : Nat)
  | serve (acc : Access) (addr : Nat) (again : Bool)
  | policy
  | takeover (second : Bool)
  | takeoverRead
  | poll
  | agent
  deriving DecidableEq, Repr

/-- A request of tile control with the attempts already failed (R173). -/
structure TcEntry where
  req : TclReq
  why : TcWhy
  tries : Nat := 0
  deriving DecidableEq, Repr

/-- Tile control's side of one tile (R172 to R186). -/
structure TileCtl where
  seq : Nat := 0
  /-- Requests that await a reply, oldest first. -/
  sent : List TcEntry := []
  /-- KEEPALIVE, CLAIM, RENEW, PARK and TRST requests waiting, and writes and reads waiting (R173). -/
  ctlQ : List TcEntry := []
  rwQ : List TcEntry := []
  /-- Tile control's own writes and reads that wait for an entry of the queue of 32 (R173). -/
  held : List TcEntry := []
  /-- Each half's own claim number: its last accepted CLAIM or RENEW (R174). -/
  claimA : Nat := 0
  claimB : Nat := 0
  /-- Whether each half's agent sends keepalives (R182, R183). -/
  agentA : Bool := false
  agentB : Bool := false
  /-- Consecutive requests ended with TIMEOUT (R173). -/
  timeouts : Nat := 0
  /-- The image was adopted since SRST (R135). -/
  adopted : Bool := false
  /-- The tile's own reset is expected: a TRST was answered, and no reply has shown a claim since (R175). -/
  expReset : Bool := false
  /-- The half whose start-up claim waits for the mirror (R263). -/
  start : Option Half := none
  deriving DecidableEq, Repr

/-- A hold assigned on a sense converter (R234, R235): its instant in ns of TB0, the SEL code, the channel a background
conversion belongs to, the origin (0 EVENT, 1 BACKGROUND, 2 SOFTWARE), the event index, and the slip. -/
structure Hold where
  t : Nat
  sel : Nat
  chan : Option Nat := none
  origin : Nat
  ev : Nat := 0
  slip : Nat := 0
  deriving DecidableEq, Repr

/-- A conversion held and not yet available (R234): its hold, the range it converts in (1 COARSE), the channel within
the tile it belongs to, and whether it is a sample of the capture. -/
structure Conv where
  hold : Hold
  range : Nat
  chan : Nat
  cap : Bool := false
  deriving DecidableEq, Repr

/-- A sample of an inrush capture: CODE and RANGE (R252). -/
structure CapSample where
  code : Nat
  range : Nat
  deriving DecidableEq, Repr

/-- A sense converter beyond its registers (R232 to R245): the holds assigned and not yet taken, the last hold, the
conversion in progress, the background quantities still to convert (SEL and channel), the last current conversion of a
wire pair (channel, hold instant, whether it qualifies), the TBF instant in ns the next scan is due at, and the capture: its
trigger and channel, t0, the TJ word at t0 and its samples, oldest first. -/
structure Adc where
  holds : List Hold := []
  last : Option Nat := none
  conv : Option Conv := none
  bg : List (Nat × Nat) := []
  pair : Option (Nat × Nat × Bool) := none
  bgDue : Nat := 0
  capImm : Bool := false
  t0 : Nat := 0
  tj0 : Word := 0
  samples : List CapSample := []
  deriving DecidableEq, Repr

/-- A write of MEMB_CTRL that awaits its check and its effect (R247, R248): the group, the member's local number, OP, and the
access it came by. -/
structure MembReq where
  group : Nat
  member : Nat
  op : Nat
  acc : Access
  deriving DecidableEq, Repr

/-- One path's side of a half (R271 to R276): the miss count, the instant of the last valid word and the next expiry of
the timer (TBF in ns), whether a path fault stands, the SEQ of the next word sent, and the SEQ of the last valid word of
each KIND received. -/
structure PathSt where
  miss : Nat := 3
  last : Option Nat := none
  due : Nat := 0
  fault : Bool := false
  tx : Nat := 0
  rxBark : Option Nat := none
  rxEcho : Option Nat := none
  deriving DecidableEq, Repr

/-- A comparison record (R285): epoch number, digest, number of contributions, and the close instant (TB0 in ns). -/
structure CmpRec where
  epoch : Nat
  digest : Nat
  count : Nat
  close : Nat
  deriving DecidableEq, Repr

/-- A half beyond its registers (R264 to R288): its two paths, the instant of the last BARK_FEED (TBF in ns), whether
the monitor stopped its barks, the open epoch's CRC, the last closed epoch, whether the last comparison matched, its own
records not yet compared and those received, the last peer epoch compared or skipped, whether FIRST_SEQ is due, whether
the next item carries GAP (a frame's copy was lost, R268), whether the next record does (a record was lost, R267), and the
last INSEQ given before the half left OFFLINE: it receives the items after it. -/
structure HalfSt where
  line : PathSt := {}
  net : PathSt := {}
  fed : Option Nat := none
  stopped : Bool := false
  crc : Nat := 0xFFFFFFFF
  lastClosed : Nat := 0
  cmpOk : Bool := false
  own : List CmpRec := []
  peer : List CmpRec := []
  lastPeer : Option Nat := none
  first : Bool := false
  gap : Bool := false
  gapRec : Bool := false
  since : Nat := 0
  deriving DecidableEq, Repr

/-- An input the distributor has sampled and not yet delivered (R264 to R266): SOURCE, FLAGS, the instant, ID and the
values. -/
structure DistItem where
  source : Nat
  flags : Nat := 0
  tsLo : Word
  tsHi : Word
  id : Nat
  w5 : Word := 0
  w6 : Word := 0
  w7 : Word := 0
  deriving DecidableEq, Repr

/-- A grant the arbiter has decided (R279): the new active half and the cause. -/
structure Grant where
  half : Half
  cause : Nat
  deriving DecidableEq, Repr

/-- A request of a wake source (R306, R331): KIND, INDEX and the real-time count it fired at. -/
structure Wake where
  kind : Nat
  index : Nat
  rtc : Nat
  deriving DecidableEq, Repr

/-- Why a copy of a frame was made (R397, R418 to R422, R268): forwarding, mirror session, host copy, sample, delivery to
the standby. -/
inductive CopyKind | ordinary | mirror (sess : Nat) | host | sample | replica | hostReplica | sampleReplica
  deriving DecidableEq, Repr

/-- A MACsec secure association (R583, R592). -/
structure Sa where
  slot : Nat := 0
  en : Bool := false
  result : Nat := 0
  ssci : Word := 0
  salt : List Word := [0, 0, 0]
  pn : Nat := 1
  deriving DecidableEq, Repr

/-- How a frame is protected (R582): the SCI and whether it is sent, the association number, the association and its key. -/
structure TxSec where
  sci : List Nat
  txSci : Bool
  an : Nat
  sa : Sa
  key : List Nat
  deriving DecidableEq, Repr

/-- What a port makes of a frame it sends: nothing, a one-step insertion (R84), a protected frame (R582). -/
inductive TxForm | plain | sync | sec (x : TxSec)
  deriving DecidableEq, Repr

/-- A copy of a frame in an egress queue (R373): port, queue, why it was made; while it waits as residue, the TBF instant
in ns at which it is refused (R417); cells passed on in index order and the indices received beyond; whether its
transmission has begun, as cut-through, as a preemptable frame, the slots until its first octet, the thousandths of a bit
sent of the present cell; the guard rule held it (R382); it goes out late (R381); the TB0 instant in ns at which it
became the head of its queue and the position its launch field bound to there (R137); what the port makes of the frame
(R84, R582); the bin its SFD falls in and its egress timestamp once it has passed (R76); the transmit association it is protected by; whether it must end with an inverted
FCS (R584), whether its gate closed while it was sent (R379), and its collisions (R435). -/
structure Copy where
  port : Nat
  q : Nat
  kind : CopyKind := .ordinary
  residue : Option Nat := none
  passed : Nat := 0
  got : List Nat := []
  begun : Bool := false
  ct : Bool := false
  pre : Bool := false
  wait : Nat := 0
  mbits : Nat := 0
  guarded : Bool := false
  lateSent : Bool := false
  headAt : Option Nat := none
  bound : Nat := 0
  form : TxForm := .plain
  bin : Nat := 0
  egr : Option Clock := none
  txSa : Option Nat := none
  bad : Bool := false
  overran : Bool := false
  tries : Nat := 0
  deriving DecidableEq, Repr

/-- A launch-time field (R137): LT_MODE, LT_DOM, LT_PHASE, LT_CYC. -/
structure Launch where
  mode : Nat
  dom : Nat
  phase : Nat
  cyc : Nat
  deriving DecidableEq, Repr

/-- A frame in the fabric (R359 to R375, R396): its handle, ingress port, whether it came as a preemptable frame, its
octets, whether they are known whole, whether its last cell has arrived, cells complete at the input and cells past
stage 1, its base intermediate, the reserved marking with the reserved cells at intermediates (index and intermediate),
and its copies. Of its result: the matching stream filter and whether its length is charged to the meter, the stream
handle, VID, PCP, tag, whether it was dropped or missed, the ports that admitted ordinary copies; its ingress timestamp
and clock; INSEQ; the gPTP domain number; a host descriptor's launch field and timestamp tag; the sample to take at its
end (R422): SAMPLE_SEQ; words 6 and 7 of a sample's record; its SecTAG and receive association (R582); whether its key was lost
(R584). -/
structure Frame where
  id : Nat
  inp : Nat
  pmac : Bool := false
  octs : List Nat
  whole : Bool := false
  ended : Bool := false
  arrived : Nat := 1
  sent : Nat := 0
  base : Option Nat := none
  rsv : Bool := false
  held : List (Nat × Nat) := []
  copies : List Copy := []
  filt : Option Nat := none
  charge : Bool := false
  stream : Nat := 0
  vid : Nat := 0
  pcp : Nat := 0
  tagged : Bool := false
  dropped : Bool := false
  missed : Bool := false
  admitted : Nat := 0
  ts : Clock := {}
  clock : Nat := 0
  inseq : Nat := 0
  gptp : Option Nat := none
  launch : Option Launch := none
  tsReq : Option Nat := none
  sample : Option Nat := none
  w6 : Word := 0
  w7 : Word := 0
  secTag : Option SecTag := none
  rxSa : Option Nat := none
  keyLost : Bool := false
  deriving DecidableEq, Repr

/-- A stream filter (R408, R411): its words, its MATCH, SDU_DROP and METER_DROP counts, whether it has a token count, and
that count in units of 1/8,000,000 octet with the TBF instant in ns it holds for. -/
structure SFilter where
  ws : List Word := []
  hits : Nat := 0
  sdu : Nat := 0
  meter : Nat := 0
  metered : Bool := false
  tokens : Int := 0
  time : Nat := 0
  deriving DecidableEq, Repr

/-- A learn request (R405, R406): source address, VID, ingress port. -/
structure Learn where
  mac : Nat
  vid : Nat
  port : Nat
  deriving DecidableEq, Repr

/-- A frame delivered to a host port (R386): the words of its receive record but for INSEQ and GAP, its INSEQ, its
octets. -/
structure RxItem where
  ws : List Word
  inseq : Nat
  octs : List Nat
  deriving DecidableEq, Repr

/-- A frame fetched from a host transmit queue (R466): VI, local queue, descriptor words, octets including FCS. -/
structure HostFrame where
  vi : Nat
  q : Nat
  desc : List Word
  octs : List Nat
  deriving DecidableEq, Repr

/-- A message of the field-bus gateway (R443, R444): the octets of the ACF message, its bus number and whether it is a
LIN message. -/
structure BusMsg where
  lin : Bool
  bus : Nat
  octs : List Nat
  deriving DecidableEq, Repr

/-- A CAN controller's transmit queue entry: the message and the retries it has used (R450). -/
structure CanTx where
  octs : List Nat
  tries : Nat := 0
  deriving DecidableEq, Repr

/-- A bus's frame being gathered (R445): messages in order of reception and the TBF instant in ns of the first. -/
structure Agg where
  msgs : List (List Nat) := []
  first : Nat := 0
  deriving DecidableEq, Repr

/-- An analog converter (R455): the conversion in progress (input, origin, slip), the TB0 instant in 2^-16 ns it started at,
the requests waiting in order of
precedence (input, origin, slip), and the inputs of a scan still to convert. -/
structure AiConv where
  busy : Option (Nat × Nat × Bool) := none
  start : Nat := 0
  reqs : List (Nat × Nat × Bool) := []
  scan : List Nat := []
  deriving DecidableEq, Repr

/-- A host queue of a VI in one half's bank (R465 to R467): Q_CFG, Q_RING, WR, RD and Q_DROP. -/
structure HQueue where
  cfg : Word := 0
  lo : Word := 0
  hi : Word := 0
  wr : Nat := 0
  rd : Nat := 0
  drop : Nat := 0
  deriving DecidableEq, Repr

/-- A shared engine's deficit-weighted round (R471): the VIs still to visit in the round in progress with their weights,
and the VI being visited. -/
structure Dwrr where
  todo : List (Nat × Nat) := []
  cur : Option Nat := none
  deriving DecidableEq, Repr

/-- A posted write the Span bridge has accepted and that has neither an ACK nor a failure record (R497, R503): the half,
the transport, its TAG, the window, the Span address, the destination unit and the TBF instant in ns of its sending. -/
structure SpPost where
  half : Half
  tunnel : Bool
  tag : Nat
  win : Nat
  addr : Nat
  unit : Nat
  time : Nat
  deriving DecidableEq, Repr

/-- A delayed transaction (R498, R504): what identifies it, its window's translation, whether it is a read of FENCE, the
TBF instant of its sending, its result (REASON and data) with the instant it arrived. -/
structure SpDt where
  half : Half
  master : Nat
  addr : Nat
  size : Nat
  secure : Bool
  vi : Nat
  data : Option (List Nat)
  fence : Bool := false
  tunnel : Bool := false
  tag : Nat := 0
  swap : Bool := false
  span : Nat := 0
  unit : Nat := 0
  sent : Option Nat := none
  sec : Bool := false
  waits : List (Bool × Nat) := []
  failed : Bool := false
  result : Option (Nat × List Nat × Nat) := none
  deriving DecidableEq, Repr

/-- A request in an inbound buffer (R494, R496): its transport, the half that sent it or whose host port took it, the
sender's unit and SENDER, KIND of R508, TAG, Span address, size, write data, the secure mark, and its place in the order
of arrival. -/
structure SpReq where
  tunnel : Bool
  half : Half
  unit : Nat
  sender : Nat
  kind : Nat
  tag : Nat
  addr : Nat
  size : Nat
  data : List Nat
  sec : Bool
  seq : Nat
  deriving DecidableEq, Repr

/-- An answer on its way to the half that made the request (R501, R503): transport, half, unit, TAG, what it is (0
completion, 1 ACK, 2 WRITE_FAILED), REASON, data, Span address, and its place in the order of arrival. -/
structure SpAns where
  tunnel : Bool
  half : Half
  unit : Nat
  tag : Nat
  what : Nat
  reason : Nat
  data : List Nat
  addr : Nat
  seq : Nat
  deriving DecidableEq, Repr

/-- A hart's debug state (R528): a halt request pending, with the world the hart executed in when it came, and the world
it is halted in. -/
structure HartDbg where
  pend : Option Bool := none
  halted : Option Bool := none
  deriving DecidableEq, Repr

/-- A key slot (R542 to R546): VALID, LIFE, HALF, WORLD, VI, ALG, USAGE, GEN, USE_COUNT, the key's octets, the parent,
the depth less one and FROM_DRS. -/
structure Slot where
  valid : Bool := false
  life : Nat := 0
  half : Nat := 0
  world : Bool := false
  vi : Nat := 0
  alg : Nat := 0
  usage : Nat := 0
  gen : Nat := 0
  count : Nat := 0
  key : List Nat := []
  parent : Option Nat := none
  depth : Nat := 0
  fromDrs : Bool := false
  deriving DecidableEq, Repr

/-- A slot command between the write of KS_CMD and its end (R547): its operands, the issuing access, the shadow it
captured, what its checks found, the GEN of the slot it references, the UNIT and BOOT of an ATTEST, and the attribute
words of a STORE_P. -/
structure KsCmd where
  op : Nat
  slot : Nat
  parent : Nat := 0
  record : Nat := 0
  acc : Access
  attr0 : Word := 0
  attr1 : Word := 0
  key : List Nat := []
  label : List Nat := []
  ctx : List Nat := []
  chal : List Nat := []
  fail : Option Nat := none
  gen : Nat := 0
  msg : List Nat := []
  boot : Word := 0
  st0 : Word := 0
  st1 : Word := 0
  deriving DecidableEq, Repr

/-- A MACsec receive secure channel (R582, R592). -/
structure Sc where
  sci : Nat := 0
  en : Bool := false
  deriving DecidableEq, Repr

/-- A cipher descriptor submitted and not accepted (R568): its VI, the submitting half, the world and the address. -/
structure CSub where
  vi : Nat
  half : Half
  secure : Bool
  addr : Nat
  deriving DecidableEq, Repr

/-- An operation on a lane (R567 to R581): its submission, its descriptor's words 0 to 13, the GEN of its slot, the IV,
the AAD, the tag it reads, the message octets of the session so far and how many of them earlier operations brought,
output produced and not yet written, octets written by the session and by this operation, the second pass of a verified
decryption, whether the tag failed, and the STATUS a failure fixed. -/
structure CipherOp where
  sub : CSub
  words : List Word
  gen : Nat := 0
  iv : List Nat := []
  aad : List Nat := []
  tag : List Nat := []
  inp : List Nat := []
  base : Nat := 0
  held : List Nat := []
  sess : Nat := 0
  released : Nat := 0
  pass2 : Bool := false
  fail : Option Nat := none
  deriving DecidableEq, Repr

/-- A session context (R572, R576): OPEN, the slot and its GEN, MODE and DIR of the session, its running state (the IV,
the AAD and the message octets so far) and the octets the session has written. -/
structure Ctx where
  opened : Bool := false
  slot : Nat := 0
  gen : Nat := 0
  mode : Nat := 0
  dir : Nat := 0
  iv : List Nat := []
  aad : List Nat := []
  inp : List Nat := []
  sess : Nat := 0
  deriving DecidableEq, Repr

/-- The snapshot of a frozen VI (R480): the active half's bank of its queues, the share words, the bucket level in octets,
the transmit and cipher deficits, its contexts and its key slots by index, its generation, and TB0. -/
structure ViSnap where
  queues : List HQueue
  share : List Word
  txDef : Int
  ciphDef : Int
  ctxs : List (Nat × Ctx)
  slots : List (Nat × Slot)
  gen : Nat
  ts : Clock
  deriving DecidableEq, Repr

/-- A session of the service protocol (R601): its number, level (1 NORMAL to 4 PROVISION), whether AUTH opened it, both
nonces, UNIT, BOOT and DIGEST as sent in the HELLO response, the SEQ of the last request executed and its response, and
the station address of its tool. -/
structure Session where
  num : Nat
  level : Nat
  opened : Bool := false
  ntool : List Nat
  ndev : List Nat
  unit : Nat
  boot : Nat
  digest : List Nat
  seq : Nat := 0
  resp : List Nat := []
  mac : List Nat
  deriving DecidableEq, Repr

/-- A request waiting for Shepherd (R596): the sender's station address and the frame from octet 0 of its header. -/
structure IspReq where
  src : List Nat
  octs : List Nat
  deriving DecidableEq, Repr

/-- A Whistle being sent (R617): its body, and how often it is still to go out. -/
structure WhistleSend where
  body : List Nat
  left : Nat
  deriving DecidableEq, Repr

/-- Shepherd beyond its registers (R594 to R629): sessions, consecutive AUTH failures and the lockout, the requests
waiting, the holder of the staging lock with IMG_LEN, the next offset and the octets staged, the STAGE_CLOSE whose
verification runs, the words a REG_READ has read while it waits for a tile (R175), with its session and SEQ, the Whistles being
sent and the ACT_ID of the last one originated, Whistles and acknowledgements that have arrived, the ACT_IDs acted on (with CANCEL), the instant in TBF nanoseconds at which the health window ends,
whether a RECOVER began the trial, and the states and VERSIONs of the boot slot and of the other slot. -/
structure ShepSt where
  sessions : List Session := []
  fails : Nat := 0
  locked : Bool := false
  reqs : List IspReq := []
  holder : Option Nat := none
  imgLen : Nat := 0
  nextOff : Nat := 0
  img : List Nat := []
  closing : Option IspReq := none
  reading : Option (Nat × Nat × List Word) := none
  sends : List WhistleSend := []
  lastOrigin : Option Nat := none
  whistleIn : List (List Nat) := []
  ackIn : List (List Nat) := []
  acted : List (Nat × Bool) := []
  winEnd : Option Nat := none
  recovered : Bool := false
  bootSt : Nat := 6
  otherSt : Nat := 0
  verBoot : Word := 0
  verOther : Word := 0
  deriving DecidableEq, Repr

/-- What the block sends to the outside. -/
inductive Emit where
  /-- An IN line's edge leaves Huarneel: channel, level, TB0 instant in 2^-16 ns (R131). -/
  | inLine (n : Nat) (level : Bool) (t16 : Nat)
  /-- A timed output changes level (R139). -/
  | toLine (k : Nat) (level : Bool)
  /-- The octets of a request frame to tile t on its configuration link (R167). -/
  | tclReq (t : Nat) (octets : List Nat)
  /-- The octets of a reply frame of tile t (R167, R170). -/
  | tclRep (t : Nat) (octets : List Nat)
  /-- A bark or echo word of a half on its line path (R271). -/
  | bark (h : Half) (w : Nat)
  /-- Octets written to a half's memory. -/
  | memWrite (h : Half) (addr : Nat) (octets : List Nat)
  /-- A channel starts or stops conducting (R158). -/
  | output (n : Nat) (on : Bool)
  /-- An output of a safety pair on a lane, which leaves it because both cores agree (R338). -/
  | pairOut (x lane value : Nat)
  /-- A channel regulates its current to a percentage of its class nominal current (R206). -/
  | regulate (n : Nat) (lim : Nat)
  /-- A frame leaves port p; an ended one has an inverted FCS (R367). -/
  | frame (p : Nat) (octets : List Nat) (good : Bool)
  /-- The source an interrupt controller signals to a hart for its SECURE or NORMAL group changes; 0 for none. A NORMAL
  one reaches the hart only while it executes in the normal world (R519). -/
  | irq (h : Half) (hart : Nat) (secure : Bool) (src : Nat)
  /-- A frame on the service port, without its FCS (R597). -/
  | spFrame (octets : List Nat)
  /-- A write to a half's debug module over the debug module interface, with the world of its request; `refused` where R528
  has the debug module refuse it with its bus-error code (R605). -/
  | dmi (h : Half) (addr : Nat) (data : Word) (secure refused : Bool)
  deriving DecidableEq, Repr

/-- The state of the block. Every register the map shows is in `regs`; everything else the spec gives the machine has
a field of its own. -/
structure State where
  /-- Every register of the map that does not read its Reset value: (key, word), keys strictly rising (`regReset` says what an unlisted key reads). -/
  regs : Tbl Word
  /-- MODEL's own: the answer to the last access. -/
  resp : Resp
  /-- MODEL's own: how many free values have been taken (log entry 3). -/
  freeCtr : Nat
  /-- The commands waiting, first in first out. -/
  pending : List Instr
  /-- MODEL's own: what the block has sent to the outside, newest first (log entry 6). -/
  out : List Emit
  /-- ACTIVE_HALF, the role arbiter's bit (R260, R261). -/
  activeHalf : Half
  /-- Fan-outs in progress, by the composite's local number (R49). -/
  fans : Tbl Fan
  /-- Half A's misroute queue, oldest first, at most 64 messages (R63). -/
  mrqA : List (List Word)
  /-- Half B's misroute queue. -/
  mrqB : List (List Word)
  /-- Shepherd's misroute queue (R628). -/
  mrqS : List (List Word)
  /-- Write count of every P word, by key (R320). -/
  wear : Tbl Nat
  /-- The time base (R64 to R93). -/
  time : TimeSt
  /-- The phase domains D0 to D15 (R94). -/
  doms : Tbl Dom
  /-- The shadow of every EVT page (R118). -/
  evtShadow : Tbl EvtShadow
  /-- Event occurrences on their way to their instant (R125, R126). -/
  placed : List Placed
  /-- The gates, 8 × port + queue, that actions have set in the present tick (R136). -/
  gateActs : List Nat
  /-- When each IN line last changed at Huarneel's output, TB0 in 2^-16 ns plus 1; 0 for never (R130). -/
  lineLast : Tbl Nat
  /-- For each timed output that is active, the instant its pulse ends, TB0 in ns (R139). -/
  toEnd : Tbl (Option Nat)
  /-- When each line-sync pin last had an edge, by 2 × pin + 1 for a falling edge: TB0 in 2^-16 ns plus 1; 0 for never (R456). -/
  lsLast : Tbl Nat
  /-- IN line edges between Huarneel and the tiles, oldest first: channel and level (R157, R158). -/
  inFlight : List (Nat × Bool)
  /-- The drive tiles (R152 to R189). -/
  tiles : Tbl Tile
  /-- The channels inside their tiles (R201 to R218). -/
  chans : Tbl ChanT
  /-- Tile control, one record per tile (R172 to R186). -/
  tcs : Tbl TileCtl
  /-- The sense converters (R232 to R246). -/
  adcs : Tbl Adc
  /-- Hold instant of each channel's last current conversion, TB0 in ns plus 1; 0 for none since its page's last reset (R249). -/
  convAt : Tbl Nat
  /-- The feed monitor's previous sample of BATA and BATB, in mV (R243). -/
  fmonPrev : Option (Int × Int)
  /-- One more than the number of the 100 µs period of TB0 the feed monitor last sampled at (R243); 0 before the first. -/
  fmonAt : Nat
  /-- The TB0 instant in ns at which CKG5 closed, while it is closed (R317). -/
  capGate : Option Nat
  /-- FMON_CLR awaits the next sample of BATA (R253). -/
  fmonClrA : Bool
  /-- FMON_CLR awaits the next sample of BATB. -/
  fmonClrB : Bool
  /-- Membership writes not yet checked and applied, oldest first (R247, R248). -/
  membReqs : List MembReq
  /-- The key slots K0 to K255 (R542). -/
  slots : Tbl Slot
  /-- The slot command that is PENDING (R547). -/
  ks : Option KsCmd
  /-- DRS_VALID (R537, R541); log entry 8. -/
  drsValid : Bool
  /-- LOSS_CAUSE of the root secret: 0 NONE, 1 TAMPER, 2 POWER (R564). -/
  lossCause : Nat
  /-- Which device root secret the vault holds: how often it was filled; its octets are free (log entry 8). -/
  drsGen : Nat
  /-- The PD1 latch of tamper sources (R539). -/
  tamperLatch : Nat
  /-- Tampers since the last POR that TAMPER_CNT has not yet taken up (R539). -/
  tamperOff : Nat
  /-- The persistent records: record × 32 + bank × 16 + word (R556). -/
  records : Tbl Nat
  /-- Write count of every record word (R560). -/
  pkWear : Tbl Nat
  /-- The MACsec associations: port × 64 + AN, or + 4 + SC × 4 + AN for receive (R582). -/
  sas : Tbl Sa
  /-- The MACsec receive channels: port × 8 + SC. -/
  scs : Tbl Sc
  /-- Cipher descriptors submitted and not accepted, in the order of submission (R568). -/
  csubs : List CSub
  /-- The operation on each lane (R567). -/
  lanes : Tbl (Option CipherOp)
  /-- The session contexts (R576). -/
  ctxs : Tbl Ctx
  /-- The halves beyond their registers, by index (R264 to R288). -/
  halves : Tbl HalfSt
  /-- Comparison records on the cross-half link, oldest first, with the half they go to (R285). -/
  cmpLink : List (Half × CmpRec)
  /-- INSEQ of the last item numbered (R264). -/
  inseq : Nat
  /-- Inputs sampled and not yet delivered, oldest first (R264). -/
  distQ : List DistItem
  /-- Records numbered and not yet written to a half's ring, as items numbered before them are still to reach it (R264). -/
  ringDue : List (Half × Nat × DistItem)
  /-- The takeover the arbiter has decided and not yet granted (R279). -/
  grant : Option Grant
  /-- Takeover CLAIMs due to be issued: the half, and whether at takeover priority (R279, R281). -/
  claimDue : Option (Half × Bool)
  /-- Answers of tiles that wait for a reader who presents its access again: access, address and answer (R175). -/
  served : List (Access × Nat × Resp)
  /-- The active half yielded and no takeover followed (R281). -/
  yielded : Bool
  /-- The resets in progress, not yet released (R297, R300); after power-on the halves await their release (R323). -/
  rst : List Rst
  /-- Shepherd has verified the boot slot since the last POR or SRST (R323, R608). -/
  verified : Bool
  /-- The logic supply is there; without it the device is in OFF (R308). -/
  supplied : Bool
  /-- PARK entry: 0 not under way, 1 waiting for the tiles (R304). -/
  parkStage : Nat
  /-- Wake sources fired since they were armed (R305). -/
  wakes : List Wake
  /-- DOZE entry is under way and not complete (R303). -/
  dozing : Bool
  /-- An exit condition arose during DOZE entry (R303). -/
  dozeExit : Bool
  /-- Corrected errors of each half in its present window (R350). -/
  ceCount : Tbl Nat
  /-- LIFE_CYCLES counted since POR or exit from PARK (R322). -/
  cycled : Bool
  /-- mworld of each hart, by 7 × half + hart (R513). -/
  mworld : Tbl Word
  /-- The harts under debug, by 7 × half + hart (R528). -/
  harts : Tbl HartDbg
  /-- CNT_HI shadow of each counter, by 32 × bank + counter (R533). -/
  ecShadow : Tbl Nat
  /-- CNT_HI latched by the last read of CNT_LO of each counter (R533). -/
  ecLatch : Tbl Nat
  /-- Slot of the fabric cycle (R358). -/
  slotNo : Nat
  /-- The frames in the fabric, in the order of their lookups (R359). -/
  frames : List Frame
  /-- The next frame handle. -/
  frameId : Nat
  /-- Credit of each shaped queue, by 8 × port + queue, in millionths of a bit (R378). -/
  credits : Tbl Int
  /-- The forwarding database F0 to F8191 (R400). -/
  fdb : Tbl (List Word)
  /-- The stream filters SF0 to SF2047 (R408). -/
  sfs : Tbl SFilter
  /-- The multicast groups MG0 to MG1023 (R413). -/
  mgs : Tbl (List Word)
  /-- The learner's requests, oldest first (R406). -/
  learnQ : List Learn
  /-- Samples each port's sampler has taken, modulo 2^16 (R422). -/
  fetchSeq : Tbl Nat
  /-- Frames fetched by Half A's host port and not yet accepted by the fabric (R466). -/
  hostTxA : List HostFrame
  /-- Those of Half B's host port. -/
  hostTxB : List HostFrame
  /-- Frames delivered to Half A's host port and not yet written to a ring (R467). -/
  hostRxA : List RxItem
  /-- Those of Half B's host port. -/
  hostRxB : List RxItem
  /-- Gateway frames on their way into the fabric (R445). -/
  gwTx : List (List Nat)
  /-- Frames from the fabric for the gateway (R443). -/
  gwRx : List (List Nat)
  /-- The pools of host queues, by 1024 × half + pool queue (R464, R465). -/
  hqs : Tbl HQueue
  /-- Ports that wait to restart a failed negotiation (R432). -/
  anWait : List Nat
  /-- VF of each port's cable measurement in progress (R437). -/
  tdrVf : Tbl Nat
  /-- Whether the last PLCA cycle of a port agreed (1) or differed (2) in its node count; 0 for none (R436). -/
  plcaLast : Tbl Nat
  /-- The CAN controllers' transmit queues, oldest first (R450). -/
  canQ : Tbl (List CanTx)
  /-- Headers a LIN master channel has to send: identifier and data, oldest first (R452). -/
  linQ : Tbl (List (Nat × List Nat))
  /-- Data last received from the gateway for an identifier of a LIN channel, by 64 × channel + identifier (R452). -/
  linData : Tbl (List Nat)
  /-- The gateway frames being gathered, by bus: k for CANk, 16 + k for LINk (R445). -/
  aggs : Tbl Agg
  /-- Sequence number of each bus's next AVTP frame (R443). -/
  aggSeq : Tbl Nat
  /-- The analog converters (R455). -/
  aiConv : Tbl AiConv
  /-- The steering table (R468, R486). -/
  steer : Tbl Word
  /-- Deficits by 128 × engine + VI: engines 0 and 1 the transmit paths of P26 and P27, 2 to 5 the cipher lanes (R471). -/
  deficits : Tbl Int
  /-- Rounds of the shared engines (R471). -/
  dwrrs : Tbl Dwrr
  /-- Bucket level of each VI in 1/1,024 octet (R472). -/
  buckets : Tbl Int
  /-- Local queue last served for a VI by a half's host port, plus 1, by 128 × half + VI (R466). -/
  txLast : Tbl Nat
  /-- VIs that are quiescing toward FROZEN (R475). -/
  viFreeze : List Nat
  /-- Snapshots of frozen VIs (R480). -/
  viSnaps : Tbl (Option ViSnap)
  /-- The image engine: VI, whether it restores, MIG_SLOT (R475, R481). -/
  viImage : Option (Nat × Bool × Nat)
  /-- Posted writes the Span bridge awaits an ACK for, in the order of acceptance (R497, R503). -/
  spPosts : List SpPost
  /-- The delayed-transaction buffers of both halves, in the order of allocation (R496, R498). -/
  spDts : List SpDt
  /-- The inbound buffers of the bridge, in the order of arrival (R496). -/
  spIn : List SpReq
  /-- Completions, ACKs and failure answers on their way to the near bridge (R501). -/
  spAns : List SpAns
  /-- Next TAG of each half and transport, by 2 × half + transport (R497). -/
  spTags : Tbl Nat
  /-- Since when CKG2 holds the tunnel's timers, TBF in ns (R317). -/
  tunGate : Option Nat
  /-- MODEL's own: arrival number of the next inbound request or answer. -/
  spSeq : Nat
  /-- By half: 1 when a posted write of the half has failed since its last answered FENCE, 2 when only before it (R504). -/
  spFail : Tbl Nat
  /-- The posted-write-failure log, oldest first: words HEAD0 to HEAD2 (R503). -/
  pwf : List (List Word)
  /-- Directory messages at this host and not yet executed, oldest first, and whether they came from this module (R60). -/
  dirIn : List (Bool × List Word)
  /-- Returned messages at this module and not yet queued, oldest first (R62). -/
  dirBack : List (List Word)
  /-- Octets a lane has read beyond the whole KiB that LANE_KIB shows (R590). -/
  laneOct : Tbl Nat
  /-- Shepherd: the service protocol, staging and activation (R594 to R629). -/
  shep : ShepSt
  /-- The octets programmed into the halves' code stores, by 2^31 × half + offset (R610, R613). -/
  codeStore : Tbl (Option Nat)
  /-- The image digest Shepherd keeps in its MRAM (R307, R608). -/
  imgKept : List Word
  deriving DecidableEq, Repr

/-- The state right after power-on reset: every register at its Reset value (R15), nothing queued, nothing sent. -/
def State.reset : State where
  regs := []
  resp := .none
  freeCtr := 0
  pending := []
  out := []
  activeHalf := .a
  fans := []
  mrqA := []
  mrqB := []
  mrqS := []
  wear := []
  time := {}
  doms := []
  evtShadow := []
  placed := []
  gateActs := []
  lineLast := []
  toEnd := []
  lsLast := []
  inFlight := []
  tiles := []
  chans := []
  tcs := []
  adcs := []
  convAt := []
  fmonPrev := none
  fmonAt := 0
  capGate := none
  fmonClrA := false
  fmonClrB := false
  membReqs := []
  slots := []
  ks := none
  drsValid := true
  lossCause := 0
  drsGen := 0
  tamperLatch := 0
  tamperOff := 0
  records := []
  pkWear := []
  sas := []
  scs := []
  csubs := []
  lanes := []
  ctxs := []
  halves := []
  cmpLink := []
  inseq := 0
  distQ := []
  ringDue := []
  grant := none
  claimDue := none
  served := []
  yielded := false
  rst := [.por]
  verified := false
  supplied := true
  parkStage := 0
  wakes := []
  dozing := false
  dozeExit := false
  ceCount := []
  cycled := false
  mworld := []
  harts := []
  ecShadow := []
  ecLatch := []
  slotNo := 0
  frames := []
  frameId := 0
  credits := []
  fdb := []
  sfs := []
  mgs := []
  learnQ := []
  fetchSeq := []
  hostTxA := []
  hostTxB := []
  hostRxA := []
  hostRxB := []
  gwTx := []
  gwRx := []
  hqs := []
  anWait := []
  tdrVf := []
  plcaLast := []
  canQ := []
  linQ := []
  linData := []
  aggs := []
  aggSeq := []
  aiConv := []
  steer := []
  deficits := []
  dwrrs := []
  buckets := []
  txLast := []
  viFreeze := []
  viSnaps := []
  viImage := none
  spPosts := []
  spDts := []
  spIn := []
  spAns := []
  spTags := []
  tunGate := none
  spSeq := 0
  spFail := []
  pwf := []
  dirIn := []
  dirBack := []
  laneOct := []
  shep := {}
  codeStore := []
  imgKept := []

end Sys2Proof.Machine
end

