-- ==== Sys2Proof/Machine/Ops.lean ====
section
/-! DEFINITION. The named operations every meaning is written over: sparse tables, the register file and its fields,
counters, free values, clocks and time stamps, and the loss of content by survival class. -/

namespace Sys2Proof.Machine

/-- The entry of a table at a key, or the default where the key is not listed. -/
def Tbl.get {α : Type} (d : α) : Tbl α → Nat → α
  | [], _ => d
  | (k', v) :: t, k => if k' = k then v else Tbl.get d t k

/-- The table with an entry put at a key, in the place that keeps rising keys rising. -/
def Tbl.put {α : Type} : Tbl α → Nat → α → Tbl α
  | [], k, v => [(k, v)]
  | (k', v') :: t, k, v =>
    if k < k' then (k, v) :: (k', v') :: t
    else if k = k' then (k, v) :: t
    else (k', v') :: Tbl.put t k v

/-- The table without its entry at a key. -/
def Tbl.del {α : Type} (t : Tbl α) (k : Nat) : Tbl α := t.filter (fun e => e.1 != k)

/-- The table with the entry at a key set; setting what an unlisted key reads removes the entry. -/
def Tbl.set {α : Type} [DecidableEq α] (d : α) (t : Tbl α) (k : Nat) (v : α) : Tbl α :=
  if v = d then t.del k else t.put k v

/-- Keys strictly rising from above `lo`. -/
def Tbl.rising {α : Type} : Option Nat → Tbl α → Bool
  | _, [] => true
  | lo, (k, _) :: t => (match lo with | none => true | some l => decide (l < k)) && Tbl.rising (some k) t

/-- The canonical form of a table: keys strictly rising and no entry equal to what its key reads unlisted. -/
def Tbl.wf {α : Type} [DecidableEq α] (d : Nat → α) (t : Tbl α) : Bool :=
  Tbl.rising none t && t.all (fun e => decide (e.2 ≠ d e.1))

/-- The register file is in canonical form: equal register contents are equal lists. -/
def State.regsWf (s : State) : Bool := Tbl.wf regReset s.regs

/-! ## Registers -/

/-- The word of a register, by key. -/
def State.rd (s : State) (k : Nat) : Word := Tbl.get (regReset k) s.regs k

/-- The state with a register's word set, by key. -/
def State.wr (s : State) (k : Nat) (v : Word) : State := { s with regs := Tbl.set (regReset k) s.regs k v }

/-- A field of a register. -/
def State.fld (s : State) (k lo n : Nat) : Nat := bitsOf (s.rd k) lo n

/-- One bit of a register. -/
def State.bit (s : State) (k i : Nat) : Bool := bitOf (s.rd k) i

/-- The state with a field of a register set. -/
def State.setFld (s : State) (k lo n v : Nat) : State := s.wr k (setBits (s.rd k) lo n v)

/-- The state with one bit of a register set to `b`. -/
def State.setBit (s : State) (k i : Nat) (b : Bool) : State := s.setFld k i 1 (b2n b)

/-- The state with a register set to a number, modulo 2^32. -/
def State.wrN (s : State) (k v : Nat) : State := s.wr k (word v)

/-- The number a register holds. -/
def State.rdN (s : State) (k : Nat) : Nat := (s.rd k).toNat

/-- A 32-bit counter counts, saturating (R40 and the counters the chapters call saturating). -/
def State.count (s : State) (k : Nat) : State :=
  if s.rdN k = 0xFFFFFFFF then s else s.wrN k (s.rdN k + 1)

/-- A 32-bit counter counts by `n`, saturating. -/
def State.countBy (s : State) (k n : Nat) : State := s.wrN k (min 0xFFFFFFFF (s.rdN k + n))

/-- A counter held in a field of a register counts, saturating. -/
def State.countFld (s : State) (k lo n : Nat) : State :=
  if s.fld k lo n = 2 ^ n - 1 then s else s.setFld k lo n (s.fld k lo n + 1)

/-- A wrapping 32-bit counter counts. -/
def State.countWrap (s : State) (k : Nat) : State := s.wrN k (s.rdN k + 1)

/-- Apply a change where a condition holds. -/
def State.onlyIf (s : State) (c : Bool) (f : State → State) : State := if c then f s else s

/-- Apply a change for every element of a list, in order. -/
def State.each {α : Type} (s : State) (l : List α) (f : State → α → State) : State := l.foldl f s

/-! ## Free values -/

/-- A free number (log entry 3) and the state after it is taken. -/
def State.fresh (s : State) : Nat × State :=
  (Config.freeNat s.freeCtr, { s with freeCtr := s.freeCtr + 1 })

/-- A free number from `lo` to `hi` inclusive: where the spec bounds an open value, the bound is kept. -/
def State.freshIn (s : State) (lo hi : Nat) : Nat × State :=
  (lo + Config.freeNat s.freeCtr % (hi - lo + 1), { s with freeCtr := s.freeCtr + 1 })

/-- A free integer from `lo` to `hi` inclusive. -/
def State.freshInt (s : State) (lo hi : Int) : Int × State :=
  (lo + ((Config.freeNat s.freeCtr % (hi - lo).toNat.succ : Nat) : Int), { s with freeCtr := s.freeCtr + 1 })

/-- A quotient whose rounding the spec leaves open: exact where it divides, else either neighbour. -/
def State.roundOpen (s : State) (num den : Int) : Int × State :=
  if num % den = 0 then (num / den, s) else s.freshInt (num / den) (num / den + 1)

/-- A free truth value. -/
def State.freshBool (s : State) : Bool × State :=
  (Config.freeNat s.freeCtr % 2 == 1, { s with freeCtr := s.freeCtr + 1 })

/-- Whether a measured quantity reaches a threshold that holds to within `tol` on either side: certain outside the
band, a free choice inside it. -/
def State.reaches (s : State) (x thr tol : Nat) : Bool × State :=
  if x + tol < thr then (false, s) else if thr + tol ≤ x then (true, s) else s.freshBool

/-! ## Clocks and time stamps -/

/-- A TIME value in units of 2^-40 ns (R67). -/
def Clock.total (c : Clock) : Nat := (c.sec * 1000000000 + c.ns) * 2 ^ 40 + c.acc

/-- The TIME value of a count of 2^-40 ns; SEC wraps at 2^48 (R67). -/
def Clock.ofTotal (t : Nat) : Clock :=
  { sec := t / (1000000000 * 2 ^ 40) % 2 ^ 48, ns := t / 2 ^ 40 % 1000000000, acc := t % 2 ^ 40 }

/-- FRAC, bits [39:24] of the accumulator (R65). -/
def Clock.frac (c : Clock) : Nat := c.acc / 2 ^ 24

/-- A TIME value in units of 2^-16 ns. -/
def Clock.t16 (c : Clock) : Nat := (c.sec * 1000000000 + c.ns) * 2 ^ 16 + c.frac

/-- The TIME value in whole nanoseconds. -/
def Clock.nsTotal (c : Clock) : Nat := c.sec * 1000000000 + c.ns

/-- Word LO of TS64 (R86). -/
def Clock.tsLo (c : Clock) : Word := word (c.ns % 2 ^ 16 * 2 ^ 16 + c.frac)

/-- Word HI of TS64 (R86). -/
def Clock.tsHi (c : Clock) : Word := word (c.sec % 2 ^ 18 * 2 ^ 14 + c.ns / 2 ^ 16)

/-- The TIME value of a count of 2^-16 ns. -/
def Clock.ofT16 (t : Nat) : Clock := Clock.ofTotal (t * 2 ^ 24)

/-- Device time TB0. -/
def State.tb0 (s : State) : Clock := s.time.clk0.now

/-- Network time TB1. -/
def State.tb1 (s : State) : Clock := s.time.clk1.now

/-- The state of adjustable clock `k`. -/
def State.clk (s : State) (k : Nat) : AdjClock := if k = 0 then s.time.clk0 else s.time.clk1

/-- The state with adjustable clock `k` set. -/
def State.setClk (s : State) (k : Nat) (c : AdjClock) : State :=
  if k = 0 then { s with time := { s.time with clk0 := c } } else { s with time := { s.time with clk1 := c } }

/-- TB0 entered as a TS64 pair in two registers. -/
def State.stamp (s : State) (lo hi : Nat) (c : Clock) : State := (s.wr lo c.tsLo).wr hi c.tsHi

/-- What the block sends to the outside is recorded, newest first (log entry 6). -/
def State.emit (s : State) (e : Emit) : State := { s with out := e :: s.out }

/-- The answer of an access is recorded. -/
def State.answer (s : State) (r : Resp) : State := { s with resp := r }

/-! ## Loss of content -/

/-- A register's survival class by its key, or none for a key that is no register of the map. -/
def keyCls (key : Nat) : Option (Page × Cls) :=
  match keyPage key with
  | some (p, off) =>
    match p.row off with
    | some (r, _) => some (p, p.clsOf r)
    | none => none
  | none => none

/-- The register file with the entries that `lose` names lost: their registers take their Reset values (R15). -/
def State.loseRegs (s : State) (lose : Nat → Bool) : State :=
  { s with regs := s.regs.filter (fun e => !lose e.1) }

/-- Whether a key is a register of a page that `page` picks with a class that `cls` picks. -/
def keyIs (page : Page → Bool) (cls : Cls → Bool) (key : Nat) : Bool :=
  match keyCls key with
  | some (p, k) => page p && cls k
  | none => false

end Sys2Proof.Machine
end

