-- ==== Sys2Proof/Machine/Flags.lean ====
section
/-! DEFINITION. The status and interrupt flags of the common page header: UNIT_STAT and its command result, IRQ_RAW,
the violations of R35 and R39, ROLE_GEN, and the status composites derive from their members (R47, R48). -/

namespace Sys2Proof.Machine

/-- UNIT_STAT.CMD_RESULT codes (R27). -/
inductive CmdResult | none | done | partly | refused | unsupported | busy
  deriving DecidableEq, Repr

/-- The encoding of CMD_RESULT (R27). -/
def CmdResult.code : CmdResult → Nat
  | .none => 0 | .done => 1 | .partly => 2 | .refused => 3 | .unsupported => 4 | .busy => 5

/-- Unit command codes of UNIT_CTRL (R25). -/
def cmdOn : Nat := 1
def cmdOff : Nat := 2
def cmdClear : Nat := 3
def cmdPrst : Nat := 4
def cmdHalt : Nat := 5
def cmdResume : Nat := 6

/-- Set a bit of IRQ_RAW of the page whose key is `base` (R29). -/
def State.raise (s : State) (base i : Nat) : State := s.setBit (base + Reg.Hdr.IRQ_RAW) i true

/-- EVIRQ: HRN raises its bit while any line is set and enabled (R140, R146). -/
def State.evirqRaise (s : State) : State :=
  s.onlyIf ((s.rd (hrnBase + Reg.Hrn.EVIRQ_RAW) &&& s.rd (hrnBase + Reg.Hrn.EVIRQ_EN)) != 0) (·.raise hrnBase 21)

/-- Write CMD_RESULT of a page and raise CMD_DONE (R29). -/
def State.cmdResult (s : State) (base : Nat) (r : CmdResult) : State :=
  (s.setFld (base + Reg.Hdr.UNIT_STAT) 7 3 r.code).raise base 2

/-- BUSY of a page's UNIT_STAT. -/
def State.busy (s : State) (base : Nat) : Bool := s.bit (base + Reg.Hdr.UNIT_STAT) 6

/-- Set or clear BUSY. -/
def State.setBusy (s : State) (base : Nat) (b : Bool) : State := s.setBit (base + Reg.Hdr.UNIT_STAT) 6 b

/-- An ignored write to a locked field (R39): LOCK_VIOL is set on the unit's primary page; its interrupt bit is
raised when it becomes 1. -/
def State.lockViol (s : State) (prim : Nat) : State :=
  (s.setBit (prim + Reg.Hdr.UNIT_STAT) 11 true).onlyIf (!s.bit (prim + Reg.Hdr.UNIT_STAT) 11) (·.raise prim 4)

/-- OWNER_VIOL is set on a unit's primary page. -/
def State.ownerViolFlag (s : State) (prim : Nat) : State := s.setBit (prim + Reg.Hdr.UNIT_STAT) 10 true

/-- A main-bus access that failed R34 (R35, R40): OWNER_VIOL on the page, the address and the count in SYS. -/
def State.ownerViol (s : State) (prim addr : Nat) : State :=
  ((s.ownerViolFlag prim).wrN (sysBase + Reg.Sys.ACC_VIOL_ADDR) addr).count (sysBase + Reg.Sys.ACC_VIOL_CNT)

/-- UNIT_STAT.ON (R26). -/
def State.unitOn (s : State) (base : Nat) : Bool := s.bit (base + Reg.Hdr.UNIT_STAT) 0

/-- UNIT_STAT.FAULT. -/
def State.unitFault (s : State) (base : Nat) : Bool := s.bit (base + Reg.Hdr.UNIT_STAT) 2

/-- UNIT_STAT.PROT. -/
def State.unitProt (s : State) (base : Nat) : Nat := s.fld (base + Reg.Hdr.UNIT_STAT) 3 3

/-- Write ON, PARTIAL, FAULT and PROT of a page; FAULT rising and a change of PROT raise their bits (R29). -/
def State.setUnit (s : State) (base : Nat) (on partly fault : Bool) (prot : Nat) : State :=
  let f0 := s.unitFault base
  let p0 := s.unitProt base
  let s := s.setFld (base + Reg.Hdr.UNIT_STAT) 0 6 (b2n on + 2 * b2n partly + 4 * b2n fault + 8 * (prot % 8))
  let s := s.onlyIf (fault && !f0) (·.raise base 0)
  s.onlyIf (prot % 8 != p0) (·.raise base 1)

/-- BLOCK_STAT, UNIT_STAT[31:16]. -/
def State.setBlockStat (s : State) (base v : Nat) : State := s.setFld (base + Reg.Hdr.UNIT_STAT) 16 16 v

/-- GEN of a unit increments; after 0xFFFF comes 0x0001 (R54, R55). -/
def State.bumpGen (s : State) (base : Nat) : State :=
  s.setFld (base + Reg.Hdr.ROLE_GEN) 0 16
    (if s.fld (base + Reg.Hdr.ROLE_GEN) 0 16 = 0xFFFF then 1 else s.fld (base + Reg.Hdr.ROLE_GEN) 0 16 + 1)

/-- GEN of a unit. -/
def State.gen (s : State) (base : Nat) : Nat := s.fld (base + Reg.Hdr.ROLE_GEN) 0 16

/-! ## Composites -/

/-- Indices from 0 to n − 1 whose bit is set in an array of words starting at a key. -/
def State.bitList (s : State) (key n : Nat) : List Nat :=
  (List.range n).filter (fun i => s.bit (key + 4 * (i / 32)) (i % 32))

/-- Local numbers of the direct members of a composite, ascending (R20, R47, R49): the tiles of the device, the
channels of a tile, the groups and channels of a channel group. -/
def State.members (s : State) (l : Nat) : List Nat :=
  if l = 1 then (List.range 8).map (0x20 + ·)
  else if 0x20 ≤ l ∧ l < 0x28 then (List.range 16).map (0x100 + 16 * (l - 0x20) + ·)
  else if 0xC0 ≤ l ∧ l < 0x100 then
    (s.bitList (cgBase (l - 0xC0) + Reg.Cg.GRP_MEMB) 64).map (0xC0 + ·) ++
    (s.bitList (cgBase (l - 0xC0) + Reg.Cg.CH_MEMB) 128).map (0x100 + ·)
  else []

/-- Key of the primary page of a composite or a channel, by local number. -/
def compBase (l : Nat) : Nat :=
  if l = 1 then sysBase
  else if 0x20 ≤ l ∧ l < 0x28 then tileBase (l - 0x20)
  else if 0xC0 ≤ l ∧ l < 0x100 then cgBase (l - 0xC0)
  else chanBase (l - 0x100)

/-- Key of I_SUM of a composite or channel (R48). -/
def isumKey (l : Nat) : Nat := if l = 1 then sysBase + Reg.Sys.I_SUM else compBase l + Reg.Chan.I_SUM

/-- The header status a composite derives from its members (R47). -/
def State.deriveStat (s : State) (l : Nat) : State :=
  let ms := (s.members l).map compBase
  let on := !ms.isEmpty && ms.all s.unitOn
  let partly := ms.any s.unitOn && ms.any (fun b => !s.unitOn b)
  s.setUnit (compBase l) on partly (ms.any s.unitFault) ((ms.map s.unitProt).foldl max 0)

/-- The group that holds a channel, if any (R255). -/
def State.groupOf (s : State) (n : Nat) : Option Nat :=
  if s.bit (chanBase n + Reg.Chan.GROUP) 31 then some (s.fld (chanBase n + Reg.Chan.GROUP) 0 6) else none

/-- The group that holds a group, if any (R259). -/
def State.parentOf (s : State) (g : Nat) : Option Nat :=
  if s.bit (cgBase g + Reg.Cg.PARENT) 31 then some (s.fld (cgBase g + Reg.Cg.PARENT) 0 6) else none

/-- A group and the groups above it, at most `fuel` of them (R52: at most six levels). -/
def State.groupChain (s : State) : Nat → Option Nat → List Nat
  | 0, _ => []
  | _, none => []
  | fuel + 1, some g => g :: s.groupChain fuel (s.parentOf g)

/-- Every composite above channel n, from the nearest up: its tile and the device, and its groups. -/
def State.above (s : State) (n : Nat) : List Nat :=
  [0x20 + n / 16, 1] ++ (s.groupChain 6 (s.groupOf n)).map (0xC0 + ·)

/-- Composites derive their status afresh after a change of channel n (R47). -/
def State.refreshUp (s : State) (n : Nat) : State := s.each (s.above n) State.deriveStat

/-- Signed 32-bit reading of a register. -/
def State.rdI (s : State) (k : Nat) : Int := signedOf 32 (s.rdN k)

/-- I_SUM of a composite: the sum of its members' I_SUM (R48). -/
def State.sumUp (s : State) (l : Nat) : State :=
  s.wrN (isumKey l) (unsignedOf 32 (((s.members l).map (fun m => s.rdI (isumKey m))).foldl (· + ·) 0))

end Sys2Proof.Machine
end

