-- ==== Sys2Proof/Machine/Count.lean ====
section
/-! DEFINITION. The event counters: the source catalogue, counting with CHAIN, stopping and starting, the CNT_HI
shadow and latch, overflow, and snapshots (R530 to R536). -/

namespace Sys2Proof.Machine

/-- Counters of a bank: ECA, ECB, ECSW, ECHRN (R530). -/
def ecLen (b : Nat) : Nat := if b < 2 then 32 else if b = 2 then 16 else 8

/-- Whether a source of the catalogue takes an instance number, or none for a reserved code (R531). -/
def ecInstOk (code inst : Nat) : Option Bool :=
  if code = 0x06 ∨ code = 0x15 then some (decide (inst < 4))
  else if 0x01 ≤ code ∧ code ≤ 0x16 then some (decide (inst < 7))
  else if code = 0x17 then some (decide (4 ≤ inst ∧ inst < 7))
  else if 0x46 ≤ code ∧ code ≤ 0x48 then some (decide (inst < 2))
  else if 0x40 ≤ code ∧ code ≤ 0x50 then some true
  else if code = 0x51 ∨ code = 0x52 then some (decide (inst < 7))
  else if 0x80 ≤ code ∧ code ≤ 0x84 then some (decide (inst < 29))
  else if code = 0x85 ∨ code = 0x86 ∨ (0x8A ≤ code ∧ code ≤ 0x8D) then some (decide (inst % 32 < 29))
  else if code = 0x89 ∨ code = 0x8F ∨ code = 0x90 ∨ code = 0x9A ∨ code = 0x9B ∨ (0x9E ≤ code ∧ code ≤ 0xA1) then
    some (decide (inst < 29))
  else if code = 0x8E then some (decide (inst < 14))
  else if code = 0x9D then some (decide (inst < 4))
  else if code = 0xA2 ∨ code = 0xA3 then some (decide (22 ≤ inst ∧ inst ≤ 25))
  else if code = 0xA4 ∨ code = 0xA5 then some (decide (inst < 12))
  else if code = 0xA6 then some (decide (inst < 8))
  else if 0x87 ≤ code ∧ code ≤ 0xA7 then some true
  else if code = 0xC7 then some (decide (inst < 32))
  else if 0xC8 ≤ code ∧ code ≤ 0xCC then some (decide (inst < 16))
  else if 0xCE ≤ code ∧ code ≤ 0xD8 then some (decide (inst < 8))
  else if code = 0xD9 then some (decide (inst < 4))
  else if code = 0xDA then some (decide (inst < 8))
  else if 0xC0 ≤ code ∧ code ≤ 0xCD then some true
  else if code = 0xF5 then some (decide (inst < 4))
  else if 0xF0 ≤ code ∧ code ≤ 0xF7 then some true
  else none

/-- Whether a bank may select a code (R530). -/
def ecBankOk (b code : Nat) : Bool :=
  decide (0xF0 ≤ code) || (if b < 2 then decide (1 ≤ code ∧ code ≤ 0x7F)
    else if b = 2 then decide (0x80 ≤ code ∧ code ≤ 0xBF) else decide (0xC0 ≤ code ∧ code ≤ 0xEF))

/-- Key of a register of counter i of a bank. -/
def ecReg (b i off : Nat) : Nat := ecBase b + off + 0x20 * i

/-- CFG.SRC and CFG.INST of a counter. -/
def State.ecSrc (s : State) (b i : Nat) : Nat := s.fld (ecReg b i Reg.Ec.CFG) 0 8
def State.ecInst (s : State) (b i : Nat) : Nat := s.fld (ecReg b i Reg.Ec.CFG) 8 8

/-- Whether a counter's selection counts: a code of its bank with an instance in range (R530). -/
def State.ecSelOk (s : State) (b i : Nat) : Bool :=
  let c := s.ecSrc b i
  ecBankOk b c &&
    (if c = 0xFF then decide (s.ecInst b i < ecLen b) else (ecInstOk c (s.ecInst b i)).getD false)

/-- SRC_BAD of a bank (R530). -/
def State.srcBad (s : State) (b : Nat) : Nat :=
  ((List.range (ecLen b)).filter (fun i => s.ecSrc b i != 0 && !s.ecSelOk b i)).foldl (fun w i => w + 2 ^ i) 0

/-- The 48-bit count. -/
def State.ecCount (s : State) (b i : Nat) : Nat :=
  s.fld (ecReg b i Reg.Ec.CNT_HI) 0 16 * 2 ^ 32 + s.rdN (ecReg b i Reg.Ec.CNT_LO)

/-- The state with a count set. -/
def State.ecPut (s : State) (b i v : Nat) : State :=
  (s.wrN (ecReg b i Reg.Ec.CNT_LO) v).wrN (ecReg b i Reg.Ec.CNT_HI) (v / 2 ^ 32 % 2 ^ 16)

/-- Whether a counter counts: its BANK_EN bit (R532). -/
def State.ecOn (s : State) (b i : Nat) : Bool := s.bit (ecBase b + Reg.Ec.BANK_EN) i

/-- A counter counts one; past 2^48 − 1 it continues from 0, sets its OVF_STAT bit, and the counters of the bank that
select CHAIN for it count one (R532). -/
def State.ecOne : Nat → State → Nat → Nat → State
  | 0, s, _, _ => s
  | fuel + 1, s, b, i =>
    if s.ecCount b i + 1 < 2 ^ 48 then s.ecPut b i (s.ecCount b i + 1)
    else
      let s := (s.ecPut b i 0).setBit (ecBase b + Reg.Ec.OVF_STAT) i true
      ((List.range (ecLen b)).filter
        (fun j => s.ecOn b j && s.ecSrc b j == 0xFF && s.ecInst b j == i)).foldl (fun s j => s.ecOne fuel b j) s

/-- Every counter of a bank that selects a source and instance counts one (R531, R532). -/
def State.ecEvent (s : State) (b code inst : Nat) : State :=
  if s.rdN (ecBase b + Reg.Ec.BANK_EN) = 0 then s
  else
    let hit (i : Nat) : Bool := s.ecOn b i && s.ecSrc b i == code && s.ecSelOk b i &&
      (s.ecInst b i == inst || (ecInstOk code 255 == some true))
    ((List.range (ecLen b)).filter hit).foldl (fun s i => s.ecOne 33 b i) s

/-- An event of a source seen by the switch or Huarneel bank, or by every bank (R530, R531). -/
def State.ev (s : State) (code inst : Nat) : State :=
  if code < 0x80 then s
  else if code < 0xC0 then s.ecEvent 2 code inst
  else if code < 0xF0 then s.ecEvent 3 code inst
  else (((s.ecEvent 0 code inst).ecEvent 1 code inst).ecEvent 2 code inst).ecEvent 3 code inst

/-- An event of a half's own sources. -/
def State.evHalf (s : State) (h code inst : Nat) : State := s.ecEvent h code inst

/-- Muzzle: whether an event of an access may be counted in its world (R534). -/
def State.unmuzzled (s : State) (secure : Bool) : Bool :=
  s.bit (sysBase + Reg.Sys.DBG_EN) (if secure then 1 else 3)

/-- A source whose occurrences no command of the table brings about: the harts' own events, the memory controllers'
and the time FAULT_N is low (R531). -/
def ecOutside (code : Nat) : Bool :=
  decide (1 ≤ code ∧ code ≤ 0x16) || decide (0x40 ≤ code ∧ code ≤ 0x43) || code == 0xD6

/-- A running counter of such a source has counted on by an amount nothing here fixes: its count is a free value. -/
def State.ecDrift (s : State) (b i : Nat) : State :=
  if s.ecOn b i && s.ecSelOk b i && ecOutside (s.ecSrc b i) then
    let r := s.freshIn 0 (2 ^ 48 - 1)
    r.2.ecPut b i r.1
  else s

/-- The counters of a bank brought to the present. -/
def State.ecDriftAll (s : State) (b : Nat) : State :=
  s.each (List.range (ecLen b)) (fun s i => s.ecDrift b i)

/-- A snapshot latches every counter of a bank with TB0; one taken while VALID is 1 sets OVR (R535). -/
def State.ecSnap (s : State) (b : Nat) : State :=
  let st := ecBase b + Reg.Ec.SNAP_STAT
  let s := (s.ecDriftAll b).wrN st (1 + 2 * b2n (s.bit st 0))
  let s := s.stamp (ecBase b + Reg.Ec.SNAP_TS_LO) (ecBase b + Reg.Ec.SNAP_TS_HI) s.tb0
  s.each (List.range (ecLen b)) (fun s i =>
    (s.wr (ecReg b i Reg.Ec.SNAP_LO) (s.rd (ecReg b i Reg.Ec.CNT_LO))).wr (ecReg b i Reg.Ec.SNAP_HI)
      (s.rd (ecReg b i Reg.Ec.CNT_HI)))

/-- A bit of EVIRQ_RAW becomes 1: every bank whose SNAP_CFG selects the line takes a snapshot (R535). -/
def State.evirqSnap (s : State) (line : Nat) : State :=
  s.each (List.range 4) (fun s b => s.onlyIf
    (s.bit (ecBase b + Reg.Ec.SNAP_CFG) 8 && s.fld (ecBase b + Reg.Ec.SNAP_CFG) 0 5 == line) (·.ecSnap b))

end Sys2Proof.Machine
end

