-- ==== Sys2Proof/Machine/Operands.lean ====
section
/-! DEFINITION. The forms an access takes: which page it reaches, whether the page accepts it (R34, R41 to R43, R314),
and how a write falls on the fields of a register (R9, R10). -/

namespace Sys2Proof.Machine

/-- Index of a half: 0 for Half A, 1 for Half B. -/
def Half.idx : Half → Nat
  | .a => 0 | .b => 1

/-- The other half. -/
def Half.other : Half → Half
  | .a => .b | .b => .a

/-- Half with an index. -/
def halfOf (i : Nat) : Half := if i = 0 then .a else .b

/-- Code 0b01 Half A, 0b10 Half B used by OWNER.HALF, HOLDER, SRC and the like. -/
def Half.code2 (h : Half) : Nat := h.idx + 1

/-- The view a master has of the half-local pages (R17). -/
def Master.view : Master → Nat
  | .half h => h.idx | .shep => 0

/-- The bank of banked registers a master reaches: each master its own (R75). -/
def Master.bankNo : Master → Nat
  | .half h => h.idx | .shep => 3

/-- HALF_STATE of a half (R33, R294): 1 RUNNING, 2 RESETTING, 3 HALTED, 4 PARKED, 5 DEAD; 0 while it is held in reset. -/
def State.halfState (s : State) (h : Half) : Nat := s.fld (halfBase h.idx + Reg.Half.ROLE_STAT) 4 3

/-- ROLE of a half (R260, R294). -/
def State.role (s : State) (h : Half) : Nat := s.fld (halfBase h.idx + Reg.Half.ROLE_STAT) 0 2

/-- UNIT_STAT of a page as it stands: a half's BLOCK_STAT[1:0] is its ROLE (R291). -/
def State.unitStat (s : State) (p : Page) : Word :=
  let v := s.rd (p.base + Reg.Hdr.UNIT_STAT)
  if p.kind = .half then setBits v 16 2 (s.role (halfOf p.idx)) else v

/-- OWNER.HALF_STATE as it stands (R32, R33): the state of the half OWNER names, NO_OWNER for NONE. -/
def State.ownerHalfState (s : State) (owner : Word) : Nat :=
  match bitsOf owner 8 2 with
  | 0 => 0
  | 1 => s.halfState .a
  | 2 => s.halfState .b
  | _ => s.halfState s.activeHalf

/-- Key of the OWNER register an access to a page is checked against: the page's own, DIR's for DIRTAB (R57). -/
def Page.ownerKey (p : Page) : Nat :=
  (if p.kind = .dirtab then dirBase else p.base) + Reg.Hdr.OWNER

/-- The world check of R34. -/
def worldOk (owner : Word) (acc : Access) : Bool := !bitOf owner 0 || acc.secure

/-- The VI check of R34; a side-band access counts as VI0 (R41). -/
def viOk (owner : Word) (acc : Access) : Bool :=
  acc.vi.val == bitsOf owner 1 7 || acc.vi.val == 0 || acc.master == .shep

/-- The half check of R34. -/
def State.halfOk (s : State) (owner : Word) (h : Half) : Bool :=
  match bitsOf owner 8 2 with
  | 0 => true
  | 1 => h == .a
  | 2 => h == .b
  | _ => h == s.activeHalf

/-- R43: Shepherd may write a page whose owning half does not run, or that SP_WRITABLE opens. -/
def State.spMayWrite (s : State) (owner : Word) : Bool :=
  bitOf owner 10 || (s.ownerHalfState owner != 1 && s.ownerHalfState owner != 2)

/-- STATE of power domain k in PD_CTRLk: ON (R333). PD0 and PD1 follow the supply and read ON while it lasts. -/
def State.domainOn (s : State) (k : Nat) : Bool := s.fld (pdcBase + Reg.Pdc.PD_CTRL + 4 * k) 16 2 == 1

/-- Keys of PD_CTRLk (k below 12) and CKG_CTRLj (12 + j). -/
def gateKey (k : Nat) : Nat := pdcBase + (if k < 12 then Reg.Pdc.PD_CTRL + 4 * k else Reg.Pdc.CKG_CTRL + 4 * (k - 12))

/-- STATE of a domain or gate (R333). -/
def State.gateSt (s : State) (k : Nat) : Nat := s.fld (gateKey k) 16 2
def State.setGateSt (s : State) (k v : Nat) : State := s.setFld (gateKey k) 16 2 v

/-- Whether the engines of clock gate j are gated (R317). -/
def State.gated (s : State) (j : Nat) : Bool := s.gateSt (12 + j) == 0

/-- How the bus answers an access before the page's registers are reached. -/
inductive Verdict where
  /-- The page accepts the access. -/
  | accept
  /-- The page is that of an absent unit (R4): reads 0, writes ignored. -/
  | absent
  /-- A standby write discarded and counted (R35). -/
  | discard
  /-- Ends with a bus error and changes nothing: no page (R5), not aligned (R8), domain off (R314). -/
  | busError
  /-- Fails R34 on the main bus (R35). -/
  | violation
  /-- Refused on the side band with a code of R45. -/
  | refuse (code : Nat)
  deriving DecidableEq, Repr

/-- A secure-authenticated service session is open: one of a level above NORMAL (R41, R601). -/
def State.secSession (s : State) : Bool := s.shep.sessions.any (fun (x : Session) => x.opened && decide (2 ≤ x.level))

/-- R41: the attributes an access carries. A side-band access carries the secure world only within a secure-authenticated
session; else it carries the normal world. -/
def State.asSent (s : State) (acc : Access) : Access :=
  match acc.master with
  | .half _ => acc
  | .shep => { acc with secure := acc.secure && s.secSession }

/-- Side-band status codes of R45. -/
def sbNoPage : Nat := 1
def sbOwnerActive : Nat := 2
def sbSecure : Nat := 3
def sbLocked : Nat := 4
def sbAlignment : Nat := 5
def sbNotClaimed : Nat := 6

/-- Whether Shepherd sees an address at all: the half-local pages are none of its (R296). -/
def shepSees (addr : Nat) : Bool := !(decide (0x40E00000 ≤ addr ∧ addr < 0x40E10000))

/-- The page an access reaches, as its master sees the map. -/
def Access.page (acc : Access) (addr : Nat) : Option Page :=
  match acc.master with
  | .half h => pageOf h.idx addr
  | .shep => if shepSees addr then pageOf 0 addr else none

/-- The check of an access to a page by R34, R35, R42 and R43; every master reads the pages of both halves (R291). -/
def State.judgePage (s : State) (acc : Access) (isWrite : Bool) (p : Page) : Verdict :=
  let owner := s.rd p.ownerKey
  match acc.master with
  | .half h =>
    if worldOk owner acc && viOk owner acc then
      if s.halfOk owner h || (p.kind == .half && !isWrite) then .accept
      else if bitsOf owner 8 2 == 3 then (if isWrite then .discard else .accept)
      else .violation
    else .violation
  | .shep =>
    if !worldOk owner (s.asSent acc) then .refuse sbSecure
    else if isWrite && !s.spMayWrite owner then .refuse sbOwnerActive
    else .accept

/-- The check of an access in the order R8, R5, R4, R314, then the page's own (R34 to R43). Without the logic supply no
access is answered (R308). -/
def State.judge (s : State) (acc : Access) (isWrite : Bool) (size addr : Nat) : Verdict :=
  if !s.supplied then .busError
  else if size ≠ 4 ∨ addr % 4 ≠ 0 then
    (if acc.master = .shep then .refuse sbAlignment else .busError)
  else
    match acc.page addr with
    | none => if acc.master = .shep then .refuse sbNoPage else .busError
    | some p =>
      if p.kind = .absent then .absent
      else if !s.domainOn p.domain then
        (if acc.master = .shep then .refuse sbNoPage else .busError)
      else s.judgePage acc isWrite p

/-- A side-band access ends with a code other than OK, which counts (R45). -/
def State.sbRefuse (s : State) (code : Nat) : State :=
  (s.count (sysBase + Reg.Sys.SB_REFUSE_CNT)).answer (.code code)

/-- One octet folded into a CRC-32C, reflected (R284). -/
def crcByte (c b : Nat) : Nat :=
  (List.range 8).foldl (fun c _ => if c % 2 = 1 then c / 2 ^^^ 0x82F63B78 else c / 2) (c ^^^ b % 256)

/-- The four octets of a word, least significant first. -/
def octets (v : Word) : List Nat := (List.range 4).map (fun i => v.toNat / 256 ^ i % 256)

/-- The record of half h. -/
def State.halfSt (s : State) (h : Half) : HalfSt := Tbl.get {} s.halves h.idx

/-- The state with the record of half h set. -/
def State.setHalfSt (s : State) (h : Half) (m : HalfSt) : State := { s with halves := Tbl.set {} s.halves h.idx m }

/-- A contribution of eight octets to a half's open epoch (R284). -/
def State.cmpFold (s : State) (h : Half) (a d : Word) : State :=
  let m := s.halfSt h
  (s.setHalfSt h { m with crc := (octets a ++ octets d).foldl crcByte m.crc }).countWrap (localBase h.idx + Reg.Local.CMP_WRITES)

/-- R284: a main-bus write that passes the world and VI checks to a page of the active half is a contribution. -/
def State.cmpWrite (s : State) (acc : Access) (size addr : Nat) (v : Word) : State :=
  match acc.master, acc.page addr with
  | .half h, some p =>
    let o := s.rd p.ownerKey
    if size = 4 && addr % 4 == 0 && p.kind != .absent && s.domainOn p.domain && worldOk o acc && viOk o acc &&
        bitsOf o 8 2 == 3 then s.cmpFold h (word addr) v
    else s
  | _, _ => s

/-- A standby write discarded and counted (R35, R531). -/
def State.stbyDiscard (s : State) (acc : Access) : State :=
  let s := s.count (sysBase + Reg.Sys.STBY_DISCARD)
  match acc.master with
  | .half h => s.onlyIf (s.unmuzzled acc.secure) (·.evHalf h.idx 0x4D 0)
  | .shep => s

/-- The verdict's answer where the page is not reached; `k` is what happens where it is. -/
def State.settle (s : State) (acc : Access) (addr : Nat) (v : Verdict) (absent : Resp) (k : State → State) : State :=
  match v with
  | .accept => k s
  | .absent => s.answer absent
  | .discard => (s.stbyDiscard acc).answer .ok
  | .busError => s.answer .busError
  | .violation =>
    match acc.page addr with
    | some p => (s.ownerViol p.prim addr).answer .busError
    | none => s.answer .busError
  | .refuse code => s.sbRefuse code

/-- R298: a side-band write of RST_REQ that is refused counts in ACC_VIOL_CNT too. One that is no aligned word is no write
of the register (R8). -/
def State.rstRefused (s : State) (addr : Nat) (v : Verdict) : State :=
  match v with
  | .refuse c =>
    s.onlyIf (addr == pwrBase + Reg.Pwr.RST_REQ && c != sbAlignment) (·.count (sysBase + Reg.Sys.ACC_VIOL_CNT))
  | _ => s

/-- A write access of a word: a contribution to the comparison (R284), checked, and where the page accepts it answered OK and given to
`eff` with the attributes it carries (R41). -/
def State.write (s : State) (acc : Access) (size addr : Nat) (v : Word) (eff : Access → State → State) : State :=
  let j := s.judge acc true size addr
  ((s.cmpWrite acc size addr v).rstRefused addr j).settle acc addr j .ok
    (fun (t : State) => eff (s.asSent acc) (t.answer .ok))

/-- A read access: checked, and where the page accepts it given with the attributes it carries (R41) to `eff`, which
answers it. -/
def State.read (s : State) (acc : Access) (size addr : Nat) (eff : Access → State → State) : State :=
  s.settle acc addr (s.judge acc false size addr) (.data 0) (eff (s.asSent acc))

/-- A write refused by a rule of the register: on the side band with a code, on the main bus as an ownership failure. -/
def State.failWrite (s : State) (acc : Access) (prim addr code : Nat) : State :=
  match acc.master with
  | .half _ => (s.ownerViol prim addr).answer .busError
  | .shep => s.sbRefuse code

/-- A write that met a lock (R39): ignored with LOCK_VIOL; LOCKED on the side band. -/
def State.lockedWrite (s : State) (acc : Access) (prim : Nat) : State :=
  match acc.master with
  | .half _ => s.lockViol prim
  | .shep => (s.lockViol prim).sbRefuse sbLocked

/-- The word a write leaves in a register row: stored bits for RW kinds, cleared bits for W1C, set bits for W1S, nothing
for the others (R9, R10). -/
def RegRow.store (r : RegRow) (old v : Word) : Word :=
  match r.acc with
  | .rw | .rwp | .rwl | .rwt => (old &&& ~~~(word r.mask)) ||| (v &&& word r.mask)
  | .w1c => old &&& ~~~(v &&& word r.mask)
  | .w1s => old ||| (v &&& word r.mask)
  | .ro | .wo | .rc => old

/-- LOCK.FIELD_LOCK of a page (R38). -/
def State.fieldLocked (s : State) (p : Page) : Bool := s.bit (p.base + Reg.Hdr.LOCK) 0

/-- LOCK.OWNER_LOCK of a page (R38). -/
def State.ownerLocked (s : State) (p : Page) : Bool := s.bit (p.base + Reg.Hdr.LOCK) 1

end Sys2Proof.Machine
end

