-- ==== Sys2Proof/Machine/Distrib.lean ====
section
/-! DEFINITION. The input distributor's sampling: an input whose source the active half selects is held for delivery
(R264 to R266). -/

namespace Sys2Proof.Machine

/-- DIST_SEL bit of a SOURCE (R266). -/
def distBit (source : Nat) : Nat := source - 1

/-- An input is sampled: it becomes an item to deliver where the active half's DIST_SEL enables its source (R264). -/
def State.dist (s : State) (x : DistItem) : State :=
  if s.bit (localBase s.activeHalf.idx + Reg.Local.DIST_SEL) (distBit x.source) then { s with distQ := s.distQ ++ [x] }
  else s

/-- An input sampled now. -/
def State.distNow (s : State) (source id : Nat) (w5 w6 w7 : Word) : State :=
  s.dist { source := source, tsLo := s.tb0.tsLo, tsHi := s.tb0.tsHi, id := id, w5 := w5, w6 := w6, w7 := w7 }

end Sys2Proof.Machine
end

