-- ==== Sys2Proof/Machine/Persist.lean ====
section
/-! DEFINITION. Persistent words (class P): the write count of every word, WEAR, and what a worn word does (R318 to
R320). -/

namespace Sys2Proof.Machine

/-- Write count of a P word, by key. -/
def State.wearOf (s : State) (k : Nat) : Nat := Tbl.get 0 s.wear k

/-- A word at 10,000,000 writes accepts no more (R320). -/
def State.worn (s : State) (k : Nat) : Bool := decide (10000000 ≤ s.wearOf k)

/-- Key of the WEAR register of the page that holds a key. -/
def wearKey (k : Nat) : Nat := k - k % 0x1000 + Reg.Hdr.WEAR

/-- Whether the page that holds a key shows its wear: it has RWP fields (R23). -/
def keyWears (k : Nat) : Bool := match keyPage k with | some (p, _) => p.hasRwp | none => false

/-- A completed write of a P word: the value, the count, and WEAR of its page with its warning, raised on the unit's
primary page when WARN becomes 1 (R29, R31, R319, R320). -/
def State.putP (s : State) (prim k : Nat) (v : Word) : State :=
  let n := s.wearOf k + 1
  let s := { s.wr k v with wear := Tbl.set 0 s.wear k n }
  let w := wearKey k
  if !keyWears k then s
  else
    let s := s.onlyIf (decide (s.fld w 0 24 < n)) (·.setFld w 0 24 n)
    s.onlyIf (decide (9000000 ≤ n) && !s.bit w 31) (fun s => (s.setBit w 31 true).raise prim 5)

/-- A write that meets a worn word (R320): ignored as a write to a locked field, counted in P_WORN_CNT, P_WORN. -/
def State.wornWrite (s : State) (acc : Access) (prim : Nat) : State :=
  ((s.lockedWrite acc prim).count (pwrBase + Reg.Pwr.P_WORN_CNT)).raise pwrBase 19

/-- A master's write of a persistent field (R10, R319, R320), an event of the writing half (R531). -/
def State.writeP (s : State) (acc : Access) (prim k : Nat) (v : Word) : State :=
  let s := match acc.master with
    | .half h => s.onlyIf (s.unmuzzled acc.secure) (·.evHalf h.idx 0x50 0)
    | .shep => s
  if s.worn k then s.wornWrite acc prim else s.putP prim k v

/-- Hardware's write of a P word; hardware never writes a worn word (R320). -/
def State.hwP (s : State) (prim k : Nat) (v : Word) : State :=
  if s.worn k then s else s.putP prim k v

/-- Hardware counts in a P word, saturating. -/
def State.hwCountP (s : State) (prim k : Nat) : State :=
  if s.rdN k = 0xFFFFFFFF then s else s.hwP prim k (word (s.rdN k + 1))

end Sys2Proof.Machine
end

