-- ==== Sys2Proof/Machine/TimeBase.lean ====
section
/-! DEFINITION. Device time and network time: increments, slews, offsets, snapshots and the timestamp capture
(R64 to R93). The act of an offset on what is scheduled, and what else advances on a tick, stand with Huarneel. -/

namespace Sys2Proof.Machine

/-- Whole clock range in units of 2^-40 ns. -/
def clockRange : Nat := 2 ^ 48 * 1000000000 * 2 ^ 40

/-- Key of a register of CLKk. -/
def clkReg (k off : Nat) : Nat := clkBase k + off

/-- TB_STAT bit `i` set, with CLK naming the clock of bits [2:0] and RANGE_ERR raised (R68, R70, R89, R90). -/
def State.rangeErr (s : State) (k i : Nat) : State :=
  ((s.setBit (tbBase + Reg.Tb.TB_STAT) i true).setBit (tbBase + Reg.Tb.TB_STAT) 8 (k == 1)).raise tbBase 20

/-- SLEW_STEP of clock k in units of 2^-40 ns per tick; 0 is treated as 1 (R67, R69). -/
def State.slewStep (s : State) (k : Nat) : Nat :=
  max 1 (s.fld (clkReg k Reg.Clk.SLEW_STEP) 0 16) * 2 ^ 12

/-- What remains of a clock's slew as its next tick begins: nothing after a CANCEL (R69). -/
def AdjClock.slewNow (c : AdjClock) : Int := if c.slewOff then 0 else c.slew

/-- What one tick adds to an adjustable clock and what it leaves of its slew (R67). -/
def AdjClock.tickBy (c : AdjClock) (step : Nat) : Nat × Int :=
  let r := c.slewNow
  if 0 < r then (c.inc + (min (step : Int) r).toNat, r - min (step : Int) r)
  else if r < 0 then (c.inc - (min (step : Int) (-r)).toNat, r + min (step : Int) (-r))
  else (c.inc, 0)

/-- SEC_WRAP: a clock's SEC passed 2^48 − 1 (R67, R89). -/
def State.secWrap (s : State) : State := (s.setBit (tbBase + Reg.Tb.TB_STAT) 3 true).raise tbBase 19

/-- One tick of adjustable clock k (R67), from which a GO or a CANCEL holds (R69); a carry of TB0 into SEC is an event
(R531). -/
def State.tickClk (s : State) (k : Nat) : State :=
  let c := s.clk k
  let r := c.tickBy (s.slewStep k)
  let t := c.now.total + r.1
  let s := (s.setClk k { c with
    now := Clock.ofTotal t, slew := r.2, slewing := c.slewing && !c.slewOff, slewNew := false, slewOff := false
    slewOn := c.slewing && !c.slewOff && r.2 != 0 }).onlyIf (decide (clockRange ≤ t)) (·.secWrap)
  s.onlyIf (k == 0 && decide (1000000000 * 2 ^ 40 ≤ c.now.total % (1000000000 * 2 ^ 40) + r.1)) (·.ev 0xF1 0)

/-- One tick of TBF, always by the nominal INCREMENT (R66); a microsecond of TBF is an event (R531). -/
def State.tickTbf (s : State) : State :=
  let t := s.time.tbf.total + 0x1999999999A
  let us (x : Nat) : Nat := x / (1000 * 2 ^ 40)
  let was := us s.time.tbf.total
  (({ s with time := { s.time with tbf := Clock.ofTotal t } }).onlyIf (decide (clockRange ≤ t)) (·.secWrap)).onlyIf
    (us t != was) (·.ev 0xF0 0)

/-- How many tick edges back a timestamp point may lie: the first cell of a frame at 10 Mb/s lasts 51.2 µs. -/
def histLen : Nat := 40960

/-- What the adjustable clocks read at the present tick edge is kept for the frames whose SFD it saw (R76). -/
def State.keepTick (s : State) : State :=
  let t := s.time
  { s with time := { t with hist := (⟨t.clk0.now, t.clk0.inc, t.clk1.now, t.clk1.inc⟩ :: t.hist).take histLen } }

/-- One tick of the three clocks; none while the timebase stands still (R67, R74). -/
def State.tickClocks (s : State) : State :=
  if s.time.stopped then s else ((s.keepTick.tickClk 0).tickClk 1).tickTbf

/-- An INCREMENT between 1.5984 ns and 1.6016 ns (R68), in units of 2^-40 ns. -/
def incOk (inc : Nat) : Bool := decide (15984 * 2 ^ 40 ≤ inc * 10000 ∧ inc * 10000 ≤ 16016 * 2 ^ 40)

/-- A write of INC_LO loads the shadow (R68). -/
def incLoWrite (k : Nat) (v : Word) (s : State) : State := s.setClk k { s.clk k with shadow := v }

/-- A write of INC_HI requests the commit of its INC_NS and INC_FRAC[39:32] with the shadowed INC_LO, or is refused
for range (R68). -/
def incHiWrite (k : Nat) (v : Word) (s : State) : State :=
  let inc := bitsOf v 0 12 * 2 ^ 32 + (s.clk k).shadow.toNat
  if incOk inc then s.setClk k { s.clk k with incReq := some inc } else s.rangeErr k 0

def execIncLoWrite (acc : Access) (k : Fin 2) (v : Word) (s : State) : Host.Outcome State Fault Refusal :=
  .next (s.write acc 4 (clkReg k.val Reg.Clk.INC_LO) v (fun _ => incLoWrite k.val v))

def execIncHiWrite (acc : Access) (k : Fin 2) (v : Word) (s : State) : Host.Outcome State Fault Refusal :=
  .next (s.write acc 4 (clkReg k.val Reg.Clk.INC_HI) v (fun _ => incHiWrite k.val v))

/-- At the next tick the requested increment becomes the running one (R68). -/
def incCommit (k : Nat) (s : State) : State :=
  match (s.clk k).incReq with
  | some inc => s.setClk k { s.clk k with inc := inc, incReq := none }
  | none => s

def execIncCommit (k : Fin 2) (s : State) : Host.Outcome State Fault Refusal := .next (incCommit k.val s)

/-- SLEW_CTRL.GO loads SLEW_AMT into SLEW_REMAIN, replacing what remained; it is applied from the next tick (R69). -/
def slewGo (k : Nat) (s : State) : State :=
  s.setClk k { s.clk k with
    slew := s.rdI (clkReg k Reg.Clk.SLEW_AMT) * 2 ^ 24, slewing := true, slewNew := true, slewOff := false }

def execSlewGo (acc : Access) (k : Fin 2) (s : State) : Host.Outcome State Fault Refusal :=
  .next (s.write acc 4 (clkReg k.val Reg.Clk.SLEW_CTRL) 1 (fun _ => slewGo k.val))

/-- SLEW_CTRL.CANCEL: the next tick sets SLEW_REMAIN to 0, without SLEW_DONE (R69). -/
def slewCancel (k : Nat) (s : State) : State := s.setClk k { s.clk k with slewOff := true }

def execSlewCancel (acc : Access) (k : Fin 2) (s : State) : Host.Outcome State Fault Refusal :=
  .next (s.write acc 4 (clkReg k.val Reg.Clk.SLEW_CTRL) 2 (fun _ => slewCancel k.val))

/-- A slew runs: SLEW_REMAIN is not 0, or its GO waits for the next tick (R69). -/
def AdjClock.slews (c : AdjClock) : Bool := c.slewing && (c.slew != 0 || c.slewNew)

/-- A slew whose remaining amount is 0 ends: SLEWING clears and the clock's SLEW_DONE bit is raised (R69, R89). -/
def slewDone (k : Nat) (s : State) : State :=
  if (s.clk k).slewing && !(s.clk k).slews && !(s.clk k).slewOff then
    (s.setClk k { s.clk k with slewing := false }).raise tbBase (16 + k)
  else s

def execSlewDone (k : Fin 2) (s : State) : Host.Outcome State Fault Refusal := .next (slewDone k.val s)

/-- OFS_CTRL.GO takes the offset for the next tick, or sets OFS_BUSY while one is pending (R70). -/
def ofsGo (k : Nat) (s : State) : State :=
  match (s.clk k).ofsReq with
  | some _ => s.rangeErr k 2
  | none =>
    let o : OfsReq :=
      ⟨signedOf 48 (s.fld (clkReg k Reg.Clk.OFS_SEC_HI) 0 16 * 2 ^ 32 + s.rdN (clkReg k Reg.Clk.OFS_SEC_LO)),
       s.fld (clkReg k Reg.Clk.OFS_NS) 0 30, s.fld (clkReg k Reg.Clk.OFS_FRAC) 0 16⟩
    s.setClk k { s.clk k with ofsReq := some o }

def execOfsGo (acc : Access) (k : Fin 2) (s : State) : Host.Outcome State Fault Refusal :=
  .next (s.write acc 4 (clkReg k.val Reg.Clk.OFS_CTRL) 1 (fun _ => ofsGo k.val))

/-- An offset in units of 2^-40 ns (R70). -/
def OfsReq.amount (o : OfsReq) : Int := (o.sec * 1000000000 + o.ns) * 2 ^ 40 + o.frac * 2 ^ 24

/-- Whether an offset may be applied to a clock: OFS_NS below 10^9 and the result not below zero (R70). -/
def OfsReq.ok (o : OfsReq) (c : Clock) : Bool := decide (o.ns < 1000000000 ∧ 0 ≤ (c.total : Int) + o.amount)

/-- The clock's part of an offset due: applied or refused with OFS_RANGE (R70). The second part is the step made, in
units of 2^-40 ns. -/
def offsetClock (k : Nat) (s : State) : State × Int :=
  match (s.clk k).ofsReq with
  | none => (s, 0)
  | some o =>
    let c := s.clk k
    let s := s.setClk k { c with ofsReq := none }
    if o.ok c.now then
      let t := ((c.now.total : Int) + o.amount).toNat
      ((s.setClk k { c with ofsReq := none, now := Clock.ofTotal t }).onlyIf (decide (clockRange ≤ t)) (·.secWrap),
       o.amount)
    else (s.rangeErr k 1, 0)

/-- SNAP.GO requests a snapshot into the writer's bank: VALID reads 0 until the latch; nothing is requested while the
timebase stands still (R75). -/
def snapGo (m : Master) (s : State) : State :=
  let s := s.wr (bank m.bankNo (tbBase + Reg.Tb.SNAP_STAT)) 0
  if s.time.stopped then s
  else { s with time := { s.time with snapReq := m :: s.time.snapReq.filter (· != m) } }

def execSnapGo (acc : Access) (s : State) : Host.Outcome State Fault Refusal :=
  .next (s.write acc 4 (tbBase + Reg.Tb.SNAP) 1 (fun acc => snapGo acc.master))

/-- One clock entered in four snapshot words: SEC[47:32], SEC[31:0], NS, FRAC (R90). -/
def State.snapWords (s : State) (key : Nat) (c : Clock) : State :=
  (((s.wrN key (c.sec / 2 ^ 32)).wrN (key + 4) c.sec).wrN (key + 8) c.ns).wrN (key + 12) c.frac

/-- The three clocks latched into a master's bank, VALID set (R75). -/
def snapLatch (m : Master) (s : State) : State :=
  if s.time.snapReq.contains m && !s.time.stopped then
    let b := bank m.bankNo tbBase
    let s := { s with time := { s.time with snapReq := s.time.snapReq.filter (· != m) } }
    let s := s.snapWords (b + Reg.Tb.SNAP0) s.time.clk0.now
    let s := s.snapWords (b + Reg.Tb.SNAP1) s.time.clk1.now
    let s := s.snapWords (b + Reg.Tb.SNAPF) s.time.tbf
    s.wrN (b + Reg.Tb.SNAP_STAT) 1
  else s

def execSnapLatch (m : Master) (s : State) : Host.Outcome State Fault Refusal := .next (snapLatch m s)

/-! ## Timestamp capture -/

/-- The entries of a capture FIFO. -/
def State.capFifo (s : State) (h : Half) : List CapEntry :=
  match h with | .a => s.time.capA | .b => s.time.capB

/-- The state with a capture FIFO set. -/
def State.setCapFifo (s : State) (h : Half) (l : List CapEntry) : State :=
  match h with
  | .a => { s with time := { s.time with capA := l } }
  | .b => { s with time := { s.time with capB := l } }

/-- The captured value of a clock at bin q of a tick: the clock at the tick edge plus the bin centre times
INCREMENT / 1.6 ns, to the nearest 2^-16 ns (R76, R77). DEDUCED: the clock enters as it is read, SEC, NS and FRAC, without
the bits of its accumulator below FRAC (log entry 83). -/
def captured (now : Clock) (inc q : Nat) : Nat :=
  let centre := if q < 12 then 1250 * q + 625 else 15500  -- in units of 10^-4 ns
  now.t16 + (centre * inc * 2 ^ 16 + 8000 * 2 ^ 40) / (16000 * 2 ^ 40)

/-- Clock k and its INCREMENT at the tick edge `n` ticks before the present one. -/
def State.clkAgo (s : State) (k n : Nat) : Clock × Nat :=
  let c := s.clk k
  match n with
  | 0 => (c.now, c.inc)
  | n + 1 => match s.time.hist[n]? with
    | some r => if k = 0 then (r.now0, r.inc0) else (r.now1, r.inc1)
    | none => (c.now, c.inc)

/-- The speed slot a port uses (R81): COR_STAT of the port. -/
def State.corSlot (s : State) (p : Nat) : Nat := s.fld (tbcorBase + Reg.Tbcor.COR_STAT + 0x20 * p) 0 2

/-- ING of a port's slot in use, in units of 1/16 ns (R80). -/
def State.ingOf (s : State) (p : Nat) : Int :=
  signedOf 24 (s.fld (tbcorBase + Reg.Tbcor.ING_S0 + 0x20 * p + 8 * s.corSlot p) 0 24)

/-- EGR of a port's slot in use, in units of 1/16 ns (R80). -/
def State.egrOf (s : State) (p : Nat) : Int :=
  signedOf 24 (s.fld (tbcorBase + Reg.Tbcor.EGR_S0 + 0x20 * p + 8 * s.corSlot p) 0 24)

/-- The clock of a timestamp by the frame's gPTP domain number, if it is a gPTP frame (R78): 0 TB0, 1 TB1. -/
def State.tsClock (s : State) (gptp : Option Nat) : Nat :=
  match gptp with
  | none => 0
  | some d =>
    let on (k : Nat) : Bool := s.bit (clkReg k Reg.Clk.DOMAIN_CFG) 8 && s.fld (clkReg k Reg.Clk.DOMAIN_CFG) 0 7 == d
    if on 0 then 0 else if on 1 then 1 else 0

/-- The corrected ingress timestamp of a frame whose SFD came to a port in bin q of the tick `n` before the present one,
in 2^-16 ns (R76 to R80). DESIGN CHOICE: one that the correction takes below zero is 0; the spec states no value for it (log
entry 84). -/
def State.tsIn (s : State) (p n q : Nat) (gptp : Option Nat) : Clock :=
  let c := s.clkAgo (s.tsClock gptp) n
  Clock.ofT16 ((captured c.1 c.2 q : Int) - s.ingOf p * 2 ^ 12).toNat

/-- The corrected egress timestamp of a frame whose SFD leaves a port in bin q of the present tick (R76 to R80); log entry 84
as above. -/
def State.tsOut (s : State) (p q : Nat) (gptp : Option Nat) : Clock :=
  let c := s.clk (s.tsClock gptp)
  Clock.ofT16 ((captured c.now c.inc q : Int) + s.egrOf p * 2 ^ 12).toNat

/-- An egress timestamp enters the capture FIFO of the half whose descriptor asked for it, or is dropped and counted
when the FIFO is full (R85, R89, R93). -/
def State.capEnter (s : State) (h : Half) (tag port clk : Nat) (c : Clock) : State :=
  let l := s.capFifo h
  if l.length < 64 then
    let info := word (tag % 2 ^ 16 * 2 ^ 16 + port % 32 * 2 ^ 8 + clk % 4 * 2 ^ 6 + 1)
    (s.setCapFifo h (l ++ [⟨c.tsLo, c.tsHi, info⟩])).onlyIf l.isEmpty (·.raise tbBase (21 + h.idx))
  else (s.count (tbcapBase h.idx + Reg.Tbcap.CAP_LOST)).raise tbBase (23 + h.idx)

/-- CAP_POP discards the head entry (R93). -/
def capPop (h : Half) (s : State) : State := s.setCapFifo h (s.capFifo h).tail

def execCapPop (acc : Access) (h : Half) (s : State) : Host.Outcome State Fault Refusal :=
  .next (s.write acc 4 (tbcapBase h.idx + Reg.Tbcap.CAP_POP) 1 (fun _ => capPop h))

/-! ## What the registers of this chapter read -/

/-- Live registers of CLKk: the running INCREMENT, SLEW_REMAIN and ADJ_STAT, whose SLEWING follows a GO or a CANCEL at the
next tick (R68, R69, R91). -/
def State.clkLive (s : State) (k off : Nat) : Option Word :=
  let c := s.clk k
  if off = Reg.Clk.INC_LO then some (word c.inc)
  else if off = Reg.Clk.INC_HI then some (word (c.inc / 2 ^ 32))
  else if off = Reg.Clk.SLEW_REMAIN then some (word (unsignedOf 32 (truncDiv c.slew (2 ^ 24))))
  else if off = Reg.Clk.ADJ_STAT then
    some (word (b2n c.slewOn + 2 * b2n c.ofsReq.isSome + 4 * b2n c.incReq.isSome))
  else none

/-- Live registers of a capture FIFO page (R93). -/
def State.capLive (s : State) (h : Half) (off : Nat) : Option Word :=
  let l := s.capFifo h
  if off = Reg.Tbcap.CAP_TS_LO then some (match l with | e :: _ => e.lo | [] => 0)
  else if off = Reg.Tbcap.CAP_TS_HI then some (match l with | e :: _ => e.hi | [] => 0)
  else if off = Reg.Tbcap.CAP_INFO then some (match l with | e :: _ => e.info | [] => 0)
  else if off = Reg.Tbcap.CAP_COUNT then some (word l.length)
  else none

end Sys2Proof.Machine
end

