-- ==== Sys2Proof/Machine/Domains.lean ====
section
/-! DEFINITION. Huarneel phase domains: position, rate and state, the four sources, holding, stalling, and the
children of a domain (R94 to R114). -/

namespace Sys2Proof.Machine

/-- 2^64, the modulus of positions. -/
def posMod : Nat := 2 ^ 64

/-- The unit of `Dom.p` in a phase unit. -/
def subUnit : Nat := 2 ^ 56

/-- Position X: CYCLE in the upper, PHASE in the lower 32 bits (R94). -/
def Dom.x (m : Dom) : Nat := m.p / subUnit

/-- Signed distance from one position to another, modulo 2^64. -/
def posDist (a b : Nat) : Int := signedOf 64 ((b + posMod - a % posMod) % posMod)

/-- Signed distance between positions in units of 2^-56. -/
def subDist (p q : Nat) : Int :=
  posDist (p / subUnit) (q / subUnit) * subUnit + ((q % subUnit : Nat) - (p % subUnit : Nat) : Int)

/-- A position moved by a signed amount in units of 2^-56, modulo 2^64 phase units. -/
def posAdd (p : Nat) (d : Int) : Nat := ((p + d) % (posMod * subUnit : Nat)).toNat

/-- The domain record of Dd. -/
def State.dom (s : State) (d : Nat) : Dom := Tbl.get {} s.doms d

/-- The state with the domain record of Dd set. -/
def State.setDom (s : State) (d : Nat) (m : Dom) : State := { s with doms := Tbl.set {} s.doms d m }

/-- Key of a register of DOMd. -/
def domReg (d off : Nat) : Nat := domBase d + off

/-- SRC_CFG.SRC: 0 TIME, 1 ANGLE, 2 LINE, 3 CHILD. -/
def State.domSrc (s : State) (d : Nat) : Nat := s.fld (domReg d Reg.Dom.SRC_CFG) 0 2

/-- SRC_CFG.CLOCK: 0 TB0, 1 TB1, 2 TBF. -/
def State.domClock (s : State) (d : Nat) : Nat := s.fld (domReg d Reg.Dom.SRC_CFG) 4 2

/-- CHILD_CFG.PARENT. -/
def State.domParent (s : State) (d : Nat) : Nat := s.fld (domReg d Reg.Dom.CHILD_CFG) 0 4

/-- NUM and DEN of a CHILD domain (R109). -/
def State.childNum (s : State) (d : Nat) : Int := signedOf 16 (s.fld (domReg d Reg.Dom.CHILD_NUM) 0 16)
def State.childDen (s : State) (d : Nat) : Nat := s.fld (domReg d Reg.Dom.CHILD_DEN) 0 16

/-- Period of a TIME domain in units of 2^-16 ns; below 100 ns is 100 ns (R99). -/
def State.timePeriod (s : State) (d : Nat) : Nat :=
  max (100 * 2 ^ 16)
    (s.rdN (domReg d Reg.Dom.TIME_PERIOD_NS) * 2 ^ 16 + s.fld (domReg d Reg.Dom.TIME_PERIOD_FRAC) 0 16)

/-- EPOCH of a TIME domain in units of 2^-40 ns (R99). -/
def State.timeEpoch (s : State) (d : Nat) : Nat :=
  ((s.fld (domReg d Reg.Dom.TIME_EPOCH_SEC_HI) 0 16 * 2 ^ 32 + s.rdN (domReg d Reg.Dom.TIME_EPOCH_SEC_LO)) * 1000000000
    + s.fld (domReg d Reg.Dom.TIME_EPOCH_NS) 0 30) * 2 ^ 40

/-- The clock a TIME domain is locked to. -/
def State.clockOf (s : State) (c : Nat) : Clock :=
  if c = 0 then s.tb0 else if c = 1 then s.tb1 else s.time.tbf

/-- Ideal position of a TIME domain in units of 2^-56, its clock having reached EPOCH (R99). -/
def State.idealPos (s : State) (d : Nat) : Nat :=
  let t := (s.clockOf (s.domClock d)).total
  let e := s.timeEpoch d
  ((t - e) * 2 ^ 88 / (s.timePeriod d * 2 ^ 24)) % (posMod * subUnit)

/-- Whether a TIME domain's clock has reached its epoch. -/
def State.epochPassed (s : State) (d : Nat) : Bool :=
  decide (s.timeEpoch d ≤ (s.clockOf (s.domClock d)).total)

/-- R of a TIME domain locked to TB0 (R95, R99). -/
def State.timeRate (s : State) (d : Nat) : Int := (2 ^ 64 / s.timePeriod d : Nat)

/-- R limited to its 48 bits (R95). -/
def rate48 (r : Int) : Int := limitI (-(2 ^ 47)) (2 ^ 47 - 1) r

/-- Running children of a domain (R109): CHILD domains not OFF whose parent it is. -/
def State.children (s : State) (d : Nat) : List Nat :=
  (List.range 16).filter (fun c => c != d && s.domSrc c == 3 && s.domParent c == d && (s.dom c).st != .off)

/-- DOM_STAT of a domain: its state, REVERSE and the bits the register holds (R149). -/
def State.domStat (s : State) (d : Nat) : Word :=
  let m := s.dom d
  word ((match m.st with | .off => 0 | .wait => 1 | .run => 2 | .hold => 3 | .stalled => 4)
    + 8 * b2n (decide (m.rate < 0)) + s.rdN (domReg d Reg.Dom.DOM_STAT) % 32 / 16 * 16)

/-- A domain enters a state; RUN_ENTER is raised when it becomes RUN from WAIT, HOLD or STALLED (R148); a change is an
input of the distributor (R266). -/
def State.enter (s : State) (d : Nat) (st : DomState) : State :=
  let m := s.dom d
  let s := (s.setDom d { m with st := st }).onlyIf
    (st == .run && (m.st == .wait || m.st == .hold || m.st == .stalled)) (·.raise (domBase d) 20)
  s.onlyIf (m.st != st) (fun s => s.distNow 0x0A d (s.domStat d) (word (m.x / 2 ^ 32)) (word (m.x % 2 ^ 32)))

/-- Position of a child by its parent's: floor(X_parent × NUM / DEN) + CHILD_OFS, modulo 2^64 (R109). -/
def State.childPos (s : State) (d parent : Nat) : Nat :=
  let q := ((s.dom parent).x : Int) * s.childNum d / (s.childDen d : Int)
  ((q + s.rdN (domReg d Reg.Dom.CHILD_OFS)) % (posMod : Int)).toNat

/-- Rate of a child: its parent's × NUM / DEN (R110). -/
def State.childRate (s : State) (d parent : Nat) : Int :=
  rate48 (truncDiv ((s.dom parent).rate * s.childNum d) (max 1 (s.childDen d)))

/-- How a parent's change reaches a child. -/
inductive ChildStep where
  /-- The parent advanced by an amount in units of 2^-56 phase units. -/
  | advance (dx : Int)
  /-- The parent re-anchored or started: the position is computed afresh. -/
  | anchor
  /-- The position stays; state and rate follow. -/
  | follow
  deriving DecidableEq, Repr

/-- One child takes its parent's state and rate, and its change of position (R109, R110). The second part is the
child's own advance. -/
def State.childStep (s : State) (parent : Nat) (k : ChildStep) (c : Nat) : State × ChildStep :=
  let m := s.dom c
  let r := s.childRate c parent
  let dir := if r < 0 then some true else if 0 < r then some false else m.dir
  match k with
  | .anchor =>
    let s' := s.setDom c { m with p := s.childPos c parent * subUnit, rem := 0, rate := r, dir := dir }
    (s'.enter c (s.dom parent).st, .anchor)
  | .advance dx =>
    let num := dx * s.childNum c + m.rem
    let den : Int := max 1 (s.childDen c)
    let s' := s.setDom c { m with p := posAdd m.p (num / den), rem := num % den, rate := r, dir := dir }
    (s'.enter c (s.dom parent).st, .advance (num / den))
  | .follow =>
    ((s.setDom c { m with rate := r, dir := dir }).enter c (s.dom parent).st, .follow)

/-- A change of a domain carried to its children, and theirs, to eight levels (R109 to R111). -/
def State.carry : Nat → State → Nat → ChildStep → State
  | 0, s, _, _ => s
  | fuel + 1, s, d, k =>
    (s.children d).foldl (fun s c =>
      let r := s.childStep d k c
      r.1.carry fuel c r.2) s

/-! ## Source edges of an ANGLE domain -/

/-- The next occurrence of a phase from a position, exclusive: forward the least position greater, reverse the
greatest less (R121). -/
def nextOcc (x phase : Nat) (rev : Bool) : Nat :=
  let cand := x / 2 ^ 32 * 2 ^ 32 + phase % 2 ^ 32
  if rev then (if cand < x then cand else (cand + posMod - 2 ^ 32) % posMod)
  else (if x < cand then cand else (cand + 2 ^ 32) % posMod)

/-- Edges per cycle of QUAD and SINGLE: ANG_EPC + 1 (R102, R149). -/
def State.epc (s : State) (d : Nat) : Nat := s.fld (domReg d Reg.Dom.ANG_EPC) 0 16 + 1

/-- Position of absolute edge number k: round(k × 2^32 / EPC) (R102). -/
def edgePos (epc k : Nat) : Nat := (k * 2 ^ 33 + epc) / (2 * epc)

/-- The nearest edge position beyond a position in the direction of motion (R102, R105). -/
def nextEdge (epc x : Nat) (rev : Bool) : Nat :=
  let x' := x + posMod  -- one turn of the position space up, so that no number goes below zero
  let k := x' * epc / 2 ^ 32
  let r :=
    if rev then
      (if edgePos epc (k + 1) < x' then edgePos epc (k + 1)
       else if edgePos epc k < x' then edgePos epc k else edgePos epc (k - 1))
    else
      (if x' < edgePos epc k then edgePos epc k
       else if x' < edgePos epc (k + 1) then edgePos epc (k + 1) else edgePos epc (k + 2))
  r % posMod

/-- ANG_CFG.MODE: 0 QUAD, 1 HALL, 2 SINGLE. -/
def State.angMode (s : State) (d : Nat) : Nat := s.fld (domReg d Reg.Dom.ANG_CFG) 0 2

/-- HALL_ANGj. -/
def State.hallAng (s : State) (d j : Nat) : Nat := s.rdN (domReg d Reg.Dom.HALL_ANG + 4 * (j % 6))

/-- Field of HALL_SEQ that holds a state, if any (R103). -/
def State.hallField (s : State) (d st : Nat) : Option Nat :=
  if st = 0 ∨ st = 7 then none
  else (List.range 6).find? (fun j => s.fld (domReg d Reg.Dom.HALL_SEQ) (3 * j) 3 == st)

/-- The Hall state of a domain's pins: C×4 + B×2 + A (R103). -/
def State.hallNow (s : State) (d : Nat) : Nat :=
  let pin := s.fld (domReg d Reg.Dom.ANG_CFG) 4 4
  let lv (i : Nat) : Nat := b2n (s.bit (encBase + Reg.Enc.ENC_LEVEL) ((pin + i) % 16))
  lv 2 * 4 + lv 1 * 2 + lv 0

/-- The next source edge's position in a direction (R102, R103, R105, R112): with INVERT, field j − 1 of HALL_SEQ is entered
in forward motion. -/
def State.nextSrc (s : State) (d : Nat) (rev : Bool) : Nat :=
  let m := s.dom d
  if s.angMode d = 1 then
    match m.hall with
    | some j => nextOcc m.xe (s.hallAng d (if rev != s.bit (domReg d Reg.Dom.ANG_CFG) 17 then j + 5 else j + 1)) rev
    | none => nextOcc m.xe (s.hallAng d 0) rev
  else nextEdge (s.epc d) (if m.setPhase then m.x else m.xe) rev

/-- The clamp of an interpolated position, in units of 2^-56 (R112): one unit short of the next edge for ANGLE, the
end of the cycle for LINE. -/
def State.clampOf (s : State) (d : Nat) : Option Nat :=
  let m := s.dom d
  match s.domSrc d with
  | 1 =>
    let rev := decide (m.rate < 0)
    some (((if rev then s.nextSrc d rev + 1 else s.nextSrc d rev + posMod - 1) % posMod) * subUnit)
  | 2 => some ((m.x / 2 ^ 32 * 2 ^ 32 + (2 ^ 32 - 1)) * subUnit)
  | _ => none

/-- Whether a move from `p` by `dx` would pass the clamp at `q` (units of 2^-56). -/
def passes (p q : Nat) (dx : Int) : Bool :=
  let gap : Int := posDist (p / subUnit) (q / subUnit) * subUnit - (p % subUnit : Nat)
  if dx < 0 then decide (dx < gap) else decide (gap < dx)

/-! ## The tick -/

/-- What an adjustable clock added on the tick, of the state before it (R67). -/
def State.tickInc (s : State) (k : Nat) : Nat := ((s.clk k).tickBy (s.slewStep k)).1

/-- Advance of an ANGLE or LINE domain on a tick: R × the tick's TB0 increment, up to the clamp (R95, R112). -/
def State.tickInterp (s : State) (d inc0 : Nat) : State :=
  let m := s.dom d
  let dx : Int := m.rate * inc0
  match s.clampOf d with
  | some q =>
    if passes m.p q dx then
      let dx' := posDist (m.p / subUnit) (q / subUnit) * subUnit - (m.p % subUnit : Nat)
      (s.setDom d { m with p := q }).carry 8 d (.advance dx')
    else (s.setDom d { m with p := posAdd m.p dx }).carry 8 d (.advance dx)
  | none => (s.setDom d { m with p := posAdd m.p dx }).carry 8 d (.advance dx)

/-- TRACK_PPM as it acts (R101). -/
def State.trackPpm (s : State) (d : Nat) : Nat := limit 1 1000 (s.fld (domReg d Reg.Dom.TRACK_PPM) 0 10)

/-- Advance of a TIME domain locked to TB1 or TBF: the clock's increment, a residual error absorbed at TRACK_PPM, and
R recomputed from the ratio of the increments (R101). -/
def State.tickLocked (s : State) (d inc inc0 : Nat) : State :=
  let m := s.dom d
  let maxFix : Int := inc * s.trackPpm d / 1000000
  let fix : Int := if 0 < m.resid then min maxFix m.resid else if m.resid < 0 then max (-maxFix) m.resid else 0
  let adv : Int := inc + fix
  let num := adv * 2 ^ 64 + m.rem
  let per := s.timePeriod d
  let r := rate48 (truncDiv (2 ^ 64 * adv) (per * max 1 inc0))
  (s.setDom d { m with p := posAdd m.p (num / (per : Int)), rem := num % (per : Int), resid := m.resid - fix, rate := r }).carry
    8 d (.advance (num / (per : Int)))

/-- A TIME domain whose clock reads less than EPOCH is in WAIT with X = 0 and R = 0 (R96, R99). -/
def State.beforeEpoch (s : State) (d : Nat) : State :=
  ((s.setDom d { s.dom d with p := 0, rate := 0 }).enter d .wait).carry 8 d .anchor

/-- Advance of a TIME domain locked to TB0: its ideal position, exactly (R99, R100). -/
def State.tickIdeal (s : State) (d : Nat) : State :=
  let m := s.dom d
  let p := s.idealPos d
  if s.epochPassed d then (s.setDom d { m with p := p, rate := s.timeRate d }).carry 8 d (.advance (subDist m.p p))
  else s.beforeEpoch d

/-- A LINE domain held behind a MSG projection (R108): the projection advances, and the domain resumes when it passes
the present position. -/
def State.tickLag (s : State) (d inc0 : Nat) : State :=
  let m := s.dom d
  match m.lag with
  | some (q, r) =>
    let q' := posAdd q (r * inc0)
    if 0 < posDist m.x (q' / subUnit) then
      (s.setDom d { m with p := q', rate := r, lag := none }).carry 8 d
        (.advance (posDist m.x (q' / subUnit) * subUnit))
    else s.setDom d { m with lag := some (q', r) }
  | none => s.tickInterp d inc0

/-- One tick of one domain that is not a CHILD; `incs` are the tick's increments of TB0, TB1 and TBF. -/
def State.tickDom (s : State) (inc0 inc1 incF d : Nat) : State :=
  if (s.dom d).st != .run then s
  else
    match s.domSrc d with
    | 0 =>
      if s.domClock d = 0 then s.tickIdeal d
      else if s.domClock d = 1 then s.tickLocked d inc1 inc0
      else s.tickLocked d incF inc0
    | 1 => s.tickInterp d inc0
    | 2 => s.tickLag d inc0
    | _ => s

/-- A tick of the 625 MHz timebase: the clocks (R67), then every phase domain (R95, R99 to R101). The gates that actions of the
tick before set are free for writes again (R136). -/
def clockTick (s : State) : State :=
  if s.time.stopped then s
  else
    let inc0 := s.tickInc 0
    let inc1 := s.tickInc 1
    { s with gateActs := [] }.tickClocks.each (List.range 16) (fun s d => s.tickDom inc0 inc1 0x1999999999A d)

def execClockTick (s : State) : Host.Outcome State Fault Refusal := .next (clockTick s)

/-! ## What the registers of a domain page read -/

/-- Live registers of DOMd: the present position, rate and state (R149). The readings PHASE latches stay as latched. -/
def State.domLive (s : State) (d off : Nat) : Option Word :=
  let m := s.dom d
  if off = Reg.Dom.PHASE then some (word (m.x % 2 ^ 32))
  else if off = Reg.Dom.DOM_STAT then some (s.domStat d)
  else none

/-- A read of PHASE latches CYCLE, RATE and the TB0 timestamp of the same tick (R149). -/
def phaseRead (d : Nat) (s : State) : State :=
  let m := s.dom d
  let s := s.wrN (domReg d Reg.Dom.CYCLE) (m.x / 2 ^ 32)
  let s := s.wrN (domReg d Reg.Dom.RATE_LO) (unsignedOf 32 m.rate)
  let s := s.wrN (domReg d Reg.Dom.RATE_HI) (unsignedOf 48 m.rate / 2 ^ 32)
  (s.stamp (domReg d Reg.Dom.DOM_TS_LO) (domReg d Reg.Dom.DOM_TS_HI) s.tb0).answer (.data (word (m.x % 2 ^ 32)))

def execPhaseRead (acc : Access) (d : Fin 16) (s : State) : Host.Outcome State Fault Refusal :=
  .next (s.read acc 4 (domReg d.val Reg.Dom.PHASE) (fun _ => phaseRead d.val))

end Sys2Proof.Machine
end

