-- ==== Sys2Proof/Machine/Events.lean ====
section
/-! DEFINITION. The Huarneel event table: the entry format, writing and committing an entry, binding, projection,
placement, LATE events, and the withdrawal of placed occurrences (R115 to R133, R142 to R144). -/

namespace Sys2Proof.Machine

/-! ## Entries -/

/-- Key of word j of event i (R150). -/
def evtWord (i j : Nat) : Nat := evtBase (i / 128) + Reg.Evt.ENTRY + 16 * (i % 128) + 4 * j

/-- Fields of word 1 (R115). -/
def evArm (w : Word) : Bool := bitOf w 31
def evDomain (w : Word) : Nat := bitsOf w 26 4
def evAction (w : Word) : Nat := bitsOf w 22 4
def evReverse (w : Word) : Bool := bitOf w 21
def evAt (w : Word) : Bool := bitOf w 20
def evSkip (w : Word) : Bool := bitOf w 19
def evDrop (w : Word) : Bool := bitOf w 18
def evRepeat (w : Word) : Nat := bitsOf w 16 2
def evTarget (w : Word) : Nat := bitsOf w 0 16

/-- The armed events, by the words 1 the table lists, in rising index: a word 1 with ARM set never reads its Reset
value, so it is listed. -/
def State.armed (s : State) : List Nat :=
  s.regs.filterMap (fun e =>
    let o := e.1 - evtBase 0
    if evtBase 0 ≤ e.1 ∧ e.1 < evtBase 32 ∧ 0x800 ≤ o % 0x1000 ∧ o % 16 = 4 ∧ evArm e.2 then
      some (o / 0x1000 * 128 + (o % 0x1000 - 0x800) / 16)
    else none)

/-- Whether an entry belongs to the compatibility pulse block (R142). -/
def isCompat (i : Nat) : Bool := decide (4064 ≤ i)

/-- Position and R an event runs on: its domain's, or those of the internal second domain for a compatibility entry
(R142). In units of 2^-56 and 2^-16 per ns. -/
def State.evPos (s : State) (i : Nat) (w1 : Word) : Nat × Int :=
  if isCompat i then
    ((s.tb0.total * 2 ^ 48 / (1000000000)) % (posMod * subUnit), (2 ^ 48 / 1000000000 : Nat))
  else ((s.dom (evDomain w1)).p, (s.dom (evDomain w1)).rate)

/-- Whether an event's domain is in RUN. -/
def State.evRuns (s : State) (i : Nat) (w1 : Word) : Bool :=
  isCompat i || (s.dom (evDomain w1)).st == .run

/-- Bound position of event i: CYCLE and PHASE (R121). -/
def State.boundPos (s : State) (i : Nat) : Nat := s.rdN (evtWord i 2) * 2 ^ 32 + s.rdN (evtWord i 0)

/-- Binding of a NEXT entry to the next occurrence of its phase in its direction (R121). -/
def State.bind (s : State) (i : Nat) : State :=
  let w1 := s.rd (evtWord i 1)
  if evAt w1 then s
  else s.wrN (evtWord i 2) (nextOcc ((s.evPos i w1).1 / subUnit) (s.rdN (evtWord i 0)) (evReverse w1) / 2 ^ 32)

/-- Bit of an event in a flag array of its EVT page (R150). -/
def State.setFlag (s : State) (off i : Nat) (b : Bool) : State :=
  s.setBit (evtBase (i / 128) + off + 4 * (i % 128 / 32)) (i % 32) b

/-- ARM of event i cleared or set. -/
def State.setArm (s : State) (i : Nat) (b : Bool) : State := s.setBit (evtWord i 1) 31 b

/-- After an occurrence executes or is skipped: a PERIODIC event advances CYCLE by REPEAT_N in its direction, a ONCE
event disarms (R122). -/
def State.advance (s : State) (i : Nat) : State :=
  let w1 := s.rd (evtWord i 1)
  if evRepeat w1 = 1 then
    let n := max 1 (s.fld (evtWord i 3) 0 16)
    let c := s.rdN (evtWord i 2)
    s.wrN (evtWord i 2) (if evReverse w1 then c + 2 ^ 32 - n else c + n)
  else s.setArm i false

/-- What follows an occurrence that executed or was skipped: R122, or R123 where a commit replaced the entry meanwhile. -/
def State.afterAct (s : State) (i : Nat) (replaced : Bool) : State :=
  if replaced then s.onlyIf (evArm (s.rd (evtWord i 1))) (·.bind i) else s.advance i

/-! ## Targets and their owners -/

/-- The channels a group holds, directly or through groups, ascending (R117, R133); nesting is at most six levels. -/
def State.groupChans (s : State) : Nat → Nat → List Nat
  | 0, _ => []
  | fuel + 1, g =>
    s.bitList (cgBase g + Reg.Cg.CH_MEMB) 128 ++
    (s.bitList (cgBase g + Reg.Cg.GRP_MEMB) 64).flatMap (s.groupChans fuel)

/-- Whether an action drives IN lines: SET, CLEAR or TOGGLE. -/
def isLineAct (a : Nat) : Bool := decide (1 ≤ a ∧ a ≤ 3)

/-- The channels a SET, CLEAR or TOGGLE target names (R117). -/
def State.targetChans (s : State) (t : Nat) : List Nat :=
  if t / 2 ^ 15 = 1 then s.groupChans 6 (t % 64) else [t % 128]

/-- Whether a TARGET lies in the table of R117 for its action, its SEL code is not reserved (R232), and a PULSE width unit is
not. -/
def targetOk (a t arg : Nat) : Bool :=
  match a with
  | 1 | 2 | 3 => if t / 2 ^ 15 = 1 then decide (t % 2 ^ 15 < 64) else decide (t < 128)
  | 4 | 5 => decide (t / 2 ^ 8 ≤ 28 ∧ t % 2 ^ 8 < 8)
  | 6 => decide (t < 8 ∧ arg / 2 ^ 14 ≠ 3)
  | 7 =>
    if t / 2 ^ 14 = 0 then decide (t / 2 ^ 11 = 0 ∧ t % 2 ^ 8 < 0x17)
    else decide (t / 2 ^ 14 = 1 ∧ t % 2 ^ 14 < 48)
  | 8 => decide (t < 32)
  | 9 => decide (t < 4096)
  | _ => true

/-- The keys of the pages an event's target lies on (R119). -/
def State.targetPages (s : State) (a t : Nat) : List Nat :=
  if isLineAct a then
    (s.targetChans t).map chanBase ++ (if t / 2 ^ 15 = 1 then [cgBase (t % 64)] else [])
  else if a = 4 ∨ a = 5 then [portBase (t / 2 ^ 8)]
  else if a = 7 ∧ t / 2 ^ 14 = 1 then [fbioBase]
  else []

/-- R34 for an access carrying the EVT page's OWNER world and VI and the half that is active (R119, R120). -/
def State.evOwnerOk (s : State) (i : Nat) (w1 : Word) : Bool :=
  let o := s.rd (evtBase (i / 128) + Reg.Hdr.OWNER)
  (s.targetPages (evAction w1) (evTarget w1)).all (fun b =>
    let t := s.rd (b + Reg.Hdr.OWNER)
    (!bitOf t 0 || bitOf o 0) && (bitsOf o 1 7 == bitsOf t 1 7 || bitsOf o 1 7 == 0) && s.halfOk t s.activeHalf)

/-- An ownership failure at placement or a line write: counted in OWNER_FAIL, COMMIT_REF raised (R120, R146). -/
def State.ownerFail (s : State) : State := ((s.count (hrnBase + Reg.Hrn.OWNER_FAIL)).raise hrnBase 20).ev 0xC5 0

/-! ## Writing an entry -/

/-- The shadow of EVT page k. -/
def State.shadow (s : State) (k : Nat) : EvtShadow := Tbl.get {} s.evtShadow k

/-- SHADOW_STAT of EVT page k: the index of the shadow and VALID (R150). -/
def State.shadowStat (s : State) (k : Nat) : Word :=
  match (s.shadow k).idx with
  | some i => word (i + 2 ^ 31)
  | none => 0

/-- A write of word 0, 2 or 3 goes to the page's shadow, which a write for another entry first empties (R118). Entries
of the compatibility block ignore it (R144). -/
def evtShadowWrite (i j : Nat) (v : Word) (s : State) : State :=
  if isCompat i then s
  else
    let sh := s.shadow (i / 128)
    let sh : EvtShadow := if sh.idx = some i then sh else { idx := some i }
    let sh := if j = 0 then { sh with w0 := some v } else if j = 2 then { sh with w2 := some v }
      else if j = 3 then { sh with w3 := some v } else sh
    { s with evtShadow := Tbl.set {} s.evtShadow (i / 128) sh }

def execEvtShadowWrite (acc : Access) (i : Fin 4096) (j : Fin 4) (v : Word) (s : State) :
    Host.Outcome State Fault Refusal :=
  .next (s.write acc 4 (evtWord i.val j.val) v (fun _ => evtShadowWrite i.val j.val v))

/-- Why a commit is refused, or 0 (R119). -/
def State.commitReason (s : State) (i : Nat) (w1 w3 : Word) : Nat :=
  let a := evAction w1
  let t := evTarget w1
  if 10 ≤ a then 1
  else if 2 ≤ evRepeat w1 then 2
  else if !targetOk a t (bitsOf w3 16 16) then 3
  else if a = 9 ∧ 4064 ≤ t then 4
  else if !s.evOwnerOk i w1 then 5
  else 0

/-- Whether the placement of an occurrence can still be withdrawn by a commit: at least 64 ticks ahead (R123). -/
def State.withdrawable (s : State) (pl : Placed) : Bool :=
  !pl.late && decide (s.tb0.t16 * 10 + 1024 * 2 ^ 16 ≤ pl.inst * 2 ^ 16 * 10)

/-- A commit's effect on a placed occurrence of its entry (R123): withdrawn with enough notice, else the occurrence
executes with the old content and the new content replaces it in full. -/
def State.commitPlaced (s : State) (i : Nat) : State :=
  let kept := s.placed.filter (fun q => !(q.idx == i && s.withdrawable q))
  { s with placed := kept.map (fun q => if q.idx == i then { q with replaced := true } else q) }

/-- PLACED of event i follows the placed occurrences (R150). -/
def State.showPlaced (s : State) (i : Nat) : State :=
  s.setFlag Reg.Evt.PLACED i (s.placed.any (fun q => q.idx == i && !q.late))

/-- A commit: refused with its reason, or the shadowed words of its index and the new word 1 applied together, without the
reserved bits (R9, R115), the shadow emptied, a placed occurrence withdrawn or let execute, and a NEXT entry bound (R118 to R123). -/
def evtCommit (i : Nat) (v : Word) (s : State) : State :=
  if isCompat i then s
  else
    let sh0 := s.shadow (i / 128)
    let sh : EvtShadow := if sh0.idx = some i then sh0 else {}
    let w1 := setBit v 30 false
    let w3 := sh.w3.getD (s.rd (evtWord i 3))
    let w3 := if evAction w1 = 6 then w3 else w3 &&& 0xFFFF
    let s := { s with evtShadow := Tbl.set {} s.evtShadow (i / 128) {} }
    let r := s.commitReason i w1 w3
    if r ≠ 0 then
      ((s.count (hrnBase + Reg.Hrn.COMMIT_REFUSED)).wrN (hrnBase + Reg.Hrn.LAST_REFUSED)
        (2 ^ 31 + r * 2 ^ 16 + i)).raise hrnBase 20
    else
      let s := s.wr (evtWord i 0) (sh.w0.getD (s.rd (evtWord i 0)))
      let s := s.wr (evtWord i 2) (sh.w2.getD (s.rd (evtWord i 2)))
      let s := s.wr (evtWord i 3) w3
      let s := s.wr (evtWord i 1) w1
      let s := (s.commitPlaced i).showPlaced i
      s.onlyIf (evArm w1 && !s.placed.any (·.idx == i)) (·.bind i)

def execEvtCommit (acc : Access) (i : Fin 4096) (v : Word) (s : State) : Host.Outcome State Fault Refusal :=
  .next (s.write acc 4 (evtWord i.val 1) v (fun _ => evtCommit i.val v))

/-! ## LATE events -/

/-- An occurrence of event i found LATE (R126), with the words its content is fixed by: flag, count, LAST_LATE; EXECUTE
hands the action over for execution within 64 ticks, SKIP counts and applies R122, or R123 where a commit has replaced the
entry meanwhile. A compatibility slot also sets TO_STAT.LATE. `proj` is the instant it was projected or placed for, if any. -/
def State.lateWith (s : State) (i : Nat) (w1 w3 : Word) (replaced : Bool) (proj : Option Nat) : State :=
  let s := ((s.setFlag Reg.Evt.LATE_FLAG i true).count (hrnBase + Reg.Hrn.LATE_CNT)).ev 0xC1 0
  let s := (s.wrN (hrnBase + Reg.Hrn.LAST_LATE) (2 ^ 31 + i)).raise hrnBase 16
  let s := s.onlyIf (isCompat i) (·.setBit (tpoBase + Reg.Tpo.TO_STAT + 0x40 * ((i - 4064) / 4)) (4 + i % 4) true)
  if evSkip w1 then
    (((s.count (hrnBase + Reg.Hrn.SKIP_CNT)).raise hrnBase 17).ev 0xC2 0).afterAct i replaced
  else
    let r := s.freshIn 0 102
    let at_ := r.2.tb0.nsTotal + r.1
    let lines := if isLineAct (evAction w1) then (r.2.targetChans (evTarget w1)).map (fun n => (n, at_)) else []
    let q : Placed := ⟨i, w1, w3, at_, lines, true, replaced, proj⟩
    { r.2 with placed := r.2.placed ++ [q] }

/-- An event found LATE, with the content its entry has. -/
def State.goLate (s : State) (i : Nat) (proj : Option Nat) : State :=
  s.lateWith i (s.rd (evtWord i 1)) (s.rd (evtWord i 3)) false proj

/-- Armed events of a domain in one direction, by index. -/
def State.armedIn (s : State) (d : Nat) (rev : Bool) : List Nat :=
  s.armed.filter (fun i => !isCompat i && evDomain (s.rd (evtWord i 1)) == d && evReverse (s.rd (evtWord i 1)) == rev)

/-- Whether an event is armed for an action, not placed, and bound between two positions, the second included. -/
def State.skipped (s : State) (oldX newX : Nat) (rev : Bool) (i : Nat) : Bool :=
  let e := s.boundPos i
  evAction (s.rd (evtWord i 1)) != 0 && !s.placed.any (·.idx == i) &&
    (if rev then decide (posDist oldX e < 0 ∧ posDist newX e ≥ 0) else decide (0 < posDist oldX e ∧ posDist newX e ≤ 0))

/-- A re-anchoring of a domain from one position to another ahead of it: the armed events bound in the skipped
interval that are not placed are overtaken and handled under their LATE policy, but in WAIT, which evaluates none (R96), and
but NOP entries, which are never evaluated (R116); REANCHOR is raised (R114). -/
def State.overtake (s : State) (d oldX newX : Nat) (rev : Bool) : State :=
  let hit := if (s.dom d).st == .wait then [] else (s.armedIn d rev).filter (s.skipped oldX newX rev)
  ((s.each hit (fun s i => s.goLate i none)).raise (domBase d) 19).ev 0xC9 d

/-- The same of the armed compatibility slots at a forward step of TB0, whose domain steps with it (R72, R142). -/
def State.overtakeSlots (s : State) (oldX newX : Nat) : State :=
  s.each (s.armed.filter (fun i => isCompat i && s.skipped oldX newX false i)) (fun s i => s.goLate i none)

/-- The placed occurrences of a domain withdrawn, those of one direction or all; their events stay armed (R97, R106,
R127). -/
def State.withdraw (s : State) (d : Nat) (rev : Option Bool) : State :=
  let mine (q : Placed) : Bool :=
    !q.late && !isCompat q.idx && evDomain q.w1 == d && (match rev with | none => true | some r => evReverse q.w1 == r)
  let gone := (s.placed.filter mine).map (·.idx)
  { s with placed := s.placed.filter (fun q => !mine q) }.each gone (fun s i => s.showPlaced i)

/-! ## Projection and placement -/

/-- Compensation of a line for an edge: RISE_COMP or FALL_COMP, signed ns (R147). -/
def State.comp (s : State) (n : Nat) (rising : Bool) : Int :=
  signedOf 16 (s.fld (hrnBase + Reg.Hrn.LCOMP + 4 * n) (if rising then 0 else 16) 16)

/-- Level of an IN line in the image (R132). -/
def State.level (s : State) (n : Nat) : Bool := s.bit (hrnBase + Reg.Hrn.LEVEL + 4 * (n / 32)) (n % 32)

/-- A pair inserted in rising order of its first two parts. -/
def insertAct (e : Nat × Nat × Nat) : List (Nat × Nat × Nat) → List (Nat × Nat × Nat)
  | [] => [e]
  | x :: xs =>
    if e.1 < x.1 ∨ (e.1 = x.1 ∧ e.2.1 < x.2.1) then e :: x :: xs else x :: insertAct e xs

/-- The level a line will have at an instant: the level in the image, changed by every action placed on the line for
an earlier instant, in the order of R129; not by a LATE EXECUTE action (R124). -/
def State.levelAt (s : State) (n i t : Nat) : Bool :=
  let acts := (s.placed.filter (!·.late)).flatMap (fun q =>
    (q.lines.filter (fun l => l.1 == n && (decide (l.2 < t) || (l.2 == t && decide (q.idx < i))))).map
      (fun l => (l.2, q.idx, evAction q.w1)))
  (acts.foldl (fun l e => insertAct e l) []).foldl
    (fun b e => if e.2.2 = 1 then true else if e.2.2 = 2 then false else !b) (s.level n)

/-- Projected instant of a bound position ahead of the present one, in 2^-16 ns of TB0 (R124). -/
def projectT16 (now16 p : Nat) (rate : Int) (xe : Nat) : Nat :=
  let ahead : Int := posDist (p / subUnit) xe * subUnit - (p % subUnit : Nat)
  ((now16 : Int) + ahead / (rate * 2 ^ 24)).toNat

/-- An instant in 2^-16 ns plus a compensation in ns, rounded to the nearest ns, halves up (R124). -/
def roundNs (t16 : Nat) (comp : Int) : Nat := (((t16 : Int) + comp * 2 ^ 16 + 2 ^ 15) / 2 ^ 16).toNat

/-- The instants of an event's lines, each with its own compensation (R124, R133). -/
def State.lineInstants (s : State) (i : Nat) (w1 : Word) (t16 : Nat) : List (Nat × Nat) :=
  (s.targetChans (evTarget w1)).map (fun n =>
    let rising := match evAction w1 with
      | 1 => true
      | 2 => false
      | _ => !s.levelAt n i (roundNs t16 0)
    (n, roundNs t16 (s.comp n rising)))

/-- Evaluation of one armed event (R124 to R126): eligible, projected, then placed, LATE or left. -/
def State.evalEvent (s : State) (i : Nat) : State :=
  let w1 := s.rd (evtWord i 1)
  let w3 := s.rd (evtWord i 3)
  let p := s.evPos i w1
  let xe := s.boundPos i
  let fwd := posDist (p.1 / subUnit) xe
  let eligible := s.evRuns i w1 && evAction w1 != 0 &&
    (if evReverse w1 then decide (p.2 < 0 ∧ fwd < 0) else decide (0 < p.2 ∧ 0 < fwd))
  if !eligible || s.placed.any (·.idx == i) then s
  else
    let t16 := projectT16 s.tb0.t16 p.1 p.2 xe
    let lines := if isLineAct (evAction w1) then s.lineInstants i w1 t16 else []
    let inst := if isLineAct (evAction w1) then (lines.map (·.2)).foldl min (roundNs t16 0 + 2 ^ 20) else roundNs t16 0
    let inst := if isLineAct (evAction w1) && lines.isEmpty then roundNs t16 0 else inst
    let a : Int := (inst * 2 ^ 16 : Nat) - (s.tb0.t16 : Nat)
    if 36864 * 2 ^ 16 ≤ a * 10 then s
    else if 2000 * 2 ^ 16 ≤ a then
      if s.evOwnerOk i w1 then
        let q : Placed := ⟨i, w1, w3, inst, lines, false, false, none⟩
        ({ s with placed := s.placed ++ [q] }.showPlaced i).ev 0xC6 0
      else (s.setArm i false).ownerFail
    else s.goLate i (some inst)

/-- The engine's evaluation of every armed event, in ascending index (R124); PARK entry has stopped it (R304). -/
def eventEvaluate (s : State) : State := if s.parkStage = 0 then s.each s.armed (fun s i => s.evalEvent i) else s

def execEventEvaluate (s : State) : Host.Outcome State Fault Refusal := .next (eventEvaluate s)

/-- R128: at a forward step of TB0 a placed occurrence whose instant lies in the skipped interval is LATE, with the content it
was placed with (R123, R125). -/
def State.stepPlaced (s : State) (oldNs newNs : Nat) : State :=
  let hit := s.placed.filter (fun q => !q.late && decide (oldNs ≤ q.inst ∧ q.inst < newNs))
  let s := { s with placed := s.placed.filter (fun q => !(!q.late && decide (oldNs ≤ q.inst ∧ q.inst < newNs))) }
  s.each hit (fun s q => (s.showPlaced q.idx).lateWith q.idx q.w1 q.w3 q.replaced (some q.inst))

/-- The position a frame's launch field binds to when it reaches the head (R137): NEXT the next forward occurrence of
the phase, AT the occurrence whose cycle has the low 16 bits stated, nearest to the present cycle. -/
def State.launchPos (s : State) (mode dom phase cyc : Nat) : Nat :=
  let m := s.dom dom
  let now := m.x / 2 ^ 32
  let c := now + (cyc + 2 ^ 16 - now % 2 ^ 16) % 2 ^ 16
  let c := if 2 ^ 15 < c - now then c + 2 ^ 32 - 2 ^ 16 else c
  if mode = 2 then (c * 2 ^ 32 + phase) % posMod else nextOcc m.x phase false

/-- The projected instant of a bound launch position, in whole ns: forward only, without compensation; none while the
domain is not in RUN or moves in reverse (R137). -/
def State.launchAt (s : State) (dom xe : Nat) : Option Nat :=
  let m := s.dom dom
  if m.st != .run || decide (m.rate ≤ 0) then none else some (roundNs (projectT16 s.tb0.t16 m.p m.rate xe) 0)

end Sys2Proof.Machine
end

