-- ==== Sys2Proof/Machine/DomainCmds.lean ====
section
/-! DEFINITION. The commands and events of the phase domains: ON, OFF and PRST, source edges of ANGLE and LINE
domains, MSG frame starts, HOLD and STALLED, and one-shot offsets (R72, R97 to R114). -/

namespace Sys2Proof.Machine

/-! ## Taking a source position -/

/-- The children of a domain and theirs, to eight levels (R111). -/
def State.kids : Nat → State → Nat → List Nat
  | 0, _, _ => []
  | fuel + 1, s, d => (s.children d).flatMap (fun c => c :: s.kids fuel c)

/-- A domain that now stands at `newX` has been re-anchored there from `oldX`: its events in the skipped interval are
overtaken; its children's positions are computed afresh, and one that this moves ahead is re-anchored too (R109, R114). -/
def State.jump (s : State) (d oldX newX : Nat) (rev : Bool) : State :=
  let s := s.overtake d oldX newX rev
  let old := (s.kids 8 d).map (fun c => (c, (s.dom c).x))
  (s.carry 8 d .anchor).each old (fun s e =>
    let x := (s.dom e.1).x
    let r := (s.dom e.1).dir == some true
    let moved := posDist e.2 x
    s.onlyIf (if r then decide (moved < 0) else decide (0 < moved)) (·.overtake e.1 e.2 x r))

/-- The direction of motion of a domain changed: the placed events of the old direction are withdrawn and REVERSED is raised
(R106, R148). -/
def State.reversed (s : State) (d : Nat) (old : Bool) : State :=
  ((s.withdraw d (some old)).raise (domBase d) 17).ev 0xCA d

/-- A reversal of a domain and with it of the children that move (R106, R110). -/
def State.reverse (s : State) (d : Nat) (old : Bool) : State :=
  (s.reversed d old).each (s.kids 8 d) (fun s c => match (s.dom c).dir with
    | some b => s.reversed c b
    | none => s)

/-- A domain's position set by a source to `pos` at instant `tk` (TB0, 2^-16 ns) and carried to the present, or back to it
from an instant to come, at the rate it now has, up to the clamp; a position ahead of the old one in the direction of motion is a re-anchoring (R104,
R107, R114). `first` marks a start, which overtakes nothing. -/
def State.anchorAt (s : State) (d pos tk : Nat) (first : Bool) : State :=
  let m := s.dom d
  let oldP := m.p
  let dx : Int := m.rate * ((s.tb0.t16 : Int) - (tk : Int)) * 2 ^ 24
  let s := s.setDom d { m with p := pos * subUnit }
  let s := match s.clampOf d with
    | some q =>
      if m.rate != 0 && decide (tk ≤ s.tb0.t16) && passes (pos * subUnit) q dx then s.setDom d { m with p := q }
      else s.setDom d { m with p := posAdd (pos * subUnit) dx }
    | none => s.setDom d { m with p := posAdd (pos * subUnit) dx }
  let newX := (s.dom d).x
  let rev := m.dir == some true
  let moved := posDist (oldP / subUnit) newX
  if !first && (if rev then decide (moved < 0) else decide (0 < moved)) then
    s.jump d (oldP / subUnit) newX rev
  else if first then s.carry 8 d .anchor
  else s.carry 8 d (.advance (subDist oldP (s.dom d).p))

/-- The rate of an edge (R104): rk, or the LINEAR extrapolation limited to between rk / 2 and 2 × rk. -/
def estimate (linear : Bool) (rk : Int) (t : Nat) (prevR : Int) (prevT : Nat) : Int :=
  if linear then
    let r := rk + (rk - prevR) * t / ((t + prevT : Nat) : Int)
    if 0 ≤ rk then limitI (rk / 2) (2 * rk) r else limitI (2 * rk) (rk / 2) r
  else rk

/-- A source edge of an ANGLE domain at position `pos`, in one direction, at instant `tk` (R104 to R106, R112). DEDUCED: the
interval that ends at the edge after STALLED, or at the edge of a reversal, is the first of the two that use LAST (log entry
85). -/
def State.angleEdge (s : State) (d : Nat) (rev : Bool) (pos tk : Nat) : State :=
  let m := s.dom d
  let reversal := m.dir == some (!rev)
  let t : Nat := match m.lastT with | some t0 => tk - t0 | none => 0
  let known := m.lastT.isSome && t != 0
  let mag : Int := ((posDist m.xe pos).natAbs * 2 ^ 32 / t : Nat)
  let rk : Int := rate48 (if rev then -mag else mag)
  let n := if reversal || m.st == .stalled then 0 else m.intervals
  let lin := s.bit (domReg d Reg.Dom.ANG_CFG) 16 && decide (2 ≤ n)
  let same := if m.dir == some rev then m.sameDir + 1 else 1
  let st : DomState := if m.st == .wait && decide (same < 2) then .wait else .run
  let rate := if st == .wait then 0 else if known then rate48 (estimate lin rk t m.prevR m.prevT) else m.rate
  let m' : Dom := { m with
    rate := rate, dir := some rev, xe := pos, setPhase := false, lastT := some tk,
    prevT := t, prevR := rk, intervals := if known then n + 1 else n, sameDir := same }
  let s := s.onlyIf reversal (·.reverse d (!rev))
  let s := ((s.setDom d m').enter d st).ev 0xC8 d
  s.anchorAt d pos tk false

/-- An edge of a QUAD or SINGLE source moves the position to the next edge position (R102, R105). -/
def State.stepEdge (s : State) (d : Nat) (rev : Bool) (tk : Nat) : State := s.angleEdge d rev (s.nextSrc d rev) tk

/-- A domain enters HOLD with R reading 0; its children follow (R96, R112). -/
def State.goHold (s : State) (d : Nat) : State :=
  let m := s.dom d
  let dir := if m.rate < 0 then some true else if 0 < m.rate then some false else m.dir
  ((s.setDom d { m with rate := 0, dir := dir }).enter d .hold).carry 8 d .follow

/-- A valid Hall state two or more steps away, or after an invalid one: an edge error that re-anchors ahead (R103). -/
def State.hallError (s : State) (d j tk : Nat) : State :=
  let m := s.dom d
  let rev := m.dir == some true
  let s := ((s.setDom d { m with hall := some j }).count (domReg d Reg.Dom.EDGE_ERR_CNT)).raise (domBase d) 18
  let s := s.ev 0xCC d
  s.angleEdge d rev (nextOcc m.x (s.hallAng d j) rev) tk

/-- A change of the Hall inputs (R103, R105): a neighbouring state is an edge; any other change is an edge error, which
re-anchors ahead in a valid state and holds in an invalid one; the first valid state after ON in an invalid one sets
the position. -/
def State.hallEdge (s : State) (d tk : Nat) : State :=
  let m := s.dom d
  let inv := s.bit (domReg d Reg.Dom.ANG_CFG) 17
  match s.hallField d (s.hallNow d), m.hall with
  | some j, none =>
    if m.setPhase then
      let s := s.setDom d { m with hall := some j, setPhase := false, xe := s.hallAng d j, lastT := some tk }
      s.anchorAt d (s.hallAng d j) tk true
    else s.hallError d j tk
  | some j, some i =>
    if j = (i + 1) % 6 then
      (s.setDom d { m with hall := some j }).angleEdge d inv (nextOcc m.xe (s.hallAng d j) inv) tk
    else if j = (i + 5) % 6 then
      (s.setDom d { m with hall := some j }).angleEdge d (!inv) (nextOcc m.xe (s.hallAng d j) (!inv)) tk
    else if j = i then s
    else s.hallError d j tk
  | none, _ =>
    let s := s.setDom d { m with hall := none, setPhase := m.setPhase && m.hall.isNone }
    ((((s.count (domReg d Reg.Dom.EDGE_ERR_CNT)).raise (domBase d) 18).ev 0xCC d)).goHold d

/-- An index edge (R105): PHASE takes INDEX_PHASE, the cycle steps by one in the direction of motion when that lies
behind; a re-anchoring. DEDUCED: the position of the last edge moves by the same jump, so that the next ΔX of R104 is that of
the shaft (log entry 85). -/
def State.indexEdge (s : State) (d : Nat) : State :=
  let m := s.dom d
  let rev := m.dir == some true
  let ip := s.rdN (domReg d Reg.Dom.INDEX_PHASE)
  let here := m.x / 2 ^ 32 * 2 ^ 32 + ip
  let newX := if rev then (if m.x < here then (here + posMod - 2 ^ 32) % posMod else here)
    else (if here < m.x then (here + 2 ^ 32) % posMod else here)
  let xe := (m.xe + newX + posMod - m.x) % posMod
  let s := s.setDom d { m with p := newX * subUnit, xe := xe, setPhase := true }
  s.jump d m.x newX rev

/-- An encoder edge reaches an ANGLE domain (R102, R105). DESIGN CHOICE: PIN + 1 and PIN + 2 beyond ENC15 begin again at ENC0
(log entry 86). -/
def State.encToDomain (s : State) (pin : Nat) (rising : Bool) (tk d : Nat) : State :=
  if s.domSrc d != 1 || (s.dom d).st == .off then s
  else
    let cfg := s.rd (domReg d Reg.Dom.ANG_CFG)
    let p := bitsOf cfg 4 4
    let inv := bitOf cfg 17
    let lv (i : Nat) : Bool := s.bit (encBase + Reg.Enc.ENC_LEVEL) ((p + i) % 16)
    match s.angMode d with
    | 0 =>
      let s := if pin = p then s.stepEdge d ((lv 0 == lv 1) != inv) tk
        else if pin = (p + 1) % 16 then s.stepEdge d ((lv 0 != lv 1) != inv) tk else s
      if bitOf cfg 8 && rising && pin == bitsOf cfg 12 4 then s.indexEdge d else s
    | 1 => if (pin + 16 - p) % 16 < 3 then s.hallEdge d tk else s
    | 2 => if pin = p ∧ rising then s.stepEdge d inv tk else s
    | _ => s

/-- A filtered edge on an encoder or Hall input: level, count, and every ANGLE domain that uses the pin; stamped at the
first sample of the new level, FILT × 100 ns ago (R104, R456). -/
def encEdge (pin : Nat) (rising : Bool) (s : State) : State :=
  if !s.domainOn 9 then s
  else
  let filt := s.fld (encBase + Reg.Enc.ENC_CFG + 4 * pin) 4 4
  let tk := s.tb0.t16 - filt * 100 * 2 ^ 16
  let s := (s.setBit (encBase + Reg.Enc.ENC_LEVEL) pin rising).countWrap (encBase + Reg.Enc.ENC_CNT + 4 * pin)
  let c := Clock.ofT16 tk
  let s := s.dist { source := 7, tsLo := c.tsLo, tsHi := c.tsHi, id := pin, w5 := word (b2n rising) }
  s.each (List.range 16) (fun s d => s.encToDomain pin rising tk d)

def execEncEdge (pin : Fin 16) (rising : Bool) (s : State) : Host.Outcome State Fault Refusal :=
  .next (encEdge pin.val rising s)

/-! ## LINE domains -/

/-- A frame start of a LINE domain with a frame period in units of 2^-16 ns (R108): X = 0 from WAIT, else the start of
the next cycle; RUN at the period's rate, or HOLD where the period is 0. -/
def State.frameStart (s : State) (d period tk : Nat) (msg : Bool) : State :=
  let m := s.dom d
  let s := s.ev 0xC8 d
  let first := m.st == .wait
  let pos := if first then 0 else (m.x / 2 ^ 32 + 1) * 2 ^ 32 % posMod
  if period = 0 then
    ((s.setDom d { m with rate := 0, dir := some false, xe := pos, lag := none }).anchorAt d pos tk first).goHold d
  else
    let r := rate48 (2 ^ 64 / period : Nat)
    let proj := posAdd (pos * subUnit) (r * ((s.tb0.t16 : Int) - (tk : Int)) * (2 ^ 24 : Int))
    if msg && decide (posDist m.x (proj / subUnit) < 0) then
      ((s.setDom d { m with rate := 0, dir := some false, xe := m.x, lag := some (proj, r) }).enter d .run).carry 8 d .follow
    else
      ((s.setDom d { m with rate := r, dir := some false, xe := pos, lag := none }).enter d .run).anchorAt d pos tk first

/-- Number of intervals in the frame mean: 2^AVG, AVG above 4 treated as 4 (R107). -/
def State.frameAvg (s : State) (d : Nat) : Nat := 2 ^ min 4 (s.fld (domReg d Reg.Dom.LINE_CFG) 4 3)

/-- LINE_FRAME in units of 2^-16 ns. -/
def State.lineFrame (s : State) (d : Nat) : Nat :=
  s.rdN (domReg d Reg.Dom.LINE_FRAME_NS) * 2 ^ 16 + s.fld (domReg d Reg.Dom.LINE_FRAME_FRAC) 0 16

/-- A line-sync edge reaches a LINE domain (R107). -/
def State.lsToDomain (s : State) (pin : Nat) (rising : Bool) (tk d : Nat) : State :=
  let cfg := s.rd (domReg d Reg.Dom.LINE_CFG)
  if s.domSrc d != 2 || (s.dom d).st == .off || bitOf cfg 0 || bitsOf cfg 1 2 != pin || bitOf cfg 3 == rising then s
  else
    let m := s.dom d
    let frames := match m.frameStart with
      | some t0 => ((tk - t0) :: m.frames).take (s.frameAvg d)
      | none => m.frames
    let period := if frames.isEmpty then s.lineFrame d else frames.foldl (· + ·) 0 / frames.length
    (s.setDom d { m with frames := frames, frameStart := some tk }).frameStart d period tk false

/-- The polarity a pin's period is measured on: that of the LINE domain using the pin, rising when none does (R456). -/
def State.lsPolarity (s : State) (pin : Nat) : Bool :=
  match (List.range 16).find? (fun d => s.domSrc d == 2 && !s.bit (domReg d Reg.Dom.LINE_CFG) 0 &&
    s.fld (domReg d Reg.Dom.LINE_CFG) 1 2 == pin) with
  | some d => !s.bit (domReg d Reg.Dom.LINE_CFG) 3
  | none => true

/-- A filtered line-sync edge: level, timestamp, LS_PERIOD of the measured polarity, and every LINE domain that uses
the pin (R107, R456). -/
def lsEdge (pin : Nat) (rising : Bool) (s : State) : State :=
  if !s.domainOn 9 then s
  else
  let filt := s.fld (lsBase + Reg.Ls.LS_CFG + 4 * pin) 4 4
  let tk := s.tb0.t16 - filt * 100 * 2 ^ 16
  let s := s.setBit (lsBase + Reg.Ls.LS_LEVEL) pin rising
  let s := s.stamp (lsBase + Reg.Ls.LS_TS_LO + 8 * pin) (lsBase + Reg.Ls.LS_TS_HI + 8 * pin) (Clock.ofT16 tk)
  let c := Clock.ofT16 tk
  let s := s.dist { source := 8, tsLo := c.tsLo, tsHi := c.tsHi, id := pin, w5 := word (b2n rising) }
  let last := Tbl.get 0 s.lsLast (2 * pin + b2n (!rising))
  let s := s.onlyIf (last != 0 && rising == s.lsPolarity pin) (fun s =>
    s.wrN (lsBase + Reg.Ls.LS_PERIOD + 4 * pin) (min 0xFFFFFFFF ((tk + 1 - last) / 2 ^ 16)))
  let s := { s with lsLast := Tbl.set 0 s.lsLast (2 * pin + b2n (!rising)) (tk + 1) }
  s.each (List.range 16) (fun s d => s.lsToDomain pin rising tk d)

def execLsEdge (pin : Fin 4) (rising : Bool) (s : State) : Host.Outcome State Fault Refusal :=
  .next (lsEdge pin.val rising s)

/-- LINE_MSG_GO: a frame start at the stated instant of TB0 or TB1, an instant of TB1 carried into TB0 by the ratio of
the two clocks' increments (R107). Without effect on a domain that is OFF or takes no MSG source. -/
def lineMsgGo (d : Nat) (s : State) : State :=
  let cfg := s.rd (domReg d Reg.Dom.LINE_CFG)
  if s.domSrc d != 2 || (s.dom d).st == .off || !bitOf cfg 0 then s
  else
    let c := if bitOf cfg 8 then s.tb1 else s.tb0
    let sec := c.sec / 2 ^ 32 * 2 ^ 32 + s.rdN (domReg d Reg.Dom.LINE_MSG_SEC)
    let inst : Nat := (sec * 1000000000 + s.fld (domReg d Reg.Dom.LINE_MSG_NS) 0 30) * 2 ^ 16
    let tk : Int :=
      if bitOf cfg 8 then (s.tb0.t16 : Int) - ((s.tb1.t16 : Int) - inst) * s.tickInc 0 / max 1 (s.tickInc 1)
      else inst
    let line := s.rdN (domReg d Reg.Dom.LINE_PERIOD_NS) * 2 ^ 16 + s.fld (domReg d Reg.Dom.LINE_PERIOD_FRAC) 0 16
    s.frameStart d (s.fld (domReg d Reg.Dom.LINE_LINES) 0 16 * line) tk.toNat true

def execLineMsgGo (acc : Access) (d : Fin 16) (v : Word) (s : State) : Host.Outcome State Fault Refusal :=
  .next (s.write acc 4 (domReg d.val Reg.Dom.LINE_MSG_GO) v (fun _ => (·.onlyIf (bitOf v 0) (lineMsgGo d.val))))

/-! ## HOLD and STALLED -/

/-- A running ANGLE or LINE domain at its clamp enters HOLD (R112). -/
def domainHold (d : Nat) (s : State) : State :=
  if (s.dom d).st == .run && (s.dom d).rate != 0 && s.clampOf d == some (s.dom d).p then s.goHold d else s

def execDomainHold (d : Fin 16) (s : State) : Host.Outcome State Fault Refusal := .next (domainHold d.val s)

/-- The events of a domain flagged at STALLED: those armed in its last direction of motion set STALL_FLAG, and a DROP
event is disarmed (R113). -/
def State.stallFlags (s : State) (d : Nat) : State :=
  match (s.dom d).dir with
  | none => s
  | some rev =>
    s.each (s.armedIn d rev) (fun s i =>
      (s.setFlag Reg.Evt.STALL_FLAG i true).onlyIf (evDrop (s.rd (evtWord i 1))) (·.setArm i false))

/-- A domain's STATE became STALLED: counted and raised (R113, R148, R149). -/
def State.stalledNow (s : State) (d : Nat) : State :=
  ((s.count (domReg d Reg.Dom.STALL_CNT)).raise (domBase d) 16).ev 0xCB d

/-- Children become STALLED with their parent and flag their events (R110, R113). -/
def State.stallChildren : Nat → State → Nat → State
  | 0, s, _ => s
  | fuel + 1, s, d =>
    (s.children d).foldl (fun s c =>
      ((s.enter c .stalled).stalledNow c |>.stallFlags c).stallChildren fuel c) s

/-- HOLD has lasted STALL_TIMEOUT: STALLED, counted and raised, with its events and its children's flagged (R113). A
STALL_TIMEOUT of 0 disables it; TIME and CHILD domains are never stalled by it (R101, R110). -/
def stallTimeout (d : Nat) (s : State) : State :=
  if (s.dom d).st == .hold && s.fld (domReg d Reg.Dom.STALL_TIMEOUT) 0 24 != 0 && (s.domSrc d == 1 || s.domSrc d == 2) then
    (((s.enter d .stalled).stalledNow d).stallFlags d).stallChildren 8 d
  else s

def execStallTimeout (d : Fin 16) (s : State) : Host.Outcome State Fault Refusal := .next (stallTimeout d.val s)

/-! ## ON, OFF, PRST -/

/-- Length of the chain of CHILD domains from Dd upward, with fuel; none where it exceeds the fuel or meets `top`
again (R111). -/
def State.chainLen : State → Nat → Nat → Nat → Option Nat
  | _, 0, _, _ => none
  | s, fuel + 1, top, d =>
    if s.domSrc d != 3 then some 0
    else if s.domParent d = top then none
    else (s.chainLen fuel top (s.domParent d)).map (· + 1)

/-- Why ON of a domain is refused (R111). -/
def State.onRefused (s : State) (d : Nat) : Bool :=
  match s.domSrc d with
  | 0 => s.domClock d == 3
  | 1 => s.angMode d == 3
  | 3 => (s.chainLen 9 d d).isNone || (s.dom (s.domParent d)).st == .off ||
      s.childNum d == 0 || s.childDen d == 0
  | _ => false

/-- The record a domain starts with (R98, R99, R105, R108, R109). -/
def State.startDom (s : State) (d : Nat) : Dom :=
  match s.domSrc d with
  | 0 =>
    if s.epochPassed d then
      { st := .run, p := s.idealPos d, rate := s.timeRate d, dir := some false }
    else { st := .wait }
  | 1 =>
    let x := if s.angMode d = 1 then
        (match s.hallField d (s.hallNow d) with
         | some j => s.hallAng d j
         | none => s.rdN (domReg d Reg.Dom.INIT_PHASE))
      else s.rdN (domReg d Reg.Dom.INIT_PHASE)
    { st := .wait, p := x * subUnit, xe := x,
      hall := if s.angMode d = 1 then s.hallField d (s.hallNow d) else none }
  | 2 => { st := .wait }
  | _ =>
    { st := (s.dom (s.domParent d)).st, p := s.childPos d (s.domParent d) * subUnit,
      rate := s.childRate d (s.domParent d),
      dir := if s.childRate d (s.domParent d) < 0 then some true
        else if 0 < s.childRate d (s.domParent d) then some false else none }

/-- ON of a domain: refused under R111, else its initial position is set, NEXT events are bound afresh, and the domain
is on (R98); a change of its state is an item of the distributor (R266). -/
def domainOn (d : Nat) (s : State) : State :=
  if s.onRefused d then s.cmdResult (domBase d) .refused
  else
    let was := (s.dom d).st
    let m := s.startDom d
    let s := (s.setDom d { m with st := was }).enter d m.st
    let s := (s.onlyIf (m.st == .stalled && was != .stalled) (·.stalledNow d)).carry 8 d .anchor
    let mine := s.armed.filter (fun i => !isCompat i && evDomain (s.rd (evtWord i 1)) == d)
    let s := s.each mine (fun s i => s.bind i)
    (s.setUnit (domBase d) true false false 0).cmdResult (domBase d) .done

def execDomainOn (acc : Access) (d : Fin 16) (s : State) : Host.Outcome State Fault Refusal :=
  .next (s.write acc 4 (domReg d.val Reg.Hdr.UNIT_CTRL) 1 (fun _ => domainOn d.val))

/-- A domain and its children go OFF; placed events are withdrawn and stay armed (R97, R111, R127). -/
def State.stopDom : Nat → State → Nat → State
  | 0, s, _ => s
  | fuel + 1, s, d =>
    let cs := s.children d
    let m := s.dom d
    let s := ((s.setDom d { m with rate := 0, lag := none }).enter d .off).withdraw d none
    let s := s.setUnit (domBase d) false false false 0
    cs.foldl (fun s c => s.stopDom fuel c) s

/-- OFF of a domain (R97). -/
def domainOff (d : Nat) (s : State) : State := (s.stopDom 9 d).cmdResult (domBase d) .done

def execDomainOff (acc : Access) (d : Fin 16) (s : State) : Host.Outcome State Fault Refusal :=
  .next (s.write acc 4 (domReg d.val Reg.Hdr.UNIT_CTRL) 2 (fun _ => domainOff d.val))

/-- The class-X registers of one page take their Reset values (R25, R297). -/
def State.loseX (s : State) (base : Nat) : State := s.loseRegs (keyIs (fun p => p.base == base) (· == .x))

/-- PRST of a domain: OFF as by OFF, and the page's class-X content lost (R97). -/
def domainPrst (d : Nat) (s : State) : State :=
  (((s.stopDom 9 d).setDom d {}).loseX (domBase d)).cmdResult (domBase d) .done

def execDomainPrst (acc : Access) (d : Fin 16) (s : State) : Host.Outcome State Fault Refusal :=
  .next (s.write acc 4 (domReg d.val Reg.Hdr.UNIT_CTRL) 4 (fun _ => domainPrst d.val))

/-- TB0, TB1 or TBF reaching EPOCH: a TIME domain in WAIT enters RUN at its ideal position (R99). -/
def timeEpochReached (d : Nat) (s : State) : State :=
  if s.domSrc d == 0 && (s.dom d).st == .wait && s.epochPassed d then
    let m := s.dom d
    ((s.setDom d { m with p := s.idealPos d, rate := s.timeRate d, dir := some false }).enter d .run).carry 8 d .anchor
  else s

def execTimeEpochReached (d : Fin 16) (s : State) : Host.Outcome State Fault Refusal := .next (timeEpochReached d.val s)

/-! ## One-shot offsets -/

/-- A step of TB0 moves the TIME domains locked to it: when forward, their events and their children's are overtaken; below
EPOCH they wait (R72, R99, R100, R114). -/
def State.stepIdeal (s : State) (d : Nat) (forward : Bool) : State :=
  let m := s.dom d
  if s.domSrc d != 0 || s.domClock d != 0 || m.st != .run then s
  else if !s.epochPassed d then s.beforeEpoch d
  else
    let p := s.idealPos d
    let s := s.setDom d { m with p := p }
    if forward && decide (0 < posDist m.x (p / subUnit)) then s.jump d m.x (p / subUnit) false else s.carry 8 d .anchor

/-- A step of TB1 enters the residual error of the domains locked to TB1 (R101). -/
def State.stepResid (s : State) (amount : Int) (d : Nat) : State :=
  if s.domSrc d == 0 && s.domClock d == 1 && (s.dom d).st == .run then
    s.setDom d { s.dom d with resid := (s.dom d).resid + amount }
  else s

/-- At the next tick the offset steps the clock or is refused, and acts on what is scheduled (R70, R72, R101, R128). -/
def offsetApply (k : Nat) (s : State) : State :=
  let old := s.tb0.nsTotal
  let oldX := (s.evPos 4064 0).1 / subUnit
  let r := offsetClock k s
  if r.2 = 0 then r.1
  else if k = 0 then
    let s := r.1.onlyIf (decide (0 < r.2)) (fun s =>
      (s.stepPlaced old s.tb0.nsTotal).overtakeSlots oldX ((s.evPos 4064 0).1 / subUnit))
    s.each (List.range 16) (fun s d => s.stepIdeal d (decide (0 < r.2)))
  else r.1.each (List.range 16) (fun s d => s.stepResid r.2 d)

def execOffsetApply (k : Fin 2) (s : State) : Host.Outcome State Fault Refusal := .next (offsetApply k.val s)

end Sys2Proof.Machine
end

