-- ==== Sys2Proof/Machine/KeysCore.lean ====
section
/-! DEFINITION. Key slots: references, erasure with its cascade, exhaustion, and the zeroing of the key RAM (R542 to
R553, R584). -/

namespace Sys2Proof.Machine

/-- Key slot n. -/
def State.slot (s : State) (n : Nat) : Slot := Tbl.get {} s.slots n

/-- The state with key slot n set. -/
def State.setSlot (s : State) (n : Nat) (k : Slot) : State := { s with slots := Tbl.set {} s.slots n k }

/-- The operation on lane k. -/
def State.lane (s : State) (k : Nat) : Option CipherOp := Tbl.get none s.lanes k

/-- The state with the operation on lane k set. -/
def State.setLane (s : State) (k : Nat) (o : Option CipherOp) : State := { s with lanes := Tbl.set none s.lanes k o }

/-- MACsec association i of port p. -/
def State.sa (s : State) (p i : Nat) : Sa := Tbl.get {} s.sas (64 * p + i)

/-- The state with association i of port p set. -/
def State.setSa (s : State) (p i : Nat) (a : Sa) : State := { s with sas := Tbl.set {} s.sas (64 * p + i) a }

/-- MODE, SLOT, CTX and flags of a descriptor (R570). -/
def descWord (ws : List Word) (i : Nat) : Word := ws.getD i 0
def descMode (ws : List Word) : Nat := bitsOf (descWord ws 0) 0 4
def descSlot (ws : List Word) : Nat := bitsOf (descWord ws 0) 16 8
def descCtx (ws : List Word) : Nat := bitsOf (descWord ws 0) 24 8

/-- Whether a mode takes a key from a slot: all but the SHA modes (R571). -/
def modeKeyed (mode : Nat) : Bool := mode != 7 && mode != 8

/-- The slots a slot command references (R549): the parent of a DERIVE, the slot of an ATTEST or a STORE_P. -/
def KsCmd.refs (c : KsCmd) (n : Nat) : Bool :=
  c.fail.isNone && ((c.op == 3 && c.parent == n) || ((c.op == 5 || c.op == 6) && c.slot == n))

/-- Whether a slot is referenced (R549). -/
def State.slotRef (s : State) (n : Nat) : Bool :=
  s.lanes.any (fun e => match e.2 with
    | some o => modeKeyed (descMode o.words) && descSlot o.words == n
    | none => false) ||
  s.sas.any (fun e => e.2.en && e.2.slot == n) ||
  (match s.ks with | some c => c.refs n | none => false)

/-- A port's association is disabled for want of its key: MSEC_KEY_LOST; a frame being sent on it ends with an inverted
FCS, one being received on it is dropped, both counted in KEY_LOST (R584). -/
def State.saLost (s : State) (key : Nat) : State :=
  let a : Sa := Tbl.get {} s.sas key
  let hitC (c : Copy) : Bool := c.begun && !c.bad && c.txSa == some key
  let hitF (f : Frame) : Bool := !f.ended && !f.keyLost && f.rxSa == some key
  let n := (s.frames.map (fun f => (f.copies.filter hitC).length + (if hitF f then 1 else 0))).foldl (· + ·) 0
  let frames := s.frames.map (fun f => { f with
    keyLost := f.keyLost || hitF f, copies := f.copies.map (fun c => if hitC c then { c with bad := true } else c) })
  let s := s.countBy (msecBase (key / 64) + Reg.Msec.KEY_LOST) n
  { s.raise ciphBase 21 with sas := Tbl.set {} s.sas key { a with en := false }, frames := frames }

/-- Every association that uses slot n is disabled (R584). -/
def State.saDrop (s : State) (n : Nat) : State :=
  s.each ((s.sas.filter (fun e => e.2.en && e.2.slot == n)).map (·.1)) State.saLost

/-- One slot erased: VALID 0, the key zeroed, GEN counted on, its associations disabled (R550, R584). -/
def State.eraseOne (s : State) (n : Nat) : State :=
  if (s.slot n).valid then (s.setSlot n { gen := ((s.slot n).gen + 1) % 256 }).saDrop n else s

/-- The children of a slot. -/
def State.slotKids (s : State) (n : Nat) : List Nat :=
  (s.slots.filter (fun e => e.2.valid && e.2.parent == some n)).map (·.1)

/-- The descendants of a slot, through `fuel` levels (R551: the hierarchy is at most four deep). -/
def State.descendants : Nat → State → Nat → List Nat
  | 0, _, _ => []
  | fuel + 1, s, n => (s.slotKids n).flatMap (fun k => k :: s.descendants fuel k)

/-- The erase of a slot with its descendants: each descendant counts in REVOKED_CNT, and REVOKED is raised (R551). -/
def State.eraseSlot (s : State) (n : Nat) : State :=
  let kids := s.descendants 4 n
  let s := s.eraseOne n
  s.each kids (fun s k => ((s.eraseOne k).count (keysBase + Reg.Keys.REVOKED_CNT)).raise ciphBase 29)

/-- A COUNTED slot with no use left and no reference is erased (R552). -/
def State.settleSlot (s : State) (n : Nat) : State :=
  let k := s.slot n
  if k.valid && k.life == 1 && k.count == 0 && !s.slotRef n then s.eraseSlot n else s

/-- The acceptance of an operation on a slot: a COUNTED slot loses one use (R552). -/
def State.useSlot (s : State) (n : Nat) : State :=
  let k := s.slot n
  if k.valid && k.life == 1 then s.setSlot n { k with count := k.count - 1 } else s

/-- Erasure of the EXPIRE_ON_RESET slots a half filled, at its HRST (R552). -/
def State.expireSlots (s : State) (h : Half) : State :=
  s.each ((s.slots.filter (fun e => e.2.valid && e.2.life == 2 && e.2.half == h.idx)).map (·.1))
    (fun s n => if (s.slot n).valid then s.eraseSlot n else s)

/-- The key RAM zeroed (R542): no slot holds a key or a GEN; every association on a slot is disabled (R584). -/
def State.zeroSlots (s : State) : State :=
  { s.each ((s.sas.filter (·.2.en)).map (·.1)) State.saLost with slots := [] }

/-! ## Derivation and records -/

/-- The first `n` octets of a string of octets. -/
def octs (l : List Nat) (n : Nat) : List Nat := (List.range n).map (fun i => l.getD i 0 % 256)

/-- A number as `n` octets, most significant first. -/
def bigEnd (n x : Nat) : List Nat := (List.range n).map (fun i => x / 256 ^ (n - 1 - i) % 256)

/-- The counter-mode KDF of SP 800-108 with CMAC-AES-256 (R554). -/
def kdf (ki label ctx : List Nat) (bits : Nat) : List Nat :=
  let k (i : Nat) : List Nat := octs (Config.aesCmac ki (bigEnd 4 i ++ label ++ [0] ++ ctx ++ bigEnd 4 bits)) 16
  if bits = 128 then k 1 else k 1 ++ k 2

/-- The device root secret's octets: free, fixed by each filling (R541; log entry 8). -/
def State.drs (s : State) : List Nat := (List.range 32).map (fun i => Config.freeOf 541 [s.drsGen, i] % 256)

/-- The label "ZU-PKW" (R557). -/
def labelPkw : List Nat := [0x5A, 0x55, 0x2D, 0x50, 0x4B, 0x57]

/-- Key bits of an ALG (R544). -/
def algBits (alg : Nat) : Nat := if alg = 1 then 128 else 256

/-- Key of a record word (R556). -/
def recKey (n bank w : Nat) : Nat := 32 * n + 16 * bank + w

/-- A record word. -/
def State.recWord (s : State) (n bank w : Nat) : Nat := Tbl.get 0 s.records (recKey n bank w)

/-- Whether a bank is committed: COMMIT is the bitwise NOT of GEN (R556). -/
def State.recGood (s : State) (n bank : Nat) : Bool := s.recWord n bank 15 + s.recWord n bank 0 == 0xFFFFFFFF

/-- The winning bank of a record, if any (R556). -/
def State.recWin (s : State) (n : Nat) : Option Nat :=
  match s.recGood n 0, s.recGood n 1 with
  | true, true => some (if s.recWord n 0 0 < s.recWord n 1 0 then 1 else 0)
  | true, false => some 0
  | false, true => some 1
  | false, false => none

/-- The wrap key of a bank (R557). -/
def State.wrapKey (s : State) (n gen : Nat) (a0 a1 : Word) : List Nat :=
  kdf s.drs labelPkw (bigEnd 2 n ++ bigEnd 4 gen ++ octets a0 ++ octets a1) 256

/-- Octets as words, octet k in byte k mod 4 of word k / 4. -/
def wordsOf (l : List Nat) (n : Nat) : List Nat :=
  (List.range n).map (fun i => (List.range 4).foldl (fun a j => a + l.getD (4 * i + j) 0 % 256 * 256 ^ j) 0)

/-- The words a STORE_P writes, in its order (R556, R558): GEN, words 1 to 13, COMMIT of the bank that is not winning. -/
def State.storeWords (s : State) (c : KsCmd) : List (Nat × Nat) :=
  let n := c.record
  let bank := if s.recWin n = some 0 then 1 else 0
  let gen := (max (s.recWord n 0 0) (s.recWord n 1 0) + 1) % 2 ^ 32
  let size := if bitsOf c.st0 16 4 = 1 then 24 else 40
  let wrapped := octs (Config.keyWrap (s.wrapKey n gen c.st0 c.st1) (s.slot c.slot).key) size
  let ws := [gen, c.st0.toNat, c.st1.toNat, 0] ++ wordsOf wrapped 10
  (ws.zipIdx.map (fun p => (recKey n bank p.2, p.1))) ++ [(recKey n bank 15, 0xFFFFFFFF - gen)]

/-- A record word is written; its write count and PK_WEAR with its warning follow (R560). -/
def State.putRec (s : State) (k v : Nat) : State :=
  let n := Tbl.get 0 s.pkWear k + 1
  let s := { s with records := Tbl.set 0 s.records k v, pkWear := Tbl.set 0 s.pkWear k n }
  let w := vaultBase + Reg.Vault.PK_WEAR
  let s := s.onlyIf (decide (s.fld w 0 24 < n)) (·.setFld w 0 24 (min n 0xFFFFFF))
  s.onlyIf (decide (9000000 ≤ n) && !s.bit w 31) (fun s => (s.setBit w 31 true).raise ciphBase 31)

/-- A slot with the attributes of two words (R543). -/
def slotOf (a0 a1 : Word) (key : List Nat) : Slot :=
  { valid := true, life := bitsOf a0 29 2, half := bitsOf a0 28 1, world := bitOf a0 27, vi := bitsOf a0 20 7,
    alg := bitsOf a0 16 4, usage := bitsOf a0 8 8, count := if bitsOf a0 29 2 = 1 then a1.toNat else 0, key := key }

/-- ATTR0 of a slot (R543). -/
def Slot.attr0 (k : Slot) : Word :=
  word (k.gen + k.usage * 2 ^ 8 + k.alg * 2 ^ 16 + k.vi * 2 ^ 20 + b2n k.world * 2 ^ 27 + k.half * 2 ^ 28 + k.life * 2 ^ 29 +
    b2n k.valid * 2 ^ 31)

/-- LINK of a slot (R546). -/
def Slot.link (k : Slot) : Word :=
  word (k.parent.getD 0 + b2n k.parent.isSome * 2 ^ 8 + k.depth * 2 ^ 9 + b2n k.fromDrs * 2 ^ 11)

/-- The octets of a run of record words. -/
def State.recOctets (s : State) (n bank lo cnt : Nat) : List Nat :=
  (List.range cnt).flatMap (fun i => octets (word (s.recWord n bank (lo + i))))

/-- The winning bank of a record unwrapped: none without a committed bank; an inner none where the integrity check fails
(R559). -/
def State.unwrapRec (s : State) (n : Nat) : Option (Option Slot) :=
  match s.recWin n with
  | none => none
  | some b =>
    let a0 := word (s.recWord n b 1)
    let a1 := word (s.recWord n b 2)
    let cnt := if bitsOf a0 16 4 = 1 then 6 else 10
    some ((Config.keyUnwrap (s.wrapKey n (s.recWord n b 0) a0 a1) (s.recOctets n b 4 cnt)).map
      (fun key => slotOf a0 a1 (octs key (algBits (bitsOf a0 16 4) / 8))))

/-- A slot is filled; a rewrite erases it first, with its descendants; GEN counts on at each (R543, R550). -/
def State.fillSlot (s : State) (n : Nat) (k : Slot) : State :=
  let s := s.onlyIf (s.slot n).valid (·.eraseSlot n)
  s.setSlot n { k with valid := true, gen := ((s.slot n).gen + 1) % 256 }

/-- Shepherd fills K254 from PK1022 and K255 from PK1023 (R600). -/
def State.fillService (s : State) : State :=
  s.each [(1022, 254), (1023, 255)] (fun s e =>
    match s.drsValid, s.unwrapRec e.1 with
    | true, some (some k) => if s.slotRef e.2 then s else s.fillSlot e.2 k
    | _, _ => s)

/-- A STORE_P is interrupted with some of its words written and no COMMIT; how many is free (R319, R558). Any other
command that is PENDING ends without effect. -/
def State.ksAbort (s : State) : State :=
  match s.ks with
  | some c =>
    let s := { s with ks := none }
    if c.op = 6 && c.fail.isNone && s.drsValid then
      let r := s.freshIn 0 14
      r.2.each ((s.storeWords c).take r.1) (fun s e => s.putRec e.1 e.2)
    else s
  | none => s

end Sys2Proof.Machine
end

