-- ==== Sys2Proof/Machine/Roles.lean ====
section
/-! DEFINITION. The role arbiter: roles, yields, grants and their generations (R260 to R263, R277 to R282, R289). -/

namespace Sys2Proof.Machine

/-- Key of a register of HALFx and of LOCAL of a half. -/
def hreg (h : Half) (off : Nat) : Nat := halfBase h.idx + off
def lreg (h : Half) (off : Nat) : Nat := localBase h.idx + off

/-- Role codes (R260). -/
def roleOffline : Nat := 0
def roleActive : Nat := 1
def roleResync : Nat := 2
def roleHeel : Nat := 3

/-- LAST_CAUSE codes (R295). -/
def causePowerup : Nat := 1
def causeSilent : Nat := 2
def causeYieldBark : Nat := 3
def causeYieldMon : Nat := 4
def causeYieldReset : Nat := 5
def causeSwap : Nat := 6
def causeAssume : Nat := 7
def causeCmp : Nat := 8
def causeInputLost : Nat := 9
def causeDeposed : Nat := 10
def causeAbort : Nat := 11
def causeActiveLost : Nat := 12
def causeResyncReq : Nat := 13

/-- HALF_STATE set (R33). -/
def State.setHalfState (s : State) (h : Half) (st : Nat) : State := s.setFld (hreg h Reg.Half.ROLE_STAT) 4 3 st

/-- A half runs: HALF_STATE RUNNING. -/
def State.running (s : State) (h : Half) : Bool := s.halfState h == 1

/-- FO_CFG.TAKEOVER_EN of a half. -/
def State.takeoverEn (s : State) (h : Half) : Bool := s.bit (hreg h Reg.Half.FO_CFG) 0

/-- READY: ROLE is HEEL and TAKEOVER_EN is 1 (R294). -/
def State.setReady (s : State) (h : Half) : State :=
  s.setBit (hreg h Reg.Half.ROLE_STAT) 2 (s.role h == roleHeel && s.takeoverEn h)

/-- Tile control's record of tile t. -/
def State.tc (s : State) (t : Nat) : TileCtl := Tbl.get {} s.tcs t

/-- The state with tile control's record of tile t set. -/
def State.setTc (s : State) (t : Nat) (c : TileCtl) : State := { s with tcs := Tbl.set {} s.tcs t c }

/-- Whether a half's agent sends keepalives to a tile (R182). -/
def TileCtl.agent (c : TileCtl) : Half → Bool
  | .a => c.agentA
  | .b => c.agentB

/-- A half's agent of a tile started or stopped. -/
def TileCtl.setAgent (c : TileCtl) (h : Half) (b : Bool) : TileCtl :=
  match h with
  | .a => { c with agentA := b }
  | .b => { c with agentB := b }

/-- A half's tile agent stops, and with it the start-up claim that waits for a mirror (R182, R263). -/
def State.stopAgent (s : State) (h : Half) : State :=
  s.each (List.range 8) (fun s t =>
    let c := (s.tc t).setAgent h false
    s.setTc t { c with start := if c.start = some h then none else c.start })

/-- A write only a secure access may give: any other is ignored and sets OWNER_VIOL (R316, R515). -/
def State.secureOnly (s : State) (acc : Access) (prim : Nat) (f : State → State) : State :=
  if acc.secure then f s else s.ownerViolFlag prim

/-- The same where the side-band write ends with SECURE_SESSION_REQUIRED as well (R527). -/
def State.sessionOnly (s : State) (acc : Access) (prim : Nat) (f : State → State) : State :=
  if acc.secure then f s
  else match acc.master with
    | .half _ => s.ownerViolFlag prim
    | .shep => (s.ownerViolFlag prim).sbRefuse sbSecure

/-- LAST_CAUSE of a half written. -/
def State.setCause (s : State) (h : Half) (cause : Nat) : State := s.setFld (hreg h Reg.Half.ROLE_STAT) 12 4 cause

/-- No takeover follows a failure of the active half: ACTIVE_LOST at the other half (R281, R292). -/
def State.activeLost (s : State) (h : Half) : State := (s.setCause h causeActiveLost).raise (halfBase h.idx) 16

/-- Whether a half may take over: in HEEL with TAKEOVER_EN (R279). -/
def State.mayTake (s : State) (h : Half) : Bool := s.role h == roleHeel && s.takeoverEn h

/-- The active half's failure reaches the arbiter: a grant to a standby that may take over, else ACTIVE_LOST (R279,
R281). -/
def State.failActive (s : State) (cause : Nat) : State :=
  let h := s.activeHalf.other
  if s.mayTake h then (if s.grant.isSome then s else { s with grant := some ⟨h, cause⟩ })
  else s.activeLost h

/-- PEER_SILENT of a half (R275, R294). -/
def State.peerSilentBit (s : State) (h : Half) : Bool := s.bit (hreg h Reg.Half.ROLE_STAT) 10

/-- A half that sees PEER_SILENT when it becomes ACTIVE has lost its standby; one that sees it when it enters HEEL has an
active half that failed (R275, R279, R292). -/
def State.silentAt (s : State) (h : Half) (role : Nat) : State :=
  if !s.peerSilentBit h then s
  else if role = roleActive then s.raise (halfBase h.idx) 26
  else if role = roleHeel then s.failActive causeSilent
  else s

/-- A half's ROLE changes: ROLE_CHG, SYNCED for a half that enters HEEL, its cause where one is named, READY; a half that
is not ACTIVE has no agent; one that leaves OFFLINE receives the items numbered from now on (R263, R264, R287, R292,
R294). -/
def State.setRole (s : State) (h : Half) (role : Nat) (cause : Option Nat) : State :=
  if s.role h = role then s
  else
    let s := s.onlyIf (s.role h == roleOffline) (fun (s : State) => s.setHalfSt h { s.halfSt h with since := s.inseq })
    let s := (s.setFld (hreg h Reg.Half.ROLE_STAT) 0 2 role).raise (halfBase h.idx) 16
    let s := s.onlyIf (role == roleHeel) (·.raise (halfBase h.idx) 24)
    let s := match cause with | some c => s.setCause h c | none => s
    ((s.onlyIf (role != roleActive) (·.stopAgent h)).setReady h).silentAt h role

/-- The active half yields (R277): counted on its page; the yield stands until a grant. -/
def State.yieldActive (s : State) (cause : Nat) : State :=
  { (s.countFld (hreg s.activeHalf Reg.Half.TAKEOVER_CNT) 16 16).failActive cause with yielded := true }

/-- A half enters HRST, or its HALF_STATE becomes HALTED by HALT, PARKED or DEAD (R261, R277): its ROLE becomes OFFLINE;
an active half yields where `yields`. -/
def State.halfDown (s : State) (h : Half) (yields : Bool) : State :=
  let was := s.role h == roleActive && h == s.activeHalf
  let s := s.setRole h roleOffline (some causeYieldReset)
  s.onlyIf (was && yields) (·.yieldActive causeYieldReset)

/-- Generations of the device, both halves and every tile increment (R55, R279). -/
def State.bumpRoles (s : State) : State :=
  s.each ([sysBase, halfBase 0, halfBase 1] ++ (List.range 8).map tileBase) State.bumpGen

/-- The grant cycle (R279, R281, R289): ACTIVE_HALF, the roles with their cause, the generations, the counts and the
instant; the takeover CLAIMs become due. The other half keeps in step after a SWAP, else it is OFFLINE, deposed while
it runs (R282). -/
def State.grantTo (s : State) (h : Half) (cause : Nat) : State :=
  let o := h.other
  let swap := cause == causeSwap
  let s := { s with
    activeHalf := h, grant := none, yielded := false, claimDue := some (h, cause != causeAssume) }
  let s := s.setRole o (if swap then roleHeel else roleOffline)
    (some (if swap then causeSwap else if s.running o then causeDeposed else causeYieldReset))
  let s := ((s.setRole h roleActive (some cause)).setCause h cause).bumpRoles
  let s := (s.raise (halfBase 0) 16).raise (halfBase 1) 16
  let s := s.countFld (hreg h Reg.Half.TAKEOVER_CNT) 0 16
  let s := s.stamp (hreg h Reg.Half.LAST_TAKEOVER_TS_LO) (hreg h Reg.Half.LAST_TAKEOVER_TS_HI) s.tb0
  (s.wrN (hreg h Reg.Half.CLAIM_RESULT) 0).ev 0xF6 0

/-- R262: after POR, SRST and exit from PARK the half ACTIVE_HALF names becomes ACTIVE, the other OFFLINE, both with
cause POWERUP, and both are RESETTING. -/
def State.startRoles (s : State) : State :=
  let h := s.activeHalf
  let s := { s with grant := none, claimDue := none, yielded := false }
  let s := (s.setRole h roleActive none).setRole h.other roleOffline none
  let s := (s.setCause .a causePowerup).setCause .b causePowerup
  (s.setHalfState .a 2).setHalfState .b 2

end Sys2Proof.Machine
end

