-- ==== Sys2Proof/Machine/Stage.lean ====
section
/-! DEFINITION. Shepherd's sessions, the staging lock with the slot states, and the activation status: what resets,
power states and the service protocol share (R604, R611 to R614, R620 to R627). -/

namespace Sys2Proof.Machine

def shepReg (off : Nat) : Nat := shepBase + off
def sportReg (off : Nat) : Nat := sportBase + off

/-- Slot states (R627). -/
def slotEmpty : Nat := 0
def slotWriting : Nat := 1
def slotVerifying : Nat := 2
def slotVerified : Nat := 3
def slotInvalid : Nat := 4
def slotPrevious : Nat := 5
def slotRunning : Nat := 6

/-- ACT_STAT.STATE: 0 IDLE, 1 ARMED, 2 TRIAL, 3 DEAD (R626). -/
def State.actState (s : State) : Nat := s.fld (shepReg Reg.Shep.ACT_STAT) 0 2

/-- ACT_STAT.STATE written. -/
def State.setActState (s : State) (v : Nat) : State :=
  s.hwP shepBase (shepReg Reg.Shep.ACT_STAT) (setBits (s.rd (shepReg Reg.Shep.ACT_STAT)) 0 2 v)

/-- LAST_RESULT written (R627): ACT_END. -/
def State.actResult (s : State) (v : Nat) : State :=
  (s.hwP shepBase (shepReg Reg.Shep.ACT_STAT) (setBits (s.rd (shepReg Reg.Shep.ACT_STAT)) 4 4 v)).raise shepBase 20

/-- In DEAD the staging target is the boot slot (R623). -/
def State.inDead (s : State) : Bool := s.actState == 3

/-- The state of the staging target. -/
def State.targetSt (s : State) : Nat := if s.inDead then s.shep.bootSt else s.shep.otherSt

/-- STAGE_STAT shows the slot states; a change raises STAGE (R625, R626). -/
def State.showStage (s : State) : State :=
  let v := word (s.targetSt + 16 * s.shep.bootSt)
  if s.rd (shepReg Reg.Shep.STAGE_STAT) = v then s
  else (s.hwP shepBase (shepReg Reg.Shep.STAGE_STAT) v).raise shepBase 18

/-- The state of the staging target set. -/
def State.setTarget (s : State) (v : Nat) : State :=
  (if s.inDead then { s with shep := { s.shep with bootSt := v } }
   else { s with shep := { s.shep with otherSt := v } }).showStage

/-- The staging lock is released under R614: the target becomes INVALID. A STAGE_CLOSE under way is still to be
answered. -/
def State.stageRelease (s : State) : State :=
  if s.shep.holder.isNone then s
  else { s with shep := { s.shep with holder := none, imgLen := 0, nextOff := 0, img := [] } }.setTarget slotInvalid

/-- Sessions end (R604): those `gone` picks; one that was open raises SESSION; the lock of a holder that ends is
released (R614). -/
def State.endSessions (s : State) (gone : Session → Bool) : State :=
  let was := s.shep.sessions.any (fun x => gone x && x.opened)
  let lock := s.shep.sessions.any (fun x => gone x && s.shep.holder == some x.num)
  let s := { s with shep := { s.shep with sessions := s.shep.sessions.filter (fun (x : Session) => !gone x) } }
  (s.onlyIf was (·.raise shepBase 16)).onlyIf lock State.stageRelease

/-- Shepherd's core restarts (R604): every session ends; the requests and frames it had taken in are gone. -/
def State.shepRestart (s : State) : State :=
  let s := s.endSessions (fun _ => true)
  { s with shep := { s.shep with
    fails := 0, locked := false, reqs := [], closing := none, reading := none, sends := [], whistleIn := [], ackIn := [] } }

/-- At a POR Shepherd starts afresh; an armed activation is disarmed with MISSED_POR (R621). A trial goes on, its window
to be opened anew. -/
def State.shepPor (s : State) : State :=
  let s := s.shepRestart
  let s := { s with mrqS := [], shep := { s.shep with winEnd := none } }
  if s.actState = 1 then (s.setActState 0).actResult 8 else s

/-- The health window opens as the halves are released in TRIAL (R621). -/
def State.openWindow (s : State) : State :=
  if s.actState = 2 then
    { s with shep := { s.shep with
      winEnd := some (s.time.tbf.nsTotal + s.fld (shepReg Reg.Shep.HEALTH_WIN) 0 16 * 1000000) } }
  else s

/-- A write of HEALTH_WIN is limited (R626). -/
def healthWinWord (v : Word) : Word := word (limit 100 60000 (bitsOf v 0 16))

/-- Both halves are healthy within the window: the trial is committed, or the recovery complete (R611, R621). -/
def State.commitTrial (s : State) : State :=
  let s := (s.setActState 0).actResult (if s.shep.recovered then 7 else 1)
  let s := s.hwP shepBase (shepReg Reg.Shep.RUN_VERSION) s.shep.verBoot
  { s with shep := { s.shep with bootSt := slotRunning, winEnd := none, recovered := false } }.showStage

/-- A write of HEALTH_OK by a half (R621); a write over the side band is no half's. -/
def healthOk (acc : Access) (v : Word) (s : State) : State :=
  let k := shepReg Reg.Shep.HEALTH_STAT
  match acc.master with
  | .shep => s
  | .half h =>
    if v ≠ 0x5AFE0001 then s
    else
      let s := (s.setBit k h.idx true).onlyIf (!s.bit k h.idx) (·.raise shepBase 22)
      if s.actState = 2 && s.shep.winEnd.isSome && s.fld k 0 2 == 3 then s.commitTrial else s

/-- A write of MIN_VERSION only raises it (R609). -/
def minVersion (acc : Access) (v : Word) (s : State) : State :=
  let k := shepReg Reg.Shep.MIN_VERSION
  if v.toNat < s.rdN k then s.lockViol shepBase else s.writeP acc shepBase k v

/-- A write of ACT_GROUPk is ignored while an activation is armed (R615). -/
def actGroup (acc : Access) (k : Nat) (v : Word) (s : State) : State :=
  if s.actState = 1 then s.lockViol shepBase
  else s.writeP acc shepBase (shepReg Reg.Shep.ACT_GROUP + 4 * k) (v &&& 0x8000FFFF)

end Sys2Proof.Machine
end

