-- ==== Sys2Proof/Machine/Resets.lean ====
section
/-! DEFINITION. What resets and power states take away: the loss of content by survival class and by power domain, and
SRST, HRST, CRST and POR (R297 to R301, R311 to R313, R323). -/

namespace Sys2Proof.Machine

/-! ## Device state -/

/-- DEV_STATE.STATE: 0 RUN, 1 DOZE, 2 PARKING, 3 PARK, 4 WAKING, 5 DEAD (R328). -/
def State.devState (s : State) : Nat := s.fld (pwrBase + Reg.Pwr.DEV_STATE) 0 3

/-- DEV_STATE.STATE set. -/
def State.setDevState (s : State) (v : Nat) : State := s.setFld (pwrBase + Reg.Pwr.DEV_STATE) 0 3 v

/-- Whether PARK entry or PARK keeps a reset or a full reaction from acting (R305, R351). -/
def State.parking (s : State) : Bool := s.devState == 2 || s.devState == 3 || s.devState == 4

/-! ## Loss by class -/

/-- Class S, H and X content (R311). -/
def clsSHX (k : Cls) : Bool := k == .s || k == .h || k == .x

/-- A page's content of classes that `cls` picks is lost; a tile's own copies are the tile's. -/
def State.losePages (s : State) (page : Page → Bool) (cls : Cls → Bool) : State :=
  s.loseRegs (fun k => k / 0x100000000 != 2 && keyIs page cls k)

/-- The path fields of ROLE_STAT, of class X beside fields of class A, take their Reset values: both paths silent, no path
fault, PEER_SILENT 0 (R294). -/
def State.losePathStat (s : State) (h : Half) : State := s.setFld (hreg h Reg.Half.ROLE_STAT) 7 4 6

/-- ROLE_STAT and DEV_STATE hold fields of class A beside fields of class X: the latter take their Reset values (R294,
R327). -/
def State.losePartly (s : State) : State :=
  let s := s.each [Half.a, Half.b] (fun s h => ((s.losePathStat h).setHalfState h 0).setReady h)
  s.setBit (pwrBase + Reg.Pwr.DEV_STATE) 8 false

/-- A hart is reset: its mworld and its debug state (R513, R528). -/
def State.loseHart (s : State) (h : Half) (c : Nat) : State :=
  { s with mworld := s.mworld.del (7 * h.idx + c), harts := s.harts.del (7 * h.idx + c) }

/-- The counters of a bank lose their shadows and latches (R533). -/
def State.loseEc (s : State) (b : Nat) : State :=
  { s with
    ecShadow := s.ecShadow.filter (fun (e : Nat × Nat) => e.1 / 32 != b),
    ecLatch := s.ecLatch.filter (fun (e : Nat × Nat) => e.1 / 32 != b) }

/-- What the harts and counters of a half hold beyond their registers is lost. -/
def State.loseHarts (s : State) (h : Half) : State :=
  (s.each (List.range 7) (fun s c => s.loseHart h c)).loseEc h.idx

/-- Whether a key is a banked queue register of a VI page (R465). -/
def viBanked (k : Nat) : Bool :=
  match keyPage k with
  | some (p, off) => p.kind == .vi && decide (0x60 ≤ off ∧ off < 0x90)
  | none => false

/-- What the switch, the forwarding tables, the VIs and the Span bridge hold beyond their registers is lost. -/
def State.loseSwitch (s : State) : State :=
  { s.loseEc 2 with
    frames := [], slotNo := 0, credits := [], fdb := [], sfs := [], mgs := [], learnQ := [], fetchSeq := [], hostTxA := [],
    hostTxB := [], hostRxA := [], hostRxB := [], hqs := [], steer := [], deficits := [], dwrrs := [], buckets := [],
    txLast := [], viFreeze := [], viSnaps := [], viImage := none, spPosts := [], spDts := [], spIn := [], spAns := [],
    spTags := [], spFail := [], pwf := [], dirIn := [], dirBack := [] }

/-- What the ports `mine` picks hold beyond their registers is lost: frames still arriving at them, their waits and
measurements. -/
def State.losePorts (s : State) (mine : Nat → Bool) : State :=
  { s with
    frames := s.frames.filter (fun (f : Frame) => f.ended || !mine f.inp),
    anWait := s.anWait.filter (fun (p : Nat) => !mine p),
    tdrVf := s.tdrVf.filter (fun (e : Nat × Nat) => !mine e.1),
    plcaLast := s.plcaLast.filter (fun (e : Nat × Nat) => !mine e.1) }

/-- The links of ports lo to hi − 1 are gone with their domain: COR_STAT shows none (R92). -/
def State.loseLinks (s : State) (lo hi : Nat) : State :=
  s.each ((List.range hi).drop lo) (fun s p => s.setBit (tbcorBase + Reg.Tbcor.COR_STAT + 0x20 * p) 2 false)

/-- What the blocks of a power domain hold beyond their registers is lost (R312, R313). With the tiles' pages the device's
fan-out to them ends, and its status and current follow what they read (R47, R48). -/
def State.loseBlocks (s : State) (k : Nat) : State :=
  match k with
  | 2 => { (s.setHalfSt .a {}).loseHarts .a with mrqA := [] }
  | 4 => { (s.setHalfSt .b {}).loseHarts .b with mrqB := [] }
  | 6 => s.loseSwitch
  | 7 => { (s.losePorts (fun p => decide (p < 6))).loseLinks 0 6 with sas := [], scs := [] }
  | 8 => (s.losePorts (fun p => decide (6 ≤ p ∧ p < 26))).loseLinks 6 26
  | 9 =>
    { s with
      lsLast := [], canQ := [], linQ := [], linData := [], aggs := [], aggSeq := [], aiConv := [], gwTx := [], gwRx := [] }
  | 10 => { s.ksAbort.zeroSlots with csubs := [], lanes := [], ctxs := [], laneOct := [] }
  | 11 =>
    let s := s.onlyIf (s.busy sysBase) (fun s => (s.setBusy sysBase false).cmdResult sysBase .partly)
    let s := (s.deriveStat 1).sumUp 1
    { s.loseEc 3 with
      doms := [], evtShadow := [], placed := [], gateActs := [], toEnd := [], lineLast := [], tcs := [], served := [], adcs := [], convAt := [],
      fmonPrev := none, fmonAt := 0, fmonClrA := false, fmonClrB := false, membReqs := [], fans := [] }
  | _ => s

/-- A power domain's content of class S, H and X is lost (R311, R312); with a code store's domain the staging lock is
released (R614). -/
def State.loseDomain (s : State) (k : Nat) : State :=
  let s := (s.losePages (fun p => p.domain == k) clsSHX).loseBlocks k
  s.onlyIf (k == 3 || k == 5) State.stageRelease

/-- Every page's content of class S, H and X is lost, with what every block holds (R297, R311). Words written to the
timebase's capture FIFOs are class X. -/
def State.loseAll (s : State) : State :=
  let s := (s.losePages (fun _ => true) clsSHX).losePartly
  let s := s.each ((List.range 10).map (· + 2)) State.loseBlocks
  { s with
    fans := [], ceCount := [], distQ := [], ringDue := [], tunGate := none, capGate := none, cmpLink := [], dozing := false, dozeExit := false, parkStage := 0,
    time := { s.time with snapReq := [], capA := [], capB := [] } }

/-! ## Resets -/

/-- Whether a reset's scope takes in another's (R300). -/
def Rst.covers : Rst → Rst → Bool
  | .por, _ => true
  | .srst, .por => false
  | .srst, _ => true
  | .hrst h, .hrst g => h == g
  | .hrst h, .crst g _ => h == g
  | .crst h c, .crst g d => h == g && c == d
  | _, _ => false

/-- RST_CAUSE of a half (R330). -/
def State.halfCause (s : State) (h : Half) (cause : Nat) : State :=
  s.setFld (pwrBase + Reg.Pwr.RST_CAUSE) (4 + 4 * h.idx) 4 cause

/-- RST_CAUSE of the device and both halves. -/
def State.devCause (s : State) (cause : Nat) : State :=
  s.wrN (pwrBase + Reg.Pwr.RST_CAUSE) (cause * 0x111)

/-- Compute domain of a half: PD2 or PD4. -/
def Half.pd (h : Half) : Nat := 2 + 2 * h.idx

/-- Page number of S-pair p of a half (R335). -/
def pairOf (h : Half) (p : Nat) : Nat := 3 * h.idx + p

/-- A pair is reset: FROZEN and SCRUBBING clear, a SCRUB under way reads ABORTED (R342, R356). -/
def State.resetPair (s : State) (x : Nat) : State :=
  let k := lspBase x + Reg.Lsp.LS_STAT
  let s := s.onlyIf (s.bit k 0) (·.setFld k 4 2 3)
  s.setFld k 0 2 0

/-- What an HRST takes from the host queues and the bridge (R465, R499): the half's queue banks with the frames its host
port has fetched from them, and its delayed transactions, which count in DR_DISCARD_CNT. -/
def State.loseHost (s : State) (h : Half) : State :=
  let mine (d : SpDt) : Bool := d.half == h
  let n := (s.spDts.filter mine).length
  let s := s.onlyIf (decide (0 < n)) (fun s => (s.countBy (spanBase + Reg.Span.DR_DISCARD_CNT) n).raise spanBase 18)
  let s := s.loseRegs (fun k => k / 0x100000000 == h.idx && viBanked k)
  { s with
    spDts := s.spDts.filter (fun (d : SpDt) => !mine d),
    hqs := s.hqs.filter (fun (e : Nat × HQueue) => e.1 / 1024 != h.idx),
    txLast := s.txLast.filter (fun (e : Nat × Nat) => e.1 / 128 != h.idx),
    hostTxA := if h = .a then s.hostTxA.filter (fun (x : HostFrame) => decide (128 ≤ x.vi)) else s.hostTxA,
    hostTxB := if h = .b then s.hostTxB.filter (fun (x : HostFrame) => decide (128 ≤ x.vi)) else s.hostTxB }

/-- What an HRST takes from a half (R297, R311): its half-local pages, interrupt controller, counters, the class H and X
fields of its HALFx page, its queue banks, its slots that expire, its pairs. -/
def State.hrstLoss (s : State) (h : Half) : State :=
  let s := s.losePages (fun p => p.domain == h.pd) (fun k => k == .h || k == .x)
  let s := (s.losePages (fun p => p.kind == .half && p.idx == h.idx) (fun k => k == .h || k == .x)).losePathStat h
  let s := ((s.expireSlots h).loseHost h).loseBlocks h.pd
  s.each [0, 1, 2] (fun s p => s.resetPair (pairOf h p))

/-- An SRST takes effect (R297, R301, R311): the loss of content, BOOT_CNT, the cause, the boot slot to verify again; a
SCRUB under way reads ABORTED. -/
def State.doSrst (s : State) (cause : Nat) : State :=
  let scrubs := (List.range 6).filter (fun x => s.bit (lspBase x + Reg.Lsp.LS_STAT) 0)
  let s := (s.loseAll.setDevState 0).devCause cause
  let s := s.each scrubs (fun s x => s.setFld (lspBase x + Reg.Lsp.LS_STAT) 4 2 3)
  let s := s.hwCountP pwrBase (pwrBase + Reg.Pwr.BOOT_CNT)
  { s with verified := false, grant := none, claimDue := none, shep := { s.shep with winEnd := none } }

/-- An HRST takes effect (R261, R297, R301): its loss, ROLE OFFLINE, a yield of the active half. -/
def State.doHrst (s : State) (h : Half) (cause : Nat) : State :=
  let s := ((s.hrstLoss h).halfCause h cause).setHalfState h 0
  s.halfDown h true

/-- A CRST takes effect (R297, R356): an S-pair's LS_STAT; no other register content. -/
def State.doCrst (s : State) (h : Half) (core : Nat) (cause : Nat) : State :=
  ((s.halfCause h cause).loseHart h core).onlyIf (decide (4 ≤ core)) (·.resetPair (pairOf h (core - 4)))

/-- A reset is requested (R300): merged into one of its scope in progress, else it takes over those inside it. A reset
of a half whose domain is off has nothing to reset. -/
def State.reset? (s : State) (k : Rst) (cause : Nat) : State :=
  if !s.supplied || s.parking || s.rst.any (fun r => r.covers k) then s
  else
    let s' := { s with rst := k :: s.rst.filter (fun r => !k.covers r) }
    match k with
    | .por => s
    | .srst => s'.doSrst cause
    | .hrst h => if s.domainOn h.pd then s'.doHrst h cause else s
    | .crst h c => if s.domainOn h.pd then s'.doCrst h c.val cause else s

/-- A power-on reset (R73, R297, R299, R308, R323 step 1): all content but classes P and V and what the tiles hold; the
clocks start from 0; POR_CNT and BOOT_CNT count; the tamper latch is taken up (R539); without
the backup cell the root secret is gone (R540); Shepherd starts afresh (R604, R621). -/
def State.doPor (s : State) (cause : Nat) (cell : Bool) : State :=
  let s := (s.loseAll.losePages (fun _ => true) (· == .a)).setBit (sportReg Reg.Sport.SP_STAT) 0 false
  let s := { s with
    supplied := true, rst := [.por], verified := false, cycled := false, time := {}, inseq := 0, activeHalf := .a,
    grant := none, claimDue := none, yielded := false, wakes := [] }
  let s := s.devCause cause
  let s := s.hwCountP pwrBase (pwrBase + Reg.Pwr.POR_CNT)
  let s := s.hwCountP pwrBase (pwrBase + Reg.Pwr.BOOT_CNT)
  let s := s.wrN (vaultBase + Reg.Vault.TAMPER_STAT) s.tamperLatch
  let s := s.each (List.range s.tamperOff) (fun s _ => s.hwCountP vaultBase (vaultBase + Reg.Vault.TAMPER_CNT))
  let s := { s with tamperOff := 0 }
  let s := s.onlyIf (s.drsValid && !cell) (fun s => { s with drsValid := false, lossCause := 2 })
  s.shepPor

end Sys2Proof.Machine
end

