-- ==== Sys2Proof/Machine/Interrupts.lean ====
section
/-! DEFINITION. Worlds, the interrupt controllers, the debug enables, and the writes of the event counters (R513 to
R536). -/

namespace Sys2Proof.Machine

/-! ## Worlds and secure memory -/

/-- mworld of a hart (R513). -/
def State.mworldOf (s : State) (h : Half) (c : Nat) : Word := Tbl.get 0 s.mworld (7 * h.idx + c)

/-- A write of mworld: from machine mode it sets world and VI of the lower modes; from a mode below it is an
illegal-instruction exception of the hart (R513). -/
def mworldWrite (h : Half) (c : Nat) (machine : Bool) (v : Word) (s : State) : State :=
  if machine then { s.answer .ok with mworld := Tbl.set 0 s.mworld (7 * h.idx + c) (v &&& 0x7F01) } else s.answer .illegal

def execMworldWrite (h : Half) (c : Fin 7) (machine : Bool) (v : Word) (s : State) : Host.Outcome State Fault Refusal :=
  .next (mworldWrite h c.val machine v s)

/-- Key of SMR_BASEr or SMR_LIMr of a half (R516). -/
def smrKey (h : Half) (r : Nat) (lim : Bool) : Nat := halfBase h.idx + 0x100 + 8 * r + (if lim then 4 else 0)

/-- A write of a secure region's register: only a secure access changes it (R515). -/
def smrWrite (acc : Access) (h : Half) (r : Nat) (lim : Bool) (v : Word) (s : State) : State :=
  s.secureOnly acc (halfBase h.idx) (·.wr (smrKey h r lim) (v &&& (if lim then 0x00FFFFFF else 0x80FFFFFF)))

def execSmrWrite (acc : Access) (h : Half) (r : Fin 16) (lim : Bool) (v : Word) (s : State) :
    Host.Outcome State Fault Refusal :=
  .next (s.write acc 4 (smrKey h r.val lim) v (fun acc => smrWrite acc h r.val lim v))

/-- Whether an address of a half's memory lies in an enabled secure region (R515, R516). -/
def State.secureMem (s : State) (h : Half) (addr : Nat) : Bool :=
  (List.range 16).any (fun r =>
    let b := s.rd (smrKey h r false)
    let pg := addr / 4096 % 2 ^ 24
    bitOf b 31 && decide (bitsOf b 0 24 ≤ pg ∧ pg ≤ s.fld (smrKey h r true) 0 24))

/-! ## Interrupt controllers -/

/-- Key of a register of INTCx, of the SRCCFG of a source, and of a register of a hart's interface (R523). -/
def intcReg (h : Half) (off : Nat) : Nat := intcBase h.idx + off
def srcKey (h : Half) (n : Nat) : Nat := intcBase h.idx + (if n < 512 then 0x1100 + 4 * n else 0x2100 + 4 * (n - 512))
def hartReg (h : Half) (c off : Nat) : Nat := intcBase h.idx + 0x3000 + 0x20 * c + off

/-- An edge source: the software-generated ones (R517). -/
def srcEdge (n : Nat) : Bool := decide (1 ≤ n ∧ n < 32)

/-- Whether a page raises its request: a bit in both IRQ_RAW and IRQ_EN (R30). -/
def State.pageLine (s : State) (base : Nat) : Bool :=
  (s.rd (base + Reg.Hdr.IRQ_RAW) &&& s.rd (base + Reg.Hdr.IRQ_EN)) != 0

/-- Whether the line of a level source of a half's controller is raised (R517). -/
def State.srcLine (s : State) (h : Half) (n : Nat) : Bool :=
  if n < 32 then false
  else if n < 64 then s.bit (hrnBase + Reg.Hrn.EVIRQ_RAW) (n - 32) && s.bit (hrnBase + Reg.Hrn.EVIRQ_EN) (n - 32)
  else if n < 257 then false
  else if n < 640 then
    match unitPage (n - 256) with
    | some p => s.pageLine p.base
    | none => false
  else if n < 768 then s.pageLine (viBase (n - 640))
  else if n < 896 then
    [0, 4].any (fun i => (s.rd (bank h.idx (viBase (n - 768) + Reg.Vi.Q_PEND + i)) &&&
      s.rd (bank h.idx (viBase (n - 768) + Reg.Vi.Q_IEN + i))) != 0)
  else if n < 899 then
    let b := ecBase (if n = 896 then h.idx else n - 895)
    (s.rd (b + Reg.Ec.OVF_STAT) &&& s.rd (b + Reg.Ec.OVF_IE)) != 0
  else if n = 899 then s.pageLine (localBase h.idx)
  else if n = 900 then s.pageLine (msgBase h.idx)
  else false

/-- ACTIVE and PENDING of a source as they stand (R517, R518): a level source follows its line. -/
def State.srcActive (s : State) (h : Half) (n : Nat) : Bool := s.bit (srcKey h n) 17
def State.srcPending (s : State) (h : Half) (n : Nat) : Bool :=
  if srcEdge n then s.bit (srcKey h n) 16 else s.srcLine h n && !s.srcActive h n

/-- TARGET of an SRCCFG word: 0b111 is treated as 0 (R518). -/
def srcTarget (w : Word) : Nat := if bitsOf w 8 3 = 7 then 0 else bitsOf w 8 3

/-- PENDING of a level source brought to the present in its SRCCFG. -/
def State.syncSrc (s : State) (h : Half) (n : Nat) : State :=
  if srcEdge n then s else s.setBit (srcKey h n) 16 (s.srcPending h n)

/-- Sources of a half's controller whose SRCCFG is set, by number. -/
def State.srcSet (s : State) (h : Half) : List Nat :=
  let b := intcBase h.idx
  (s.regs.filter (fun e => decide (b + 0x1100 ≤ e.1 ∧ e.1 < b + 0x1900))).map (fun e => (e.1 - (b + 0x1100)) / 4) ++
  (s.regs.filter (fun e => decide (b + 0x2100 ≤ e.1 ∧ e.1 < b + 0x2900))).map (fun e => 512 + (e.1 - (b + 0x2100)) / 4)

/-- Whether a source of a group is eligible at hart c (R519). -/
def State.eligible (s : State) (h : Half) (c : Nat) (sec : Bool) (n : Nat) : Bool :=
  let w := s.rd (srcKey h n)
  n != 0 && bitOf w 4 == sec && srcTarget w == c &&
    decide (s.fld (hartReg h c (if sec then Reg.IntcHart.THR_S else Reg.IntcHart.THR_N)) 0 4 < bitsOf w 0 4) &&
    s.bit (intcReg h Reg.Intc.INTC_CTRL) (b2n sec) && s.srcPending h n

/-- The better of two sources: higher priority, then lower number (R520). -/
def State.better (s : State) (h : Half) (a n : Nat) : Nat :=
  if a = 0 then n
  else
    let p := s.fld (srcKey h a) 0 4
    let q := s.fld (srcKey h n) 0 4
    if p < q ∨ (p = q ∧ n < a) then n else a

/-- The highest eligible source of a group at hart c, or 0 (R519, R520). -/
def State.highest (s : State) (h : Half) (c : Nat) (sec : Bool) : Nat :=
  ((s.srcSet h).filter (fun n => s.eligible h c sec n)).foldl (fun a n => s.better h a n) 0

/-- What a change of a controller makes it signal: a hart's source of a group that changes is recorded (R519, R522). -/
def State.signal (s : State) (h : Half) (f : State → State) : State :=
  let t := f s
  (List.range 7).foldl (fun t c => [true, false].foldl (fun t sec =>
    t.onlyIf (s.highest h c sec != t.highest h c sec) (·.emit (.irq h c sec (t.highest h c sec)))) t) t

/-- An access refused for its world: counted in SEC_REFUSE (R518, R521, R523). -/
def State.secRefuse (s : State) (h : Half) : State :=
  (s.count (intcReg h Reg.Intc.SEC_REFUSE)).raise (intcBase h.idx) 16

/-- A write of SRCCFG (R518). -/
def srccfgWrite (acc : Access) (h : Half) (n : Nat) (v : Word) (s : State) : State :=
  let k := srcKey h n
  let w := s.rd k
  if !acc.secure && (bitOf w 4 || bitOf v 4) then s.secRefuse h
  else s.signal h (fun s =>
    if s.srcActive h n then (s.setFld k 0 4 (bitsOf v 0 4)).wrN (intcReg h Reg.Intc.CFG_BUSY) (n + 2 ^ 31)
    else s.wr k ((w &&& ~~~0x71F) ||| (v &&& 0x71F)))

def execSrccfgWrite (acc : Access) (h : Half) (n : Fin 1024) (v : Word) (s : State) : Host.Outcome State Fault Refusal :=
  .next (s.write acc 4 (srcKey h n.val) v (fun acc => srccfgWrite acc h n.val v))

/-- A source's line rises or falls: a level source becomes pending or not, and the harts' signals follow (R517, R519). -/
def irqLineChange (h : Half) (n : Nat) (s : State) : State :=
  let s := s.syncSrc h n
  let w := s.rd (srcKey h n)
  let g := bitOf w 4
  if bitsOf w 0 4 = 0 then s else s.emit (.irq h (srcTarget w) g (s.highest h (srcTarget w) g))

def execIrqLineChange (h : Half) (n : Fin 1024) (s : State) : Host.Outcome State Fault Refusal :=
  .next (if s.domainOn h.pd then irqLineChange h n.val s else s)

/-- A read of CLAIM_S or CLAIM_N of hart c (R520); a claim that returns a source is an event of the half (R531). -/
def claimRead (acc : Access) (h : Half) (c : Nat) (sec : Bool) (s : State) : State :=
  if sec && !acc.secure then s.answer (.data 0)
  else
    let n := s.highest h c sec
    if n = 0 then s.answer (.data 0)
    else
      let s := s.signal h (fun s => (s.setBit (srcKey h n) 17 true).setBit (srcKey h n) 16 false)
      let s := s.onlyIf (!sec || s.unmuzzled true) (·.evHalf h.idx (if sec then 0x51 else 0x52) c)
      s.answer (.data (word n))

/-- Offset of CLAIM_S or CLAIM_N. -/
def claimOff (sec : Bool) : Nat := if sec then Reg.IntcHart.CLAIM_S else Reg.IntcHart.CLAIM_N

def execClaimRead (acc : Access) (h : Half) (c : Fin 7) (sec : Bool) (s : State) : Host.Outcome State Fault Refusal :=
  .next (s.read acc 4 (hartReg h c.val (claimOff sec)) (fun acc => claimRead acc h c.val sec))

/-- A completion (R520): ignored and counted where it names no ACTIVE source of the group and hart. CLAIM_S takes secure
accesses only (R525). -/
def completeWrite (acc : Access) (h : Half) (c : Nat) (sec : Bool) (v : Word) (s : State) : State :=
  let n := v.toNat
  let w := s.rd (srcKey h n)
  if sec && !acc.secure then s
  else if decide (n < 1024) && s.srcActive h n && bitOf w 4 == sec && srcTarget w == c then
    s.signal h (fun s => (s.setBit (srcKey h n) 17 false).syncSrc h n)
  else (s.count (intcReg h Reg.Intc.BAD_COMPLETE)).raise (intcBase h.idx) 17

def execCompleteWrite (acc : Access) (h : Half) (c : Fin 7) (sec : Bool) (v : Word) (s : State) :
    Host.Outcome State Fault Refusal :=
  .next (s.write acc 4 (hartReg h c.val (claimOff sec)) v (fun acc => completeWrite acc h c.val sec v))

/-- A write of SGI (R521). -/
def sgiWrite (acc : Access) (h : Half) (v : Word) (s : State) : State :=
  let n := bitsOf v 0 5
  if n = 0 then s
  else if !acc.secure && s.bit (srcKey h n) 4 then s.secRefuse h
  else s.signal h (·.setBit (srcKey h n) 16 true)

def execSgiWrite (acc : Access) (h : Half) (v : Word) (s : State) : Host.Outcome State Fault Refusal :=
  .next (s.write acc 4 (intcReg h Reg.Intc.SGI) v (fun acc => sgiWrite acc h v))

/-- SRCCFG as an access reads it (R518): that of a SECURE source reads 0 in the normal world. -/
def State.srccfgLive (s : State) (acc : Access) (h : Half) (n : Nat) : Word :=
  let w := s.rd (srcKey h n)
  if bitOf w 4 && !acc.secure then 0 else setBits w 16 1 (b2n (s.srcPending h n))

/-- IPENDw as an access reads it (R523). -/
def State.ipendLive (s : State) (acc : Access) (h : Half) (w : Nat) : Word :=
  word ((List.range 32).foldl (fun a i =>
    a + b2n (s.srcPending h (32 * w + i) && (acc.secure || !s.bit (srcKey h (32 * w + i)) 4)) * 2 ^ i) 0)

/-- HART_WORLD as it reads (R513, R525): secure where mworld puts the lower modes in the secure world or the half does
not run; else free, for the hart's privilege mode is the hart's own. -/
def State.hartWorld (s : State) (h : Half) (c : Nat) : Word × State :=
  if bitOf (s.mworldOf h c) 0 || s.halfState h != 1 then (1, s)
  else let r := s.freshIn 0 1; (word r.1, r.2)

/-! ## Debug enables -/

/-- The invasive enable of a world (R526). -/
def State.invasive (s : State) (secure : Bool) : Bool := s.bit (sysBase + Reg.Sys.DBG_EN) (if secure then 0 else 2)

/-- The debug state of a hart. -/
def State.hart (s : State) (k : Nat) : HartDbg := Tbl.get {} s.harts k
def State.setHart (s : State) (k : Nat) (d : HartDbg) : State := { s with harts := Tbl.set {} s.harts k d }

/-- Whether a hart is a safety pair that is frozen. -/
def State.hartFrozen (s : State) (k : Nat) : Bool :=
  decide (4 ≤ k % 7) && s.bit (lspBase (pairOf (halfOf (k / 7)) (k % 7 - 4)) + Reg.Lsp.LS_STAT) 1

/-- A hart follows the enables: halted in a world whose enable is 0 it resumes; a pending request takes effect once the
enable of its world is 1 (R528). The status outputs of a frozen pair are withheld (R337, R338). -/
def State.followDbg (s : State) (k : Nat) : State :=
  if s.hartFrozen k then s else
  let d := s.hart k
  let d : HartDbg := match d.halted with
    | some w => if s.invasive w then d else { d with halted := none }
    | none => d
  let d : HartDbg := match d.pend with
    | some w => if s.invasive w && d.halted.isNone then { pend := none, halted := some w } else d
    | none => d
  s.setHart k d

/-- The word a write of DBG_EN leaves, and whether it met a lock (R527). -/
def dbgEnNext (session : Bool) (old lock v : Word) : Word × Bool :=
  let up := v &&& ~~~old &&& 0xF
  let barred := if session then 0 else up &&& lock
  ((v &&& 0xF) &&& ~~~barred, barred != 0)

/-- The word a write of DBG_LOCK leaves, and whether it met a lock (R527). -/
def dbgLockNext (session : Bool) (old v : Word) : Word × Bool :=
  let down := old &&& ~~~v &&& 0xF
  let barred := if session then 0 else down
  ((v &&& 0xF) ||| barred, barred != 0)

/-- A write of DBG_EN (R527), then what the enables govern. -/
def dbgEnWrite (acc : Access) (v : Word) (s : State) : State :=
  s.sessionOnly acc sysBase (fun s =>
    let k := sysBase + Reg.Sys.DBG_EN
    let r := dbgEnNext (acc.master == .shep) (s.rd k) (s.rd (sysBase + Reg.Sys.DBG_LOCK)) v
    let s := (s.writeP acc sysBase k r.1).onlyIf r.2 (·.lockViol sysBase)
    s.each (s.harts.map (·.1)) State.followDbg)

def execDbgEnWrite (acc : Access) (v : Word) (s : State) : Host.Outcome State Fault Refusal :=
  .next (s.write acc 4 (sysBase + Reg.Sys.DBG_EN) v (fun acc => dbgEnWrite acc v))

/-- A write of DBG_LOCK (R527). -/
def dbgLockWrite (acc : Access) (v : Word) (s : State) : State :=
  s.sessionOnly acc sysBase (fun s =>
    let k := sysBase + Reg.Sys.DBG_LOCK
    let r := dbgLockNext (acc.master == .shep) (s.rd k) v
    (s.writeP acc sysBase k r.1).onlyIf r.2 (·.lockViol sysBase))

def execDbgLockWrite (acc : Access) (v : Word) (s : State) : Host.Outcome State Fault Refusal :=
  .next (s.write acc 4 (sysBase + Reg.Sys.DBG_LOCK) v (fun acc => dbgLockWrite acc v))

/-- A halt request to a hart that executes in a world: it halts there if the world's invasive enable is 1, else the
request stays pending (R528). -/
def haltRequest (h : Half) (c : Nat) (sec : Bool) (s : State) : State :=
  let k := 7 * h.idx + c
  if (s.hart k).halted.isSome then s else (s.setHart k { s.hart k with pend := some sec }).followDbg k

def execHaltRequest (h : Half) (c : Fin 7) (sec : Bool) (s : State) : Host.Outcome State Fault Refusal :=
  .next (if s.domainOn h.pd then haltRequest h c.val sec s else s)

/-! ## Event counters -/

/-- A write of BANK_EN: the counters are brought to the present, then started and stopped (R532). -/
def bankEnWrite (k : Nat) (v : Word) (s : State) : State :=
  (s.ecDriftAll k).wrN (ecBase k + Reg.Ec.BANK_EN) (v.toNat % 2 ^ ecLen k)

def execBankEnWrite (acc : Access) (k : Fin 4) (v : Word) (s : State) : Host.Outcome State Fault Refusal :=
  .next (s.write acc 4 (ecBase k.val + Reg.Ec.BANK_EN) v (fun _ => bankEnWrite k.val v))

/-- A write of a count's word: ignored with LOCK_VIOL while the counter counts; offsets past the bank's last counter are
reserved (R533, R536). -/
def State.cntWrite (s : State) (acc : Access) (k i : Nat) (f : State → State) : State :=
  if ecLen k ≤ i then s
  else if s.ecOn k i then s.lockedWrite acc (ecBase 0)
  else f s

/-- CNT_HI goes to the counter's shadow (R533). -/
def cntHiWrite (acc : Access) (k i : Nat) (v : Word) (s : State) : State :=
  s.cntWrite acc k i (fun s => { s with ecShadow := Tbl.set 0 s.ecShadow (32 * k + i) (bitsOf v 0 16) })

def execCntHiWrite (acc : Access) (k : Fin 4) (i : Fin 32) (v : Word) (s : State) : Host.Outcome State Fault Refusal :=
  .next (s.write acc 4 (ecReg k.val i.val Reg.Ec.CNT_HI) v (fun acc => cntHiWrite acc k.val i.val v))

/-- CNT_LO commits the shadow with it (R533). -/
def cntLoWrite (acc : Access) (k i : Nat) (v : Word) (s : State) : State :=
  s.cntWrite acc k i (fun s => s.ecPut k i (Tbl.get 0 s.ecShadow (32 * k + i) * 2 ^ 32 + v.toNat))

def execCntLoWrite (acc : Access) (k : Fin 4) (i : Fin 32) (v : Word) (s : State) : Host.Outcome State Fault Refusal :=
  .next (s.write acc 4 (ecReg k.val i.val Reg.Ec.CNT_LO) v (fun acc => cntLoWrite acc k.val i.val v))

/-- A counter's count passes 2^48 − 1 (R532): one that stands there, or whose events no command brings about. -/
def counterOverflow (k i : Nat) (s : State) : State :=
  if decide (i < ecLen k) && s.ecOn k i && (s.ecSelOk k i) && (s.ecCount k i == 2 ^ 48 - 1 || ecOutside (s.ecSrc k i)) then
    (s.ecPut k i (2 ^ 48 - 1)).ecOne 33 k i
  else s

def execCounterOverflow (k : Fin 4) (i : Fin 32) (s : State) : Host.Outcome State Fault Refusal :=
  .next (counterOverflow k.val i.val s)

/-- A read of CNT_LO: the counter is brought to the present and CNT_HI latched (R533). -/
def State.readCntLo (s : State) (k i : Nat) : Word × State :=
  let s := s.ecDrift k i
  (s.rd (ecReg k i Reg.Ec.CNT_LO),
    { s with ecLatch := Tbl.set 0 s.ecLatch (32 * k + i) (s.fld (ecReg k i Reg.Ec.CNT_HI) 0 16) })

end Sys2Proof.Machine
end

