-- ==== Sys2Proof/Machine/CodeStore.lean ====
section
/-! DEFINITION. The halves' code stores: Slot 0, Slot 1 and the data region, a half's accesses to its own, and Shepherd's
staging writes (R610, R613, R614). -/

namespace Sys2Proof.Machine

/-- A slot is 768 MiB; Slot 0, Slot 1 and the 512 MiB of the data region follow each other (log entry 82). -/
def slotSize : Nat := 0x30000000

/-- Where in its half's code store an address lies; the register space is no part of it. -/
def codeOff (addr : Nat) : Option Nat :=
  if 0x40000000 ≤ addr ∧ addr < 0x41000000 then none else (Config.codeAt addr).map (· % 2 ^ 31)

/-- Whether an offset lies in Slot 0 or Slot 1; the rest is the data region. -/
def inSlot (off : Nat) : Bool := decide (off < 2 * slotSize)

/-- Octet `off` of half h's code store; one that nothing has programmed since power-on is free. -/
def State.codeOct (s : State) (h : Half) (off : Nat) : Nat :=
  match Tbl.get none s.codeStore (2 ^ 31 * h.idx + off) with
  | some b => b
  | none => Config.freeOf 610 [h.idx, off] % 256

/-- Octets programmed into half h's code store. -/
def State.codePut (s : State) (h : Half) (off : Nat) (l : List Nat) : State :=
  { s with codeStore := (l.zipIdx off).foldl (fun t e =>
      Tbl.set none t (2 ^ 31 * h.idx + e.2 % 2 ^ 31) (some (e.1 % 256))) s.codeStore }

/-- Whether a half's memory controller takes an access: its domain on, and no secure region for a normal access (R314,
R515). -/
def State.memTakes (s : State) (h : Half) (sec : Bool) (addr size : Nat) : Bool :=
  s.supplied && s.domainOn (3 + 2 * h.idx) && (sec || !(s.secureMem h addr || s.secureMem h (addr + size - 1)))

/-- A write to half h's code store (R610): one to the boot slot or the staging target ends with a bus error and changes
nothing, as only staging writes reach a slot; the data region takes it. -/
def codeWrite (h : Half) (sec : Bool) (addr off : Nat) (l : List Nat) (s : State) : State :=
  if !s.memTakes h sec addr l.length || inSlot off then s.answer .busError else (s.codePut h off l).answer .ok

/-- A read of half h's code store. -/
def codeRead (h : Half) (sec : Bool) (addr off size : Nat) (s : State) : State :=
  if !s.memTakes h sec addr size then s.answer .busError
  else s.answer (.octets ((List.range size).map (fun i => s.codeOct h (off + i))))

/-- First offset of the staging target: the boot slot in DEAD, else the other slot (R611, R623). -/
def State.targetOff (s : State) : Nat :=
  let boot := s.fld (shepReg Reg.Shep.BOOT_SLOT) 0 1
  slotSize * (if s.inDead then boot else 1 - boot)

/-- A staging write (R613): Shepherd programs both halves' code stores. -/
def State.stagePut (s : State) (off : Nat) (l : List Nat) : State :=
  (s.codePut .a (s.targetOff + off) l).codePut .b (s.targetOff + off) l

end Sys2Proof.Machine
end

