-- ==== Sys2Proof/Machine/Monitor.lean ====
section
/-! DEFINITION. The safety monitor and the lockstep pairs: recording with its reactions, injection, divergences, SCRUB
and the monitor's own timers (R335 to R356). -/

namespace Sys2Proof.Machine

/-- Key of a register of SAFE. -/
def safeReg (off : Nat) : Nat := safeBase + off

/-- Whether an index names a source (R345): 12–15, 28–31, 43–47 and what lies above are reserved. -/
def srcNamed (src : Nat) : Bool :=
  decide (src < 43) && !decide (12 ≤ src ∧ src < 16) && !decide (28 ≤ src ∧ src < 32)

/-- The half a per-half source names (R345). -/
def srcHalf (src : Nat) : Option Half := if src < 16 then some .a else if src < 32 then some .b else none

/-- A source of half h by its per-half index. -/
def halfSrc (h : Half) (n : Nat) : Nat := 16 * h.idx + n

/-- The reaction assigned to a source (R347, R354). -/
def State.reaction (s : State) (src : Nat) : Nat := s.fld (safeReg Reg.Safe.REACT0 + 4 * (src / 8)) (4 * (src % 8)) 3

/-- The core a source names: S-pair 4 to 6, application core 0 to 3 (R345, R346). -/
def srcCore (src : Nat) (info : Word) : Option (Fin 7) :=
  match src % 16 with
  | 0 => some 4
  | 1 => some 5
  | 2 => some 6
  | 3 => if bitsOf info 0 2 = 0 then some 4 else if bitsOf info 0 2 = 1 then some 5
    else if bitsOf info 0 2 = 2 then some 6 else none
  | 4 => if bitOf info 2 then none
    else some ⟨bitsOf info 0 2, by
      have : bitsOf info 0 2 < 4 := Nat.mod_lt _ (by decide)
      omega⟩
  | _ => none

/-- The monitor's yield of a half by its role (R348). -/
def State.monYield (s : State) (h : Half) : State :=
  let r := s.role h
  if r = roleActive ∧ h = s.activeHalf then
    ((s.setHalfSt h { s.halfSt h with stopped := true }).stopAgent h).yieldActive causeYieldMon
  else if r = roleHeel ∨ r = roleResync then s.setRole h roleOffline (some causeYieldMon)
  else s

/-- A reaction's effect beyond the record (R346 to R348). -/
def State.react (s : State) (src : Nat) (info : Word) (r : Nat) : State :=
  let s := s.onlyIf (decide (1 ≤ r)) (·.raise safeBase 16)
  if r = 5 then s.reset? .srst 6
  else
    match srcHalf src with
    | none => s
    | some h =>
      let s := if r = 2 ∨ r = 3 then
          (match srcCore src info with
           | some c => s.reset? (.crst h c) 6
           | none => s)
        else s
      let s := s.onlyIf (r == 3 || r == 4) (·.monYield h)
      s.onlyIf (r == 4) (·.reset? (.hrst h) 6)

/-- A record word (R355). -/
def errWord (src r : Nat) (inj : Bool) : Nat := src + r * 2 ^ 6 + b2n inj * 2 ^ 9 + 2 ^ 31

/-- An occurrence of a source (R349): ERR_STAT, ERR_CNT, the last record and, where none is held, the first; then its
reaction, of which a dry injection and PARK entry leave LOG and IRQ (R351, R352). In PARK the monitor's clock stands
(R344). -/
def State.recordAs (s : State) (src : Nat) (info : Word) (inj dry : Bool) : State :=
  if !srcNamed src || s.devState == 3 || s.devState == 4 || !s.supplied then s
  else
    let r0 := s.reaction src
    let r := if dry || s.parking then min r0 1 else r0
    let s := s.setBit (safeReg Reg.Safe.ERR_STAT0 + 4 * (src / 32)) (src % 32) true
    let s := ((s.count (safeReg Reg.Safe.ERR_CNT)).ev 0xF2 0)
    let s := (s.wrN (safeReg Reg.Safe.LAST_ERR) (errWord src r inj)).wr (safeReg Reg.Safe.LAST_INFO) info
    let s := s.onlyIf (!s.bit (safeReg Reg.Safe.FIRST_ERR) 31) (fun s =>
      ((s.wrN (safeReg Reg.Safe.FIRST_ERR) (errWord src r inj)).wr (safeReg Reg.Safe.FIRST_INFO) info).stamp
        (safeReg Reg.Safe.FIRST_TS_LO) (safeReg Reg.Safe.FIRST_TS_HI) s.tb0)
    s.react src info r

/-- An occurrence the hardware detects. -/
def State.record (s : State) (src : Nat) (info : Word) : State := s.recordAs src info false false

def execMonitorRecord (src : Fin 64) (info : Word) (s : State) : Host.Outcome State Fault Refusal :=
  .next (s.record src.val info)

/-- SAFE.INJECT (R352): with the key, the named source is recorded as if it had occurred; its INFO is a free value, since
the spec states none for it. -/
def safeInject (v : Word) (s : State) : State :=
  if bitsOf v 16 16 = 0x3CA5 then
    let r := s.fresh
    r.2.recordAs (bitsOf v 0 6) (word r.1) true (bitOf v 8)
  else s

def execSafeInject (acc : Access) (src : Fin 64) (dry : Bool) (key : Fin 65536) (s : State) :
    Host.Outcome State Fault Refusal :=
  let v := word (src.val + b2n dry * 2 ^ 8 + key.val * 2 ^ 16)
  .next (s.write acc 4 (safeReg Reg.Safe.INJECT) v (fun _ => safeInject v))

/-- Floors of R345. -/
def srcFloor (src : Nat) : Nat :=
  if src < 32 then
    (match src % 16 with
     | 0 => 2 | 1 => 2 | 2 => 2 | 3 => 2 | 4 => 1 | 5 => 1 | 11 => 3 | _ => 0)
  else if src = 34 ∨ src = 35 ∨ (38 ≤ src ∧ src ≤ 41) then 1 else 0

/-- A reaction as stored for a source (R347): a reserved index LOG; a reserved value, or one below the floor, the floor or IRQ,
whichever is higher; CRST, YIELD and HRST of a shared source IRQ. -/
def reactStored (src v : Nat) : Nat :=
  if !srcNamed src then 0
  else if 5 < v ∨ v < srcFloor src then max 1 (srcFloor src)
  else if 32 ≤ src ∧ 2 ≤ v ∧ v ≤ 4 then 1
  else v

/-- REACTk as stored (R347). -/
def reactWord (k : Nat) (v : Word) : Word :=
  word ((List.range 8).foldl (fun a i => a + reactStored (8 * k + i) (bitsOf v (4 * i) 3) * 2 ^ (4 * i)) 0)

/-! ## The monitor's timers -/

/-- PATH_FAULT has been 1 for PATH_PERSIST (R350). -/
def pathPersist (h : Half) (s : State) : State :=
  if s.bit (hreg h Reg.Half.ROLE_STAT) 7 then
    s.record (halfSrc h 10) (word (b2n (s.halfSt h).line.fault + 2 * b2n (s.halfSt h).net.fault))
  else s

def execPathPersistExpiry (h : Half) (s : State) : Host.Outcome State Fault Refusal := .next (pathPersist h s)

/-- The end of a CE_WINDOW (R350). -/
def ceWindow (h : Half) (s : State) : State :=
  let n := Tbl.get 0 s.ceCount h.idx
  let s := { s with ceCount := Tbl.set 0 s.ceCount h.idx 0 }
  if s.fld (safeReg Reg.Safe.CE_CFG) 0 16 < n then s.record (halfSrc h 6) (word n) else s

def execCeWindowExpiry (h : Half) (s : State) : Host.Outcome State Fault Refusal := .next (ceWindow h s)

/-- A main-bus access outstanding for 1 ms (R345). -/
def execBusStallTimer (h : Half) (addr : Nat) (s : State) : Host.Outcome State Fault Refusal :=
  .next (s.record (halfSrc h 7) (word (addr % 2 ^ 24)))

/-! ## Lockstep pairs -/

/-- The half of pair x and its number within the half (R335). -/
def pairHalf (x : Nat) : Half := halfOf (x / 3)
def lspReg (x off : Nat) : Nat := lspBase x + off

/-- FROZEN of a pair. -/
def State.frozen (s : State) (x : Nat) : Bool := s.bit (lspReg x Reg.Lsp.LS_STAT) 1

/-- Whether a pair runs: its half's compute domain is on and neither the half nor the pair is held in a reset. -/
def State.pairRuns (s : State) (x : Nat) : Bool := s.supplied && s.domainOn (pairHalf x).pd

/-- A pair diverges on a lane: frozen, DIV_INFO, and source LS_DIV (R338). -/
def State.diverge (s : State) (x lane : Nat) : State :=
  let s := s.setBit (lspReg x Reg.Lsp.LS_STAT) 1 true
  let s := s.wrN (lspReg x Reg.Lsp.DIV_INFO) (lane + 2 ^ 31)
  s.record (halfSrc (pairHalf x) (x % 3)) (word lane)

/-- The comparator compares what both cores present on a lane, the main core's delayed (R337, R338). An output both agree on leaves
the pair; the digest of lane SCRUB and the parities of lane INPUT go no further. A difference is a divergence. On lane SCRUB
content stands only during a SCRUB, which a difference ends with MISMATCH (R341, R342). From a frozen pair nothing leaves. -/
def lsDivergence (x lane main checker : Nat) (s : State) : State :=
  let k := lspReg x Reg.Lsp.LS_STAT
  if s.frozen x || !s.pairRuns x || (lane == 6 && !s.bit k 0) then s
  else if main = checker then s.onlyIf (decide (lane < 6)) (·.emit (.pairOut x lane main))
  else (s.onlyIf (lane == 6) (fun s => (s.setBit k 0 false).setFld k 4 2 2)).diverge x lane

def execLsDivergence (x : Fin 6) (d : LaneOut) (s : State) : Host.Outcome State Fault Refusal :=
  .next (lsDivergence x.val d.lane.val d.main d.checker s)

/-- An uncorrectable error in a pair's cache copy or SRAM: frozen, source LS_UE (R339, R345). -/
def lsUe (x array : Nat) (checker : Bool) (addr : Nat) (s : State) : State :=
  if !s.pairRuns x then s
  else
    (s.setBit (lspReg x Reg.Lsp.LS_STAT) 1 true).record (halfSrc (pairHalf x) 3)
      (word (x % 3 + array * 4 + b2n checker * 16 + addr % 2 ^ 24 * 2 ^ 8))

def execLsUe (x : Fin 6) (array : Fin 3) (checker : Bool) (addr : Nat) (s : State) : Host.Outcome State Fault Refusal :=
  .next (lsUe x.val array.val checker addr s)

/-- A correctable error in a pair's arrays: corrected and counted, also in the half's window (R339, R350). -/
def correctable (x : Nat) (s : State) : State :=
  let h := (pairHalf x).idx
  { s.count (lspReg x Reg.Lsp.CE_CNT) with ceCount := Tbl.set 0 s.ceCount h (Tbl.get 0 s.ceCount h + 1) }

def execCorrectableError (x : Fin 6) (s : State) : Host.Outcome State Fault Refusal := .next (correctable x.val s)

/-- A SCRUB trigger: ignored during a SCRUB, not started on a frozen pair (R342). -/
def scrubStart (x : Nat) (s : State) : State :=
  if s.bit (lspReg x Reg.Lsp.LS_STAT) 0 || s.frozen x || !s.pairRuns x then s
  else s.setBit (lspReg x Reg.Lsp.LS_STAT) 0 true

/-- A write of SCRUB_GO. -/
def scrubGo (x : Nat) (v : Word) (s : State) : State := if bitOf v 0 then scrubStart x s else s

def execScrubGo (acc : Access) (x : Fin 6) (s : State) : Host.Outcome State Fault Refusal :=
  .next (s.write acc 4 (lspReg x.val Reg.Lsp.SCRUB_GO) 1 (fun _ => scrubGo x.val 1))

/-- SCRUB_PERIOD passes; 0 disables it (R342, R356). -/
def scrubAuto (x : Nat) (s : State) : State :=
  if s.fld (lspReg x Reg.Lsp.LS_CFG) 0 20 = 0 then s else scrubStart x s

def execScrubAuto (x : Fin 6) (s : State) : Host.Outcome State Fault Refusal := .next (scrubAuto x.val s)

/-- The digest of the words a SCRUB reads in a core: a CRC-32C with the parameters of R284 (R341). -/
def scrubDigest (l : List Word) : Word := word ((l.flatMap octets).foldl crcByte 0xFFFFFFFF ^^^ 0xFFFFFFFF)

/-- The digests of the words each core read are compared (R341, R342): a match is counted, a difference is a divergence on lane
SCRUB. -/
def scrubCompare (x : Nat) (main checker : List Word) (s : State) : State :=
  let k := lspReg x Reg.Lsp.LS_STAT
  if !s.bit k 0 then s
  else
    let s := s.setBit k 0 false
    if scrubDigest main = scrubDigest checker then
      let s := (s.wr (lspReg x Reg.Lsp.SCRUB_DIGEST) (scrubDigest main)).count (lspReg x Reg.Lsp.SCRUB_CNT)
      ((s.setFld k 4 2 1).raise safeBase 17).evHalf (pairHalf x).idx 0x17 (4 + x % 3)
    else (s.setFld k 4 2 2).diverge x 6

def execScrubCompare (x : Fin 6) (main checker : List Word) (s : State) : Host.Outcome State Fault Refusal :=
  .next (scrubCompare x.val main checker s)

/-- LSPx.INJECT (R343): a secure access forces a difference on a lane; the comparator detects it; the pair neither
freezes nor records. Lane SCRUB and reserved lanes are ignored; a frozen pair shows no difference. -/
def lsInject (x : Nat) (v : Word) (s : State) : State :=
  let lane := bitsOf v 0 4
  if !bitOf v 8 || lane == 6 || decide (7 < lane) || s.frozen x || !s.pairRuns x then s
  else
    let s := s.wrN (lspReg x Reg.Lsp.INJECT_STAT) 3
    (s.wrN (lspReg x Reg.Lsp.DIV_INFO) (lane + 2 ^ 8 + 2 ^ 31)).raise safeBase 18

/-- The write of INJECT: a normal-world one is ignored. -/
def lsInjectWrite (acc : Access) (x : Nat) (v : Word) (s : State) : State :=
  s.secureOnly acc safeBase (lsInject x v)

def execLsInject (acc : Access) (x : Fin 6) (lane : Fin 16) (s : State) : Host.Outcome State Fault Refusal :=
  let v := word (lane.val + 2 ^ 8)
  .next (s.write acc 4 (lspReg x.val Reg.Lsp.INJECT) v (fun acc => lsInjectWrite acc x.val v))

end Sys2Proof.Machine
end

