-- ==== Sys2Proof/Machine/Frames.lean ====
section
/-! DEFINITION. The octets of a frame: its EtherType, tag and FCS; and the Span frames a half's host port sends (R488,
R506 to R508). -/

namespace Sys2Proof.Machine

/-! ## Octets -/

/-- Octets as numbers below 256. -/
def clean (l : List Nat) : List Nat := l.map (· % 256)

/-- A big-endian number in `n` octets from octet `i` of a frame. -/
def be (l : List Nat) (i n : Nat) : Nat := (List.range n).foldl (fun a k => a * 256 + l.getD (i + k) 0) 0

/-- The CRC-32 of IEEE 802.3 over octets, reflected. -/
def crc32 (l : List Nat) : Nat :=
  (l.foldl (fun c b =>
    (List.range 8).foldl (fun c _ => if c % 2 = 1 then c / 2 ^^^ 0xEDB88320 else c / 2) (c ^^^ b % 256)) 0xFFFFFFFF) ^^^ 0xFFFFFFFF

/-- A number as `n` octets, least significant first. -/
def littleEnd (n x : Nat) : List Nat := (List.range n).map (fun i => x / 256 ^ i % 256)

/-- A frame's octets with its FCS computed afresh over all but the last four. -/
def withFcs (l : List Nat) : List Nat :=
  let d := l.take (l.length - 4)
  d ++ littleEnd 4 (crc32 d)

/-- Whether the last four octets of a frame are its FCS. -/
def fcsGood (l : List Nat) : Bool := l == withFcs l

/-- Whether a frame carries an 802.1Q tag. -/
def isTagged (l : List Nat) : Bool := be l 12 2 == 0x8100

/-- EtherType of a frame after at most one 802.1Q tag. -/
def etherType (l : List Nat) : Nat := if isTagged l then be l 16 2 else be l 12 2

/-- Where the EtherType's payload begins. -/
def payloadAt (l : List Nat) : Nat := if isTagged l then 18 else 14

/-- The domainNumber of a gPTP frame (R78). -/
def gptpOf (l : List Nat) : Option Nat := if etherType l = 0x88F7 then some (l.getD (payloadAt l + 4) 0) else none

/-- Octets with those from octet `i` on replaced. -/
def splice (l : List Nat) (i : Nat) (new : List Nat) : List Nat := l.take i ++ new ++ l.drop (i + new.length)

/-! ## Span frames (R506 to R508) -/

/-- The station address of module `unit`: DIR.MAC_BASE with bits [13:0] replaced (R58, R488). -/
def State.unitMac (s : State) (unit : Nat) : Nat :=
  let m := s.rdN (dirBase + Reg.Dir.MAC_BASE_LO) + s.fld (dirBase + Reg.Dir.MAC_BASE_HI) 0 16 * 2 ^ 32
  m / 2 ^ 14 * 2 ^ 14 + unit % 2 ^ 14

/-- DIR.SELF_UNIT. -/
def State.selfUnit (s : State) : Nat := s.fld (dirBase + Reg.Dir.SELF_UNIT) 0 14

/-- A Span frame to module `unit` (R506), padded to the minimum frame. -/
def State.spanFrame (s : State) (unit cls sender : Nat) (pay : List Nat) : List Nat :=
  let hd := bigEnd 6 (s.unitMac unit) ++ bigEnd 6 (s.unitMac s.selfUnit) ++ [0x88, 0xB6] ++
    [0x10 + cls % 16, sender % 4 * 64] ++ bigEnd 2 s.selfUnit ++ bigEnd 2 (unit % 2 ^ 14) ++ bigEnd 2 pay.length
  let body := hd ++ pay
  withFcs (body ++ List.replicate (60 - body.length) 0 ++ [0, 0, 0, 0])

/-- The mark of a bridge's frame in a host port's transmit path: it is no VI's. -/
def bridgeVi : Nat := 128

/-- Frames a host port has fetched, or the bridge has given it, and the fabric has not accepted. -/
def State.hostTx (s : State) (h : Half) : List HostFrame := if h = .a then s.hostTxA else s.hostTxB
def State.setHostTx (s : State) (h : Half) (l : List HostFrame) : State :=
  if h = .a then { s with hostTxA := l } else { s with hostTxB := l }

/-- A Span frame leaves through a half's host port (R488). -/
def State.spanSend (s : State) (h : Half) (unit cls sender : Nat) (pay : List Nat) : State :=
  s.setHostTx h (s.hostTx h ++ [⟨bridgeVi, 0, [], s.spanFrame unit cls sender pay⟩])

/-- EtherTypes the host ports take before the receive path: Span frames and the service protocol (R489, R595). -/
def ownType (l : List Nat) : Bool := etherType l == 0x88B6 || etherType l == 0x88B5

/-- Whether a frame is a Bark frame: a Span frame of VER 1 and class BARK (R506, R507). -/
def isBark (l : List Nat) : Bool := etherType l == 0x88B6 && l.getD (payloadAt l) 0 == 0x11

/-- Frames delivered to a host port and not yet taken from it. -/
def State.hostRx (s : State) (h : Half) : List RxItem := if h = .a then s.hostRxA else s.hostRxB
def State.setHostRx (s : State) (h : Half) (l : List RxItem) : State :=
  if h = .a then { s with hostRxA := l } else { s with hostRxB := l }

end Sys2Proof.Machine
end

