-- ==== Sys2Proof/Machine/Holds.lean ====
section
/-! DEFINITION. Hold instants on the sense converters: which are taken, the earliest free one, and the start of an
inrush capture (R234 to R236, R244). -/

namespace Sys2Proof.Machine

/-- The record of converter t. -/
def State.adc (s : State) (t : Nat) : Adc := Tbl.get {} s.adcs t

/-- The state with the record of converter t set. -/
def State.setAdc (s : State) (t : Nat) (a : Adc) : State := { s with adcs := Tbl.set {} s.adcs t a }

/-- CAP_STAT.STATE of converter t: 0 IDLE, 1 ARMED, 2 RUNNING, 3 DONE (R252). -/
def State.capState (s : State) (t : Nat) : Nat := s.fld (sadcBase t + Reg.Sadc.CAP_STAT) 0 2

/-- Hold instants of placed SAMPLE events on converter t (R235): fixed at their placement. -/
def State.placedHolds (s : State) (t : Nat) : List Nat :=
  (s.placed.filter (fun q => !q.late && evAction q.w1 == 7 && evTarget q.w1 / 2 ^ 14 == 0 &&
    bitsOf q.w1 8 3 == t)).map (·.inst)

/-- Holds taken on converter t: those assigned, the last one held, and with `placed` those of placed SAMPLE events. -/
def State.takenHolds (s : State) (t : Nat) (placed : Bool) : List Nat :=
  (s.adc t).holds.map (·.t) ++ (s.adc t).last.toList ++ (if placed then s.placedHolds t else [])

/-- The earliest instant from `x` on that keeps 500 ns from every taken hold; while a capture runs, one of its free
slots t0 + k µs + 500 ns (R235). -/
def earliestHold (taken : List Nat) (cap : Option Nat) : Nat → Nat → Nat
  | 0, x => x
  | fuel + 1, x =>
    let x := match cap with
      | some t0 =>
        if t0 + 4095 * 1000 + 500 ≤ x ∨ x + 500 ≤ t0 then x
        else t0 + 500 + (x - t0 + 499) / 1000 * 1000
      | none => x
    match taken.find? (fun h => decide (h < x + 500 ∧ x < h + 500)) with
    | some h => earliestHold taken cap fuel (h + 500)
    | none => x

/-- t0 of the capture running on converter t. -/
def State.capT0 (s : State) (t : Nat) : Option Nat := if s.capState t = 2 then some (s.adc t).t0 else none

/-- The earliest free hold of converter t from instant `x` on. -/
def State.freeHold (s : State) (t x : Nat) (placed : Bool) : Nat :=
  let taken := s.takenHolds t placed
  earliestHold taken (s.capT0 t) (taken.length + 2) x

/-- A hold enters the list in the order of its instant. -/
def insertHold (h : Hold) : List Hold → List Hold
  | [] => [h]
  | x :: xs => if h.t < x.t then h :: x :: xs else x :: insertHold h xs

/-- A hold is assigned on converter t. -/
def State.assign (s : State) (t : Nat) (h : Hold) : State :=
  s.setAdc t { s.adc t with holds := insertHold h (s.adc t).holds }

/-- A line suppressed or delayed, or a conversion slipped, counts in SLIP_CNT (R130, R138, R146). -/
def State.slip (s : State) : State := ((s.count (hrnBase + Reg.Hrn.SLIP_CNT)).raise hrnBase 18).ev 0xC3 0

/-- A SAMPLE on a sense ADC (R138, R235): a placed one holds at its instant, or at the end of the conversion in
progress when the converter is busy, which SLIP_CNT counts; an unplaced one takes the earliest free hold 400 ns on. The
slip of a LATE one counts from the instant it was projected for; one that had none has a slip the spec leaves open. -/
def State.sampleOn (s : State) (t sel ev inst : Nat) (late : Bool) (proj : Option Nat) : State :=
  let h := s.freeHold t (if late then inst + 400 else inst) late
  let r : Nat × State := if !late then (h - inst, s) else match proj with
    | some p => (h - p, s)
    | none => s.fresh
  let s := r.2.onlyIf (!late && h != inst) State.slip
  s.assign t { t := h, sel := sel, origin := 0, ev := ev, slip := r.1 }

/-- Whether a background scan converts a quantity now: a channel's current by BG_I_EN, its VOUT also by BG_V_EN, every
other quantity always (R236). -/
def State.bgWanted (s : State) (q : Nat × Nat) : Bool :=
  let k := chanBase q.2 + Reg.Chan.MEAS_CFG
  if q.1 < 16 then s.bit k 2 else if q.1 = 0x10 then s.bit k 2 && s.bit k 3 else true

/-- The quantities of a scan of converter t, in order (R236). -/
def bgAll (t : Nat) : List (Nat × Nat) :=
  (List.range 16).flatMap (fun c => [(c, 16 * t + c), (0x10, 16 * t + c), (0x11, 16 * t + c)]) ++
    [(0x12, 16 * t), (0x13, 16 * t), (0x16, 16 * t)]

/-- The next quantity of a background scan gets its hold, 400 ns on or more (R234), at least 500 ns before every hold of a placed SAMPLE and of a
capture (R235, R236); none starts while a capture runs. The scan ends when none is left. -/
def State.bgNext (s : State) (t : Nat) : State :=
  let a := s.adc t
  if s.capState t = 2 || a.holds.any (·.origin == 1) then s
  else
    match a.bg.dropWhile (fun q => !s.bgWanted q) with
    | [] => (s.setAdc t { a with bg := [] }).setBit (sadcBase t + Reg.Sadc.SADC_STAT) 6 false
    | (sel, c) :: rest =>
      let from_ := match a.last with
        | some l => max (l + 500) (s.tb0.nsTotal + 400)
        | none => s.tb0.nsTotal + 400
      let h := s.freeHold t from_ true
      if (s.placedHolds t ++ (a.holds.filter (·.origin == 0)).map (·.t)).all (fun x => decide (h + 500 ≤ x)) then
        (s.setAdc t { a with bg := rest }).assign t { t := h, sel := sel, chan := some c, origin := 1 }
      else s

/-- A capture of converter t starts with its first hold at `t0` (R244); holds in its way take free slots (R235), which for a
SAMPLE is a slip more (R138). -/
def State.capStart (s : State) (t t0 : Nat) : State :=
  let a := s.adc t
  let st := sadcBase t + Reg.Sadc.CAP_STAT
  let s := (s.setFld st 0 2 2).setBit (sadcBase t + Reg.Sadc.SADC_STAT) 5 true
  let s := s.stamp (sadcBase t + Reg.Sadc.CAP_TS_LO) (sadcBase t + Reg.Sadc.CAP_TS_HI) (Clock.ofT16 (t0 * 2 ^ 16))
  let s := s.setAdc t { a with
    holds := [], t0 := t0, samples := [],
    bg := (a.holds.filter (·.origin == 1)).map (fun h => (h.sel, h.chan.getD 0)) ++ a.bg }
  s.each (a.holds.filter (·.origin != 1)) (fun s h =>
    let t' := s.freeHold t h.t false
    let s := s.onlyIf (h.origin == 0 && t' != h.t) State.slip
    s.assign t { h with t := t', slip := if h.origin = 0 then h.slip + (t' - h.t) else 0 })

/-- An IMMEDIATE capture starts: its first hold 400 ns on and clear of the last hold (R234, R244). -/
def State.capNow (s : State) (t : Nat) : State :=
  let x := s.tb0.nsTotal + 400
  s.capStart t (match (s.adc t).last with | some l => max x (l + 500) | none => x)

/-- CKG5 closes or opens: the capture engines stand still meanwhile (R317). A capture that was running goes on where it
stood; one armed IMMEDIATE meanwhile starts. -/
def State.capClock (s : State) (on : Bool) : State :=
  let now := s.tb0.nsTotal
  match on, s.capGate with
  | false, none => { s with capGate := some now }
  | true, some g =>
    { s with capGate := none }.each (List.range 8) (fun s t =>
      let a := s.adc t
      if s.capState t = 2 then s.setAdc t { a with t0 := a.t0 + (now - g) }
      else if s.capState t = 1 && a.capImm then s.capNow t
      else s)
  | _, _ => s

/-- A 0-to-1 change of channel n's line in the level image: the trigger of an armed IN_RISE capture of the channel
(R244). -/
def State.capEdge (s : State) (n inst : Nat) : State :=
  let t := n / 16
  if !s.gated 5 && s.capState t = 1 && s.fld (sadcBase t + Reg.Sadc.CAP_STAT) 4 4 == n % 16 && !(s.adc t).capImm then s.capStart t inst
  else s

end Sys2Proof.Machine
end

