-- ==== Sys2Proof/Machine/Lines.lean ====
section
/-! DEFINITION. What the actions of events reach: IN lines and the level image, launch gates, timed outputs, event
interrupts and chains; line writes; and the compatibility pulse block (R129 to R144). -/

namespace Sys2Proof.Machine

/-! ## IN lines -/

/-- 6.4 ns in units of 2^-16 ns, rounded up (R130). -/
def lineGap : Nat := 419431

/-- STATE of a tile's Leash as the tile holds it (R180). -/
def State.leashState (s : State) (t : Nat) : Nat := s.fld (bank 2 (tileBase t + Reg.Tile.LEASH_STAT)) 18 3

/-- A line's edge leaves Huarneel at `t16` (R130, R131): recorded, on its way to the tile, counted in STAY_EDGES while
the tile refuses IN edges (R134). -/
def State.emitLine (s : State) (n : Nat) (lv : Bool) (t16 : Nat) : State :=
  let s := { s with lineLast := Tbl.set 0 s.lineLast n (t16 + 1), inFlight := s.inFlight ++ [(n, lv)] }
  let s := (s.emit (.inLine n lv t16)).ev 0xD8 (n / 16)
  s.onlyIf (s.leashState (n / 16) != 1)
    (fun s => ((s.count (hrnBase + Reg.Hrn.STAY_EDGES)).raise hrnBase 19).ev 0xC4 0)

/-- The level image of line n set (R132); a 0-to-1 change triggers an armed capture (R244). -/
def State.setLevel (s : State) (n : Nat) (lv : Bool) (inst : Nat) : State :=
  (s.setBit (hrnBase + Reg.Hrn.LEVEL + 4 * (n / 32)) (n % 32) lv).onlyIf (lv && !s.level n) (·.capEdge n inst)

/-- Whether another action follows a change of line n at `inst`, so that the change never leaves Huarneel: a placed one less
than 6.4 ns on (R130), or, for the change of an action of this tick, a LATE one that executes at the same tick (R129). -/
def State.overrun (s : State) (n inst : Nat) (act : Bool) : Bool :=
  s.placed.any (fun q => q.lines.any (fun l => l.1 == n &&
    (if q.late then act && decide (inst = s.tb0.nsTotal ∧ l.2 ≤ inst)
     else decide (inst ≤ l.2 ∧ (l.2 - inst) * 2 ^ 16 < lineGap))))

/-- The record of tile t. -/
def State.tile (s : State) (t : Nat) : Tile := Tbl.get {} s.tiles t

/-- The level Huarneel last put on line n: that of its last edge under way, else the level at the tile. -/
def State.lineNow (s : State) (n : Nat) : Bool :=
  match s.inFlight.reverse.find? (fun e => e.1 == n) with
  | some e => e.2
  | none => (s.tile (n / 16)).inLv.testBit (n % 16)

/-- A line put at a level at an instant in ns, no sooner than 6.4 ns after its last change, which SLIP_CNT counts
(R130). -/
def State.putLine (s : State) (n : Nat) (lv : Bool) (inst : Nat) : State :=
  if s.lineNow n == lv then s
  else
    let last := Tbl.get 0 s.lineLast n
    let t := inst * 2 ^ 16
    if last != 0 && decide (t < last - 1 + lineGap) then (s.emitLine n lv (last - 1 + lineGap)).slip
    else s.emitLine n lv t

/-- An action (`act`) or a command drives line n to a level at an instant in ns (R129, R130, R132). A change that a placed one
follows within 6.4 ns is not emitted. A line already at the level does not change. -/
def State.driveLine (s : State) (n : Nat) (lv : Bool) (inst : Nat) (act : Bool) : State :=
  let was := s.level n
  let s := s.setLevel n lv inst
  if was != lv && s.overrun n inst act then s.slip else s.putLine n lv inst

/-- R132: whether a channel's page passes R34 for an access with the writer's own world, VI and half. -/
def State.lineOk (s : State) (acc : Access) (n : Nat) : Bool :=
  let o := s.rd (chanBase n + Reg.Hdr.OWNER)
  worldOk o acc && viOk o acc && (match acc.master with | .half h => s.halfOk o h | .shep => s.spMayWrite o)

/-- A LINE_SET or LINE_CLR write: each named channel that passes R132 is driven at the next tick, the others count in
OWNER_FAIL. -/
def lineWrite (acc : Access) (w : Nat) (lv : Bool) (v : Word) (s : State) : State :=
  s.each ((List.range 32).filter (fun i => bitOf v i)) (fun s i =>
    let n := 32 * w + i
    if s.lineOk acc n then s.driveLine n lv s.tb0.nsTotal false else s.ownerFail)

def execLineSet (acc : Access) (w : Fin 4) (v : Word) (s : State) : Host.Outcome State Fault Refusal :=
  .next (s.write acc 4 (hrnBase + Reg.Hrn.LINE_SET + 4 * w.val) v (fun acc => lineWrite acc w.val true v))

def execLineClr (acc : Access) (w : Fin 4) (v : Word) (s : State) : Host.Outcome State Fault Refusal :=
  .next (s.write acc 4 (hrnBase + Reg.Hrn.LINE_CLR + 4 * w.val) v (fun acc => lineWrite acc w.val false v))

/-! ## Gates -/

/-- Bits of GATE_STATEw that stand for a port 0 to 28 (R147). -/
def gateMask (w : Nat) : Word := if w = 7 then 0xFF else 0xFFFFFFFF

/-- State of the gate of queue q of port p: open. -/
def State.gateOpen (s : State) (p q : Nat) : Bool := s.bit (hrnBase + Reg.Hrn.GATE_STATE + 4 * (p / 4)) (8 * (p % 4) + q)

/-- A frame in transmission whose gate is closed and obeyed is marked: it completes and then counts (R379). -/
def State.markOver (s : State) : State :=
  let shut (c : Copy) : Bool :=
    c.begun && s.bit (eqBase c.port + Reg.Eq.QCFG + 0x40 * c.q) 15 && !s.gateOpen c.port c.q
  { s with frames := s.frames.map (fun (f : Frame) =>
    { f with copies := f.copies.map (fun (c : Copy) => { c with overran := c.overran || shut c }) }) }

/-- A software write of GATE_STATE; a gate that an action has set in the same tick keeps what the action gave it (R136). -/
def gateWrite (w : Nat) (v : Word) (s : State) : State :=
  let k := hrnBase + Reg.Hrn.GATE_STATE + 4 * w
  let acts := (s.gateActs.filter (fun g => g / 32 == w)).map (· % 32)
  (s.wr k (acts.foldl (fun x b => setBit x b (s.bit k b)) (v &&& gateMask w))).markOver

def execGateStateWrite (acc : Access) (w : Fin 8) (v : Word) (s : State) : Host.Outcome State Fault Refusal :=
  .next (s.write acc 4 (hrnBase + Reg.Hrn.GATE_STATE + 4 * w.val) v (fun _ => gateWrite w.val v))

/-- A gate set by an action (R136). -/
def State.setGate (s : State) (p q : Nat) (b : Bool) : State :=
  { s with gateActs := (8 * p + q) :: s.gateActs }.setBit (hrnBase + Reg.Hrn.GATE_STATE + 4 * (p / 4)) (8 * (p % 4) + q) b
    |>.markOver

/-! ## The compatibility pulse block -/

/-- Key of a register of timed output k. -/
def toReg (k off : Nat) : Nat := tpoBase + off + 0x40 * k

/-- Event index of slot j of output k (R142). -/
def slotEvt (k j : Nat) : Nat := 4064 + 4 * k + j

/-- ARG of a pulse of a width in ns (R142): 1 ns below 16,384 ns, 1 µs below 16,384,000 ns, else 1 ms, rounded to
nearest. -/
def widthArg (w : Nat) : Nat :=
  if w < 16384 then w
  else if w < 16384000 then 2 ^ 14 + min 16383 ((w + 500) / 1000)
  else 2 ^ 15 + min 16383 ((w + 500000) / 1000000)

/-- Arming slot j writes its entry (R142). -/
def State.armSlot (s : State) (k j : Nat) : State :=
  let i := slotEvt k j
  let ns := s.fld (toReg k (Reg.Tpo.SLOT0_NS + 8 * j)) 0 30
  let s := s.wrN (evtWord i 0) ((ns * 2 ^ 33 + 1000000000) / 2000000000)
  let s := s.wr (evtWord i 2) (s.rd (toReg k (Reg.Tpo.SLOT0_SEC + 8 * j)))
  let s := s.wrN (evtWord i 3) (widthArg (s.fld (toReg k Reg.Tpo.TO_WIDTH) 0 30) * 2 ^ 16 + 1)
  s.wrN (evtWord i 1) (2 ^ 31 + 6 * 2 ^ 22 + 2 ^ 20 + k)

/-- TO_STAT as it reads: ARMED mirrors the entries (R151). -/
def State.toStat (s : State) (k : Nat) : Word :=
  setBits (s.rd (toReg k Reg.Tpo.TO_STAT)) 0 4
    ((List.range 4).foldl (fun a j => a + b2n (evArm (s.rd (evtWord (slotEvt k j) 1))) * 2 ^ j) 0)

/-- TO_CTRL.ARM (R142): a slot whose occurrence is placed is handled as a commit (R123). -/
def toArm (k : Nat) (v : Word) (s : State) : State :=
  s.each ((List.range 4).filter (fun j => bitOf v j)) (fun s j =>
    ((s.armSlot k j).commitPlaced (slotEvt k j)).showPlaced (slotEvt k j))

/-- TO_CTRL.DISARM (R151). -/
def toDisarm (k : Nat) (v : Word) (s : State) : State :=
  s.each ((List.range 4).filter (fun j => bitOf v (4 + j))) (fun s j =>
    ((s.setArm (slotEvt k j) false).commitPlaced (slotEvt k j)).showPlaced (slotEvt k j))

/-- A write of TO_CTRL: PERIODIC stored, the slots of DISARM disarmed, then those of ARM armed (R151). -/
def toCtrlWrite (k : Nat) (v : Word) (s : State) : State :=
  toArm k v (toDisarm k v (s.setBit (toReg k Reg.Tpo.TO_CTRL) 8 (bitOf v 8)))

def execToArm (acc : Access) (k : Fin 8) (v : Word) (s : State) : Host.Outcome State Fault Refusal :=
  .next (s.write acc 4 (toReg k.val Reg.Tpo.TO_CTRL) v (fun _ => toCtrlWrite k.val v))

def execToDisarm (acc : Access) (k : Fin 8) (v : Word) (s : State) : Host.Outcome State Fault Refusal :=
  .next (s.write acc 4 (toReg k.val Reg.Tpo.TO_CTRL) v (fun _ => toCtrlWrite k.val v))

/-- After an execution of a slot: DONE, TPO_DONE, and with PERIODIC the slot's time advanced by TO_PERIOD, below
10,000 ns taken as 10,000 ns, and the slot armed again (R143, R146), but where it was armed or disarmed meanwhile, which then
stands (R123). -/
def State.slotDone (s : State) (i : Nat) (replaced : Bool) : State :=
  let k := (i - 4064) / 4
  let j := (i - 4064) % 4
  let s := ((s.setBit (toReg k Reg.Tpo.TO_STAT) (8 + j) true).raise hrnBase 22).ev 0xDA k
  let per := s.rdN (toReg k Reg.Tpo.TO_PERIOD)
  if s.bit (toReg k Reg.Tpo.TO_CTRL) 8 && per != 0 && !replaced then
    let t := s.rdN (toReg k (Reg.Tpo.SLOT0_SEC + 8 * j)) * 1000000000 + s.fld (toReg k (Reg.Tpo.SLOT0_NS + 8 * j)) 0 30
      + max 10000 per
    let s := s.wrN (toReg k (Reg.Tpo.SLOT0_SEC + 8 * j)) (t / 1000000000)
    let s := s.wrN (toReg k (Reg.Tpo.SLOT0_NS + 8 * j)) (t % 1000000000)
    s.armSlot k j
  else s

/-! ## Timed outputs -/

/-- The level of TOk (R139, R151): idle unless a pulse runs and OUT_EN allows it; POL makes it active low. -/
def State.toLevel (s : State) (k : Nat) : Bool :=
  ((Tbl.get none s.toEnd k).isSome && s.bit (tpoBase + Reg.Tpo.GCFG) (8 + k)) != s.bit (tpoBase + Reg.Tpo.GCFG) k

/-- The edge of TOk where a change of the state moved its level. -/
def State.toEdge (s : State) (was : State) (k : Nat) : State :=
  s.onlyIf (s.toLevel k != was.toLevel k) (·.emit (.toLine k (s.toLevel k)))

/-- The end of output k's pulse set or cleared; a change of its level is emitted. -/
def State.setPulse (s : State) (k : Nat) (e : Option Nat) : State :=
  { s with toEnd := Tbl.set none s.toEnd k e }.toEdge s k

/-- Width of a PULSE in ns by its ARG (R117). -/
def pulseWidth (arg : Nat) : Nat :=
  max 1 (arg % 2 ^ 14) * (if arg / 2 ^ 14 = 0 then 1 else if arg / 2 ^ 14 = 1 then 1000 else 1000000)

/-- The pulse width of TOk expires: the output returns to idle (R139). -/
def pulseEnd (k : Nat) (s : State) : State :=
  match Tbl.get none s.toEnd k with
  | some e => if e ≤ s.tb0.nsTotal then s.setPulse k none else s
  | none => s

def execPulseEnd (k : Fin 8) (s : State) : Host.Outcome State Fault Refusal := .next (pulseEnd k.val s)

/-! ## Executing an occurrence -/

/-- The instant an occurrence whose time has come executes at, in whole ns: a LATE one's is the present tick (R129). -/
def State.actAt (s : State) (q : Placed) : Nat := if q.late then s.tb0.nsTotal else q.inst

/-- Whether an occurrence comes before another in the order of execution (R129). -/
def State.actsBefore (s : State) (r q : Placed) : Bool :=
  decide (s.actAt r < s.actAt q ∨ (s.actAt r = s.actAt q ∧ r.idx < q.idx))

/-- The occurrence of event i on its way with an action of the given kind, if its instant has come and none that has come
goes before it (R129). -/
def State.dueAct (s : State) (i a : Nat) : Option Placed :=
  let due := s.placed.filter (fun q => decide (q.inst ≤ s.tb0.nsTotal))
  due.find? (fun q => q.idx == i && evAction q.w1 == a && !due.any (fun r => s.actsBefore r q))

/-- An occurrence has executed: it leaves the path; R122, or R123 where a commit replaced the entry meanwhile; a
compatibility slot is done (R143). -/
def State.finishAct (s : State) (q : Placed) : State :=
  let s := { s with placed := s.placed.filter (fun (p : Placed) => !(p.idx == q.idx && p.inst == q.inst && p.late == q.late)) }
  let s := (s.showPlaced q.idx).ev 0xC0 0
  let s := s.afterAct q.idx q.replaced
  s.onlyIf (isCompat q.idx) (·.slotDone q.idx q.replaced)

/-- Execution of an occurrence: a LATE one is checked for ownership again and disarmed where that fails (R120). -/
def State.runAct (s : State) (i a : Nat) (f : State → Placed → State) : State :=
  match s.dueAct i a with
  | none => s
  | some q =>
    if q.late && !s.evOwnerOk i q.w1 then
      ({ s with placed := s.placed.filter (fun (p : Placed) => !(p.idx == i && p.late)) }.setArm i false).ownerFail
    else f s q

/-- The level an action gives a line. -/
def State.actLevel (s : State) (a n : Nat) : Bool := if a = 1 then true else if a = 2 then false else !s.level n

/-- SET, CLEAR or TOGGLE: every line whose own instant has come is driven; the occurrence has executed when none is
left (R129, R132, R133). -/
def lineAct (a i : Nat) (s : State) : State :=
  s.runAct i a (fun s q =>
    let now := s.tb0.nsTotal
    let due := q.lines.filter (fun l => decide (l.2 ≤ now))
    let rest := q.lines.filter (fun l => !decide (l.2 ≤ now))
    let q' : Placed := { q with lines := rest, inst := if rest.isEmpty then q.inst else rest.foldl (fun m l => min m l.2) (q.inst + 2 ^ 17) }
    let s := { s with placed := s.placed.map (fun (p : Placed) => if p.idx == i && p.inst == q.inst && p.late == q.late then q' else p) }
    let s := s.each due (fun s l => s.driveLine l.1 (s.actLevel a l.1) (if q.late then now else l.2) true)
    if rest.isEmpty then s.finishAct q' else s)

def execActionSet (i : Fin 4096) (s : State) : Host.Outcome State Fault Refusal := .next (lineAct 1 i.val s)
def execActionClear (i : Fin 4096) (s : State) : Host.Outcome State Fault Refusal := .next (lineAct 2 i.val s)
def execActionToggle (i : Fin 4096) (s : State) : Host.Outcome State Fault Refusal := .next (lineAct 3 i.val s)

/-- Whether another action on the same gate executes at the same instant after this one and so determines the result
(R129). -/
def State.gateOver (s : State) (q : Placed) : Bool :=
  s.placed.any (fun r => decide (r.inst ≤ s.tb0.nsTotal ∧ q.idx < r.idx) && s.actAt r == s.actAt q &&
    (evAction r.w1 == 4 || evAction r.w1 == 5) && evTarget r.w1 == evTarget q.w1)

/-- An action sets a gate. -/
def State.actGate (s : State) (q : Placed) (b : Bool) : State :=
  s.onlyIf (!s.gateOver q) (·.setGate (bitsOf q.w1 8 5) (bitsOf q.w1 0 3) b)

/-- OPEN (R136). -/
def openAct (i : Nat) (s : State) : State :=
  s.runAct i 4 (fun s q => ((s.actGate q true).ev 0xCD 0).finishAct q)

def execActionOpen (i : Fin 4096) (s : State) : Host.Outcome State Fault Refusal := .next (openAct i.val s)

/-- PULSE (R139): active until its instant plus its width; a running pulse restarts from this instant. -/
def pulseAct (i : Nat) (s : State) : State :=
  s.runAct i 6 (fun s q =>
    (s.setPulse (evTarget q.w1 % 8) (some (q.inst + pulseWidth (bitsOf q.w3 16 16)))).finishAct q)

def execActionPulse (i : Fin 4096) (s : State) : Host.Outcome State Fault Refusal := .next (pulseAct i.val s)

/-- IRQ (R140): sets the line's bit; its rise takes the counter snapshots that select it (R535). -/
def irqAct (i : Nat) (s : State) : State :=
  s.runAct i 8 (fun s q =>
    let k := evTarget q.w1 % 32
    let was := s.bit (hrnBase + Reg.Hrn.EVIRQ_RAW) k
    let s := (s.setBit (hrnBase + Reg.Hrn.EVIRQ_RAW) k true).evirqRaise
    ((s.ev 0xC7 k).onlyIf (!was) (·.evirqSnap k)).finishAct q)

def execActionIrq (i : Fin 4096) (s : State) : Host.Outcome State Fault Refusal := .next (irqAct i.val s)

/-- CHAIN (R141): arms its target and binds it; an armed target is not changed. -/
def chainAct (i : Nat) (s : State) : State :=
  s.runAct i 9 (fun s q =>
    let j := evTarget q.w1 % 4096
    (s.onlyIf (!evArm (s.rd (evtWord j 1))) (fun s => (s.setArm j true).bind j)).finishAct q)

def execActionChain (i : Fin 4096) (s : State) : Host.Outcome State Fault Refusal := .next (chainAct i.val s)

end Sys2Proof.Machine
end

