-- ==== Sys2Proof/Machine/TclFrames.lean ====
section
/-! DEFINITION. Frames of a tile's configuration link as octets: the preamble, the header and fields of requests and replies,
and the CRC-16 that both sides check (R167 to R171, R173). -/

namespace Sys2Proof.Machine

/-- One octet folded into the CRC-16 of R167: polynomial 0x1021, most significant bit first. -/
def crc16Byte (c b : Nat) : Nat :=
  (List.range 8).foldl (fun (x _ : Nat) => if x.testBit 15 then (x * 2) % 2 ^ 16 ^^^ 0x1021 else x * 2 % 2 ^ 16)
    (c ^^^ b % 256 * 256)

/-- The CRC-16 of a frame's octets after its preamble: initial value 0xFFFF, nothing inverted (R167). -/
def crc16 (l : List Nat) : Nat := l.foldl crc16Byte 0xFFFF

/-- A frame on the link: the preamble 0x55, the octets, the CRC low octet first (R167). -/
def tclSeal (l : List Nat) : List Nat := 0x55 :: (l ++ littleEnd 2 (crc16 l))

/-- The octets between preamble and CRC, or none where the CRC is not theirs. -/
def tclOpen (l : List Nat) : Option (List Nat) :=
  let d := (l.drop 1).take (l.length - 3)
  if l = tclSeal d then some d else none

/-- A little-endian number in `n` octets from octet `i`. -/
def le (l : List Nat) (i n : Nat) : Nat := (List.range n).foldl (fun (a k : Nat) => a + l.getD (i + k) 0 * 256 ^ k) 0

/-! ## Requests (R168, R169) -/

/-- Octets of a request after its header, by its TYPE. -/
def TclReq.body (q : TclReq) : List Nat :=
  match q.type with
  | 4 => [q.unit, q.reg] ++ littleEnd 4 q.data.toNat
  | 5 => [q.unit, q.reg]
  | 7 => littleEnd 2 q.key
  | _ => q.tail

/-- A request frame. -/
def TclReq.octets (q : TclReq) : List Nat :=
  tclSeal ([q.type * 16 + q.seq, q.src * 64 + q.low] ++ littleEnd 2 q.claim ++ q.body)

/-- Octets between header and CRC that a request's TYPE requires; a reserved TYPE requires none (log entry 90). -/
def reqBody (type : Nat) : Option Nat :=
  if type = 0 ∨ 7 < type then none else some (if type = 4 then 6 else if type = 5 ∨ type = 7 then 2 else 0)

/-- The request that a frame spells; none where its CRC or its length is wrong (R171). -/
def tclRequest (l : List Nat) : Option TclReq :=
  match tclOpen l with
  | none => none
  | some d =>
    let type := d.getD 0 0 / 16
    let n := d.length - 4
    if d.length < 4 ∨ (reqBody type).any (· != n) then none
    else
      let q : TclReq := { type := type, seq := d.getD 0 0 % 16, src := d.getD 1 0 / 64, claim := le d 2 2, low := d.getD 1 0 % 64 }
      some (match type with
        | 4 => { q with unit := d.getD 4 0, reg := d.getD 5 0, data := word (le d 6 4) }
        | 5 => { q with unit := d.getD 4 0, reg := d.getD 5 0 }
        | 7 => { q with key := le d 4 2 }
        | _ => { q with tail := d.drop 4 })

/-! ## Replies (R170) -/

/-- Octets of a reply after its header, by its TYPE. -/
def TclRep.body (r : TclRep) : List Nat :=
  match r.type with
  | 9 => littleEnd 2 r.out
  | 12 => [r.reason, r.refType]
  | _ => [r.unit, r.reg] ++ littleEnd 4 r.data.toNat

/-- A reply frame. -/
def TclRep.octets (r : TclRep) : List Nat :=
  tclSeal ([r.type * 16 + r.seq, r.holder * 8 + r.state] ++ littleEnd 2 r.cur ++ r.body)

/-- Whether a reply that began is valid at its end, by its CRC and the length of its TYPE (R173). A reserved TYPE has no length
and is not valid. -/
def tclReplyGood (l : List Nat) : Bool :=
  (tclOpen l).any (fun d =>
    let type := d.getD 0 0 / 16
    ((type == 9 || type == 12) && d.length == 6) || ((type == 10 || type == 11) && d.length == 10))

end Sys2Proof.Machine
end

