-- ==== Sys2Proof/Machine/Tile.lean ====
section
/-! DEFINITION. Inside a drive tile: channel sources and conduction, trips, latches and the restart rule, diagnostics,
FAULT_N, the Leash, and what a tile does with every request frame and event of its own (R152 to R220). -/

namespace Sys2Proof.Machine

/-! ## Tile-held content -/

/-- The state with the record of tile t set. -/
def State.setTile (s : State) (t : Nat) (m : Tile) : State := { s with tiles := Tbl.set {} s.tiles t m }

/-- The record of channel n inside its tile. -/
def State.chan (s : State) (n : Nat) : ChanT := Tbl.get {} s.chans n

/-- The state with the record of channel n set. -/
def State.setChan (s : State) (n : Nat) (m : ChanT) : State := { s with chans := Tbl.set {} s.chans n m }

/-- Key of the tile's own copy of a register of channel n. -/
def tk (n off : Nat) : Nat := bank 2 (chanBase n + off)

/-- Key of the tile's own copy of a register of tile t. -/
def tt (t off : Nat) : Nat := bank 2 (tileBase t + off)

/-- STATE, HOLDER and CUR of a tile's Leash (R176, R196). -/
def State.leashHolder (s : State) (t : Nat) : Nat := s.fld (tt t Reg.Tile.LEASH_STAT) 16 2
def State.leashCur (s : State) (t : Nat) : Nat := s.fld (tt t Reg.Tile.LEASH_STAT) 0 16

/-- The Leash set (R196). -/
def State.setLeash (s : State) (t cur holder state : Nat) : State :=
  s.wrN (tt t Reg.Tile.LEASH_STAT) (cur % 2 ^ 16 + holder % 4 * 2 ^ 16 + state % 8 * 2 ^ 18)

/-- The mapped LH level of channel n after LH_INV (R188). -/
def State.lhLevel (s : State) (n : Nat) : Bool :=
  let pol := s.rd (tk n Reg.Chan.CH_POL_ACT)
  (s.tile (n / 16)).lh.testBit (bitsOf pol 4 4) != bitOf pol 8

/-- Source level of channel n (R178, R180, R184, R187, R188). -/
def State.srcLevel (s : State) (n : Nat) : Bool :=
  let m := s.tile (n / 16)
  let c := n % 16
  let pol := s.rd (tk n Reg.Chan.CH_POL_ACT)
  if !m.powered then false
  else
    match m.latch with
    | some l => l.testBit c
    | none =>
      match s.leashState (n / 16) with
      | 1 => m.inLv.testBit c
      | 2 => m.stay.testBit c
      | 3 =>
        match bitsOf pol 0 2 with
        | 0 => m.stay.testBit c
        | 1 => false
        | 2 => true
        | _ => s.lhLevel n
      | 4 =>
        match bitsOf pol 2 2 with
        | 1 => m.park.testBit c
        | 2 => s.lhLevel n
        | _ => false
      | _ => false

/-- Source levels of a tile's channels, OUT of a STATUS reply (R170). -/
def State.outWord (s : State) (t : Nat) : Nat :=
  (List.range 16).foldl (fun a c => a + b2n (s.srcLevel (16 * t + c)) * 2 ^ c) 0

/-- CH_STAT.SRC of channel n as the tile stands (R200). -/
def State.srcCode (s : State) (n : Nat) : Nat :=
  let pol := s.rd (tk n Reg.Chan.CH_POL_ACT)
  if !s.bit (tk n Reg.Chan.CH_CFG) 0 then 0
  else if (s.tile (n / 16)).latch.isSome then 3
  else
    match s.leashState (n / 16) with
    | 1 => 2
    | 2 => 3
    | 3 => if bitsOf pol 0 2 = 3 then 6 else 4
    | 4 => if bitsOf pol 2 2 = 2 then 6 else 5
    | _ => 1

/-- OC_LATCH, TH_LATCH, LOCKOUT, HOT, RESTART_PEND and RETRY_LEFT of channel n in its tile (R209, R228). -/
def State.ocLatch (s : State) (n : Nat) : Bool := s.bit (tk n Reg.Chan.DIAG_HIST) 8
def State.thLatch (s : State) (n : Nat) : Bool := s.bit (tk n Reg.Chan.PROT_STAT) 3
def State.lockout (s : State) (n : Nat) : Bool := s.bit (tk n Reg.Chan.PROT_STAT) 4
def State.hot (s : State) (n : Nat) : Bool := s.bit (tk n Reg.Chan.PROT_STAT) 5
def State.restartPend (s : State) (n : Nat) : Bool := s.bit (tk n Reg.Chan.PROT_STAT) 6
def State.retryLeft (s : State) (n : Nat) : Nat := s.fld (tk n Reg.Chan.PROT_STAT) 8 4

/-- Bits of PROT_STAT and DIAG_HIST set in the tile. -/
def State.setPs (s : State) (n i : Nat) (b : Bool) : State := s.setBit (tk n Reg.Chan.PROT_STAT) i b
def State.setDh (s : State) (n i : Nat) (b : Bool) : State := s.setBit (tk n Reg.Chan.DIAG_HIST) i b

/-- The conditions for conduction (R158, R210). -/
def State.mayConduct (s : State) (n : Nat) : Bool :=
  s.bit (tk n Reg.Chan.CH_CFG) 0 && s.srcLevel n && !s.ocLatch n && !s.thLatch n && !s.lockout n

/-- PROT by the first row of R214 that holds. -/
def State.protCode (s : State) (n : Nat) : Nat :=
  let latched := s.ocLatch n || s.thLatch n
  if s.lockout n || (latched && s.retryLeft n == 0) then 5
  else if s.thLatch n then 4
  else if s.ocLatch n && !s.restartPend n then 4
  else if s.ocLatch n then 3
  else if s.bit (tk n Reg.Chan.PROT_STAT) 21 then 2
  else if s.bit (tk n Reg.Chan.PROT_STAT) 16 then 1
  else 0

/-- Whether an off-state sequence may run on channel n (R201, R218). -/
def State.diagEligible (s : State) (n : Nat) : Bool :=
  let st := s.leashState (n / 16)
  s.bit (tk n Reg.Chan.DIAG_CFG) 1 && !s.mayConduct n && decide (1 ≤ st ∧ st ≤ 3) &&
    decide (8000 ≤ (s.tile (n / 16)).feed) && (s.tile (n / 16)).powered

/-- The conditions of R220 in the order of FLT_MASK: OC_LATCH, TH_LATCH, LOCKOUT, TH_WARN, OL_ON, OL_OFF, SHORT_BAT,
REV. -/
def State.faultBits (s : State) (n : Nat) : List Bool :=
  [s.ocLatch n, s.thLatch n, s.lockout n, s.bit (tk n Reg.Chan.PROT_STAT) 16, s.bit (tk n Reg.Chan.PROT_STAT) 17,
   s.bit (tk n Reg.Chan.PROT_STAT) 18, s.bit (tk n Reg.Chan.PROT_STAT) 19, s.bit (tk n Reg.Chan.PROT_STAT) 20]

/-- Whether channel n contributes to FAULT_N (R220). -/
def State.contributes (s : State) (n : Nat) : Bool :=
  ((s.faultBits n).zipIdx).any (fun p => p.1 && s.bit (tk n Reg.Chan.FLT_MASK) p.2)

/-- FAULT_N of tile t is low (R220): a channel contributes, the tile is starting, or it has no power. -/
def State.faultLow (s : State) (t : Nat) : Bool :=
  !(s.tile t).powered || (s.tile t).starting || (List.range 16).any (fun c => s.contributes (16 * t + c))

/-- Tiles whose FAULT_N was low when last looked at, as a mask. -/
def State.faultMask (s : State) : Nat :=
  (List.range 8).foldl (fun a t => a + b2n (s.tile t).faultLow * 2 ^ t) 0

/-- A falling edge of FAULT_N counts as its catalogue source and is source TILE_FAULT of the monitor (R223, R345,
R531). -/
def State.seeFault (s : State) (t : Nat) : State :=
  let low := s.faultLow t
  let was := (s.tile t).faultLow
  let s := s.setTile t { s.tile t with faultLow := low }
  if low && !was then (s.ev 0xD5 t).record 32 (word s.faultMask) else s

/-- Whether channel n conducts in an open window in REGULATE mode (R205, R206). -/
def State.regOpen (s : State) (n : Nat) : Bool :=
  (s.chan n).conducts && (s.chan n).inrush && s.bit (tk n Reg.Chan.OC_CFG) 29

/-- REGULATING (R206): in an open window of REGULATE mode it is 1 while regulation holds the current, which the load decides
(a free value, taken anew); else 0. An INRUSH_LIM above 150 is treated as 150. -/
def State.regulate (s : State) (n : Nat) : State :=
  if s.regOpen n then
    let r := s.freshBool
    let t := r.2.setPs n 21 r.1
    t.onlyIf (r.1 && !s.bit (tk n Reg.Chan.PROT_STAT) 21) (·.emit (.regulate n (min 150 (s.fld (tk n Reg.Chan.OC_CFG) 8 8))))
  else s.setPs n 21 false

/-- Whether an instant is of the tile clock that is present: the instant of TBF is the model's measure of a tile clock, and in
PARK, where TBF stands, none is (R181, R215, log entry 91). -/
def State.sameClock (s : State) (x : Option Nat) : Bool := x == some s.time.tbf.nsTotal && s.devState != 3

/-- What follows any change at channel n: PROT, and the start or end of conduction. A start opens the inrush window
and aborts an off-state sequence; an end may drive the clamp for
more than 1 µs (a free value), which CLAMP_CNT counts (R166, R205, R206, R214, R218). -/
def State.settleChan (s : State) (n : Nat) : State :=
  let on := s.mayConduct n
  let m := s.chan n
  let s :=
    if on && !m.conducts then
      let time := s.fld (tk n Reg.Chan.OC_CFG) 16 10
      (s.setChan n { m with conducts := true, inrush := time != 0, diag := 0 }).emit (.output n true)
    else if !on && m.conducts then
      let s := (s.setChan n { m with conducts := false, offAt := some s.time.tbf.nsTotal }).emit (.output n false)
      let r := s.freshBool
      r.2.onlyIf r.1 (·.count (tk n Reg.Chan.CLAMP_CNT))
    else s
  let s := s.onlyIf (!s.diagEligible n) (fun s => s.setChan n { s.chan n with diag := 0 })
  let s := s.regulate n
  s.setFld (tk n Reg.Chan.PROT_STAT) 0 3 (s.protCode n)

/-- What follows any change at tile t: its channels settle, all at one tile clock edge, and FAULT_N follows. -/
def State.settleTile (s : State) (t : Nat) : State :=
  (s.each ((List.range 16).map (16 * t + ·)) State.settleChan).seeFault t

/-- What follows a change at one channel. -/
def State.settleOne (s : State) (n : Nat) : State := (s.settleChan n).seeFault (n / 16)

/-! ## Trips and the restart rule -/

/-- The restart rule, evaluated while RESTART_PEND is 1 and the retry timer has expired (R211). -/
def State.restartRule (s : State) (n : Nat) : State :=
  let m := s.chan n
  if !s.restartPend n || m.timer then s
  else if s.thLatch n then
    if m.deferred then s
    else (s.setChan n { m with deferred := true }).countFld (tk n Reg.Chan.RESTART_CNT) 16 16
  else
    let s := s.setChan n { m with
      before := some (s.time.tbf.nsTotal, s.rd (tk n Reg.Chan.PROT_STAT), s.rd (tk n Reg.Chan.DIAG_HIST),
        s.rd (tk n Reg.Chan.RESTART_CNT)) }
    if s.retryLeft n = 0 then (s.setPs n 4 true).setPs n 6 false
    else
    let s := s.setFld (tk n Reg.Chan.PROT_STAT) 8 4 (s.retryLeft n - 1)
    let s := (s.setDh n 8 false).setPs n 6 false
    let s := s.setChan n { s.chan n with clean := true }
    s.countFld (tk n Reg.Chan.RESTART_CNT) 0 16

/-- Order of causes among trips of one clock: THERMAL, FAST, INRUSH, DIGITAL (R215, R229). -/
def causeRank (c : Nat) : Nat := if c = 4 then 0 else if c = 1 then 1 else if c = 3 then 2 else 3

/-- Whether channel n has tripped at the present instant already, so that a trip now is of the same clock (R215). -/
def State.tripsNow (s : State) (n : Nat) : Bool := s.sameClock (s.chan n).tripAt

/-- A trip (R211): its latch is set by the caller; RESTART_PEND, the retry timer, TRIP_CAUSE and TRIP_CNT. Of trips of one
clock every one counts and TRIP_CAUSE keeps the first in the order of R215. -/
def State.trip (s : State) (n cause : Nat) (thermal : Bool) : State :=
  let old := s.fld (tk n Reg.Chan.PROT_STAT) 12 3
  let first := if s.tripsNow n && decide (causeRank old < causeRank cause) then old else cause
  let s := (s.setPs n 6 true).setFld (tk n Reg.Chan.PROT_STAT) 12 3 first
  let s := s.countFld (tk n Reg.Chan.TRIP_CNT) (if thermal then 16 else 0) 16
  s.setChan n { s.chan n with
    timer := true, deferred := false, clean := false, tripAt := some s.time.tbf.nsTotal }

/-- An over-current trip: OC_LATCH, SHORT_GND by the output against 30 % of the feed, the trip (R211, R217). -/
def State.ocTrip (s : State) (n cause out : Nat) : State :=
  let short := decide (out * 100 < (s.tile (n / 16)).feed * 30)
  let s := (s.setDh n 8 true).setPs n 15 short
  let s := s.onlyIf short (·.setDh n 4 true)
  (s.trip n cause false).settleOne n

/-- Class nominal current of channel n in mA (R155). -/
def nominalMa (n : Nat) : Nat := chanInom n * 100

/-- Whether an over-current trip can occur at channel n: it conducts, or its conduction ended in the present clock (R202, R203,
R215). -/
def State.trips (s : State) (n : Nat) : Bool :=
  (s.chan n).conducts || s.sameClock (s.chan n).offAt

/-- FAST_TRIP (R202): a conducting channel's current in mA against twice nominal ±15 %; `out` is the output voltage in
mV at the trip. -/
def fastTrip (n ma out : Nat) (s : State) : State :=
  if !s.trips n then s
  else
    let r := s.reaches ma (2 * nominalMa n) (2 * nominalMa n * 15 / 100)
    if r.1 then r.2.ocTrip n 1 out else r.2

def execFastTrip (n : Fin 128) (ma out : Nat) (s : State) : Host.Outcome State Fault Refusal :=
  .next (fastTrip n.val ma out s)

/-- The threshold in percent the digital stage applies now (R203, R205). -/
def State.digitalLim (s : State) (n : Nat) : Nat :=
  s.fld (tk n Reg.Chan.OC_CFG) (if (s.chan n).inrush then 8 else 0) 8

/-- DIGITAL_TRIP (R203 to R206): the current has stayed at `ma` for OC_FILT, against the threshold ±(2 % of the setting
+ 1 % of nominal); no digital trip while a regulating window is open. -/
def digitalTrip (n ma out : Nat) (s : State) : State :=
  if !s.trips n || ((s.chan n).inrush && s.bit (tk n Reg.Chan.OC_CFG) 29) then s
  else
    let thr := nominalMa n * s.digitalLim n / 100
    let r := s.reaches ma thr (thr * 2 / 100 + nominalMa n / 100)
    if r.1 then r.2.ocTrip n (if (s.chan n).inrush then 3 else 2) out else r.2

def execDigitalTrip (n : Fin 128) (ma out : Nat) (s : State) : Host.Outcome State Fault Refusal :=
  .next (digitalTrip n.val ma out s)

/-- The inrush window expires (R205, R206). -/
def inrushClose (n : Nat) (s : State) : State :=
  (s.setChan n { s.chan n with inrush := false }).settleOne n

def execInrushWindowClose (n : Fin 128) (s : State) : Host.Outcome State Fault Refusal := .next (inrushClose n.val s)

/-- The junction sensor's reading of a temperature in 0.1 °C, accurate to ±5 °C (R208). -/
def State.junction (s : State) (t : Int) : Int × State := s.freshInt (t - 50) (t + 50)

/-- WARN_TEMP in 0.1 °C (R208). -/
def State.warnTemp (s : State) (n : Nat) : Int := 1000 + 50 * (min 14 (s.fld (tk n Reg.Chan.TH_CFG) 0 5) : Nat)

/-- HOT and TH_WARN by a sensor reading (R208); DIAG_HIST keeps TH_WARN (R228). -/
def State.judgeTemp (s : State) (n : Nat) (x : Int) : State :=
  let s := s.setPs n 5 (decide (1500 ≤ x))
  if s.warnTemp n ≤ x then (s.setPs n 16 true).setDh n 5 true
  else if x < s.warnTemp n - 50 then s.setPs n 16 false
  else s

/-- A restart rule that acted at the present instant is taken back: the thermal latch of the same clock stands before it and
defers it, no retry consumed (R215). -/
def State.unrestart (s : State) (n : Nat) : State :=
  match (s.chan n).before with
  | some (i, ps, dh, rc) =>
    if s.sameClock (some i) then
      let s := (s.setFld (tk n Reg.Chan.PROT_STAT) 8 4 (bitsOf ps 8 4)).setPs n 4 (bitOf ps 4)
      (s.setDh n 8 (s.ocLatch n || bitOf dh 8)).wr (tk n Reg.Chan.RESTART_CNT) rc
    else s
  | none => s

/-- THERMAL_LATCH (R208): at 175 °C by the sensor the latch sets, whether or not the channel conducts. -/
def thermalLatch (n : Nat) (t : Int) (s : State) : State :=
  let r := s.junction t
  if 1750 ≤ r.1 && (s.tile (n / 16)).powered then
    ((((r.2.unrestart n).judgeTemp n r.1).setPs n 3 true).trip n 4 true).settleOne n
  else r.2

def execThermalLatch (n : Fin 128) (t : Int) (s : State) : Host.Outcome State Fault Refusal :=
  .next (thermalLatch n.val t s)

/-- JUNCTION_THRESHOLD (R208): HOT and TH_WARN follow the junction. -/
def junctionThreshold (n : Nat) (t : Int) (s : State) : State :=
  let r := s.junction t
  if (s.tile (n / 16)).powered then (r.2.judgeTemp n r.1).settleOne n else r.2

def execJunctionThreshold (n : Fin 128) (t : Int) (s : State) : Host.Outcome State Fault Refusal :=
  .next (junctionThreshold n.val t s)

/-- The retry timer expires and the restart rule is evaluated (R211). -/
def retryExpiry (n : Nat) (s : State) : State :=
  if (s.chan n).timer then ((s.setChan n { s.chan n with timer := false }).restartRule n).settleOne n else s

def execRetryTimerExpiry (n : Fin 128) (s : State) : Host.Outcome State Fault Refusal := .next (retryExpiry n.val s)

/-- CLEAN_TIME without a trip since the last automatic restart (R212). -/
def cleanExpiry (n : Nat) (s : State) : State :=
  if (s.chan n).clean && s.fld (tk n Reg.Chan.RETRY_CFG) 16 8 != 0 then
    ((s.setFld (tk n Reg.Chan.PROT_STAT) 8 4 (s.fld (tk n Reg.Chan.RETRY_CFG) 0 4)).setChan n
      { s.chan n with clean := false }).settleOne n
  else s

def execCleanTimeExpiry (n : Fin 128) (s : State) : Host.Outcome State Fault Refusal := .next (cleanExpiry n.val s)

/-! ## PROT_CLR -/

/-- PROT_CLR.TH (R213). -/
def State.clrTh (s : State) (n : Nat) : State := if s.hot n then s.setPs n 7 true else s.setPs n 3 false

/-- PROT_CLR.OC (R213). -/
def State.clrOc (s : State) (n : Nat) : State :=
  (s.setDh n 8 false).onlyIf (!s.thLatch n) (·.setPs n 6 false)

/-- PROT_CLR.RETRY (R213). -/
def State.clrRetry (s : State) (n : Nat) : State :=
  (((s.setPs n 4 false).setDh n 8 false).setPs n 6 false).setFld (tk n Reg.Chan.PROT_STAT) 8 4
    (s.fld (tk n Reg.Chan.RETRY_CFG) 0 4)

/-- PROT_CLR.DIAG (R213). -/
def State.clrDiag (s : State) (n : Nat) : State :=
  ((s.setFld (tk n Reg.Chan.DIAG_HIST) 0 8 0).setFld (tk n Reg.Chan.PROT_STAT) 12 3 0).setPs n 7 false

/-- PROT_CLR acting on a channel, its bits in the order of R213, then the restart rule as the next step of R215; the
second part is the bits applied. -/
def State.protClr (s : State) (n : Nat) (v : Word) : State × Word :=
  let denied := bitOf v 1 && s.hot n
  let s := s.onlyIf (bitOf v 1) (·.clrTh n)
  let s := s.onlyIf (bitOf v 0) (·.clrOc n)
  let s := s.onlyIf (bitOf v 2) (·.clrRetry n)
  let s := s.onlyIf (bitOf v 3) (·.clrDiag n)
  ((s.restartRule n).settleOne n, if denied then v &&& 0xD else v &&& 0xF)

/-- Whether a tile acts on PROT_CLR: in every Leash state but UNCLAIMED (R213). -/
def State.clrOpen (s : State) (n : Nat) : Bool := s.leashState (n / 16) != 0 && (s.tile (n / 16)).powered

/-- One bit of PROT_CLR acting in the tile. -/
def protClrBit (n : Nat) (v : Word) (s : State) : State := if s.clrOpen n then (s.protClr n v).1 else s

def execProtClrTh (n : Fin 128) (s : State) : Host.Outcome State Fault Refusal := .next (protClrBit n.val 2 s)
def execProtClrOc (n : Fin 128) (s : State) : Host.Outcome State Fault Refusal := .next (protClrBit n.val 1 s)
def execProtClrRetry (n : Fin 128) (s : State) : Host.Outcome State Fault Refusal := .next (protClrBit n.val 4 s)
def execProtClrDiag (n : Fin 128) (s : State) : Host.Outcome State Fault Refusal := .next (protClrBit n.val 8 s)

/-! ## Diagnostics -/

/-- OL_ON_LIM in µA (R217). -/
def State.olLimUa (s : State) (n : Nat) : Nat := max 1 (s.fld (tk n Reg.Chan.DIAG_CFG) 8 8) * nominalMa n

/-- OL_ON_DETECT (R217): 10 ms of accumulated on-time at `ua` µA, against the limit ±(10 % of the setting + 0.05 % of
nominal); only while the channel conducts outside the inrush window. -/
def olOn (n ua : Nat) (s : State) : State :=
  if !(s.chan n).conducts || (s.chan n).inrush || !s.bit (tk n Reg.Chan.DIAG_CFG) 0 then s
  else
    let lim := s.olLimUa n
    let r := s.reaches ua lim (lim / 10 + nominalMa n / 2)
    (if r.1 then r.2.setPs n 17 false else (r.2.setPs n 17 true).setDh n 0 true).settleOne n

def execOlOnDetect (n : Fin 128) (ua : Nat) (s : State) : Host.Outcome State Fault Refusal := .next (olOn n.val ua s)

/-- REV_DETECT (R217): for 100 µs `ma` mA flow from the output into the feed, against 2 % of nominal. -/
def revDetect (n ma : Nat) (s : State) : State :=
  if !(s.chan n).conducts || !s.bit (tk n Reg.Chan.DIAG_CFG) 2 then s
  else if nominalMa n * 2 < ma * 100 then ((s.setPs n 20 true).setDh n 3 true).settleOne n
  else if ma * 100 < nominalMa n * 2 then (s.setPs n 20 false).settleOne n
  else s

def execRevDetect (n : Fin 128) (ma : Nat) (s : State) : Host.Outcome State Fault Refusal := .next (revDetect n.val ma s)

/-- OFF_DIAG_START (R218): the pull-down phase begins on an eligible channel. -/
def offDiagStart (n : Nat) (s : State) : State :=
  if s.diagEligible n && (s.chan n).diag == 0 then s.setChan n { s.chan n with diag := 1 } else s

def execOffDiagStart (n : Fin 128) (s : State) : Host.Outcome State Fault Refusal := .next (offDiagStart n.val s)

/-- End of the pull-down phase with the output at `out` mV (R218): above the feed less 2.0 V ±0.3 V sets SHORT_BAT and
ends the sequence; else the pull-up phase begins. -/
def offDiagEnd1 (n out : Nat) (s : State) : State :=
  if (s.chan n).diag != 1 then s
  else
    let r := s.reaches (out + 2000) (s.tile (n / 16)).feed 300
    if r.1 then
      (((r.2.setPs n 19 true).setDh n 2 true).setChan n { s.chan n with diag := 0 }).settleOne n
    else r.2.setChan n { s.chan n with diag := 2 }

def execOffDiagPhase1End (n : Fin 128) (out : Nat) (s : State) : Host.Outcome State Fault Refusal :=
  .next (offDiagEnd1 n.val out s)

/-- End of the pull-up phase (R218): above 4.0 V ±0.3 V sets OL_OFF, else it clears; SHORT_BAT clears. -/
def offDiagEnd2 (n out : Nat) (s : State) : State :=
  if (s.chan n).diag != 2 then s
  else
    let r := s.reaches out 4000 300
    let s := (r.2.setPs n 19 false).setPs n 18 r.1
    let s := s.onlyIf r.1 (·.setDh n 1 true)
    (s.setChan n { s.chan n with diag := 0 }).settleOne n

def execOffDiagPhase2End (n : Fin 128) (out : Nat) (s : State) : Host.Outcome State Fault Refusal :=
  .next (offDiagEnd2 n.val out s)

/-! ## Tile registers over the link -/

/-- Offset of the register a REG names (R169). -/
def regOff (reg : Nat) : Nat := 0x40 + 4 * reg

/-- TILE_STAT's conditions as the tile holds them (R154, R156). -/
def State.tileConds (s : State) (t : Nat) : Nat :=
  let m := s.tile t
  b2n (decide (m.feed < 6000)) * 8 + b2n (decide (62000 < m.feed)) * 16 + b2n m.supWarn * 32

/-- Mean supply current over the samples of the last second, 10 mA units (R154). -/
def State.supplyMean (s : State) (t : Nat) : Nat :=
  let l := (s.tile t).samples
  if l.isEmpty then 0 else l.foldl (· + ·) 0 / l.length

/-- What a tile answers a READ of a register with, or none for an undefined one (R169). -/
def State.tileRead (s : State) (t unit off : Nat) : Option Word :=
  if unit = 0x10 then
    if off = Reg.Tile.LEASH_STAT ∨ off = Reg.Tile.STAY_TIME_ACT then some (s.rd (tt t off))
    else if off = Reg.Tile.STAY_TIME then some (s.rd (tt t Reg.Tile.STAY_TIME_ACT))
    else if off = Reg.Tile.TILE_STAT then some (word (s.tileConds t))
    else if off = Reg.Tile.LH_STATE then some (word (s.tile t).lh)
    else if off = Reg.Tile.SUPPLY_I then some (word (s.supplyMean t % 2 ^ 16))
    else if off = Reg.Tile.IO_STATE then some (word ((s.tile t).inLv % 2 ^ 16 + s.outWord t * 2 ^ 16))
    else none
  else if unit < 16 then
    let n := 16 * t + unit
    if off = Reg.Chan.CH_POL ∨ off = Reg.Chan.CH_POL_ACT then some (word (s.fld (tk n Reg.Chan.CH_POL_ACT) 0 9))
    else if off = Reg.Chan.CH_STAT then
      some (word (b2n (s.srcLevel n) + 2 * b2n ((s.tile t).inLv.testBit unit) + 4 * b2n (s.lhLevel n) + 16 * s.srcCode n))
    else if off = Reg.Chan.CH_CFG ∨ off = Reg.Chan.CLAMP_CNT ∨ off = Reg.Chan.OC_CFG ∨
        off = Reg.Chan.RETRY_CFG ∨ off = Reg.Chan.TH_CFG ∨ off = Reg.Chan.DIAG_CFG ∨ off = Reg.Chan.FLT_MASK ∨
        off = Reg.Chan.PROT_STAT ∨ off = Reg.Chan.DIAG_HIST ∨ off = Reg.Chan.TRIP_CNT ∨ off = Reg.Chan.RESTART_CNT then
      some (s.rd (tk n off))
    else none
  else none

/-- OC_CFG as stored: ILIM and INRUSH_LIM between 5 and 200, INRUSH_TIME up to 500 (R203, R205, R226). -/
def ocCfgStored (v : Word) : Word :=
  let v := v &&& 0x3FFFFFFF
  setBits (setBits (setBits v 0 8 (limit 5 200 (bitsOf v 0 8))) 8 8 (limit 5 200 (bitsOf v 8 8))) 16 10
    (min 500 (bitsOf v 16 10))

/-- STAY_TIME as stored (R185). -/
def stayTimeStored (v : Word) : Nat := limit 500 10000000 (bitsOf v 0 24)

/-- A DIAG_CFG write: a detection switched off clears its present condition (R217, R218). -/
def State.diagCfg (s : State) (n : Nat) (v : Word) : State :=
  let s := s.wr (tk n Reg.Chan.DIAG_CFG) (v &&& 0xFF07)
  let s := s.onlyIf (!bitOf v 0) (·.setPs n 17 false)
  s.onlyIf (!bitOf v 2) (·.setPs n 20 false)

/-- A WRITE applied by the tile and the DATA as applied, or none for a register not defined for WRITE (R169, R176). -/
def State.tileWrite (s : State) (t unit off : Nat) (v : Word) : Option (State × Word) :=
  if unit = 0x10 then
    if off = Reg.Tile.STAY_TIME then
      some (s.wrN (tt t Reg.Tile.STAY_TIME_ACT) (stayTimeStored v), word (stayTimeStored v))
    else none
  else if unit < 16 then
    let n := 16 * t + unit
    let put (k : Nat) (w : Word) : Option (State × Word) := some ((s.wr (tk n k) w).settleOne n, w)
    if off = Reg.Chan.CH_CFG then put off (v &&& 7)
    else if off = Reg.Chan.CH_POL then put Reg.Chan.CH_POL_ACT (v &&& 0x1FF)
    else if off = Reg.Chan.OC_CFG then put off (ocCfgStored v)
    else if off = Reg.Chan.RETRY_CFG then put off (v &&& 0xFFFF0F)
    else if off = Reg.Chan.TH_CFG then put off (v &&& 0x1F)
    else if off = Reg.Chan.DIAG_CFG then some ((s.diagCfg n v).settleOne n, v &&& 0xFF07)
    else if off = Reg.Chan.FLT_MASK then put off (v &&& 0xFF)
    else if off = Reg.Chan.PROT_CLR then some (s.protClr n v)
    else none
  else none

/-! ## Requests -/

/-- A tile answers a request: the reply is stored with it and sent (R170, R171). -/
def State.tileReply (s : State) (t : Nat) (q : TclReq) (r : TclRep) : State :=
  let r := { r with seq := q.seq, holder := s.leashHolder t, state := s.leashState t, cur := s.leashCur t }
  (s.setTile t { s.tile t with lastReq := some q, lastRep := some r }).emit (.tclRep t r.octets)

/-- STATUS with OUT at the moment it is composed (R170). -/
def State.tileStatus (s : State) (t : Nat) (q : TclReq) : State :=
  s.tileReply t q { type := 9, seq := 0, holder := 0, state := 0, cur := 0, out := s.outWord t }

/-- NACK with its reason (R170, R177). -/
def State.tileNack (s : State) (t : Nat) (q : TclReq) (reason : Nat) : State :=
  s.tileReply t q { type := 12, seq := 0, holder := 0, state := 0, cur := 0, reason := reason, refType := q.type }

/-- The take rule (R178): the present levels are latched, the state reads HELD, STATUS carries them. -/
def State.take (s : State) (t cur holder : Nat) (q : TclReq) : State :=
  let l := s.outWord t
  let s := (s.setTile t { s.tile t with latch := some l }).setLeash t cur holder 1
  (s.settleTile t).tileStatus t q

/-- Whether a request comes from the holder with the current number (R176). -/
def State.fromHolder (s : State) (t : Nat) (q : TclReq) : Bool :=
  q.src == s.leashHolder t && q.claim == s.leashCur t

/-- What a tile does with a request it acts on (R176). -/
def State.tileAct (s : State) (t : Nat) (q : TclReq) : State :=
  let st := s.leashState t
  let ok := s.fromHolder t q && st != 0
  if q.type = 0 ∨ 7 < q.type then s.tileNack t q 7
  else if q.type ≠ 5 ∧ (q.src = 0 ∨ q.src = 3) then s.tileNack t q 4
  else
    match q.type with
    | 1 =>
      if !ok then s.tileNack t q 1
      else (if st = 2 then s.take t (s.leashCur t) (s.leashHolder t) q else s.tileStatus t q).ev 0xD4 t
    | 2 =>
      if s.leashCur t = 0xFFFF then s.tileNack t q 3
      else if s.leashCur t < q.claim then s.take t q.claim q.src q
      else s.tileNack t q 2
    | 3 => if ok then s.take t (s.leashCur t) (s.leashHolder t) q else s.tileNack t q 1
    | 4 =>
      if !ok then s.tileNack t q 1
      else
        match s.tileWrite t q.unit (regOff q.reg) q.data with
        | some (s', d) =>
          s'.tileReply t q { type := 10, seq := 0, holder := 0, state := 0, cur := 0, unit := q.unit, reg := q.reg, data := d }
        | none => s.tileNack t q 5
    | 5 =>
      match s.tileRead t q.unit (regOff q.reg) with
      | some d =>
        s.tileReply t q { type := 11, seq := 0, holder := 0, state := 0, cur := 0, unit := q.unit, reg := q.reg, data := d }
      | none => s.tileNack t q 5
    | 6 =>
      if s.fromHolder t q && (st == 1 || st == 2 || st == 3) then
        let l := s.outWord t
        let s := (s.setTile t { s.tile t with park := l, latch := none }).setLeash t (s.leashCur t) (s.leashHolder t) 4
        (s.settleTile t).tileStatus t q
      else s.tileNack t q 1
    | _ =>
      if !s.fromHolder t q then s.tileNack t q 1
      else if q.key ≠ 0xC3A5 then s.tileNack t q 6
      else (s.tileStatus t q).setTile t { (s.tileStatus t q).tile t with trst := true }

/-- A request frame reaches a tile (R171): unpowered, it does nothing; a repeat of the request it still holds gets the
stored reply; else the tile acts. -/
def State.tclFrame (s : State) (t : Nat) (q : TclReq) : State :=
  let m := s.tile t
  if !m.powered || m.starting then s
  else if m.lastReq = some q then
    match m.lastRep with
    | some r => s.emit (.tclRep t r.octets)
    | none => s
  else s.tileAct t q

def execTclKeepalive (t : Fin 8) (seq : Fin 16) (src : Fin 4) (claim : Fin 65536) (s : State) :
    Host.Outcome State Fault Refusal :=
  .next (s.tclFrame t.val { type := 1, seq := seq.val, src := src.val, claim := claim.val })

def execTclClaim (t : Fin 8) (seq : Fin 16) (src : Fin 4) (claim : Fin 65536) (s : State) :
    Host.Outcome State Fault Refusal :=
  .next (s.tclFrame t.val { type := 2, seq := seq.val, src := src.val, claim := claim.val })

def execTclRenew (t : Fin 8) (seq : Fin 16) (src : Fin 4) (claim : Fin 65536) (s : State) :
    Host.Outcome State Fault Refusal :=
  .next (s.tclFrame t.val { type := 3, seq := seq.val, src := src.val, claim := claim.val })

def execTclWrite (t : Fin 8) (seq : Fin 16) (src : Fin 4) (claim : Fin 65536) (unit reg : Fin 256) (data : Word)
    (s : State) : Host.Outcome State Fault Refusal :=
  .next (s.tclFrame t.val
    { type := 4, seq := seq.val, src := src.val, claim := claim.val, unit := unit.val, reg := reg.val, data := data })

def execTclRead (t : Fin 8) (seq : Fin 16) (src : Fin 4) (claim : Fin 65536) (unit reg : Fin 256) (s : State) :
    Host.Outcome State Fault Refusal :=
  .next (s.tclFrame t.val { type := 5, seq := seq.val, src := src.val, claim := claim.val, unit := unit.val, reg := reg.val })

def execTclPark (t : Fin 8) (seq : Fin 16) (src : Fin 4) (claim : Fin 65536) (s : State) :
    Host.Outcome State Fault Refusal :=
  .next (s.tclFrame t.val { type := 6, seq := seq.val, src := src.val, claim := claim.val })

def execTclTrst (t : Fin 8) (seq : Fin 16) (src : Fin 4) (claim key : Fin 65536) (s : State) :
    Host.Outcome State Fault Refusal :=
  .next (s.tclFrame t.val { type := 7, seq := seq.val, src := src.val, claim := claim.val, key := key.val })

/-- TCL_BAD_FRAME (R171, R176): the octets of a frame reach a tile. One whose CRC or length is wrong is discarded unanswered and
counted, which TCL_ERR reports; one in order is a request, which a reserved TYPE has refused with BAD_TYPE. -/
def tclBadFrame (t : Nat) (octs : List Nat) (s : State) : State :=
  if !(s.tile t).powered then s
  else
    match tclRequest octs with
    | some q => s.tclFrame t q
    | none => s.countFld (tileBase t + Reg.Tile.TCL_ERR) 0 16

def execTclBadFrame (t : Fin 8) (octs : List Nat) (s : State) : Host.Outcome State Fault Refusal :=
  .next (tclBadFrame t.val octs s)

/-- The stored request and reply are discarded (R172). -/
def storedDiscard (t : Nat) (s : State) : State := s.setTile t { s.tile t with lastReq := none, lastRep := none }

def execStoredReplyDiscard (t : Fin 8) (s : State) : Host.Outcome State Fault Refusal := .next (storedDiscard t.val s)

/-! ## The Leash on its own -/

/-- No valid KEEPALIVE for 120 µs while HELD: STAY with the IN levels of that instant (R180). -/
def stayEntry (t : Nat) (s : State) : State :=
  if s.leashState t = 1 then
    let m := s.tile t
    let lv := match m.latch with | some l => l | none => m.inLv
    ((s.setTile t { m with stay := lv, latch := none }).setLeash t (s.leashCur t) (s.leashHolder t) 2).settleTile t
  else s

def execLeashStayEntry (t : Fin 8) (s : State) : Host.Outcome State Fault Refusal := .next (stayEntry t.val s)

/-- STAY_TIME since the last valid KEEPALIVE: LOSS, every channel to its LOSS source (R184, R185). -/
def lossEntry (t : Nat) (s : State) : State :=
  if s.leashState t = 2 then (s.setLeash t (s.leashCur t) (s.leashHolder t) 3).settleTile t else s

def execLeashLossEntry (t : Fin 8) (s : State) : Host.Outcome State Fault Refusal := .next (lossEntry t.val s)

/-- The take instant: the tile takes the IN lines (R178). -/
def State.takeNow (s : State) (t : Nat) : State :=
  match (s.tile t).latch with
  | some _ => (s.setTile t { s.tile t with latch := none }).settleTile t
  | none => s

/-- Whether a key is tile t's own copy of a register. -/
def tileCopy (t key : Nat) : Bool :=
  decide (bank 2 (tileBase t) ≤ key ∧ key < bank 2 (tileBase t + 0x20000))

/-- TRST of a tile (R189): CUR 0, no holder, UNCLAIMED; every class-T field at its Reset value; every channel off. What
is no tile-held content stays: the levels on its pins, its feed and its samples. -/
def State.tileReset (s : State) (t : Nat) : State :=
  let m := s.tile t
  let s := s.loseRegs (tileCopy t)
  let s := s.setTile t { m with trst := false, starting := false, latch := none, stay := 0, park := 0, ptr := 0 }
  let s := s.settleTile t
  (s.each ((List.range 16).map (16 * t + ·)) (fun s n => s.setChan n {})).seeFault t

/-- A TRST takes effect: an accepted one 2.0 µs after its STATUS reply, a power-up one 2.0 µs after power-up (R189). -/
def trstEffect (t : Nat) (s : State) : State :=
  if (s.tile t).trst && (s.tile t).powered then s.tileReset t else s

def execTrstTakeEffect (t : Fin 8) (s : State) : Host.Outcome State Fault Refusal := .next (trstEffect t.val s)

/-! ## Feed, supply and limp-home inputs -/

/-- The feed of a tile rises through 3.0 V: an unpowered tile powers up, its TRST pending, FAULT_N low (R156, R189,
R220). -/
def powerUp (t mv : Nat) (s : State) : State :=
  if !(s.tile t).powered && decide (3000 ≤ mv) then
    (s.setTile t { s.tile t with
      powered := true, starting := true, trst := true, feed := mv, samples := [], supWarn := false,
      lastReq := none, lastRep := none }).seeFault t
  else s

def execTilePowerUp (t : Fin 8) (mv : Nat) (s : State) : Host.Outcome State Fault Refusal := .next (powerUp t.val mv s)

/-- Feed below 2.8 V for 50 µs: the tile resets as in TRST and stays unpowered until its feed rises through 3.0 V
(R156). -/
def brownout (t mv : Nat) (s : State) : State :=
  if (s.tile t).powered && decide (mv < 2800) then
    let s := s.tileReset t
    (s.setTile t { s.tile t with powered := false, feed := mv, moved := true, lastReq := none, lastRep := none }).seeFault t
  else s

def execTileBrownout (t : Fin 8) (mv : Nat) (s : State) : Host.Outcome State Fault Refusal := .next (brownout t.val mv s)

/-- Band of a feed voltage in mV (R156): below 6.0 V, to 60 V, to 62 V, to 70 V, above. A dip below 2.8 V that ends before
50 µs is of the first band. -/
def feedBand (mv : Nat) : Nat :=
  if mv < 6000 then 1 else if mv ≤ 60000 then 2 else if mv ≤ 62000 then 3 else if mv ≤ 70000 then 4 else 5

/-- The feed voltage moves; a move into or out of a band is recorded (R156). -/
def bandChange (t mv : Nat) (s : State) : State :=
  let m := s.tile t
  if m.powered then
    (s.setTile t { m with feed := mv, moved := m.moved || feedBand m.feed != feedBand mv }).settleTile t
  else s.setTile t { m with feed := mv }

def execFeedBandChange (t : Fin 8) (mv : Nat) (s : State) : Host.Outcome State Fault Refusal := .next (bandChange t.val mv s)

/-- A supply current sample in 10 mA units: the mean of the last 1,000, and the warning above 120 A once 1,000 samples
exist (R154). -/
def supplySample (t i : Nat) (s : State) : State :=
  let m := s.tile t
  if m.powered then
    let l := (i :: m.samples).take 1000
    s.setTile t { m with samples := l, supWarn := decide (l.length = 1000 ∧ 12000 * 1000 < l.foldl (· + ·) 0) }
  else s

def execSupplySample (t : Fin 8) (i : Nat) (s : State) : Host.Outcome State Fault Refusal := .next (supplySample t.val i s)

/-- LH_DIFF bits whose bank level agrees with every tile that has a link are clear (R457). -/
def State.lhDiffers (s : State) (i : Nat) : Bool :=
  (List.range 8).any (fun t => s.bit (tileBase t + Reg.Tile.TILE_STAT) 0 &&
    s.bit (tileBase t + Reg.Tile.LH_STATE) i != s.bit (lhBase + Reg.Lh.LH_LEVEL) i)

/-- LH_DIFF follows agreement at once (R457). -/
def State.lhAgree (s : State) : State :=
  s.each (List.range 16) (fun s i => s.onlyIf (!s.lhDiffers i) (·.setBit (lhBase + Reg.Lh.LH_DIFF) i false))

/-- A limp-home input stable for 20 µs at a level is taken by a tile, whose LIMP channels follow (R162, R188), or, for
t = 8, by the LH bank's own comparators (R457), which the distributor samples (R266). -/
def lhChange (t i : Nat) (lv : Bool) (s : State) : State :=
  if t = 8 then
    if s.domainOn 9 && s.bit (lhBase + Reg.Lh.LH_LEVEL) i != lv then
      let s := (s.setBit (lhBase + Reg.Lh.LH_LEVEL) i lv).lhAgree
      s.distNow 9 0 (s.rd (lhBase + Reg.Lh.LH_LEVEL)) (word (2 ^ i)) 0
    else s
  else
    let m := s.tile t
    if m.powered then (s.setTile t { m with lh := setNatBit m.lh i lv }).settleTile t else s

def execLhInputChange (t : Fin 9) (i : Fin 16) (lv : Bool) (s : State) : Host.Outcome State Fault Refusal :=
  .next (lhChange t.val i.val lv s)

/-- IN_EDGE (R158, R178): the oldest edge under way to channel n's IN pin arrives. A tile in HELD past its take instant
follows it; in the take window it takes effect at the take instant; in any other state it is refused. -/
def inEdge (n : Nat) (s : State) : State :=
  match s.inFlight.find? (fun e => e.1 == n) with
  | none => s
  | some e =>
    let s := { s with inFlight := s.inFlight.erase e }
    let m := s.tile (n / 16)
    let s := s.setTile (n / 16) { m with inLv := setNatBit m.inLv (n % 16) e.2 }
    if m.powered then s.settleOne n else s

def execInEdge (n : Fin 128) (s : State) : Host.Outcome State Fault Refusal := .next (inEdge n.val s)

end Sys2Proof.Machine
end

