-- ==== Sys2Proof/Machine/TileCtl.lean ====
section
/-! DEFINITION. Tile control: the request queues of each link, replies and their outcome, the mirrors, claims, agents and
policy copies; and the commands of tile and channel pages that go through it (R172 to R200, R216, R222, R263, R280). -/

namespace Sys2Proof.Machine

/-! ## Registers of the mirror -/

/-- Keys of tile control's mirror: the tile and channel pages. -/
def mt (t off : Nat) : Nat := tileBase t + off
def mc (n off : Nat) : Nat := chanBase n + off

/-- CUR, HOLDER and STATE of the mirror (R196). -/
def State.mirCur (s : State) (t : Nat) : Nat := s.fld (mt t Reg.Tile.LEASH_STAT) 0 16
def State.mirHolder (s : State) (t : Nat) : Nat := s.fld (mt t Reg.Tile.LEASH_STAT) 16 2
def State.mirState (s : State) (t : Nat) : Nat := s.fld (mt t Reg.Tile.LEASH_STAT) 18 3

/-- LINK_UP and MIRROR_VALID of TILE_STAT (R195). -/
def State.linkUp (s : State) (t : Nat) : Bool := s.bit (mt t Reg.Tile.TILE_STAT) 0
def State.mirrorValid (s : State) (t : Nat) : Bool := s.bit (mt t Reg.Tile.TILE_STAT) 1

/-- Channels of tile t. -/
def tileChans (t : Nat) : List Nat := (List.range 16).map (16 * t + ·)

/-- CH_POL_ACT.SYNC of a channel follows the two registers; becoming 0 raises POL_DIFF (R186, R197). -/
def State.syncChan (s : State) (n : Nat) : State :=
  let same := s.fld (mc n Reg.Chan.CH_POL_ACT) 0 9 == s.fld (mc n Reg.Chan.CH_POL) 0 9
  (s.setBit (mc n Reg.Chan.CH_POL_ACT) 31 same).onlyIf (!same && s.bit (mc n Reg.Chan.CH_POL_ACT) 31) (·.raise (chanBase n) 17)

/-- SYNC of every channel of a tile and POL_SYNC: every copy equals its P register (R186). -/
def State.polSync (s : State) (t : Nat) : State :=
  let s := s.each (tileChans t) State.syncChan
  s.setBit (mt t Reg.Tile.TILE_STAT) 2
    (s.fld (mt t Reg.Tile.STAY_TIME_ACT) 0 24 == s.fld (mt t Reg.Tile.STAY_TIME) 0 24 &&
      (tileChans t).all (fun n => s.bit (mc n Reg.Chan.CH_POL_ACT) 31))

/-- Latches of a channel as the mirrors show them. -/
def State.mirLatched (s : State) (n : Nat) : Bool :=
  s.bit (mc n Reg.Chan.DIAG_HIST) 8 || s.bit (mc n Reg.Chan.PROT_STAT) 3 || s.bit (mc n Reg.Chan.PROT_STAT) 4

/-- UNIT_STAT of a channel from the mirrors, and of its composites (R47, R190, R193, R221). -/
def State.refreshChan (s : State) (n : Nat) : State :=
  let ps := s.rd (mc n Reg.Chan.PROT_STAT)
  let on := s.bit (mc n Reg.Chan.CH_STAT) 0 && s.bit (mc n Reg.Chan.CH_CFG) 0 && !s.mirLatched n
  let fault := s.mirLatched n || bitOf ps 17 || bitOf ps 18 || bitOf ps 19 || bitOf ps 20
  let s := s.setUnit (chanBase n) on false fault (bitsOf ps 0 3)
  (s.setBlockStat (chanBase n) (s.fld (mc n Reg.Chan.CH_STAT) 0 7)).refreshUp n

/-- CH_STAT.SRC as a STATE and the mirrors give it; from the acceptance of a claim to its take instant STAY (R178, R200). -/
def State.mirSrc (s : State) (n state : Nat) : Nat :=
  let pol := s.rd (mc n Reg.Chan.CH_POL_ACT)
  if !s.bit (mc n Reg.Chan.CH_CFG) 0 then 0
  else
    match state with
    | 1 => if (s.tile (n / 16)).latch.isSome then 3 else 2
    | 2 => 3
    | 3 => if bitsOf pol 0 2 = 3 then 6 else 4
    | 4 => if bitsOf pol 2 2 = 2 then 6 else 5
    | _ => 1

/-- CH_STAT of a channel written; a change of SRC raises SRC_CHG (R197). -/
def State.putChStat (s : State) (n : Nat) (v : Word) : State :=
  let k := mc n Reg.Chan.CH_STAT
  ((s.onlyIf (s.fld k 4 3 != bitsOf v 4 3) (·.raise (chanBase n) 16)).wr k v).refreshChan n

/-- CH_STAT of a channel with SRC as the mirrors give it now (R198, R200). -/
def State.reSrc (s : State) (n : Nat) : State :=
  s.putChStat n (setBits (s.rd (mc n Reg.Chan.CH_STAT)) 4 3 (s.mirSrc n (s.mirState (n / 16))))

/-- The mapped LH level of a channel from the mirrors (R199). -/
def State.mirLh (s : State) (n : Nat) : Bool :=
  let pol := s.rd (mc n Reg.Chan.CH_POL_ACT)
  s.bit (mt (n / 16) Reg.Tile.LH_STATE) (bitsOf pol 4 4) != bitOf pol 8

/-- CH_STAT of a channel as IO_STATE, LH_STATE and CH_POL_ACT show it (R198, R199). -/
def State.ioChan (s : State) (n : Nat) : State :=
  let io := mt (n / 16) Reg.Tile.IO_STATE
  s.putChStat n (setBits (setBits (s.rd (mc n Reg.Chan.CH_STAT)) 0 3
    (b2n (s.bit io (16 + n % 16)) + 2 * b2n (s.bit io (n % 16)) + 4 * b2n (s.mirLh n))) 4 3 (s.mirSrc n (s.mirState (n / 16))))

/-- TAKE_INSTANT (R178): the tile takes the IN lines, and CH_STAT.SRC no longer reads STAY. -/
def takeInstant (t : Nat) (s : State) : State :=
  if (s.tile t).latch.isSome then
    (s.takeNow t).onlyIf (s.linkUp t && s.mirState t == 1) (·.each (tileChans t) State.reSrc)
  else s

def execTakeInstant (t : Fin 8) (s : State) : Host.Outcome State Fault Refusal := .next (takeInstant t.val s)

/-- Channels contributing to FAULT_N and channels latched or pending, from the mirrors (R231). -/
def State.mirFaults (s : State) (t : Nat) : State :=
  let contr (n : Nat) : Bool :=
    let ps := s.rd (mc n Reg.Chan.PROT_STAT)
    let cond := [s.bit (mc n Reg.Chan.DIAG_HIST) 8, bitOf ps 3, bitOf ps 4, bitOf ps 16, bitOf ps 17, bitOf ps 18, bitOf ps 19,
      bitOf ps 20]
    (cond.zipIdx).any (fun p => p.1 && s.bit (mc n Reg.Chan.FLT_MASK) p.2)
  let mask (f : Nat → Bool) : Nat := (List.range 16).foldl (fun a c => a + b2n (f (16 * t + c)) * 2 ^ c) 0
  (s.setFld (mt t Reg.Tile.FAULT_STAT) 0 16 (mask contr)).wrN (mt t Reg.Tile.LATCH_SUM)
    (mask s.mirLatched + mask (fun n => s.bit (mc n Reg.Chan.PROT_STAT) 6) * 2 ^ 16)

/-! ## Sending -/

/-- SRC code of a master (R168). -/
def Master.src : Master → Nat
  | .half h => h.code2
  | .shep => 3

/-- The claim number a master's requests carry (R174). -/
def TileCtl.claimOf (c : TileCtl) (src : Nat) : Nat := if src = 1 then c.claimA else if src = 2 then c.claimB else 0

/-- A request leaves on the link with the next SEQ (R168, R531). -/
def State.tcSend (s : State) (t : Nat) (e : TcEntry) : State :=
  let c := s.tc t
  let q := { e.req with seq := c.seq }
  ((s.setTc t { c with seq := (c.seq + 1) % 16, sent := c.sent ++ [{ e with req := q }] }).emit (.tclReq t q.octets)).ev 0xD1 t

/-- The next waiting request by precedence: KEEPALIVE, the others of LEASH_CTRL and TRST_REQ, WRITE and READ (R173). -/
def TileCtl.nextReq (c : TileCtl) : Option (TcEntry × TileCtl) :=
  match c.ctlQ.find? (fun e => e.req.type == 1) with
  | some e => some (e, { c with ctlQ := c.ctlQ.erase e })
  | none =>
    match c.ctlQ, c.rwQ with
    | e :: r, _ => some (e, { c with ctlQ := r })
    | [], e :: r => some (e, { c with rwQ := r })
    | [], [] => none

/-- Requests go out while fewer than four await a reply (R173). -/
def State.tcPump : Nat → State → Nat → State
  | 0, s, _ => s
  | fuel + 1, s, t =>
    let c := s.tc t
    if 4 ≤ c.sent.length then s
    else
      match c.nextReq with
      | some (e, c') => ((s.setTc t c').tcSend t e).tcPump fuel t
      | none => s

/-- Entries of the write queue in use: from acceptance until the request ends (R173). -/
def TileCtl.rwUsed (c : TileCtl) : Nat :=
  c.rwQ.length + (c.sent.filter (fun e => e.req.type == 4 || e.req.type == 5)).length

/-- Requests of tile control's own that wait take the entries of the write queue that are free (R173). -/
def TileCtl.refill : Nat → TileCtl → TileCtl
  | 0, c => c
  | fuel + 1, c =>
    match c.held with
    | e :: r => if c.rwUsed < 32 then refill fuel { c with rwQ := c.rwQ ++ [e], held := r } else c
    | [] => c

/-- Whatever may wait in the write queue does, and whatever may be sent is sent. -/
def State.pump (s : State) (t : Nat) : State :=
  let c := s.tc t
  (s.onlyIf (!c.held.isEmpty) (·.setTc t (c.refill c.held.length))).tcPump 4 t

/-- A request of LEASH_CTRL, TRST_REQ, an agent or PARK entry waits (R173). -/
def State.ctlPush (s : State) (t : Nat) (q : TclReq) (why : TcWhy) : State :=
  (s.setTc t { s.tc t with ctlQ := (s.tc t).ctlQ ++ [{ req := q, why := why }] }).pump t

/-- A write or read waits in the queue of 32. -/
def State.rwPush (s : State) (t : Nat) (q : TclReq) (why : TcWhy) : State :=
  (s.setTc t { s.tc t with rwQ := (s.tc t).rwQ ++ [{ req := q, why := why }] }).pump t

/-- A write or read of tile control's own waits for an entry of that queue (R173). -/
def State.rwOwn (s : State) (t : Nat) (q : TclReq) (why : TcWhy) : State :=
  (s.setTc t { s.tc t with held := (s.tc t).held ++ [{ req := q, why := why }] }).pump t

/-- An access that needs an entry: it stalls while the queue is full (R173). -/
def State.rwAccess (s : State) (t : Nat) (q : TclReq) (why : TcWhy) : State :=
  if 32 ≤ (s.tc t).rwUsed then s.answer .stalled else s.rwPush t q why

/-- A WRITE of a tile-held register for a master (R174). -/
def State.tcWrite (s : State) (m : Master) (t unit off : Nat) (v : Word) : TclReq :=
  { type := 4, seq := 0, src := m.src, claim := (s.tc t).claimOf m.src, unit := unit, reg := (off - 0x40) / 4, data := v }

/-- A READ of a tile-held register (R169). -/
def tcRead (unit off : Nat) : TclReq := { type := 5, seq := 0, src := 3, claim := 0, unit := unit, reg := (off - 0x40) / 4 }

/-! ## Outcomes -/

/-- Bits of CLAIM_RESULT of the half with an SRC code: the result of tile t; with every tile final, VALID, TAKEOVER_DONE
and CLAIM_FAIL (R280). -/
def State.claimResult (s : State) (src t r : Nat) : State :=
  let h := halfOf (src - 1)
  let k := hreg h Reg.Half.CLAIM_RESULT
  let s := s.setFld k (2 * t) 2 r
  let rs := (List.range 8).map (fun i => s.fld k (2 * i) 2)
  if rs.all (fun x => x == 1 || x == 3) && !s.bit k 31 then
    ((s.setBit k 31 true).raise (halfBase h.idx) 18).onlyIf (rs.any (· != 1)) (·.raise (halfBase h.idx) 19)
  else s

/-- A read of a tile-held field ends (R175). Over the side band the bus error is NO_PAGE: R45 has no code of its own for it
(log entry 92). -/
def State.readEnds (s : State) (acc : Access) (r : Resp) : State :=
  match r, acc.master with
  | .busError, .shep => s.sbRefuse sbNoPage
  | _, _ => s.answer r

/-- The answer of the tile for a read that waits: to its reader, or kept for one who presents its access again, as long as the
mirror is not valid (R175). -/
def State.serveEnds (s : State) (t : Nat) (acc : Access) (addr : Nat) (again : Bool) (r : Resp) : State :=
  if !again then s.readEnds acc r
  else if s.mirrorValid t then s
  else { s with served := s.served ++ [(acc, addr, r)] }

/-- A request ends refused, aborted or timed out (R174, R177): LAST_NACK, NACK_CNT and the tile's NACK; then what the
request was for. -/
def State.tcFail (s : State) (t : Nat) (e : TcEntry) (reason : Nat) : State :=
  let s := s.wrN (mt t Reg.Tile.LAST_NACK) (reason + e.req.type % 16 * 2 ^ 4 + e.req.src % 4 * 2 ^ 8 + 2 ^ 31)
  let s := (s.count (mt t Reg.Tile.NACK_CNT)).raise (tileBase t) 21
  match e.why with
  | .clear n => (s.setBusy (chanBase n) false).cmdResult (chanBase n) .refused
  | .serve acc addr again => s.serveEnds t acc addr again .busError
  | .takeover second =>
    if reason = 2 && !second then
      (s.claimResult e.req.src t 2).rwOwn t { tcRead 0x10 Reg.Tile.LEASH_STAT with src := e.req.src } .takeoverRead
    else s.claimResult e.req.src t 3
  | .takeoverRead => s.claimResult e.req.src t 3
  | _ => s

/-- A half loses a tile's Leash (R183). -/
def State.leashLost (s : State) (t : Nat) (h : Half) : State :=
  (s.setTc t ((s.tc t).setAgent h false)).raise (tileBase t) 17

/-- What any valid reply reports (R173, R175, R183, R194): the link, the Leash state and its changes, the claim warning,
a tile found reset, and agents whose tile names another holder. -/
def State.report (s : State) (t : Nat) (r : TclRep) : State :=
  let st := mt t Reg.Tile.TILE_STAT
  let s := s.onlyIf (!s.linkUp t) (fun s => (s.setBit st 0 true).setBit st 1 false)
  let was := s.fld (tileBase t + Reg.Hdr.UNIT_STAT) 16 3
  let s := s.onlyIf (was != r.state) (fun s =>
    let s := (s.setBlockStat (tileBase t) r.state).ev 0xD7 t
    s.onlyIf (2 ≤ r.state && r.state ≤ 4) (·.raise (tileBase t) (16 + r.state)))
  let s := s.onlyIf (decide (0xFF00 ≤ r.cur) && !s.bit st 6) (fun s => (s.setBit st 6 true).raise (tileBase t) 24)
  let s := s.onlyIf (r.state == 0 && r.cur == 0 && !(s.tc t).expReset && s.rdN (mt t Reg.Tile.LEASH_STAT) != 0) (fun s =>
    ((s.setBit st 1 false).raise (tileBase t) 23).setFld (sadcBase t + Reg.Sadc.SADC_STAT) 0 4 0)
  s.each [Half.a, Half.b] (fun s h => s.onlyIf ((s.tc t).agent h && r.holder != h.code2) (·.leashLost t h))

/-- The mirror's Leash and channel states as a matched reply shows them (R174, R198); a claim shown ends the time in which the
tile's own reset is expected. -/
def State.mirReply (s : State) (t : Nat) (r : TclRep) : State :=
  let s := s.wrN (mt t Reg.Tile.LEASH_STAT) (r.cur % 2 ^ 16 + r.holder % 4 * 2 ^ 16 + r.state % 8 * 2 ^ 18)
  let s := s.onlyIf (r.cur != 0 && r.state != 0 && (s.tc t).expReset) (fun s => s.setTc t { s.tc t with expReset := false })
  s.each (tileChans t) (fun s n =>
    let v := setBits (s.rd (mc n Reg.Chan.CH_STAT)) 4 3 (s.mirSrc n r.state)
    s.putChStat n (if r.type = 9 then setBits v 0 1 (b2n (r.out.testBit (n % 16))) else v))

/-- Huarneel adopts the tile's levels as its image at the first claim after SRST, else presents its image (R134,
R135). -/
def State.adoptImage (s : State) (t out : Nat) : State :=
  let s := s.onlyIf (!(s.tc t).adopted) (fun s =>
    let s := s.each (tileChans t) (fun s n =>
      s.setLevel n (out.testBit (n % 16)) s.tb0.nsTotal)
    s.setTc t { s.tc t with adopted := true })
  s.each (tileChans t) (fun s n => s.putLine n (s.level n) s.tb0.nsTotal)

/-- The new holder's agent writes STAY_TIME and the sixteen CH_POL words to the tile (R186). -/
def State.copyPolicies (s : State) (t : Nat) (m : Master) : State :=
  let s := s.rwOwn t (s.tcWrite m t 0x10 Reg.Tile.STAY_TIME (s.rd (mt t Reg.Tile.STAY_TIME))) .policy
  s.each (tileChans t) (fun s n =>
    s.rwOwn t (s.tcWrite m t (n % 16) Reg.Chan.CH_POL (s.rd (mc n Reg.Chan.CH_POL))) .policy)

/-- An accepted CLAIM or RENEW: the half's claim number, its agent, CLAIM_DONE, the image and the policies; a takeover's
result (R174, R178, R182, R186, R280). -/
def State.claimDone (s : State) (t : Nat) (e : TcEntry) (r : TclRep) : State :=
  let h := halfOf (e.req.src - 1)
  let c := s.tc t
  let c := if e.req.src = 1 then { c with claimA := e.req.claim } else { c with claimB := e.req.claim }
  let s := s.setTc t (c.setAgent h (s.role h == roleActive && s.running h))
  let s := ((s.raise (tileBase t) 16).adoptImage t r.out).onlyIf (s.role h == roleActive) (·.copyPolicies t (.half h))
  match e.why with
  | .takeover _ => s.claimResult e.req.src t 1
  | _ => s

/-- The tile's own TRST was answered: the mirror takes the Reset values the tile will, UNCLAIMED with them, no agent holds it
(R175, R189, R193). SYNC is no copy of the tile's and moves by polSync alone. -/
def State.trstDone (s : State) (t : Nat) : State :=
  let was := s
  let s := s.losePages (fun p => decide (tileBase t ≤ p.base ∧ p.base < tileBase t + 0x20000)) (· == .t)
  let s := s.each (tileChans t) (fun s n => s.setBit (mc n Reg.Chan.CH_POL_ACT) 31 (was.bit (mc n Reg.Chan.CH_POL_ACT) 31))
  let s := s.setTc t { s.tc t with expReset := true, agentA := false, agentB := false }
  let s := s.onlyIf (s.fld (tileBase t + Reg.Hdr.UNIT_STAT) 16 3 != 0) (fun s => (s.setBlockStat (tileBase t) 0).ev 0xD7 t)
  (s.each (tileChans t) State.reSrc).polSync t

/-- A reply's request taken from those awaiting one: the oldest with its SEQ that the reply's type answers (R170). -/
def TileCtl.match? (c : TileCtl) (r : TclRep) : Option TcEntry :=
  c.sent.find? (fun e => e.req.seq == r.seq &&
    (match r.type with
     | 9 => e.req.type == 1 || e.req.type == 2 || e.req.type == 3 || e.req.type == 6 || e.req.type == 7
     | 10 => e.req.type == 4
     | 11 => e.req.type == 5
     | _ => e.req.type == r.refType))

/-- A valid reply arrives (R173): it reports the tile; a matched one ends its request, moves the mirror and has its
effect, and the link goes on. -/
def State.tcReply (s : State) (t : Nat) (r : TclRep) (k : State → TcEntry → State) : State :=
  let s := s.report t r
  match (s.tc t).match? r with
  | none => s
  | some e =>
    let s := s.setTc t { s.tc t with sent := (s.tc t).sent.erase e, timeouts := 0 }
    let h := halfOf (e.req.src - 1)
    let s := s.onlyIf ((e.req.src == 1 || e.req.src == 2) && r.holder != e.req.src) (·.leashLost t h)
    (k (s.mirReply t r) e).pump t

/-- REPLY_STATUS. -/
def replyStatus (t : Nat) (r : TclRep) (s : State) : State :=
  s.tcReply t { r with type := 9 } (fun s e =>
    if e.req.type = 2 ∨ e.req.type = 3 then s.claimDone t e r
    else if e.req.type = 7 then s.trstDone t
    else s)

def execReplyStatus (t : Fin 8) (r : TclRep) (s : State) : Host.Outcome State Fault Refusal := .next (replyStatus t.val r s)

/-- Interrupts of a channel's protection mirrors as they change from what they were in `was` (R230). -/
def State.protIrqs (s : State) (n : Nat) (was : State) : State :=
  let of (s : State) (o : Nat) : Word := s.rd (mc n o)
  let ps := of was Reg.Chan.PROT_STAT
  let nps := of s Reg.Chan.PROT_STAT
  let tc := of was Reg.Chan.TRIP_CNT
  let ntc := of s Reg.Chan.TRIP_CNT
  let dh := of s Reg.Chan.DIAG_HIST &&& 0x13F &&& ~~~of was Reg.Chan.DIAG_HIST
  let more := bitsOf (of was Reg.Chan.RESTART_CNT) 0 16 < bitsOf (of s Reg.Chan.RESTART_CNT) 0 16
  let b := chanBase n
  let s := s.onlyIf (bitsOf tc 0 16 < bitsOf ntc 0 16) (·.raise b 18)
  let s := s.onlyIf (bitsOf tc 16 16 < bitsOf ntc 16 16) (·.raise b 19)
  let s := s.onlyIf (bitsOf ps 0 3 != 5 && bitsOf nps 0 3 == 5) (·.raise b 20)
  let s := s.onlyIf more (·.raise b 21)
  let s := s.onlyIf (!bitOf ps 16 && bitOf nps 16) (·.raise b 22)
  let s := s.onlyIf (dh != 0) (·.raise b 23)
  s.onlyIf (!bitOf ps 7 && bitOf nps 7) (·.raise b 24)

/-- A register of a channel entered into the mirror, the interrupts of the protection registers, and what the page and the
tile's page derive (R190, R222, R230, R231). -/
def State.enterChan (s : State) (n off : Nat) (v : Word) : State :=
  ((((s.wr (mc n off) v).protIrqs n s).reSrc n).mirFaults (n / 16))

/-- The value a tile applied or read, entered into the mirror (R174, R175). -/
def State.enter? (s : State) (t unit off : Nat) (v : Word) : State :=
  if unit = 0x10 then
    if off = Reg.Tile.STAY_TIME ∨ off = Reg.Tile.STAY_TIME_ACT then s.wr (mt t Reg.Tile.STAY_TIME_ACT) v
    else if off = Reg.Tile.TILE_STAT then s.setFld (mt t Reg.Tile.TILE_STAT) 3 3 (bitsOf v 3 3)
    else if off = Reg.Tile.LEASH_STAT then s
    else if off = Reg.Tile.IO_STATE ∨ off = Reg.Tile.LH_STATE then (s.wr (mt t off) v).each (tileChans t) State.ioChan
    else s.wr (mt t off) v
  else
    let n := 16 * t + unit
    if off = Reg.Chan.CH_POL ∨ off = Reg.Chan.CH_POL_ACT then
      (s.setFld (mc n Reg.Chan.CH_POL_ACT) 0 9 (bitsOf v 0 9)).ioChan n
    else if off = Reg.Chan.PROT_CLR then s
    else if off = Reg.Chan.CH_STAT then s.putChStat n v
    else s.enterChan n off v

/-- REPLY_ACK: the value as applied enters the mirror; CLEAR of a channel ends (R174, R216). -/
def replyAck (t : Nat) (r : TclRep) (s : State) : State :=
  s.tcReply t { r with type := 10 } (fun s e =>
    let s := (s.enter? t e.req.unit (regOff e.req.reg) r.data).polSync t
    match e.why with
    | .clear n => (s.setBusy (chanBase n) false).cmdResult (chanBase n) (if bitOf r.data 1 then .done else .refused)
    | _ => s)

def execReplyAck (t : Fin 8) (r : TclRep) (s : State) : Host.Outcome State Fault Refusal := .next (replyAck t.val r s)

/-- What a served read answers (R175): the DATA, and for CH_POL_ACT SYNC with it (R198). -/
def State.servedWord (s : State) (t : Nat) (e : TcEntry) (r : TclRep) : Word :=
  if e.req.unit < 16 ∧ regOff e.req.reg = Reg.Chan.CH_POL_ACT then s.rd (mc (16 * t + e.req.unit) Reg.Chan.CH_POL_ACT) else r.data

/-- REPLY_DATA: the mirror takes the value; a stalled read is served; a refused takeover CLAIM is tried once more with the
CUR read + 1 (R175, R280). -/
def replyData (t : Nat) (r : TclRep) (s : State) : State :=
  s.tcReply t { r with type := 11 } (fun s e =>
    let s := (s.enter? t e.req.unit (regOff e.req.reg) r.data).polSync t
    match e.why with
    | .serve acc addr again => s.serveEnds t acc addr again (.data (s.servedWord t e r))
    | .takeoverRead =>
      s.tcSend t
        { req := { type := 2, seq := 0, src := e.req.src, claim := (bitsOf r.data 0 16 + 1) % 65536 }, why := .takeover true }
    | _ => s)

def execReplyData (t : Fin 8) (r : TclRep) (s : State) : Host.Outcome State Fault Refusal := .next (replyData t.val r s)

/-- REPLY_NACK: the mirror's registers stay, the refusal is recorded; a half whose request was STALE_CLAIM loses the
Leash (R174, R183). -/
def replyNack (t : Nat) (r : TclRep) (s : State) : State :=
  s.tcReply t { r with type := 12 } (fun s e =>
    let h := halfOf (e.req.src - 1)
    let s := s.onlyIf (r.reason == 1 && (e.req.src == 1 || e.req.src == 2)) (·.leashLost t h)
    (s.ev 0xD2 t).tcFail t e r.reason)

def execReplyNack (t : Fin 8) (r : TclRep) (s : State) : Host.Outcome State Fault Refusal := .next (replyNack t.val r s)

/-- Tiles whose link is down, as a mask. -/
def State.downMask (s : State) : Nat := (List.range 8).foldl (fun a t => a + b2n (!s.linkUp t) * 2 ^ t) 0

/-- LINK_UP clears (R173): LINK_DOWN, source TILE_LINK. -/
def State.tcLinkDown (s : State) (t : Nat) : State :=
  let s := (s.setBit (mt t Reg.Tile.TILE_STAT) 0 false).raise (tileBase t) 22
  s.record 33 (word s.downMask)

/-- An attempt fails for want of a valid reply (R173): sent again up to two more times with the same SEQ, then the request
ends with TIMEOUT, and three such in a row take the link down. `began`: the octets of the reply that began, if one did; one
that proves valid is no failed attempt, and one whose CRC or length is wrong counts. -/
def replyTimeout (t seq : Nat) (began : Option (List Nat)) (s : State) : State :=
  let c := s.tc t
  match c.sent.find? (fun e => e.req.seq == seq) with
  | none => s
  | some e =>
    if began.any tclReplyGood then s
    else
    let err := mt t Reg.Tile.TCL_ERR
    let s := s.onlyIf began.isSome (·.countFld err 0 16)
    if e.tries < 2 then
      (s.setTc t { c with sent := c.sent.map (fun (x : TcEntry) => if x = e then { x with tries := x.tries + 1 } else x) }).emit
        (.tclReq t e.req.octets)
    else
      let s := s.setTc t { c with sent := c.sent.erase e, timeouts := c.timeouts + 1 }
      let s := ((s.countFld err 16 16).ev 0xD3 t).tcFail t e 0xF
      let s := s.onlyIf (decide (3 ≤ (s.tc t).timeouts) && s.linkUp t) (·.tcLinkDown t)
      s.pump t

def execReplyTimeout (t : Fin 8) (seq : Fin 16) (began : Option (List Nat)) (s : State) : Host.Outcome State Fault Refusal :=
  .next (replyTimeout t.val seq.val began s)

/-! ## Requests of masters -/

/-- LEASH_CTRL for a writing master (R183, R195): CLAIM with CUR + 1, RENEW with CUR, PARK. -/
def leashCtrl (m : Master) (t : Nat) (v : Word) (s : State) : State :=
  let req (type claim : Nat) : TclReq := { type := type, seq := 0, src := m.src, claim := claim }
  let s := s.onlyIf (bitOf v 0) (fun s => s.ctlPush t (req 2 ((s.mirCur t + 1) % 65536)) .agent)
  let s := s.onlyIf (bitOf v 1) (fun s => s.ctlPush t (req 3 (s.mirCur t)) .agent)
  s.onlyIf (bitOf v 2) (fun s => s.ctlPush t (req 6 ((s.tc t).claimOf m.src)) .agent)

def execLeashCtrlClaim (acc : Access) (t : Fin 8) (s : State) : Host.Outcome State Fault Refusal :=
  .next (s.write acc 4 (mt t.val Reg.Tile.LEASH_CTRL) 1 (fun acc => leashCtrl acc.master t.val 1))

def execLeashCtrlRenew (acc : Access) (t : Fin 8) (s : State) : Host.Outcome State Fault Refusal :=
  .next (s.write acc 4 (mt t.val Reg.Tile.LEASH_CTRL) 2 (fun acc => leashCtrl acc.master t.val 2))

def execLeashCtrlPark (acc : Access) (t : Fin 8) (s : State) : Host.Outcome State Fault Refusal :=
  .next (s.write acc 4 (mt t.val Reg.Tile.LEASH_CTRL) 4 (fun acc => leashCtrl acc.master t.val 4))

/-- TRST_REQ: 0x0000C3A5 sends TRST; any other value is ignored (R189). -/
def trstReq (m : Master) (t : Nat) (v : Word) (s : State) : State :=
  if v = 0xC3A5 then
    s.ctlPush t { type := 7, seq := 0, src := m.src, claim := (s.tc t).claimOf m.src, key := 0xC3A5 } .agent
  else s

def execTrstReq (acc : Access) (t : Fin 8) (v : Word) (s : State) : Host.Outcome State Fault Refusal :=
  .next (s.write acc 4 (mt t.val Reg.Tile.TRST_REQ) v (fun acc => trstReq acc.master t.val v))

/-- Offsets of the registers a posted write reaches: CH_CFG, OC_CFG, RETRY_CFG, TH_CFG, DIAG_CFG, FLT_MASK, PROT_CLR. -/
def rwtOffs : List Nat :=
  [Reg.Chan.CH_CFG, Reg.Chan.OC_CFG, Reg.Chan.RETRY_CFG, Reg.Chan.TH_CFG, Reg.Chan.DIAG_CFG, Reg.Chan.FLT_MASK,
   Reg.Chan.PROT_CLR]

/-- A write of a tile-held register is posted (R174); Shepherd's ends with NOT_CLAIMED, as the Leash will refuse it
(R44). -/
def rwtWrite (m : Master) (n off : Nat) (v : Word) (s : State) : State :=
  let s := s.rwAccess (n / 16) (s.tcWrite m (n / 16) (n % 16) off v) .master
  match m with
  | .half _ => s
  | .shep => s.sbRefuse sbNotClaimed

def execRwtWrite (acc : Access) (n : Fin 128) (r : Fin 7) (v : Word) (s : State) : Host.Outcome State Fault Refusal :=
  let off := rwtOffs.getD r.val 0
  .next (s.write acc 4 (mc n.val off) v (fun acc => rwtWrite acc.master n.val off v))

/-- A write of STAY_TIME (`unit` 16) or CH_POL: the P register, the copies' SYNC, and from the holder a WRITE to the
tile (R186). A worn word takes nothing (R320). -/
def policyWrite (acc : Access) (t unit : Nat) (v : Word) (s : State) : State :=
  let tile := unit == 16
  let off := if tile then Reg.Tile.STAY_TIME else Reg.Chan.CH_POL
  let key := if tile then mt t off else mc (16 * t + unit) off
  let prim := if tile then tileBase t else chanBase (16 * t + unit)
  let v' := if tile then word (stayTimeStored v) else v &&& 0x1FF
  if s.worn key then s.writeP acc prim key v'
  else
    let s := (s.writeP acc prim key v').polSync t
    if acc.master.src = s.mirHolder t then s.rwAccess t (s.tcWrite acc.master t unit off v') .master else s

def execPolicyWrite (acc : Access) (t : Fin 8) (unit : Fin 17) (v : Word) (s : State) : Host.Outcome State Fault Refusal :=
  let key := if unit.val = 16 then mt t.val Reg.Tile.STAY_TIME else mc (16 * t.val + unit.val) Reg.Chan.CH_POL
  .next (s.write acc 4 key v (fun acc => policyWrite acc t.val unit.val v))

/-! ## What tile control does of itself -/

/-- The agent of a half that is ACTIVE and RUNNING sends KEEPALIVE to each tile it holds (R182, R263). -/
def keepaliveTimer (h : Half) (s : State) : State :=
  if s.role h == roleActive && s.running h then
    s.each ((List.range 8).filter (fun t => (s.tc t).agent h)) (fun s t =>
      s.ctlPush t { type := 1, seq := 0, src := h.code2, claim := (s.tc t).claimOf h.code2 } .agent)
  else s

def execKeepaliveTimer (h : Half) (s : State) : Host.Outcome State Fault Refusal := .next (keepaliveTimer h s)

/-- The start-up request for a tile: RENEW where the mirror names the half and CUR is not 0, else CLAIM (R263, R323). -/
def State.startClaim (s : State) (h : Half) (t : Nat) : State :=
  let s := s.setTc t { s.tc t with start := none }
  if s.mirHolder t = h.code2 ∧ s.mirCur t ≠ 0 then
    s.ctlPush t { type := 3, seq := 0, src := h.code2, claim := s.mirCur t } .agent
  else s.ctlPush t { type := 2, seq := 0, src := h.code2, claim := (s.mirCur t + 1) % 65536 } .agent

/-- The active half became RUNNING: its agent starts on every tile, as soon as the tile's mirror is valid (R263). -/
def State.startAgent (s : State) (h : Half) : State :=
  s.each (List.range 8) (fun s t =>
    if s.mirrorValid t then s.startClaim h t else s.setTc t { s.tc t with start := some h })

/-- Whether a register of a tile's pages is tile-held: class T. -/
def tileHeld (t key : Nat) : Bool :=
  decide (tileBase t ≤ key ∧ key < tileBase t + 0x20000) &&
    (match keyCls key with | some (_, k) => k == .t | none => false)

/-- Tile-held registers of a channel. -/
def chanHeld : List Nat :=
  [Reg.Chan.CH_CFG, Reg.Chan.CH_POL_ACT, Reg.Chan.CLAMP_CNT, Reg.Chan.OC_CFG, Reg.Chan.RETRY_CFG, Reg.Chan.TH_CFG,
   Reg.Chan.DIAG_CFG, Reg.Chan.FLT_MASK, Reg.Chan.PROT_STAT, Reg.Chan.DIAG_HIST, Reg.Chan.TRIP_CNT, Reg.Chan.RESTART_CNT]

/-- REGULATING of a channel in an open regulating window as it is now (R206), and PROT with it. -/
def State.reRegulate (s : State) (n : Nat) : State :=
  s.onlyIf (s.regOpen n) (fun s => let s := s.regulate n; s.setFld (tk n Reg.Chan.PROT_STAT) 0 3 (s.protCode n))

/-- Tile control reads a channel's protection registers: the mirrors, their interrupts, UNIT_STAT, and an input of the
distributor where they changed (R222, R266). -/
def State.readProt (s : State) (n : Nat) : State :=
  let offs := [Reg.Chan.PROT_STAT, Reg.Chan.DIAG_HIST, Reg.Chan.TRIP_CNT, Reg.Chan.RESTART_CNT]
  let was := s
  let old := offs.map (fun o => s.rd (mc n o))
  let s := s.reRegulate n
  let s := s.each offs (fun s o => s.wr (mc n o) (s.rd (tk n o)))
  let s := (s.protIrqs n was).refreshChan n
  s.onlyIf (old != offs.map (fun o => s.rd (mc n o))) (fun s =>
    s.distNow 0x0C n (s.rd (mc n Reg.Chan.PROT_STAT)) (s.rd (mc n Reg.Chan.DIAG_HIST)) (s.rd (mc n Reg.Chan.TRIP_CNT)))

/-- Tile control reads the tile's own conditions (R154, R156, R222): the band, the moves recorded since, the supply
current and its warning, the limp-home and IO levels with CH_STAT of every channel (R198). -/
def State.readTile (s : State) (t : Nat) : State :=
  let m := s.tile t
  let st := mt t Reg.Tile.TILE_STAT
  let warn := m.supWarn && !s.bit st 5
  let s := s.setFld st 3 3 (s.tileConds t / 8)
  let s := (s.onlyIf m.moved (·.raise (tileBase t) 26)).onlyIf warn (·.raise (tileBase t) 25)
  let s := s.setTile t { m with moved := false }
  let s := s.wrN (mt t Reg.Tile.SUPPLY_I) (s.supplyMean t % 2 ^ 16)
  let s := s.wrN (mt t Reg.Tile.LH_STATE) m.lh
  let s := s.wrN (mt t Reg.Tile.IO_STATE) (m.inLv % 2 ^ 16 + s.outWord t * 2 ^ 16)
  s.each (tileChans t) State.ioChan

/-- MIRROR_REFRESH (R222): the reads of one round; while the link is down the mirrors keep their values. -/
def mirrorRefresh (t : Nat) (s : State) : State :=
  if s.linkUp t && (s.tile t).powered && !(s.tile t).starting then
    let s := s.each (tileChans t) State.readProt
    (s.readTile t).mirFaults t
  else s

def execMirrorRefresh (t : Fin 8) (s : State) : Host.Outcome State Fault Refusal := .next (mirrorRefresh t.val s)

/-- The reload of a channel's registers, with the interrupts of those that changed (R175, R197, R230). SYNC is no copy of the
tile's. -/
def State.reloadChan (s : State) (t n : Nat) : State :=
  let was := s
  let s := s.each (chanHeld.erase Reg.Chan.CH_POL_ACT) (fun s o => s.wr (mc n o) (s.rd (tk n o)))
  let s := s.setFld (mc n Reg.Chan.CH_POL_ACT) 0 9 (s.fld (tk n Reg.Chan.CH_POL_ACT) 0 9)
  (s.protIrqs n was).putChStat n ((s.tileRead t (n % 16) Reg.Chan.CH_STAT).getD 0)

/-- MIRROR_RELOAD (R175): every tile-held register read, each reply reporting the Leash (R183, R194); the link is up and the
mirror valid; a start-up claim that waited goes out. -/
def mirrorReload (t : Nat) (s : State) : State :=
  if !(s.tile t).powered || (s.tile t).starting then s
  else
    let st := mt t Reg.Tile.TILE_STAT
    let s := s.report t { type := 11, seq := 0, holder := s.leashHolder t, state := s.leashState t, cur := s.leashCur t }
    let s := s.each [Reg.Tile.LEASH_STAT, Reg.Tile.STAY_TIME_ACT] (fun s o => s.wr (mt t o) (s.rd (tt t o)))
    let s := s.each (tileChans t) (fun s n => s.reloadChan t n)
    let s := (((s.readTile t).mirFaults t).setFld st 0 2 3).polSync t
    let s := s.setTc t { s.tc t with expReset := false, timeouts := 0 }
    let s := { s with served := s.served.filter (fun x => !decide (tileBase t ≤ x.2.1 ∧ x.2.1 < tileBase t + 0x20000)) }
    match (s.tc t).start with
    | some h => s.startClaim h t
    | none => s

def execMirrorReload (t : Fin 8) (s : State) : Host.Outcome State Fault Refusal := .next (mirrorReload t.val s)

/-- LEASH_POLL (R175): no reply has reported the tile's state for 1 ms. -/
def execLeashPoll (t : Fin 8) (s : State) : Host.Outcome State Fault Refusal :=
  .next (s.rwOwn t.val (tcRead 0x10 Reg.Tile.LEASH_STAT) .poll)

/-- A request in progress is aborted by a takeover CLAIM (R173): the newest, if one is on the link; whether one is still
being sent is free. -/
def State.tcAbort (s : State) (t : Nat) : State :=
  match (s.tc t).sent.getLast? with
  | none => s
  | some e =>
    let r := s.freshBool
    if r.1 then (r.2.setTc t { r.2.tc t with sent := (r.2.tc t).sent.erase e }).tcFail t e 0xE else r.2

/-- TAKEOVER_CLAIM (R279, R281): CLAIM to every tile with CUR + 1 from the mirror, at takeover priority, or after an
ASSUME as LEASH_CTRL requests are sent. -/
def takeoverClaim (s : State) : State :=
  match s.claimDue with
  | none => s
  | some (h, prio) =>
    { s with claimDue := none }.each (List.range 8) (fun s t =>
      let q : TclReq := { type := 2, seq := 0, src := h.code2, claim := (s.mirCur t + 1) % 65536 }
      if prio then (s.tcAbort t).tcSend t { req := q, why := .takeover false }
      else s.ctlPush t q (.takeover false))

def execTakeoverClaim (s : State) : Host.Outcome State Fault Refusal := .next (takeoverClaim s)

/-! ## Commands of a channel page -/

/-- Whether CLEAR, ON or OFF of a channel is refused at once: R132's ownership check, or the tile not in HELD (R190,
R216). -/
def State.chanRefused (s : State) (acc : Access) (n : Nat) : Bool := !s.lineOk acc n || s.mirState (n / 16) != 1

/-- ON of a channel (R190): refused as above, with CH_CFG.EN 0 or a latch; DONE when the line is set. -/
def channelOn (acc : Access) (n : Nat) (s : State) : State :=
  if s.busy (chanBase n) then s.cmdResult (chanBase n) .busy
  else if s.chanRefused acc n || !s.bit (mc n Reg.Chan.CH_CFG) 0 || s.mirLatched n then s.cmdResult (chanBase n) .refused
  else (s.driveLine n true s.tb0.nsTotal false).cmdResult (chanBase n) .done

/-- OFF of a channel (R190). -/
def channelOff (acc : Access) (n : Nat) (s : State) : State :=
  if s.busy (chanBase n) then s.cmdResult (chanBase n) .busy
  else if s.chanRefused acc n then s.cmdResult (chanBase n) .refused
  else (s.driveLine n false s.tb0.nsTotal false).cmdResult (chanBase n) .done

/-- CLEAR of a channel (R216): PROT_CLR with all four bits; BUSY until the ACK arrives. -/
def channelClear (acc : Access) (n : Nat) (s : State) : State :=
  if s.busy (chanBase n) then s.cmdResult (chanBase n) .busy
  else if s.chanRefused acc n then s.cmdResult (chanBase n) .refused
  else if 32 ≤ (s.tc (n / 16)).rwUsed then s.answer .stalled
  else
    (s.setBusy (chanBase n) true).rwPush (n / 16) (s.tcWrite acc.master (n / 16) (n % 16) Reg.Chan.PROT_CLR 0xF) (.clear n)

def execChannelOn (acc : Access) (n : Fin 128) (s : State) : Host.Outcome State Fault Refusal :=
  .next (s.write acc 4 (mc n.val Reg.Hdr.UNIT_CTRL) 1 (fun acc => channelOn acc n.val))

def execChannelOff (acc : Access) (n : Fin 128) (s : State) : Host.Outcome State Fault Refusal :=
  .next (s.write acc 4 (mc n.val Reg.Hdr.UNIT_CTRL) 2 (fun acc => channelOff acc n.val))

def execChannelClear (acc : Access) (n : Fin 128) (s : State) : Host.Outcome State Fault Refusal :=
  .next (s.write acc 4 (mc n.val Reg.Hdr.UNIT_CTRL) 3 (fun acc => channelClear acc n.val))

end Sys2Proof.Machine
end

