-- ==== Sys2Proof/Machine/Halves.lean ====
section
/-! DEFINITION. The two halves: the input distributor's delivery, barks and echoes, path and peer silence, role requests,
and the comparison of output commands (R264 to R295). -/

namespace Sys2Proof.Machine

/-! ## The input distributor -/

/-- Records of a half's input ring: 2^(SIZE + 6), SIZE at most 10 (R265, R296). -/
def State.ringLen (s : State) (h : Half) : Nat := 2 ^ (min 10 (s.fld (lreg h Reg.Local.RING_CFG) 0 4) + 6)

/-- Whether a half receives items: ROLE ACTIVE, RESYNC or HEEL (R264). -/
def State.inStep (s : State) (h : Half) : Bool := s.role h != roleOffline

/-- An item numbered `seq` was delivered to a half: INSEQ and, for the first after RESYNC_REQ, FIRST_SEQ (R287, R296). -/
def State.delivered (s : State) (h : Half) (seq : Nat) : State :=
  let s := (s.wrN (lreg h Reg.Local.INSEQ_LO) seq).wrN (lreg h Reg.Local.INSEQ_HI) (seq / 2 ^ 32)
  if (s.halfSt h).first then
    ((s.wrN (lreg h Reg.Local.FIRST_SEQ_LO) seq).wrN (lreg h Reg.Local.FIRST_SEQ_HI) (seq / 2 ^ 32)).setHalfSt h
      { s.halfSt h with first := false }
  else s

/-- The next INSEQ (R264). -/
def State.nextInseq (s : State) : Nat × State :=
  let n := (s.inseq + 1) % 2 ^ 48
  (n, { s with inseq := n })

/-- An item is lost for a half (R267, R268, R296): counted, RING_FULL, its next record carries GAP, or its next item where
the item was a frame's copy; a half in HEEL or RESYNC becomes OFFLINE. -/
def State.inputLost (s : State) (h : Half) (frame : Bool) : State :=
  let s := ((s.count (hreg h Reg.Half.INPUT_LOST_CNT)).raise (halfBase h.idx) 23).evHalf h.idx 0x45 0
  let m := s.halfSt h
  let s := (s.raise (localBase h.idx) 17).setHalfSt h { m with gap := m.gap || frame, gapRec := m.gapRec || !frame }
  if s.role h = roleHeel ∨ s.role h = roleResync then s.setRole h roleOffline (some causeInputLost) else s

/-- A record goes to a half's ring, or is lost where the ring is full or not enabled (R265, R267, R296). -/
def State.ringRecord (s : State) (h : Half) (seq : Nat) (x : DistItem) : State :=
  let len := s.ringLen h
  let w := s.fld (lreg h Reg.Local.RING_WR) 0 16
  let r := s.fld (lreg h Reg.Local.RING_RD) 0 16
  if !s.bit (lreg h Reg.Local.RING_CFG) 8 ∨ (w + 1) % len = r % len then s.inputLost h false
  else
    let m := s.halfSt h
    let flags := x.flags + 4 * b2n (m.gap || m.gapRec)
    let ws : List Word := [word seq, word (flags * 2 ^ 24 + x.source * 2 ^ 16 + seq / 2 ^ 32), x.tsLo, x.tsHi, word x.id,
      x.w5, x.w6, x.w7]
    let s := s.emit (.memWrite h (s.rdN (lreg h Reg.Local.RING_BASE) + 32 * (w % len)) (ws.flatMap octets))
    let s := (s.wrN (lreg h Reg.Local.RING_WR) ((w + 1) % len)).onlyIf (r == w) (·.raise (localBase h.idx) 16)
    let s := (s.setHalfSt h { s.halfSt h with gap := false, gapRec := false }).evHalf h.idx 0x44 0
    s.delivered h seq

/-- Whether a half receives the item numbered `seq` (R264, R287): it is in step, and was when the item was numbered. -/
def State.receives (s : State) (h : Half) (seq : Nat) : Bool := s.inStep h && decide ((s.halfSt h).since < seq)

/-- The numbers of the frames still on their way through the fabric to a half's host port (R264). -/
def State.framesDue (s : State) (h : Half) : List Nat :=
  (s.frames.filter (fun (f : Frame) => f.inseq != 0 && f.copies.any (fun c => c.port == 26 + h.idx))).map (·.inseq)

/-- R264: the records due for a half are written in the order of their numbers, as long as no frame with a lower number is
still on its way to it or waits at its host port. -/
def State.ringDrain (s : State) (h : Half) : State :=
  let low := s.framesDue h ++ ((s.hostRx h).filter (fun (x : RxItem) => x.inseq != 0)).map (·.inseq)
  let go := s.ringDue.filter (fun (d : Half × Nat × DistItem) => d.1 == h && low.all (fun n => decide (d.2.1 < n)))
  let s := { s with ringDue := s.ringDue.filter (fun (d : Half × Nat × DistItem) => !go.contains d) }
  s.each go (fun (s : State) d => s.onlyIf (s.receives h d.2.1) (·.ringRecord h d.2.1 d.2.2))

/-- DIST_ITEM: the oldest sampled input is numbered for every half in step, and the records due are written, to every half
in ascending order (R264, R265). -/
def distItem (s : State) : State :=
  let s := match s.distQ with
    | [] => s
    | x :: rest =>
      let r := { s with distQ := rest }.nextInseq
      let due := ([Half.a, Half.b].filter r.2.inStep).map (fun h => (h, r.1, x))
      { r.2 with ringDue := r.2.ringDue ++ due }
  (s.ringDrain .a).ringDrain .b

def execDistItem (s : State) : Host.Outcome State Fault Refusal := .next (distItem s)

/-! ## Barks -/

/-- TBF in whole ns. -/
def State.tbfNs (s : State) : Nat := s.time.tbf.nsTotal

/-- One path's side of a half. -/
def State.path (s : State) (h : Half) (net : Bool) : PathSt := if net then (s.halfSt h).net else (s.halfSt h).line

/-- The state with one path's side of a half set. -/
def State.setPath (s : State) (h : Half) (net : Bool) (p : PathSt) : State :=
  if net then s.setHalfSt h { s.halfSt h with net := p } else s.setHalfSt h { s.halfSt h with line := p }

/-- A write of BARK_FEED (R271). -/
def barkFeed (h : Half) (s : State) : State := s.setHalfSt h { s.halfSt h with fed := some s.tbfNs }

def execBarkFeed (acc : Access) (v : Word) (s : State) : Host.Outcome State Fault Refusal :=
  .next (s.write acc 4 (0x40E00000 + Reg.Local.BARK_FEED) v (fun acc s =>
    match acc.master with | .half h => barkFeed h s | .shep => s))

/-- CRC-8 of R272 over a number's seven octets, low octet first. -/
def barkCrc (x : Nat) : Nat :=
  (List.range 7).foldl (fun c i =>
    (List.range 8).foldl (fun c _ => if 128 ≤ c then (c * 2 % 256) ^^^ 7 else c * 2) (c ^^^ (x / 256 ^ i % 256))) 0

/-- A bark word (R272); YIELD as the sender sets it (R277). -/
def State.barkWord (s : State) (h : Half) (kind seq : Nat) (yields : Bool) : Nat :=
  let m := s.halfSt h
  let x := m.lastClosed % 256 + b2n yields * 2 ^ 8 + b2n (m.line.miss == 3) * 2 ^ 9 + b2n (m.net.miss == 3) * 2 ^ 10 +
    b2n m.cmpOk * 2 ^ 11 + s.role h * 2 ^ 16 + h.code2 * 2 ^ 18 + kind * 2 ^ 20 + s.gen sysBase * 2 ^ 24 + seq * 2 ^ 40
  x + barkCrc x * 2 ^ 56

/-- A bark or echo word leaves a half (R271, R274): over the line, or as a Span frame of class BARK through its host port,
which is dead without the switch's power. -/
def State.sendWord (s : State) (h : Half) (net : Bool) (w : Nat) : State :=
  if !net then s.emit (.bark h w) else s.onlyIf (s.domainOn 6) (·.spanSend h s.selfUnit 1 h.idx (bigEnd 8 w))

/-- FEED_WIN in ns, limited to 100 to 1,000 µs (R271, R293). -/
def State.feedWin (s : State) (h : Half) : Nat := limit 100 1000 (s.fld (hreg h Reg.Half.FO_CFG) 4 12) * 1000

/-- Whether a half's barks are permitted (R271). -/
def State.mayBark (s : State) (h : Half) : Bool :=
  s.role h == roleActive && !(s.halfSt h).stopped &&
    (match (s.halfSt h).fed with
     | some t => decide (s.tbfNs ≤ t + s.feedWin h)
     | none => false)

/-- BARK_SEND: the active half's bark on both paths. YIELD is 1 in a word that software or the monitor sends out of the
period (R271, R277); no register says which, so it is free. -/
def barkSend (s : State) : State :=
  let h := s.activeHalf
  if s.mayBark h then
    let y := s.freshBool
    y.2.each [false, true] (fun s net =>
      let p := s.path h net
      let s := s.sendWord h net (s.barkWord h 1 p.tx y.1)
      (s.setPath h net { p with tx := (p.tx + 1) % 65536 }).evHalf h.idx 0x46 (b2n net))
  else s

def execBarkSend (s : State) : Host.Outcome State Fault Refusal := .next (barkSend s)

/-! ## Silence -/

/-- ROLE_STAT's path bits from the two paths; a path fault that stands counts once (R275, R276, R294). -/
def State.judgePaths (s : State) (h : Half) : State :=
  let now := s.tbfNs
  let fresh (p : PathSt) : Bool := match p.last with | some t => decide (now ≤ t + 110000) | none => false
  let one (s : State) (net : Bool) : State :=
    let p := s.path h net
    if p.miss == 3 && fresh (s.path h (!net)) && !p.fault then
      let s := (s.setPath h net { p with fault := true }).countFld (hreg h Reg.Half.PATH_FAULT_CNT) (16 * b2n net) 16
      (s.raise (halfBase h.idx) 17).ev 0xF7 0
    else s
  let s := one (one s false) true
  let k := hreg h Reg.Half.ROLE_STAT
  let m := s.halfSt h
  s.setFld k 7 3 (b2n (m.line.fault || m.net.fault) + 2 * b2n (m.line.miss == 3) + 4 * b2n (m.net.miss == 3))

/-- PEER_SILENT becomes 1 (R275, R277): at the active half PEER_LOST; at the other the active half has failed. -/
def State.peerSilent (s : State) (h : Half) : State :=
  let k := hreg h Reg.Half.ROLE_STAT
  let both := (s.halfSt h).line.miss == 3 && (s.halfSt h).net.miss == 3
  if both && !s.bit k 10 then
    let s := s.setBit k 10 true
    if h = s.activeHalf then s.raise (halfBase h.idx) 26 else s.failActive causeSilent
  else s.setBit k 10 both

/-- A valid word arrived on a path (R275, R276). -/
def State.wordArrived (s : State) (h : Half) (net : Bool) (p : PathSt) : State :=
  let s := s.setPath h net { p with miss := 0, last := some s.tbfNs, due := s.tbfNs + 110000, fault := false }
  (s.judgePaths h).peerSilent h

/-- The fields of a bark word. -/
def barkKind (w : BitVec 64) : Nat := w.toNat / 2 ^ 20 % 16
def barkSrc (w : BitVec 64) : Nat := w.toNat / 2 ^ 18 % 4
def barkRole (w : BitVec 64) : Nat := w.toNat / 2 ^ 16 % 4
def barkGen (w : BitVec 64) : Nat := w.toNat / 2 ^ 24 % 65536
def barkSeq (w : BitVec 64) : Nat := w.toNat / 2 ^ 40 % 65536

/-- R273: whether a word is valid at half h on a path. -/
def State.barkValid (s : State) (h : Half) (net : Bool) (w : BitVec 64) : Bool :=
  let p := s.path h net
  let kind := barkKind w
  barkCrc (w.toNat % 2 ^ 56) == w.toNat / 2 ^ 56 && (kind == 1 || kind == 2) && barkSrc w == h.other.code2 &&
    barkGen w == s.gen sysBase && (if kind = 1 then p.rxBark else p.rxEcho) != some (barkSeq w) &&
    (kind == 2 || (barkRole w == roleActive && s.activeHalf == h.other))

/-- An invalid word (R273). -/
def State.barkBad (s : State) (h : Half) : State :=
  (s.count (hreg h Reg.Half.BARK_ERR_CNT)).raise (halfBase h.idx) 25

/-- A word arrives at half h on a path (R273 to R275, R277): an invalid one is counted; a BARK at a half that is not
active restarts its path, is answered by an ECHO where the half runs, and a YIELD in it reaches the arbiter; an ECHO at
the active half restarts its path. -/
def barkArrives (h : Half) (net : Bool) (w : BitVec 64) (s : State) : State :=
  if !s.barkValid h net w then s.barkBad h
  else
    let p := s.path h net
    if barkKind w = 1 then
      let s := (s.wordArrived h net { p with rxBark := some (barkSeq w) }).evHalf h.idx 0x47 (b2n net)
      let s := s.onlyIf (s.role h != roleActive && s.running h) (·.sendWord h net (s.barkWord h 2 (barkSeq w) false))
      s.onlyIf (w.toNat.testBit 8) (·.yieldActive causeYieldBark)
    else
      let s := s.evHalf h.idx 0x48 (b2n net)
      if h = s.activeHalf then s.wordArrived h net { p with rxEcho := some (barkSeq w) }
      else s.setPath h net { p with rxEcho := some (barkSeq w) }

def execBarkReceive (h : Half) (net : Bool) (w : BitVec 64) (s : State) : Host.Outcome State Fault Refusal :=
  .next (barkArrives h net w s)

/-- ECHO_RECEIVE: the same judgement; the word of this row is an ECHO at the active half. -/
def echoReceive (h : Half) (net : Bool) (w : BitVec 64) (s : State) : State := barkArrives h net w s

def execEchoReceive (h : Half) (net : Bool) (w : BitVec 64) (s : State) : Host.Outcome State Fault Refusal :=
  .next (echoReceive h net w s)

/-- A path's timer expires, its time come (R275). -/
def barkMiss (h : Half) (net : Bool) (s : State) : State :=
  let p := s.path h net
  if s.tbfNs < p.due then s
  else
    let s := s.setPath h net { p with miss := min (p.miss + 1) 3, due := s.tbfNs + 100000 }
    (s.judgePaths h).peerSilent h

def execBarkMissTimer (h : Half) (net : Bool) (s : State) : Host.Outcome State Fault Refusal := .next (barkMiss h net s)

/-! ## Roles -/

/-- TAKEOVER_GRANT: the grant the arbiter decided, to a standby still in HEEL; else the failure finds no standby (R278,
R279, R281). -/
def takeoverGrant (s : State) : State :=
  match s.grant with
  | none => s
  | some g =>
    if s.mayTake g.half then s.grantTo g.half g.cause else { s with grant := none }.activeLost g.half

def execTakeoverGrant (s : State) : Host.Outcome State Fault Refusal := .next (takeoverGrant s)

/-- A ROLE_CTRL request refused (R281, R289). -/
def State.ctrlRefused (s : State) (h : Half) : State := s.setBit (hreg h Reg.Half.ROLE_STAT) 11 true

/-- SWAP on a half's page (R289): from the active half, with the other in HEEL. -/
def roleSwap (acc : Access) (h : Half) (s : State) : State :=
  if acc.master = .half s.activeHalf ∧ h = s.activeHalf ∧ s.role h = roleActive ∧ s.role h.other = roleHeel then
    s.grantTo h.other causeSwap
  else s.ctrlRefused h

/-- ASSUME on a half's page (R281): the other half is not RUNNING, or this half sees PEER_SILENT. -/
def roleAssume (h : Half) (s : State) : State :=
  if !s.running h.other ∨ s.peerSilentBit h then s.grantTo h causeAssume else s.ctrlRefused h

/-- RESYNC_REQ (R287): an OFFLINE running half joins; the active half is told. -/
def resyncReq (h : Half) (s : State) : State :=
  if s.role h = roleOffline ∧ s.running h ∧ h ≠ s.activeHalf then
    let s := s.setRole h roleResync (some causeResyncReq)
    let s := s.setHalfSt h
      { s.halfSt h with first := true, gap := false, gapRec := false, own := [], peer := [], lastPeer := none }
    let o := h.other
    let s := s.setHalfSt o { s.halfSt o with own := [], peer := [], lastPeer := none }
    (s.setFld (lreg h Reg.Local.CMP_STAT) 8 8 0).raise (halfBase o.idx) 20
  else s.ctrlRefused h

/-- RESYNC_ABORT (R287). -/
def resyncAbort (h : Half) (s : State) : State :=
  if s.role h = roleResync then s.setRole h roleOffline (some causeAbort) else s.ctrlRefused h

/-- A write of ROLE_CTRL (R293): SWAP and ASSUME require a secure access, and are refused without one (R289, R294). A
grant the arbiter has decided on a yield or a silence comes first (R278). -/
def roleCtrl (acc : Access) (h : Half) (v : Word) (s : State) : State :=
  let s := s.onlyIf (bitsOf v 0 3 != 0) takeoverGrant
  let s := s.onlyIf (bitOf v 0) (fun s => if acc.secure then roleSwap acc h s else s.ctrlRefused h)
  let s := s.onlyIf (bitOf v 1) (fun s => if acc.secure then roleAssume h s else s.ctrlRefused h)
  let s := s.onlyIf (bitOf v 2) (resyncReq h)
  s.onlyIf (bitOf v 3) (resyncAbort h)

def execRoleSwap (acc : Access) (h : Half) (s : State) : Host.Outcome State Fault Refusal :=
  .next (s.write acc 4 (hreg h Reg.Half.ROLE_CTRL) 1 (fun acc => roleCtrl acc h 1))

def execRoleAssume (acc : Access) (h : Half) (s : State) : Host.Outcome State Fault Refusal :=
  .next (s.write acc 4 (hreg h Reg.Half.ROLE_CTRL) 2 (fun acc => roleCtrl acc h 2))

def execResyncReq (acc : Access) (h : Half) (s : State) : Host.Outcome State Fault Refusal :=
  .next (s.write acc 4 (hreg h Reg.Half.ROLE_CTRL) 4 (fun acc => roleCtrl acc h 4))

def execResyncAbort (acc : Access) (h : Half) (s : State) : Host.Outcome State Fault Refusal :=
  .next (s.write acc 4 (hreg h Reg.Half.ROLE_CTRL) 8 (fun acc => roleCtrl acc h 8))

/-- The standby: the half that is not active. -/
def State.standby (s : State) : Half := s.activeHalf.other

/-- HALT of a half (R277, R291): HALTED; the active half yields. -/
def halfHalt (h : Half) (s : State) : State :=
  if s.running h ∨ s.halfState h = 2 then
    let s := (s.setHalfState h 3).stopAgent h
    let s := s.onlyIf (s.role h == roleActive) (·.yieldActive causeYieldReset)
    s.cmdResult (halfBase h.idx) .done
  else s.cmdResult (halfBase h.idx) (if s.halfState h = 3 then .done else .refused)

/-- RESUME (R301, R322): a half RESETTING whose own software writes it, or HALTED, with its compute domain on, becomes RUNNING;
the active half's tile agent starts; the first after POR or exit from PARK counts in LIFE_CYCLES. -/
def halfResume (acc : Access) (h : Half) (s : State) : State :=
  let b := halfBase h.idx
  if s.running h then s.cmdResult b .done
  else if (s.halfState h = 2 ∧ acc.master = .half h ∨ s.halfState h = 3) ∧ s.domainOn h.pd then
    let s := s.setHalfState h 1
    let s := s.onlyIf (!s.cycled) (fun s => { s.hwCountP pwrBase (pwrBase + Reg.Pwr.LIFE_CYCLES) with cycled := true })
    let s := s.onlyIf (s.role h == roleActive) (·.startAgent h)
    s.cmdResult b .done
  else s.cmdResult b .refused

/-- CLEAR (R291): CTRL_REFUSED, and the path fault of a path no longer silent. -/
def halfClear (h : Half) (s : State) : State :=
  let keep (p : PathSt) : PathSt := { p with fault := p.fault && p.miss == 3 }
  let m := s.halfSt h
  let s := (s.setHalfSt h { m with line := keep m.line, net := keep m.net }).setBit (hreg h Reg.Half.ROLE_STAT) 11 false
  (s.judgePaths h).cmdResult (halfBase h.idx) .done

def execHalfHalt (acc : Access) (h : Half) (s : State) : Host.Outcome State Fault Refusal :=
  .next (s.write acc 4 (hreg h Reg.Hdr.UNIT_CTRL) 5 (fun _ => halfHalt h))

def execHalfResume (acc : Access) (h : Half) (s : State) : Host.Outcome State Fault Refusal :=
  .next (s.write acc 4 (hreg h Reg.Hdr.UNIT_CTRL) 6 (fun acc => halfResume acc h))

def execHalfClear (acc : Access) (h : Half) (s : State) : Host.Outcome State Fault Refusal :=
  .next (s.write acc 4 (hreg h Reg.Hdr.UNIT_CTRL) 3 (fun _ => halfClear h))

/-! ## Comparison -/

/-- What an outcome other than a match does to the standby (R286, R287): a RESYNC always, a HEEL unless CMP_KEEP_READY. -/
def State.cmpDrop (s : State) : State :=
  let h := s.standby
  if s.role h = roleResync ∨ (s.role h = roleHeel ∧ !s.bit (hreg h Reg.Half.FO_CFG) 1) then
    s.setRole h roleOffline (some causeCmp)
  else s

/-- A mismatch at half h for an epoch (R286, R345). -/
def State.cmpMismatch (s : State) (h : Half) (epoch : Nat) : State :=
  let s := s.setHalfSt h { s.halfSt h with cmpOk := false }
  let s := (s.wrN (lreg h Reg.Local.CMP_STAT) 2).count (hreg h Reg.Half.CMP_MISMATCH_CNT)
  let s := (s.raise (halfBase 0) 21).raise (halfBase 1) 21
  (s.record (halfSrc h 8) (word (epoch % 65536))).cmpDrop

/-- A late outcome at half h for an epoch (R286, R345). -/
def State.cmpLate (s : State) (h : Half) (epoch : Nat) : State :=
  let s := s.setHalfSt h { s.halfSt h with cmpOk := false }
  let s := (s.wrN (lreg h Reg.Local.CMP_STAT) 4).count (hreg h Reg.Half.CMP_LATE_CNT)
  let s := (s.raise (halfBase 0) 22).raise (halfBase 1) 22
  (s.record (halfSrc h 9) (word (epoch % 65536))).cmpDrop

/-- A match at half h (R286, R288): the run of matches, and a RESYNC that has enough of them enters HEEL. -/
def State.cmpMatch (s : State) (h : Half) : State :=
  let k := lreg h Reg.Local.CMP_STAT
  let n := min 255 (s.fld k 8 8 + 1)
  let s := (s.wrN k (1 + n * 2 ^ 8)).setHalfSt h { s.halfSt h with cmpOk := true }
  if s.role h = roleResync ∧ max 1 (s.fld (hreg h Reg.Half.FO_CFG) 16 8) ≤ n then
    ((s.setRole h roleHeel none).raise (halfBase 0) 24).raise (halfBase 1) 24
  else s

/-- Two records of one epoch are compared at half h (R286, R296). -/
def State.compare (s : State) (h : Half) (mine theirs : CmpRec) : State :=
  let s := (s.wrN (lreg h Reg.Local.CMP_LAST_EPOCH) mine.epoch).wrN (lreg h Reg.Local.CMP_DIGEST) mine.digest
  let s := s.wrN (lreg h Reg.Local.CMP_PEER_DIGEST) theirs.digest
  let s := s.onlyIf (h != s.activeHalf) (·.wrN (lreg h Reg.Local.CMP_LAG)
    (unsignedOf 32 (limitI (-(2 ^ 31)) (2 ^ 31 - 1) ((mine.close : Int) - (theirs.close : Int)))))
  if mine.digest = theirs.digest ∧ mine.count = theirs.count then s.cmpMatch h else s.cmpMismatch h mine.epoch

/-- Records of one epoch held on both sides are compared (R286). -/
def State.tryCompare (s : State) (h : Half) (epoch : Nat) : State :=
  let m := s.halfSt h
  match m.own.find? (fun r => r.epoch == epoch), m.peer.find? (fun r => r.epoch == epoch) with
  | some x, some y =>
    (s.setHalfSt h { m with own := m.own.erase x, peer := m.peer.erase y }).compare h x y
  | _, _ => s

/-- A write of CMP_EPOCH (R285): the open epoch closes under the number written, its record goes to the other half, the
next opens. -/
def cmpEpoch (h : Half) (v : Word) (s : State) : State :=
  let m := s.halfSt h
  let r : CmpRec := {
    epoch := v.toNat, digest := m.crc ^^^ 0xFFFFFFFF, count := s.rdN (lreg h Reg.Local.CMP_WRITES), close := s.tb0.nsTotal }
  let m := { m with crc := 0xFFFFFFFF, lastClosed := v.toNat, own := m.own ++ [r] }
  let s := ((s.setHalfSt h m).wrN (lreg h Reg.Local.CMP_WRITES) 0).evHalf h.idx 0x49 0
  { s with cmpLink := s.cmpLink ++ [(h.other, r)] }.tryCompare h v.toNat

def execCmpEpoch (acc : Access) (v : Word) (s : State) : Host.Outcome State Fault Refusal :=
  .next (s.write acc 4 (0x40E00000 + Reg.Local.CMP_EPOCH) v (fun acc s =>
    match acc.master with | .half h => cmpEpoch h v s | .shep => s))

/-- A write of CMP_BASE (R287). -/
def cmpBase (h : Half) (v : Word) (s : State) : State := s.setHalfSt h { s.halfSt h with lastClosed := v.toNat }

def execCmpBase (acc : Access) (v : Word) (s : State) : Host.Outcome State Fault Refusal :=
  .next (s.write acc 4 (0x40E00000 + Reg.Local.CMP_BASE) v (fun acc s =>
    match acc.master with | .half h => cmpBase h v s | .shep => s))

/-- CMP_RECORD_RX (R285, R286): the oldest record on the link to half h arrives; a 17th pushes out the oldest, which is
late; a skipped epoch number is a mismatch; a record of an epoch the half has closed is compared. -/
def cmpRecordRx (h : Half) (s : State) : State :=
  match s.cmpLink.find? (fun e => e.1 == h) with
  | none => s
  | some e =>
    let s := { s with cmpLink := s.cmpLink.erase e }
    let r := e.2
    let m := s.halfSt h
    let skip := match m.lastPeer with | some p => decide (r.epoch ≠ (p + 1) % 2 ^ 32) | none => false
    let old := if 16 ≤ m.peer.length then m.peer.head? else none
    let peer := (if 16 ≤ m.peer.length then m.peer.tail else m.peer) ++ [r]
    let s := s.setHalfSt h { m with peer := peer, lastPeer := some r.epoch }
    let s := match old with | some o => s.cmpLate h o.epoch | none => s
    (s.onlyIf skip (·.cmpMismatch h r.epoch)).tryCompare h r.epoch

def execCmpRecordRx (h : Half) (s : State) : Host.Outcome State Fault Refusal := .next (cmpRecordRx h s)

/-- CMP_TIMEOUT in ns (R293). -/
def State.cmpTimeout (s : State) (h : Half) : Nat := max 1 (s.fld (hreg h Reg.Half.FO_CFG) 24 8) * 10000

/-- CMP_LATE_TIMER (R286): the half's oldest uncompared close is CMP_TIMEOUT old. -/
def cmpLateTimer (h : Half) (s : State) : State :=
  let m := s.halfSt h
  match m.own with
  | [] => s
  | r :: rest =>
    if r.close + s.cmpTimeout h ≤ s.tb0.nsTotal then
      (s.setHalfSt h { m with own := rest }).cmpLate h r.epoch
    else s

def execCmpLateTimer (h : Half) (s : State) : Host.Outcome State Fault Refusal := .next (cmpLateTimer h s)

/-- BARK_AGE: µs since the last valid word on each path (R293). -/
def State.barkAge (s : State) (h : Half) : Word :=
  let age (p : PathSt) : Nat := match p.last with | some t => min 0xFFFF ((s.tbfNs - t) / 1000) | none => 0xFFFF
  word (age (s.halfSt h).line + age (s.halfSt h).net * 2 ^ 16)

end Sys2Proof.Machine
end

