-- ==== Sys2Proof/Machine/Power.lean ====
section
/-! DEFINITION. Reset requests and their release, the device states with PARK entry, wake and exit, the supply, power
domains and clock gates, and the life counters (R297 to R334). -/

namespace Sys2Proof.Machine

/-- Key of a register of PWR and of PDC. -/
def pwrReg (off : Nat) : Nat := pwrBase + off

/-! ## Resets -/

/-- POR: the logic supply was good for 1 ms; `cell` says whether the backup cell held meanwhile (R308, R540). -/
def por (cell : Bool) (s : State) : State := if s.supplied then s else s.doPor 1 cell

def execPor (cell : Bool) (s : State) : Host.Outcome State Fault Refusal := .next (por cell s)

/-- BOR of a rail (R299): VAON, VHALF_A, VHALF_B, VSHARED. -/
def bor (rail : Nat) (s : State) : State :=
  if !s.supplied then s
  else
    match rail with
    | 0 => s.doPor 2 true
    | 1 => s.reset? (.hrst .a) 3
    | 2 => s.reset? (.hrst .b) 3
    | _ => s.reset? .srst 3

def execBor (rail : Fin 4) (s : State) : Host.Outcome State Fault Refusal := .next (bor rail.val s)

/-- The reset an RST_REQ word names (R329). -/
def rstKind (v : Word) : Option Rst :=
  match bitsOf v 0 4 with
  | 1 => some .srst
  | 2 => some (.hrst .a)
  | 3 => some (.hrst .b)
  | 4 =>
    if h : bitsOf v 8 3 < 7 then some (.crst (halfOf (bitsOf v 11 1)) ⟨bitsOf v 8 3, h⟩) else none
  | _ => none

/-- A write of RST_REQ (R298): from the active half in the secure world or over the side band, and then with the key; any
other writer is ignored and counted. A side-band write that R43 refuses is counted where it is refused. -/
def rstReq (acc : Access) (v : Word) (s : State) : State :=
  let go (cause : Nat) : State := match rstKind v with
    | some k => if bitsOf v 16 16 = 0x5A3C then s.reset? k cause else s
    | none => s
  match acc.master with
  | .half h => if acc.secure && h == s.activeHalf then go 4 else s.count (sysBase + Reg.Sys.ACC_VIOL_CNT)
  | .shep => go 5

/-- The write access of an RST_REQ word. -/
def rstReqWrite (acc : Access) (v : Word) (s : State) : State :=
  s.write acc 4 (pwrReg Reg.Pwr.RST_REQ) v (fun acc => rstReq acc v)

/-- An RST_REQ word of a kind with a key. -/
def rstWord (key : Fin 65536) (low : Nat) : Word := word (key.val * 2 ^ 16 + low)

/-- SRST_REQUEST. -/
def srstRequest (acc : Access) (key : Fin 65536) (s : State) : State := rstReqWrite acc (rstWord key 1) s

def execSrstRequest (acc : Access) (key : Fin 65536) (s : State) : Host.Outcome State Fault Refusal :=
  .next (srstRequest acc key s)

/-- HRST_A_REQUEST. -/
def hrstARequest (acc : Access) (key : Fin 65536) (s : State) : State := rstReqWrite acc (rstWord key 2) s

def execHrstARequest (acc : Access) (key : Fin 65536) (s : State) : Host.Outcome State Fault Refusal :=
  .next (hrstARequest acc key s)

/-- HRST_B_REQUEST. -/
def hrstBRequest (acc : Access) (key : Fin 65536) (s : State) : State := rstReqWrite acc (rstWord key 3) s

def execHrstBRequest (acc : Access) (key : Fin 65536) (s : State) : Host.Outcome State Fault Refusal :=
  .next (hrstBRequest acc key s)

/-- CRST_REQUEST. -/
def crstRequest (acc : Access) (key : Fin 65536) (h : Half) (core : Fin 8) (s : State) : State :=
  rstReqWrite acc (rstWord key (4 + core.val * 2 ^ 8 + h.idx * 2 ^ 11)) s

def execCrstRequest (acc : Access) (key : Fin 65536) (h : Half) (core : Fin 8) (s : State) :
    Host.Outcome State Fault Refusal :=
  .next (crstRequest acc key h core s)

/-- A reset's bound elapses (R297, R301, R323): after POR and SRST, once the boot slot is verified, both halves are
released into RESETTING with their roles and Shepherd fills its slots (R600); after HRST the half is; a CRST ends. -/
def resetRelease (r : Rst) (s : State) : State :=
  if !s.rst.contains r then s
  else
    let s' := { s with rst := s.rst.erase r }
    match r with
    | .por => if s.verified then { s'.startRoles.fillService.openWindow with rst := [] } else s
    | .srst => if s.verified then { s'.startRoles.fillService.openWindow with rst := [] } else s
    | .hrst h => if s.domainOn h.pd then s'.setHalfState h 2 else s'
    | .crst _ _ => s'

def execResetRelease (r : Rst) (s : State) : Host.Outcome State Fault Refusal := .next (resetRelease r s)

/-! ## Device states -/

/-- REQ_RESULT of DEV_STATE (R327). -/
def State.reqResult (s : State) (v : Nat) : State := s.setFld (pwrReg Reg.Pwr.DEV_STATE) 16 4 v

/-- A state request refused (R302). -/
def State.stateRefused (s : State) (v : Nat) : State := (s.reqResult v).raise pwrBase 20

/-- Whether a transition of the device state is under way. -/
def State.inTransit (s : State) : Bool := s.dozing || s.devState == 2 || s.devState == 4

/-- STATE_REQ = DOZE in RUN (R302, R303): entry begins. -/
def reqDoze (s : State) : State :=
  if s.inTransit then s.stateRefused 3
  else if s.devState = 0 then { s with dozing := true, dozeExit := false }
  else s.stateRefused 2

/-- STATE_REQ = RUN (R302, R303): leaves DOZE; during DOZE entry it is an exit condition, honoured when entry
completes. -/
def reqRun (s : State) : State :=
  if s.dozing then { s with dozeExit := true }
  else if s.inTransit then s.stateRefused 3
  else if s.devState = 1 then (s.setDevState 0).reqResult 1
  else s.stateRefused 2

/-- STATE_REQ = PARK in RUN (R302, R304): PARKING. -/
def reqPark (s : State) : State :=
  if s.inTransit then s.stateRefused 3
  else if s.devState = 0 then s.setDevState 2
  else s.stateRefused 2

/-- A write of STATE_REQ (R302, R326). -/
def stateReq (acc : Access) (v : Word) (s : State) : State :=
  s.secureOnly acc pwrBase (fun s =>
    match bitsOf v 0 2 with
    | 1 => reqDoze s
    | 2 => reqRun s
    | 3 => reqPark s
    | _ => s)

def execStateReqDoze (acc : Access) (s : State) : Host.Outcome State Fault Refusal :=
  .next (s.write acc 4 (pwrReg Reg.Pwr.STATE_REQ) 1 (fun acc => stateReq acc 1))

def execStateReqRun (acc : Access) (s : State) : Host.Outcome State Fault Refusal :=
  .next (s.write acc 4 (pwrReg Reg.Pwr.STATE_REQ) 2 (fun acc => stateReq acc 2))

def execStateReqPark (acc : Access) (s : State) : Host.Outcome State Fault Refusal :=
  .next (s.write acc 4 (pwrReg Reg.Pwr.STATE_REQ) 3 (fun acc => stateReq acc 3))

/-- DOZE entry completes; an exit condition that arose meanwhile is honoured (R303). -/
def dozeEntered (s : State) : State :=
  if s.dozing then
    let s' := { s with dozing := false, dozeExit := false }.reqResult 1
    s'.setDevState (if s.dozeExit then 0 else 1)
  else s

def execDozeEntryComplete (s : State) : Host.Outcome State Fault Refusal := .next (dozeEntered s)

/-- Whether a half's controller has an enabled interrupt for one of its application cores, harts 0 to 3 (R303, R519). -/
def State.appIrq (s : State) (h : Half) : Bool :=
  s.domainOn h.pd && (List.range 4).any (fun c => s.highest h c true != 0 || s.highest h c false != 0)

/-- An interrupt is pending for an application core of either half: DOZE ends (R302, R303). -/
def dozeWake (s : State) : State :=
  if !s.appIrq .a && !s.appIrq .b then s
  else if s.dozing then { s with dozeExit := true }
  else if s.devState = 1 then s.setDevState 0
  else s

def execDozeWake (s : State) : Host.Outcome State Fault Refusal := .next (dozeWake s)

/-- Bit of PD_PENDING for a domain or gate (R332). -/
def pendBit (k : Nat) : Nat := if k < 12 then k else k + 4

/-- PENDING of a domain or gate, in its register and in PD_PENDING. -/
def State.setPend (s : State) (k : Nat) (b : Bool) : State :=
  (s.setBit (gateKey k) 24 b).setBit (pdcBase + Reg.Pdc.PD_PENDING) (pendBit k) b

/-- CKG2 closes or opens: the tunnel's timers stand still meanwhile, so what was sent before it opens counts from then on
for the time it has left (R317, R500). -/
def State.tunClock (s : State) (on : Bool) : State :=
  let now := s.time.tbf.nsTotal
  match on, s.tunGate with
  | false, none => { s with tunGate := some now }
  | true, some g =>
    let past (t : Nat) : Nat := t + (now - max t g)
    { s with
      tunGate := none,
      spPosts := s.spPosts.map (fun (p : SpPost) => if p.tunnel then { p with time := past p.time } else p),
      spDts := s.spDts.map (fun (d : SpDt) => if d.tunnel then { d with sent := d.sent.map past } else d) }
  | _, _ => s

/-- Pending requests discarded, RESULT NONE (R316). -/
def State.dropPending (s : State) : State :=
  s.each ((List.range 20).filter (fun k => s.bit (gateKey k) 24)) (fun s k => (s.setPend k false).setFld (gateKey k) 28 4 0)

/-- PARK entry steps 1 to 3 (R304): wake sources armed, Huarneel stops evaluating, pending requests discarded, PARK sent
from the active half to every tile. -/
def parkEntry (s : State) : State :=
  if s.devState = 2 ∧ s.parkStage = 0 then
    let s := { s with parkStage := 1, wakes := [] }.dropPending
    let h := s.activeHalf
    s.each (List.range 8) (fun s t =>
      s.ctlPush t { type := 6, seq := 0, src := h.code2, claim := (s.tc t).claimOf h.code2 } .agent)
  else s

def execParkEntry (s : State) : Host.Outcome State Fault Refusal := .next (parkEntry s)

/-- A half whose compute is down: its state, its ROLE OFFLINE, no agent, no yield. -/
def State.takeDown (s : State) (h : Half) (st : Nat) (yields : Bool) : State :=
  (((s.halfDown h yields).stopAgent h).setHalfState h st)

/-- A domain switches off: what it holds is lost (R312); a half whose compute domain goes reads HALTED and OFFLINE
(R313). -/
def State.offDomain (s : State) (k : Nat) : State :=
  let s := if k = 2 then s.takeDown .a 3 false else if k = 4 then s.takeDown .b 3 false else s
  s.loseDomain k

/-- PARK entry steps 4 to 7 (R304): PARK_STAT by the tiles' replies, both halves PARKED and OFFLINE, the clocks recorded,
PD2 to PD11 off, the timebase stopped. Requests that became pending since step 1 are discarded as well. A wake source
that fired meanwhile starts the exit at once (R305). -/
def parkRest (s : State) : State :=
  if s.devState = 2 ∧ s.parkStage = 1 then
    let ok := (List.range 8).foldl (fun a t => a + b2n (s.mirState t == 4) * 2 ^ t) 0
    let s := s.wrN (pwrReg Reg.Pwr.PARK_STAT) (ok + (255 - ok) * 2 ^ 8)
    let s := s.onlyIf (ok != 255) (·.raise pwrBase 18)
    let s := (s.dropPending.takeDown .a 4 false).takeDown .b 4 false
    let s := { s with
      time := { s.time with
        parked := some (s.time.clk0.now, s.time.clk1.now, s.time.tbf, s.time.rtc), stopped := true, snapReq := [] },
      parkStage := 0, rst := [], grant := none, claimDue := none }
    let s := s.each ((List.range 10).map (fun i => 11 - i)) (fun s k => (s.loseDomain k).setGateSt k 0)
    (s.setDevState (if s.wakes.isEmpty then 3 else 4)).reqResult 1
  else s

def execParkTileWaitEnd (s : State) : Host.Outcome State Fault Refusal := .next (parkRest s)

/-- Whether WAKE_EN enables a source (R306, R326, R331); SP and ALARM have the index 0. -/
def State.wakeOn (s : State) (kind i : Nat) : Bool :=
  let m := pwrReg Reg.Pwr.WAKE_EN_MISC
  match kind with
  | 1 => decide (i < 96) && s.bit (pwrReg Reg.Pwr.WAKE_EN_DI + 4 * (i / 32)) (i % 32)
  | 2 => decide (i < 12) && s.bit m i
  | 3 => decide (i < 26) && s.bit (pwrReg Reg.Pwr.WAKE_EN_ETH) i
  | 4 => i == 0 && s.bit m 20
  | 5 => i == 0 && s.bit m 21 && (s.rdN (pwrReg Reg.Pwr.ALARM_LO) != 0 || s.fld (pwrReg Reg.Pwr.ALARM_HI) 0 16 != 0)
  | 6 => decide (i < 8) && s.bit m (12 + i)
  | _ => false

/-- The source WAKE_CAUSE names among those that fired: the first; within one real-time period the lowest KIND, then the
lowest index (R306). -/
def firstWake : List Wake → Option Wake
  | [] => none
  | w :: ws =>
    match firstWake ws with
    | none => some w
    | some v =>
      some (if w.rtc < v.rtc ∨ (w.rtc = v.rtc ∧ (w.kind < v.kind ∨ (w.kind = v.kind ∧ w.index ≤ v.index))) then w else v)

/-- Whether the real-time counter has reached ALARM at a count, counted from the completion of PARK entry (R306). -/
def State.alarmAt (s : State) (rtc : Nat) : Bool :=
  match s.time.parked with
  | some (_, _, _, r) =>
    decide (r + s.fld (pwrReg Reg.Pwr.ALARM_HI) 0 16 * 2 ^ 32 + s.rdN (pwrReg Reg.Pwr.ALARM_LO) ≤ rtc)
  | none => false

/-- WAKE_SOURCE (R304 to R306): an enabled source fires, at real-time count `rtc`, between step 1 of PARK entry and the
exit; it is latched. In PARK the device reads WAKING from then on (R328). -/
def wakeSource (kind i rtc : Nat) (s : State) : State :=
  if s.supplied && ((s.devState == 2 && s.parkStage == 1) || s.devState == 3 || s.devState == 4) && s.wakeOn kind i &&
      (kind != 5 || s.alarmAt rtc) then
    let s := { s with wakes := s.wakes ++ [(Wake.mk kind i rtc)] }
    let s := s.onlyIf (s.devState == 3) (·.setDevState 4)
    match firstWake s.wakes with
    | some w => s.wrN (pwrReg Reg.Pwr.WAKE_CAUSE) (w.kind + w.index * 2 ^ 8 + 2 ^ 31)
    | none => s
  else s

def execWakeSource (kind : Fin 16) (i : Fin 128) (rtc : Nat) (s : State) : Host.Outcome State Fault Refusal :=
  .next (wakeSource kind.val i.val rtc s)

/-- A recorded clock moved on by real-time periods of 30,517.578125 ns, which is 10^9 × 2^25 units of 2^-40 ns (R74). -/
def wakeClock (c : Clock) (periods : Nat) : Clock := Clock.ofTotal (c.total + periods * 1000000000 * 2 ^ 25)

/-- PARK_EXIT (R262, R307): with a wake latched and entry complete; `periods` real-time periods passed in PARK. The
clocks are restored, the domains switched on, every page treated as at SRST, the kept digest written, the halves released
with their roles; WAKE is raised. -/
def parkExit (periods : Nat) (s : State) : State :=
  match s.devState, s.wakes, s.time.parked with
  | 4, _ :: _, some (c0, c1, cf, rtc) =>
    let s := s.loseAll
    let s := { s with
      time := { s.time with
        clk0 := { s.time.clk0 with now := wakeClock c0 periods }, clk1 := { s.time.clk1 with now := wakeClock c1 periods },
        tbf := wakeClock cf periods, stopped := false, parked := none, rtc := rtc + periods },
      wakes := [], cycled := false }
    let s := (s.setBit (tbBase + Reg.Tb.TB_STAT) 4 true).raise tbBase 18
    let s := (s.devCause 8).hwCountP pwrBase (pwrReg Reg.Pwr.BOOT_CNT)
    let s := s.each (s.imgKept.zipIdx) (fun s e => s.wr (vaultBase + Reg.Vault.IMG_DIGEST + 4 * e.2) e.1)
    ((s.setDevState 0).startRoles.fillService.openWindow).raise pwrBase 16
  | _, _, _ => s

def execParkExit (periods : Nat) (s : State) : Host.Outcome State Fault Refusal := .next (parkExit periods s)

/-- Entry to DEAD (R310, R311, R316): every page's content of class S, H and X is lost; PD2 to PD9 off, PD10 and PD11 on,
the key RAM zeroed, both halves DEAD and OFFLINE, pending requests discarded; sessions end, the staging lock is released,
ACT_STAT becomes DEAD and the boot slot INVALID; Shepherd fills its slots (R600, R611, R622). -/
def State.enterDead (s : State) : State :=
  let o := s.activeHalf.other
  let s := ((s.dropPending).takeDown o 5 true).takeDown s.activeHalf 5 true
  let s := (s.stageRelease.loseAll.setHalfState .a 5).setHalfState .b 5
  let s := s.each (List.range 12) (fun s k => if k < 2 then s else s.setGateSt k (b2n (decide (10 ≤ k))))
  let s := (s.ksAbort).zeroSlots
  let s := s.endSessions (fun _ => true)
  let s := { s with shep := { s.shep with bootSt := slotInvalid, winEnd := none } }
  let s := (s.setActState 3).showStage
  { (s.setDevState 5).fillService with rst := [], dozing := false, grant := none, claimDue := none }

/-- The code stores' domains are off again once the staging lock is free in DEAD (R623). -/
def State.stageOff (s : State) : State :=
  if s.inDead && s.shep.holder.isNone && s.devState == 5 then
    s.each [3, 5] (fun s k => if s.gateSt k = 0 then s else (s.loseDomain k).setGateSt k 0)
  else s

/-- Sessions end, with what the release of the lock brings in DEAD. -/
def State.dropSessions (s : State) (gone : Session → Bool) : State := (s.endSessions gone).stageOff

/-! ## Supply -/

/-- The logic supply falls below 5.0 V (R308, R345). -/
def supplyLow (s : State) : State :=
  let k := pwrReg Reg.Pwr.DEV_STATE
  if !s.supplied then s
  else
    let was := s.bit k 8
    let s := (s.setBit k 8 true).raise pwrBase 17
    s.onlyIf (!was) (·.record 37 0)

def execSupplyLow (s : State) : Host.Outcome State Fault Refusal := .next (supplyLow s)

/-- The logic supply stays below 4.0 V for 20 µs: OFF (R302, R308, R311). All logic stops; of register content only P and
V stay, and the tiles' content is lost. -/
def supplyLoss (s : State) : State :=
  if !s.supplied then s
  else
    let s := (s.loseAll.losePages (fun _ => true) (fun k => k == .a || k == .t)).setBit (sportReg Reg.Sport.SP_STAT) 0 false
    let s := s.each (List.range 8) State.tileReset
    { s with
      supplied := false, verified := false, grant := none, claimDue := none, wakes := [], rst := [],
      time := { s.time with stopped := true } }

def execSupplyLoss (s : State) : Host.Outcome State Fault Refusal := .next (supplyLoss s)

/-- A sample of the logic supply in mV (R326); SUPPLY_LOW shows whether it is below 5.0 V (R327). -/
def supplySampleMv (mv : Nat) (s : State) : State :=
  if !s.supplied then s
  else (s.wrN (pwrReg Reg.Pwr.SUPPLY_MV) (min mv 0xFFFF)).onlyIf (decide (5000 ≤ mv)) (·.setBit (pwrReg Reg.Pwr.DEV_STATE) 8 false)

def execSupplyMvSample (mv : Nat) (s : State) : Host.Outcome State Fault Refusal := .next (supplySampleMv mv s)

/-! ## Power domains and clock gates -/

/-- Domains a domain requires (R313). -/
def pdNeeds (k : Nat) : List Nat := if k = 2 then [3] else if k = 4 then [5] else if k = 7 ∨ k = 8 then [6] else []

/-- Domains that require a domain. -/
def pdUsers (k : Nat) : List Nat := (List.range 12).filter (fun j => (pdNeeds j).contains k)

/-- The domains that hold a half: compute and memories (R313). -/
def Half.pds (h : Half) : List Nat := [h.pd, h.pd + 1]

/-- The checks of R315 before the hold, for a domain: the code of the first that fails. A domain in transition counts as
on where a domain in use is looked for, and as not on where a required one is. -/
def State.pdCheck (s : State) (k : Nat) (on : Bool) : Option Nat :=
  if k < 2 then some 3
  else if 2 ≤ s.gateSt k then some 7
  else if !on && (s.activeHalf.pds.contains k ||
      (k == 6 && (s.role s.standby == roleHeel || s.role s.standby == roleResync))) then some 4
  else if !on && (pdUsers k).any (fun j => s.gateSt j != 0) then some 5
  else if on && (pdNeeds k).any (fun j => s.gateSt j != 1) then some 5
  else if !on && k == 11 && (List.range 8).any (fun t => s.mirState t == 1) then some 6
  else none

/-- A request ends with a RESULT other than PENDING: PD_DONE (R315, R325). -/
def State.pdResult (s : State) (k r : Nat) : State := (s.setFld (gateKey k) 28 4 r).raise pwrBase 22

/-- A request that passed its checks is applied: a domain starts its transition, a gate switches at once (R315, R317). -/
def State.pdApply (s : State) (k : Nat) (on : Bool) : State :=
  if 12 ≤ k then ((s.setGateSt k (b2n on)).onlyIf (k == 14) (·.tunClock on)).onlyIf (k == 17) (·.capClock on)
    |>.pdResult k 1
  else if s.gateSt k = b2n on then s.pdResult k 1
  else if on then s.setGateSt k 2
  else (s.offDomain k).setGateSt k 3

/-- SECURE_HOLD of a domain or gate. -/
def State.held (s : State) (k : Nat) : Bool := s.bit (gateKey k) 8

/-- An ON request (R315, R316): refused by a check, else it cancels a pending OFF or is applied. -/
def pdOn (k : Nat) (s : State) : State :=
  match (if k < 12 then s.pdCheck k true else none) with
  | some r => s.pdResult k r
  | none =>
    if s.bit (gateKey k) 24 then (s.setPend k false).pdResult k 1 else s.pdApply k true

/-- An OFF request (R315, R316): refused by a check, held pending for a normal-world access, else applied; a pending
request ends with it. -/
def pdOff (secure : Bool) (k : Nat) (s : State) : State :=
  match (if k < 12 then s.pdCheck k false else none) with
  | some r => s.pdResult k r
  | none =>
    if !secure && s.held k then
      (if s.bit (gateKey k) 24 then s else ((s.setPend k true).setFld (gateKey k) 28 4 2).raise pwrBase 21)
    else (s.setPend k false).pdApply k false

/-- A write of SECURE_HOLD (R316): secure accesses only; clearing it re-checks a pending request without the hold. -/
def setHold (acc : Access) (k : Nat) (b : Bool) (s : State) : State :=
  if s.held k = b then s
  else
    s.secureOnly acc pwrBase (fun s =>
      let s := s.setBit (gateKey k) 8 b
      if !b && s.bit (gateKey k) 24 then pdOff true k (s.setPend k false) else s)

/-- A write of PD_CTRLk or CKG_CTRLj: SECURE_HOLD, then REQ (R333). -/
def pdWrite (acc : Access) (k : Nat) (v : Word) (s : State) : State :=
  let s := setHold acc k (bitOf v 8) s
  match bitsOf v 0 2 with
  | 1 => pdOn k s
  | 2 => pdOff acc.secure k s
  | _ => s

/-- The word of a request that leaves SECURE_HOLD as it is. -/
def State.pdWord (s : State) (k req : Nat) : Word := word (req + 2 ^ 8 * b2n (s.held k))

def execPdReqOn (acc : Access) (k : Fin 12) (s : State) : Host.Outcome State Fault Refusal :=
  .next (s.write acc 4 (gateKey k.val) (s.pdWord k.val 1) (fun acc => pdWrite acc k.val (s.pdWord k.val 1)))

def execPdReqOff (acc : Access) (k : Fin 12) (s : State) : Host.Outcome State Fault Refusal :=
  .next (s.write acc 4 (gateKey k.val) (s.pdWord k.val 2) (fun acc => pdWrite acc k.val (s.pdWord k.val 2)))

def execSecureHoldWrite (acc : Access) (k : Fin 20) (b : Bool) (s : State) : Host.Outcome State Fault Refusal :=
  .next (s.write acc 4 (gateKey k.val) (word (2 ^ 8 * b2n b)) (fun acc => pdWrite acc k.val (word (2 ^ 8 * b2n b))))

def execCkgReqOn (acc : Access) (j : Fin 8) (s : State) : Host.Outcome State Fault Refusal :=
  .next (s.write acc 4 (gateKey (12 + j.val)) (s.pdWord (12 + j.val) 1) (fun acc => pdWrite acc (12 + j.val) (s.pdWord (12 + j.val) 1)))

def execCkgReqOff (acc : Access) (j : Fin 8) (s : State) : Host.Outcome State Fault Refusal :=
  .next (s.write acc 4 (gateKey (12 + j.val)) (s.pdWord (12 + j.val) 2) (fun acc => pdWrite acc (12 + j.val) (s.pdWord (12 + j.val) 2)))

/-- A domain's transition ends (R312, R313, R315): one that came on has its pages at their Reset values, and a compute domain
is reset under HRST. -/
def pdEnd (k : Nat) (s : State) : State :=
  if s.gateSt k = 2 then
    let s := ((s.losePages (fun p => p.domain == k) clsSHX).setGateSt k 1).pdResult k 1
    if k = 2 then s.reset? (.hrst .a) 9 else if k = 4 then s.reset? (.hrst .b) 9 else s
  else if s.gateSt k = 3 then (s.setGateSt k 0).pdResult k 1
  else s

def execPdTransitionEnd (k : Fin 12) (s : State) : Host.Outcome State Fault Refusal := .next (pdEnd k.val s)

/-- A whole hour passes (R322): in PARK LIFE_PARK_H, else LIFE_OP_H. -/
def lifeHour (s : State) : State :=
  if !s.supplied then s
  else s.hwCountP pwrBase (pwrReg (if s.devState = 3 ∨ s.devState = 4 then Reg.Pwr.LIFE_PARK_H else Reg.Pwr.LIFE_OP_H))

def execLifeHour (s : State) : Host.Outcome State Fault Refusal := .next (lifeHour s)

end Sys2Proof.Machine
end

