-- ==== Sys2Proof/Machine/Macsec.lean ====
section
/-! DEFINITION. The MACsec cores of P0 to P5 (R582 to R584). -/

namespace Sys2Proof.Machine

/-! ## MACsec -/

def msReg (p off : Nat) : Nat := msecBase p + off

/-- Whether a port's traffic is under MACsec: MS_CFG.EN of P0 to P5. -/
def State.msOn (s : State) (p : Nat) : Bool := decide (p < 6) && s.bit (msReg p Reg.Msec.MS_CFG) 0

/-- Whether a frame uses the uncontrolled port (R582): untagged 0x888E, and 0x88F7 with BYPASS_PTP. -/
def State.uncontrolled (s : State) (p : Nat) (l : List Nat) : Bool :=
  !isTagged l && (be l 12 2 == 0x888E || (be l 12 2 == 0x88F7 && s.bit (msReg p Reg.Msec.MS_CFG) 5))

/-- The TRNG's start-up samples have passed (R585). -/
def State.trngReady (s : State) : Bool := s.bit (trngBase + Reg.Trng.TRNG_STAT) 0

/-- Whether the MACsec cores work now: the TRNG is ready and CKG1 runs (R317, R585). -/
def State.msReady (s : State) : Bool := s.trngReady && !s.gated 1

/-- PN_WARN of a port (R583). -/
def State.pnWarn (s : State) (p : Nat) : Nat :=
  s.rdN (msReg p Reg.Msec.PN_WARN_HI) * 2 ^ 32 + s.rdN (msReg p Reg.Msec.PN_WARN_LO)

/-- The SCI a port sends with: its address, which the spec does not state, and port identifier 1 (R582). -/
def portSci (p : Nat) : List Nat := (List.range 6).map (fun i => Config.freeOf 582 [p, i] % 256) ++ [0, 1]

/-- A frame's addresses with its SecTAG, the encrypted data `data` and the ICV (R582, GCM-AES-XPN-256). The nonce goes to
the cipher as its parts. -/
def protectWith (x : TxSec) (hdr data : List Nat) : List Nat × List Nat :=
  let a := x.sa
  let sl := if data.length < 48 then data.length else 0
  let tag := [0x88, 0xE5, 12 + 32 * b2n x.txSci + x.an % 4, sl] ++ bigEnd 4 a.pn ++ (if x.txSci then x.sci else [])
  let r := Config.cipher 3 0 x.key ([a.ssci.toNat, a.pn] ++ a.salt.map (·.toNat)) (hdr ++ tag) data
  (hdr ++ tag ++ octs r.1 data.length, octs r.2 16)

/-- A protected frame (R582): destination and source address, SecTAG, the encrypted rest, the ICV and an FCS. -/
def protectOcts (x : TxSec) (l : List Nat) : List Nat :=
  let r := protectWith x (l.take 12) ((l.drop 12).take (l.length - 16))
  withFcs (r.1 ++ r.2 ++ [0, 0, 0, 0])

/-- The same of a frame whose end has not come, up to what is known of it. -/
def protectPart (x : TxSec) (l : List Nat) : List Nat := (protectWith x (l.take 12) (l.drop 12)).1

/-- What the transmit side of a port's MACsec core does with a frame (R582, R583): the association used and how it protects,
if it does; none where the frame cannot be sent and is dropped. -/
def State.msProtect (s : State) (p : Nat) (l : List Nat) : State × Option (Option (Nat × TxSec)) :=
  if !s.msOn p || s.uncontrolled p l then (s, some none)
  else
    let an := s.fld (msReg p Reg.Msec.MS_CFG) 8 2
    let a := s.sa p an
    if !a.en then (s, none)
    else if a.pn = 2 ^ 64 - 1 then (s.count (msReg p Reg.Msec.TX_PN_EXH), none)
    else
      let x : TxSec := ⟨portSci p, s.bit (msReg p Reg.Msec.MS_CFG) 1, an, a, (s.slot a.slot).key⟩
      let s := s.setSa p an { a with pn := a.pn + 1 }
      let s := s.onlyIf (decide (s.pnWarn p ≤ a.pn + 1)) (·.raise ciphBase 20)
      (s.count (msReg p Reg.Msec.TX_PROT), some (some (64 * p + an, x)))

/-- The receive association a SecTAG names: key of an enabled one on an enabled channel with its SCI. -/
def State.rxSaOf (s : State) (p : Nat) (t : SecTag) : Option Nat :=
  match (List.range 8).find? (fun c =>
    let sc : Sc := Tbl.get {} s.scs (8 * p + c)
    sc.en && sc.sci == t.sci) with
  | some c => if (s.sa p (4 + 4 * c + t.an.val)).en then some (64 * p + 4 + 4 * c + t.an.val) else none
  | none => none

/-- VALIDATE of a port: 0 Disabled, 1 Check, 2 Strict (R592). -/
def State.msValidate (s : State) (p : Nat) : Nat := min 2 (s.fld (msReg p Reg.Msec.MS_CFG) 2 2)

/-- Whether the receive side of a port's MACsec core passes a frame whose last cell has come (R582 to R584): one without a
SecTAG only where the port does not validate strictly or on the uncontrolled port; a tagged one by its association,
the replay window and its integrity. Encrypted frames that are not validated are dropped. -/
def State.msCheck (s : State) (p : Nat) (f : Frame) (l : List Nat) (icv : Bool) : State × Bool :=
  if !s.msOn p || s.uncontrolled p l then (s, true)
  else if f.keyLost then (s, false)
  else
    let v := s.msValidate p
    let noSa (s : State) (ok : Bool) : State × Bool := (s.onlyIf (!ok) (·.countFld (msReg p Reg.Msec.RX_DROP) 0 16), ok)
    match f.secTag with
    | none => noSa s (v != 2)
    | some t =>
      if v = 0 then noSa s (!t.conf)
      else
        match f.rxSa with
        | none => noSa s (v == 1 && !t.conf)
        | some k =>
          let a : Sa := Tbl.get {} s.sas k
          if !s.trngReady then (s, false)
          else if s.bit (msReg p Reg.Msec.MS_CFG) 4 && decide (t.pn < a.pn) then
            (s.countFld (msReg p Reg.Msec.RX_DROP) 16 16, false)
          else if !icv then (s.count (msReg p Reg.Msec.RX_ICV_FAIL), v == 1 && !t.conf)
          else
            let low := max a.pn (t.pn + 1 - s.rdN (msReg p Reg.Msec.REPLAY_WIN))
            (({ s with sas := Tbl.set {} s.sas k { a with pn := low } }).count (msReg p Reg.Msec.RX_OK), true)

end Sys2Proof.Machine
end

