-- ==== Sys2Proof/Machine/Fabric.lean ====
section
/-! DEFINITION. The switch fabric: occupancy, admission, the two stages of a slot, egress selection and its end, late
launches, the reservation table and the verification of the MAC merge sublayer (R357 to R393). -/

namespace Sys2Proof.Machine

def swReg (off : Nat) : Nat := swBase + off
def frsvReg (off : Nat) : Nat := frsvBase + off
/-- Key of a register of port p's egress page, and of its queue q (R392). -/
def eqReg (p off : Nat) : Nat := eqBase p + off
def qReg (p q off : Nat) : Nat := eqBase p + off + 0x40 * q

/-- Cells of a frame of `n` octets (R359). -/
def cellsOf (n : Nat) : Nat := (n + 63) / 64

/-- INST of a port and queue (R531). -/
def pqInst (p q : Nat) : Nat := p + 32 * q

/-- `n` events of a source at once. -/
def State.evN (s : State) (code inst n : Nat) : State := s.each (List.range n) (fun s _ => s.ev code inst)

/-- The half behind a host port. -/
def portHalf (p : Nat) : Half := if p = 26 then .a else .b
/-- The host port of a half (R357). -/
def hostPort (h : Half) : Nat := 26 + h.idx
def isHost (p : Nat) : Bool := p == 26 || p == 27

/-- Whether a port's link is up; the internal ports have no link. -/
def State.portUp (s : State) (p : Nat) : Bool := decide (26 ≤ p) || s.bit (portBase p + Reg.Port.PORT_STAT) 0

/-- Rate of a port in Mb/s (R357): negotiated for the external ones, 0 while the link is down. -/
def State.portRate (s : State) (p : Nat) : Nat :=
  if p < 26 then (if s.portUp p then s.fld (portBase p + Reg.Port.PORT_STAT) 16 16 else 0)
  else if p < 28 then 25000 else 10000

/-- QCFG bits (R393). -/
def State.qcfg (s : State) (p q i : Nat) : Bool := s.bit (qReg p q Reg.Eq.QCFG) i
def qRsv : Nat := 13
def qCbs : Nat := 14
def qGate : Nat := 15
def qLt : Nat := 16
def qLatePol : Nat := 17
def qGuard : Nat := 18

/-! ## Occupancy (R371, R375) -/

/-- Cells of a frame, once known. -/
def Frame.total (f : Frame) : Option Nat := if f.whole || f.ended then some (cellsOf f.octs.length) else none

/-- Whether a copy waits in a queue: it is admitted. -/
def Copy.queued (c : Copy) : Bool := c.residue.isNone

/-- Cells of a frame in the shared buffer: those past stage 1 that some copy has not received. -/
def Frame.stored (f : Frame) : Nat :=
  ((List.range f.sent).filter (fun k => f.copies.any (fun c => decide (c.passed ≤ k) && !c.got.contains k))).length

/-- BUF_FREE (R375). -/
def State.bufFree (s : State) : Nat := 131072 - (s.frames.map Frame.stored).foldl (· + ·) 0

/-- The queued copies of a queue, in its order, with their frames. -/
def State.queue (s : State) (p q : Nat) : List (Frame × Copy) :=
  s.frames.flatMap (fun f => (f.copies.filter (fun c => c.queued && c.port == p && c.q == q)).map (fun c => (f, c)))

/-- Q_OCC of a queue (R375). -/
def State.qOcc (s : State) (p q : Nat) : Nat :=
  ((s.queue p q).map (fun e => e.1.sent - e.2.passed)).foldl (· + ·) 0

/-- Q_FRAMES of a queue. -/
def State.qFrames (s : State) (p q : Nat) : Nat := (s.queue p q).length

/-- Cells in a port's launch store (R371). -/
def State.lstore (s : State) (p : Nat) : Nat :=
  (s.frames.map (fun f => if f.rsv && f.copies.any (·.port == p) then
    (f.copies.map (fun c => c.got.length)).foldl (· + ·) 0 else 0)).foldl (· + ·) 0

/-- GLOB_HEADROOM + SCHED_RSV. -/
def State.lowMark (s : State) : Nat := s.fld (swReg Reg.Sw.GLOB_HEADROOM) 0 18 + s.fld (swReg Reg.Sw.SCHED_RSV) 0 18

/-- BUF_MIN and GLOBAL_LOW follow a change of the free count from `was` (R375, R389). -/
def State.bufNote (s : State) (was : Nat) : State :=
  let n := s.bufFree
  let s := s.onlyIf (decide (n < s.fld (swReg Reg.Sw.BUF_MIN) 0 18)) (·.setFld (swReg Reg.Sw.BUF_MIN) 0 18 n)
  s.onlyIf (decide (n < s.lowMark ∧ s.lowMark ≤ was)) (·.raise swBase 16)

/-- A frame record changed. -/
def State.modFrame (s : State) (g : Frame → Bool) (f : Frame → Frame) : State :=
  { s with frames := s.frames.map (fun x => if g x then f x else x) }

/-- Frames that have ended and have no copy left are gone. -/
def State.tidy (s : State) : State :=
  { s with frames := s.frames.filter (fun (f : Frame) => !(f.ended && f.copies.isEmpty)) }

/-- A frame's launch field binds, and its instant at the head is noted, when it becomes the head of a queue (R137,
R381). -/
def State.markHeads (s : State) : State :=
  let go (acc : List Frame × List (Nat × Nat)) (f : Frame) : List Frame × List (Nat × Nat) :=
    let step (a : List Copy × List (Nat × Nat)) (c : Copy) : List Copy × List (Nat × Nat) :=
      if c.begun || !c.queued || a.2.contains (c.port, c.q) then (a.1 ++ [c], a.2)
      else
        let c' := match f.launch, c.headAt with
          | some l, none => { c with headAt := some s.tb0.nsTotal, bound := s.launchPos l.mode l.dom l.phase l.cyc }
          | _, _ => c
        (a.1 ++ [c'], a.2 ++ [(c.port, c.q)])
    let r := f.copies.foldl step ([], acc.2)
    (acc.1 ++ [{ f with copies := r.1 }], r.2)
  { s with frames := (s.frames.foldl go ([], [])).1 }

/-! ## Admission and abort -/

/-- R373 for a queue: none, refused by QLIM, refused by the free count. -/
inductive Admit | ok | qlim | free
  deriving DecidableEq, Repr

/-- The two conditions of R373. -/
def State.admits (s : State) (p q : Nat) : Admit :=
  if s.fld (qReg p q Reg.Eq.QLIM) 0 18 ≤ s.qOcc p q then .qlim
  else
    let need := if s.qcfg p q qRsv then s.fld (swReg Reg.Sw.GLOB_HEADROOM) 0 18 else s.lowMark
    if s.bufFree < need then .free else .ok

/-- A refused copy counts (R373). -/
def State.refuse (s : State) (p q : Nat) (a : Admit) : State :=
  if a = .qlim then (s.count (qReg p q Reg.Eq.TAIL_DROP)).ev 0x86 (pqInst p q)
  else if a = .free then (s.count (swReg Reg.Sw.GLOB_DROP)).ev 0x87 0
  else s

/-- An admitted copy counts; its launch field is ignored where the queue has LT_EN = 0 (R380). -/
def State.enqueued (s : State) (p q : Nat) (launch : Bool) : State :=
  let s := (s.count (qReg p q Reg.Eq.ENQ_CNT)).ev 0x85 (pqInst p q)
  s.onlyIf (launch && !s.qcfg p q qLt) (·.count (qReg p q Reg.Eq.LT_IGNORED))

/-- One-step insertion (R84): from a host port the originTimestamp and FRAC, else the residence, added to
correctionField. -/
def insertSync (l : List Nat) (fromHost : Bool) (ing egr : Clock) : List Nat :=
  let at_ := payloadAt l
  let cf := signedOf 64 (be l (at_ + 8) 8)
  let add : Int := if fromHost then egr.frac else (egr.t16 : Int) - ing.t16
  let l := splice l (at_ + 8) (bigEnd 8 (unsignedOf 64 (cf + add)))
  if fromHost then splice l (at_ + 34) (bigEnd 6 egr.sec ++ bigEnd 4 egr.ns) else l

/-- The octets a copy is sent as: with the insertion of its egress timestamp and the FCS over it, or protected. -/
def Frame.outOcts (f : Frame) (c : Copy) : List Nat :=
  match c.form with
  | .plain => f.octs
  | .sync => match c.egr with
    | some t => withFcs (insertSync f.octs (isHost f.inp) f.ts t)
    | none => f.octs
  | .sec x => protectOcts x f.octs

/-- The same of a frame whose end has not come, without what ends it. -/
def Frame.partOcts (f : Frame) (c : Copy) : List Nat :=
  match c.form with
  | .plain => f.octs
  | .sync => match c.egr with
    | some t => insertSync f.octs (isHost f.inp) f.ts t
    | none => f.octs
  | .sec x => protectPart x f.octs

/-- The octets of the first `n` cells of what a copy sends. -/
def Frame.sentOcts (f : Frame) (c : Copy) : List Nat :=
  (if f.ended then f.outOcts c else f.partOcts c).take (64 * c.passed)

/-- A copy whose transmission has begun is ended with an inverted FCS (R367); a host port and the gateway discard it. -/
def State.ctAbort (s : State) (f : Frame) (c : Copy) : State :=
  let s := ((s.count (swReg Reg.Sw.CT_ABORT)).raise swBase 20).ev 0x89 c.port
  s.onlyIf (decide (c.port < 26)) (·.emit (.frame c.port (f.sentOcts c) false))

/-- The copies of the frames a test names are aborted or discarded (R367, R374). -/
def State.dropCopies (s : State) (g : Frame → Copy → Bool) : State :=
  let was := s.bufFree
  let hit := s.frames.flatMap (fun f => (f.copies.filter (fun c => g f c && c.begun)).map (fun c => (f, c)))
  let s := { s with frames := s.frames.map (fun (f : Frame) =>
    { f with copies := f.copies.filter (fun c => !g f c) }) }
  ((s.each hit (fun s e => s.ctAbort e.1 e.2)).tidy.markHeads).bufNote was

/-- A cell that finds the buffer full truncates its frame (R374). -/
def State.truncate (s : State) (id : Nat) : State :=
  let s := s.dropCopies (fun f _ => f.id == id)
  ((s.count (swReg Reg.Sw.TRUNC_DROP)).raise swBase 17).ev 0x88 0

/-! ## The reservation table (R368 to R370) -/

/-- Entry (i, t) of a table at `off`: its output, where VALID. -/
def State.rsvOut (s : State) (off i t : Nat) : Option Nat :=
  let k := frsvReg off + 32 * i + 4 * (t / 4)
  if s.bit k (8 * (t % 4) + 7) then some (s.fld k (8 * (t % 4)) 5) else none

/-- Whether the active table holds an entry for a pair. -/
def State.rsvPair (s : State) (i o : Nat) : Bool :=
  (List.range 32).any (fun t => s.rsvOut Reg.Frsv.ACTIVE i t == some o)

/-- The first offending entry of the shadow in ascending i and then t, with its RESULT (R368, R369, R391). -/
def State.rsvFault (s : State) : Option (Nat × Nat × Nat) :=
  let ent := (List.range 32).flatMap (fun i => (List.range 32).filterMap (fun t =>
    (s.rsvOut Reg.Frsv.SHADOW i t).map (fun o => (i, t, o))))
  let bad (e : Nat × Nat × Nat) : Bool := e.1 == e.2.2 || decide (29 ≤ e.1 ∨ 29 ≤ e.2.2)
  let clash (e x : Nat × Nat × Nat) : Bool :=
    e != x && e.2.2 == x.2.2 && (e.1 + e.2.1) % 32 == (x.1 + x.2.1) % 32
  (ent.find? (fun e => bad e || ent.any (clash e))).map (fun e => (e.1, e.2.1, if bad e then 4 else 3))

/-- RSV_STAT: RESULT, INPUT, SLOT, PENDING. -/
def State.rsvStat (s : State) (res i t : Nat) (pend : Bool) : State :=
  s.wrN (frsvReg Reg.Frsv.RSV_STAT) (res + i * 2 ^ 8 + t * 2 ^ 16 + b2n pend * 2 ^ 30)

/-- RSV_CTRL.COMMIT (R369): BUSY while one is pending; refused with the first offending entry; else pending until the next
fabric cycle. -/
def rsvCommit (s : State) : State :=
  if s.bit (frsvReg Reg.Frsv.RSV_STAT) 30 then
    (s.setFld (frsvReg Reg.Frsv.RSV_STAT) 0 4 2).raise swBase 19
  else match s.rsvFault with
    | some (i, t, res) => (s.rsvStat res i t false).raise swBase 19
    | none => s.rsvStat 0 0 0 true

def execRsvCommit (acc : Access) (s : State) : Host.Outcome State Fault Refusal :=
  .next (s.write acc 4 (frsvReg Reg.Frsv.RSV_CTRL) 1 (fun _ => rsvCommit))

/-- One table copied over the other, word by word. -/
def State.rsvCopy (s : State) (src dst : Nat) : State :=
  s.each (List.range 256) (fun s k => s.wr (frsvReg dst + 4 * k) (s.rd (frsvReg src + 4 * k)))

/-- RSV_CTRL.REVERT (R390). -/
def rsvRevert (s : State) : State := s.rsvCopy Reg.Frsv.ACTIVE Reg.Frsv.SHADOW

def execRsvRevert (acc : Access) (s : State) : Host.Outcome State Fault Refusal :=
  .next (s.write acc 4 (frsvReg Reg.Frsv.RSV_CTRL) 2 (fun _ => rsvRevert))

/-- The start of the fabric cycle after a commit (R369): the committed table is active. -/
def rsvActivate (s : State) : State :=
  if s.bit (frsvReg Reg.Frsv.RSV_STAT) 30 then
    ((s.rsvCopy Reg.Frsv.SHADOW Reg.Frsv.ACTIVE).rsvStat 1 0 0 false).raise swBase 18
  else s

def execRsvActivate (s : State) : Host.Outcome State Fault Refusal := .next (rsvActivate s)

/-! ## Egress selection (R364, R366, R377 to R384) -/

/-- CT_CELLS (R366). -/
def ctCells (rate : Nat) : Nat :=
  if rate = 25000 then 17 else if rate = 10000 then 8 else if rate = 5000 then 5 else if rate = 2500 then 3 else 2

/-- Whether cells 0 to n − 1 are in a copy's window or launch store. -/
def Copy.has (c : Copy) (n : Nat) : Bool := (List.range n).all (fun k => decide (k < c.passed) || c.got.contains k)

/-- Whether a frame may go to a port by cut-through (R366). -/
def State.ctOk (s : State) (f : Frame) (p : Nat) : Bool :=
  s.bit (swReg Reg.Sw.CT_CFG) p && decide (s.portRate p ≤ s.portRate f.inp ∧ 0 < s.portRate p)

/-- The start condition (R366, R377). -/
def State.startOk (s : State) (f : Frame) (c : Copy) : Bool :=
  let all := match f.total with
    | some n => decide (n ≤ f.sent) && (!f.rsv || c.has n)
    | none => false
  (f.ended && all) || (s.ctOk f c.port && c.has (match f.total with
    | some n => min n (ctCells (s.portRate c.port))
    | none => ctCells (s.portRate c.port)))

/-- PREEMPT_ACTIVE of a port. -/
def State.preempts (s : State) (p : Nat) : Bool := s.bit (eqReg p Reg.Eq.PORT_EQ_STAT) 0

/-- Whether a queue of a port sends preemptable frames (R383). -/
def State.preQ (s : State) (p q : Nat) : Bool := s.preempts p && s.qcfg p q 12

/-- A head frame's launch instant in ns, where the queue honours one (R380). -/
def State.launchOf (s : State) (f : Frame) (c : Copy) : Option (Option Nat) :=
  match f.launch with
  | some l => if s.qcfg c.port c.q qLt && !c.lateSent then some (s.launchAt l.dom c.bound) else none
  | none => none

/-- Credit of a queue, in millionths of a bit (R378). -/
def State.credit (s : State) (p q : Nat) : Int := Tbl.get 0 s.credits (8 * p + q)

/-- The head of a queue: its first copy whose transmission has not begun. -/
def State.headOf (s : State) (p q : Nat) : Option (Frame × Copy) := (s.queue p q).find? (fun e => !e.2.begun)

/-- Shaper, gate and launch time of a head (R377 to R380). -/
def State.timely (s : State) (f : Frame) (c : Copy) : Bool :=
  (!s.qcfg c.port c.q qCbs || decide (0 ≤ s.credit c.port c.q)) &&
  (!s.qcfg c.port c.q qGate || s.gateOpen c.port c.q) &&
  (match s.launchOf f c with
   | none => true
   | some none => false
   | some (some t) => decide (t ≤ s.tb0.nsTotal + 40))

/-- Whether a transmission begun now would not end before an instant (R382): the frame, preamble, SFD and minimum gap. -/
def State.reachesInto (s : State) (f : Frame) (c : Copy) (inst16 : Nat) : Bool :=
  let len := if f.whole || f.ended then f.octs.length else s.fld (qReg c.port c.q Reg.Eq.MAXLEN) 0 14
  let bits := 8 * (len + 20)
  decide (s.tb0.t16 ≤ inst16 ∧ (inst16 - s.tb0.t16) * s.portRate c.port ≤ bits * 1000 * 2 ^ 16)

/-- The guard rule holds a head back (R382). -/
def State.guardHolds (s : State) (f : Frame) (c : Copy) : Bool :=
  let p := c.port
  s.qcfg p c.q qGuard &&
  ((s.qcfg p c.q qGate && s.placed.any (fun x =>
      evAction x.w1 == 5 && evTarget x.w1 == p * 2 ^ 8 + c.q && s.reachesInto f c (x.inst * 2 ^ 16))) ||
   (List.range 8).any (fun q => q != c.q && !(s.preQ p c.q && !s.preQ p q) &&
      (match s.headOf p q with
       | some (f', c') => (match s.launchOf f' c' with
          | some (some t) => s.reachesInto f c (t * 2 ^ 16)
          | _ => false)
       | none => false)))

/-- Whether the port's transmitter takes a frame of queue q now: it is free, or an express frame preempts (R383). -/
def State.portTakes (s : State) (p q : Nat) : Bool :=
  let begun := s.frames.flatMap (fun f => f.copies.filter (fun c => c.port == p && c.begun))
  s.portUp p && (begun.isEmpty || (s.preempts p && !s.preQ p q && begun.all (·.pre)))

/-- The frame an output pulls cells for in its express or preemptable window (R363, R364): the one being sent until all
its cells are in, else the head of the highest queue that is timely and not held back. -/
def State.window (s : State) (p : Nat) (pre : Bool) : Option (Frame × Copy) :=
  let lacks (f : Frame) (c : Copy) : Bool := match f.total with
    | some n => decide (c.passed + c.got.length < n)
    | none => true
  match (s.frames.flatMap (fun f => (f.copies.filter (fun c =>
      c.queued && c.port == p && c.begun && c.pre == pre && lacks f c)).map (fun c => (f, c)))).head? with
  | some e => some e
  | none =>
    let ok (q : Nat) : Option (Frame × Copy) :=
      if s.preQ p q != pre then none
      else match s.headOf p q with
        | some e => if s.timely e.1 e.2 && !s.guardHolds e.1 e.2 then some e else none
        | none => none
    (List.range 8).reverse.findSome? ok

/-- The GUARD_HOLD count of heads the guard rule holds back, once each (R382). -/
def State.noteGuard (s : State) (p : Nat) : State :=
  s.each (List.range 8) (fun s q =>
    match s.headOf p q with
    | some (f, c) =>
      if !c.guarded && s.timely f c && s.startOk f c && s.guardHolds f c then
        ((s.modFrame (fun x => x.id == f.id && x.rsv == f.rsv) (fun x => { x with
          copies := x.copies.map (fun y => if y == c then { y with guarded := true } else y) })).count
            (qReg p q Reg.Eq.GUARD_HOLD)).ev 0x8D (pqInst p q)
      else s
    | none => s)

/-- Whether a frame is a gPTP Sync that a one-step port inserts (R84): ONE_STEP_MASK of its clock, twoStepFlag 0. -/
def State.oneStep (s : State) (p k : Nat) (l : List Nat) : Bool :=
  let at_ := payloadAt l
  etherType l == 0x88F7 && l.getD at_ 0 % 16 == 0 && !(l.getD (at_ + 6) 0).testBit 1 &&
    s.bit (clkReg k Reg.Clk.ONE_STEP_MASK) p

/-- A copy of a frame record replaced. -/
def State.setCopy (s : State) (f : Frame) (c c' : Copy) : State :=
  s.modFrame (fun x => x.id == f.id && x.rsv == f.rsv) (fun x => { x with
    copies := x.copies.map (fun y => if y == c then c' else y) })

/-- A copy leaves its queue without being sent. -/
def State.dropCopy (s : State) (f : Frame) (c : Copy) : State :=
  let was := s.bufFree
  (({ s with frames := s.frames.map (fun (x : Frame) => if x.id == f.id && x.rsv == f.rsv then
    { x with copies := x.copies.filter (· != c) } else x) }).tidy.markHeads).bufNote was

/-- A selected frame begins (R366, R377): whether its port inserts (R84), MACsec (R582), a preemption (R383). Its SFD
follows 40 ns on. One that MACsec cannot send is dropped (R583). -/
def State.begin (s : State) (bin : Nat) (f : Frame) (c : Copy) : State :=
  let p := c.port
  let ct := !f.ended
  let sync := s.oneStep p (s.tsClock f.gptp) f.octs
  match s.msProtect p f.octs with
  | (s, none) => s.dropCopy f c
  | (s, some sa) =>
    let s := s.onlyIf (sync && sa.isSome) (·.count (tbBase + Reg.Tb.ONE_STEP_SKIP))
    let pre := s.preQ p c.q
    let s := s.onlyIf (s.frames.any (fun x => x.copies.any (fun y => y.port == p && y.begun)))
      (fun s => (s.count (eqReg p Reg.Eq.PREEMPT_CNT)).ev 0x8E p)
    let s := s.setCopy f c { c with
      begun := true, ct := ct, pre := pre, wait := 8, txSa := sa.map (·.1), bin := bin,
      form := match sa with
        | some x => .sec x.2
        | none => if sync then .sync else .plain }
    s.markHeads

/-- TX_SELECT (R377, R384): the highest-numbered queue whose head is eligible. -/
def txSelect (p bin : Nat) (s : State) : State :=
  let s := s.noteGuard p
  let ok (q : Nat) : Option (Frame × Copy) :=
    match s.headOf p q with
    | some (f, c) =>
      if s.portTakes p q && s.timely f c && s.startOk f c && !s.guardHolds f c &&
          (!s.msOn p || s.uncontrolled p f.octs || s.msReady) then some (f, c) else none
    | none => none
  match (List.range 8).reverse.findSome? ok with
  | some (f, c) => s.begin bin f c
  | none => s

def execTxSelect (p : Fin 29) (bin : Fin 13) (s : State) : Host.Outcome State Fault Refusal :=
  .next (txSelect p.val bin.val s)

/-! ## A slot (R358, R361, R363, R370, R371) -/

/-- The cell of a frame that stage 1 takes from input i at slot t: by a due reserved entry, or on the best-effort path. -/
def State.stage1 (s : State) (i t : Nat) : State :=
  let j := (i + t) % 32
  let ready (f : Frame) : Bool := f.inp == i && !f.copies.isEmpty && decide (f.sent < f.arrived)
  let out (f : Frame) : Nat := match f.copies with | c :: _ => c.port | [] => 32
  let rsv := s.frames.find? (fun f => ready f && f.rsv && s.rsvOut Reg.Frsv.ACTIVE i t == some (out f))
  let best := (s.frames.find? (fun f => ready f && (!f.rsv || !s.rsvPair i (out f)) &&
    (match f.base with | some b => (b + f.sent) % 32 == j | none => true)))
  let pass (f : Frame) (x : Frame → Frame) : State :=
    if s.bufFree = 0 then s.truncate f.id
    else
      let was := s.bufFree
      let s := (s.modFrame (fun y => y.id == f.id && y.rsv == f.rsv) (fun y => { x y with sent := y.sent + 1 })).bufNote was
      (s.ev 0x8F i).onlyIf f.rsv (·.ev 0x90 i)
  match rsv, best with
  | some f, _ => pass f (fun y => { y with held := y.held ++ [(y.sent, j)] })
  | none, some f => pass f (fun y => { y with base := some (y.base.getD ((j + 32 - y.sent % 32) % 32)) })
  | none, none => s

/-- The cell that stage 2 brings to output o at slot t: the oldest reserved cell for o at the intermediate, or the cell
an express, then a preemptable window requests from it (R363); a reserved cell that finds the launch store full waits
(R371). -/
def State.stage2 (s : State) (o t : Nat) : State :=
  let j := (o + 32 - t) % 32
  let mine (f : Frame) : Bool := f.rsv && f.copies.any (·.port == o) && f.held.any (·.2 == j)
  match s.frames.find? mine with
  | some f =>
    if 256 ≤ s.lstore o then
      ((s.count (frsvReg Reg.Frsv.LSTORE_FULL_CNT)).raise swBase 21).ev 0x92 0
    else
      match f.held.find? (·.2 == j) with
      | some h =>
        let was := s.bufFree
        (s.modFrame (fun x => x.id == f.id && x.rsv) (fun x => { x with
          held := x.held.filter (· != h),
          copies := x.copies.map (fun c => { c with got := c.got ++ [h.1] }) })).bufNote was
      | none => s
  | none =>
    let pick (pre : Bool) : Option (Frame × Copy × Nat) :=
      match s.window o pre with
      | some (f, c) =>
        match f.base with
        | some b => ((List.range 32).map (c.passed + ·)).findSome? (fun k =>
            if k < f.sent && !c.got.contains k && !f.held.any (·.1 == k) && (b + k) % 32 == j then some (f, c, k) else none)
        | none => none
      | none => none
    match (pick false).orElse (fun _ => pick true) with
    | some (f, c, k) =>
      let was := s.bufFree
      (s.setCopy f c { c with got := c.got ++ [k] }).bufNote was
    | none => s

/-- A begun copy after one more slot: waiting for its SFD, sending, or out of cells. The second part says that a
cut-through frame found its window empty (R367). -/
def Copy.drain (c : Copy) (rate : Nat) (total : Option Nat) (held : Bool) : Copy × Bool :=
  let last := match total with | some n => decide (n ≤ c.passed) | none => false
  if !c.begun || held then (c, false)
  else if 0 < c.wait then ({ c with wait := c.wait - 1 }, false)
  else if last then (c, false)
  else
    let m := if c.passed = 0 then 512000 else c.mbits + rate * 5
    if m < 512000 then ({ c with mbits := m }, false)
    else if c.got.contains c.passed then
      ({ c with passed := c.passed + 1, got := c.got.filter (· != c.passed),
                mbits := if c.passed = 0 then 0 else m - 512000 }, false)
    else ({ c with mbits := min m 512000 }, c.ct)

/-- A frame's SFD passes the interface (R76): its corrected egress timestamp is taken, inserted where the port inserts it
(R84), and entered where a descriptor asked for it (R85). -/
def State.sfdOut (s : State) (f : Frame) (c : Copy) : State :=
  let p := c.port
  let t := s.tsOut p c.bin f.gptp
  let s := s.setCopy f c { c with egr := some t }
  let s := (s.ev 0x9F p).onlyIf (c.form == .sync) (·.ev 0xA0 p)
  match f.tsReq with
  | some tag => s.onlyIf (isHost f.inp) (·.capEnter (portHalf f.inp) tag p (s.tsClock f.gptp) t)
  | none => s

/-- Every begun copy sends for one slot; an express frame holds its port's preempted one (R383), and CKG1 a frame in a MACsec
core (R317). -/
def State.drainAll (s : State) : State :=
  let was := s.bufFree
  let express (p : Nat) : Bool := s.frames.any (fun f => f.copies.any (fun c => c.begun && !c.pre && c.port == p))
  let go (f : Frame) (c : Copy) : Copy × Bool := c.drain (s.portRate c.port) f.total 
    ((c.pre && express c.port) || (s.gated 1 && c.txSa.isSome))
  let dry := s.frames.flatMap (fun f => (f.copies.filter (fun c => (go f c).2)).map (·.port))
  let sfd := s.frames.flatMap (fun f => (f.copies.filter (fun c => c.wait == 1 && (go f c).1.wait == 0)).map
    (fun c => (f, (go f c).1)))
  let s := { s with frames := s.frames.map (fun (f : Frame) => { f with
    copies := f.copies.map (fun c => { (go f c).1 with bad := c.bad || (go f c).2 }) }) }
  let s := s.each sfd (fun s e => s.sfdOut e.1 e.2)
  let s := s.each dry (fun s p => s.count (eqReg p Reg.Eq.CT_UNDERRUN))
  (s.onlyIf (!dry.isEmpty) (·.dropCopies (fun _ c => c.bad && c.ct && dry.contains c.port))).bufNote was

/-- The credits of the shaped queues after one slot (R378), as IEEE 802.1Qav has them. -/
def State.creditSlot (s : State) : State :=
  s.each ((List.range 232).filter (fun k => s.qcfg (k / 8) (k % 8) qCbs || s.credit (k / 8) (k % 8) != 0)) (fun s k =>
    let p := k / 8
    let q := k % 8
    let idle : Int := s.fld (qReg p q Reg.Eq.CBS_IDLE) 0 25
    let sending := (s.queue p q).any (·.2.begun)
    let waiting := (s.headOf p q).isSome
    let c := s.credit p q
    let c : Int :=
      if !s.qcfg p q qCbs then 0
      else if sending then c + 5 * (idle - 1000 * s.portRate p)
      else if waiting then c + 5 * idle
      else if 0 < c then 0
      else min 0 (c + 5 * idle)
    { s with credits := Tbl.set 0 s.credits k (limitI (-2147483648000000) 2147483648000000 c) })

/-- Cells of the frames in progress complete at the inputs in this slot; the MACsec core of a port holds what arrives while
CKG1 is gated (R317). A cell of the reserved path that finds an earlier
one of its pair waiting counts in RSV_DEFER (R370). -/
def State.arriveCell (s : State) (p : Nat) (pre : Bool) (l : List Nat) : State :=
  let mine (f : Frame) : Bool := f.inp == p && f.pmac == pre && !f.ended &&
    (match f.total with | some n => decide (f.arrived < n) | none => decide (f.arrived < 144))
  match (if s.msOn p && s.gated 1 then none else s.frames.find? mine) with
  | none => s
  | some f0 =>
    let outs (f : Frame) : List Nat := f.copies.map (·.port)
    let defer := s.frames.any (fun f => f.id == f0.id && f.rsv && !f.copies.isEmpty &&
      s.frames.any (fun g => g.rsv && g.inp == p && decide (g.sent < g.arrived) && outs g == outs f))
    let s := s.modFrame (fun f => f.id == f0.id && mine f) (fun f => { f with
      arrived := f.arrived + 1, octs := if f.whole then f.octs else f.octs ++ octs (clean l) 64 })
    s.onlyIf defer (fun s => (s.count (frsvReg Reg.Frsv.RSV_DEFER)).ev 0x91 0)

/-- FABRIC_SLOT (R358): cells complete at the inputs, both stages, transmission and credits for 5 ns; the cycle's end,
at which BUF_LOW is judged (R531, log entry 81). -/
def fabricSlot (arr : List (Fin 29 × Bool × List Nat)) (s : State) : State :=
  if !s.domainOn 6 then s
  else
    let t := s.slotNo
    let s := s.each arr (fun s e => s.arriveCell e.1.val e.2.1 e.2.2)
    let s := s.each (List.range 29) (fun s o => s.stage2 o t)
    let s := s.each (List.range 29) (fun s i => s.stage1 i t)
    let s := s.drainAll.creditSlot
    let s := { s with slotNo := (t + 1) % 32 }
    s.onlyIf (t == 31) (fun s =>
      (s.countWrap (swReg Reg.Sw.FAB_CYCLE)).onlyIf (decide (s.bufFree < s.lowMark)) (·.ev 0x93 0))

def execFabricSlot (arr : List (Fin 29 × Bool × List Nat)) (s : State) : Host.Outcome State Fault Refusal :=
  .next (fabricSlot arr s)

/-! ## The end of a transmission (R375, R385, R386) -/

/-- The words of a receive record but for INSEQ and GAP (R386). -/
def rxRecord (f : Frame) (c : Copy) : List Word :=
  [f.ts.tsLo, f.ts.tsHi, 0,
   word (f.inp * 2 ^ 16 + c.q * 2 ^ 21 + f.clock * 2 ^ 24 + b2n (c.kind == .replica || c.kind == .hostReplica || c.kind == .sampleReplica) * 2 ^ 26 +
     b2n (c.kind == .host || c.kind == .hostReplica) * 2 ^ 27 +
     b2n (c.kind == .sample || c.kind == .sampleReplica) * 2 ^ 28),
   word (f.octs.length % 2 ^ 14 + f.stream * 2 ^ 16),
   word (f.vid + f.pcp * 2 ^ 12 + b2n f.tagged * 2 ^ 15), f.w6, f.w7]

/-- A frame reaches what is attached to its port: the medium, a host port, the gateway (R357). -/
def State.handOver (s : State) (f : Frame) (c : Copy) : State :=
  let x : RxItem := ⟨rxRecord f c, f.inseq, f.octs⟩
  if c.port = 26 then { s with hostRxA := s.hostRxA ++ [x] }
  else if c.port = 27 then { s with hostRxB := s.hostRxB ++ [x] }
  else if c.port = 28 then { s with gwRx := s.gwRx ++ [f.octs] }
  else s.emit (.frame c.port (f.outOcts c) true)

/-- GATE_OVERRUN of a frame that completes after its gate closed (R379). -/
def State.gateOverrun (s : State) (p q : Nat) : State :=
  ((s.count (eqReg p Reg.Eq.GATE_OVERRUN)).raise swBase 23).ev 0x8C (pqInst p q)

/-- TX_COMPLETE: the frame whose last cell has been passed on leaves its queue (R375). A frame whose key was lost ends with
an inverted FCS (R584). -/
def txComplete (p : Nat) (s : State) : State :=
  let done (f : Frame) (c : Copy) : Bool := c.port == p && c.begun &&
    (c.bad || (f.ended && (match f.total with | some n => decide (n ≤ c.passed) | none => false)))
  match (s.frames.flatMap (fun f => (f.copies.filter (done f)).map (fun c => (f, c)))).head? with
  | none => s
  | some (f, c) =>
    let s := s.onlyIf c.overran (·.gateOverrun p c.q)
    if c.bad then (s.emit (.frame p (f.sentOcts c) false)).dropCopy f c
    else
      let s := (s.count (qReg p c.q Reg.Eq.TX_CNT)).ev 0x83 p
      let s := s.evN 0x84 p f.octs.length
      let s := s.onlyIf (decide (p < 26)) (·.count (portBase p + Reg.Port.TX_GOOD))
      (s.handOver f c).dropCopy f c

def execTxComplete (p : Fin 29) (s : State) : Host.Outcome State Fault Refusal := .next (txComplete p.val s)

/-! ## Late launches (R381) -/

/-- Whether a head frame is late: its instant had passed when it reached the head, it has not started LATE_TOL after it,
or its domain became STALLED. -/
def State.isLate (s : State) (f : Frame) (c : Copy) : Bool :=
  match f.launch, c.headAt with
  | some l, some h =>
    s.qcfg c.port c.q qLt && !c.lateSent &&
    ((s.dom l.dom).st == .stalled ||
     (match s.launchAt l.dom c.bound with
      | some t => decide (t < h ∨ t + s.fld (qReg c.port c.q Reg.Eq.LATE_TOL) 0 16 ≤ s.tb0.nsTotal)
      | none => false))
  | _, _ => false

/-- LAUNCH_LATE: discarded or made eligible without a launch time (R381). -/
def launchLate (p q : Nat) (s : State) : State :=
  match s.headOf p q with
  | some (f, c) =>
    if s.isLate f c then
      let s := s.raise swBase 22
      if s.qcfg p q qLatePol then
        ((s.setCopy f c { c with lateSent := true }).count (qReg p q Reg.Eq.LATE_SENT)).ev 0x8B (pqInst p q)
      else ((s.dropCopy f c).count (qReg p q Reg.Eq.LATE_DROP)).ev 0x8A (pqInst p q)
    else s
  | none => s

def execLaunchLate (p : Fin 29) (q : Fin 8) (s : State) : Host.Outcome State Fault Refusal :=
  .next (launchLate p.val q.val s)

/-! ## The MAC merge sublayer (R383) -/

/-- Verification ends on a port with preemption enabled: succeeded or failed; with VERIFY_DIS it is skipped and
preemption is active. -/
def macMerge (p : Nat) (ok : Bool) (s : State) : State :=
  let cfg := s.rd (eqReg p Reg.Eq.PORT_EQ_CFG)
  let st := eqReg p Reg.Eq.PORT_EQ_STAT
  if !bitOf cfg 0 then s.setFld st 0 3 0
  else if bitOf cfg 3 then s.setFld st 0 3 1
  else (s.setFld st 1 2 (if ok then 2 else 3)).setBit st 0 ok

def execMacMergeVerification (p : Fin 14) (ok : Bool) (s : State) : Host.Outcome State Fault Refusal :=
  .next (macMerge p.val ok s)

/-! ## Gates that close (R136, R379) -/

/-- A gate that closes during a transmission does not stop the frame: it is counted when the frame completes. -/
def closeAct (i : Nat) (s : State) : State :=
  s.runAct i 5 (fun s q => (s.actGate q false).finishAct q)

def execActionClose (i : Fin 4096) (s : State) : Host.Outcome State Fault Refusal := .next (closeAct i.val s)

/-! ## What the registers of this chapter read -/

/-- Live registers of an EQ page (R392). -/
def State.eqLive (s : State) (p off : Nat) : Option Word :=
  if off = Reg.Eq.PORT_EQ_STAT then
    some (word (s.rdN (eqReg p off) % 256 +
      ((List.range 8).foldl (fun a q => a + b2n (decide (0 < s.qFrames p q)) * 2 ^ q) 0) * 2 ^ 8))
  else if 0x100 ≤ off ∧ off < 0x300 then
    let q := (off - 0x100) / 0x40
    let r := off - 0x40 * q
    if r = Reg.Eq.Q_OCC then some (word (s.qOcc p q))
    else if r = Reg.Eq.Q_FRAMES then some (word (s.qFrames p q))
    else if r = Reg.Eq.CBS_CREDIT then some (word (unsignedOf 32 (truncDiv (s.credit p q) 1000000)))
    else none
  else none

end Sys2Proof.Machine
end

