-- ==== Sys2Proof/Machine/Forward.lean ====
section
/-! DEFINITION. Forwarding: the lookup and its result, the forwarding database with learning, stream filters, multicast
groups with their residue, mirror sessions, host copies and the Fetch sampler (R394 to R428). -/

namespace Sys2Proof.Machine

def fwdReg (off : Nat) : Nat := fwdBase + off
def sfltReg (off : Nat) : Nat := sfltBase + off
def mcgReg (off : Nat) : Nat := mcgBase + off
def mirReg (i off : Nat) : Nat := mirBase + off + 0x20 * i
def fetchReg (p off : Nat) : Nat := fetchBase + off + 0x10 * p

/-! ## The tables -/

/-- Word j of a forwarding entry (R400). -/
def entWord (e : List Word) (j : Nat) : Word := e.getD j 0

/-- Forwarding entry i. -/
def State.fdbEnt (s : State) (i : Nat) : List Word := Tbl.get [] s.fdb i

/-- Whether an entry is in use. -/
def entValid (e : List Word) : Bool := bitOf (entWord e 1) 31

/-- Key of an entry: address and VID. -/
def entMac (e : List Word) : Nat := bitsOf (entWord e 1) 0 16 * 2 ^ 32 + (entWord e 0).toNat
def entVid (e : List Word) : Nat := bitsOf (entWord e 1) 16 12

/-- The index of the valid entry with a key (R401). -/
def State.fdbFind (s : State) (mac vid : Nat) : Option Nat :=
  (s.fdb.find? (fun e => entValid e.2 && entMac e.2 == mac && entVid e.2 == vid)).map (·.1)

/-- Stream filter i. -/
def State.sf (s : State) (i : Nat) : SFilter := Tbl.get {} s.sfs i

/-- Stream filter i set. -/
def State.setSf (s : State) (i : Nat) (x : SFilter) : State := { s with sfs := Tbl.set {} s.sfs i x }

/-- Saturating 32-bit increment. -/
def satInc (n : Nat) : Nat := min 0xFFFFFFFF (n + 1)

/-- Multicast group i. -/
def State.mg (s : State) (i : Nat) : List Word := Tbl.get [] s.mgs i

/-- Words of a shadow from a key. -/
def State.shadowWords (s : State) (k n : Nat) : List Word := (List.range n).map (fun i => s.rd (k + 4 * i))

/-- Read-back words. -/
def State.putWords (s : State) (k n : Nat) (l : List Word) : State :=
  s.each (List.range n) (fun s i => s.wr (k + 4 * i) (l.getD i 0))

/-- A commit status: RESULT, PENDING 0, INDEX (R404, R425). -/
def State.cmtStat (s : State) (k res idx : Nat) : State := s.wrN k (res + idx * 2 ^ 16)

/-- Commit result codes (R404). -/
def cmtDone : Nat := 1
def cmtDup : Nat := 3
def cmtBad : Nat := 4
def cmtNone : Nat := 5
def cmtOp : Nat := 6

/-- BAD_ENTRY of a forwarding entry (R404). -/
def fdbBad (w : List Word) : Bool :=
  bitsOf (entWord w 1) 28 2 != 0 || bitsOf (entWord w 3) 19 13 != 0 || entVid w == 0xFFF ||
    (bitOf (entWord w 2) 30 && bitsOf (entWord w 2) 0 30 != 0)

/-- A write of FDB_CMT (R402 to R404): it completes at once. -/
def fdbCommit (v : Word) (s : State) : State :=
  let i := bitsOf v 0 13
  let k := fwdReg Reg.Fwd.FDB_CMT_STAT
  let w := s.shadowWords (fwdReg Reg.Fwd.FDB_SH) 4
  match bitsOf v 16 3 with
  | 1 =>
    if fdbBad w then s.cmtStat k cmtBad i
    else
      match (if entValid w then s.fdbFind (entMac w) (entVid w) else none) with
      | some j =>
        if j = i then { s with fdb := s.fdb.put i (w.set 1 (setBit (entWord w 1) 30 false)) }.cmtStat k cmtDone i
        else s.cmtStat k cmtDup j
      | none => { s with fdb := Tbl.set [] s.fdb i (w.set 1 (setBit (entWord w 1) 30 false)) }.cmtStat k cmtDone i
  | 2 => { s with fdb := s.fdb.del i }.cmtStat k cmtDone i
  | 3 => (s.putWords (fwdReg Reg.Fwd.FDB_RD) 4 (s.fdbEnt i)).cmtStat k cmtDone i
  | 4 =>
    (match s.fdbFind (entMac w) (entVid w) with
     | some j => s.cmtStat k cmtDone j
     | none => s.cmtStat k cmtNone i)
  | _ => s.cmtStat k cmtOp i

/-- The word of a commit register. -/
def cmtWord (idx op : Nat) (clr : Bool) : Word := word (idx + op * 2 ^ 16 + b2n clr * 2 ^ 20)

def execFdbWrite (acc : Access) (idx : Fin 8192) (s : State) : Host.Outcome State Fault Refusal :=
  .next (s.write acc 4 (fwdReg Reg.Fwd.FDB_CMT) (cmtWord idx.val 1 false) (fun _ => fdbCommit (cmtWord idx.val 1 false)))
def execFdbClear (acc : Access) (idx : Fin 8192) (s : State) : Host.Outcome State Fault Refusal :=
  .next (s.write acc 4 (fwdReg Reg.Fwd.FDB_CMT) (cmtWord idx.val 2 false) (fun _ => fdbCommit (cmtWord idx.val 2 false)))
def execFdbRead (acc : Access) (idx : Fin 8192) (s : State) : Host.Outcome State Fault Refusal :=
  .next (s.write acc 4 (fwdReg Reg.Fwd.FDB_CMT) (cmtWord idx.val 3 false) (fun _ => fdbCommit (cmtWord idx.val 3 false)))
def execFdbFind (acc : Access) (idx : Fin 8192) (s : State) : Host.Outcome State Fault Refusal :=
  .next (s.write acc 4 (fwdReg Reg.Fwd.FDB_CMT) (cmtWord idx.val 4 false) (fun _ => fdbCommit (cmtWord idx.val 4 false)))

/-- BAD_ENTRY of a stream filter (R404, R408). -/
def sfBad (w : List Word) : Bool :=
  bitsOf (entWord w 1) 16 12 == 0xFFF || bitsOf (entWord w 2) 29 3 != 0 || bitsOf (entWord w 3) 30 2 != 0 ||
    bitsOf (entWord w 4) 14 18 != 0 || bitsOf (entWord w 5) 25 6 != 0 || bitsOf (entWord w 6) 24 8 != 0 ||
    entWord w 7 != 0

/-- CBS of a filter in token units (R408, R411). -/
def sfCbs (w : List Word) : Int := bitsOf (entWord w 6) 0 24 * 8000000

/-- A filter's token count brought to a TBF instant (R411). -/
def SFilter.refill (f : SFilter) (now : Nat) : SFilter :=
  { f with
    tokens := min (sfCbs f.ws) (f.tokens + bitsOf (entWord f.ws 5) 0 25 * (now - f.time : Nat)), time := now }

/-- A write of SF_CMT (R402, R411, R427): a WRITE keeps the token count within the new CBS, a CLEAR discards it, a READ
copies the counts and clears them with CNT_CLR. -/
def sfCommit (v : Word) (s : State) : State :=
  let i := bitsOf v 0 11
  let k := sfltReg Reg.Sflt.SF_CMT_STAT
  let w := s.shadowWords (sfltReg Reg.Sflt.SF_SH) 8
  let f := s.sf i
  let now := s.time.tbf.nsTotal
  match bitsOf v 16 3 with
  | 1 =>
    if sfBad w then s.cmtStat k cmtBad i
    else
      let t := if f.metered then min (f.refill now).tokens (sfCbs w) else sfCbs w
      (s.setSf i { f with ws := w, metered := true, tokens := t, time := now }).cmtStat k cmtDone i
  | 2 => (s.setSf i { hits := f.hits, sdu := f.sdu, meter := f.meter }).cmtStat k cmtDone i
  | 3 =>
    let s := s.putWords (sfltReg Reg.Sflt.SF_RD) 8 f.ws
    let s := ((s.wrN (sfltReg Reg.Sflt.SF_RD_MATCH) f.hits).wrN (sfltReg Reg.Sflt.SF_RD_SDU) f.sdu).wrN
      (sfltReg Reg.Sflt.SF_RD_METER) f.meter
    let s := s.onlyIf (bitOf v 20) (·.setSf i { f with hits := 0, sdu := 0, meter := 0 })
    s.cmtStat k cmtDone i
  | _ => s.cmtStat k cmtOp i

def execSfWrite (acc : Access) (idx : Fin 2048) (clr : Bool) (s : State) : Host.Outcome State Fault Refusal :=
  .next (s.write acc 4 (sfltReg Reg.Sflt.SF_CMT) (cmtWord idx.val 1 clr) (fun _ => sfCommit (cmtWord idx.val 1 clr)))
def execSfClear (acc : Access) (idx : Fin 2048) (clr : Bool) (s : State) : Host.Outcome State Fault Refusal :=
  .next (s.write acc 4 (sfltReg Reg.Sflt.SF_CMT) (cmtWord idx.val 2 clr) (fun _ => sfCommit (cmtWord idx.val 2 clr)))
def execSfRead (acc : Access) (idx : Fin 2048) (clr : Bool) (s : State) : Host.Outcome State Fault Refusal :=
  .next (s.write acc 4 (sfltReg Reg.Sflt.SF_CMT) (cmtWord idx.val 3 clr) (fun _ => sfCommit (cmtWord idx.val 3 clr)))

/-- RESIDUE_TO as stored (R413). -/
def mgStored (w : List Word) : List Word :=
  w.set 1 (setBits (entWord w 1) 16 14 (limit 1 10000 (bitsOf (entWord w 1) 16 14)))

/-- A write of MG_CMT (R402, R413). -/
def mgCommit (v : Word) (s : State) : State :=
  let i := bitsOf v 0 10
  let k := mcgReg Reg.Mcg.MG_CMT_STAT
  let w := s.shadowWords (mcgReg Reg.Mcg.MG_SH) 2
  match bitsOf v 16 3 with
  | 1 =>
    if bitOf (entWord w 0) 30 || bitsOf (entWord w 1) 30 2 != 0 || bitsOf (entWord w 1) 1 15 != 0 then s.cmtStat k cmtBad i
    else { s with mgs := Tbl.set [] s.mgs i (mgStored w) }.cmtStat k cmtDone i
  | 2 => { s with mgs := s.mgs.del i }.cmtStat k cmtDone i
  | 3 => (s.putWords (mcgReg Reg.Mcg.MG_RD) 2 (s.mg i)).cmtStat k cmtDone i
  | _ => s.cmtStat k cmtOp i

def execMgWrite (acc : Access) (idx : Fin 1024) (s : State) : Host.Outcome State Fault Refusal :=
  .next (s.write acc 4 (mcgReg Reg.Mcg.MG_CMT) (cmtWord idx.val 1 false) (fun _ => mgCommit (cmtWord idx.val 1 false)))
def execMgClear (acc : Access) (idx : Fin 1024) (s : State) : Host.Outcome State Fault Refusal :=
  .next (s.write acc 4 (mcgReg Reg.Mcg.MG_CMT) (cmtWord idx.val 2 false) (fun _ => mgCommit (cmtWord idx.val 2 false)))
def execMgRead (acc : Access) (idx : Fin 1024) (s : State) : Host.Outcome State Fault Refusal :=
  .next (s.write acc 4 (mcgReg Reg.Mcg.MG_CMT) (cmtWord idx.val 3 false) (fun _ => mgCommit (cmtWord idx.val 3 false)))

/-- A write of a commit register of table 0 FDB, 1 SFLT, 2 MCG, whatever its OP (R402, R404). -/
def tblCommit (tbl : Nat) (v : Word) : State → State :=
  if tbl = 0 then fdbCommit v else if tbl = 1 then sfCommit v else mgCommit v
def tblCmt (tbl : Nat) : Nat :=
  if tbl = 0 then fwdReg Reg.Fwd.FDB_CMT else if tbl = 1 then sfltReg Reg.Sflt.SF_CMT else mcgReg Reg.Mcg.MG_CMT

def execCmtBadOp (acc : Access) (tbl : Fin 3) (v : Word) (s : State) : Host.Outcome State Fault Refusal :=
  .next (s.write acc 4 (tblCmt tbl.val) v (fun _ => tblCommit tbl.val v))

/-! ## Residue (R415 to R417) -/

/-- Residue copies waiting. -/
def State.residueWait (s : State) : Nat :=
  (s.frames.map (fun f => (f.copies.filter (·.residue.isSome)).length)).foldl (· + ·) 0

/-- A host port loses an item that the half would have received (R264, R268): a numbered frame's copy, at a half in step. -/
def State.hostLost (s : State) (p : Nat) (item : Bool) : State :=
  s.onlyIf (isHost p && item && s.inStep (portHalf p)) (·.inputLost (portHalf p) true)

/-- The residue copies a test names are evaluated in the order of their lookups (R416). -/
def State.residueEval (s : State) (g : Copy → Bool) : State :=
  let all := s.frames.flatMap (fun f => (f.copies.filter (fun c => c.residue.isSome && g c)).map (fun c => (f, c)))
  (s.each all (fun s e =>
    if s.admits e.2.port e.2.q = .ok then
      let s := s.setCopy e.1 e.2 { e.2 with residue := none }
      ((s.count (mcgReg Reg.Mcg.RESIDUE_ADMIT)).ev 0x9C 0).enqueued e.2.port e.2.q e.1.launch.isSome
    else s)).markHeads

def execResidueEvaluate (s : State) : Host.Outcome State Fault Refusal := .next (s.residueEval (fun _ => true))

/-- A residue copy refused for good (R417). -/
def State.residueDrop (s : State) (p q : Nat) (item : Bool) : State :=
  ((((s.refuse p q .qlim).count (mcgReg Reg.Mcg.MC_RESIDUE_DROP + 4 * p)).ev 0x9B p)).hostLost p item

/-- Residue copies whose RESIDUE_TO has passed are refused (R417). -/
def residueTimeout (s : State) : State :=
  let late (c : Copy) : Bool := match c.residue with
    | some t => decide (t ≤ s.time.tbf.nsTotal)
    | none => false
  let hit := s.frames.flatMap (fun f => (f.copies.filter late).map (fun c => (c.port, c.q, f.inseq != 0)))
  let s := s.each hit (fun s e => s.residueDrop e.1 e.2.1 e.2.2)
  s.dropCopies (fun _ c => late c)

def execResidueTimeout (s : State) : Host.Outcome State Fault Refusal := .next (residueTimeout s)

/-! ## Building the result (R394 to R399, R409 to R415) -/

/-- The active half's host port. -/
def State.activeHost (s : State) : Nat := hostPort s.activeHalf

/-- The VID and PCP of a frame from port p (R394), and whether it is tagged. -/
def State.vidPcp (s : State) (p : Nat) (l : List Nat) : Nat × Nat :=
  let k := fwdReg Reg.Fwd.IN_CFG + 4 * p
  let tci := be l 14 2
  if isTagged l then (if tci % 4096 = 0 then s.fld k 0 12 else tci % 4096, tci / 8192)
  else (s.fld k 0 12, s.fld k 12 3)

/-- Whether a filter matches a frame (R409). -/
def sfMatches (w : List Word) (p : Nat) (l : List Nat) (vid pcp : Nat) : Bool :=
  let mac := if bitOf (entWord w 1) 28 then be l 6 6 else be l 0 6
  entValid w && bitOf (entWord w 2) p && (bitOf (entWord w 1) 29 || entMac w == mac) &&
    (bitOf (entWord w 1) 30 || entVid w == vid) && (bitOf (entWord w 3) 19 || bitsOf (entWord w 3) 16 3 == pcp)

/-- What the forwarding search gives (R398, R399, R412): ports, whether the active host is named, the group, the class,
drop, mirror sessions, host copy, whether it missed. -/
structure Fwd where
  mask : Nat := 0
  host : Bool := false
  group : Option Nat := none
  cls : Nat := 0
  drop : Bool := false
  mir : Nat := 0
  copy : Bool := false
  missed : Bool := false
  deriving DecidableEq, Repr

/-- A link-local address of R398. -/
def isLinkLocal (mac : Nat) : Bool := decide (0x0180C2000000 ≤ mac ∧ mac ≤ 0x0180C200000F)

/-- Steps 1 to 3 of the lookup (R395 to R399). -/
def State.search (s : State) (p mac vid pcp : Nat) : State × Fwd :=
  match s.fdbFind mac vid with
  | some i =>
    let e := s.fdbEnt i
    let w2 := entWord e 2
    let w3 := entWord e 3
    (s, { mask := bitsOf w2 0 29, host := bitOf w2 29, group := if bitOf w2 30 then some (bitsOf w3 4 10) else none,
          cls := if bitOf w3 3 then bitsOf w3 0 3 else pcp, drop := bitOf w2 31, mir := bitsOf w3 14 4,
          copy := bitOf w3 18 })
  | none =>
    let hc := s.rd (fwdReg Reg.Fwd.HOST_CFG)
    if isLinkLocal mac && bitOf hc 3 then
      (s.count (fwdReg Reg.Fwd.LL_CNT), { host := true, cls := bitsOf hc 0 3, missed := true })
    else
      let s := (s.count (fwdReg Reg.Fwd.MISS_CNT)).ev 0x95 0
      if s.bit (fwdReg Reg.Fwd.IN_CFG + 4 * p) 17 then
        let m := s.rd (fwdReg Reg.Fwd.MISS_MASK + 4 * p)
        (s, { mask := bitsOf m 0 29, host := bitOf m 29, cls := pcp, missed := true })
      else (s.count (fwdReg Reg.Fwd.MISS_DROP), { drop := true, missed := true })

/-- The lowest-numbered matching filter; its match counts (R409). -/
def State.filterOf (s : State) (p : Nat) (l : List Nat) (vid pcp : Nat) : Option Nat :=
  (s.sfs.find? (fun e => sfMatches e.2.ws p l vid pcp)).map (·.1)

/-- The meter of filter i at the lookup (R411): whether the frame passes. -/
def State.meterPass (s : State) (i : Nat) : State × Bool :=
  let f := (s.sf i).refill s.time.tbf.nsTotal
  if bitOf (entWord f.ws 5) 31 then
    if 0 < f.tokens then (s.setSf i f, true)
    else
      (((s.setSf i { f with meter := satInc f.meter }).count (sfltReg Reg.Sflt.METER_DROP_TOTAL)).ev 0x98 0, false)
  else (s, true)

/-- Whether a host port other than the active one also gets host-bound frames (R268): the standby in RESYNC or HEEL. -/
def State.standbyHears (s : State) : Bool :=
  s.role s.activeHalf.other == roleResync || s.role s.activeHalf.other == roleHeel

/-- Ports with their kinds for a copy to a port: a copy to the active host port also goes to the standby (R268). -/
def State.withReplica (s : State) (ports : List Nat) (own rep : CopyKind) : List (Nat × CopyKind) :=
  ports.map (fun p => (p, own)) ++
    (if ports.contains s.activeHost && s.standbyHears && !ports.contains (hostPort s.activeHalf.other) then
      [(hostPort s.activeHalf.other, rep)] else [])

/-- A copy is admitted or refused under R373, its queue's residue first (R416); `ready` defers a refusal by QLIM alone
(R415); `item` says that it is a numbered frame's (R264). -/
def State.admitCopy (s : State) (p q : Nat) (kind : CopyKind) (launch : Bool) (ready : Option Nat) (item : Bool) :
    State × Option Copy :=
  let s := s.residueEval (fun c => c.port == p && c.q == q)
  let c : Copy := { port := p, q := q, kind := kind }
  match s.admits p q with
  | .ok => (s.enqueued p q launch, some c)
  | .qlim =>
    let freeOk := decide ((if s.qcfg p q qRsv then s.fld (swReg Reg.Sw.GLOB_HEADROOM) 0 18 else s.lowMark) ≤ s.bufFree)
    (match ready with
     | some t =>
       if !freeOk then ((s.refuse p q .free).hostLost p item, none)
       else if s.residueWait < 512 then (s, some { c with residue := some t })
       else (s.residueDrop p q item, none)
     | none => ((s.refuse p q .qlim).hostLost p item, none))
  | .free => ((s.refuse p q .free).hostLost p item, none)

/-- Admission of a list of copies, in order, with their queue. -/
def State.admitAll (s : State) (l : List (Nat × CopyKind)) (q : Nat) (launch : Bool) (ready : Option Nat) (item : Bool) :
    State × List Copy :=
  l.foldl (fun a e =>
    let r := a.1.admitCopy e.1 q e.2 launch ready item
    (r.1, a.2 ++ r.2.toList)) (s, [])

/-- Mirror copies (R418, R419); none while CKG3 is gated (R317). -/
def State.mirrorCopies (s : State) (inp admitted mir : Nat) : State × List Copy :=
  if s.gated 3 then (s, [])
  else
    (List.range 4).foldl (fun a i =>
      let s := a.1
      let cfg := s.rd (mirReg i Reg.Mir.MIR_CFG)
      let dest := bitsOf cfg 0 5
      let want := s.bit (mirReg i Reg.Mir.MIR_IN_MASK) inp || mir.testBit i ||
        (List.range 29).any (fun p => admitted.testBit p && s.bit (mirReg i Reg.Mir.MIR_EG_MASK) p)
      if bitOf cfg 8 && decide (dest ≤ 21) && dest != inp && want then
        match s.admitCopy dest (bitsOf cfg 5 3) (.mirror i) false none false with
        | (s, some c) => ((s.count (mirReg i Reg.Mir.MIR_COPIES)).ev 0x9D i, a.2 ++ [c])
        | (s, none) => (s.count (mirReg i Reg.Mir.MIR_DROP), a.2)
      else a) (s, [])

/-- The Fetch sampler of a port counts a frame (R421): SAMPLE_SEQ of the sample where it takes this one. -/
def State.fetchCount (s : State) (p : Nat) : State × Option Nat :=
  let n := s.fld (fetchReg p Reg.Fetch.FETCH_CFG) 0 16
  let k := fetchReg p Reg.Fetch.FETCH_CNT
  if s.gated 3 then (s, none)
  else if n = 0 then (s.setFld k 0 16 0, none)
  else if n ≤ s.fld k 0 16 + 1 then
    let seq := (Tbl.get 0 s.fetchSeq p + 1) % 2 ^ 16
    ({ s with fetchSeq := Tbl.set 0 s.fetchSeq p seq }.setFld k 0 16 0, some seq)
  else (s.setFld k 0 16 (s.fld k 0 16 + 1), none)

/-- Steps 7 and 8 of the lookup for a frame whose egress set is known (R395): host and mirror copies, admission, the
numbering of host-bound frames (R264), the reserved path (R370), the sampler (R421). The parts of a frame on the reserved
path and of its other copies are recorded apart. -/
def State.bindFrame (s : State) (f : Frame) (ports : List Nat) (cls : Nat) (mc : Bool) (ready : Option Nat) (mir : Nat)
    (copyHost : Bool) : State :=
  let lt := f.launch.isSome
  let span := ownType f.octs
  let ord := if span then ports.map (fun p => (p, CopyKind.ordinary)) else s.withReplica ports .ordinary .replica
  let hostq := s.fld (fwdReg Reg.Fwd.HOST_CFG) 4 3
  let hc := if copyHost && !ports.contains s.activeHost then s.withReplica [s.activeHost] .host .hostReplica else []
  let toHost := !span && (ord ++ hc).any (fun e => isHost e.1)
  let r := if toHost then s.nextInseq else (0, s)
  let f := { f with inseq := r.1 }
  let a := r.2.admitAll ord cls lt ready toHost
  let s := a.1
  let refused := (ord.filter (fun e => !a.2.any (fun c => c.port == e.1))).map (·.1)
  let s := s.onlyIf (mc && ready.isNone) (·.each refused (fun s p =>
    (s.count (mcgReg Reg.Mcg.MC_PARTIAL + 4 * p)).ev 0x9A p))
  let s := s.onlyIf (mc && !ord.isEmpty && a.2.isEmpty) (·.count (mcgReg Reg.Mcg.MC_NONE))
  let adm := (a.2.filter (fun c => c.queued && c.kind == .ordinary)).foldl (fun m c => setNatBit m c.port true) 0
  let h := s.admitAll hc hostq false none toHost
  let m := h.1.mirrorCopies f.inp adm mir
  let fc := m.1.fetchCount f.inp
  let s := fc.1
  let f := { f with admitted := adm, sample := fc.2 }
  let rsv := !mc && (match ports with
    | [o] => s.qcfg o cls qRsv && s.rsvPair f.inp o
    | _ => false)
  let mine (c : Copy) : Bool := rsv && c.kind == .ordinary
  let main := a.2.filter mine
  let rest := a.2.filter (fun c => !mine c) ++ h.2 ++ m.2
  let recs := (if main.isEmpty then [] else [{ f with rsv := true, copies := main, sample := none, charge := false }]) ++
    [{ f with copies := rest }]
  let defer := !main.isEmpty && s.frames.any (fun g => g.rsv && g.inp == f.inp && decide (g.sent < g.arrived) &&
    g.copies.map (·.port) == ports)
  let s := s.onlyIf defer (fun s => (s.count (frsvReg Reg.Frsv.RSV_DEFER)).ev 0x91 0)
  { s with frames := s.frames ++ recs, frameId := s.frameId + 1 }.markHeads

/-- The bits of a mask as ports, ascending, without the ingress port (R397). -/
def maskPorts (m inp : Nat) : List Nat := (List.range 29).filter (fun p => m.testBit p && p != inp)

/-- The lookup of a frame (R395). -/
def State.lookup (s : State) (f0 : Frame) : State :=
  let l := f0.octs
  let p := f0.inp
  let s := (s.count (fwdReg Reg.Fwd.LOOKUP_CNT)).ev 0x94 0
  let vp := s.vidPcp p l
  let vid := vp.1
  let pcp := vp.2
  let f := { f0 with vid := if isTagged l then be l 14 2 % 4096 else 0, pcp := pcp, tagged := isTagged l }
  if isTagged l && vid == 0xFFF then
    ((s.count (fwdReg Reg.Fwd.FILTER_DROP)).ev 0x97 0).bindFrame { f with dropped := true } [] pcp false none 0 false
  else
    let r := s.search p (be l 0 6) vid pcp
    let w := r.2
    let fi := r.1.filterOf p l vid pcp
    let sfw := match fi with | some i => (r.1.sf i).ws | none => []
    let s := match fi with
      | some i => r.1.setSf i { r.1.sf i with hits := satInc (r.1.sf i).hits }
      | none => r.1
    let mp := match fi with | some i => s.meterPass i | none => (s, true)
    let fdrop := bitOf (entWord sfw 3) 29
    let byDrop := (w.drop && !w.missed) || fdrop
    let s := mp.1.onlyIf byDrop (fun s => (s.count (fwdReg Reg.Fwd.FILTER_DROP)).ev 0x97 0)
    let drop := w.drop || fdrop || !mp.2
    let cls := if bitOf (entWord sfw 3) 23 then bitsOf (entWord sfw 3) 20 3 else w.cls
    let mir := w.mir ||| bitsOf (entWord sfw 3) 24 4
    let copyHost := w.copy || bitOf (entWord sfw 3) 28
    let grp := match w.group with | some g => s.mg g | none => []
    let noGrp := w.group.isSome && !bitOf (entWord grp 0) 31
    let s := s.onlyIf (!drop && noGrp) (·.count (mcgReg Reg.Mcg.MC_NONE))
    let mask := if w.group.isSome then bitsOf (entWord grp 0) 0 29 else w.mask
    let host := if w.group.isSome then bitOf (entWord grp 0) 29 else w.host
    let mask := if host then setNatBit mask s.activeHost true else mask
    let ports := if drop || noGrp then [] else maskPorts mask p
    let ready := if w.group.isSome && bitOf (entWord grp 1) 0 then
      some (s.time.tbf.nsTotal + 1000 * bitsOf (entWord grp 1) 16 14) else none
    let metered := match fi with | some i => bitOf (entWord (s.sf i).ws 5) 31 && mp.2 | none => false
    s.bindFrame { f with
      filt := fi, charge := metered, stream := bitsOf (entWord sfw 3) 0 16, dropped := drop, missed := w.missed }
      ports cls w.group.isSome ready mir copyHost

/-! ## Descriptors and completion (R385, R466) -/

/-- Key of VI0's QASSIGNn. -/
def qassignKey (n : Nat) : Nat := viBase 0 + Reg.Vi0.QASSIGN + 4 * n

/-- QBASE and QCOUNT of VI n (R464). -/
def State.qBase (s : State) (n : Nat) : Nat := s.fld (qassignKey n) 0 10
def State.qCount (s : State) (n : Nat) : Nat := s.fld (qassignKey n) 16 7

/-- Key of local queue q of VI n in half h's pool. -/
def State.hqKey (s : State) (h : Half) (n q : Nat) : Nat := 1024 * h.idx + s.qBase n + q

/-- Host queue q of VI n in half h's bank. -/
def State.hq (s : State) (h : Half) (n q : Nat) : HQueue := Tbl.get {} s.hqs (s.hqKey h n q)

/-- Host queue set. -/
def State.setHq (s : State) (h : Half) (n q : Nat) (x : HQueue) : State :=
  { s with hqs := Tbl.set {} s.hqs (s.hqKey h n q) x }

/-- Slots of a ring: 2^(SIZE + 4) (R466, R467). -/
def HQueue.len (x : HQueue) : Nat := 2 ^ (bitsOf x.cfg 2 4 + 4)

/-- Q_PEND of a queue is set in the half's bank. -/
def State.qPend (s : State) (h : Half) (n q : Nat) : State :=
  s.setBit (bank h.idx (viBase n + Reg.Vi.Q_PEND + 4 * (q / 32))) (q % 32) true

/-- A descriptor completes (R466): RD advances, Q_PEND is set. -/
def State.descDone (s : State) (h : Half) (n q : Nat) : State :=
  let x := s.hq h n q
  (s.setHq h n q { x with rd := (x.rd + 1) % x.len }).qPend h n q

/-- The frame a host descriptor submits (R385). -/
def hostFrame (id p : Nat) (x : HostFrame) : Frame :=
  let w (i : Nat) : Word := x.desc.getD i 0
  { id := id, inp := p, octs := x.octs, whole := true,
    launch := if bitsOf (w 2) 16 2 = 0 then none else
      some ⟨bitsOf (w 2) 16 2, bitsOf (w 2) 18 4, (w 4).toNat, bitsOf (w 3) 16 16⟩,
    tsReq := if bitOf (w 2) 15 then some (bitsOf (w 3) 0 16) else none }

/-- The queue of a host port that Bark frames take, the scheduled class (R271): the highest with RSV set, else queue 7 (log
entry 94). -/
def State.barkClass (s : State) (p : Nat) : Nat := (((List.range 8).filter (fun q => s.qcfg p q qRsv)).getLast?).getD 7

/-- R271: a Bark frame goes from one host port to the other and nowhere else, on the reserved path; no lookup finds its
way and no sampler counts it (R421). -/
def State.bindBark (s : State) (f : Frame) (o : Nat) : State :=
  match s.admitCopy o (s.barkClass o) .ordinary false none false with
  | (s, none) => s
  | (s, some c) =>
    { s with
      frames := s.frames ++ [{ f with rsv := s.rsvPair f.inp o, copies := [c] }], frameId := s.frameId + 1 }.markHeads

/-- A frame a host port may offer to the fabric now: one of the tunnel waits while CKG2 is gated (R317). -/
def State.mayOffer (s : State) (x : HostFrame) : Bool := !(s.gated 2 && x.vi == bridgeVi && !isBark x.octs)

/-- A host port's frame is accepted by the fabric, so its descriptor completes (R466); DIRECT skips steps 1 to 6 (R385). -/
def State.hostAccept (s : State) (h : Half) (p : Nat) (x : HostFrame)
    (stamped : State → Frame → State × Frame) : State :=
  let s := s.onlyIf (decide (x.vi < 128)) (fun s => (s.descDone h x.vi x.q).evHalf h.idx 0x4A 0)
  let r := stamped s (hostFrame s.frameId p x)
  let d := x.desc.getD 5 0
  if isBark x.octs then r.1.bindBark r.2 (hostPort h.other)
  else if bitOf d 8 then
    let l := r.2.octs
    let vp := r.1.vidPcp p l
    r.1.bindFrame { r.2 with pcp := vp.2, tagged := isTagged l, vid := if isTagged l then be l 14 2 % 4096 else 0 }
      [bitsOf d 0 5] (bitsOf d 5 3) false none 0 false
  else r.1.lookup r.2

/-- FRAME_LOOKUP: the first cell of a frame is complete at port p (R360, R395). A host port's frame is accepted by the
fabric here, or discarded where its half is not ACTIVE any more (R269). Its timestamp point lay in bin `bin` of the tick
`ago` before the present one (R76). The MACsec core of a port holds what arrives while CKG1 is gated (R317). -/
def frameLookup (p : Nat) (pre : Bool) (l : List Nat) (ago bin : Nat) (sec : Option SecTag) (s : State) : State :=
  let busy := s.frames.any (fun f => f.inp == p && f.pmac == pre && !f.ended)
  if !s.domainOn 6 || busy || !s.portUp p || (s.msOn p && s.gated 1) then s
  else
    let stamped (s : State) (f : Frame) : State × Frame :=
      let k := s.tsClock (gptpOf f.octs)
      (s.ev 0x9F p, { f with ts := s.tsIn p ago bin (gptpOf f.octs), clock := k, gptp := gptpOf f.octs })
    if isHost p then
      let h := portHalf p
      match (s.hostTx h).find? s.mayOffer with
      | none => s
      | some x =>
        let s := s.setHostTx h ((s.hostTx h).erase x)
        if x.vi < 128 ∧ s.role h ≠ roleActive ∧ etherType x.octs ≠ 0x88B6 then
          (s.count (hreg h Reg.Half.HOST_TX_DISCARD)).descDone h x.vi x.q
        else s.hostAccept h p x stamped
    else if p = 28 then
      match s.gwTx with
      | [] => s
      | x :: rest =>
        let s := { s with gwTx := rest }
        let r := stamped s { id := s.frameId, inp := p, octs := x, whole := true }
        r.1.lookup r.2
    else
      let l := (clean l).take 64
      let t := if s.msOn p then sec else none
      let r := stamped s { id := s.frameId, inp := p, pmac := pre, octs := l, secTag := t,
                           rxSa := t.bind (s.rxSaOf p) }
      r.1.lookup r.2

def execFrameLookup (p : Fin 29) (pre : Bool) (octs : List Nat) (sfd : SfdPoint) (sec : Option SecTag)
    (s : State) : Host.Outcome State Fault Refusal :=
  .next (frameLookup p.val pre octs sfd.ago.val sfd.bin.val sec s)

/-! ## The end of a frame (R367, R405, R410, R411, R422, R430) -/

/-- A learn request (R405): queued, or dropped and counted when 16 wait (R406). -/
def State.learnReq (s : State) (f : Frame) : State :=
  let sa := be f.octs 6 6
  let vid := (s.vidPcp f.inp f.octs).1
  if s.bit (fwdReg Reg.Fwd.IN_CFG + 4 * f.inp) 16 && !(f.octs.getD 6 0).testBit 0 && (s.fdbFind sa vid).isNone then
    if s.learnQ.length < 16 then { s with learnQ := s.learnQ ++ [⟨sa, vid, f.inp⟩] }
    else s.count (fwdReg Reg.Fwd.LEARN_FULL)
  else s

/-- The Fetch sample of a frame that ended (R422, R423): a frame of its own, at most 128 octets, to the host port DEST
names; one for the active host is replicated (R268). -/
def State.takeSample (s : State) (f : Frame) (bad : Bool) : State :=
  match f.sample with
  | none => s
  | some seq =>
    let p := f.inp
    let cfg := s.rd (fetchReg p Reg.Fetch.FETCH_CFG)
    let dest := if bitsOf cfg 16 2 = 1 then 26 else if bitsOf cfg 16 2 = 2 then 27 else s.activeHost
    let l := s.withReplica [dest] .sample .sampleReplica
    let n := s.nextInseq
    let a := n.2.admitAll l (bitsOf cfg 18 3) false none true
    let ok := a.2.any (·.kind == .sample)
    let s := if ok then (a.1.count (fetchReg p Reg.Fetch.SAMPLES)).ev 0x9E p else a.1.count (fetchReg p Reg.Fetch.SAMPLE_DROP)
    if a.2.isEmpty then s
    else
      let x : Frame := {
        id := s.frameId, inp := p, octs := f.octs.take 128, whole := true, ended := true,
        arrived := cellsOf (f.octs.take 128).length, copies := a.2, stream := f.stream, vid := f.vid, pcp := f.pcp,
        tagged := f.tagged, ts := f.ts, clock := f.clock, inseq := n.1,
        w6 := word (f.admitted + b2n f.missed * 2 ^ 29 + b2n f.dropped * 2 ^ 30 + b2n bad * 2 ^ 31),
        w7 := word (f.octs.length % 2 ^ 14 + seq * 2 ^ 16) }
      { s with frames := s.frames ++ [x], frameId := s.frameId + 1 }

/-- INGRESS_FRAME_END: the last cell of the frame in progress at port p, with its remaining octets, a receive error and
what MACsec found of its integrity. -/
def ingressEnd (p : Nat) (pre : Bool) (l : List Nat) (err icv : Bool) (s : State) : State :=
  let mine (f : Frame) : Bool := f.inp == p && f.pmac == pre && !f.ended
  match (if s.msOn p && s.gated 1 then none else (s.frames.filter mine).getLast?) with
  | none => s
  | some f0 =>
    let all := if f0.whole then f0.octs else f0.octs ++ clean l
    let f := { f0 with octs := all }
    let s := s.modFrame mine (fun x => { x with octs := all, ended := true, arrived := cellsOf all.length })
    let maxf := s.fld (portBase p + Reg.Port.MAC_CFG) 0 14
    let badLen := decide (all.length < 64 ∨ maxf < all.length)
    let badFcs := err || !fcsGood all
    let s := if badLen then (s.countFld (portBase p + Reg.Port.RX_BAD) 16 16).ev 0x82 p
      else if badFcs then (s.countFld (portBase p + Reg.Port.RX_BAD) 0 16).ev 0x82 p
      else ((s.count (portBase p + Reg.Port.RX_GOOD)).ev 0x80 p).evN 0x81 p all.length
    let bad := badLen || badFcs
    let ms := if bad then (s, true) else s.msCheck p f all icv
    let sdu := !bad && (match f.filt with
      | some i => (let m := bitsOf (entWord (ms.1.sf i).ws 4) 0 14; decide (m ≠ 0 ∧ m < all.length))
      | none => false)
    let s := match f.filt with
      | some i => ms.1.onlyIf sdu (fun s =>
          ((s.setSf i { s.sf i with sdu := satInc (s.sf i).sdu }).count (sfltReg Reg.Sflt.SDU_DROP_TOTAL)).ev 0x99 0)
      | none => ms.1
    let s := match f.filt with
      | some i => s.onlyIf f.charge (fun s =>
          let x := (s.sf i).refill s.time.tbf.nsTotal
          s.setSf i { x with tokens := x.tokens - 8000000 * (all.length : Nat) })
      | none => s
    let s := s.onlyIf (bad || sdu || !ms.2) (·.dropCopies (fun x _ => x.id == f0.id))
    let s := s.onlyIf (!bad && ms.2) (·.learnReq f)
    ((s.takeSample f (bad || sdu)).tidy).markHeads

def execIngressFrameEnd (p : Fin 29) (pre : Bool) (octs : List Nat) (err icv : Bool) (s : State) :
    Host.Outcome State Fault Refusal :=
  .next (ingressEnd p.val pre octs err icv s)

/-! ## Learning (R405, R406) -/

/-- A learned entry's word 2: the ingress port alone, or ACTIVE_HOST for a station behind the host (R405). -/
def learnWord2 (p : Nat) : Nat := if isHost p then 2 ^ 29 else 2 ^ p

/-- The learner's next insert (R406). -/
def learnInsert (s : State) : State :=
  match s.learnQ with
  | [] => s
  | x :: rest =>
    let s := { s with learnQ := rest }
    match s.fdbFind x.mac x.vid with
    | some i =>
      if bitsOf (entWord (s.fdbEnt i) 2) 0 30 = learnWord2 x.port then s else s.count (fwdReg Reg.Fwd.LEARN_MOVE)
    | none =>
      let base := s.fld (fwdReg Reg.Fwd.LEARN_CFG) 0 13
      match ((List.range (8192 - base)).map (base + ·)).find? (fun i => !entValid (s.fdbEnt i)) with
      | some i =>
        let e := [word x.mac, word (x.mac / 2 ^ 32 + x.vid * 2 ^ 16 + 3 * 2 ^ 30), word (learnWord2 x.port), 0]
        ({ s with fdb := s.fdb.put i e }.count (fwdReg Reg.Fwd.LEARN_ADD)).ev 0x96 0
      | none => s.count (fwdReg Reg.Fwd.LEARN_FULL)

def execLearnInsert (s : State) : Host.Outcome State Fault Refusal := .next (learnInsert s)

/-! ## What the registers of this chapter read -/

/-- FDB_USED, SF_USED and RESIDUE_WAIT (R425, R427). -/
def State.fwdLive (s : State) (key : Nat) : Option Word :=
  if key = fwdReg Reg.Fwd.FDB_USED then
    some (word ((s.fdb.filter (fun e => entValid e.2)).length +
      (s.fdb.filter (fun e => entValid e.2 && bitOf (entWord e.2 1) 30)).length * 2 ^ 16))
  else if key = sfltReg Reg.Sflt.SF_USED then some (word (s.sfs.filter (fun e => entValid e.2.ws)).length)
  else if key = mcgReg Reg.Mcg.RESIDUE_WAIT then some (word s.residueWait)
  else if key = swReg Reg.Sw.BUF_FREE then some (word s.bufFree)
  else none

end Sys2Proof.Machine
end

