-- ==== Sys2Proof/Machine/Ports.lean ====
section
/-! DEFINITION. The Ethernet ports: links and their negotiation, PLCA segments, cable measurement (R429 to R442). -/

namespace Sys2Proof.Machine

def portReg (p off : Nat) : Nat := portBase p + off

/-- Power domain of a port's MAC and PHY (R313). -/
def portPd (p : Nat) : Nat := if p < 6 then 7 else if p < 26 then 8 else 6

/-- PORT_CFG.ADMIN_EN. -/
def State.adminEn (s : State) (p : Nat) : Bool := s.bit (portReg p Reg.Port.PORT_CFG) 0

/-- Whether a port negotiates (R431): AN_EN of P0 to P21. -/
def State.negotiates (s : State) (p : Nat) : Bool := decide (p < 22) && s.bit (portReg p Reg.Port.PORT_CFG) 4

/-- Rate in Mb/s of a port in a speed slot (R81, R357). -/
def slotRate (p slot : Nat) : Nat :=
  if p < 2 then 25000
  else if p < 6 then (if slot = 0 then 2500 else if slot = 1 then 5000 else 10000)
  else if p < 14 then 1000 else if p < 22 then 100 else 10

/-- Slot a port links at: the negotiated speed, or the forced one (R431, R442). -/
def State.linkSlot (s : State) (p sp : Nat) : Nat :=
  if p < 2 ∨ 6 ≤ p then 0
  else if s.negotiates p then sp
  else min 2 (s.fld (portReg p Reg.Port.PORT_CFG) 12 3)

/-- A port's link comes up (R431, R432): rate, role, correction slot, and what negotiation recorded. DESIGN CHOICE: the
internal ports P26 to P28, which no link-up reaches, keep COR_STAT.LINK_UP at its Reset value 0 (log entry 89). -/
def linkUp (p sp : Nat) (master : Bool) (lo : Word) (hi : Nat) (s : State) : State :=
  let an := s.negotiates p
  let adv := decide (p < 2 ∨ 6 ≤ p) || s.bit (portReg p Reg.Port.PORT_CFG) (8 + sp)
  if !s.domainOn (portPd p) || !s.adminEn p || s.portUp p || (an && (s.anWait.contains p || !adv)) then s
  else
    let slot := s.linkSlot p sp
    let ms := s.fld (portReg p Reg.Port.PORT_CFG) 5 2
    let m := if an then master else (ms == 0 || ms == 2)
    let s := s.wrN (portReg p Reg.Port.PORT_STAT) (1 + 2 * b2n m + 4 * b2n an + slotRate p slot * 2 ^ 16)
    let s := s.wrN (tbcorBase + Reg.Tbcor.COR_STAT + 0x20 * p) (slot + 4)
    let s := s.onlyIf an (fun s =>
      ((s.wr (portReg p Reg.Port.LP_PAGE_LO) lo).wrN (portReg p Reg.Port.LP_PAGE_HI) hi).raise (portBase p) 17)
    s.raise (portBase p) 16

/-- The service port's link comes up (R594, R629). -/
def spLinkUp (s : State) : State :=
  let k := sportReg Reg.Sport.SP_STAT
  if !s.supplied || !s.bit (sportReg Reg.Sport.SP_CFG) 0 || s.bit k 0 then s
  else (s.setBit k 0 true).raise sportBase 16

/-- The service port's link goes down, which ends every session (R604, R629). -/
def spLinkDown (s : State) : State :=
  let k := sportReg Reg.Sport.SP_STAT
  if s.bit k 0 then ((s.setBit k 0 false).raise sportBase 16).dropSessions (fun _ => true) else s

/-- LINK_UP of port `p`; 26 stands for the service port. -/
def execLinkUp (p : Fin 27) (sp : Fin 3) (master : Bool) (lo : Word) (hi : Fin 65536) (s : State) :
    Host.Outcome State Fault Refusal :=
  .next (if p.val = 26 then spLinkUp s else linkUp p.val sp.val master lo hi.val s)

/-- Frames in transmission at a port are ended with an inverted FCS and leave their queues. -/
def State.endBegun (s : State) (p : Nat) : State :=
  let was := s.bufFree
  let hit := s.frames.flatMap (fun f => (f.copies.filter (fun c => c.port == p && c.begun)).map (fun c => (f, c)))
  let s := { s with frames := s.frames.map (fun (f : Frame) =>
    { f with copies := f.copies.filter (fun c => !(c.port == p && c.begun)) }) }
  let s := s.each hit (fun s e => (s.emit (.frame p (e.1.sentOcts e.2) false)).count (portReg p Reg.Port.TX_ABORT))
  (s.tidy.markHeads).bufNote was

/-- A port's link goes down (R433): the frame being sent is ended, queued frames stay. -/
def linkDown (p : Nat) (s : State) : State :=
  if !s.domainOn (portPd p) || !s.portUp p then s
  else
    let s := s.endBegun p
    let s := (s.wrN (portReg p Reg.Port.PORT_STAT) 0).setBit (tbcorBase + Reg.Tbcor.COR_STAT + 0x20 * p) 2 false
    ((s.count (portReg p Reg.Port.LINK_DOWN_CNT)).raise (portBase p) 16).ev 0xA1 p

/-- LINK_DOWN of port `p`; 26 stands for the service port. -/
def execLinkDown (p : Fin 27) (s : State) : Host.Outcome State Fault Refusal :=
  .next (if p.val = 26 then spLinkDown s else linkDown p.val s)

/-- Negotiation fails (R432): the link stays down and negotiation restarts in 1 s. -/
def anFail (p : Nat) (s : State) : State :=
  if !s.domainOn (portPd p) || !s.adminEn p || !s.negotiates p || s.portUp p || s.anWait.contains p then s
  else
    let s := ((s.setBit (portReg p Reg.Port.PORT_STAT) 3 true).count (portReg p Reg.Port.AN_FAIL_CNT)).raise (portBase p) 18
    { s with anWait := p :: s.anWait }

def execAnFail (p : Fin 22) (s : State) : Host.Outcome State Fault Refusal := .next (anFail p.val s)

/-- 1 s after a failure the port negotiates again (R432). -/
def anRetry (p : Nat) (s : State) : State := { s with anWait := s.anWait.filter (· != p) }

def execAnRetry (p : Fin 22) (s : State) : Host.Outcome State Fault Refusal := .next (anRetry p.val s)

/-! ## Commands (R440) -/

/-- ADMIN_EN changes: 0 holds the link down (R433). UNIT_STAT.ON follows the commands. -/
def State.setAdmin (s : State) (p : Nat) (b : Bool) : State :=
  let s := s.setBit (portReg p Reg.Port.PORT_CFG) 0 b
  if b then s else linkDown p s

/-- ON and OFF of a port: ADMIN_EN; UNSUPPORTED on P26 to P28. -/
def portCmd (p : Nat) (on : Bool) (s : State) : State :=
  if 26 ≤ p then s.cmdResult (portBase p) .unsupported
  else ((s.setAdmin p on).setBit (portReg p Reg.Hdr.UNIT_STAT) 0 on).cmdResult (portBase p) .done

def execPortOn (acc : Access) (p : Fin 29) (s : State) : Host.Outcome State Fault Refusal :=
  .next (s.write acc 4 (portReg p.val Reg.Hdr.UNIT_CTRL) 1 (fun _ => portCmd p.val true))
def execPortOff (acc : Access) (p : Fin 29) (s : State) : Host.Outcome State Fault Refusal :=
  .next (s.write acc 4 (portReg p.val Reg.Hdr.UNIT_CTRL) 2 (fun _ => portCmd p.val false))

/-! ## Cable measurement (R437 to R439) -/

/-- TDR_CTRL.GO: refused at once while ADMIN_EN is 1; VF 0 is treated as 179. A GO during a measurement is ignored. The
register is absent on P26 to P28. -/
def tdrGo (p : Nat) (v : Word) (s : State) : State :=
  let k := portReg p Reg.Port.TDR_STAT
  if 26 ≤ p || !bitOf v 0 || s.bit k 8 then s
  else if s.adminEn p then (s.wrN k 5).raise (portBase p) 19
  else
    let vf := if bitsOf v 8 8 = 0 then 179 else bitsOf v 8 8
    { s.setBit k 8 true with tdrVf := Tbl.set 0 s.tdrVf p vf }

def execTdrGo (acc : Access) (p : Fin 29) (vf : Fin 256) (s : State) : Host.Outcome State Fault Refusal :=
  let v := word (1 + vf.val * 2 ^ 8)
  .next (s.write acc 4 (portReg p.val Reg.Port.TDR_CTRL) v (fun _ => tdrGo p.val v))

/-- Distance of a delay in 0.25 ns units, in 0.1 m (R438), rounded half up. -/
def tdrDist (delay vf : Nat) : Nat :=
  (2 * delay * vf * 299792458 * 125 + 256 * 10 ^ 11) / (2 * 256 * 10 ^ 11)

/-- An entry inserted where `lt` first puts it before another. -/
def insertBy {α : Type} (lt : α → α → Bool) (x : α) : List α → List α
  | [] => [x]
  | y :: ys => if lt x y then x :: y :: ys else y :: insertBy lt x ys

/-- The reflections reported (R437): between 0.3 m and 60 m, of amplitude at least 8; the four strongest, in ascending
delay. -/
def tdrReport (vf : Nat) (l : List (Nat × Int)) : List (Nat × Int) :=
  let ok := l.filter (fun e => decide (3 ≤ tdrDist e.1 vf ∧ tdrDist e.1 vf ≤ 600 ∧ 8 ≤ e.2.natAbs))
  let strong := ok.foldl (fun a e => insertBy (fun x y => decide (y.2.natAbs < x.2.natAbs)) e a) []
  (strong.take 4).foldl (fun a e => insertBy (fun x y => decide (x.1 < y.1)) e a) []

/-- TDR_STAT.RESULT of reported reflections: the strongest decides (R439). -/
def tdrResult (l : List (Nat × Int)) : Nat :=
  match l with
  | [] => 1
  | e :: r =>
    let top := r.foldl (fun (a b : Nat × Int) => if a.2.natAbs < b.2.natAbs then b else a) e
    if 64 ≤ top.2 then 2 else if top.2 ≤ -64 then 3 else 4

/-- A measurement ends: with NOISE, or with its reflections (R437, R439); CKG4 gated keeps it waiting. -/
def tdrDone (p : Nat) (refl : List (Nat × Int)) (noise : Bool) (s : State) : State :=
  let k := portReg p Reg.Port.TDR_STAT
  if !s.bit k 8 || s.gated 4 then s
  else if noise then (s.wrN k 6).raise (portBase p) 19
  else
    let vf := Tbl.get 0 s.tdrVf p
    let l := tdrReport vf (refl.map (fun e => (e.1, limitI (-128) 127 e.2)))
    let s := s.each (l.zipIdx) (fun s e =>
      s.wrN (portReg p Reg.Port.TDR_REFL + 4 * e.2)
        (e.1.1 + tdrDist e.1.1 vf * 2 ^ 12 + unsignedOf 8 e.1.2 * 2 ^ 24))
    (s.wrN k (tdrResult l + l.length * 2 ^ 9)).raise (portBase p) 19

def execTdrDone (p : Fin 26) (refl : List (Fin 4096 × Int)) (noise : Bool) (s : State) :
    Host.Outcome State Fault Refusal :=
  .next (tdrDone p.val (refl.map (fun e => (e.1.val, e.2))) noise s)

/-! ## 10BASE-T1S segments (R434 to R436) -/

/-- PLCA runs on a port: EN with LOCAL_ID 0 to 31 (R434). -/
def State.plca (s : State) (p : Nat) : Bool :=
  s.bit (portReg p Reg.Port.PLCA_CFG) 24 && decide (s.fld (portReg p Reg.Port.PLCA_CFG) 0 8 < 32)

/-- NODE_COUNT of a port, 1 to 32 (R434). -/
def State.nodeCount (s : State) (p : Nat) : Nat := limit 1 32 (s.fld (portReg p Reg.Port.PLCA_CFG) 8 8)

/-- A PLCA cycle, begun by a BEACON (R531), with its transmit opportunities counted (R436). -/
def plcaCycle (p seen : Nat) (s : State) : State :=
  if !s.domainOn 8 || !s.plca p then s
  else
    let k := portReg p Reg.Port.PLCA_STAT
    let s := (s.ev 0xA3 p).setBit k 0 true
    if s.fld (portReg p Reg.Port.PLCA_CFG) 0 8 = 0 then s.setFld k 8 8 (s.nodeCount p)
    else
      let v := if seen = s.nodeCount p then 1 else 2
      let twice := Tbl.get 0 s.plcaLast p == v
      let s := { s.setFld k 8 8 seen with plcaLast := Tbl.set 0 s.plcaLast p v }
      if twice && v == 2 && !s.bit k 1 then
        ((s.setBit k 1 true).count (portReg p Reg.Port.NC_MISMATCH_CNT)).raise (portBase p) 20
      else if twice && v == 1 then s.setBit k 1 false
      else s

def execPlcaCycle (p : Fin 4) (seen : Fin 256) (s : State) : Host.Outcome State Fault Refusal :=
  .next (plcaCycle (22 + p.val) seen.val s)

/-- A collision in the opportunity of a node (R435, R436): a retry in the next opportunity under PLCA; under CSMA/CD a
backoff, a drop after 16 attempts, a drop without retry when late. -/
def collision (p : Nat) (late : Bool) (node : Nat) (s : State) : State :=
  if !s.domainOn 8 || !s.portUp p then s
  else
    let mine := (s.frames.flatMap (fun f => (f.copies.filter (fun c => c.port == p && c.begun)).map (fun c => (f, c)))).head?
    let k := portReg p Reg.Port.COLL_CNT
    let s := s.ev 0xA2 p
    if s.plca p then
      let s := (s.countFld k 0 16).setBit (portReg p Reg.Port.PLCA_STAT) 2 true
      let s := (s.setFld (portReg p Reg.Port.PLCA_STAT) 16 5 node).raise (portBase p) 20
      match mine with
      | some (f, c) => s.setCopy f c { c with wait := 8, mbits := 0 }
      | none => s
    else if late then
      let s := s.countFld k 16 16
      match mine with
      | some (f, c) => s.dropCopy f c
      | none => s
    else
      let s := s.countFld k 0 16
      match mine with
      | some (f, c) =>
        if 15 ≤ c.tries then ((s.dropCopy f c).count (portReg p Reg.Port.EXC_COLL_DROP)).raise (portBase p) 21
        else
          let r := s.freshIn 0 (2 ^ min 10 (c.tries + 1) - 1)
          r.2.setCopy f c { c with tries := c.tries + 1, wait := 8 + r.1 * 10240, mbits := 0 }
      | none => s

def execCollision (p : Fin 4) (late : Bool) (node : Fin 32) (s : State) : Host.Outcome State Fault Refusal :=
  .next (collision (22 + p.val) late node.val s)

/-- The end of an observation window (R436). -/
def plcaObs (p : Nat) (mask : Word) (s : State) : State :=
  if !s.domainOn 8 || !s.plca p || s.fld (portReg p Reg.Port.PLCA_OBS) 0 16 == 0 then s
  else s.wr (portReg p Reg.Port.PLCA_ACTIVE) mask

def execPlcaObsExpiry (p : Fin 4) (mask : Word) (s : State) : Host.Outcome State Fault Refusal :=
  .next (plcaObs (22 + p.val) mask s)

end Sys2Proof.Machine
end

