-- ==== Sys2Proof/Machine/FieldBus.lean ====
section
/-! DEFINITION. The field-bus gateway with its IEEE 1722 frames, the CAN controllers and the LIN channels (R443 to
R453). -/

namespace Sys2Proof.Machine

def fbioReg (off : Nat) : Nat := fbioBase + off
def canReg (k off : Nat) : Nat := canBase k + off
def linReg (k off : Nat) : Nat := linBase k + off

/-- CAN_CFG.MODE: 0 OFF, 1 CLASSICAL, 2 FD, 3 XL (R459). -/
def State.canMode (s : State) (k : Nat) : Nat := s.fld (canReg k Reg.Can.CAN_CFG) 0 2

/-- Whether a controller works: its domain on, and CKG6 running for CAN4 to CAN11 (R317). -/
def State.canRuns (s : State) (k : Nat) : Bool := s.domainOn 9 && !(decide (4 ≤ k) && s.gated 6) && s.canMode k != 0

/-- Transmit queue of a controller. -/
def State.canTxq (s : State) (k : Nat) : List CanTx := Tbl.get [] s.canQ k
def State.setCanQ (s : State) (k : Nat) (l : List CanTx) : State := { s with canQ := Tbl.set [] s.canQ k l }

/-- A message lost to a transmit queue (R446, R450). -/
def State.canDrop (s : State) (k : Nat) : State := (s.count (canReg k Reg.Can.TX_DROP)).raise (canBase k) 18

/-! ## ACF messages (R443, R444) -/

/-- GW_CFG.XL_TYPE. -/
def State.xlType (s : State) : Nat := s.fld (fbioReg Reg.Fbio.GW_CFG) 8 8

/-- An ACF message padded to whole quadlets, with its type and length; `pad` tells an ACF CAN or LIN message the octets
added. -/
def acfMsg (type : Nat) (pad : Bool) (body : List Nat) : List Nat :=
  let n := (2 + body.length + 3) / 4
  let extra := 4 * n - (2 + body.length)
  let body := if pad then (body.head?.getD 0 + extra * 64) :: body.tail else body
  [type % 128 * 2 + n / 256 % 2, n % 256] ++ body ++ List.replicate extra 0

/-- A CAN message as an ACF message with its timestamp (R443 to R445). -/
def canAcf (xl k : Nat) (m : CanMsg) (ts : Nat) : List Nat :=
  let d := clean m.data
  if m.fmt = 2 then
    acfMsg xl false ([k, b2n m.sec + 2 * b2n m.rtr + 4] ++ bigEnd 2 (m.id % 2048) ++ [m.sdt % 256, m.vcid % 256] ++
      bigEnd 2 d.length ++ bigEnd 4 m.af ++ bigEnd 8 ts ++ d)
  else
    acfMsg 1 true ([32 + 16 * b2n m.rtr + 8 * b2n m.ide + 4 * b2n m.brs + 2 * b2n (m.fmt == 1) + b2n m.esi, k] ++
      bigEnd 8 ts ++ bigEnd 4 (m.id % 2 ^ 29) ++ d)

/-- A LIN frame as an ACF message. -/
def linAcf (k id : Nat) (data : List Nat) (ts : Nat) : List Nat :=
  acfMsg 3 true ([32 + k, id] ++ bigEnd 8 ts ++ clean data)

/-- What an ACF message asks of a bus: none where it does not parse (R443, R444). -/
def parseAcf (xl : Nat) (m : List Nat) : Option BusMsg :=
  let type := m.getD 0 0 / 2
  if type = 1 then
    (if 16 ≤ m.length ∧ m.getD 3 0 % 32 < 12 then some ⟨false, m.getD 3 0 % 32, m⟩ else none)
  else if type = 3 then
    (if 12 ≤ m.length ∧ m.getD 2 0 % 32 < 8 then some ⟨true, m.getD 2 0 % 32, m⟩ else none)
  else if type = xl % 128 then
    (let len := be m 8 2
     if 22 ≤ m.length ∧ m.getD 2 0 % 32 < 12 ∧ 1 ≤ len ∧ len ≤ 2048 ∧ 22 + len ≤ m.length then
       some ⟨false, m.getD 2 0 % 32, m⟩ else none)
  else none

/-- The ACF messages of a frame's data, each by its length; the second part says that a tail did not parse (R443,
R446). -/
def splitAcf : Nat → List Nat → List (List Nat) × Bool
  | 0, l => ([], !l.isEmpty)
  | fuel + 1, l =>
    if l.isEmpty then ([], false)
    else
      let n := 4 * be l 0 2 % 2048
      if n = 0 ∨ l.length < n ∨ l.length < 4 then ([], true)
      else
        let r := splitAcf fuel (l.drop n)
        (l.take n :: r.1, r.2)

/-- The ACF data of an AVTP frame to an address: NTSCF or TSCF on EtherType 0x22F0, at most one tag (R443). -/
def avtpData (addr : Nat) (l : List Nat) : Option (List Nat) :=
  let a := payloadAt l
  let sub := l.getD a 0
  if be l 0 6 ≠ addr ∨ etherType l ≠ 0x22F0 then none
  else if sub = 0x82 then
    (let n := be l (a + 1) 2 % 2048
     if a + 12 + n ≤ l.length then some ((l.drop (a + 12)).take n) else none)
  else if sub = 0x05 then
    (let n := be l (a + 20) 2
     if a + 24 + n ≤ l.length then some ((l.drop (a + 24)).take n) else none)
  else none

/-- The gateway's address GW_SRC. -/
def State.gwAddr (s : State) : Nat :=
  s.fld (fbioReg Reg.Fbio.GW_SRC_HI) 0 16 * 2 ^ 32 + s.rdN (fbioReg Reg.Fbio.GW_SRC_LO)

/-- A frame or message of the fabric that the gateway discards (R443). -/
def State.gwDrop (s : State) : State := (s.count (fbioReg Reg.Fbio.GW_RX_DROP)).ev 0xA7 0

/-- LIN: identifier and data of an ACF LIN message, its padding taken off. -/
def linParts (m : List Nat) : Nat × List Nat :=
  (m.getD 3 0 % 64, (m.drop 12).take (m.length - 12 - m.getD 2 0 / 64))

/-- A message is queued for its bus (R446, R452): a controller that is OFF or full drops it; a LIN master channel gets a
header to send, a slave the data of an identifier. -/
def State.busQueue (s : State) (m : BusMsg) : State :=
  let s := s.count (fbioReg Reg.Fbio.GW_TX_MSGS)
  if m.lin then
    let p := linParts m.octs
    if s.bit (linReg m.bus Reg.Lin.LIN_CFG) 1 then
      { s with linData := Tbl.set [] s.linData (64 * m.bus + p.1) p.2 }
    else if s.bit (linReg m.bus Reg.Lin.LIN_CFG) 0 then
      { s with linQ := Tbl.set [] s.linQ m.bus (Tbl.get [] s.linQ m.bus ++ [p]) }
    else s
  else if s.canMode m.bus = 0 ∨ 32 ≤ (s.canTxq m.bus).length then s.canDrop m.bus
  else s.setCanQ m.bus (s.canTxq m.bus ++ [{ octs := m.octs }])

/-- GW_FRAME_RX: the gateway's next frame from the fabric is parsed and its messages queued in order (R443, R446). -/
def gwFrameRx (s : State) : State :=
  match s.gwRx with
  | [] => s
  | l :: rest =>
    let s := { s with gwRx := rest }
    if !s.bit (fbioReg Reg.Fbio.GW_CFG) 0 then s.gwDrop
    else match avtpData s.gwAddr (l.take (l.length - 4)) with
      | none => s.gwDrop
      | some d =>
        let r := splitAcf 512 d
        let s := s.each r.1 (fun s m => match parseAcf s.xlType m with
          | some b => s.busQueue b
          | none => s.gwDrop)
        s.onlyIf r.2 State.gwDrop

def execGwFrameRx (s : State) : Host.Outcome State Fault Refusal := .next (gwFrameRx s)

/-! ## Toward the fabric (R445) -/

/-- The messages gathered for a bus. -/
def State.agg (s : State) (bus : Nat) : Agg := Tbl.get {} s.aggs bus

/-- The Ethernet frame of gathered messages: TSCF with tv = 0 (R443, R445). -/
def State.gwFrame (s : State) (bus seq : Nat) (msgs : List (List Nat)) : List Nat :=
  let d := msgs.flatten
  let vlan := s.rd (fbioReg Reg.Fbio.GW_VLAN)
  let dst := bigEnd 6 (s.fld (fbioReg Reg.Fbio.GW_DST_HI) 0 16 * 2 ^ 32 + s.rdN (fbioReg Reg.Fbio.GW_DST_LO))
  let stream := bigEnd 8 (s.rdN (fbioReg Reg.Fbio.GW_STREAM_HI) * 2 ^ 32 +
    s.rdN (fbioReg Reg.Fbio.GW_STREAM_LO) / 32 * 32 + bus)
  let tag := if bitOf vlan 15 then [0x81, 0x00] ++ bigEnd 2 (bitsOf vlan 12 3 * 2 ^ 13 + bitsOf vlan 0 12) else []
  let l := dst ++ bigEnd 6 s.gwAddr ++ tag ++ [0x22, 0xF0, 0x05, 0x80, seq % 256, 0] ++ stream ++
    [0, 0, 0, 0, 0, 0, 0, 0] ++ bigEnd 2 d.length ++ [0, 0] ++ d
  withFcs (l ++ List.replicate (60 - l.length) 0 ++ [0, 0, 0, 0])

/-- The frame gathered for a bus is sent (R445). -/
def State.aggSend (s : State) (bus : Nat) : State :=
  let a := s.agg bus
  if a.msgs.isEmpty then s
  else
    let seq := Tbl.get 0 s.aggSeq bus
    let l := s.gwFrame bus seq a.msgs
    let s := { s with
      aggs := s.aggs.del bus, aggSeq := Tbl.set 0 s.aggSeq bus ((seq + 1) % 256), gwTx := s.gwTx ++ [l] }
    s.countBy (fbioReg Reg.Fbio.GW_RX_MSGS) a.msgs.length

/-- AGG_MAX; 0 is treated as 1 (R458). -/
def State.aggMax (s : State) : Nat := max 1 (s.fld (fbioReg Reg.Fbio.GW_CFG) 16 5)

/-- A message received on a bus is gathered: the frame goes first when the message would take its AVTP payload above
1,480 octets, and at AGG_MAX messages or with AGG_TIME 0 at once (R445). -/
def State.gather (s : State) (bus : Nat) (m : List Nat) : State :=
  if !s.bit (fbioReg Reg.Fbio.GW_CFG) 0 then s
  else
    let s := s.onlyIf (decide (1480 < 24 + (s.agg bus).msgs.flatten.length + m.length)) (·.aggSend bus)
    let a := s.agg bus
    let a : Agg := ⟨a.msgs ++ [m], if a.msgs.isEmpty then s.time.tbf.nsTotal else a.first⟩
    let s := { s with aggs := Tbl.set {} s.aggs bus a }
    s.onlyIf (decide (s.aggMax ≤ a.msgs.length) || s.fld (fbioReg Reg.Fbio.GW_AGG_TIME) 0 16 == 0) (·.aggSend bus)

/-- AGG_TIME µs have passed since a frame's first message (R445). -/
def gwAggSend (bus : Nat) (s : State) : State :=
  if (s.agg bus).first + 1000 * s.fld (fbioReg Reg.Fbio.GW_AGG_TIME) 0 16 ≤ s.time.tbf.nsTotal then s.aggSend bus else s

def execGwAggSend (bus : Fin 24) (s : State) : Host.Outcome State Fault Refusal := .next (gwAggSend bus.val s)

/-- The timestamp of a message whose start-of-frame edge lies `ago` ns back (R445). -/
def State.sofTs (s : State) (ago : Nat) : Nat := (s.tb0.nsTotal - ago) % 2 ^ 64

/-! ## CAN controllers (R447 to R451) -/

/-- Whether a message passes the acceptance filters (R449). -/
def State.canAccepts (s : State) (k : Nat) (m : CanMsg) : Bool :=
  let flt (f : Nat) : Word := s.rd (canReg k 0x100 + 8 * f)
  let msk (f : Nat) : Nat := s.fld (canReg k 0x104 + 8 * f) 0 29
  let valid := (List.range 64).filter (fun f => bitOf (flt f) 31)
  valid.isEmpty || valid.any (fun f =>
    ((m.id % 2 ^ 29) ^^^ bitsOf (flt f) 0 29) &&& msk f == 0 && bitOf (flt f) 29 == (m.ide && m.fmt != 2))

/-- ERR_STATE of a controller. -/
def State.errState (s : State) (k : Nat) : Nat := s.fld (canReg k Reg.Can.CAN_STAT) 0 2

/-- A valid message received (R449): counted, and forwarded when it passes the filters; a controller in bus-off takes no
part in the bus's traffic (R448). -/
def canRx (k : Nat) (m : CanMsg) (ago : Nat) (s : State) : State :=
  if !s.canRuns k || decide (s.canMode k ≤ m.fmt.val) || s.errState k == 2 then s
  else
    let s := (s.count (canReg k Reg.Can.RX_CNT)).ev 0xA4 k
    if s.canAccepts k m then s.gather k (canAcf s.xlType k m (s.sofTs ago))
    else s.count (canReg k Reg.Can.RX_FILTERED)

def execCanRx (k : Fin 12) (m : CanMsg) (ago : Nat) (s : State) : Host.Outcome State Fault Refusal :=
  .next (canRx k.val m ago s)

/-- Arbitration field of a queued message: identifier, RTR or SRR, IDE, extension, RTR; lower wins. -/
def arbField (m : List Nat) : Nat :=
  if m.getD 0 0 / 2 = 1 then
    let id := be m 12 4 % 2 ^ 29
    let fl := m.getD 2 0
    if fl.testBit 3 then id / 2 ^ 18 * 2 ^ 21 + 2 ^ 20 + 2 ^ 19 + id % 2 ^ 18 * 2 + b2n (fl.testBit 4)
    else id % 2048 * 2 ^ 21 + b2n (fl.testBit 4) * 2 ^ 20
  else be m 4 2 % 2048 * 2 ^ 21 + b2n ((m.getD 3 0).testBit 1) * 2 ^ 20

/-- The index of the message a controller sends next: the first, or under PRIORITY the first with the lowest arbitration
field (R450). -/
def State.canNext (s : State) (k : Nat) : Nat :=
  if s.bit (canReg k Reg.Can.CAN_CFG) 4 then
    let l := (s.canTxq k).map (fun m => arbField m.octs)
    let low := l.foldl min (l.headD 0)
    l.findIdx (· == low)
  else 0

/-- Whether a controller may send: running, not LISTEN, not bus-off, a message queued (R448, R450). -/
def State.canSends (s : State) (k : Nat) : Bool :=
  s.canRuns k && !s.bit (canReg k Reg.Can.CAN_CFG) 2 && s.fld (canReg k Reg.Can.CAN_STAT) 0 2 != 2 && !(s.canTxq k).isEmpty

/-- A queued message has been sent (R450). -/
def canTxDone (k : Nat) (s : State) : State :=
  if s.canSends k then (s.setCanQ k ((s.canTxq k).eraseIdx (s.canNext k))).count (canReg k Reg.Can.TX_CNT) else s

def execCanTxDone (k : Fin 12) (s : State) : Host.Outcome State Fault Refusal := .next (canTxDone k.val s)

/-- Arbitration lost, or an error: the message is retried, or dropped after TX_RETRY retries (R450). -/
def canTxError (k : Nat) (arb : Bool) (s : State) : State :=
  if !s.canSends k || arb then s
  else
    let s := (s.count (canReg k Reg.Can.ERR_CNT)).ev 0xA5 k
    let i := s.canNext k
    let n := s.fld (canReg k Reg.Can.CAN_CFG) 8 4
    let l := s.canTxq k
    let t := (l.getD i { octs := [] }).tries + 1
    if n ≠ 0 ∧ n < t then (s.setCanQ k (l.eraseIdx i)).canDrop k
    else s.setCanQ k (l.mapIdx (fun j m => if j = i then { m with tries := t } else m))

def execCanTxError (k : Fin 12) (arb : Bool) (s : State) : Host.Outcome State Fault Refusal := .next (canTxError k.val arb s)

/-- ERR_STATE changed: ERR_STATE_CHG (R448). -/
def State.setErrState (s : State) (k v : Nat) : State :=
  if s.errState k = v then s else (s.setFld (canReg k Reg.Can.CAN_STAT) 0 2 v).raise (canBase k) 16

/-- Entry to bus-off (R448). -/
def canBusOff (k : Nat) (s : State) : State :=
  if !s.canRuns k || s.errState k == 2 then s
  else
    let s := ((s.setErrState k 2).count (canReg k Reg.Can.BUSOFF_CNT)).raise (canBase k) 17
    s.setBit (canReg k Reg.Can.CAN_STAT) 24 (s.bit (canReg k Reg.Can.CAN_CFG) 3)

def execCanBusOff (k : Fin 12) (s : State) : Host.Outcome State Fault Refusal := .next (canBusOff k.val s)

/-- The error counters after `errs` protocol errors, and the state they give (R448, R459). -/
def canErrState (k : Nat) (passive : Bool) (tec rec errs : Nat) (s : State) : State :=
  if !s.canRuns k || s.errState k == 2 then s
  else
    let s := (s.countBy (canReg k Reg.Can.ERR_CNT) errs).evN 0xA5 k errs
    let s := (s.setFld (canReg k Reg.Can.CAN_STAT) 8 8 tec).setFld (canReg k Reg.Can.CAN_STAT) 16 8 rec
    s.setErrState k (b2n passive)

def execCanErrState (k : Fin 12) (passive : Bool) (tec rec : Fin 256) (errs : Nat) (s : State) :
    Host.Outcome State Fault Refusal :=
  .next (canErrState k.val passive tec.val rec.val errs s)

/-- Bus-off recovery completes: error active with its counters at 0; queued messages are sent again (R448). -/
def canRecovered (k : Nat) (s : State) : State :=
  if s.canRuns k && s.bit (canReg k Reg.Can.CAN_STAT) 24 then
    ((s.setBit (canReg k Reg.Can.CAN_STAT) 24 false).setFld (canReg k Reg.Can.CAN_STAT) 8 16 0).setErrState k 0
  else s

def execCanRecoveryDone (k : Fin 12) (s : State) : Host.Outcome State Fault Refusal := .next (canRecovered k.val s)

/-- CLEAR of a controller (R448): starts recovery from bus-off; UNSUPPORTED in any other state. -/
def canClear (k : Nat) (s : State) : State :=
  if s.errState k = 2 then (s.setBit (canReg k Reg.Can.CAN_STAT) 24 true).cmdResult (canBase k) .done
  else s.cmdResult (canBase k) .unsupported

def execCanClear (acc : Access) (k : Fin 12) (s : State) : Host.Outcome State Fault Refusal :=
  .next (s.write acc 4 (canReg k.val Reg.Hdr.UNIT_CTRL) 3 (fun _ => canClear k.val))

/-- CAN_STAT with TX_QLEN as it stands (R459). -/
def State.canStat (s : State) (k : Nat) : Word := setBits (s.rd (canReg k Reg.Can.CAN_STAT)) 25 6 (s.canTxq k).length

/-! ## LIN channels (R452, R453) -/

/-- Whether a channel works. -/
def State.linRuns (s : State) (k : Nat) : Bool :=
  s.domainOn 9 && !s.gated 7 && s.bit (linReg k Reg.Lin.LIN_CFG) 0

/-- What a channel has to send under an identifier: a master the head of its queue, a slave its published data. -/
def State.linOwn (s : State) (k id : Nat) : Option (List Nat) :=
  if s.bit (linReg k Reg.Lin.LIN_CFG) 1 then
    (if s.bit (linReg k Reg.Lin.PUB_MAP + 4 * (id / 32)) (id % 32) then
      (match Tbl.get [] s.linData (64 * k + id) with | [] => none | d => some d) else none)
  else
    match Tbl.get [] s.linQ k with
    | (i, d) :: _ => if i = id ∧ !d.isEmpty then some d else none
    | [] => none

/-- A master's header has been sent: it leaves the queue. -/
def State.linPop (s : State) (k id : Nat) : State :=
  match Tbl.get [] s.linQ k with
  | (i, _) :: rest => if i = id then { s with linQ := Tbl.set [] s.linQ k rest } else s
  | [] => s

/-- LIN_HEADER: a header on the bus and what followed it (R452, R453): a complete frame, the channel's own data where it
answers, is forwarded; an error is counted and nothing forwarded. -/
def linHeader (k id : Nat) (res : LinRes) (ago : Nat) (s : State) : State :=
  if !s.linRuns k then s
  else
    let own := s.linOwn k id
    let s := s.linPop k id
    match res with
    | .complete d => s.gather (16 + k) (linAcf k id (own.getD d) (s.sofTs ago))
    | .checksum => (s.count (linReg k Reg.Lin.CKSUM_ERR_CNT)).raise (linBase k) 17
    | .bits => (s.count (linReg k Reg.Lin.BIT_ERR_CNT)).raise (linBase k) 17

def execLinHeader (k : Fin 8) (id : Fin 64) (res : LinRes) (ago : Nat) (s : State) : Host.Outcome State Fault Refusal :=
  .next (linHeader k.val id.val res ago s)

/-- A response not begun in time (R453). -/
def linNoResp (k id : Nat) (s : State) : State :=
  if !s.linRuns k then s
  else
    let s := (s.linPop k id).count (linReg k Reg.Lin.NO_RESP_CNT)
    let s := s.setBit (linReg k Reg.Lin.NO_RESP_MAP + 4 * (id / 32)) (id % 32) true
    ((s.wrN (linReg k Reg.Lin.LAST_NO_RESP) (id + 2 ^ 31)).raise (linBase k) 16).ev 0xA6 k

def execLinNoResp (k : Fin 8) (id : Fin 64) (s : State) : Host.Outcome State Fault Refusal := .next (linNoResp k.val id.val s)

end Sys2Proof.Machine
end

