-- ==== Sys2Proof/Machine/Vi.lean ====
section
/-! DEFINITION. Virtual instances: resources, states and commands, host queues, shares, migration (R462 to R487). -/

namespace Sys2Proof.Machine

def vi0Reg (off : Nat) : Nat := viBase 0 + off
def viReg (n off : Nat) : Nat := viBase n + off

/-- The bank of a VI page's queue registers an access reaches (R465): its half's own, the active half's for Shepherd. -/
def State.viBank (s : State) (acc : Access) : Half := match acc.master with | .half h => h | .shep => s.activeHalf

/-- VI states (R474). -/
def viStopped : Nat := 0
def viRun : Nat := 1
def viQuiescing : Nat := 2
def viQuiesced : Nat := 3
def viFrozen : Nat := 4
def viResetting : Nat := 5
def viImaging : Nat := 6

/-- VI_STAT.STATE of a VI. -/
def State.viState (s : State) (n : Nat) : Nat := s.fld (viReg n Reg.Vi.VI_STAT) 0 3

/-- A VI's state changes: VI_STAT, BLOCK_STAT, STATE_CHG (R474, R485). -/
def State.setVi (s : State) (n v : Nat) : State :=
  if s.viState n = v then s
  else ((s.setFld (viReg n Reg.Vi.VI_STAT) 0 3 v).setFld (viReg n Reg.Hdr.UNIT_STAT) 16 3 v).raise (viBase n) 16

/-- Results of R484. -/
def viDone : Nat := 1
def viBusy : Nat := 2
def viBadState : Nat := 3
def viNotQuiesced : Nat := 4
def viNotFrozen : Nat := 5
def viBadVi : Nat := 6
def viTooLarge : Nat := 7
def viParent : Nat := 8
def viBadImage : Nat := 9
def viIncompat : Nat := 10
def viConflict : Nat := 11
def viKeyError : Nat := 12

/-- A VI command completes: LAST_RESULT and VI_DONE (R475). -/
def State.viEnd (s : State) (n res : Nat) : State := (s.setFld (viReg n Reg.Vi.VI_STAT) 4 4 res).raise (viBase 0) 16

/-- Work in flight for a VI (R474): frames fetched and not accepted by the fabric, operations on the lanes. -/
def State.viBusyWork (s : State) (n : Nat) : Bool :=
  (s.hostTxA ++ s.hostTxB).any (·.vi == n) ||
    s.lanes.any (fun e => match e.2 with | some o => o.sub.vi == n | none => false)

/-! ## Queue assignment (R464) and contexts (R470) -/

/-- Whether a pool queue is enabled in either half's bank. -/
def State.poolOn (s : State) (i : Nat) : Bool :=
  [0, 1].any (fun h => bitOf (Tbl.get ({} : HQueue) s.hqs (1024 * h + i)).cfg 0)

/-- Whether a QASSIGN write is refused (R464). -/
def State.qassignBad (s : State) (n base cnt : Nat) : Bool :=
  let overlap := (List.range 128).any (fun m => m != n && m != 0 && decide (0 < cnt ∧ 0 < s.qCount m ∧
    base < s.qBase m + s.qCount m ∧ s.qBase m < base + cnt))
  let was (i : Nat) : Bool := decide (s.qBase n ≤ i ∧ i < s.qBase n + s.qCount n)
  let will (i : Nat) : Bool := decide (base ≤ i ∧ i < base + cnt)
  overlap || decide (1024 < base + cnt ∨ 64 < cnt) || (List.range 1024).any (fun i => was i != will i && s.poolOn i)

/-- A write of QASSIGNn (R463, R464). -/
def qassignWrite (n : Nat) (v : Word) (s : State) : State :=
  if n = 0 then s
  else if s.qassignBad n (bitsOf v 0 10) (bitsOf v 16 7) then
    (s.wrN (vi0Reg Reg.Vi0.ASSIGN_STAT) (1 + n * 2 ^ 16 + 2 ^ 31)).raise (viBase 0) 18
  else s.wrN (qassignKey n) (bitsOf v 0 10 + bitsOf v 16 7 * 2 ^ 16)

def execQassignWrite (acc : Access) (n : Fin 128) (v : Word) (s : State) : Host.Outcome State Fault Refusal :=
  .next (s.write acc 4 (qassignKey n.val) v (fun _ => qassignWrite n.val v))

/-- Owner of a session context (R470). -/
def State.ctxOwner (s : State) (c : Nat) : Nat := s.fld (vi0Reg Reg.Vi0.CTX_VI + 4 * (c / 4)) (8 * (c % 4)) 7

/-- Whether an accepted operation references a context. -/
def State.ctxRef (s : State) (c : Nat) : Bool :=
  s.lanes.any (fun e => match e.2 with | some o => descCtx o.words == c | none => false)

/-- A write of CTX_VIw, context by context (R470). -/
def ctxViWrite (w : Nat) (v : Word) (s : State) : State :=
  s.each (List.range 4) (fun s b =>
    let c := 4 * w + b
    let own := bitsOf v (8 * b) 7
    if s.ctxOwner c = own then s
    else if s.ctxRef c then s.wrN (vi0Reg Reg.Vi0.ASSIGN_STAT) (2 + c * 2 ^ 16 + 2 ^ 31)
    else { s with ctxs := s.ctxs.del c }.setFld (vi0Reg Reg.Vi0.CTX_VI + 4 * w) (8 * b) 8 own)

def execCtxViWrite (acc : Access) (w : Fin 64) (v : Word) (s : State) : Host.Outcome State Fault Refusal :=
  .next (s.write acc 4 (vi0Reg Reg.Vi0.CTX_VI + 4 * w.val) v (fun _ => ctxViWrite w.val v))

/-! ## Shares (R471 to R473) -/

/-- Key of a SHARE word of VI n. -/
def shareKey (n off : Nat) : Nat := viBase 0 + off + 0x10 * n

/-- Bucket level of a VI in 1/1,024 octet; the Reset value of the share words gives 16,384 octets. -/
def State.bucket (s : State) (n : Nat) : Int := Tbl.get (16384 * 1024) s.buckets n
def State.setBucket (s : State) (n : Nat) (v : Int) : State := { s with buckets := Tbl.set (16384 * 1024) s.buckets n v }

/-- TB_RATE and TB_BURST of a VI. -/
def State.tbRate (s : State) (n : Nat) : Nat := s.fld (shareKey n Reg.Vi0.SHARE_RATE) 0 15
def State.tbBurst (s : State) (n : Nat) : Nat := s.fld (shareKey n Reg.Vi0.SHARE_BURST) 0 21

/-- TOKEN_REFILL: every bucket gains TB_RATE / 8 octets up to TB_BURST; an unlimited VI stays at TB_BURST (R472). -/
def tokenRefill (s : State) : State :=
  if !s.domainOn 6 then s
  else s.each ((List.range 127).map (· + 1)) (fun s n =>
    let full : Int := s.tbBurst n * 1024
    s.setBucket n (if s.tbRate n = 0 then full else min full (s.bucket n + s.tbRate n * 128)))

def execTokenRefill (s : State) : Host.Outcome State Fault Refusal := .next (tokenRefill s)

/-- SHAREn word 3 as it reads. -/
def State.shareLevel (s : State) (n : Nat) : Word := word (unsignedOf 32 (truncDiv (s.bucket n) 1024))

/-- Deficit of a VI at an engine. -/
def State.deficit (s : State) (e n : Nat) : Int := Tbl.get 0 s.deficits (128 * e + n)
def State.setDeficit (s : State) (e n : Nat) (v : Int) : State := { s with deficits := Tbl.set 0 s.deficits (128 * e + n) v }

/-- The round of an engine. -/
def State.dwrr (s : State) (e : Nat) : Dwrr := Tbl.get {} s.dwrrs e
def State.setDwrr (s : State) (e : Nat) (d : Dwrr) : State := { s with dwrrs := Tbl.set {} s.dwrrs e d }

/-- Weight of a VI at an engine (R471). -/
def State.weight (s : State) (e n : Nat) : Nat := s.fld (shareKey n Reg.Vi0.SHARE_W) (if e < 2 then 0 else 8) 8

/-- DWRR_ROUND: where no round of an engine is in progress, one starts over the VIs of weight 1 or more, ascending, with
the weights as they stand (R471, R473). -/
def dwrrRound (e : Nat) (s : State) : State :=
  let d := s.dwrr e
  if d.cur.isNone && d.todo.isEmpty then
    s.setDwrr e { todo := ((List.range 127).map (· + 1)).filterMap (fun n =>
      if s.weight e n = 0 then none else some (n, s.weight e n)) }
  else s

def execDwrrRound (e : Fin 6) (s : State) : Host.Outcome State Fault Refusal := .next (dwrrRound e.val s)

/-- The next VI a round visits: the first still to visit that has eligible work; its deficit gains 512 octets a weight. -/
def State.dwrrVisit (e : Nat) (elig : Nat → Bool) : List (Nat × Nat) → State → State × Option Nat
  | [], s => (s.setDwrr e {}, none)
  | (n, w) :: rest, s =>
    if elig n then
      let s := s.setDeficit e n (s.deficit e n + 512 * (w : Int))
      if 0 < s.deficit e n then (s.setDwrr e { todo := rest, cur := some n }, some n)
      else State.dwrrVisit e elig rest s
    else State.dwrrVisit e elig rest s

/-- Whose item an engine starts next (R471): the visited VI's while its deficit lasts, else the next visited one's, a visited
VI without eligible work keeping no positive deficit; with no work of weight 1 or more, the lowest-numbered VI of weight
0. -/
def State.dwrrPick (s : State) (e : Nat) (elig : Nat → Bool) : State × Option Nat :=
  let d := s.dwrr e
  let r := match d.cur with
    | some n =>
      if 0 < s.deficit e n && elig n then (s, some n)
      else (s.onlyIf (decide (0 < s.deficit e n)) (·.setDeficit e n 0)).dwrrVisit e elig d.todo
    | none => s.dwrrVisit e elig d.todo
  match r with
  | (s, some n) => (s, some n)
  | (s, none) =>
    let vis := (List.range 127).map (· + 1)
    if vis.any (fun n => s.weight e n != 0 && elig n) then (s, none)
    else (s, vis.find? (fun n => s.weight e n == 0 && elig n))

/-- An item of `len` octets of VI n has started at an engine: the VI its round visits pays for it, and left without eligible
work keeps no positive deficit. -/
def State.dwrrCharge (s : State) (e n len : Nat) (more : Bool) : State :=
  if (s.dwrr e).cur ≠ some n then s
  else
    let v := s.deficit e n - len
    s.setDeficit e n (if !more && decide (0 < v) then 0 else v)

/-! ## Host transmit (R466, R469, R471) -/

/-- Whether local queue q of VI n has a descriptor to fetch in half h's bank. -/
def State.txReady (s : State) (h : Half) (n q : Nat) : Bool :=
  let x := s.hq h n q
  decide (q < s.qCount n) && bitOf x.cfg 0 && !bitOf x.cfg 1 && x.rd % x.len != x.wr % x.len &&
    !(s.hostTx h).any (fun f => f.vi == n && f.q == q)

/-- Whether a VI has eligible transmit work (R466, R472, R474). -/
def State.txElig (s : State) (h : Half) (n : Nat) : Bool :=
  s.viState n == viRun && (s.tbRate n == 0 || decide (0 < s.bucket n)) && (List.range 64).any (s.txReady h n)

/-- The queue a VI's next frame comes from: round-robin in ascending local index (R466). -/
def State.txNext (s : State) (h : Half) (n : Nat) : Option Nat :=
  let from_ := Tbl.get 0 s.txLast (128 * h.idx + n)
  ((List.range 64).map (fun i => (from_ + i) % 64)).find? (s.txReady h n)

/-- Whether a descriptor breaks R385 for a host port. -/
def descBad (p : Nat) (d : List Word) : Bool :=
  let w2 := d.getD 2 0
  let w5 := d.getD 5 0
  let len := bitsOf w2 0 14 + (if bitOf w2 14 then 4 else 0)
  decide (len < 64 ∨ 9216 < len) || bitsOf w2 16 2 == 3 ||
    (bitOf w5 8 && (bitsOf w5 0 5 == p || decide (29 ≤ bitsOf w5 0 5)))

/-- The frame of a descriptor: LEN octets, with an FCS appended where FCS_INS asks for it (R385). -/
def descFrame (d : List Word) (l : List Nat) : List Nat :=
  let w2 := d.getD 2 0
  let x := octs l (bitsOf w2 0 14)
  if bitOf w2 14 then withFcs (x ++ [0, 0, 0, 0]) else x

/-- OWNER.VI of a field bus's page. -/
def State.busVi (s : State) (m : BusMsg) : Nat :=
  s.fld ((if m.lin then linBase m.bus else canBase m.bus) + Reg.Hdr.OWNER) 1 7

/-- Whether the host port refuses a frame to the gateway (R469): some message names a bus of another VI. -/
def State.busRefused (s : State) (n : Nat) (l : List Nat) : Bool :=
  etherType l == 0x22F0 && be l 0 6 == s.gwAddr &&
    (match avtpData s.gwAddr (l.take (l.length - 4)) with
     | some d => (splitAcf 512 d).1.any (fun m => match parseAcf s.xlType m with
        | some b => s.busVi b != n && s.busVi b != 0
        | none => true)
     | none => false)

/-- R284: a frame submitted to a half's host transmit queues is a contribution: pseudo-address 2, then its FCS. -/
def State.cmpFrame (s : State) (h : Half) (l : List Nat) : State :=
  let fcs := l.drop (l.length - 4)
  s.cmpFold h 2 (word ((List.range 4).foldl (fun x i => x + fcs.getD i 0 % 256 * 256 ^ i) 0))

/-- HOST_TX_FETCH: half h's host port fetches the descriptor that is next by share; `desc` and `octs` are what memory
holds there. -/
def hostTxFetch (h : Half) (desc : List Word) (l : List Nat) (s : State) : State :=
  if !s.domainOn 6 then s
  else
    match s.dwrrPick h.idx (s.txElig h) with
    | (s, none) => s
    | (s, some n) =>
      match s.txNext h n with
      | none => s
      | some q =>
        let len := bitsOf (desc.getD 2 0) 0 14
        let s := { s with txLast := Tbl.set 0 s.txLast (128 * h.idx + n) (q + 1) }
        let s := s.onlyIf (s.tbRate n != 0) (·.setBucket n (s.bucket n - 1024 * (len : Int)))
        let p := hostPort h
        let f := descFrame desc l
        let s :=
          if descBad p desc then
            (s.countFld (swReg Reg.Sw.HOST_DESC_ERR) (16 * h.idx) 16).descDone h n q
          else
            let s := s.onlyIf (etherType f != 0x88B6) (·.cmpFrame h f)
            if s.role h ≠ roleActive ∧ etherType f ≠ 0x88B6 then
              (s.count (hreg h Reg.Half.HOST_TX_DISCARD)).descDone h n q
            else if s.busRefused n f then (s.count (viReg n Reg.Vi.BUS_REFUSED)).descDone h n q
            else s.setHostTx h (s.hostTx h ++ [⟨n, q, desc, f⟩])
        s.dwrrCharge h.idx n len (s.txElig h n)

def execHostTxFetch (h : Half) (desc : List Word) (octs : List Nat) (s : State) : Host.Outcome State Fault Refusal :=
  .next (hostTxFetch h desc octs s)

/-! ## Host receive (R467, R468) -/

/-- VI and local queue of a pool queue. -/
def State.poolOwner (s : State) (i : Nat) : Option (Nat × Nat) :=
  (((List.range 127).map (· + 1)).find? (fun n => decide (s.qBase n ≤ i ∧ i < s.qBase n + s.qCount n))).map
    (fun n => (n, i - s.qBase n))

/-- The pool queue a frame is steered to (R468). -/
def State.steerTo (s : State) (stream cls : Nat) : Option Nat :=
  let e := Tbl.get (0 : Word) s.steer (stream % 1024)
  let c := s.rd (vi0Reg Reg.Vi0.CLASS_RXQ + 4 * cls)
  if stream ≠ 0 ∧ bitOf e 31 then some (bitsOf e 0 10) else if bitOf c 31 then some (bitsOf c 0 10) else none

/-- Octets written to a ring of `len` units at a unit, going on at unit 0 (R467). -/
def State.ringWrite (s : State) (h : Half) (base len at_ : Nat) (l : List Nat) : State :=
  let room := 32 * (len - at_)
  let s := s.emit (.memWrite h (base + 32 * at_) (l.take room))
  s.onlyIf (decide (room < l.length)) (·.emit (.memWrite h base (l.drop room)))

/-- The item of a host port with the lowest INSEQ (R264). -/
def firstItem (l : List RxItem) : Option RxItem :=
  l.foldl (fun (a : Option RxItem) x => match a with
    | none => some x
    | some y => if x.inseq < y.inseq then some x else some y) none

/-- A frame delivered to a host port is steered, then written into its ring or dropped (R386, R467, R468). -/
def State.ringFrame (s : State) (h : Half) (x : RxItem) : State :=
  let noQueue := (s.count (vi0Reg Reg.Vi0.RX_NOQ)).raise (viBase 0) 17
  match (s.steerTo (bitsOf (x.ws.getD 4 0) 16 16) (bitsOf (x.ws.getD 3 0) 21 3)).bind s.poolOwner with
  | none => noQueue
  | some (n, q) =>
    let r := s.hq h n q
    if !bitOf r.cfg 0 || !bitOf r.cfg 1 then noQueue
    else if s.viState n != viRun then s.count (viReg n Reg.Vi.QUIESCE_DROP)
    else
      let wr := r.wr % r.len
      let units := 1 + (x.octs.length + 31) / 32
      let free := r.len - 1 - (wr + r.len - r.rd % r.len) % r.len
      if free < units then (s.setHq h n q { r with drop := min 0xFFFFFFFF (r.drop + 1) }).evHalf h.idx 0x4C 0
      else
        let gap := (s.halfSt h).gap
        let ws := (x.ws.set 2 (word x.inseq)).set 3
          (word ((x.ws.getD 3 0).toNat + x.inseq / 2 ^ 32 + b2n gap * 2 ^ 25))
        let base := r.hi.toNat * 2 ^ 32 + r.lo.toNat
        let s := s.ringWrite h base r.len wr (ws.flatMap octets ++ x.octs)
        let s := (s.setHq h n q { r with wr := (wr + units) % r.len }).qPend h n q
        let s := (s.setHalfSt h { s.halfSt h with gap := false }).evHalf h.idx 0x4B 0
        s.delivered h x.inseq

/-- HOST_RX_DELIVER: the frame at half h's host port with the lowest INSEQ reaches it, once no item with a lower one is
still due; a half that does not receive it gets nothing (R264, R467). -/
def hostRxDeliver (h : Half) (s : State) : State :=
  let s := s.ringDrain h
  match firstItem ((s.hostRx h).filter (fun (x : RxItem) => !ownType x.octs)) with
  | none => s
  | some x =>
    if (s.framesDue h).any (fun n => decide (n < x.inseq)) then s
    else
      let s := s.setHostRx h ((s.hostRx h).erase x)
      (s.onlyIf (s.receives h x.inseq) (·.ringFrame h x)).ringDrain h

def execHostRxDeliver (h : Half) (s : State) : Host.Outcome State Fault Refusal := .next (hostRxDeliver h s)

/-! ## Index writes (R466, R467, R474, R480, R487) -/

/-- A change of a VI's queue registers; ignored with LOCK_VIOL while the VI is FROZEN (R480). -/
def State.viQueueWrite (s : State) (acc : Access) (n : Nat) (f : State → State) : State :=
  if s.viState n = viFrozen then s.lockedWrite acc (viBase n) else f s

/-- A new WR of a transmit queue or RD of a receive queue, by its direction. -/
def State.setIndex (s : State) (h : Half) (n q v : Nat) : State :=
  let x := s.hq h n q
  if s.qCount n ≤ q then s
  else if bitOf x.cfg 1 then s.setHq h n q { x with rd := v } else s.setHq h n q { x with wr := v }

/-- A write of DOORBELL. -/
def doorbell (acc : Access) (n : Nat) (v : Word) (s : State) : State :=
  s.viQueueWrite acc n (fun s => s.setIndex (s.viBank acc) n (bitsOf v 0 6) (bitsOf v 16 16))

def execDoorbell (acc : Access) (n : Fin 127) (v : Word) (s : State) : Host.Outcome State Fault Refusal :=
  .next (s.write acc 4 (viReg (n.val + 1) Reg.Vi.DOORBELL) v (fun acc => doorbell acc (n.val + 1) v))

/-- Q_SEL of a bank. -/
def State.qSel (s : State) (h : Half) (n : Nat) : Nat := s.fld (bank h.idx (viReg n Reg.Vi.Q_SEL)) 0 6

/-- A write of Q_WR or Q_RD: the index the queue's direction leaves to software (R487). -/
def qIndexWrite (acc : Access) (n : Nat) (rx : Bool) (v : Word) (s : State) : State :=
  s.viQueueWrite acc n (fun s =>
    let h := s.viBank acc
    let q := s.qSel h n
    if bitOf (s.hq h n q).cfg 1 == rx then s.setIndex h n q (bitsOf v 0 16) else s)

def execQWrWrite (acc : Access) (n : Fin 127) (v : Word) (s : State) : Host.Outcome State Fault Refusal :=
  .next (s.write acc 4 (viReg (n.val + 1) Reg.Vi.Q_WR) v (fun acc => qIndexWrite acc (n.val + 1) false v))

def execQRdWrite (acc : Access) (n : Fin 127) (v : Word) (s : State) : Host.Outcome State Fault Refusal :=
  .next (s.write acc 4 (viReg (n.val + 1) Reg.Vi.Q_RD) v (fun acc => qIndexWrite acc (n.val + 1) true v))

/-! ## Commands (R475, R476) -/

/-- Contexts and valid slots a VI owns. -/
def State.viCtxs (s : State) (n : Nat) : List Nat := (List.range 256).filter (fun c => s.ctxOwner c == n)
def State.viSlots (s : State) (n : Nat) : List Nat := (s.slots.filter (fun e => e.2.valid && e.2.vi == n)).map (·.1)

/-- The snapshot of R480. The spec gives one transmit and one cipher deficit where each engine keeps its own: the transmit
path of the active half, and a free value for the lanes. -/
def State.takeSnap (s : State) (n : Nat) : State :=
  let h := s.activeHalf
  let r := s.freshInt (-2147483648) 2147483647
  let s := r.2
  let snap : ViSnap := {
    queues := (List.range (s.qCount n)).map (fun q => s.hq h n q),
    share := [s.rd (shareKey n Reg.Vi0.SHARE_W), s.rd (shareKey n Reg.Vi0.SHARE_RATE),
      s.rd (shareKey n Reg.Vi0.SHARE_BURST), s.shareLevel n],
    txDef := s.deficit h.idx n, ciphDef := r.1,
    ctxs := (s.viCtxs n).map (fun c => (c, Tbl.get {} s.ctxs c)),
    slots := (s.viSlots n).map (fun k => (k, s.slot k)),
    gen := s.gen (viBase n), ts := s.tb0 }
  { s with viSnaps := Tbl.set none s.viSnaps n (some snap) }

/-- The state entered at the end of a quiesce: QUIESCED, or FROZEN with the snapshot (R476). -/
def State.quiesced (s : State) (n : Nat) : State :=
  if s.viFreeze.contains n then
    ((({ s with viFreeze := s.viFreeze.filter (· != n) }).takeSnap n).setVi n viFrozen).viEnd n viDone
  else (s.setVi n viQuiesced).viEnd n viDone

/-- VI_CMD_STAT: the result at acceptance. -/
def State.viCmdStat (s : State) (n res : Nat) : State := s.wrN (vi0Reg Reg.Vi0.VI_CMD_STAT) (res + n * 2 ^ 16)

/-- A VI command (R475): refused by a name, or accepted with its first effect. `imaging` tells that the image engine is
taken. -/
def State.viAct (s : State) (op n mig : Nat) : State :=
  let st := s.viState n
  let ok (f : State → State) : State := f (s.viCmdStat n viDone)
  let no (r : Nat) : State := s.viCmdStat n r
  if n = 0 then no viBadVi
  else if st = viResetting ∨ st = viImaging then no viBusy
  else match op with
  | 1 => if st = viStopped then ok (fun s => (s.setVi n viRun).viEnd n viDone) else no viBadState
  | 2 =>
    if st = viStopped then no viBadState
    else if st = viRun then ok (·.setVi n viQuiescing)
    else ok (·.viEnd n viDone)
  | 3 =>
    if st = viStopped ∨ st = viRun then no viBadState
    else ok (fun s => ((({ s with viFreeze := s.viFreeze.filter (· != n), viSnaps := Tbl.set none s.viSnaps n none }).setVi n viRun)).viEnd n viDone)
  | 4 =>
    if st = viStopped then no viBadState
    else if st = viFrozen then ok (·.viEnd n viDone)
    else if st = viQuiesced then ok (fun s => ((s.takeSnap n).setVi n viFrozen).viEnd n viDone)
    else ok (fun s => { s with viFreeze := n :: s.viFreeze.filter (· != n) }.setVi n viQuiescing)
  | 5 =>
    if st ≠ viFrozen then no viNotFrozen
    else if s.viImage.isSome then no viBusy
    else ok (fun s => { s with viImage := some (n, false, mig) }.setVi n viImaging)
  | 6 =>
    if st ≠ viStopped then no viBadState
    else if s.viImage.isSome then no viBusy
    else ok (fun s => { s with viImage := some (n, true, mig) }.setVi n viImaging)
  | 7 =>
    if st = viRun ∨ st = viQuiescing then no viNotQuiesced
    else ok (·.setVi n viResetting)
  | _ => ok (fun s => { s with viFreeze := s.viFreeze.filter (· != n) }.setVi n viResetting)

/-- A write of VI_CMD (R486). A reserved OP is no command. -/
def viCmd (v : Word) (s : State) : State :=
  let op := bitsOf v 8 4
  if 1 ≤ op ∧ op ≤ 8 then s.viAct op (bitsOf v 0 7) (bitsOf v 16 8) else s

/-- The word of VI_CMD. -/
def viCmdWord (n op mig : Nat) : Word := word (n + op * 2 ^ 8 + mig * 2 ^ 16)

def execViEnable (acc : Access) (n : Fin 128) (s : State) : Host.Outcome State Fault Refusal :=
  .next (s.write acc 4 (vi0Reg Reg.Vi0.VI_CMD) (viCmdWord n.val 1 0) (fun _ => viCmd (viCmdWord n.val 1 0)))
def execViQuiesce (acc : Access) (n : Fin 128) (s : State) : Host.Outcome State Fault Refusal :=
  .next (s.write acc 4 (vi0Reg Reg.Vi0.VI_CMD) (viCmdWord n.val 2 0) (fun _ => viCmd (viCmdWord n.val 2 0)))
def execViResume (acc : Access) (n : Fin 128) (s : State) : Host.Outcome State Fault Refusal :=
  .next (s.write acc 4 (vi0Reg Reg.Vi0.VI_CMD) (viCmdWord n.val 3 0) (fun _ => viCmd (viCmdWord n.val 3 0)))
def execViFreeze (acc : Access) (n : Fin 128) (s : State) : Host.Outcome State Fault Refusal :=
  .next (s.write acc 4 (vi0Reg Reg.Vi0.VI_CMD) (viCmdWord n.val 4 0) (fun _ => viCmd (viCmdWord n.val 4 0)))
def execViSave (acc : Access) (n : Fin 128) (mig : Fin 256) (s : State) : Host.Outcome State Fault Refusal :=
  .next (s.write acc 4 (vi0Reg Reg.Vi0.VI_CMD) (viCmdWord n.val 5 mig.val) (fun _ => viCmd (viCmdWord n.val 5 mig.val)))
def execViRestore (acc : Access) (n : Fin 128) (mig : Fin 256) (s : State) : Host.Outcome State Fault Refusal :=
  .next (s.write acc 4 (vi0Reg Reg.Vi0.VI_CMD) (viCmdWord n.val 6 mig.val) (fun _ => viCmd (viCmdWord n.val 6 mig.val)))
def execViVrst (acc : Access) (n : Fin 128) (s : State) : Host.Outcome State Fault Refusal :=
  .next (s.write acc 4 (vi0Reg Reg.Vi0.VI_CMD) (viCmdWord n.val 7 0) (fun _ => viCmd (viCmdWord n.val 7 0)))
def execViVrstForce (acc : Access) (n : Fin 128) (s : State) : Host.Outcome State Fault Refusal :=
  .next (s.write acc 4 (vi0Reg Reg.Vi0.VI_CMD) (viCmdWord n.val 8 0) (fun _ => viCmd (viCmdWord n.val 8 0)))

/-- The last work in flight of a quiescing VI has ended (R476). -/
def quiesceComplete (n : Nat) (s : State) : State :=
  if s.viState n = viQuiescing ∧ !s.viBusyWork n then s.quiesced n else s

def execQuiesceComplete (n : Fin 128) (s : State) : Host.Outcome State Fault Refusal := .next (quiesceComplete n.val s)

/-! ## VRST (R477) -/

/-- Frames of a port's queues that have not begun are discarded and counted for a VI; messages of its buses are dropped. -/
def State.flushVi (s : State) (n : Nat) : State :=
  let own (k : Nat) : Bool := s.fld (k + Reg.Hdr.OWNER) 1 7 == n
  let ports := (List.range 29).filter (fun p => own (portBase p))
  let gone (_ : Frame) (c : Copy) : Bool := ports.contains c.port && !c.begun && c.queued
  let cnt := (s.frames.map (fun f => (f.copies.filter (gone f)).length)).foldl (· + ·) 0
  let s := (s.dropCopies gone).countBy (viReg n Reg.Vi.VRST_FLUSH) cnt
  let s := s.each ((List.range 12).filter (fun k => own (canBase k))) (fun s k =>
    let l := s.canTxq k
    (s.setCanQ k []).each l (fun s _ => s.canDrop k))
  s.each ((List.range 8).filter (fun k => own (linBase k))) (fun s k => { s with linQ := s.linQ.del k })

/-- VRST_COMPLETE: no work of a resetting VI is in flight (R477). -/
def vrstComplete (n : Nat) (s : State) : State :=
  if s.viState n ≠ viResetting ∨ s.viBusyWork n then s
  else
    let s := s.losePages (fun p => p.kind == .vi && p.base == viBase n) (· == .x)
    let qs := (List.range 64).filter (fun q => decide (q < s.qCount n))
    let s := s.each [Half.a, Half.b] (fun s h => s.each qs (fun s q => s.setHq h n q {}))
    let s := s.each (List.range 6) (fun s e => s.setDeficit e n 0)
    let s := s.setBucket n (s.tbBurst n * 1024)
    let s := s.each (s.viCtxs n) (fun s c => { s with ctxs := s.ctxs.del c })
    let s := { s.flushVi n with viSnaps := Tbl.set none s.viSnaps n none }
    ((s.setVi n viStopped).bumpGen (viBase n)).viEnd n viDone

def execVrstComplete (n : Fin 128) (s : State) : Host.Outcome State Fault Refusal := .next (vrstComplete n.val s)

/-! ## Migration (R480 to R484) -/

/-- Labels "ZU-MIG-W" and "ZU-MIG-M". -/
def labelMigW : List Nat := [0x5A, 0x55, 0x2D, 0x4D, 0x49, 0x47, 0x2D, 0x57]
def labelMigM : List Nat := [0x5A, 0x55, 0x2D, 0x4D, 0x49, 0x47, 0x2D, 0x4D]

/-- A usable migration key (R481): a valid AES-256 slot with WRAP. -/
def State.migKey (s : State) (mig : Nat) : Option (List Nat) :=
  let k := s.slot mig
  if k.valid && k.alg == 2 && k.usage.testBit 5 then some k.key else none

/-- A context's running state as numbers, and back. -/
def Ctx.list (c : Ctx) : List Nat :=
  [b2n c.opened, c.slot, c.gen, c.mode, c.dir, c.sess, c.iv.length, c.aad.length] ++ c.iv ++ c.aad ++ c.inp
def Ctx.ofList (l : List Nat) : Ctx :=
  let n (i : Nat) : Nat := l.getD i 0
  let r := l.drop 8
  { opened := n 0 == 1, slot := n 1, gen := n 2, mode := n 3, dir := n 4, sess := n 5,
    iv := r.take (n 6), aad := (r.drop (n 6)).take (n 7), inp := r.drop (n 6 + n 7) }

/-- IMG_ADDR. -/
def State.imgAddr (s : State) : Nat := s.rdN (vi0Reg Reg.Vi0.IMG_ADDR_HI) * 2 ^ 32 + s.fld (vi0Reg Reg.Vi0.IMG_ADDR_LO) 12 20 * 2 ^ 12

/-- The image of a snapshot (R482) under a migration key. -/
def State.viImg (s : State) (n : Nat) (key : List Nat) (x : ViSnap) : List Nat :=
  let wk := kdf key labelMigW [] 256
  let mk := kdf key labelMigM [] 256
  let w (v : Nat) : List Nat := littleEnd 4 v
  let head := w 0x5A564931 ++ w (1 + s.fld (sysBase + Reg.Sys.DEV_ID) 16 16 * 2 ^ 16) ++
    w (s.fld (dirBase + Reg.Dir.SELF_UNIT) 0 14 + n * 2 ^ 16) ++ w x.gen ++ octets x.ts.tsLo ++ octets x.ts.tsHi ++
    w (x.queues.length + x.ctxs.length * 2 ^ 8 + x.slots.length * 2 ^ 16) ++ List.replicate 0x24 0
  let share := x.share.flatMap octets ++ w (unsignedOf 32 x.txDef) ++ w (unsignedOf 32 x.ciphDef) ++ List.replicate 8 0
  let qs := x.queues.flatMap (fun q => octets q.lo ++ octets q.hi ++ octets q.cfg ++ w (q.wr + q.rd * 2 ^ 16))
  let cs := x.ctxs.flatMap (fun e => w (e.1 + 2 ^ 8) ++ w 0 ++
    octs (Config.keyWrap wk (octs (Config.packCtx e.2.list) 40)) 48 ++ List.replicate 8 0)
  let ks := x.slots.flatMap (fun e => w (e.1 + e.2.parent.getD 0 * 2 ^ 8 + b2n e.2.parent.isSome * 2 ^ 16) ++
    octets e.2.attr0 ++ w e.2.count ++ octs (Config.keyWrap wk e.2.key) 40)
  let body := octs (octs (octs (octs (head ++ share) 0x60 ++ qs) 0x460 ++ cs) 0x860 ++ ks) 0xFF0
  body ++ octs (Config.aesCmac mk body) 16

/-- The result of a SAVE (R481). -/
def State.saveResult (s : State) (n mig : Nat) (x : ViSnap) : Nat :=
  if 16 < x.ctxs.length ∨ 32 < x.slots.length then viTooLarge
  else if x.slots.any (fun e => match e.2.parent with
      | some p => (s.slot p).vi != n
      | none => false) then viParent
  else if (s.migKey mig).isNone then viKeyError
  else viDone

/-- SAVE_COMPLETE: the image goes to every running half's memory; the VI is FROZEN again. -/
def saveComplete (s : State) : State :=
  match s.viImage with
  | some (n, false, mig) =>
    let s := { s with viImage := none }
    (match Tbl.get none s.viSnaps n with
     | some x =>
       let r := s.saveResult n mig x
       let s := if r = viDone then
           s.each ([Half.a, Half.b].filter (fun h => s.running h)) (fun s h =>
             s.emit (.memWrite h s.imgAddr (s.viImg n ((s.migKey mig).getD []) x)))
         else s
       (s.setVi n viFrozen).viEnd n r
     | none => (s.setVi n viFrozen).viEnd n viKeyError)
  | _ => s

def execSaveComplete (s : State) : Host.Outcome State Fault Refusal := .next (saveComplete s)

/-- A little-endian word of an image. -/
def imgWord (l : List Nat) (i : Nat) : Word := word ((List.range 4).foldl (fun a j => a + l.getD (i + j) 0 % 256 * 256 ^ j) 0)

/-- The result of a RESTORE of an image (R483). -/
def State.restoreResult (s : State) (n mig : Nat) (l : List Nat) : Nat :=
  match s.migKey mig with
  | none => viKeyError
  | some key =>
    let mk := kdf key labelMigM [] 256
    let cnt := imgWord l 0x18
    let nctx := bitsOf cnt 8 5
    let nkey := bitsOf cnt 16 6
    if imgWord l 0 ≠ 0x5A564931 ∨ octs (l.drop 0xFF0) 16 ≠ octs (Config.aesCmac mk (octs l 0xFF0)) 16 then viBadImage
    else if bitsOf (imgWord l 4) 0 8 ≠ 1 ∨ s.qCount n < bitsOf cnt 0 7 ∨ !s.bit (sysBase + Reg.Sys.DEV_PARAM) 28 then viIncompat
    else
      let ctxBad := (List.range (min 16 nctx)).any (fun i =>
        let c := bitsOf (imgWord l (0x460 + 64 * i)) 0 8
        s.ctxOwner c != n || s.ctxRef c)
      let slotBad := (List.range (min 32 nkey)).any (fun i => (s.slot (bitsOf (imgWord l (0x860 + 52 * i)) 0 8)).valid)
      if ctxBad || slotBad then viConflict else viDone

/-- Depth of a slot by an image's key records, each a slot with its parent: one more than its parent's (R483, R546). -/
def imgDepth (recs : List (Nat × Option Nat)) : Nat → Nat → Nat
  | 0, _ => 0
  | fuel + 1, k =>
    match recs.find? (fun r => r.1 == k) with
    | some (_, some p) => imgDepth recs fuel p + 1
    | _ => 0

/-- What a restored image loads (R483): queues into both banks, share words, deficits and level, contexts and keys. -/
def State.loadImg (s : State) (n : Nat) (key l : List Nat) : State :=
  let wk := kdf key labelMigW [] 256
  let cnt := imgWord l 0x18
  let s := s.each (List.range (bitsOf cnt 0 7)) (fun s q =>
    let a := 0x60 + 16 * q
    let x : HQueue := { lo := imgWord l a, hi := imgWord l (a + 4), cfg := imgWord l (a + 8),
                        wr := bitsOf (imgWord l (a + 12)) 0 16, rd := bitsOf (imgWord l (a + 12)) 16 16 }
    (s.setHq .a n q x).setHq .b n q x)
  let s := ((s.wr (shareKey n Reg.Vi0.SHARE_W) (imgWord l 0x40)).wr (shareKey n Reg.Vi0.SHARE_RATE) (imgWord l 0x44)).wr
    (shareKey n Reg.Vi0.SHARE_BURST) (imgWord l 0x48)
  let s := s.setBucket n (signedOf 32 (imgWord l 0x4C).toNat * 1024)
  let s := s.each [0, 1] (fun s e => s.setDeficit e n (signedOf 32 (imgWord l 0x50).toNat))
  let s := s.each [2, 3, 4, 5] (fun s e => s.setDeficit e n (signedOf 32 (imgWord l 0x54).toNat))
  let s := s.each (List.range (min 16 (bitsOf cnt 8 5))) (fun s i =>
    let a := 0x460 + 64 * i
    let st := (Config.keyUnwrap wk (octs (l.drop (a + 8)) 48)).getD []
    { s with ctxs := Tbl.set {} s.ctxs (bitsOf (imgWord l a) 0 8) (Ctx.ofList (Config.unpackCtx st)) })
  let keys := List.range (min 32 (bitsOf cnt 16 6))
  let recs := keys.map (fun i =>
    let w := imgWord l (0x860 + 52 * i)
    (bitsOf w 0 8, if bitOf w 16 then some (bitsOf w 8 8) else none))
  s.each keys (fun s i =>
    let a := 0x860 + 52 * i
    let w := imgWord l a
    let a0 := imgWord l (a + 4)
    let k := octs ((Config.keyUnwrap wk (octs (l.drop (a + 12)) (if bitsOf a0 16 4 = 1 then 24 else 40))).getD [])
      (algBits (bitsOf a0 16 4) / 8)
    let par := if bitOf w 16 then some (bitsOf w 8 8) else none
    s.fillSlot (bitsOf w 0 8) { slotOf a0 (imgWord l (a + 8)) k with
      vi := n, parent := par, depth := imgDepth recs 3 (bitsOf w 0 8) })

/-- RESTORE_COMPLETE: the checks of R483 on the image read from the active half's memory, then its effect. -/
def restoreComplete (l : List Nat) (s : State) : State :=
  match s.viImage with
  | some (n, true, mig) =>
    let s := { s with viImage := none }
    let r := s.restoreResult n mig l
    if r = viDone then
      let s := s.loadImg n ((s.migKey mig).getD []) l
      (((s.takeSnap n).bumpGen (viBase n)).setVi n viFrozen).viEnd n viDone
    else (s.setVi n viStopped).viEnd n r
  | _ => s

def execRestoreComplete (img : List Nat) (s : State) : Host.Outcome State Fault Refusal := .next (restoreComplete img s)

/-! ## What the registers of this chapter read -/

/-- Queue registers of a VI page in a bank (R487); a queue the VI does not have reads 0. -/
def State.viLive (s : State) (h : Half) (n off : Nat) : Option Word :=
  let q := s.qSel h n
  let x := if q < s.qCount n then s.hq h n q else {}
  if off = Reg.Vi.Q_CFG then some x.cfg
  else if off = Reg.Vi.Q_RING_LO then some x.lo
  else if off = Reg.Vi.Q_RING_HI then some x.hi
  else if off = Reg.Vi.Q_WR then some (word x.wr)
  else if off = Reg.Vi.Q_RD then some (word x.rd)
  else if off = Reg.Vi.Q_DROP then some (word x.drop)
  else none

end Sys2Proof.Machine
end

