-- ==== Sys2Proof/Machine/Keys.lean ====
section
/-! DEFINITION. The vault and the slot commands: tampers, provisioning, KS_CMD and its checks, derivation, records and
attestation (R537 to R565). -/

namespace Sys2Proof.Machine

def keysReg (off : Nat) : Nat := keysBase + off
def vaultReg (off : Nat) : Nat := vaultBase + off
def ciphReg (off : Nat) : Nat := ciphBase + off

/-! ## Alarms and tampers (R539, R586) -/

/-- STATUS codes of R575. -/
def stOk : Nat := 1
def stTagFail : Nat := 2
def stLength : Nat := 3
def stKeyRevoked : Nat := 4
def stBadDesc : Nat := 5
def stDenied : Nat := 6
def stUsage : Nat := 7
def stEmptySlot : Nat := 8
def stCtxState : Nat := 9
def stBusError : Nat := 10
def stAlarm : Nat := 11
def stDescFetch : Nat := 12

/-- A cipher alarm of a cause bit and code (R586): operations end with ALARM, every slot is zeroed, every association
disabled; the cause is recorded, HOLD set but for a tamper. -/
def State.cipherAlarm (s : State) (causeBit code : Nat) : State :=
  let s := s.each (List.range 4) (fun s k =>
    match s.lane k with
    | some o => if o.fail.isNone then s.setLane k (some { o with fail := some stAlarm }) else s
    | none => s)
  let s := (s.zeroSlots.setBit (ciphReg Reg.Ciph.ALARM_STAT) causeBit true).count (ciphReg Reg.Ciph.ALARM_CNT)
  let s := s.onlyIf (code != 3) (·.setBit (ciphReg Reg.Ciph.ALARM_STAT) 0 true)
  (s.raise ciphBase 16).record 38 (word code)

/-- TAMPER: a detector of the vault trips (R538, R539). -/
def tamper (src : Nat) (s : State) : State :=
  if !s.drsValid then s
  else
    let s := { s with drsValid := false, lossCause := 1, tamperLatch := setNatBit s.tamperLatch src true }
    if s.supplied then
      let s := s.onlyIf (s.domainOn 10) (·.cipherAlarm 6 3)
      let s := (s.setBit (vaultReg Reg.Vault.TAMPER_STAT) src true).hwCountP vaultBase (vaultReg Reg.Vault.TAMPER_CNT)
      (s.record 39 (s.rd (vaultReg Reg.Vault.TAMPER_STAT))).onlyIf (s.domainOn 10)
        (·.raise ciphBase 30)
    else { s with tamperOff := s.tamperOff + 1 }

def execTamper (src : Fin 6) (s : State) : Host.Outcome State Fault Refusal := .next (tamper src.val s)

/-- VAULT_STAT as it stands (R564). -/
def State.vaultStat (s : State) : Word :=
  word (b2n s.drsValid + 2 * b2n (s.bit (vaultReg Reg.Vault.VAULT_STAT) 1) + s.lossCause * 16)

/-- CELL_MEASUREMENT: the cell's voltage; CELL_LOW below 3.0 V (R564). -/
def cellMeasured (mv : Nat) (s : State) : State :=
  (s.setFld (vaultReg Reg.Vault.CELL_MV) 0 16 mv).setBit (vaultReg Reg.Vault.VAULT_STAT) 1 (decide (mv < 3000))

def execCellMeasurement (mv : Fin 65536) (s : State) : Host.Outcome State Fault Refusal := .next (cellMeasured mv.val s)

/-- Both banks of a record are invalidated, the lower GEN first (R559). -/
def State.eraseRec (s : State) (n : Nat) : State :=
  let zero (s : State) (b : Nat) : State := s.onlyIf (s.recGood n b) (·.putRec (recKey n b 15) 0)
  if s.recWin n = some 0 then zero (zero s 1) 0 else zero (zero s 0) 1

/-- PROVISION.GO with its key (R541). -/
def provision (acc : Access) (s : State) : State :=
  let res (s : State) (r : Nat) : State := s.setFld (vaultReg Reg.Vault.PROV_STAT) 0 4 r
  if acc.master ≠ .shep ∨ !acc.secure then res s 3
  else if s.drsValid then res s 2
  else if !s.trngReady then res s 4
  else
    let recs := (s.records.map (fun (e : Nat × Nat) => e.1 / 32)).eraseDups
    let s := { s with drsGen := s.drsGen + 1 }.each recs State.eraseRec
    let s := { s with drsValid := true, lossCause := 0, tamperLatch := 0 }
    res (s.wrN (vaultReg Reg.Vault.TAMPER_STAT) 0) 1

def execProvision (acc : Access) (v : Word) (s : State) : Host.Outcome State Fault Refusal :=
  .next (s.write acc 4 (vaultReg Reg.Vault.PROVISION) v (fun acc s =>
    s.onlyIf (bitOf v 0 && bitsOf v 16 16 == 0x6B1D) (provision acc)))

/-! ## Slot commands (R547, R548) -/

/-- RESULT codes of R548. -/
def ksDone : Nat := 1
def ksBusy : Nat := 2
def ksBadOp : Nat := 3
def ksDenied : Nat := 4
def ksBadAttr : Nat := 5
def ksEmpty : Nat := 6
def ksUsage : Nat := 7
def ksSlotBusy : Nat := 8
def ksTooDeep : Nat := 9
def ksLabel : Nat := 10
def ksNoRoot : Nat := 11
def ksNoRecord : Nat := 12
def ksAuthFail : Nat := 13
def ksWorn : Nat := 14

/-- Whether an OP fills a slot: WRITE, DERIVE, LOAD_P, DERIVE_ROOT (R547). -/
def ksFills (op : Nat) : Bool := op == 1 || op == 3 || op == 7 || op == 10

/-- The world and VI checks of R548 on a slot an access names. -/
def slotDenied (k : Slot) (secure : Bool) (vi : Nat) : Bool :=
  k.valid && ((k.world && !secure) || (vi != 0 && vi != k.vi))

/-- Whether a slot accepts no operation: empty, or COUNTED with no use left (R548, R552). -/
def Slot.spent (k : Slot) : Bool := !k.valid || (k.life == 1 && k.count == 0)

/-- The attributes a fill gives (R543, R559): the shadow's, or those of the record's winning bank. -/
def State.fillAttrs (s : State) (c : KsCmd) : Option (Word × Word) :=
  if c.op = 7 then (s.recWin c.record).map (fun b => (word (s.recWord c.record b 1), word (s.recWord c.record b 2)))
  else some (c.attr0, c.attr1)

/-- The checks made when KS_CMD is written, in R548's order; none where all pass. -/
def State.ksCheck (s : State) (c : KsCmd) : Option Nat :=
  let sec := c.acc.secure
  let vi := if c.acc.master = .shep then 0 else c.acc.vi.val
  let op := c.op
  let at0 := if ksFills op then s.fillAttrs c else none
  let par := s.slot c.parent
  let tgt := s.slot c.slot
  let newBad : Bool := match at0 with
    | some (w, _) => (bitOf w 27 && !sec) || (vi != 0 && bitsOf w 20 7 != vi)
    | none => false
  if op = 0 ∨ 10 < op then some ksBadOp
  else if (6 ≤ op ∧ op ≤ 9 ∧ !sec) ∨ (op ≠ 8 ∧ op ≠ 9 ∧ slotDenied tgt sec vi) ∨ (op = 3 ∧ slotDenied par sec vi) ∨
      newBad then some ksDenied
  else if (match at0 with
      | some (w, n) =>
        bitsOf w 29 2 == 3 || bitsOf w 16 4 == 0 || decide (5 < bitsOf w 16 4) || bitsOf w 8 8 == 0 ||
          (bitsOf w 29 2 == 1 && n == 0) ||
          (op == 3 && par.valid && (bitOf w 27 != par.world || bitsOf w 20 7 != par.vi))
      | none => false) then some ksBadAttr
  else if ((op = 4 ∨ op = 5 ∨ op = 6) ∧ tgt.spent) ∨ (op = 3 ∧ par.spent) then some ksEmpty
  else if (op = 3 ∧ (!par.usage.testBit 4 ∨ par.alg ≠ 2)) ∨ (op = 5 ∧ (!tgt.usage.testBit 6 ∨ tgt.alg ≠ 4)) then
    some ksUsage
  else if op = 3 ∧ par.depth = 3 then some ksTooDeep
  else if (op = 3 ∨ op = 10) ∧ c.label.take 3 = [0x5A, 0x55, 0x2D] then some ksLabel
  else none

/-- The octets a run of shadow words holds (R554). -/
def State.keyShadow (s : State) (off cnt : Nat) : List Nat :=
  (List.range cnt).flatMap (fun i => octets (s.rd (keysReg off + 4 * i)))

/-- The slot whose use a command takes at its acceptance (R549, R552): the parent of a DERIVE, the slot of an ATTEST or a
STORE_P. -/
def KsCmd.used (c : KsCmd) : Option Nat :=
  if c.fail.isSome then none else if c.op = 3 then some c.parent else if c.op = 5 ∨ c.op = 6 then some c.slot else none

/-- The message of an ATTEST (R561). -/
def State.attestMsg (s : State) (chal : List Nat) : List Nat :=
  chal ++ bigEnd 2 (s.fld (dirBase + Reg.Dir.SELF_UNIT) 0 14) ++ bigEnd 4 (s.rdN (pwrBase + Reg.Pwr.BOOT_CNT)) ++
    (List.range 12).flatMap (fun i => octets (s.rd (vaultReg Reg.Vault.IMG_DIGEST + 4 * i)))

/-- SH_KEY0 to SH_KEY7 are cleared by every command that ends (R547). -/
def State.clearShKey (s : State) : State := s.each (List.range 8) (fun s i => s.wrN (keysReg Reg.Keys.SH_KEY + 4 * i) 0)

/-- KS_CMD is written: the shadow is captured and the checks are made; the command is PENDING until KS_CMD_END. A command
written while one is PENDING ends at once with BUSY. -/
def ksCommand (acc : Access) (op slot parent record : Nat) (s : State) : State :=
  let k := keysReg Reg.Keys.KS_STAT
  if s.ks.isSome then ((s.setFld k 0 4 ksBusy).clearShKey).raise ciphBase 28
  else
    let kdfw := s.rd (keysReg Reg.Keys.SH_KDF)
    let c0 : KsCmd := {
      op := op, slot := slot, parent := parent, record := record, acc := acc,
      attr0 := s.rd (keysReg Reg.Keys.SH_ATTR0), attr1 := s.rd (keysReg Reg.Keys.SH_ATTR1),
      key := s.keyShadow Reg.Keys.SH_KEY 8, label := (s.keyShadow Reg.Keys.SH_LABEL 4).take (max 1 (min 16 (bitsOf kdfw 0 5))),
      ctx := (s.keyShadow Reg.Keys.SH_CTX 8).take (min 32 (bitsOf kdfw 8 6)), chal := s.keyShadow Reg.Keys.SH_CTX 8,
      gen := (s.slot (if op = 3 then parent else slot)).gen, boot := s.rd (pwrBase + Reg.Pwr.BOOT_CNT) }
    let c1 := { c0 with fail := s.ksCheck c0, msg := s.attestMsg c0.chal }
    let t := s.slot slot
    let before := s.freshBool
    let sc := if op = 6 ∧ c1.fail.isNone ∧ t.life = 1 then before.2 else s
    let n1 := if t.life = 1 then (if before.1 then t.count else t.count - 1) else 0
    let c := { c1 with
      st0 := word ((({ t with valid := false, half := 0, gen := 0 } : Slot).attr0).toNat), st1 := word n1 }
    let s := match c.used with | some n => sc.useSlot n | none => sc
    { (s.setBit k 8 true).setFld k 16 8 slot with ks := some c }

/-- The word of KS_CMD. -/
def ksWord (op slot parent record : Nat) : Word := word (slot + parent * 2 ^ 8 + op * 2 ^ 16 + record * 2 ^ 20)

/-- A write of KS_CMD. -/
def ksWrite (acc : Access) (op slot parent record : Nat) (s : State) : State :=
  s.write acc 4 (keysReg Reg.Keys.KS_CMD) (ksWord op slot parent record) (fun acc => ksCommand acc op slot parent record)

def execKsWrite (acc : Access) (slot parent : Fin 256) (record : Fin 1024) (s : State) : Host.Outcome State Fault Refusal :=
  .next (ksWrite acc 1 slot.val parent.val record.val s)
def execKsErase (acc : Access) (slot parent : Fin 256) (record : Fin 1024) (s : State) : Host.Outcome State Fault Refusal :=
  .next (ksWrite acc 2 slot.val parent.val record.val s)
def execKsDerive (acc : Access) (slot parent : Fin 256) (record : Fin 1024) (s : State) : Host.Outcome State Fault Refusal :=
  .next (ksWrite acc 3 slot.val parent.val record.val s)
def execKsRead (acc : Access) (slot parent : Fin 256) (record : Fin 1024) (s : State) : Host.Outcome State Fault Refusal :=
  .next (ksWrite acc 4 slot.val parent.val record.val s)
def execKsAttest (acc : Access) (slot parent : Fin 256) (record : Fin 1024) (s : State) : Host.Outcome State Fault Refusal :=
  .next (ksWrite acc 5 slot.val parent.val record.val s)
def execKsStoreP (acc : Access) (slot parent : Fin 256) (record : Fin 1024) (s : State) : Host.Outcome State Fault Refusal :=
  .next (ksWrite acc 6 slot.val parent.val record.val s)
def execKsLoadP (acc : Access) (slot parent : Fin 256) (record : Fin 1024) (s : State) : Host.Outcome State Fault Refusal :=
  .next (ksWrite acc 7 slot.val parent.val record.val s)
def execKsEraseP (acc : Access) (slot parent : Fin 256) (record : Fin 1024) (s : State) : Host.Outcome State Fault Refusal :=
  .next (ksWrite acc 8 slot.val parent.val record.val s)
def execKsReadP (acc : Access) (slot parent : Fin 256) (record : Fin 1024) (s : State) : Host.Outcome State Fault Refusal :=
  .next (ksWrite acc 9 slot.val parent.val record.val s)
def execKsDeriveRoot (acc : Access) (slot parent : Fin 256) (record : Fin 1024) (s : State) :
    Host.Outcome State Fault Refusal :=
  .next (ksWrite acc 10 slot.val parent.val record.val s)

/-- KS_CMD_RESERVED: OP 0, or 0xB to 0xF. -/
def execKsCmdReserved (acc : Access) (op : Fin 6) (slot parent : Fin 256) (record : Fin 1024) (s : State) :
    Host.Outcome State Fault Refusal :=
  .next (ksWrite acc (if op.val = 0 then 0 else 10 + op.val) slot.val parent.val record.val s)

/-! ## The end of a command (R547, R548) -/

/-- The half of a filled slot: the half that issued the command; free where Shepherd did (R543). -/
def State.fillHalf (s : State) (acc : Access) : Nat × State :=
  match acc.master with
  | .half h => (h.idx, s)
  | .shep => s.freshIn 0 1

/-- The checks at the end of a command (R548). -/
def State.ksEndCheck (s : State) (c : KsCmd) : Option Nat :=
  let lost (n : Nat) : Bool := !(s.slot n).valid || (s.slot n).gen != c.gen
  if (c.op = 3 ∧ lost c.parent) ∨ ((c.op = 5 ∨ c.op = 6) ∧ lost c.slot) then some ksEmpty
  else if ksFills c.op && (s.slot c.slot).valid && s.slotRef c.slot then some ksSlotBusy
  else if (c.op = 6 ∨ c.op = 7 ∨ c.op = 10) ∧ !s.drsValid then some ksNoRoot
  else if (c.op = 7 ∨ c.op = 9) ∧ (s.recWin c.record).isNone then some ksNoRecord
  else if c.op = 7 ∧ s.unwrapRec c.record = some none then some ksAuthFail
  else if c.op = 6 ∧ (s.storeWords c).any (fun e => decide (10000000 ≤ Tbl.get 0 s.pkWear e.1)) then some ksWorn
  else none

/-- The effect of a command that passed its checks (R547). -/
def State.ksEffect (s : State) (c : KsCmd) : State :=
  let bits := algBits (bitsOf c.attr0 16 4)
  let fill (s : State) (k : Slot) : State :=
    let h := s.fillHalf c.acc
    h.2.fillSlot c.slot { k with half := h.1 }
  match c.op with
  | 1 => fill s (slotOf c.attr0 c.attr1 (octs c.key (bits / 8)))
  | 2 => s.onlyIf (s.slot c.slot).valid (·.eraseSlot c.slot)
  | 3 =>
    let p := s.slot c.parent
    fill s { slotOf c.attr0 c.attr1 (kdf p.key c.label c.ctx bits) with parent := some c.parent, depth := p.depth + 1 }
  | 4 =>
    let k := s.slot c.slot
    ((s.wr (keysReg Reg.Keys.RD_ATTR0) k.attr0).wrN (keysReg Reg.Keys.RD_ATTR1) k.count).wr (keysReg Reg.Keys.RD_LINK) k.link
  | 5 =>
    let mac := wordsOf (octs (Config.hmac 256 (s.slot c.slot).key c.msg) 32) 8
    let s := s.each mac.zipIdx (fun s e => s.wrN (keysReg Reg.Keys.ATT_MAC + 4 * e.2) e.1)
    s.wr (keysReg Reg.Keys.ATT_BOOT) c.boot
  | 6 => s.each (s.storeWords c) (fun s e => s.putRec e.1 e.2)
  | 7 =>
    match s.unwrapRec c.record with
    | some (some k) => fill s k
    | _ => s
  | 8 => s.eraseRec c.record
  | 9 =>
    match s.recWin c.record with
    | some b =>
      let w (i : Nat) : Nat := s.recWord c.record b i
      ((s.wrN (keysReg Reg.Keys.RD_ATTR0) (w 1)).wrN (keysReg Reg.Keys.RD_ATTR1) (w 2)).wrN (keysReg Reg.Keys.RD_LINK) (w 0)
    | none => s
  | _ =>
    let ctx := [b2n (bitOf c.attr0 27), bitsOf c.attr0 20 7] ++ c.ctx
    fill s { slotOf c.attr0 c.attr1 (kdf s.drs c.label ctx bits) with fromDrs := true }

/-- KS_CMD_END: the PENDING command ends: the checks due now, its effect, RESULT, SH_KEY cleared, KS_DONE, and what it
referenced released. -/
def ksEnd (s : State) : State :=
  match s.ks with
  | none => s
  | some c =>
    let k := keysReg Reg.Keys.KS_STAT
    let bad := match c.fail with | some r => some r | none => s.ksEndCheck c
    let s := match bad with
      | some r => s.onlyIf (r == ksSlotBusy) (·.count (keysReg Reg.Keys.SLOT_BUSY_CNT))
      | none => s.ksEffect c
    let s := { s with ks := none }
    let s := ((s.setFld k 0 4 (bad.getD ksDone)).setBit k 8 false).setFld k 16 8 c.slot
    let s := s.clearShKey.raise ciphBase 28
    match c.used with | some n => s.settleSlot n | none => s

def execKsCmdEnd (s : State) : Host.Outcome State Fault Refusal := .next (ksEnd s)

/-! ## Reads (R563) -/

/-- A word of SLOT_VALID or SLOT_INUSE: bit i for slot 32w + i. -/
def slotWord (w : Nat) (p : Nat → Bool) : Word :=
  word ((List.range 32).foldl (fun x i => x + (if p (32 * w + i) then 2 ^ i else 0)) 0)

/-- The registers of KEYS that show the slots. -/
def State.keysLive (s : State) (off : Nat) : Option Word :=
  if Reg.Keys.SLOT_VALID ≤ off ∧ off < Reg.Keys.SLOT_VALID + 32 then
    some (slotWord ((off - Reg.Keys.SLOT_VALID) / 4) (fun n => (s.slot n).valid))
  else if Reg.Keys.SLOT_INUSE ≤ off ∧ off < Reg.Keys.SLOT_INUSE + 32 then
    some (slotWord ((off - Reg.Keys.SLOT_INUSE) / 4) s.slotRef)
  else none

end Sys2Proof.Machine
end

