-- ==== Sys2Proof/Machine/Cipher.lean ====
section
/-! DEFINITION. The cipher engine: submission, the lanes, acceptance, release of plaintext, completion, MACsec associations,
the TRNG and its alarms (R566 to R593). -/

namespace Sys2Proof.Machine

def trngReg (off : Nat) : Nat := trngBase + off
def laneReg (k off : Nat) : Nat := laneBase k + off

/-! ## Submission (R568) -/

/-- Descriptors of a VI submitted and not ended (R568, R593). -/
def State.csOut (s : State) (n : Nat) : Nat :=
  (s.csubs.filter (fun (x : CSub) => x.vi == n)).length +
    (s.lanes.filter (fun (e : Nat × Option CipherOp) => match e.2 with | some o => o.sub.vi == n | none => false)).length

/-- A descriptor is submitted, or the submission dropped (R568). -/
def csubmit (acc : Access) (n : Nat) (v : Word) (s : State) : State :=
  let drop := (s.count (ciphReg Reg.Ciph.SUBMIT_DROP)).raise ciphBase 17
  match acc.master with
  | .shep => drop
  | .half h =>
    if s.role h ≠ roleActive ∨ 32 ≤ s.csOut n then drop
    else { s with csubs := s.csubs ++ [⟨n, h, acc.secure, v.toNat * 64⟩] }

/-- CSUBMIT: VI n's submission; VI0 has none on its page. -/
def execCsubmit (acc : Access) (n : Fin 127) (v : Word) (s : State) : Host.Outcome State Fault Refusal :=
  .next (s.write acc 4 (viReg (n.val + 1) Reg.Vi.CSUBMIT) v (fun acc s => s.onlyIf (s.domainOn 10) (csubmit acc (n.val + 1) v)))

/-- CIPH_SUBMIT: VI0's submission. -/
def execCiphSubmit (acc : Access) (v : Word) (s : State) : Host.Outcome State Fault Refusal :=
  .next (s.write acc 4 (ciphReg Reg.Ciph.SUBMIT) v (fun acc => csubmit acc 0 v))

/-! ## Descriptors (R570 to R573) -/

def descFirst (ws : List Word) : Bool := bitOf (descWord ws 0) 6
def descLast (ws : List Word) : Bool := bitOf (descWord ws 0) 7
def descStream (ws : List Word) : Bool := bitOf (descWord ws 0) 5
def descDir (ws : List Word) : Nat := bitsOf (descWord ws 0) 4 1
def descLen (ws : List Word) : Nat := (descWord ws 6).toNat
def descAad (ws : List Word) : Nat := bitsOf (descWord ws 7) 0 17
def descTagLen (ws : List Word) : Nat := bitsOf (descWord ws 1) 16 6
def descIvLen (ws : List Word) : Nat := bitsOf (descWord ws 1) 22 5

/-- A 64-bit address in two words of a descriptor. -/
def descAddr (ws : List Word) (i : Nat) : Nat := (descWord ws i).toNat + (descWord ws (i + 1)).toNat * 2 ^ 32

/-- MODE codes of R571. -/
def mCbc : Nat := 1
def mCtr : Nat := 2
def mGcm : Nat := 3
def mCcm : Nat := 4
def mCmac : Nat := 5
def mChacha : Nat := 6
def mSha256 : Nat := 7
def mSha384 : Nat := 8
def mHmac : Nat := 9

/-- Modes that write output to DST: all but the MACs and the digests. -/
def modeOut (m : Nat) : Bool := m == mCbc || m == mCtr || m == mGcm || m == mCcm || m == mChacha

/-- Authenticated encryption modes (R577). -/
def modeAead (m : Nat) : Bool := m == mGcm || m == mCcm || m == mChacha

/-- Modes that read an IV. -/
def modeIv (m : Nat) : Bool := modeOut m

/-- Block of a mode in octets (R572); HMAC's and the digests' by the hash. -/
def modeBlock (m alg : Nat) : Nat :=
  if m = mChacha ∨ m = mSha256 then 64
  else if m = mSha384 then 128
  else if m = mHmac then (if alg = 5 then 128 else 64)
  else 16

/-- Octets of the tag or digest an operation writes or reads. -/
def tagOctets (ws : List Word) : Nat :=
  if descMode ws = mSha256 then 32 else if descMode ws = mSha384 then 48 else descTagLen ws

/-- IV_LEN and TAG_LEN of R571. -/
def lensOk (ws : List Word) (alg : Nat) : Bool :=
  let m := descMode ws
  let i := descIvLen ws
  let t := descTagLen ws
  if m = mCbc ∨ m = mCtr then i == 16
  else if m = mGcm then i == 12 && decide (12 ≤ t ∧ t ≤ 16)
  else if m = mCcm then decide (7 ≤ i ∧ i ≤ 13 ∧ 4 ≤ t ∧ t ≤ 16) && t % 2 == 0
  else if m = mCmac then decide (4 ≤ t ∧ t ≤ 16)
  else if m = mChacha then i == 12 && t == 16
  else if m = mHmac then decide (16 ≤ t ∧ t ≤ (if alg = 4 then 32 else 48))
  else true

/-- BAD_DESC: MODE, a reserved bit, IV_LEN, TAG_LEN or a rule of R572. -/
def badDesc (ws : List Word) (alg : Nat) : Bool :=
  let m := descMode ws
  let first := descFirst ws
  let last := descLast ws
  m == 0 || decide (9 < m) || bitsOf (descWord ws 0) 9 7 != 0 || bitsOf (descWord ws 1) 27 5 != 0 ||
    bitsOf (descWord ws 7) 24 8 != 0 || bitOf (descWord ws 7) 17 || !lensOk ws alg ||
    ((m == mSha256 || m == mSha384) && descDir ws == 1) ||
    (m == mCcm && !(first && last)) || (!first && descAad ws != 0) ||
    (!last && descLen ws % modeBlock m alg != 0) ||
    (!(first && last) && descDir ws == 1 && (m == mGcm || m == mChacha) && !descStream ws)

/-- Whether an operation is outside the limits of R573; `before` is what its session has had of message. -/
def badLength (ws : List Word) (before : Nat) : Bool :=
  let m := descMode ws
  let l := descLen ws
  let mi := 1048576
  let one := if m = mGcm ∨ m = mChacha then mi else if m = mCcm then 65536 else 16 * mi
  let all := if m = mCmac then 16 * mi else if m = mGcm ∨ m = mChacha then 2 ^ 36 - 32 else 2 ^ 36
  decide (one < l ∨ all < before + l) || (if modeAead m then decide (65536 < descAad ws) else descAad ws != 0) ||
    (m == mCbc && (l == 0 || l % 16 != 0))

/-- The slot ALGs a mode takes (R571). -/
def algServes (m alg : Nat) : Bool :=
  if m = mChacha then alg == 3
  else if m = mHmac then alg == 4 || alg == 5
  else alg == 1 || alg == 2

/-- The USAGE bit a mode and direction need (R545, R571). -/
def usageBit (m dir : Nat) : Nat := if m = mCmac ∨ m = mHmac then 2 + dir else dir

/-- Session context c. -/
def State.ctx (s : State) (c : Nat) : Ctx := Tbl.get {} s.ctxs c

/-- The checks of R574 in their order; none where all pass. -/
def State.laneCheck (s : State) (x : CSub) (ws : List Word) : Option Nat :=
  let k := s.slot (descSlot ws)
  let keyed := modeKeyed (descMode ws)
  let c := s.ctx (descCtx ws)
  if badDesc ws (if keyed then k.alg else 0) then some stBadDesc
  else if s.ctxOwner (descCtx ws) ≠ x.vi then some stDenied
  else if keyed && slotDenied k x.secure x.vi then some stDenied
  else if keyed && k.spent then some stEmptySlot
  else if keyed && (!algServes (descMode ws) k.alg || !k.usage.testBit (usageBit (descMode ws) (descDir ws))) then
    some stUsage
  else if descFirst ws == c.opened ||
      (!descFirst ws && ((keyed && c.slot != descSlot ws) || c.mode != descMode ws || c.dir != descDir ws)) then
    some stCtxState
  else if keyed && !descFirst ws && c.gen != k.gen then some stKeyRevoked
  else if badLength ws (if descFirst ws then 0 else c.inp.length) then some stLength
  else none

/-! ## The end of an operation (R578 to R581) -/

/-- The halves every DMA write goes to: ROLE ACTIVE, HEEL or RESYNC (R580). -/
def State.dmaHalves (s : State) : List Half :=
  [Half.a, Half.b].filter (fun h => s.role h == roleActive || s.role h == roleHeel || s.role h == roleResync)

/-- Whether writes on behalf of a VI are suppressed: it is in RESETTING (R478). -/
def State.suppressed (s : State) (vi : Nat) : Bool := vi != 0 && s.viState vi == viResetting

/-- A DMA write of an operation (R478, R580). -/
def State.dmaWrite (s : State) (vi addr : Nat) (l : List Nat) : State :=
  if l.isEmpty || s.suppressed vi then s else s.each s.dmaHalves (fun s h => s.emit (.memWrite h addr l))

/-- Word 14 of a descriptor as written back (R570). -/
def word14 (status released : Nat) (poison : Bool) : Word :=
  word (status + 256 + b2n poison * 512 + released / 2 ^ 32 % 16 * 2 ^ 16)

/-- The completion record goes to local receive queue CPL_Q of the VI in a half's bank, or is dropped (R579). -/
def State.cplTo (s : State) (h : Half) (n q : Nat) (l : List Nat) : State :=
  let drop (s : State) : State := (s.count (ciphReg Reg.Ciph.CPL_DROP)).raise ciphBase 22
  let r := s.hq h n q
  if s.qCount n ≤ q || !bitOf r.cfg 0 || !bitOf r.cfg 1 then drop s
  else
    let wr := r.wr % r.len
    let free := r.len - 1 - (wr + r.len - r.rd % r.len) % r.len
    if free = 0 then
      drop ((s.setHq h n q { r with drop := min 0xFFFFFFFF (r.drop + 1) }).evHalf h.idx 0x4C 0)
    else
      let s := s.ringWrite h (r.hi.toNat * 2 ^ 32 + r.lo.toNat) r.len wr l
      (s.setHq h n q { r with wr := (wr + 1) % r.len }).qPend h n q

/-- An operation of lane k has ended with a STATUS: write-back, completion record, counts (R575 to R580); after a bus error
nothing but the write-back is written (R581). -/
def State.opEnd (s : State) (k : Nat) (o : CipherOp) (status : Nat) (wbOk : Bool) : State :=
  let ws := o.words
  let n := o.sub.vi
  let released := if descLast ws then o.sess + o.released else o.released
  let released := if status = stTagFail && !descStream ws then 0 else released
  let poison := status == stTagFail && descStream ws
  let w14 := word14 status released poison
  let w15 := word released
  let fetched := status ≠ stDescFetch
  let back := fetched && wbOk
  let s := s.onlyIf back (·.dmaWrite n (o.sub.addr + 56) (octets w14 ++ octets w15))
  let s := s.onlyIf (back && status != stBusError && bitOf (descWord ws 0) 8 && n != 0 && !s.suppressed n) (fun s =>
    let t := s.tb0
    let rec8 := [word (bitsOf (descWord ws 1) 0 16 + n * 2 ^ 16 + k * 2 ^ 28), w14, w15, word (descCtx ws), word o.sub.addr,
      word (o.sub.addr / 2 ^ 32), t.tsLo, t.tsHi]
    s.each s.dmaHalves (fun s h => s.cplTo h n (bitsOf (descWord ws 7) 18 6) (rec8.flatMap octets)))
  let s := s.onlyIf (fetched && s.suppressed n) (·.count (viReg n Reg.Vi.SUPPRESSED_CNT))
  let s := s.onlyIf (status == stTagFail) (fun s => (s.count (ciphReg Reg.Ciph.TAG_FAIL_CNT)).raise ciphBase 18)
  let s := s.onlyIf (status == stLength) (fun s => (s.count (ciphReg Reg.Ciph.LENGTH_CNT)).raise ciphBase 19)
  let s := s.onlyIf (fetched && s.ctxOwner (descCtx ws) == n &&
      (descLast ws || status == stKeyRevoked || status == stBusError || status == stAlarm))
    (fun s => { s with ctxs := s.ctxs.del (descCtx ws) })
  ((s.count (ciphReg Reg.Ciph.OPS_CNT)).count (laneReg k Reg.Lane.LANE_OPS)).ev 0xF5 k

/-! ## Acceptance (R569, R574, R587) -/

/-- The head descriptor of a VI: the first submitted and not accepted (R569). -/
def State.csHead (s : State) (n : Nat) : Option CSub := s.csubs.find? (fun (x : CSub) => x.vi == n)

/-- What the engine has fetched of the head descriptor of a VI: an inner none where the fetch failed. -/
def fetchedHead (heads : List (Fin 128 × Option (List Word))) (n : Nat) : Option (Option (List Word)) :=
  (heads.find? (fun e => e.1.val == n)).map (·.2)

/-- Whether a VI's head descriptor is eligible for a lane (R569). -/
def State.laneElig (s : State) (heads : List (Fin 128 × Option (List Word))) (n : Nat) : Bool :=
  (s.csHead n).isSome && (n == 0 || s.viState n == viRun) &&
    (match fetchedHead heads n with
     | some (some ws) => !s.ctxRef (descCtx ws)
     | some none => true
     | none => false)

/-- The VI a lane serves next (R471). VI0 has no share: whether it goes before the others is free. -/
def State.lanePick (s : State) (k : Nat) (elig : Nat → Bool) : State × Option Nat :=
  if elig 0 then
    let r := s.freshBool
    if r.1 || !((List.range 127).map (· + 1)).any elig then (r.2, some 0) else r.2.dwrrPick (2 + k) elig
  else s.dwrrPick (2 + k) elig

/-- Which of IV, AAD and tag an operation reads (R571, R572, R577). -/
def readsIv (ws : List Word) : Bool := descFirst ws && modeIv (descMode ws)
def readsAad (ws : List Word) : Bool := descFirst ws && descAad ws != 0
def readsTag (ws : List Word) : Bool :=
  descLast ws && descDir ws == 1 && (modeAead (descMode ws) || descMode ws == mCmac || descMode ws == mHmac)

/-- LANE_ACCEPT: an idle lane takes the next eligible descriptor. `heads` is what the engine has fetched of the waiting
heads, `iv`, `aad` and `tag` what memory holds at the descriptor's addresses (none: a bus error). -/
def laneAccept (k : Nat) (heads : List (Fin 128 × Option (List Word))) (iv aad tag : Option (List Nat)) (wbOk : Bool)
    (s : State) : State :=
  if !s.domainOn 10 || s.gated 0 || !s.trngReady || s.bit (ciphReg Reg.Ciph.ALARM_STAT) 0 || (s.lane k).isSome then s
  else
    match s.lanePick k (s.laneElig heads) with
    | (s, none) => s
    | (s, some n) =>
      match s.csHead n, fetchedHead heads n with
      | some x, some d =>
        let s := { s with csubs := s.csubs.erase x }
        match d with
        | none => s.opEnd k { sub := x, words := [] } stDescFetch wbOk
        | some ws0 =>
          let ws := (List.range 14).map (fun i => ws0.getD i 0)
          let len := descLen ws + descAad ws
          let s := s.onlyIf (n != 0) (fun s => s.dwrrCharge (2 + k) n len (s.laneElig (heads.filter (fun e => e.1.val != n)) n))
          match s.laneCheck x ws with
          | some st =>
            let own := !descFirst ws && s.ctxOwner (descCtx ws) == x.vi
            let o : CipherOp := { sub := x, words := ws, sess := if own then (s.ctx (descCtx ws)).sess else 0 }
            (s.opEnd k o st wbOk).count (ciphReg Reg.Ciph.REFUSED_CNT)
          | none =>
            let ci := descCtx ws
            let c0 := if descFirst ws then ({} : Ctx) else s.ctx ci
            let bus := (readsIv ws && iv.isNone) || (readsAad ws && aad.isNone) || (readsTag ws && tag.isNone)
            let c : Ctx := if descFirst ws then {
                opened := true, slot := descSlot ws, gen := (s.slot (descSlot ws)).gen, mode := descMode ws,
                dir := descDir ws, iv := if readsIv ws then octs (iv.getD []) (descIvLen ws) else [],
                aad := if readsAad ws then octs (aad.getD []) (descAad ws) else [] } else c0
            let o : CipherOp := {
              sub := x, words := ws, gen := (s.slot (descSlot ws)).gen, iv := c.iv, aad := c.aad,
              tag := if readsTag ws then octs (tag.getD []) (tagOctets ws) else [], inp := c0.inp, base := c0.inp.length,
              sess := c0.sess, fail := if bus then some stBusError else none }
            let s := s.onlyIf (modeKeyed (descMode ws)) (·.useSlot (descSlot ws))
            let s := s.onlyIf (descFirst ws && !descLast ws) (fun s => { s with ctxs := Tbl.set {} s.ctxs ci c })
            s.setLane k (some o)
      | _, _ => s

def execLaneAccept (lane : Fin 4) (heads : List (Fin 128 × Option (List Word))) (iv aad tag : Option (List Nat))
    (wbOk : Bool) (s : State) : Host.Outcome State Fault Refusal :=
  .next (laneAccept lane.val heads iv aad tag wbOk s)

/-! ## Blocks (R550, R567, R577) -/

/-- The output of a session over its message so far (log entry 4). -/
def State.opOut (s : State) (o : CipherOp) (l : List Nat) : List Nat :=
  let k := s.slot (descSlot o.words)
  (Config.cipher (16 * descMode o.words + k.alg) (descDir o.words) k.key o.iv o.aad l).1

/-- The tag or digest of a session over its message (log entry 4). -/
def State.opTag (s : State) (o : CipherOp) : List Nat :=
  let k := s.slot (descSlot o.words)
  let m := descMode o.words
  let t := if m = mCmac then Config.aesCmac k.key o.inp
    else if m = mHmac then Config.hmac (if k.alg = 5 then 384 else 256) k.key o.inp
    else if m = mSha256 then Config.sha 256 o.inp
    else if m = mSha384 then Config.sha 384 o.inp
    else (Config.cipher (16 * m + k.alg) (descDir o.words) k.key o.iv o.aad o.inp).2
  octs t (tagOctets o.words)

/-- Whether an operation's slot still holds the key it was accepted with (R550). -/
def State.opKeyed (s : State) (o : CipherOp) : Bool :=
  !modeKeyed (descMode o.words) || ((s.slot (descSlot o.words)).valid && (s.slot (descSlot o.words)).gen == o.gen)

/-- Octets `i` to `i + n − 1` of a list. -/
def slice (l : List Nat) (i n : Nat) : List Nat := octs (l.drop i) n

/-- Output is kept back until a tag is known (R577): VERIFIED decryption. -/
def opVerified (ws : List Word) : Bool := modeAead (descMode ws) && descDir ws == 1 && !descStream ws

/-- Output is written in chunks of 4 KiB (R577): STREAM decryption. -/
def opStream (ws : List Word) : Bool := modeAead (descMode ws) && descDir ws == 1 && descStream ws

/-- Octets of output put at DST; a bus error ends the operation (R581). -/
def State.opWrite (s : State) (o : CipherOp) (l : List Nat) (wrOk : Bool) : State × CipherOp :=
  if !wrOk then (s, { o with fail := some stBusError })
  else (s.dmaWrite o.sub.vi (descAddr o.words 4 + o.released) l, { o with released := o.released + l.length })

/-- Octets read by a lane are counted in whole KiB (R590). -/
def State.laneRead (s : State) (k n : Nat) : State :=
  let t := Tbl.get 0 s.laneOct k + n
  { s.countBy (laneReg k Reg.Lane.LANE_KIB) (t / 1024) with laneOct := Tbl.set 0 s.laneOct k (t % 1024) }

/-- One block of message, or of the second pass, goes through (R550, R577). -/
def State.opBlock (s : State) (o : CipherOp) (l : List Nat) (wrOk : Bool) : State × CipherOp :=
  let ws := o.words
  let m := descMode ws
  let len := descLen ws
  if o.pass2 then
    let l := l.take (len - o.held.length)
    let all := o.held ++ l
    s.opWrite { o with held := all } (slice (s.opOut o all) o.held.length l.length) wrOk
  else
    let l := l.take (len - (o.inp.length - o.base))
    let at0 := o.inp.length
    let o := { o with inp := o.inp ++ l }
    if !modeOut m then (s, o)
    else if opVerified ws && m != mCcm then
      if o.inp.length - o.base = len then
        (s, if s.opTag o = o.tag then { o with pass2 := true } else { o with fail := some stTagFail })
      else (s, o)
    else
      let out := slice (s.opOut o o.inp) at0 l.length
      if opVerified ws then (s, { o with held := o.held ++ out })
      else if opStream ws then
        let held := o.held ++ out
        if 4096 ≤ held.length then s.opWrite { o with held := held.drop 4096 } (held.take 4096) wrOk
        else (s, { o with held := held })
      else s.opWrite o out wrOk

/-- LANE_BLOCK: the next block of lane k: `inp` what memory holds there (none: a bus error). -/
def laneBlock (k : Nat) (inp : Option (List Nat)) (wrOk : Bool) (s : State) : State :=
  match s.lane k with
  | none => s
  | some o =>
    if !s.domainOn 10 || s.gated 0 || o.fail.isSome then s
    else if !s.opKeyed o then s.setLane k (some { o with fail := some stKeyRevoked })
    else
      match inp with
      | none => s.setLane k (some { o with fail := some stBusError })
      | some l =>
        let b := modeBlock (descMode o.words) (s.slot (descSlot o.words)).alg
        let l := (l.map (· % 256)).take b
        let r := (s.laneRead k l.length).opBlock o l wrOk
        r.1.setLane k (some r.2)

def execLaneBlock (lane : Fin 4) (inp : Option (List Nat)) (wrOk : Bool) (s : State) : Host.Outcome State Fault Refusal :=
  .next (laneBlock lane.val inp wrOk s)

/-- Whether a lane has read all of its operation. -/
def CipherOp.done (o : CipherOp) : Bool :=
  let len := descLen o.words
  o.fail.isSome || (o.inp.length - o.base == len && (!o.pass2 || o.held.length == len))

/-- The tag check, the last output and the tag of an operation that has read all of its message (R577, R578). -/
def State.opFinish (s : State) (o : CipherOp) (wrOk : Bool) : State × CipherOp :=
  let ws := o.words
  if o.fail.isSome then (s, o)
  else if !s.opKeyed o then (s, { o with fail := some stKeyRevoked })
  else
    let bad := readsTag ws && s.opTag o != o.tag
    let r := if (opStream ws || (opVerified ws && descMode ws == mCcm && !bad)) && !o.held.isEmpty
      then s.opWrite { o with held := [] } o.held wrOk else (s, o)
    if r.2.fail.isSome then r
    else if bad then (r.1, { r.2 with fail := some stTagFail })
    else if descLast ws && descDir ws == 0 && (!modeOut (descMode ws) || modeAead (descMode ws)) then
      if wrOk then (r.1.dmaWrite o.sub.vi (descAddr ws 12) (s.opTag o), r.2) else (r.1, { r.2 with fail := some stBusError })
    else r

/-- The rest of the output area is zero-filled where the slot was erased or an alarm ended the operation (R550, R581,
R586); of a VERIFIED decryption the whole of DST. -/
def State.opZero (s : State) (o : CipherOp) : State :=
  let ws := o.words
  if modeOut (descMode ws) && (o.fail == some stKeyRevoked || o.fail == some stAlarm) then
    let i := if opVerified ws then 0 else o.released
    s.dmaWrite o.sub.vi (descAddr ws 4 + i) (List.replicate (descLen ws - i) 0)
  else s

/-- LANE_OP_END: the operation of lane k ends; its references are released, and a COUNTED slot left at 0 is erased. -/
def laneOpEnd (k : Nat) (wrOk wbOk : Bool) (s : State) : State :=
  match s.lane k with
  | none => s
  | some o =>
    if !s.domainOn 10 || s.gated 0 || !o.done then s
    else
      let r := s.opFinish o wrOk
      let o := r.2
      let s := r.1.opZero o
      let status := o.fail.getD (if wbOk then stOk else stBusError)
      let ci := descCtx o.words
      let s := s.onlyIf (status == stOk && !descLast o.words) (fun s =>
        { s with ctxs := Tbl.set {} s.ctxs ci { s.ctx ci with inp := o.inp, sess := o.sess + o.released } })
      let s := s.laneRead k (if descFirst o.words then o.aad.length else 0)
      let s := (s.opEnd k o status wbOk).setLane k none
      s.onlyIf (modeKeyed (descMode o.words)) (·.settleSlot (descSlot o.words))

def execLaneOpEnd (lane : Fin 4) (wrOk wbOk : Bool) (s : State) : Host.Outcome State Fault Refusal :=
  .next (laneOpEnd lane.val wrOk wbOk s)

/-! ## MACsec associations (R583) -/

/-- The association SA_SEL selects on a port's core (R592): 0 to 3 transmit, 4 + 4 × SC + AN receive. -/
def State.saSel (s : State) (p : Nat) : Nat :=
  let v := s.rd (msReg p Reg.Msec.SA_SEL)
  if bitOf v 8 then 4 + bitsOf v 2 3 * 4 + bitsOf v 0 2 else bitsOf v 0 2

/-- SA_CTRL is written (R583): with EN the association is enabled on its slot or refused; without, it is disabled and its
slot's reference released. -/
def saCtrl (p : Nat) (v : Word) (s : State) : State :=
  let i := s.saSel p
  let x := s.sa p i
  let n := bitsOf v 0 8
  let k := s.slot n
  if !bitOf v 8 then (s.setSa p i { x with slot := n, en := false }).onlyIf x.en (·.settleSlot x.slot)
  else if k.spent then s.setSa p i { x with result := 2 }
  else if k.alg ≠ 2 ∨ !k.usage.testBit 7 then s.setSa p i { x with result := 3 }
  else
    let s := (s.useSlot n).setSa p i { x with slot := n, en := true, result := 1 }
    s.onlyIf (x.en && x.slot != n) (·.settleSlot x.slot)

/-- SA_ENABLE: a write of SA_CTRL. -/
def execSaEnable (acc : Access) (p : Fin 6) (v : Word) (s : State) : Host.Outcome State Fault Refusal :=
  .next (s.write acc 4 (msReg p.val Reg.Msec.SA_CTRL) v (fun _ => saCtrl p.val v))

/-! ## Alarms and the TRNG (R585, R586) -/

/-- CIPHER_ALARM: a repetition-count failure (0), an adaptive-proportion failure (1), or a fault detector (2). -/
def cipherAlarmed (cause : Nat) (s : State) : State :=
  if !s.domainOn 10 then s
  else if cause = 2 then s.cipherAlarm 5 2
  else
    let s := s.count (trngReg (if cause = 0 then Reg.Trng.RCT_FAIL else Reg.Trng.APT_FAIL))
    ((s.setBit (trngReg Reg.Trng.TRNG_STAT) 0 false).setBit (trngReg Reg.Trng.TRNG_STAT) 2 true).cipherAlarm 4 1

def execCipherAlarm (cause : Fin 3) (s : State) : Host.Outcome State Fault Refusal := .next (cipherAlarmed cause.val s)

/-- A secure write of ALARM_CLR.CLR: HOLD clears and the start-up test begins again (R585, R586). -/
def alarmClr (s : State) : State :=
  if s.bit (ciphReg Reg.Ciph.ALARM_STAT) 0 then
    let k := trngReg Reg.Trng.TRNG_STAT
    (((s.setBit (ciphReg Reg.Ciph.ALARM_STAT) 0 false).setBit k 0 false).setBit k 1 true).setBit k 2 false
  else s

def execAlarmClr (acc : Access) (v : Word) (s : State) : Host.Outcome State Fault Refusal :=
  .next (s.write acc 4 (ciphReg Reg.Ciph.ALARM_CLR) v (fun acc s =>
    s.secureOnly acc ciphBase (fun s => s.onlyIf (bitOf v 0) alarmClr)))

/-- TRNG_STARTUP_DONE: 1,024 start-up samples have passed (R585). -/
def trngStarted (s : State) : State :=
  let k := trngReg Reg.Trng.TRNG_STAT
  if !s.domainOn 10 || s.bit k 0 || s.bit k 2 then s else (s.setBit k 0 true).setBit k 1 false

def execTrngStartupDone (s : State) : Host.Outcome State Fault Refusal := .next (trngStarted s)

/-- RAND_DATA_READ: 32 conditioned bits, free; before READY, 0 and RAND_EMPTY (R585). -/
def execRandDataRead (acc : Access) (s : State) : Host.Outcome State Fault Refusal :=
  .next (s.read acc 4 (trngReg Reg.Trng.RAND_DATA) (fun acc s =>
    if !acc.secure then s.answer (.data 0)
    else if s.trngReady then (let r := s.fresh; r.2.answer (.data (word r.1)))
    else (s.setBit (trngReg Reg.Trng.TRNG_STAT) 3 true).answer (.data 0)))

/-! ## Reads (R589 to R592) -/

/-- LANE_STAT and LANE_DONE as they stand. -/
def State.laneLive (s : State) (k off : Nat) : Option Word :=
  if off = Reg.Lane.LANE_STAT then
    some (match s.lane k with
      | some o => word (1 + 2 * b2n o.pass2 + o.sub.vi * 2 ^ 8 + descCtx o.words * 2 ^ 16 + descSlot o.words * 2 ^ 24)
      | none => 0)
  else if off = Reg.Lane.LANE_DONE then
    some (match s.lane k with
      | some o => word ((if descFirst o.words then o.aad.length else 0) + (o.inp.length - o.base) +
          (if o.pass2 then o.held.length else 0))
      | none => 0)
  else none

/-- CTX_STATc as it stands (R591). -/
def State.ctxLive (s : State) (c : Nat) : Word :=
  let x := s.ctx c
  word (b2n x.opened + 2 * b2n (s.ctxRef c) + x.mode * 4 + x.dir * 64 + x.slot * 2 ^ 8 + x.gen * 2 ^ 16)

end Sys2Proof.Machine
end

