-- ==== Sys2Proof/Machine/Sense.lean ====
section
/-! DEFINITION. The sense unit: conversions and their calibration, background scans, inrush captures, the feed monitor,
and channel groups with their membership (R232 to R259). -/

namespace Sys2Proof.Machine

/-- Key of a register of SADCt. -/
def sadcReg (t off : Nat) : Nat := sadcBase t + off

/-- TB0 at an instant in ns. -/
def atNs (t : Nat) : Clock := Clock.ofT16 (t * 2 ^ 16)

/-! ## Holds -/

/-- The hold instant of a running capture's next sample, if any is left; none while CKG5 is gated (R317). -/
def State.capDue (s : State) (t : Nat) : Option Nat :=
  let a := s.adc t
  if s.capState t = 2 && decide (a.samples.length < 4096) && !s.gated 5 then some (a.t0 + 1000 * a.samples.length) else none

/-- The range a current conversion of channel n uses (R237, R238): 1 COARSE. `pre` is SENSE across the 20.0 kΩ resistor
50 ns before the hold, in 0.1 mV; AUTO compares it with 3.840 V ±40 mV. -/
def State.rangeOf (s : State) (n pre : Nat) : Nat × State :=
  match s.fld (chanBase n + Reg.Chan.MEAS_CFG) 0 2 with
  | 1 => (0, s)
  | 2 => (1, s)
  | _ => let r := s.reaches pre 38400 400; (b2n r.1, r.2)

/-- A conversion's sample is held (R233, R234): its range, the pointer, the channel it belongs to, which for codes 0x10 and
0x11 is the tile's pointer, or for a background scan the channel it converts; at a capture's first hold the channel's TJ
(R245). -/
def State.holdNow (s : State) (t : Nat) (h : Hold) (cap : Bool) (pre : Nat) : State :=
  let st := sadcReg t Reg.Sadc.SADC_STAT
  let cur := decide (h.sel < 16)
  let r := if cur then s.rangeOf (16 * t + h.sel) pre else (b2n (h.sel == 0x15), s)
  let s := r.2.onlyIf cur (fun s => (s.setFld st 0 4 h.sel).setTile t { s.tile t with ptr := h.sel })
  let chan := if cur then 16 * t + h.sel else h.chan.getD (16 * t + (s.tile t).ptr)
  let a := s.adc t
  s.setAdc t { a with
    conv := some ⟨h, r.1, chan, cap⟩, last := some h.t,
    tj0 := if cap && a.samples.isEmpty then s.rd (chanBase chan + Reg.Chan.TJ) else a.tj0 }

/-- CONVERSION_HOLD: the earliest hold of converter t whose instant has come, of a capture or assigned; none while a
conversion is not finished. A scan that has no hold assigned takes one if it may, and a background hold taken lets it go
on. -/
def conversionHold (t pre : Nat) (s : State) : State :=
  let now := s.tb0.nsTotal
  if !s.domainOn 11 || (s.adc t).conv.isSome then s
  else
    let s := s.onlyIf (s.bit (sadcReg t Reg.Sadc.SADC_STAT) 6) (·.bgNext t)
    let a := s.adc t
    match s.capDue t, a.holds with
    | some c, h :: rest =>
      if c ≤ h.t then
        (if c ≤ now then s.holdNow t { t := c, sel := s.fld (sadcReg t Reg.Sadc.CAP_STAT) 4 4, origin := 0 } true pre else s)
      else if h.t ≤ now then (s.setAdc t { a with holds := rest }).holdNow t h false pre else s
    | some c, [] =>
      if c ≤ now then s.holdNow t { t := c, sel := s.fld (sadcReg t Reg.Sadc.CAP_STAT) 4 4, origin := 0 } true pre else s
    | none, h :: rest =>
      if h.t ≤ now then
        let s := (s.setAdc t { a with holds := rest }).holdNow t h false pre
        s.onlyIf (s.bit (sadcReg t Reg.Sadc.SADC_STAT) 6) (·.bgNext t)
      else s
    | none, [] => s

def execConversionHold (t : Fin 8) (pre : Nat) (s : State) : Host.Outcome State Fault Refusal :=
  .next (conversionHold t.val pre s)

/-! ## Calibration -/

/-- Eight times K of R237, in 10 µA units per count. -/
def gain8 (cls range : Nat) : Nat :=
  match cls, range with
  | 0, 0 => 125
  | 1, 0 => 50
  | _, 0 => 10
  | 0, _ => 2500
  | 1, _ => 1000
  | _, _ => 200

/-- The calibrated current as a fraction over `calDen` (R239, R240): OFS, GAIN and TC of the channel, `tj` the junction
temperature in 1/128 °C. -/
def State.calNum (s : State) (n range code : Nat) (tj : Int) : Int :=
  let w := s.rd (chanBase n + (if range = 0 then Reg.Chan.CAL_FINE else Reg.Chan.CAL_COARSE))
  let ofs := signedOf 16 (bitsOf w 16 16)
  let gn := signedOf 16 (bitsOf w 0 16)
  let tc := signedOf 16 (s.fld (chanBase n + Reg.Chan.CAL_TC) 0 16)
  ((code : Int) - ofs) * (gain8 (chanClass n) range : Nat) * (2 ^ 18 + gn) * (1280000000 + tc * (tj - 3200))

/-- The denominator of `calNum`: 8 × 2^18 × 128 × 10^7. -/
def calDen : Nat := 8 * 2 ^ 18 * 1280000000

/-- I_SUM of a conversion: the computation exact to ±0.5 unit, then rounded, halves away from zero (R239). -/
def State.calibrate (s : State) (n range code : Nat) (tj : Int) : Int × State :=
  let num := s.calNum n range code tj
  s.freshInt (roundDiv (2 * num - calDen) (2 * calDen)) (roundDiv (2 * num + calDen) (2 * calDen))

/-- The junction temperature a calibration uses from a TJ word: 25 °C without VALID (R240). -/
def tjOf (w : Word) : Int := if bitOf w 31 then signedOf 16 (bitsOf w 0 16) else 3200

/-! ## Sums -/

/-- Channels below a composite, through `fuel` levels of groups. -/
def State.leaves : Nat → State → Nat → List Nat
  | 0, _, _ => []
  | fuel + 1, s, l => if 0x100 ≤ l then [l - 0x100] else (s.members l).flatMap (s.leaves fuel)

/-- I_SPAN of group g (R249). -/
def State.setSpan (s : State) (g : Nat) : State :=
  let ts := ((s.leaves 7 (0xC0 + g)).map (fun n => Tbl.get 0 s.convAt n)).filter (· != 0)
  let v := if ts.length < 2 then 0 else ts.foldl max 0 - ts.foldl min (ts.headD 0)
  s.wrN (cgBase g + Reg.Cg.I_SPAN) (min 0xFFFFFFFF v)

/-- I_SUM of a composite afresh; a group's I_SPAN, and SUM_OVER where the sum rises above ISUM_LIM × 1,000 (R48,
R249). -/
def State.resum (s : State) (l : Nat) : State :=
  let was := s.rdI (isumKey l)
  let s := s.sumUp l
  if 0xC0 ≤ l ∧ l < 0x100 then
    let g := l - 0xC0
    let lim : Int := (s.fld (cgBase g + Reg.Cg.ISUM_LIM) 0 16 * 1000 : Nat)
    (s.setSpan g).onlyIf (lim != 0 && decide (was ≤ lim ∧ lim < s.rdI (isumKey l))) (·.raise (cgBase g) 16)
  else s

/-! ## Results -/

/-- An item of the distributor at an instant. -/
def State.distAt (s : State) (source id hold flags : Nat) (w5 w6 w7 : Word) : State :=
  s.dist { source := source, flags := flags, tsLo := (atNs hold).tsLo, tsHi := (atNs hold).tsHi, id := id, w5 := w5, w6 := w6, w7 := w7 }

/-- FLAGS of a conversion's record (R265): SLIP and CLIP. -/
def convFlags (c : Conv) (code : Nat) : Nat := b2n (c.hold.slip != 0) + 2 * b2n (code == 0xFFFF)

/-- The result of a current conversion (R235, R238 to R240, R255, R256). -/
def State.currentResult (s : State) (t : Nat) (c : Conv) (code : Nat) : State :=
  let n := c.chan
  let b := chanBase n
  let tj := s.rd (b + Reg.Chan.TJ)
  let clip := code == 0xFFFF
  let r := s.calibrate n c.range code (tjOf tj)
  let s := r.2.wrN (b + Reg.Chan.I_SUM) (unsignedOf 32 r.1)
  let s := s.wrN (b + Reg.Chan.MEAS_RAW)
    (code + c.range * 2 ^ 16 + b2n clip * 2 ^ 17 + b2n (c.hold.slip != 0) * 2 ^ 18 + b2n (!bitOf tj 31) * 2 ^ 19 +
      c.hold.origin * 2 ^ 20)
  let s := s.stamp (b + Reg.Chan.MEAS_TS_LO) (b + Reg.Chan.MEAS_TS_HI) (atNs c.hold.t)
  let e := if c.hold.origin = 0 then (c.hold.ev, s) else s.freshIn 0 4095
  let s := e.2.wrN (b + Reg.Chan.MEAS_TAG) (e.1 + min 0xFFFF c.hold.slip * 2 ^ 16)
  let s := s.raise b 26
  let s := s.onlyIf clip (fun s => ((s.count (b + Reg.Chan.CLIP_CNT)).raise b 27).ev 0xCF t)
  let s := { s with convAt := Tbl.set 0 s.convAt n (c.hold.t + 1) }
  let s := s.setAdc t { s.adc t with
    pair := some (n, c.hold.t, !clip && decide ((2 * nominalMa n : Nat) ≤ r.1)) }
  let s := s.each (s.above n) State.resum
  s.onlyIf (c.hold.origin != 1) (fun s => s.distAt 1 n c.hold.t (convFlags c code) (s.rd (b + Reg.Chan.MEAS_RAW))
    (s.rd (b + Reg.Chan.I_SUM)) (s.rd (b + Reg.Chan.MEAS_TAG)))

/-- A voltage reading in mV from its count (R241); a quarter of a count is rounded in a way the spec leaves open. -/
def State.millivolts (s : State) (code : Nat) : Int × State := s.roundOpen (((code : Int) - 8192) * 5) 4

/-- The result of a VOUT conversion, with the wire pair it may close (R241, R242). A negative loop resistance is a
value the spec does not state. -/
def State.voutResult (s : State) (t : Nat) (c : Conv) (code : Nat) : State :=
  let n := c.chan
  let b := chanBase n
  let r := s.millivolts code
  let s := r.2.wrN (b + Reg.Chan.VOUT) (unsignedOf 32 r.1)
  let paired := match (s.adc t).pair with
    | some (m, h, ok) => m == n && h + 500 == c.hold.t && ok && code != 0xFFFF
    | none => false
  let s :=
    if paired then
      let q := roundDiv (1000000 * r.1) (s.rdI (b + Reg.Chan.I_SUM)).toNat
      let w := if 0 ≤ q then (min 0xFFFFFF q.toNat, s) else s.freshIn 0 0xFFFFFF
      (w.2.wrN (b + Reg.Chan.WIRE_R) (w.1 + 2 ^ 31)).raise b 28
    else s
  s.distAt 2 n c.hold.t (convFlags c code) (s.rd (b + Reg.Chan.VOUT)) (s.rd (b + Reg.Chan.WIRE_R)) 0

/-- A temperature count in 1/128 °C as the signed 16-bit field holds it (R241); beyond the field the spec states no
value. -/
def State.tempField (s : State) (code : Nat) : Nat × State :=
  let v : Int := (code : Int) - 16384
  if v < 32768 then (unsignedOf 16 v, s) else s.freshIn 0 0xFFFF

/-- The result of a junction temperature conversion. -/
def State.tjResult (s : State) (c : Conv) (code : Nat) : State :=
  let k := chanBase c.chan + Reg.Chan.TJ
  let r := s.tempField code
  (r.2.wrN k (r.1 + 2 ^ 31)).distAt 3 c.chan c.hold.t (convFlags c code) (word (r.1 + 2 ^ 31)) 0 0

/-- The result of a tile conversion, codes 0x12, 0x13 and 0x16. -/
def State.tileResult (s : State) (t : Nat) (c : Conv) (code off v : Nat) : State :=
  (s.wrN (tileBase t + off) v).distAt 4 (t * 256 + c.hold.sel) c.hold.t (convFlags c code) (word v) 0 0

/-- A conversion's result is available 450 ns after its hold (R234); TB0 may have stepped back meanwhile. -/
def State.convReady (s : State) (c : Conv) : Bool :=
  let now := s.tb0.nsTotal
  decide (c.hold.t + 450 ≤ now ∨ now < c.hold.t)

/-- CONVERSION_RESULT: the conversion in progress becomes available with a count; it goes to its capture or to the
destination of its SEL code (R232, R234, R244). -/
def conversionResult (t code : Nat) (s : State) : State :=
  match (s.adc t).conv.filter s.convReady with
  | none => s
  | some c =>
    let s := s.setAdc t { s.adc t with conv := none }
    let s := (s.count (sadcReg t Reg.Sadc.CONV_CNT)).ev 0xCE t
    if c.cap then
      let a := s.adc t
      (s.setAdc t { a with samples := a.samples ++ [⟨code, c.range⟩] }).setFld (sadcReg t Reg.Sadc.CAP_STAT) 16 13
        (a.samples.length + 1)
    else
      match c.hold.sel with
      | 0x10 => s.voutResult t c code
      | 0x11 => s.tjResult c code
      | 0x12 => let r := s.millivolts code; r.2.tileResult t c code Reg.Tile.VFEED (unsignedOf 32 r.1)
      | 0x13 => let r := s.tempField code; r.2.tileResult t c code Reg.Tile.TTILE r.1
      | 0x14 => s.wrN (sadcReg t Reg.Sadc.SELF_ZERO) code
      | 0x15 => s.wrN (sadcReg t Reg.Sadc.SELF_REF) code
      | 0x16 => let r := s.roundOpen (code : Int) 2; r.2.tileResult t c code Reg.Tile.SUPPLY_I_CV r.1.toNat
      | _ => s.currentResult t c code

def execConversionResult (t : Fin 8) (code : Fin 65536) (s : State) : Host.Outcome State Fault Refusal :=
  .next (conversionResult t.val code.val s)

/-! ## Software and background conversions -/

/-- A write of SW_CONV: with GO, a defined SEL gets the earliest free hold 400 ns on (R232, R235). -/
def swConv (t : Nat) (v : Word) (s : State) : State :=
  let sel := bitsOf v 0 5
  if bitOf v 8 && decide (sel < 0x17) then
    s.assign t { t := s.freeHold t (s.tb0.nsTotal + 400) true, sel := sel, origin := 2 }
  else s

def execSwConv (acc : Access) (t : Fin 8) (v : Word) (s : State) : Host.Outcome State Fault Refusal :=
  .next (s.write acc 4 (sadcReg t.val Reg.Sadc.SW_CONV) v (fun _ => swConv t.val v))

/-- BG_INT of converter t, in 100 µs units (R252). -/
def State.bgInt (s : State) (t : Nat) : Nat := limit 1 1000 (s.fld (sadcReg t Reg.Sadc.SADC_CFG) 6 10)

/-- A background scan is due with BG_EN, BG_INT × 100 µs after the last one was, counted in TBF (R236, log entry 88): it
starts while none runs and no capture runs; else the due start is dropped. -/
def bgScanStart (t : Nat) (s : State) : State :=
  let st := sadcReg t Reg.Sadc.SADC_STAT
  let a := s.adc t
  let now := s.time.tbf.nsTotal
  if !s.bit (sadcReg t Reg.Sadc.SADC_CFG) 0 || decide (now < a.bgDue) || !s.domainOn 11 then s
  else
    let int := s.bgInt t * 100000
    let s := s.setAdc t { a with bgDue := if a.bgDue + int ≤ now then now + int else a.bgDue + int }
    if !s.bit st 6 && s.capState t != 2 then
      ((s.setBit st 6 true).setAdc t { s.adc t with bg := bgAll t }).bgNext t
    else s

def execBgScanStart (t : Fin 8) (s : State) : Host.Outcome State Fault Refusal := .next (bgScanStart t.val s)

/-! ## Inrush captures -/

/-- CAP_CTRL.ABORT: an armed or running capture ends at once; no features (R244). -/
def capAbort (t : Nat) (s : State) : State :=
  let st := sadcReg t Reg.Sadc.CAP_STAT
  if s.capState t = 1 || s.capState t = 2 then
    let a := s.adc t
    let s := ((s.setFld st 0 2 0).setBit st 2 true).setBit (sadcReg t Reg.Sadc.SADC_STAT) 5 false
    let s := s.setAdc t { a with conv := a.conv.filter (fun c => !c.cap) }
    s.onlyIf (s.bit (sadcReg t Reg.Sadc.SADC_STAT) 6) (·.bgNext t)
  else s

/-- CAP_CTRL.ARM: ignored while a capture is armed or runs; IMMEDIATE starts it, when CKG5 runs (R244, R317). -/
def capArm (t : Nat) (v : Word) (s : State) : State :=
  let st := sadcReg t Reg.Sadc.CAP_STAT
  if s.capState t = 1 || s.capState t = 2 then s
  else
    let s := s.wrN st (1 + bitsOf v 0 4 * 2 ^ 4)
    let s := s.setAdc t { s.adc t with capImm := bitOf v 4, samples := [] }
    s.onlyIf (bitOf v 4 && !s.gated 5) (·.capNow t)

/-- A write of CAP_CTRL: ABORT, then ARM. -/
def capCtrl (t : Nat) (v : Word) (s : State) : State :=
  let s := s.onlyIf (bitOf v 9) (capAbort t)
  s.onlyIf (bitOf v 8) (capArm t v)

def execCapArm (acc : Access) (t : Fin 8) (v : Word) (s : State) : Host.Outcome State Fault Refusal :=
  .next (s.write acc 4 (sadcReg t.val Reg.Sadc.CAP_CTRL) v (fun _ => capCtrl t.val v))

def execCapAbort (acc : Access) (t : Fin 8) (v : Word) (s : State) : Host.Outcome State Fault Refusal :=
  .next (s.write acc 4 (sadcReg t.val Reg.Sadc.CAP_CTRL) v (fun _ => capCtrl t.val v))

/-- A capture's samples calibrated in order, in 10 µA units. -/
def State.calibAll (n : Nat) (tj : Int) : List CapSample → State → List Int × State
  | [], s => ([], s)
  | x :: xs, s =>
    let r := s.calibrate n x.range x.code tj
    let q := State.calibAll n tj xs r.2
    (r.1 :: q.1, q.2)

/-- The largest of a list of samples and the index of the first sample equal to it. -/
def peakOf : List Int → Nat → Int → Nat → Int × Nat
  | [], _, m, k => (m, k)
  | x :: xs, i, m, k => if m < x then peakOf xs (i + 1) x i else peakOf xs (i + 1) m k

/-- One past the index of the last sample that does not satisfy `ok`. -/
def settledFrom (ok : Int → Bool) : List Int → Nat → Nat → Nat
  | [], _, k => k
  | x :: xs, i, k => settledFrom ok xs (i + 1) (if ok x then k else i + 1)

/-- HINT by the first row of R246 that holds: I_PEAK, T_PEAK, T_SETTLE, 256 × I_END and the class nominal current, in
10 µA units. -/
def sigHint (peak : Int) (tPeak tSettle : Nat) (end256 nominal : Int) : Nat :=
  if peak * 50 < nominal then 0
  else if end256 * 50 < nominal * 256 then 6
  else if peak * 1024 < 5 * end256 then 1
  else if tSettle ≤ 500 then 2
  else if 4 * end256 ≤ peak * 256 then 3
  else if 100 ≤ tPeak ∧ tSettle ≠ 0xFFFF then 4
  else 5

/-- CAP_DONE: after the last sample the features and the hint (R245, R246); not while CKG5 is gated (R317). -/
def capDone (t : Nat) (s : State) : State :=
  let a := s.adc t
  let st := sadcReg t Reg.Sadc.CAP_STAT
  if s.capState t = 2 && a.samples.length == 4096 && !s.gated 5 then
    let n := 16 * t + s.fld st 4 4
    let c := State.calibAll n (tjOf a.tj0) a.samples s
    let s := c.2
    let pk := peakOf c.1 0 (c.1.headD 0) 0
    let sum := (c.1.drop 3840).foldl (· + ·) 0
    let near (x : Int) : Bool := decide ((10 * (256 * x - sum)).natAbs ≤ sum.natAbs)
    let k := max pk.2 (settledFrom near c.1 0 0)
    let settle := if 3839 < k then 0xFFFF else k
    let p := s.roundOpen pk.1 1000
    let e := p.2.roundOpen sum 256000
    let s := e.2.wrN (sadcReg t Reg.Sadc.SIG_PEAK) (unsignedOf 16 p.1 + pk.2 * 2 ^ 16)
    let s := s.wrN (sadcReg t Reg.Sadc.SIG_END) (unsignedOf 16 e.1 + settle * 2 ^ 16)
    let s := s.wrN (sadcReg t Reg.Sadc.SIG_HINT) (sigHint pk.1 pk.2 settle sum (nominalMa n * 100 : Nat) + 2 ^ 31)
    let s := ((s.setFld st 0 2 3).setBit (sadcReg t Reg.Sadc.SADC_STAT) 5 false).raise sadcBase0 (16 + t)
    let s := s.ev 0xD0 t
    s.onlyIf (s.bit (sadcReg t Reg.Sadc.SADC_STAT) 6) (·.bgNext t)
  else s
where
  /-- Primary page of the sense unit (R250). -/
  sadcBase0 : Nat := sadcBase 0

def execCapDone (t : Fin 8) (s : State) : Host.Outcome State Fault Refusal := .next (capDone t.val s)

/-- CAP_DATA as it reads: the sample CAP_PTR names; one not taken has a value the spec leaves open (R252). -/
def State.capData (s : State) (t : Nat) : Word × State :=
  match (s.adc t).samples[s.fld (sadcReg t Reg.Sadc.CAP_PTR) 0 12]? with
  | some x => (word (x.code + x.range * 2 ^ 16 + b2n (x.code == 0xFFFF) * 2 ^ 17), s)
  | none => let r := s.freshIn 0 (2 ^ 18 - 1); (word r.1, r.2)

/-- A read of CAP_DATA: on the main bus it advances CAP_PTR (R252). -/
def capDataRead (acc : Access) (t : Nat) (s : State) : State :=
  let r := s.capData t
  let k := sadcReg t Reg.Sadc.CAP_PTR
  let s := r.2.onlyIf (acc.master != .shep) (fun s => s.setFld k 0 12 (s.fld k 0 12 + 1))
  s.answer (.data r.1)

def execCapDataRead (acc : Access) (t : Fin 8) (s : State) : Host.Outcome State Fault Refusal :=
  .next (s.read acc 4 (sadcReg t.val Reg.Sadc.CAP_DATA) (fun acc => capDataRead acc t.val))

/-! ## Feed monitor -/

/-- A register of the feed monitor. -/
def fmonReg (off : Nat) : Nat := sadcBase 0 + off

/-- One feed's sample in mV: latest, minimum, maximum; `fresh` sets both to it (R243, R253). -/
def State.fmonOne (s : State) (now mn mx : Nat) (v : Int) (fresh : Bool) : State :=
  let w := unsignedOf 32 v
  let s := s.wrN (fmonReg now) w
  let s := s.onlyIf (fresh || decide (v < s.rdI (fmonReg mn))) (·.wrN (fmonReg mn) w)
  s.onlyIf (fresh || decide (s.rdI (fmonReg mx) < v)) (·.wrN (fmonReg mx) w)

/-- Whether TB0 stands at the tick of an instant whose NS is a multiple of 100,000 and the monitor has not sampled at it
(R243). -/
def State.fmonDue (s : State) : Bool :=
  let t := s.tb0.nsTotal
  decide (t % 100000 < 2) && s.fmonAt != t / 100000 + 1

/-- FMON_SAMPLE: both feeds sampled, in mV, at an aligned instant (R243). -/
def fmonSample (va vb : Int) (s : State) : State :=
  if !s.domainOn 11 || !s.fmonDue then s
  else
    let uv : Int := (s.fld (fmonReg Reg.Sadc.FMON_UV) 0 16 : Nat)
    let pre := s.fmonPrev
    let s := s.fmonOne Reg.Sadc.FMON_A Reg.Sadc.FMON_A_MIN Reg.Sadc.FMON_A_MAX va s.fmonClrA
    let s := s.fmonOne Reg.Sadc.FMON_B Reg.Sadc.FMON_B_MIN Reg.Sadc.FMON_B_MAX vb s.fmonClrB
    let s := { s with fmonClrA := false, fmonClrB := false, fmonPrev := some (va, vb), fmonAt := s.tb0.nsTotal / 100000 + 1 }
    let fell (v : Int) (p : Option Int) : Bool :=
      uv != 0 && decide (v < uv) && (match p with | some x => decide (uv ≤ x) | none => true)
    let s := s.onlyIf (fell va (pre.map (·.1))) (·.raise (sadcBase 0) 24)
    let s := s.onlyIf (fell vb (pre.map (·.2))) (·.raise (sadcBase 0) 25)
    s.distNow 0xB 0 (s.rd (fmonReg Reg.Sadc.FMON_A)) (s.rd (fmonReg Reg.Sadc.FMON_B)) 0

def execFmonSample (va vb : Int) (s : State) : Host.Outcome State Fault Refusal := .next (fmonSample va vb s)

/-- A write of FMON_CLR (R253). -/
def fmonClr (v : Word) (s : State) : State :=
  { s with fmonClrA := s.fmonClrA || bitOf v 0, fmonClrB := s.fmonClrB || bitOf v 1 }

def execFmonClr (acc : Access) (v : Word) (s : State) : Host.Outcome State Fault Refusal :=
  .next (s.write acc 4 (fmonReg Reg.Sadc.FMON_CLR) v (fun _ => fmonClr v))

/-! ## Group membership -/

/-- LEVEL of group g (R52). -/
def State.grpLevel (s : State) (g : Nat) : Nat := s.fld (cgBase g + Reg.Cg.MEMB_STAT) 16 3

/-- Member groups of group g. -/
def State.memberGroups (s : State) (g : Nat) : List Nat := s.bitList (cgBase g + Reg.Cg.GRP_MEMB) 64

/-- Level of a group from its member groups (R52). -/
def State.levelOf (s : State) (g : Nat) : Nat := 1 + ((s.memberGroups g).map s.grpLevel).foldl max 0

/-- Whether a member is a direct member of group g. -/
def State.isMember (s : State) (g m : Nat) : Bool :=
  if 0x100 ≤ m then s.bit (cgBase g + Reg.Cg.CH_MEMB + 4 * ((m - 0x100) / 32)) ((m - 0x100) % 32)
  else s.bit (cgBase g + Reg.Cg.GRP_MEMB + 4 * ((m - 0xC0) / 32)) ((m - 0xC0) % 32)

/-- The group that holds a member, if any. -/
def State.holderOf (s : State) (m : Nat) : Option Nat :=
  if 0x100 ≤ m then s.groupOf (m - 0x100) else s.parentOf (m - 0xC0)

/-- The ownership check of R34 on a page. -/
def State.r34 (s : State) (acc : Access) (base : Nat) : Bool :=
  let o := s.rd (base + Reg.Hdr.OWNER)
  worldOk o acc && viOk o acc && (match acc.master with | .half h => s.halfOk o h | .shep => true)

/-- The first check of R247 that a membership write fails, by its RESULT; DONE where none does. -/
def State.membCheck (s : State) (acc : Access) (g m op : Nat) : Nat :=
  let isCh := decide (0x100 ≤ m ∧ m < 0x180)
  let isGrp := decide (0xC0 ≤ m ∧ m < 0x100)
  let ups := s.groupChain 6 (some g)
  if (op ≠ 1 ∧ op ≠ 2) || !(isCh || isGrp) || m == 0xC0 + g then 2
  else if !s.r34 acc (compBase m) then 3
  else if ups.any (fun x => s.busy (cgBase x)) || (isGrp && s.busy (compBase m)) then 4
  else if op = 2 && !s.isMember g m then 5
  else if op = 1 && (s.holderOf m).isSome then 6
  else if op = 1 && isGrp && ups.contains (m - 0xC0) then 7
  else if op = 1 && isGrp &&
      (ups.zipIdx).any (fun p => decide (6 < max (s.grpLevel p.1) (s.grpLevel (m - 0xC0) + 1 + p.2))) then 8
  else 1

/-- RESULT of a membership write, with MEMB_DONE (R247, R248). -/
def State.membResult (s : State) (g r : Nat) : State :=
  (s.setFld (cgBase g + Reg.Cg.MEMB_STAT) 28 4 r).raise (cgBase g) 17

/-- A membership change takes effect (R55, R248): bitmaps, counts, GROUP or PARENT, levels of the group and those above,
generations, and status and I_SUM of every composite concerned. -/
def State.membEffect (s : State) (q : MembReq) : State :=
  let g := q.group
  let m := q.member
  let st := cgBase g + Reg.Cg.MEMB_STAT
  let add := q.op == 1
  let link := if add then g + 2 ^ 31 else 0
  let s :=
    if 0x100 ≤ m then
      let n := m - 0x100
      let s := s.setBit (cgBase g + Reg.Cg.CH_MEMB + 4 * (n / 32)) (n % 32) add
      let s := s.setFld st 0 8 (if add then s.fld st 0 8 + 1 else s.fld st 0 8 - 1)
      s.wrN (chanBase n + Reg.Chan.GROUP) link
    else
      let n := m - 0xC0
      let s := s.setBit (cgBase g + Reg.Cg.GRP_MEMB + 4 * (n / 32)) (n % 32) add
      let s := s.setFld st 8 6 (if add then s.fld st 8 6 + 1 else s.fld st 8 6 - 1)
      s.wrN (cgBase n + Reg.Cg.PARENT) link
  let ups := s.groupChain 6 (some g)
  let s := s.each ups (fun s x => s.setFld (cgBase x + Reg.Cg.MEMB_STAT) 16 3 (s.levelOf x))
  let s := (s.bumpGen (compBase m)).bumpGen (cgBase g)
  s.each ups (fun s x => (s.resum (0xC0 + x)).deriveStat (0xC0 + x))

/-- A write of MEMB_CTRL waits for its check and its effect in the next cycle (R247, R248). -/
def membWrite (acc : Access) (g : Nat) (v : Word) (s : State) : State :=
  { s with membReqs := s.membReqs ++ [⟨g, bitsOf v 0 12, bitsOf v 12 2, acc⟩] }

/-- MEMB_CTRL's word for a member and OP. -/
def membWord (m op : Nat) : Word := word (m + op * 2 ^ 12)

def execMembAdd (acc : Access) (g : Fin 64) (m : Fin 4096) (s : State) : Host.Outcome State Fault Refusal :=
  .next (s.write acc 4 (cgBase g.val + Reg.Cg.MEMB_CTRL) (membWord m.val 1) (fun acc => membWrite acc g.val (membWord m.val 1)))

def execMembRemove (acc : Access) (g : Fin 64) (m : Fin 4096) (s : State) : Host.Outcome State Fault Refusal :=
  .next (s.write acc 4 (cgBase g.val + Reg.Cg.MEMB_CTRL) (membWord m.val 2) (fun acc => membWrite acc g.val (membWord m.val 2)))

/-- MEMB_APPLY: the oldest write is checked against the membership as every change before left it; one that passes takes
effect with RESULT DONE, any other ends with the RESULT of the check it fails (R247, R248). -/
def membApply (s : State) : State :=
  match s.membReqs with
  | [] => s
  | q :: rest =>
    let s := { s with membReqs := rest }
    let r := s.membCheck q.acc q.group q.member q.op
    (s.onlyIf (r == 1) (·.membEffect q)).membResult q.group r

def execMembApply (s : State) : Host.Outcome State Fault Refusal := .next (membApply s)

end Sys2Proof.Machine
end

