-- ==== Sys2Proof/Machine/Inputs.lean ====
section
/-! DEFINITION. Discrete and analog inputs, the LH bank, and the SAMPLE action (R138, R454 to R457). -/

namespace Sys2Proof.Machine

/-- A filtered discrete input takes a level, after INV (R454): DI_LEVEL, DI_CHG with CHANGE when it becomes 1, and the
distributor. -/
def diChange (i : Nat) (lv : Bool) (s : State) : State :=
  let lv := lv != s.bit (diBase + Reg.Di.DI_CFG + 4 * i) 11
  let k := diBase + Reg.Di.DI_LEVEL + 4 * (i / 32)
  let c := diBase + Reg.Di.DI_CHG + 4 * (i / 32)
  if !s.domainOn 9 || s.bit k (i % 32) == lv then s
  else
    let s := s.setBit k (i % 32) lv
    let s := s.onlyIf (!s.bit c (i % 32)) (fun s => (s.setBit c (i % 32) true).raise diBase 16)
    s.distNow 6 (i / 32) (s.rd k) (word (2 ^ (i % 32))) 0

def execDiChange (i : Fin 96) (lv : Bool) (s : State) : Host.Outcome State Fault Refusal := .next (diChange i.val lv s)

/-! ## Analog converters (R455) -/

/-- The record of converter m. -/
def State.ai (s : State) (m : Nat) : AiConv := Tbl.get {} s.aiConv m
def State.setAi (s : State) (m : Nat) (a : AiConv) : State := { s with aiConv := Tbl.set {} s.aiConv m a }

/-- Whether a scan conversion of converter m, 2 µs long, ends before every SAMPLE placed on it (R455). -/
def State.aiScanFits (s : State) (m : Nat) : Bool :=
  s.placed.all (fun q => !(evAction q.w1 == 7 && evTarget q.w1 / 2 ^ 14 == 1 && evTarget q.w1 % 2 ^ 14 / 12 == m &&
    !q.late && decide (q.inst < s.tb0.nsTotal + 2000)))

/-- An idle converter starts its next conversion at an instant of TB0 in 2^-16 ns: events, then software, then the scan
(R455). -/
def State.aiNext (s : State) (m inst : Nat) : State :=
  let a := { s.ai m with start := if (s.ai m).busy.isSome then (s.ai m).start else inst }
  if a.busy.isSome then s
  else
    match a.reqs.find? (fun r => r.2.1 == 0), a.reqs with
    | some r, _ => s.setAi m { a with busy := some r, reqs := a.reqs.erase r }
    | none, r :: rest => s.setAi m { a with busy := some r, reqs := rest }
    | none, [] =>
      match a.scan with
      | i :: rest => if s.aiScanFits m then s.setAi m { a with busy := some (i, 1, false), scan := rest } else s
      | [] => s

/-- A conversion ends (R455): AI_DATA, the distributor with the instant of the sample (R265), the event of its converter
(R531), the next conversion. -/
def aiConversion (m code : Nat) (s : State) : State :=
  match (s.ai m).busy with
  | none => s
  | some (i, origin, slip) =>
    let low := s.bit (aiBase + Reg.Ai.AI_LOWR + 4 * (i / 32)) (i % 32)
    let s := s.wrN (aiBase + Reg.Ai.AI_DATA + 4 * i)
      (code + origin * 2 ^ 16 + b2n slip * 2 ^ 18 + b2n low * 2 ^ 19 + 2 ^ 31)
    let c := Clock.ofT16 (s.ai m).start
    let s := s.dist { source := 5, flags := b2n slip, tsLo := c.tsLo, tsHi := c.tsHi, id := i, w5 := word code }
    ((s.setAi m { s.ai m with busy := none }).ev 0xD9 m).aiNext m s.tb0.t16

def execAiConversion (m : Fin 4) (code : Fin 65536) (s : State) : Host.Outcome State Fault Refusal :=
  .next (aiConversion m.val code.val s)

/-- The periodic scan starts on every converter (R455). -/
def aiScan (s : State) : State :=
  if !s.domainOn 9 then s
  else s.each (List.range 4) (fun s m =>
    let l := (List.range 12).filterMap (fun j =>
      let i := 12 * m + j
      if s.bit (aiBase + Reg.Ai.AI_SCAN_EN + 4 * (i / 32)) (i % 32) then some i else none)
    let s := if (s.ai m).scan.isEmpty then s.setAi m { s.ai m with scan := l } else s
    s.aiNext m s.tb0.t16)

def execAiScan (s : State) : Host.Outcome State Fault Refusal := .next (aiScan s)

/-- A request for a conversion of input i at an instant: started at once on an idle converter, else waiting. -/
def State.aiRequest (s : State) (i origin : Nat) (slip : Bool) (inst : Nat) : State :=
  let m := i / 12
  let a := s.ai m
  (s.setAi m { a with reqs := a.reqs ++ [(i, origin, slip)] }).aiNext m inst

/-- A write of AI_SW_CONV (R461); an input from 48 up is none. -/
def aiSwConv (v : Word) (s : State) : State :=
  if bitOf v 8 && decide (bitsOf v 0 6 < 48) then s.aiRequest (bitsOf v 0 6) 2 false s.tb0.t16 else s

def execAiSwConv (acc : Access) (v : Word) (s : State) : Host.Outcome State Fault Refusal :=
  .next (s.write acc 4 (aiBase + Reg.Ai.AI_SW_CONV) v (fun _ => aiSwConv v))

/-! ## SAMPLE (R138) -/

/-- SAMPLE: a conversion on a sense ADC (R235), or of an analog input, slipped and counted when its converter is busy
(R138, R455). -/
def sampleAct (i : Nat) (s : State) : State :=
  s.runAct i 7 (fun s q =>
    let t := evTarget q.w1
    let s := if t / 2 ^ 14 = 0 then s.sampleOn (t / 2 ^ 8 % 8) (t % 2 ^ 8) q.idx q.inst q.late q.proj
    else
      let n := t % 2 ^ 14
      let busy := (s.ai (n / 12)).busy.isSome
      if s.domainOn 9 && decide (n < 48) then (s.onlyIf busy State.slip).aiRequest n 0 busy (if q.late then s.tb0.t16 else q.inst * 2 ^ 16) else s
    s.finishAct q)

def execActionSample (i : Fin 4096) (s : State) : Host.Outcome State Fault Refusal := .next (sampleAct i.val s)

/-! ## The LH bank (R457) -/

/-- A pin's comparison has stood for 1 ms: a difference sets LH_DIFF. -/
def lhDiff (i : Nat) (s : State) : State :=
  let s := s.lhAgree
  if s.domainOn 9 && s.lhDiffers i && !s.bit (lhBase + Reg.Lh.LH_DIFF) i then
    (s.setBit (lhBase + Reg.Lh.LH_DIFF) i true).raise lhBase 16
  else s

def execLhDiffTimer (i : Fin 16) (s : State) : Host.Outcome State Fault Refusal := .next (lhDiff i.val s)

/-- LH_DIFF as it reads: bits whose levels still differ. -/
def State.lhDiffLive (s : State) : Word :=
  word ((List.range 16).foldl (fun a i => a + b2n (s.bit (lhBase + Reg.Lh.LH_DIFF) i && s.lhDiffers i) * 2 ^ i) 0)

end Sys2Proof.Machine
end

