-- ==== Sys2Proof/Machine/Span.lean ====
section
/-! DEFINITION. The Span bridge: windows, posted writes, delayed transactions, FENCE, the posted-write-failure log, the
cross-half link and Span frames (R488 to R512). -/

namespace Sys2Proof.Machine

def spanReg (off : Nat) : Nat := spanBase + off
def spowReg (w i : Nat) : Nat := spowBase + 0x100 + 0x20 * w + 4 * i
def spiwReg (w i : Nat) : Nat := spiwBase + 0x100 + 0x20 * w + 4 * i

/-- REASON codes of R490. -/
def rsOk : Nat := 0
def rsBusError : Nat := 1
def rsNoWindow : Nat := 2
def rsDenied : Nat := 3
def rsLane : Nat := 4
def rsBusy : Nat := 5
def rsTimeout : Nat := 6
def rsLinkDown : Nat := 7
def rsExcl : Nat := 8

/-- Whether the conditions for the cross-half link to be up hold (R488). -/
def State.spanLinkUp (s : State) : Bool :=
  s.domainOn 6 && s.domainOn 2 && s.domainOn 4 && s.bit (spanReg Reg.Span.SPAN_CTRL) 0 &&
    !s.rst.any (fun r => r.covers (.hrst .a) || r.covers (.hrst .b))

/-- Whether the tunnel operates (R488). CKG2 gated, its requests and frames wait (R317). -/
def State.tunEn (s : State) : Bool := s.domainOn 6 && s.bit (spanReg Reg.Span.SPAN_CTRL) 1

/-! ## The posted-write-failure log (R503) -/

/-- The log with PWF_HEAD and PWF_COUNT showing it. -/
def State.setPwf (s : State) (l : List (List Word)) : State :=
  let hd := l.headD []
  let s := { s with pwf := l }
  let s := s.each [0, 1, 2] (fun s i => s.wr (spanReg Reg.Span.PWF_HEAD + 4 * i) (hd.getD i 0))
  s.wrN (spanReg Reg.Span.PWF_COUNT) l.length

/-- A failure record is entered, or lost where the log is full. -/
def State.pwfEnter (s : State) (p : SpPost) (reason : Nat) : State :=
  if 16 ≤ s.pwf.length then (s.count (spanReg Reg.Span.PWF_LOST)).raise spanBase 17
  else
    let hd := word (p.tag + reason * 2 ^ 16 + p.win * 2 ^ 20 + p.half.code2 * 2 ^ 25 + b2n p.tunnel * 2 ^ 27 + 2 ^ 31)
    (s.setPwf (s.pwf ++ [[hd, word p.addr, word (p.addr / 2 ^ 32)]])).raise spanBase 16

/-- A posted write has its ACK or its failure: it is no longer awaited, and a FENCE that waited for it may be complete
(R504). -/
def State.postDone (s : State) (p : SpPost) (failed : Bool) : State :=
  let now := s.tbfNs
  let mine (d : SpDt) : Bool := d.fence && d.half == p.half && d.waits.contains (p.tunnel, p.tag)
  let awaited := s.spDts.any mine
  let s := { s with
    spPosts := s.spPosts.filter (fun (x : SpPost) => x != p),
    spDts := s.spDts.map (fun (d : SpDt) =>
      if mine d then
        let w := d.waits.filter (fun (e : Bool × Nat) => e != (p.tunnel, p.tag))
        { d with waits := w, failed := d.failed || failed, result := if w.isEmpty then some (rsOk, [], now) else none }
      else d) }
  s.onlyIf failed (fun s =>
    if awaited && Tbl.get 0 s.spFail p.half.idx != 1 then { s with spFail := Tbl.set 0 s.spFail p.half.idx 2 }
    else { s with spFail := Tbl.set 0 s.spFail p.half.idx 1 })

/-- A posted write fails (R503). -/
def State.postFailed (s : State) (p : SpPost) (reason : Nat) : State := (s.postDone p true).pwfEnter p reason

/-! ## Requests and answers -/

/-- A request enters an inbound buffer. -/
def State.spPush (s : State) (r : SpReq) : State :=
  { s with spIn := s.spIn ++ [{ r with seq := s.spSeq }], spSeq := s.spSeq + 1 }

/-- An answer is on its way to the near bridge. -/
def State.spReply (s : State) (r : SpAns) : State :=
  { s with spAns := s.spAns ++ [{ r with seq := s.spSeq }], spSeq := s.spSeq + 1 }

/-- Requests in an inbound buffer: link buffers by the requesting half, tunnel buffers shared (R496). -/
def State.spBuf (s : State) (tun : Bool) (h : Half) (posted : Bool) : List SpReq :=
  s.spIn.filter (fun (r : SpReq) => r.tunnel == tun && (tun || r.half == h) && (r.kind == 0) == posted)

/-- The next TAG of a half and transport (R497). -/
def State.spTag (s : State) (h : Half) (tun : Bool) : Nat × State :=
  let k := 2 * h.idx + b2n tun
  let t := Tbl.get 0 s.spTags k
  (t, { s with spTags := Tbl.set 0 s.spTags k ((t + 1) % 65536) })

/-- Payload of a REQ (R508). -/
def reqPay (kind size tag addr : Nat) (data : List Nat) : List Nat :=
  [kind, size] ++ bigEnd 2 tag ++ bigEnd 8 addr ++ data

/-- A delayed transaction gets its result. -/
def State.dtResult (s : State) (pick : SpDt → Bool) (reason : Nat) (data : List Nat) : State :=
  let now := s.tbfNs
  { s with spDts := s.spDts.map (fun (d : SpDt) =>
      if pick d && d.result.isNone && !d.fence then { d with result := some (reason, data, now) } else d) }

/-- A delayed transaction's request is sent (R498): on the link into the far buffer, through the tunnel as a frame. -/
def State.dtSend (s : State) (d : SpDt) : State :=
  let now := s.tbfNs
  let kind := if d.data.isSome then 1 else 2
  let l := if d.swap then (d.data.getD []).reverse else d.data.getD []
  let s := { s with spDts := s.spDts.map (fun (x : SpDt) => if x == d then { x with sent := some now } else x) }
  if d.tunnel then
    s.onlyIf s.tunEn (·.spanSend d.half d.unit 3 d.half.idx (reqPay kind d.size d.tag d.span l))
  else s.spPush ⟨false, d.half, 0, d.half.idx, kind, d.tag, d.span, d.size, l, d.sec, 0⟩

/-- Link requests of a half that wait are sent while non-posted credits last (R496, R498). -/
def State.dtSendLink (s : State) (h : Half) : State :=
  s.each (List.range 16) (fun s _ =>
    match s.spDts.find? (fun (d : SpDt) => !d.tunnel && !d.fence && d.half == h && d.sent.isNone && d.result.isNone) with
    | none => s
    | some d => if s.spanLinkUp && decide ((s.spBuf false h false).length < 16) then s.dtSend d else s)

/-! ## The near side of an access (R491 to R498) -/

/-- A local refusal (R491 to R493): a bus error with its REASON in LAST_ERR. -/
def State.spanErr (s : State) (h : Half) (off reason : Nat) : State :=
  let s := s.count (spanReg Reg.Span.ERR_CNT)
  let s := s.wrN (spanReg Reg.Span.LAST_ERR) (reason + h.code2 * 2 ^ 8 + 2 ^ 31)
  let s := (s.wrN (spanReg Reg.Span.LAST_ERR_ADDR_LO) off).wrN (spanReg Reg.Span.LAST_ERR_ADDR_HI) 0x10
  (s.raise spanBase 20).answer .busError

/-- The outbound window an access matches (R492). -/
def State.outWindow (s : State) (h : Half) (off size : Nat) : Option Nat :=
  (List.range 32).find? (fun w =>
    let w0 := s.rd (spowReg w 0)
    let lo := s.fld (spowReg w 1) 0 16 * 65536
    let src := bitsOf w0 5 2
    bitOf w0 0 && decide (lo ≤ off ∧ off + size ≤ lo + s.fld (spowReg w 1) 16 16 * 65536) &&
      (src == h.code2 || src == 3))

/-- Whether an access keeps to what a window admits (R493): 1 to 64 octets inside one 64-octet block. -/
def spanShape (off size : Nat) : Bool := decide (1 ≤ size ∧ size ≤ 64 ∧ off % 64 + size ≤ 64)

/-- The access a DATA_INVARIANT window admits (R493). -/
def laneShape (off size : Nat) : Bool := (size == 1 || size == 2 || size == 4 || size == 8) && off % size == 0

/-- RETRY: the access is presented again (R497, R498). -/
def State.spanRetry (s : State) (h : Half) : State := (s.answer .retry).evHalf h.idx 0x4E 0

/-- What a window makes of an access that passes R492 and R493: the window, its Span address, whether it is a write. -/
structure SpanHit where
  win : Nat
  span : Nat
  deriving DecidableEq, Repr

/-- The checks of R491 to R493 in their order; an access that passes goes to `k`. -/
def State.spanCheck (s : State) (acc : Access) (h : Half) (off size : Nat) (isWrite excl : Bool)
    (k : State → SpanHit → State) : State :=
  match s.outWindow h off size with
  | none => s.spanErr h off rsNoWindow
  | some w =>
    let w0 := s.rd (spowReg w 0)
    let vi := acc.vi.val
    if (bitOf w0 4 && !acc.secure) || (vi != 0 && vi != bitsOf w0 8 7) then s.spanErr h off rsDenied
    else if excl then s.spanErr h off rsExcl
    else if bitOf w0 3 && !laneShape off size then s.spanErr h off rsLane
    else if bitsOf w0 5 2 == 3 && h != s.activeHalf && isWrite then
      (s.count (spanReg Reg.Span.STBY_DROP)).answer .ok
    else
      let base := s.fld (spowReg w 2) 16 16 * 65536 + s.rdN (spowReg w 3) * 2 ^ 32
      k s ⟨w, (base + (off - s.fld (spowReg w 1) 0 16 * 65536)) % 2 ^ 64⟩

/-- A posted write (R497). `backlog` is how many writes the outbound posted queue holds that are not yet sent. -/
def State.spanPost (s : State) (h : Half) (x : SpanHit) (size : Nat) (l : List Nat) (backlog : Nat) : State :=
  let w0 := s.rd (spowReg x.win 0)
  let tun := bitOf w0 1
  let l := if bitOf w0 3 then l.reverse else l
  let waiting := min backlog (s.spPosts.filter (fun (p : SpPost) => p.half == h)).length
  if 32 ≤ waiting ∨ (!tun && s.spanLinkUp && decide (32 ≤ (s.spBuf false h true).length)) then s.spanRetry h
  else
    let t := s.spTag h tun
    let p : SpPost := ⟨h, tun, t.1, x.win, x.span, bitsOf w0 16 14, s.tbfNs⟩
    let s := { t.2 with spPosts := t.2.spPosts ++ [p] }.answer .ok
    if tun then s.onlyIf s.tunEn (·.spanSend h p.unit 3 h.idx (reqPay 0 size t.1 x.span l))
    else if s.spanLinkUp then s.spPush ⟨false, h, 0, h.idx, 0, t.1, x.span, size, l, bitOf w0 4, 0⟩
    else s.postFailed p rsLinkDown

/-- DISCARD_TIMER in ns (R499, R510). -/
def State.discardNs (s : State) : Nat := max 1 (s.fld (spanReg Reg.Span.DR_CFG) 0 16) * 10000

/-- Entries whose result has waited longer than DISCARD_TIMER are freed (R499); `late` picks them by age. -/
def State.dtDiscard (s : State) (late : Nat → Bool) : State :=
  let now := s.tbfNs
  let gone (d : SpDt) : Bool := match d.result with | some r => late (now - r.2.2) | none => false
  let l := s.spDts.filter gone
  s.each l (fun s d =>
    (({ s with spDts := s.spDts.filter (fun (x : SpDt) => x != d) }.count (spanReg Reg.Span.DR_DISCARD_CNT)).raise
      spanBase 18).evHalf d.half.idx 0x4F 0)

/-- An entry is collected (R498). -/
def State.dtCollect (s : State) (d : SpDt) : State :=
  let s := { s with spDts := s.spDts.filter (fun (x : SpDt) => x != d) }
  match d.result with
  | none => s
  | some (reason, data, _) =>
    if d.fence then
      let k := d.half.idx
      let open' := !d.failed && Tbl.get 0 s.spFail k == 2
      let f := if open' then s.freshBool else (d.failed, s)
      f.2.answer (.data (word (s.pwf.length + 256 * b2n f.1)))
    else if reason ≠ rsOk then s.answer .busError
    else if d.data.isSome then s.answer .ok
    else s.answer (.octets (if d.swap then data.reverse else data))

/-- The entry an access matches (R498). -/
def State.dtFind (s : State) (d : SpDt) : Option SpDt :=
  s.spDts.find? (fun (x : SpDt) =>
    x.half == d.half && x.master == d.master && x.addr == d.addr && x.size == d.size && x.secure == d.secure && x.vi == d.vi &&
      x.data == d.data && x.fence == d.fence)

/-- First presentation of a delayed transaction (R498): RETRY, with an entry where one is free. -/
def State.dtNew (s : State) (h : Half) (alloc : State → State) : State :=
  if 16 ≤ (s.spDts.filter (fun (x : SpDt) => x.half == h)).length then
    (s.count (spanReg Reg.Span.DR_FULL_CNT)).spanRetry h
  else alloc (s.spanRetry h)

/-- A new entry's request is sent, waits for a credit, or has LINK_DOWN (R490, R498). -/
def State.dtAlloc (s : State) (d : SpDt) (x : SpanHit) : State :=
  let w0 := s.rd (spowReg x.win 0)
  let t := s.spTag d.half (bitOf w0 1)
  let e := { d with
    tunnel := bitOf w0 1, tag := t.1, swap := bitOf w0 3, span := x.span, unit := bitsOf w0 16 14, sec := bitOf w0 4 }
  let s := { t.2 with spDts := t.2.spDts ++ [e] }
  if e.tunnel then s.dtSend e
  else if s.spanLinkUp then s.dtSendLink d.half
  else s.dtResult (· == e) rsLinkDown []

/-- An access to the aperture at offset `off`: `data` is what a write carries. -/
def State.spanAccess (s : State) (acc : Access) (mst off size : Nat) (data : Option (List Nat)) (excl : Bool)
    (backlog : Nat) : State :=
  match acc.master with
  | .shep => s.sbRefuse sbNoPage
  | .half h =>
    if !s.domainOn 6 || !spanShape off size then s.answer .busError
    else
      let data := data.map (fun (l : List Nat) => octs l size)
      let d : SpDt := {
        half := h, master := mst, addr := 0x1000000000 + off, size := size, secure := acc.secure, vi := acc.vi.val,
        data := data }
      let s := s.dtDiscard (fun age => decide (s.discardNs < age))
      match s.dtFind d with
      | some x => if x.result.isSome then s.dtCollect x else s.spanRetry h
      | none =>
        s.spanCheck acc h off size data.isSome excl (fun s x =>
          match data with
          | some l => if s.bit (spowReg x.win 0) 2 then s.dtNew h (·.dtAlloc d x) else s.spanPost h x size l backlog
          | none => s.dtNew h (·.dtAlloc d x))

/-- OUTBOUND_POSTED_WRITE: a write to the aperture. -/
def execOutboundPostedWrite (acc : Access) (mst : Fin 64) (off : BitVec 32) (octs : List Nat) (excl : Bool)
    (backlog : Fin 33) (s : State) : Host.Outcome State Fault Refusal :=
  .next (s.spanAccess acc mst.val off.toNat octs.length (some octs) excl backlog.val)

/-- DELAYED_TRANSACTION: a read of the aperture, or a write of it. -/
def execDelayedTransaction (acc : Access) (mst : Fin 64) (off : BitVec 32) (size : Fin 65) (data : Option (List Nat))
    (excl : Bool) (s : State) : Host.Outcome State Fault Refusal :=
  .next (s.spanAccess acc mst.val off.toNat size.val data excl 0)

/-! ## FENCE (R504) -/

/-- A read of FENCE: a delayed transaction whose result is there once every posted write of the half is answered. -/
def fenceRead (acc : Access) (mst : Nat) (s : State) : State :=
  let key := spanReg Reg.Span.FENCE
  s.read acc 4 key (fun acc s =>
    match acc.master with
    | .shep =>
      let f := s.freshBool
      f.2.answer (.data (word (s.pwf.length + 256 * b2n f.1)))
    | .half h =>
      let s := s.dtDiscard (fun age => decide (s.discardNs < age))
      let d : SpDt := {
        half := h, master := mst, addr := key, size := 4, secure := acc.secure, vi := acc.vi.val, data := none, fence := true }
      match s.dtFind d with
      | some x => if x.result.isSome then s.dtCollect x else s.spanRetry h
      | none => s.dtNew h (fun s =>
          let w := (s.spPosts.filter (fun (p : SpPost) => p.half == h)).map (fun (p : SpPost) => (p.tunnel, p.tag))
          let bad := Tbl.get 0 s.spFail h.idx == 1
          let e := { d with
            waits := w, failed := bad, result := if w.isEmpty then some (rsOk, [], s.tbfNs) else none }
          let s := s.onlyIf bad (fun s => { s with spFail := Tbl.set 0 s.spFail h.idx 2 })
          { s with spDts := s.spDts ++ [e] }))

def execFenceRead (acc : Access) (mst : Fin 64) (s : State) : Host.Outcome State Fault Refusal :=
  .next (fenceRead acc mst.val s)

/-! ## Answers (R501, R503) -/

/-- The next answer of a kind for a half on a transport, taken from those on their way. A completion waits for the
posted writes the far side sent before it (R501). -/
def State.nextAns (s : State) (h : Half) (tun : Bool) (what : Nat) : Option SpAns :=
  match s.spAns.find? (fun (r : SpAns) => r.half == h && r.tunnel == tun && r.what == what) with
  | none => none
  | some r =>
    let far := if tun then s.spIn.filter (fun (q : SpReq) => q.tunnel && q.kind == 0 && q.unit == r.unit)
      else s.spBuf false h.other true
    if what = 0 && far.any (fun (q : SpReq) => decide (q.seq < r.seq)) then none else some r

/-- An answer is taken. -/
def State.takeAns (s : State) (r : SpAns) : State := { s with spAns := s.spAns.filter (fun (x : SpAns) => x != r) }

/-- Whether a delayed transaction is the one an answer names. -/
def SpAns.forDt (r : SpAns) (d : SpDt) : Bool :=
  d.half == r.half && d.tunnel == r.tunnel && d.tag == r.tag && d.sent.isSome && (!r.tunnel || d.unit == r.unit)

/-- Whether a posted write is the one an answer names. -/
def SpAns.forPost (r : SpAns) (p : SpPost) : Bool :=
  p.half == r.half && p.tunnel == r.tunnel && p.tag == r.tag && (!r.tunnel || p.unit == r.unit)

/-- A tunnel result that nothing waits for (R500). -/
def State.strayAns (s : State) (tun : Bool) : State := s.onlyIf tun (·.count (spanReg Reg.Span.TUN_RX_DROP))

/-- SPAN_CPL_RX: the next completion for half h reaches its entry. -/
def spanCplRx (h : Half) (tun : Bool) (s : State) : State :=
  match s.nextAns h tun 0 with
  | none => s
  | some r =>
    let s := s.takeAns r
    if s.spDts.any (fun (d : SpDt) => r.forDt d && d.result.isNone && !d.fence) then s.dtResult r.forDt r.reason r.data
    else s.strayAns tun

def execSpanCplRx (h : Half) (tun : Bool) (s : State) : Host.Outcome State Fault Refusal := .next (spanCplRx h tun s)

/-- SPAN_ACK_RX: the next ACK for half h. -/
def spanAckRx (h : Half) (tun : Bool) (s : State) : State :=
  match s.nextAns h tun 1 with
  | none => s
  | some r =>
    let s := s.takeAns r
    match s.spPosts.find? r.forPost with
    | some p => s.postDone p false
    | none => s.strayAns tun

def execSpanAckRx (h : Half) (tun : Bool) (s : State) : Host.Outcome State Fault Refusal := .next (spanAckRx h tun s)

/-- SPAN_WFAIL_RX: the next WRITE_FAILED answer for half h is entered in the log. -/
def spanWfailRx (h : Half) (tun : Bool) (s : State) : State :=
  match s.nextAns h tun 2 with
  | none => s
  | some r =>
    let s := s.takeAns r
    match s.spPosts.find? r.forPost with
    | some p => s.postFailed p r.reason
    | none => s.strayAns tun

def execSpanWfailRx (h : Half) (tun : Bool) (s : State) : Host.Outcome State Fault Refusal := .next (spanWfailRx h tun s)

/-- PWF_POP: the oldest record is discarded (R510). -/
def execPwfPop (acc : Access) (v : Word) (s : State) : Host.Outcome State Fault Refusal :=
  .next (s.write acc 4 (spanReg Reg.Span.PWF_POP) v (fun _ s => s.onlyIf (bitOf v 0) (fun s => s.setPwf s.pwf.tail)))

/-! ## Time and the link's loss (R499, R500, R505) -/

/-- DT_DISCARD_TIMER: results that have waited DISCARD_TIMER are freed. -/
def execDtDiscardTimer (s : State) : Host.Outcome State Fault Refusal :=
  .next (s.dtDiscard (fun age => decide (s.discardNs ≤ age)))

/-- TUNNEL_TIMEOUT: tunnel requests without a result within TUN_TIMEOUT of their sending end with TIMEOUT (R500). -/
def tunnelTimeout (s : State) : State :=
  let lim := max 1 (s.fld (spanReg Reg.Span.DR_CFG) 16 16) * 1000
  let now := s.tbfNs
  let late (t : Nat) : Bool := decide (t + lim ≤ now)
  if !s.domainOn 6 || s.gated 2 then s
  else
    let s := s.each (s.spPosts.filter (fun (p : SpPost) => p.tunnel && late p.time)) (fun s p => s.postFailed p rsTimeout)
    s.dtResult (fun d => d.tunnel && (match d.sent with | some t => late t | none => false)) rsTimeout []

def execTunnelTimeout (s : State) : Host.Outcome State Fault Refusal := .next (tunnelTimeout s)

/-- SPAN_LINK_DOWN: outstanding link requests end with LINK_DOWN, the buffers are emptied, credits return (R505). -/
def spanLinkDown (s : State) : State :=
  if s.spanLinkUp then s
  else
    let s := { s with
      spIn := s.spIn.filter (fun (r : SpReq) => r.tunnel),
      spAns := s.spAns.filter (fun (r : SpAns) => r.tunnel) }
    let s := s.each (s.spPosts.filter (fun (p : SpPost) => !p.tunnel)) (fun s p => s.postFailed p rsLinkDown)
    let s := s.dtResult (fun d => !d.tunnel) rsLinkDown []
    (s.count (spanReg Reg.Span.LINK_DOWN_CNT)).raise spanBase 19

def execSpanLinkDown (s : State) : Host.Outcome State Fault Refusal := .next (spanLinkDown s)

/-! ## Frames (R489, R506 to R508) -/

/-- Whether a frame at a host port is a Span frame. -/
def RxItem.isSpan (x : RxItem) : Bool := etherType x.octs == 0x88B6

/-- The bridge takes a tunnel frame of a class: `p` its payload. -/
def State.spanClass (s : State) (h : Half) (cls sender src : Nat) (p : List Nat) : State :=
  let drop := s.count (spanReg Reg.Span.TUN_RX_DROP)
  let tag := be p 2 2
  let dst := if sender = 1 then Half.b else .a
  if cls = 2 then { s with dirIn := s.dirIn ++ [(false, (List.range 8).map (fun i => word ((List.range 4).foldl
      (fun x k => x + p.getD (4 * i + k) 0 * 256 ^ k) 0)))] }
  else if cls = 3 then
    let kind := p.getD 0 0 % 4
    let size := p.getD 1 0
    if kind = 3 || size = 0 || 64 < size then drop
    else
      let posted := kind == 0
      if (if posted then 64 else 32) ≤ (s.spBuf true h posted).length then
        let s := s.count (spanReg Reg.Span.IN_REFUSED)
        if posted then s.spanSend h src 6 sender ([rsBusy, 0] ++ bigEnd 2 tag ++ bigEnd 8 (be p 4 8))
        else s.spanSend h src 4 sender ([rsBusy, 0] ++ bigEnd 2 tag)
      else s.spPush ⟨true, h, src, sender, kind, tag, be p 4 8, size, octs (p.drop 12) size, false, 0⟩
  else if cls = 4 then
    s.spReply ⟨true, dst, src, tag, 0, p.getD 0 0 % 16, octs (p.drop 4) (p.getD 1 0), 0, 0⟩
  else if cls = 5 then s.spReply ⟨true, dst, src, tag, 1, rsOk, [], 0, 0⟩
  else s.spReply ⟨true, dst, src, tag, 2, p.getD 0 0 % 16, [], be p 4 8, 0⟩

/-- SPAN_FRAME_RX: the first Span frame at half h's host port; while CKG2 is gated, the first Bark frame (R317). -/
def spanFrameRx (h : Half) (s : State) : State :=
  match (s.hostRx h).find? (fun (x : RxItem) => x.isSpan && (isBark x.octs || !s.gated 2)) with
  | none => s
  | some x =>
    let l := x.octs.drop (payloadAt x.octs)
    let ver := l.getD 0 0 / 16
    let cls := l.getD 0 0 % 16
    if !s.domainOn 6 then s
    else
      let s := s.setHostRx h ((s.hostRx h).erase x)
      let p := (l.drop 8).take (be l 6 2)
      if isBark x.octs then barkArrives h true (BitVec.ofNat 64 (be p 0 8)) s
      else if ver ≠ 1 ∨ cls = 0 ∨ 6 < cls ∨ be l 4 2 % 2 ^ 14 ≠ s.selfUnit ∨ !s.tunEn then
        s.count (spanReg Reg.Span.TUN_RX_DROP)
      else s.spanClass h cls (l.getD 1 0 / 64) (be l 2 2 % 2 ^ 14) p

def execSpanFrameRx (h : Half) (s : State) : Host.Outcome State Fault Refusal := .next (spanFrameRx h s)

/-! ## Reads (R510) -/

/-- SPAN_STAT as it stands. -/
def State.spanStat (s : State) : Word :=
  let n (h : Half) : Nat := (s.spDts.filter (fun (d : SpDt) => d.half == h)).length
  word (b2n s.spanLinkUp + n .a * 2 ^ 8 + n .b * 2 ^ 16)

end Sys2Proof.Machine
end

