-- ==== Sys2Proof/Machine/Msgs.lean ====
section
/-! DEFINITION. The unit directory's messages: sending, returns and the misroute queues (R58, R59, R62, R63, R628). -/

namespace Sys2Proof.Machine

def dirReg (off : Nat) : Nat := dirBase + off

/-- Key of MSG_TX0 of a sender's message registers: the half's MSG page, SHEP from 0x200 for Shepherd (R63, R628). -/
def Master.msgRegs : Master → Nat
  | .half h => msgBase h.idx + Reg.Msg.MSG_TX
  | .shep => shepBase + Reg.Shep.MSG_TX

/-- Offsets from MSG_TX0 to the other message registers, the same on both pages (R628). -/
def mSend : Nat := 0x20
def mStat : Nat := 0x24
def mHead : Nat := 0x40
def mPop : Nat := 0x60
def mCount : Nat := 0x64

/-- The address at which a sender reaches its message registers. -/
def Master.msgAddr : Master → Nat
  | .half _ => msgBase 0 + Reg.Msg.MSG_TX
  | .shep => shepBase + Reg.Shep.MSG_TX

/-- SENDER code of R59. -/
def Master.sender : Master → Nat
  | .half h => h.idx | .shep => 2

/-- The misroute queue of a sender. -/
def State.mrq (s : State) : Master → List (List Word)
  | .half .a => s.mrqA | .half .b => s.mrqB | .shep => s.mrqS

/-- A misroute queue set; MRQ_HEAD and MRQ_COUNT show it (R63). -/
def State.setMrq (s : State) (m : Master) (q : List (List Word)) : State :=
  let s := match m with
    | .half .a => { s with mrqA := q }
    | .half .b => { s with mrqB := q }
    | .shep => { s with mrqS := q }
  let hd := q.headD []
  let s := s.each (List.range 8) (fun s i => s.wr (m.msgRegs + mHead + 4 * i) (hd.getD i 0))
  s.wrN (m.msgRegs + mCount) q.length

/-- A counter of DIR counts while the directory has power. -/
def State.dirCount (s : State) (off : Nat) : State := s.onlyIf (s.domainOn 6) (·.count (dirReg off))

/-- A returned message is queued for its SENDER, or dropped and counted in LOST_CNT (R62). -/
def State.mrqPush (s : State) (w : List Word) : State :=
  let m : Option Master := match bitsOf (w.getD 1 0) 14 2 with
    | 0 => some (.half .a) | 1 => some (.half .b) | 2 => some .shep | _ => none
  let lost := s.dirCount Reg.Dir.LOST_CNT
  match m with
  | none => lost
  | some m =>
    let on := match m with | .half h => s.domainOn h.pd | .shep => true
    if !on || 64 ≤ (s.mrq m).length then lost else s.setMrq m (s.mrq m ++ [w])

/-- A message with its REASON set. -/
def withReason (w : List Word) (r : Nat) : List Word := w.set 2 (setBits (w.getD 2 0) 16 4 r)

/-- REASON codes (R62). -/
def msgMisrole : Nat := 1
def msgNoUnit : Nat := 2
def msgNoRoute : Nat := 3

/-- A directory entry (R57). -/
def State.dirEntry (s : State) (unit : Nat) : Word := s.rd (dirtabBase + 4 * (unit % 16384))

/-- Octets of a message: eight little-endian words (R507). -/
def msgOctets (w : List Word) : List Nat := w.flatMap octets

/-- Whether the egress link toward a host is down (R62): no power for the switch, or the forwarding database names ports
for the host's address and no link of theirs is up. -/
def State.egressDown (s : State) (h : Half) (host : Nat) : Bool :=
  !s.domainOn 6 ||
    (match s.fdbFind (s.unitMac host) (s.fld (fwdReg Reg.Fwd.IN_CFG + 4 * hostPort h) 0 12) with
     | some i =>
       let e := s.fdbEnt i
       let ports := (List.range 29).filter (fun p => bitOf (entWord e 2) p)
       !bitOf (entWord e 2) 30 && !bitOf (entWord e 2) 29 && !ports.isEmpty && ports.all (fun p => !s.portUp p)
     | none => false)

/-- The half whose host port carries a sender's frames: its own, the active half's for Shepherd (R595). -/
def State.msgPort (s : State) : Master → Half
  | .half h => h | .shep => s.activeHalf

/-- Whether a module cannot send a directory message to a host (R62): its egress link is down, or the tunnel, which carries
directory messages, does not operate (R488). -/
def State.noRoute (s : State) (h : Half) (host : Nat) : Bool := s.egressDown h host || !s.tunEn

/-- A message goes out (R58, R62): one reading of the directory entry. The HOST entry that R62 calls invalid is the
destination's own entry, which names the HOST (log entry 22). MSG_TX_STAT shows the result. -/
def State.msgOut (s : State) (m : Master) (w : List Word) : State :=
  let w1 := setBits (setBits (w.getD 1 0) 14 2 m.sender) 0 14 s.selfUnit
  let w := withReason (w.set 1 w1) 0
  let e := s.dirEntry (bitsOf (w.getD 0 0) 0 14)
  let host := bitsOf e 16 14
  let stat (s : State) (v : Nat) : State := s.wrN (m.msgRegs + mStat) (2 * v)
  if !s.domainOn 6 || !bitOf e 31 || (!bitOf e 30 && s.noRoute (s.msgPort m) host) then
    stat ((s.dirCount Reg.Dir.NO_ROUTE_CNT).mrqPush (withReason w msgNoRoute)) 1
  else if bitOf e 30 then stat { s with dirIn := s.dirIn ++ [(true, w)] } 0
  else stat (s.spanSend (s.msgPort m) host 2 m.sender (msgOctets w)) 0

/-- MSG_SEND.GO captures MSG_TX0 to MSG_TX7 and sends (R63, R628). -/
def msgGo (m : Master) (v : Word) (s : State) : State :=
  s.onlyIf (bitOf v 0) (fun s => s.msgOut m ((List.range 8).map (fun i => s.rd (m.msgRegs + 4 * i))))

def execMsgSend (acc : Access) (v : Word) (s : State) : Host.Outcome State Fault Refusal :=
  .next (s.write acc 4 (acc.master.msgAddr + mSend) v (fun acc => msgGo acc.master v))

/-- MRQ_POP.POP discards the oldest returned message (R63). -/
def mrqPop (m : Master) (v : Word) (s : State) : State := s.onlyIf (bitOf v 0) (fun s => s.setMrq m (s.mrq m).tail)

def execMrqPop (acc : Access) (v : Word) (s : State) : Host.Outcome State Fault Refusal :=
  .next (s.write acc 4 (acc.master.msgAddr + mPop) v (fun acc => mrqPop acc.master v))

/-- MSG_RETURN: the first returned message that has arrived is queued (R62). -/
def msgReturn (s : State) : State :=
  match s.dirBack with
  | [] => s
  | w :: ws => { s with dirBack := ws }.mrqPush w

def execMsgReturn (s : State) : Host.Outcome State Fault Refusal := .next (msgReturn s)

/-- A message is returned to its sender's module with a REASON, or dropped where it cannot be sent (R62). -/
def State.msgBack (s : State) (w : List Word) (reason : Nat) : State :=
  let src := bitsOf (w.getD 1 0) 0 14
  let w := withReason w reason
  if src = s.selfUnit then { s with dirBack := s.dirBack ++ [w] }
  else if s.noRoute s.activeHalf src then s.dirCount Reg.Dir.LOST_CNT
  else s.spanSend s.activeHalf src 2 (bitsOf (w.getD 1 0) 14 2) (msgOctets w)

end Sys2Proof.Machine
end

