-- ==== Sys2Proof/Machine/UnitCmd.lean ====
section
/-! DEFINITION. UNIT_CTRL: what each unit type does with a command, PRST of a page, and the fan-out of a composite's
commands to its members (R25, R27, R49 to R51). -/

namespace Sys2Proof.Machine

/-! ## PRST -/

/-- Class-X registers of a page kind that store nothing of their own: they show a level, a link or another unit's state as
it stands (log entry 17). -/
def prstKeeps : PageKind → List Nat
  | .port => [Reg.Port.PORT_STAT]
  | .can => [Reg.Can.CAN_STAT]
  | .di => [Reg.Di.DI_LEVEL, Reg.Di.DI_LEVEL + 4, Reg.Di.DI_LEVEL + 8]
  | .enc => [Reg.Enc.ENC_LEVEL]
  | .ls => [Reg.Ls.LS_LEVEL]
  | .lh => [Reg.Lh.LH_LEVEL]
  | .sport => [Reg.Sport.SP_STAT]
  | .shep => [Reg.Shep.SHEP_STAT]
  | .sadc => [Reg.Sadc.SADC_STAT]
  | _ => []

/-- The class-X registers of a page are lost (R13, R15); of UNIT_STAT the unit's condition stays, and BUSY, CMD_RESULT and
the violation flags are lost. A tile's own copies are the tile's. -/
def State.prstRegs (s : State) (p : Page) : State :=
  let k := p.base + Reg.Hdr.UNIT_STAT
  let keeps (key : Nat) : Bool := key == k || (prstKeeps p.kind).contains (key % 0x1000)
  let s := s.loseRegs (fun key =>
    key / 0x100000000 != 2 && keyIs (fun q => q.base == p.base) (· == .x) key && !keeps key)
  s.wr k (s.rd k &&& 0xFFFF003F)

/-- What a page's blocks hold of class X beyond the registers, and what the page's status and the sums above it derive from
the registers it has lost. -/
def State.prstHidden (s : State) (p : Page) : State :=
  match p.kind with
  | .chan => ({ s with convAt := s.convAt.del p.idx }.refreshChan p.idx).each (s.above p.idx) State.resum
  | .tile => s.resum 1
  | .cg => s.each ((s.groupChain 6 (s.parentOf p.idx)).map (0xC0 + ·)) State.resum
  | .port => { s with tdrVf := s.tdrVf.del p.idx }.setBit (portReg p.idx Reg.Port.PORT_STAT) 3 false
  | .half => s.losePathStat (halfOf p.idx)
  | .sadc => (s.setAdc p.idx { s.adc p.idx with samples := [], capImm := false }).setBit
      (sadcReg p.idx Reg.Sadc.SADC_STAT) 5 false
  | .tb => { s with time := { s.time with snapReq := [] } }
  | .ec => s.loseEc p.idx
  | _ => s

/-- PRST of a page (R25); its result is the unit's. -/
def State.prst (s : State) (p : Page) : State := ((s.prstRegs p).prstHidden p).cmdResult p.prim .done

/-! ## Fan-out -/

/-- The fan-out of composite l in progress. -/
def State.fan (s : State) (l : Nat) : Option Fan := (s.fans.find? (fun e => e.1 == l)).map (·.2)

/-- The fan-out of composite l set. -/
def State.setFan (s : State) (l : Nat) (f : Fan) : State := { s with fans := s.fans.put l f }

/-- ON, OFF or CLEAR of a composite (R49, R50): BUSY until its last member's result is known; without members, DONE at
once. -/
def State.startFan (s : State) (acc : Access) (l cmd : Nat) : State :=
  let b := compBase l
  if s.busy b then s.cmdResult b .busy
  else if (s.members l).isEmpty then s.cmdResult b .done
  else (s.setBusy b true).setFan l { cmd := cmd, acc := acc, rest := s.members l }

/-- A command reaches a member (R49). -/
def State.deliver (s : State) (acc : Access) (m cmd : Nat) : State :=
  if 0x100 ≤ m then
    (if cmd = cmdOn then channelOn acc (m - 0x100) s
     else if cmd = cmdOff then channelOff acc (m - 0x100) s
     else channelClear acc (m - 0x100) s)
  else s.startFan acc m cmd

/-- Whether a member reports DONE. -/
def State.memberDone (s : State) (m : Nat) : Bool := s.fld (compBase m + Reg.Hdr.UNIT_STAT) 7 3 == CmdResult.done.code

/-- Fan-out ends: DONE if every member reported DONE, else PARTIAL (R50). -/
def State.endFan (s : State) (l : Nat) (f : Fan) : State :=
  ({ s with fans := s.fans.del l }.setBusy (compBase l) false).cmdResult (compBase l) (if f.allDone then .done else .partly)

/-- The awaited member's result is taken where it is known. -/
def State.fanTake (s : State) (f : Fan) : Fan :=
  match f.cur with
  | some m => if s.busy (compBase m) then f else { f with cur := none, allDone := f.allDone && s.memberDone m }
  | none => f

/-- FAN_OUT_STEP (R49 to R51): once the member before has its result the next receives the command; a member that is busy
with a command of its own answers BUSY; a CLEAR that finds its tile's link full is delivered later. -/
def fanOutStep (l : Nat) (s : State) : State :=
  match s.fan l with
  | none => s
  | some f0 =>
    let f := s.fanTake f0
    match f.cur, f.rest with
    | some _, _ => s
    | none, [] => s.endFan l f
    | none, m :: ms =>
      let was := s.busy (compBase m)
      let t := { s with resp := .none }.deliver f.acc m f.cmd
      if t.resp = .stalled then s.setFan l f
      else
        let t := { t with resp := s.resp }
        let g := if was then { f with rest := ms, allDone := false } else t.fanTake { f with rest := ms, cur := some m }
        if g.cur.isNone && g.rest.isEmpty then t.endFan l g else t.setFan l g

def execFanOutStep (comp : Nat) (s : State) : Host.Outcome State Fault Refusal := .next (fanOutStep comp s)

/-! ## UNIT_CTRL -/

/-- What a unit does with ON, OFF, CLEAR, HALT and RESUME; none where its type does not support the command (R27). -/
def unitEffect (acc : Access) (p : Page) (cmd : Nat) : Option (State → State) :=
  match p.kind with
  | .chan => if cmd = 1 then some (channelOn acc p.idx) else if cmd = 2 then some (channelOff acc p.idx)
      else if cmd = 3 then some (channelClear acc p.idx) else none
  | .sys => if cmd ≤ 3 then some (·.startFan acc 1 cmd) else none
  | .tile => if cmd ≤ 3 then some (·.startFan acc (0x20 + p.idx) cmd) else none
  | .cg => if cmd ≤ 3 then some (·.startFan acc (0xC0 + p.idx) cmd) else none
  | .dom => if cmd = 1 then some (domainOn p.idx) else if cmd = 2 then some (domainOff p.idx) else none
  | .half =>
    let h := halfOf p.idx
    if cmd = 3 then some (halfClear h) else if cmd = 5 then some (halfHalt h) else if cmd = 6 then some (halfResume acc h) else none
  | .port => if cmd = 1 then some (portCmd p.idx true) else if cmd = 2 then some (portCmd p.idx false) else none
  | .can => if cmd = 3 then some (canClear p.idx) else none
  | _ => none

/-- A command of UNIT_CTRL on a primary page (R25, R27, R51). -/
def unitCmd (acc : Access) (p : Page) (cmd : Nat) (s : State) : State :=
  if cmd = 0 then s
  else if s.busy p.base then s.cmdResult p.base .busy
  else if cmd = 4 then
    (if p.kind = .vi then s.cmdResult p.base .unsupported
     else if p.kind = .dom then domainPrst p.idx s
     else s.prst p)
  else if 7 ≤ cmd then s.cmdResult p.base .unsupported
  else
    match unitEffect acc p cmd with
    | some f => f s
    | none => s.cmdResult p.base .unsupported

/-- A write of UNIT_CTRL. The half-local pages and the other pages of a multi-page unit ignore it (R19, R650); KEYS, VAULT
and the counter banks answer it on their unit's primary page (R536, R565). -/
def unitCtrl (acc : Access) (p : Page) (v : Word) (s : State) : State :=
  let cmd := bitsOf v 0 4
  match p.kind with
  | .local | .msg => s
  | .keys =>
    if cmd = 0 then s
    else if cmd = 4 then (((s.setFld (keysReg Reg.Keys.KS_STAT) 0 4 0).clearShKey).prst p)
    else s.cmdResult ciphBase .unsupported
  | .vault => if cmd = 0 then s else s.cmdResult ciphBase .unsupported
  | .ec => if cmd = 0 then s else if cmd = 4 then s.prst p else s.cmdResult (ecBase 0) .unsupported
  | _ => if p.isPrimary then unitCmd acc p cmd s else s

end Sys2Proof.Machine
end

