-- ==== Sys2Proof/Machine/BusWrite.lean ====
section
/-! DEFINITION. What a write of a register does: the page header, the registers of each page kind whose write has an
effect of its own, and for all others the field kinds of R10. -/

namespace Sys2Proof.Machine

/-- Key of a register of a page as a master reaches it: banked registers in the master's bank (R75, R465). -/
def State.regKey (s : State) (acc : Access) (p : Page) (off : Nat) : Nat :=
  match p.kind with
  | .tb => if Reg.Tb.SNAP_STAT ≤ off then bank acc.master.bankNo (p.base + off) else p.base + off
  | .vi => if 0x60 ≤ off ∧ off < 0x90 then bank (s.viBank acc).idx (p.base + off) else p.base + off
  | _ => p.base + off

/-- A write by the field kind of its register (R10, R39). -/
def plainWrite (acc : Access) (p : Page) (off : Nat) (v : Word) (s : State) : State :=
  match p.row off with
  | none => s
  | some (r, _) =>
    let k := s.regKey acc p off
    let w := r.store (s.rd k) v
    match r.acc with
    | .rwp => s.writeP acc p.prim k w
    | .rwl => if s.fieldLocked p then s.lockedWrite acc p.prim else s.wr k w
    | .rw | .rwt | .w1c | .w1s => s.wr k w
    | .ro | .wo | .rc => s

/-! ## The header -/

/-- A write of OWNER that R34 let pass (R36, R39, R55): judged by R36, then by OWNER_LOCK. -/
def ownerWrite (acc : Access) (p : Page) (addr : Nat) (v : Word) (s : State) : State :=
  let k := p.base + Reg.Hdr.OWNER
  let old := s.rd k
  let new := v &&& 0x7FF
  let viChg := bitsOf old 1 7 != bitsOf new 1 7
  let halfChg := bitsOf old 8 2 != bitsOf new 8 2
  let needsSec := bitOf old 0 || bitOf old 0 != bitOf new 0 || halfChg
  if (needsSec && !acc.secure) || (viChg && acc.vi.val != 0 && acc.master != .shep) then s.failWrite acc p.prim addr sbSecure
  else if s.ownerLocked p then s.lockedWrite acc p.prim
  else
    let unit := match p.kind with | .local | .msg => halfBase p.idx | _ => p.prim
    (s.wr k new).onlyIf (viChg || halfChg) (·.bumpGen unit)

/-- IRQ_CLR and IRQ_FORCE (R29, R30); HRN's EVIRQ stays while its condition stands (R11, R140). -/
def irqClr (p : Page) (v : Word) (s : State) : State :=
  (s.wr (p.base + Reg.Hdr.IRQ_RAW) (s.rd (p.base + Reg.Hdr.IRQ_RAW) &&& ~~~(v &&& word p.irqMask))).onlyIf
    (p.base == hrnBase) (·.evirqRaise)
def irqForce (p : Page) (v : Word) (s : State) : State :=
  s.wr (p.base + Reg.Hdr.IRQ_RAW) (s.rd (p.base + Reg.Hdr.IRQ_RAW) ||| (v &&& word p.irqMask))

/-- A write of a header register (R19, R23). -/
def headerWrite (acc : Access) (p : Page) (addr off : Nat) (v : Word) (s : State) : State :=
  if off = Reg.Hdr.UNIT_CTRL then unitCtrl acc p v s
  else if off = Reg.Hdr.OWNER then ownerWrite acc p addr v s
  else if off = Reg.Hdr.LOCK then s.wr (p.base + off) (s.rd (p.base + off) ||| (v &&& 3))
  else if !p.isPrimary then s
  else if off = Reg.Hdr.UNIT_STAT then s.wr (p.base + off) (s.rd (p.base + off) &&& ~~~(v &&& 0xC00))
  else if off = Reg.Hdr.IRQ_EN then s.wr (p.base + off) (v &&& word p.irqMask)
  else if off = Reg.Hdr.IRQ_CLR then irqClr p v s
  else if off = Reg.Hdr.IRQ_FORCE then irqForce p v s
  else s

/-! ## Registers with an effect of their own, by page kind -/

/-- Index of a register of an array that begins at an offset, with a stride. -/
def arrIdx (off first stride : Nat) : Nat := (off - first) / stride

def sysWrite (acc : Access) (p : Page) (off : Nat) (v : Word) : State → State :=
  if off = Reg.Sys.DBG_EN then dbgEnWrite acc v
  else if off = Reg.Sys.DBG_LOCK then dbgLockWrite acc v
  else plainWrite acc p off v

def msgWrite (acc : Access) (p : Page) (off : Nat) (v : Word) : State → State :=
  if off = Reg.Msg.MSG_SEND then msgGo (.half (halfOf p.idx)) v
  else if off = Reg.Msg.MRQ_POP then mrqPop (.half (halfOf p.idx)) v
  else plainWrite acc p off v

def tbWrite (acc : Access) (p : Page) (off : Nat) (v : Word) : State → State :=
  if off = Reg.Tb.SNAP then (·.onlyIf (bitOf v 0) (snapGo acc.master)) else plainWrite acc p off v

def clkWrite (acc : Access) (p : Page) (off : Nat) (v : Word) : State → State :=
  if off = Reg.Clk.INC_LO then incLoWrite p.idx v
  else if off = Reg.Clk.INC_HI then incHiWrite p.idx v
  else if off = Reg.Clk.SLEW_CTRL then
    (if bitOf v 1 then slewCancel p.idx else if bitOf v 0 then slewGo p.idx else id)
  else if off = Reg.Clk.OFS_CTRL then (if bitOf v 0 then ofsGo p.idx else id)
  else plainWrite acc p off v

def tbcapWrite (acc : Access) (p : Page) (off : Nat) (v : Word) : State → State :=
  if off = Reg.Tbcap.CAP_POP then (·.onlyIf (bitOf v 0) (capPop (halfOf p.idx))) else plainWrite acc p off v

def hrnWrite (acc : Access) (p : Page) (off : Nat) (v : Word) : State → State :=
  if Reg.Hrn.LINE_SET ≤ off ∧ off < Reg.Hrn.LINE_SET + 16 then lineWrite acc (arrIdx off Reg.Hrn.LINE_SET 4) true v
  else if Reg.Hrn.LINE_CLR ≤ off ∧ off < Reg.Hrn.LINE_CLR + 16 then lineWrite acc (arrIdx off Reg.Hrn.LINE_CLR 4) false v
  else if Reg.Hrn.GATE_STATE ≤ off ∧ off < Reg.Hrn.GATE_STATE + 32 then gateWrite (arrIdx off Reg.Hrn.GATE_STATE 4) v
  else if off = Reg.Hrn.EVIRQ_EN then (fun s => (plainWrite acc p off v s).evirqRaise)
  else plainWrite acc p off v

/-- Configuration of a domain: writable in OFF only, else ignored with CFG_IGNORED (R97). DEDUCED: LINE_LINES and LINE_PERIOD
are source configuration as the other registers are, although R107 has software write LINE_PERIOD before LINE_MSG_GO (log
entry 87). -/
def domConfig (off : Nat) : Bool :=
  decide (Reg.Dom.SRC_CFG ≤ off ∧ off ≤ Reg.Dom.STALL_TIMEOUT) && off != Reg.Dom.LINE_MSG_SEC && off != Reg.Dom.LINE_MSG_NS &&
    off != Reg.Dom.LINE_MSG_GO

def domWrite (acc : Access) (p : Page) (off : Nat) (v : Word) (s : State) : State :=
  if off = Reg.Dom.LINE_MSG_GO then s.onlyIf (bitOf v 0) (lineMsgGo p.idx)
  else if domConfig off && (s.dom p.idx).st != .off then s.setBit (p.base + Reg.Dom.DOM_STAT) 4 true
  else plainWrite acc p off v s

def evtWrite (acc : Access) (p : Page) (off : Nat) (v : Word) : State → State :=
  if off < Reg.Evt.ENTRY then plainWrite acc p off v
  else
    let i := 128 * p.idx + arrIdx off Reg.Evt.ENTRY 16
    let j := (off - Reg.Evt.ENTRY) / 4 % 4
    if j = 1 then evtCommit i v else evtShadowWrite i j v

/-- GCFG is written: an output whose level its POL or OUT_EN moves has an edge (R139, R151). -/
def gcfgWrite (acc : Access) (p : Page) (v : Word) (s : State) : State :=
  (plainWrite acc p Reg.Tpo.GCFG v s).each (List.range 8) (fun u k => u.toEdge s k)

def tpoWrite (acc : Access) (p : Page) (off : Nat) (v : Word) : State → State :=
  if Reg.Tpo.TO_CTRL ≤ off ∧ off < Reg.Tpo.GCFG ∧ off % 0x40 = 0 then toCtrlWrite (arrIdx off Reg.Tpo.TO_CTRL 0x40) v
  else if off = Reg.Tpo.GCFG then gcfgWrite acc p v
  else plainWrite acc p off v

def tileWrite (acc : Access) (p : Page) (off : Nat) (v : Word) : State → State :=
  if off = Reg.Tile.LEASH_CTRL then leashCtrl acc.master p.idx v
  else if off = Reg.Tile.TRST_REQ then trstReq acc.master p.idx v
  else if off = Reg.Tile.STAY_TIME then policyWrite acc p.idx 16 v
  else plainWrite acc p off v

def chanWrite (acc : Access) (p : Page) (off : Nat) (v : Word) : State → State :=
  if rwtOffs.contains off then rwtWrite acc.master p.idx off v
  else if off = Reg.Chan.CH_POL then policyWrite acc (p.idx / 16) (p.idx % 16) v
  else plainWrite acc p off v

def sadcWrite (acc : Access) (p : Page) (off : Nat) (v : Word) : State → State :=
  if off = Reg.Sadc.SW_CONV then swConv p.idx v
  else if off = Reg.Sadc.CAP_CTRL then capCtrl p.idx v
  else if off = Reg.Sadc.FMON_CLR then fmonClr v
  else plainWrite acc p off v

def cgWrite (acc : Access) (p : Page) (off : Nat) (v : Word) : State → State :=
  if off = Reg.Cg.MEMB_CTRL then membWrite acc p.idx v else plainWrite acc p off v

/-- FO_CFG with FEED_WIN limited (R294). -/
def foCfgWord (v : Word) : Word := setBits (v &&& 0xFFFFFFF3) 4 12 (limit 100 1000 (bitsOf v 4 12))

/-- A write of FO_CFG (R293, R294): READY follows; a half in HEEL that may now take over finds a silent peer failed (R275,
R279). -/
def foCfgWrite (h : Half) (v : Word) (s : State) : State :=
  let was := s.takeoverEn h
  let s := (s.wr (hreg h Reg.Half.FO_CFG) (foCfgWord v)).setReady h
  s.onlyIf (!was && s.takeoverEn h) (fun (s : State) => s.silentAt h (if s.role h = roleHeel then roleHeel else roleOffline))

def halfWrite (acc : Access) (p : Page) (off : Nat) (v : Word) : State → State :=
  let h := halfOf p.idx
  if off = Reg.Half.ROLE_CTRL then roleCtrl acc h v
  else if off = Reg.Half.FO_CFG then foCfgWrite h v
  else if Reg.Half.SMR_BASE ≤ off ∧ off < Reg.Half.SMR_BASE + 0x80 then
    smrWrite acc h (arrIdx off Reg.Half.SMR_BASE 8) (off % 8 == 4) v
  else plainWrite acc p off v

def localWrite (acc : Access) (p : Page) (off : Nat) (v : Word) : State → State :=
  let h := halfOf p.idx
  if off = Reg.Local.BARK_FEED then barkFeed h
  else if off = Reg.Local.CMP_EPOCH then cmpEpoch h v
  else if off = Reg.Local.CMP_BASE then cmpBase h v
  else plainWrite acc p off v

def pwrWrite (acc : Access) (p : Page) (off : Nat) (v : Word) : State → State :=
  if off = Reg.Pwr.STATE_REQ then stateReq acc v
  else if off = Reg.Pwr.RST_REQ then rstReq acc v
  else plainWrite acc p off v

def pdcWrite (acc : Access) (p : Page) (off : Nat) (v : Word) : State → State :=
  if off < Reg.Pdc.CKG_CTRL then (if off < Reg.Pdc.PD_CTRL + 48 then pdWrite acc (arrIdx off Reg.Pdc.PD_CTRL 4) v else id)
  else if off < Reg.Pdc.CKG_CTRL + 32 then pdWrite acc (12 + arrIdx off Reg.Pdc.CKG_CTRL 4) v
  else plainWrite acc p off v

def safeWrite (acc : Access) (p : Page) (off : Nat) (v : Word) (s : State) : State :=
  if off = Reg.Safe.INJECT then safeInject v s
  else if Reg.Safe.REACT0 ≤ off ∧ off ≤ Reg.Safe.REACT5 then
    (if s.fieldLocked p then s.lockedWrite acc p.prim else s.wr (p.base + off) (reactWord (arrIdx off Reg.Safe.REACT0 4) v))
  else plainWrite acc p off v s

def lspWrite (acc : Access) (p : Page) (off : Nat) (v : Word) : State → State :=
  if off = Reg.Lsp.SCRUB_GO then scrubGo p.idx v
  else if off = Reg.Lsp.INJECT then lsInjectWrite acc p.idx v
  else plainWrite acc p off v

/-- The entries of the shadow schedule that are fixed (R390). -/
def rsvFixed (off : Nat) : Bool := off == Reg.Frsv.SHADOW + 4 * 208 || off == Reg.Frsv.SHADOW + 4 * 216

def frsvWrite (acc : Access) (p : Page) (off : Nat) (v : Word) (s : State) : State :=
  if off = Reg.Frsv.RSV_CTRL then (s.onlyIf (bitOf v 1) rsvRevert).onlyIf (bitOf v 0) rsvCommit
  else if rsvFixed off then
    (let k := p.base + off
     s.wr k (setBits (v &&& 0x9F9F9F9F) 0 8 (s.fld k 0 8)))
  else plainWrite acc p off v s

/-- IN_CFG: PVID 0 and 0xFFF are stored as 1 (R425). -/
def inCfgWord (v : Word) : Word :=
  if bitsOf v 0 12 = 0 ∨ bitsOf v 0 12 = 0xFFF then setBits v 0 12 1 else v

def fwdWrite (acc : Access) (p : Page) (off : Nat) (v : Word) : State → State :=
  if off = Reg.Fwd.FDB_CMT then fdbCommit v
  else if Reg.Fwd.IN_CFG ≤ off ∧ off < Reg.Fwd.IN_CFG + 116 then plainWrite acc p off (inCfgWord v)
  else plainWrite acc p off v

def sfltWrite (acc : Access) (p : Page) (off : Nat) (v : Word) : State → State :=
  if off = Reg.Sflt.SF_CMT then sfCommit v else plainWrite acc p off v

def mcgWrite (acc : Access) (p : Page) (off : Nat) (v : Word) : State → State :=
  if off = Reg.Mcg.MG_CMT then mgCommit v else plainWrite acc p off v

/-- PLCA_CFG with NODE_COUNT limited (R434). -/
def plcaWord (v : Word) : Word := setBits v 8 8 (limit 1 32 (bitsOf v 8 8))

/-- PLCA_STAT after a write of PLCA_CFG: STATUS is 0 where PLCA does not run, and NC_SEEN of a coordinator is NODE_COUNT
(R434, R436). -/
def State.plcaNote (s : State) (p : Nat) : State :=
  let k := portReg p Reg.Port.PLCA_STAT
  if !s.plca p then s.setBit k 0 false
  else if s.fld (portReg p Reg.Port.PLCA_CFG) 0 8 = 0 then s.setFld k 8 8 (s.nodeCount p)
  else s

/-- A write of PORT_CFG: ADMIN_EN holds the link down or lets it come up, clearing AN_EN ends the wait for another
negotiation (R431 to R433, R441); P26 to P28 have no such fields. -/
def portCfgWrite (p : Page) (v : Word) (s : State) : State :=
  let n := p.idx
  let k := p.base + Reg.Port.PORT_CFG
  if 26 ≤ n then s
  else
    let was := s.adminEn n
    let s := s.wr k (setBit (v &&& 0x7771) 0 was)
    let s := s.onlyIf (!bitOf v 4) (fun s => { s with anWait := s.anWait.filter (· != n) })
    if was = bitOf v 0 then s else s.setAdmin n (bitOf v 0)

def portWrite (acc : Access) (p : Page) (off : Nat) (v : Word) : State → State :=
  if off = Reg.Port.PORT_CFG then portCfgWrite p v
  else if off = Reg.Port.MAC_CFG then (·.wrN (p.base + off) (limit 64 9216 (bitsOf v 0 14)))
  else if off = Reg.Port.PLCA_CFG then (fun s => (plainWrite acc p off (plcaWord v) s).plcaNote p.idx)
  else if off = Reg.Port.TDR_CTRL then tdrGo p.idx v
  else plainWrite acc p off v

/-- SP_CFG: ADMIN_EN 0 takes the service port's link down, which ends every session (R604, R629). -/
def spCfgWrite (v : Word) (s : State) : State :=
  let s := s.wr (sportReg Reg.Sport.SP_CFG) (v &&& 3)
  if bitOf v 0 then s else spLinkDown s

def sportWrite (acc : Access) (p : Page) (off : Nat) (v : Word) : State → State :=
  if off = Reg.Sport.SP_CFG then spCfgWrite v else plainWrite acc p off v

def linWrite (acc : Access) (p : Page) (off : Nat) (v : Word) : State → State :=
  if off = Reg.Lin.LIN_CFG then plainWrite acc p off (setBits v 16 16 (limit 1000 20000 (bitsOf v 16 16)))
  else plainWrite acc p off v

def aiWrite (acc : Access) (p : Page) (off : Nat) (v : Word) : State → State :=
  if off = Reg.Ai.AI_SW_CONV then aiSwConv v else plainWrite acc p off v

/-- SHARE registers (R486): those of VI0 are reserved. -/
def shareWrite (acc : Access) (p : Page) (off : Nat) (v : Word) : State → State :=
  if off < Reg.Vi0.SHARE_W + 0x10 then id
  else if off % 0x10 = 4 then (·.wrN (p.base + off) (min 25000 (bitsOf v 0 15)))
  else if off % 0x10 = 8 then (·.wrN (p.base + off) (limit 1536 1048576 (bitsOf v 0 21)))
  else plainWrite acc p off v

/-- The steering entry STEER_SEL names. -/
def State.steerSel (s : State) : Nat := s.fld (vi0Reg Reg.Vi0.STEER_SEL) 0 10

def vi0Write (acc : Access) (p : Page) (off : Nat) (v : Word) : State → State :=
  if off = Reg.Vi0.VI_CMD then viCmd v
  else if off = Reg.Vi0.STEER_DATA then (fun s => { s with steer := Tbl.set 0 s.steer s.steerSel (v &&& 0x800003FF) })
  else if Reg.Vi0.CTX_VI ≤ off ∧ off < Reg.Vi0.CTX_VI + 256 then ctxViWrite (arrIdx off Reg.Vi0.CTX_VI 4) v
  else if Reg.Vi0.QASSIGN ≤ off ∧ off < Reg.Vi0.QASSIGN + 512 then qassignWrite (arrIdx off Reg.Vi0.QASSIGN 4) v
  else if Reg.Vi0.SHARE_W ≤ off then shareWrite acc p off v
  else plainWrite acc p off v

/-- Q_CFG (R487): while EN is 1 only EN changes; a SIZE above 12 is stored as 12. -/
def qCfgWord (old v : Word) : Word :=
  if bitOf old 0 then setBit old 0 (bitOf v 0) else setBits (v &&& 0x3F) 2 4 (min 12 (bitsOf v 2 4))

/-- A queue register of a VI page: the local queue Q_SEL names, in the writer's bank; a queue the VI does not have takes
nothing. -/
def viQueueReg (acc : Access) (n off : Nat) (v : Word) (s : State) : State :=
  s.viQueueWrite acc n (fun s =>
    let h := s.viBank acc
    let q := s.qSel h n
    let x := s.hq h n q
    if s.qCount n ≤ q then s
    else if off = Reg.Vi.Q_CFG then s.setHq h n q { x with cfg := qCfgWord x.cfg v }
    else if off = Reg.Vi.Q_RING_LO then s.setHq h n q { x with lo := v &&& 0xFFFFFFE0 }
    else s.setHq h n q { x with hi := v })

def viWrite (acc : Access) (p : Page) (off : Nat) (v : Word) : State → State :=
  if off = Reg.Vi.Q_CFG ∨ off = Reg.Vi.Q_RING_LO ∨ off = Reg.Vi.Q_RING_HI then viQueueReg acc p.idx off v
  else if off = Reg.Vi.Q_WR then qIndexWrite acc p.idx false v
  else if off = Reg.Vi.Q_RD then qIndexWrite acc p.idx true v
  else if off = Reg.Vi.DOORBELL then doorbell acc p.idx v
  else if Reg.Vi.Q_SEL ≤ off ∧ off < 0x90 then (·.viQueueWrite acc p.idx (plainWrite acc p off v))
  else if off = Reg.Vi.CSUBMIT then (fun s => s.onlyIf (s.domainOn 10) (csubmit acc p.idx v))
  else plainWrite acc p off v

def spanWrite (acc : Access) (p : Page) (off : Nat) (v : Word) : State → State :=
  if off = Reg.Span.PWF_POP then (fun s => s.onlyIf (bitOf v 0) (fun s => s.setPwf s.pwf.tail)) else plainWrite acc p off v

/-- A window's words other than word 0 ignore writes while its EN is 1 (R495). -/
def windowWrite (acc : Access) (p : Page) (off : Nat) (v : Word) (s : State) : State :=
  if 0x100 ≤ off ∧ off % 0x20 ≠ 0 ∧ s.bit (p.base + off - off % 0x20) 0 = true then s else plainWrite acc p off v s

/-- INTC_CTRL and the thresholds: EN_S and THR_S take secure writes only (R519, R525). -/
def intcWrite (acc : Access) (p : Page) (off : Nat) (v : Word) : State → State :=
  let h := halfOf p.idx
  if off = Reg.Intc.SGI then sgiWrite acc h v
  else if off = Reg.Intc.INTC_CTRL then
    (·.signal h (fun s => s.wr (p.base + off) (if acc.secure then v &&& 3 else setBits (v &&& 3) 1 1 (s.fld (p.base + off) 1 1))))
  else plainWrite acc p off v

def intcHartWrite (acc : Access) (p : Page) (off : Nat) (v : Word) : State → State :=
  let h := halfOf p.idx
  let c := arrIdx off 0x100 0x20
  if off < 0x100 ∨ 7 ≤ c then id
  else if off % 0x20 = Reg.IntcHart.THR_N % 0x20 then (·.signal h (plainWrite acc p off v))
  else if off % 0x20 = Reg.IntcHart.THR_S % 0x20 then
    (if acc.secure then (·.signal h (plainWrite acc p off v)) else id)
  else if off % 0x20 = Reg.IntcHart.CLAIM_N % 0x20 then completeWrite acc h c false v
  else if off % 0x20 = Reg.IntcHart.CLAIM_S % 0x20 then completeWrite acc h c true v
  else id

def intcSrcWrite (acc : Access) (p : Page) (off : Nat) (v : Word) : State → State :=
  if Reg.IntcSrc.SRCCFG ≤ off ∧ off < Reg.IntcSrc.SRCCFG + 2048 then
    srccfgWrite acc (halfOf (p.idx / 2)) (512 * (p.idx % 2) + arrIdx off Reg.IntcSrc.SRCCFG 4) v
  else id

def ecWrite (acc : Access) (p : Page) (off : Nat) (v : Word) : State → State :=
  let i := arrIdx off 0x100 0x20
  if off = Reg.Ec.BANK_EN then bankEnWrite p.idx v
  else if off = Reg.Ec.SNAP_STAT then (fun s => if bitOf v 0 then s.wr (p.base + off) 0 else s)
  else if off = Reg.Ec.OVF_IE then (·.wrN (p.base + off) (v.toNat % 2 ^ ecLen p.idx))
  else if 0x100 ≤ off ∧ ecLen p.idx ≤ i then id
  else if 0x100 ≤ off ∧ off % 0x20 = Reg.Ec.CFG % 0x20 then
    (fun s => plainWrite acc p off v (s.ecDrift p.idx i))
  else if 0x100 ≤ off ∧ off % 0x20 = Reg.Ec.CNT_LO % 0x20 then cntLoWrite acc p.idx i v
  else if 0x100 ≤ off ∧ off % 0x20 = Reg.Ec.CNT_HI % 0x20 then cntHiWrite acc p.idx i v
  else plainWrite acc p off v

def ciphWrite (acc : Access) (p : Page) (off : Nat) (v : Word) : State → State :=
  if off = Reg.Ciph.SUBMIT then csubmit acc 0 v
  else if off = Reg.Ciph.ALARM_CLR then (fun s => s.secureOnly acc ciphBase (fun s => s.onlyIf (bitOf v 0) alarmClr))
  else plainWrite acc p off v

/-- The fields of the association and receive channel SA_SEL selects (R592). -/
def saWrite (n off : Nat) (v : Word) (s : State) : State :=
  let i := s.saSel n
  let x := s.sa n i
  let c := 8 * n + bitsOf (s.rd (msReg n Reg.Msec.SA_SEL)) 2 3
  let y : Sc := Tbl.get {} s.scs c
  let putSc (y : Sc) : State := { s with scs := Tbl.set {} s.scs c y }
  if off = Reg.Msec.SA_SSCI then s.setSa n i { x with ssci := v }
  else if off = Reg.Msec.SA_PN_LO then s.setSa n i { x with pn := x.pn / 2 ^ 32 * 2 ^ 32 + v.toNat }
  else if off = Reg.Msec.SA_PN_HI then s.setSa n i { x with pn := x.pn % 2 ^ 32 + v.toNat * 2 ^ 32 }
  else if off = Reg.Msec.SC_SCI_LO then putSc { y with sci := y.sci / 2 ^ 32 * 2 ^ 32 + v.toNat }
  else if off = Reg.Msec.SC_SCI_HI then putSc { y with sci := y.sci % 2 ^ 32 + v.toNat * 2 ^ 32 }
  else if off = Reg.Msec.SC_EN then putSc { y with en := bitOf v 0 }
  else s.setSa n i { x with salt := x.salt.set (arrIdx off Reg.Msec.SA_SALT 4) v }

def msecWrite (acc : Access) (p : Page) (off : Nat) (v : Word) : State → State :=
  if off = Reg.Msec.SA_CTRL then saCtrl p.idx v
  else if Reg.Msec.SA_SSCI ≤ off ∧ off ≤ Reg.Msec.SC_EN then saWrite p.idx off v
  else plainWrite acc p off v

/-- KS_CMD's fields: SLOT, PARENT, OP, RECORD. SH_KEY holds what is written and reads 0 (R547). -/
def keysWrite (acc : Access) (p : Page) (off : Nat) (v : Word) : State → State :=
  if off = Reg.Keys.KS_CMD then ksCommand acc (bitsOf v 16 4) (bitsOf v 0 8) (bitsOf v 8 8) (bitsOf v 20 10)
  else if Reg.Keys.SH_KEY ≤ off ∧ off < Reg.Keys.SH_KEY + 32 then (·.wr (p.base + off) v)
  else plainWrite acc p off v

def vaultWrite (acc : Access) (p : Page) (off : Nat) (v : Word) : State → State :=
  if off = Reg.Vault.PROVISION then (fun s => s.onlyIf (bitOf v 0 && bitsOf v 16 16 == 0x6B1D) (provision acc))
  else plainWrite acc p off v

def shepWrite (acc : Access) (p : Page) (off : Nat) (v : Word) : State → State :=
  if off = Reg.Shep.HEALTH_OK then healthOk acc v
  else if off = Reg.Shep.MIN_VERSION then minVersion acc v
  else if Reg.Shep.ACT_GROUP ≤ off ∧ off < Reg.Shep.ACT_GROUP + 32 then actGroup acc (arrIdx off Reg.Shep.ACT_GROUP 4) v
  else if off = Reg.Shep.HEALTH_WIN then plainWrite acc p off (healthWinWord v)
  else if off = Reg.Shep.MSG_SEND then msgGo .shep v
  else if off = Reg.Shep.MRQ_POP then mrqPop .shep v
  else plainWrite acc p off v

/-- A write of a block register. -/
def blockWrite (acc : Access) (p : Page) (off : Nat) (v : Word) : State → State :=
  match p.kind with
  | .sys => sysWrite acc p off v
  | .msg => msgWrite acc p off v
  | .tb => tbWrite acc p off v
  | .clk => clkWrite acc p off v
  | .tbcap => tbcapWrite acc p off v
  | .hrn => hrnWrite acc p off v
  | .dom => domWrite acc p off v
  | .evt => evtWrite acc p off v
  | .tpo => tpoWrite acc p off v
  | .tile => tileWrite acc p off v
  | .chan => chanWrite acc p off v
  | .sadc => sadcWrite acc p off v
  | .cg => cgWrite acc p off v
  | .half => halfWrite acc p off v
  | .local => localWrite acc p off v
  | .pwr => pwrWrite acc p off v
  | .pdc => pdcWrite acc p off v
  | .safe => safeWrite acc p off v
  | .lsp => lspWrite acc p off v
  | .frsv => frsvWrite acc p off v
  | .fwd => fwdWrite acc p off v
  | .sflt => sfltWrite acc p off v
  | .mcg => mcgWrite acc p off v
  | .port => portWrite acc p off v
  | .sport => sportWrite acc p off v
  | .lin => linWrite acc p off v
  | .ai => aiWrite acc p off v
  | .vi0 => vi0Write acc p off v
  | .vi => viWrite acc p off v
  | .span => spanWrite acc p off v
  | .spow => windowWrite acc p off v
  | .spiw => windowWrite acc p off v
  | .intc => intcWrite acc p off v
  | .intcHart => intcHartWrite acc p off v
  | .intcSrc => intcSrcWrite acc p off v
  | .ec => ecWrite acc p off v
  | .ciph => ciphWrite acc p off v
  | .msec => msecWrite acc p off v
  | .keys => keysWrite acc p off v
  | .vault => vaultWrite acc p off v
  | .shep => shepWrite acc p off v
  | .dir | .dirtab | .tbcor | .sw | .eq | .mir | .fetch | .fbio | .can | .di | .enc | .ls | .lh | .intcPend | .lane | .trng
  | .ctxp | .absent => plainWrite acc p off v

/-- What an accepted write of a register does. A reserved offset ignores it (R9). -/
def pageWrite (acc : Access) (addr : Nat) (v : Word) (s : State) : State :=
  match acc.page addr with
  | none => s
  | some p =>
    let off := addr % 0x1000
    if p.hasHeader && decide (off < 0x40) then headerWrite acc p addr off v s
    else if (p.row off).isNone then s
    else blockWrite acc p off v s

/-- A write access of `size` octets to an address of the register space (R8, R34, R41). -/
def regWriteSized (acc : Access) (size addr : Nat) (v : Word) (s : State) : State :=
  s.write acc size addr v (fun acc => pageWrite acc addr v)

/-- A word write to an address of the register space. -/
def regWrite (acc : Access) (addr : Nat) (v : Word) (s : State) : State := regWriteSized acc 4 addr v s

/-- Address of a register of the page an address lies in. -/
def pageAddr (page off : Nat) : Nat := page / 0x1000 * 0x1000 + off

/-- A half's access to its code store: the half and the offset, where the access reaches it (R610). -/
def Access.code (acc : Access) (addr : Nat) : Option (Half × Nat) :=
  match acc.master with
  | .half h => (codeOff addr).map (fun off => (h, off))
  | .shep => none

def execRegisterWrite (acc : Access) (size addr : Nat) (v : Word) (s : State) : Host.Outcome State Fault Refusal :=
  .next (match acc.code addr with
    | some (h, off) => codeWrite h acc.secure addr off ((octets v).take size) s
    | none => regWriteSized acc size addr v s)

def execOwnerWrite (acc : Access) (page : Nat) (v : Word) (s : State) : Host.Outcome State Fault Refusal :=
  .next (regWrite acc (pageAddr page Reg.Hdr.OWNER) v s)

def execLockWrite (acc : Access) (page : Nat) (v : Word) (s : State) : Host.Outcome State Fault Refusal :=
  .next (regWrite acc (pageAddr page Reg.Hdr.LOCK) v s)

def execIrqClr (acc : Access) (page : Nat) (v : Word) (s : State) : Host.Outcome State Fault Refusal :=
  .next (regWrite acc (pageAddr page Reg.Hdr.IRQ_CLR) v s)

def execIrqForce (acc : Access) (page : Nat) (v : Word) (s : State) : Host.Outcome State Fault Refusal :=
  .next (regWrite acc (pageAddr page Reg.Hdr.IRQ_FORCE) v s)

/-- A command word of UNIT_CTRL. -/
def cmdWrite (acc : Access) (page cmd : Nat) (s : State) : State :=
  regWrite acc (pageAddr page Reg.Hdr.UNIT_CTRL) (word (cmd % 16)) s

def execUnitNop (acc : Access) (page : Nat) (s : State) : Host.Outcome State Fault Refusal := .next (cmdWrite acc page 0 s)

/-- A reserved command: CMD 7 to 15 (R25). -/
def execUnitCmdReserved (acc : Access) (page cmd : Nat) (s : State) : Host.Outcome State Fault Refusal :=
  .next (cmdWrite acc page (7 + cmd % 9) s)

def execUnitPrst (acc : Access) (page : Nat) (s : State) : Host.Outcome State Fault Refusal := .next (cmdWrite acc page 4 s)

/-- A command the unit's type does not support (R27). -/
def execUnitUnsupported (acc : Access) (page cmd : Nat) (s : State) : Host.Outcome State Fault Refusal :=
  .next (cmdWrite acc page cmd s)

/-- ON, OFF or CLEAR of a composite: CMD 1 to 3. -/
def execCompositeCmd (acc : Access) (page cmd : Nat) (s : State) : Host.Outcome State Fault Refusal :=
  .next (cmdWrite acc page (1 + cmd % 3) s)

def execRwpWrite (acc : Access) (addr : Nat) (v : Word) (s : State) : Host.Outcome State Fault Refusal :=
  .next (regWrite acc addr v s)

def execMinVersionWrite (acc : Access) (v : Word) (s : State) : Host.Outcome State Fault Refusal :=
  .next (s.write acc 4 (shepReg Reg.Shep.MIN_VERSION) v (fun acc => minVersion acc v))

def execActGroupWrite (acc : Access) (k : Fin 8) (v : Word) (s : State) : Host.Outcome State Fault Refusal :=
  .next (s.write acc 4 (shepReg Reg.Shep.ACT_GROUP + 4 * k.val) v (fun acc => actGroup acc k.val v))

def execHealthOk (acc : Access) (v : Word) (s : State) : Host.Outcome State Fault Refusal :=
  .next (s.write acc 4 (shepReg Reg.Shep.HEALTH_OK) v (fun acc => healthOk acc v))

end Sys2Proof.Machine
end

