-- ==== Sys2Proof/Machine/BusRead.lean ====
section
/-! DEFINITION. What a read of a register answers and does: live values, read-to-clear counters (R12), tile-held fields
(R175), banked and windowed registers. -/

namespace Sys2Proof.Machine

/-- Whether a read of an RC register clears it (R12): by the half that keeps the page's counts; Shepherd's on SHEP and
SPORT. -/
def State.readClears (s : State) (acc : Access) (p : Page) : Bool :=
  match acc.master with
  | .shep => p.kind == .shep || p.kind == .sport
  | .half h =>
    match p.kind with
    | .local | .msg => true
    | _ =>
      match bitsOf (s.rd (p.base + Reg.Hdr.OWNER)) 8 2 with
      | 1 => h == .a
      | 2 => h == .b
      | _ => h == s.activeHalf

/-- A read of an RC register: the value, then the field clears. -/
def readClear (acc : Access) (p : Page) (k : Nat) (s : State) : State :=
  let v := s.rd k
  (s.onlyIf (s.readClears acc p) (·.wrN k 0)).answer (.data v)

/-- A read of BUF_MIN reloads it with BUF_FREE (R391). -/
def readBufMin (acc : Access) (p : Page) (s : State) : State :=
  let k := p.base + Reg.Sw.BUF_MIN
  let v := s.rd k
  (s.onlyIf (s.readClears acc p) (fun s => s.wrN k s.bufFree)).answer (.data v)

/-- Q_DROP of the selected queue: either half clears its own bank (R12). -/
def readQDrop (acc : Access) (n : Nat) (s : State) : State :=
  let h := s.viBank acc
  let q := s.qSel h n
  if s.qCount n ≤ q then s.answer (.data 0)
  else
    let x := s.hq h n q
    (s.onlyIf (acc.master != .shep) (·.setHq h n q { x with drop := 0 })).answer (.data (word x.drop))

/-- The registers of the association and receive channel SA_SEL selects (R592). -/
def State.saLive (s : State) (n off : Nat) : Option Word :=
  let x := s.sa n (s.saSel n)
  let y : Sc := Tbl.get {} s.scs (8 * n + bitsOf (s.rd (msReg n Reg.Msec.SA_SEL)) 2 3)
  if off = Reg.Msec.SA_CTRL then some (word (x.slot + b2n x.en * 2 ^ 8 + x.result * 2 ^ 16))
  else if off = Reg.Msec.SA_SSCI then some x.ssci
  else if off = Reg.Msec.SA_PN_LO then some (word x.pn)
  else if off = Reg.Msec.SA_PN_HI then some (word (x.pn / 2 ^ 32))
  else if off = Reg.Msec.SC_SCI_LO then some (word y.sci)
  else if off = Reg.Msec.SC_SCI_HI then some (word (y.sci / 2 ^ 32))
  else if off = Reg.Msec.SC_EN then some (word (b2n y.en))
  else if Reg.Msec.SA_SALT ≤ off ∧ off < Reg.Msec.SA_SALT + 12 then some (x.salt.getD (arrIdx off Reg.Msec.SA_SALT 4) 0)
  else none

/-- SHEP_STAT as it stands (R626). -/
def State.shepStat (s : State) : Word :=
  word (b2n s.inDead + 2 * b2n s.shep.holder.isSome + 4 * (s.shep.sessions.filter (·.opened)).length +
    2 ^ 16 * s.shep.holder.getD 0)

/-- HEALTH_STAT as it stands (R626): the milliseconds left, whose rounding is open. -/
def State.healthStat (s : State) : Word × State :=
  let v := bitsOf (s.rd (shepReg Reg.Shep.HEALTH_STAT)) 0 2
  match s.actState, s.shep.winEnd with
  | 2, some t =>
    let r := s.roundOpen ((t - s.tbfNs : Nat) : Int) 1000000
    (word (v + 2 ^ 8 + min 0xFFFF r.1.toNat * 2 ^ 16), r.2)
  | _, _ => (word v, s)

/-- Registers that show what another part of the state holds. -/
def State.live (s : State) (acc : Access) (p : Page) (off : Nat) : Option Word :=
  match p.kind with
  | .clk => s.clkLive p.idx off
  | .tbcap => s.capLive (halfOf p.idx) off
  | .dom => s.domLive p.idx off
  | .evt => if off = Reg.Evt.SHADOW_STAT then some (s.shadowStat p.idx) else none
  | .tpo => if 0x100 ≤ off ∧ off < 0x300 ∧ off % 0x40 = Reg.Tpo.TO_STAT % 0x40 then some (s.toStat (arrIdx off 0x100 0x40)) else none
  | .half => if off = Reg.Half.BARK_AGE then some (s.barkAge (halfOf p.idx)) else none
  | .sw | .fwd | .sflt | .mcg => s.fwdLive (p.base + off)
  | .eq => s.eqLive p.idx off
  | .port => if off = Reg.Port.PORT_CFG ∧ 26 ≤ p.idx then some (word 1) else none
  | .can => if off = Reg.Can.CAN_STAT then some (s.canStat p.idx) else none
  | .lh => if off = Reg.Lh.LH_DIFF then some s.lhDiffLive else none
  | .vi0 =>
    if off = Reg.Vi0.STEER_DATA then some (Tbl.get 0 s.steer s.steerSel)
    else if Reg.Vi0.SHARE_W ≤ off ∧ off < Reg.Vi0.SHARE_W + 0x10 then some 0
    else if Reg.Vi0.SHARE_W ≤ off ∧ off % 0x10 = 0xC then some (s.shareLevel (arrIdx off Reg.Vi0.SHARE_W 0x10))
    else none
  | .vi => if off = Reg.Vi.CS_OUT then some (word (s.csOut p.idx)) else s.viLive (s.viBank acc) p.idx off
  | .span => if off = Reg.Span.SPAN_STAT then some s.spanStat else none
  | .tile =>
    if off = Reg.Tile.FAULT_STAT then some (setBits (s.rd (p.base + off)) 16 1 (b2n (s.faultLow p.idx))) else none
  | .intcSrc =>
    if 0x100 ≤ off ∧ off < 0x900 then some (s.srccfgLive acc (halfOf (p.idx / 2)) (512 * (p.idx % 2) + arrIdx off 0x100 4)) else none
  | .intcPend => if 0x100 ≤ off ∧ off < 0x180 then some (s.ipendLive acc (halfOf p.idx) (arrIdx off 0x100 4)) else none
  | .lane => s.laneLive p.idx off
  | .ctxp => if 0x100 ≤ off ∧ off < 0x500 then some (s.ctxLive (arrIdx off 0x100 4)) else none
  | .ciph => if off = Reg.Ciph.WAITING then some (word s.csubs.length) else none
  | .msec => s.saLive p.idx off
  | .keys => s.keysLive off
  | .vault => if off = Reg.Vault.VAULT_STAT then some s.vaultStat else none
  | .shep => if off = Reg.Shep.SHEP_STAT then some s.shepStat else none
  | .ec => if off = Reg.Ec.SRC_BAD then some (word (s.srcBad p.idx)) else none
  | _ => none

/-- Reads that do more than answer a value; none for the others. -/
def readEffect (acc : Access) (p : Page) (off : Nat) : Option (State → State) :=
  match p.kind with
  | .dom => if off = Reg.Dom.PHASE then some (phaseRead p.idx) else none
  | .sadc => if off = Reg.Sadc.CAP_DATA then some (capDataRead acc p.idx) else none
  | .sw => if off = Reg.Sw.BUF_MIN then some (readBufMin acc p) else none
  | .vi => if off = Reg.Vi.Q_DROP then some (readQDrop acc p.idx) else none
  | .intcHart =>
    let c := arrIdx off 0x100 0x20
    let h := halfOf p.idx
    if off < 0x100 ∨ 7 ≤ c then none
    else if off % 0x20 = Reg.IntcHart.CLAIM_N % 0x20 then some (claimRead acc h c false)
    else if off % 0x20 = Reg.IntcHart.CLAIM_S % 0x20 then some (claimRead acc h c true)
    else if off % 0x20 = Reg.IntcHart.HART_WORLD % 0x20 then
      some (fun s => let r := s.hartWorld h c; r.2.answer (.data r.1))
    else none
  | .ec =>
    let i := arrIdx off 0x100 0x20
    if off < 0x100 ∨ ecLen p.idx ≤ i then none
    else if off % 0x20 = Reg.Ec.CNT_LO % 0x20 then
      some (fun s => let r := s.readCntLo p.idx i; r.2.answer (.data r.1))
    else if off % 0x20 = Reg.Ec.CNT_HI % 0x20 then
      some (fun s => s.answer (.data (word (Tbl.get 0 s.ecLatch (32 * p.idx + i)))))
    else none
  | .trng =>
    if off = Reg.Trng.RAND_DATA then some (fun s =>
      if !acc.secure then s.answer (.data 0)
      else if s.trngReady then (let r := s.fresh; r.2.answer (.data (word r.1)))
      else (s.setBit (trngReg Reg.Trng.TRNG_STAT) 3 true).answer (.data 0))
    else none
  | .shep =>
    if off = Reg.Shep.HEALTH_STAT then some (fun s => let r := s.healthStat; r.2.answer (.data r.1)) else none
  | _ => none

/-- Whether a READ for an access presented again is on its way. -/
def State.serving (s : State) (t : Nat) (acc : Access) (addr : Nat) : Bool :=
  ((s.tc t).rwQ ++ (s.tc t).sent).any (fun (e : TcEntry) => e.why == .serve acc addr true)

/-- A read of a tile-held field while the mirror is not valid (R175): served by a READ on the link; the master waits for
the DATA reply. Without the link the read ends with a bus error, over the side band with NO_PAGE (log entry 92). -/
def tileServe (acc : Access) (t unit addr off : Nat) (s : State) : State :=
  match s.served.find? (fun x => x.1 == acc && x.2.1 == addr) with
  | some x => { s with served := s.served.erase x }.readEnds acc x.2.2
  | none =>
    if !s.linkUp t then s.readEnds acc .busError
    else if s.serving t acc addr then s.answer .stalled
    else (s.answer .stalled).rwAccess t (tcRead unit off) (.serve acc addr false)

/-- The tile and unit of a page of a tile. -/
def Page.tileUnit (p : Page) : Option (Nat × Nat) :=
  match p.kind with
  | .tile => some (p.idx, 0x10)
  | .chan => some (p.idx / 16, p.idx % 16)
  | _ => none

/-- The reader of a stalled access presents it again: the READ under way for it keeps its answer (R175). -/
def State.presentAgain (s : State) (acc : Access) (addr : Nat) : State :=
  match (acc.page addr).bind Page.tileUnit with
  | none => s
  | some (t, _) =>
    let c := s.tc t
    let acc := s.asSent acc
    let mark (l : List TcEntry) : List TcEntry :=
      l.map (fun (e : TcEntry) => if e.why = .serve acc addr false then { e with why := .serve acc addr true } else e)
    s.setTc t { c with rwQ := mark c.rwQ, sent := mark c.sent }

/-- OWNER as it reads, with HALF_STATE (R32, R33). -/
def State.ownerLive (s : State) (p : Page) : Word :=
  let o := s.rd (p.base + Reg.Hdr.OWNER)
  setBits o 12 3 (s.ownerHalfState o)

/-- What an accepted read answers and does. A reserved offset reads 0 (R9). -/
def pageRead (acc : Access) (addr : Nat) (s : State) : State :=
  match acc.page addr with
  | none => s.answer (.data 0)
  | some p =>
    let off := addr % 0x1000
    match p.row off with
    | none => s.answer (.data 0)
    | some (r, _) =>
      if p.hasHeader && off == Reg.Hdr.OWNER then s.answer (.data (s.ownerLive p))
      else if p.hasHeader && off == Reg.Hdr.UNIT_STAT then s.answer (.data (s.unitStat p))
      else if p.hasHeader && decide (off < 0x40) then s.answer (.data (s.rd (p.base + off)))
      else
        match readEffect acc p off with
        | some f => f s
        | none =>
          let k := s.regKey acc p off
          match s.live acc p off with
          | some v => s.answer (.data v)
          | none =>
            if r.acc = .wo then s.answer (.data 0)
            else if r.acc = .rc then readClear acc p k s
            else match p.tileUnit with
              | some (t, u) =>
                if p.clsOf r = .t ∧ !s.mirrorValid t then tileServe acc t u addr off s else s.answer (.data (s.rd k))
              | none => s.answer (.data (s.rd k))

/-- A read access of `size` octets to an address of the register space. FENCE is read through the bridge (R504); its
master is then the bus's master 0. -/
def regReadSized (acc : Access) (size addr : Nat) (s : State) : State :=
  if addr = spanReg Reg.Span.FENCE ∧ size = 4 then fenceRead acc 0 s else s.read acc size addr (fun acc => pageRead acc addr)

/-- A word read of an address of the register space. -/
def regRead (acc : Access) (addr : Nat) (s : State) : State := regReadSized acc 4 addr s

def execRcRead (acc : Access) (size addr : Nat) (s : State) : Host.Outcome State Fault Refusal :=
  .next (match acc.code addr with
    | some (h, off) => codeRead h acc.secure addr off size s
    | none => regReadSized acc size addr s)

end Sys2Proof.Machine
end

