-- ==== Sys2Proof/Machine/DirIn.lean ====
section
/-! DEFINITION. A directory message at its host: the checks of R60, its execution, its return (R60 to R62). -/

namespace Sys2Proof.Machine

/-- Fields of a message (R59). -/
def msgGen (w : List Word) : Nat := bitsOf (w.getD 0 0) 16 16
def msgDst (w : List Word) : Nat := bitsOf (w.getD 0 0) 0 14
def msgType (w : List Word) : Nat := bitsOf (w.getD 1 0) 16 8
def msgSender (w : List Word) : Nat := bitsOf (w.getD 1 0) 14 2
def msgSrc (w : List Word) : Nat := bitsOf (w.getD 1 0) 0 14
def msgReason (w : List Word) : Nat := bitsOf (w.getD 2 0) 16 4

/-- The access a COMMAND is executed as: secure, of VI0, by its SENDER; the reserved code 0b11 counts as Shepherd (log
entry 20). -/
def msgAccess (w : List Word) : Access :=
  ⟨match msgSender w with | 0 => .half .a | 1 => .half .b | _ => .shep, true, 0⟩

/-- A REPLY to a message (R59): UNIT_STAT and ROLE_GEN of the target, the request's TAG and SENDER; the generation it
addresses is free. One that cannot be sent ends as any message does that its sender cannot transmit (R62). A target whose
domain is off reads 0 (log entry 20). -/
def State.msgReply (s : State) (w : List Word) (p : Page) : State :=
  let g := s.freshIn 0 0xFFFF
  let s := g.2
  let on := s.domainOn p.domain
  let st (w : Word) : Word := if on then w else 0
  let r := [word (g.1 * 2 ^ 16 + msgSrc w), word (3 * 2 ^ 16 + msgSender w * 2 ^ 14 + s.selfUnit),
    word (bitsOf (w.getD 2 0) 0 16), st (s.unitStat p), st (s.rd (p.base + Reg.Hdr.ROLE_GEN)), 0, 0, 0]
  if msgSrc w = s.selfUnit then { s with dirIn := s.dirIn ++ [(true, r)] }
  else if s.noRoute s.activeHalf (msgSrc w) then (s.dirCount Reg.Dir.NO_ROUTE_CNT).mrqPush (withReason r msgNoRoute)
  else s.spanSend s.activeHalf (msgSrc w) 2 (msgSender w) (msgOctets r)

/-- Execution of a message that passed R60. A REPLY has reached its end. A COMMAND to a unit whose domain is off has no
effect on it (log entry 20). -/
def State.msgExecute (s : State) (w : List Word) (p : Page) : State :=
  let s := s.ev 0xF3 0
  match msgType w with
  | 1 =>
    let s := if s.domainOn p.domain then unitCtrl (msgAccess w) p (w.getD 3 0) s else s
    let r := s.freshBool
    r.2.onlyIf r.1 (·.msgReply w p)
  | 2 => s.msgReply w p
  | _ => s

/-- Whether a message addresses its target's present generation (R60). -/
def State.msgGenOk (s : State) (w : List Word) (p : Page) : Bool :=
  (msgType w == 2 && msgGen w == 0) || (msgGen w != 0 && msgGen w == s.gen p.base)

/-- MSG_ARRIVE: the first message that has arrived is executed or returned. A returned message goes to its sender's queue,
or is lost where this is not its sender's module (R62). -/
def msgArrive (s : State) : State :=
  match s.dirIn with
  | [] => s
  | (_, w) :: rest =>
    let s := { s with dirIn := rest }
    if msgReason w ≠ 0 then
      (if msgSrc w = s.selfUnit then { s with dirBack := s.dirBack ++ [w] } else s.dirCount Reg.Dir.LOST_CNT)
    else
      let e := s.dirEntry (msgDst w)
      let noUnit := (s.dirCount Reg.Dir.NO_UNIT_CNT).msgBack w msgNoUnit
      if !s.bit (dirReg Reg.Dir.DIR_CTRL) 0 || !bitOf e 31 || !bitOf e 30 || msgType w == 0 || decide (3 < msgType w) then noUnit
      else
        match unitPage (bitsOf e 0 12) with
        | none => noUnit
        | some p =>
          if s.msgGenOk w p then s.msgExecute w p
          else
            let s := (s.dirCount Reg.Dir.MISROLE_CNT).ev 0xF4 0
            (s.onlyIf (s.domainOn p.domain) (·.raise p.base 3)).msgBack w msgMisrole

def execMsgArrive (s : State) : Host.Outcome State Fault Refusal := .next (msgArrive s)

end Sys2Proof.Machine
end

