-- ==== Sys2Proof/Machine/SpanIn.lean ====
section
/-! DEFINITION. Requests at the far side of the Span bridge: the inbound windows, the access, the answer (R494, R501 to
R503). -/

namespace Sys2Proof.Machine

/-- SPAN_BASE, SIZE and LOCAL_BASE of an inbound window (R512). -/
def State.iwBase (s : State) (w : Nat) : Nat := s.fld (spiwReg w 2) 16 16 * 65536 + s.rdN (spiwReg w 3) * 2 ^ 32
def State.iwSize (s : State) (w : Nat) : Nat := s.fld (spiwReg w 1) 0 16 * 65536
def State.iwLocal (s : State) (w : Nat) : Nat := s.fld (spiwReg w 4) 16 16 * 65536 + s.rdN (spiwReg w 5) * 2 ^ 32

/-- The inbound window a request matches (R494). -/
def State.inWindow (s : State) (r : SpReq) : Option Nat :=
  (List.range 32).find? (fun w =>
    let w0 := s.rd (spiwReg w 0)
    bitOf w0 0 && bitOf w0 1 == r.tunnel &&
      decide (s.iwBase w ≤ r.addr ∧ r.addr + r.size ≤ s.iwBase w + s.iwSize w) &&
      (!r.tunnel || bitOf w0 30 || bitsOf w0 16 14 == r.unit))

/-- Whether a matched window denies a request (R494). -/
def inDenied (w0 : Word) (r : SpReq) : Bool :=
  (if r.kind = 2 then !bitOf w0 2 else !bitOf w0 3) || (bitOf w0 5 && !r.sec) ||
    (!r.tunnel && (bitsOf w0 6 2 == 3 || bitsOf w0 6 2 == r.half.code2))

/-- What became of an inbound access: a REASON with read data, or it waits. -/
inductive SpDone where
  | wait
  | done (reason : Nat) (data : List Nat)
  deriving DecidableEq, Repr

/-- The half a register access through a window acts for: the far half of the link; the active half for the tunnel. -/
def State.spMaster (s : State) (r : SpReq) : Half := if r.tunnel then s.activeHalf else r.half.other

/-- An access in register space (R494): the half check passes only on pages whose OWNER.HALF is NONE. -/
def State.spReg (s : State) (r : SpReq) (acc : Access) (addr : Nat) : State × SpDone :=
  let back (t : State) : State := { t with resp := s.resp }
  match acc.page addr with
  | none => (s, .done rsBusError [])
  | some p =>
    if r.size = 4 && addr % 4 == 0 && s.domainOn p.domain && bitsOf (s.rd p.ownerKey) 8 2 != 0 && p.kind != .absent then
      (s.ownerViol p.prim addr, .done rsBusError [])
    else
      let v := word ((List.range 4).foldl (fun x i => x + r.data.getD i 0 % 256 * 256 ^ i) 0)
      let t := if r.kind = 2 then regReadSized acc r.size addr s else regWriteSized acc r.size addr v s
      match t.resp with
      | .ok => (back t, .done rsOk [])
      | .data w => (back t, .done rsOk (octets w))
      | .retry => (back t, .wait)
      | .stalled => (if r.kind = 2 then back (t.presentAgain acc addr) else s, .wait)
      | _ => (back t, .done rsBusError [])

/-- An access in the halves' memories (R494): `ok` and `data` are what the memory answers. A write to a slot of a code store
ends with a bus error (R610). -/
def State.spMem (s : State) (r : SpReq) (sec : Bool) (target addr : Nat) (ok : Bool) (data : List Nat) : State × SpDone :=
  let hs := if target = 1 then [Half.a] else if target = 2 then [.b] else if r.kind = 2 then [s.activeHalf] else [.a, .b]
  let code := codeOff addr
  let slot := r.kind != 2 && (code.any inSlot)
  if !ok || slot || hs.any (fun h => !s.memTakes h sec addr r.size) then (s, .done rsBusError [])
  else
    match code with
    | some off =>
      if r.kind = 2 then (s, .done rsOk ((List.range r.size).map (fun i => s.codeOct (hs.headD .a) (off + i))))
      else (s.each hs (fun (s : State) h => s.codePut h off r.data), .done rsOk [])
    | none =>
      if r.kind = 2 then (s, .done rsOk (octs data r.size))
      else (s.each hs (fun (s : State) h => s.emit (.memWrite h addr r.data)), .done rsOk [])

/-- A request at the head of its buffer (R494). -/
def State.spPerform (s : State) (r : SpReq) (ok : Bool) (data : List Nat) : State × SpDone :=
  match s.inWindow r with
  | none => (s.count (spanReg Reg.Span.IN_REFUSED), .done rsNoWindow [])
  | some w =>
    let w0 := s.rd (spiwReg w 0)
    if inDenied w0 r then (s.count (spanReg Reg.Span.IN_REFUSED), .done rsDenied [])
    else
      let addr := (s.iwLocal w + (r.addr - s.iwBase w)) % 2 ^ 64
      let sec := bitOf w0 5
      if bitsOf w0 6 2 = 0 then
        s.spReg r ⟨.half (s.spMaster r), sec, ⟨bitsOf w0 8 7 % 128, Nat.mod_lt _ (by decide)⟩⟩ addr
      else s.spMem r sec (bitsOf w0 6 2) addr ok data

/-- The answer of a request (R503, R508). -/
def State.spAnswer (s : State) (r : SpReq) (reason : Nat) (data : List Nat) : State :=
  let what := if r.kind ≠ 0 then 0 else if reason = rsOk then 1 else 2
  if r.tunnel then
    if what = 0 then s.spanSend r.half r.unit 4 r.sender ([reason, data.length] ++ bigEnd 2 r.tag ++ data)
    else if what = 1 then s.spanSend r.half r.unit 5 r.sender ([0, 0] ++ bigEnd 2 r.tag)
    else s.spanSend r.half r.unit 6 r.sender ([reason, 0] ++ bigEnd 2 r.tag ++ bigEnd 8 r.addr)
  else s.spReply ⟨false, r.half, 0, r.tag, what, reason, data, r.addr, 0⟩

/-- Whether a request must wait for posted writes accepted before it (R501). -/
def State.spHeld (s : State) (r : SpReq) : Bool :=
  r.kind != 0 && s.spIn.any (fun (q : SpReq) =>
    q.kind == 0 && q.tunnel == r.tunnel && decide (q.seq < r.seq) &&
      (if r.tunnel then q.unit == r.unit && q.sender == r.sender else q.half == r.half))

/-- SPAN_REQUEST_RX: the oldest request of an inbound buffer is performed or refused and answered. Buffers: link posted
from A and from B, link non-posted from A and from B, tunnel posted, tunnel non-posted (R496). -/
def spanRequestRx (buf : Nat) (ok : Bool) (data : List Nat) (s : State) : State :=
  let tun := decide (4 ≤ buf)
  let posted := buf == 0 || buf == 1 || buf == 4
  let h := if buf % 2 = 0 then Half.a else .b
  match s.spBuf tun h posted with
  | [] => s
  | r :: _ =>
    if (if tun then !s.tunEn || s.gated 2 else !s.spanLinkUp) || s.spHeld r then s
    else
      match s.spPerform r ok data with
      | (t, .wait) => t
      | (t, .done reason d) =>
        let t := { t with spIn := t.spIn.filter (fun (q : SpReq) => q != r) }.spAnswer r reason d
        if tun then t else t.dtSendLink r.half

def execSpanRequestRx (buf : Fin 6) (ok : Bool) (data : List Nat) (s : State) : Host.Outcome State Fault Refusal :=
  .next (spanRequestRx buf.val ok data s)

end Sys2Proof.Machine
end

