-- ==== Sys2Proof/Machine/Isp.lean ====
section
/-! DEFINITION. The Ifeanan Service Protocol: frames, the request queue, sessions with their trailers, and what Shepherd
answers to a request it does not carry out (R594 to R606). -/

namespace Sys2Proof.Machine

/-! ## Frames -/

/-- CMD, SESSION, SEQ, LEN and payload of a request (R597). -/
def IspReq.cmd (r : IspReq) : Nat := r.octs.getD 1 0 % 256
def IspReq.session (r : IspReq) : Nat := be r.octs 2 2
def IspReq.seq (r : IspReq) : Nat := be r.octs 4 4
def IspReq.len (r : IspReq) : Nat := be r.octs 10 2
def IspReq.pay (r : IspReq) : List Nat := Machine.octs (r.octs.drop 12) r.len

/-- Whether LEN matches the frame with a trailer of `n` octets: padding fills a minimum frame only (R597, R599). -/
def lenFits (l : List Nat) (n : Nat) : Bool :=
  let len := be l 10 2
  decide (len ≤ 1100) && l.length == max 46 (12 + len + n)

/-- SPORT.SP_MAC and SHEP.WHISTLE_MAC. -/
def State.spMac (s : State) : Nat :=
  s.rdN (sportReg Reg.Sport.SP_MAC_LO) + s.fld (sportReg Reg.Sport.SP_MAC_HI) 0 16 * 2 ^ 32
def State.whistleMac (s : State) : Nat :=
  s.rdN (shepReg Reg.Shep.WHISTLE_MAC_LO) + s.fld (shepReg Reg.Shep.WHISTLE_MAC_HI) 0 16 * 2 ^ 32

/-- SP_STAT.LINK_UP. -/
def State.spUp (s : State) : Bool := s.supplied && s.bit (sportReg Reg.Sport.SP_STAT) 0

/-- An Ethernet frame without its FCS, padded to the minimum. -/
def ethFrame (da sa : List Nat) (pay : List Nat) : List Nat :=
  let l := da ++ sa ++ [0x88, 0xB5] ++ pay
  l ++ List.replicate (60 - l.length) 0

/-- A frame leaves on the service port while its link is up. -/
def State.spSend (s : State) (da : List Nat) (pay : List Nat) : State :=
  s.onlyIf s.spUp (fun s => s.emit (.spFrame (ethFrame da (bigEnd 6 s.spMac) pay)))

/-- The mark of Shepherd's frame in a host port's transmit path: it is no VI's. -/
def shepVi : Nat := 129

/-- A frame of Shepherd's leaves through the host port of the active half while PD6 is on (R595). -/
def State.fabricSend (s : State) (da : Nat) (pay : List Nat) : State :=
  let l := ethFrame (bigEnd 6 da) (bigEnd 6 (s.unitMac s.selfUnit)) pay
  let x : HostFrame := ⟨shepVi, 0, [], withFcs (l ++ [0, 0, 0, 0])⟩
  s.onlyIf (s.domainOn 6) (fun s => s.setHostTx s.activeHalf (s.hostTx s.activeHalf ++ [x]))

def State.ispDrop (s : State) : State := s.count (sportReg Reg.Sport.ISP_DROP)

/-! ## Sessions -/

/-- STATUS codes (R606). -/
def ispOk : Nat := 0
def ispBadFrame : Nat := 1
def ispBadCmd : Nat := 2
def ispNoSession : Nat := 3
def ispAuthFail : Nat := 4
def ispAuthLocked : Nat := 5
def ispLevel : Nat := 6
def ispSessionBusy : Nat := 7
def ispBadSeq : Nat := 8
def ispKennelOnly : Nat := 9
def ispNoSecret : Nat := 0xA
def ispStageBusy : Nat := 0x10
def ispNotHolder : Nat := 0x11
def ispBadOffset : Nat := 0x12
def ispBadImage : Nat := 0x13
def ispVerifyFail : Nat := 0x14
def ispVersionOld : Nat := 0x15
def ispNoStore : Nat := 0x16
def ispActArmed : Nat := 0x17
def ispBadSignature : Nat := 0x20
def ispStaleId : Nat := 0x21
def ispArmTime : Nat := 0x22
def ispActBusy : Nat := 0x23
def ispNotArmed : Nat := 0x24
def ispNotDead : Nat := 0x25
def ispNoImage : Nat := 0x26

/-- Whether a level is one of the HMAC levels (R598). -/
def hmacLevel (lv : Nat) : Bool := lv == 1 || lv == 2 || lv == 3

/-- The vault slot of a level's service secret. -/
def levelSlot (lv : Nat) : Nat := if lv = 1 then 254 else 255

/-- Whether a level is available (R601, the table of levels). -/
def State.levelOk (s : State) (lv : Nat) : Bool :=
  if lv = 1 ∨ lv = 2 then !s.inDead
  else if lv = 3 then s.inDead
  else !s.drsValid || (s.recWin 1022).isNone || (s.recWin 1023).isNone

/-- An attestation under a session's slot (R561, R602): of no stated value while the slot is empty. -/
def State.proof (s : State) (x : Session) (chal : List Nat) : List Nat :=
  let k := s.slot (levelSlot x.level)
  let msg := chal ++ bigEnd 2 x.unit ++ bigEnd 4 x.boot ++ x.digest
  if k.valid then octs (Config.hmac 256 k.key msg) 32
  else (List.range 32).map (fun i => Config.freeOf 602 (i :: msg) % 256)

/-- The challenge over both nonces and what follows (R602). -/
def Session.chal (x : Session) (l : List Nat) : List Nat := octs (Config.sha 256 (x.ndev ++ x.ntool ++ l)) 32

/-- The MAC of a frame: `l` runs from octet 0 of the header to the last payload octet (R602). -/
def State.frameMac (s : State) (x : Session) (l : List Nat) : List Nat := (s.proof x (x.chal l)).take 16

/-- The octets of a key of 24 words at a register of SHEP (R626). -/
def State.shepKey (s : State) (off : Nat) : List Nat :=
  (List.range 24).flatMap (fun i => octets (s.rd (shepReg off + 4 * i)))

/-- A signature under SHEP.STATION_KEY over SHA-384 of octets. -/
def State.stationSigned (s : State) (msg sig : List Nat) : Bool :=
  Config.ecdsaVerify (s.shepKey Reg.Shep.STATION_KEY) (octs (Config.sha 384 msg) 48) sig

/-- Octets of a request's trailer (R598): an AUTH of a PROVISION session has none, its proof being a signature (R603). -/
def trailerLen (x : Session) (cmd : Nat) : Nat :=
  if hmacLevel x.level then 16 else if cmd = 2 && !x.opened then 0 else 96

/-- Whether a request's trailer is good. -/
def State.trailerOk (s : State) (x : Session) (r : IspReq) : Bool :=
  let l := r.octs.take (12 + r.len)
  let t := octs (r.octs.drop (12 + r.len)) (trailerLen x r.cmd)
  if hmacLevel x.level then (s.slot (levelSlot x.level)).valid && t == s.frameMac x l
  else if x.opened then s.stationSigned (x.ndev ++ x.ntool ++ l) t
  else true

/-- The session a request names, if it is one it may use: one that is open, or one that waits for its AUTH. -/
def State.sessionOf (s : State) (r : IspReq) : Option Session :=
  s.shep.sessions.find? (fun (x : Session) => x.num == r.session && (x.opened || r.cmd == 2))

/-- A session changed. -/
def State.setSession (s : State) (num : Nat) (f : Session → Session) : State :=
  { s with shep := { s.shep with sessions := s.shep.sessions.map (fun (x : Session) => if x.num = num then f x else x) } }

/-! ## Answers -/

/-- A response from octet 0 of its header, without its trailer (R597). -/
def respFrame (cmd session seq status : Nat) (pay : List Nat) : List Nat :=
  [0x12, cmd] ++ bigEnd 2 session ++ bigEnd 4 seq ++ [status, 0] ++ bigEnd 2 pay.length ++ pay

/-- A response outside any session: that of HELLO, and NO_SESSION. -/
def State.plainReply (s : State) (r : IspReq) (session status : Nat) (pay : List Nat) : State :=
  s.spSend r.src (respFrame r.cmd session r.seq status pay)

/-- A response of a session with its trailer (R598). -/
def State.sessionFrame (s : State) (r : IspReq) (x : Session) (status : Nat) (pay : List Nat) : List Nat :=
  let l := respFrame r.cmd r.session r.seq status pay
  l ++ (if hmacLevel x.level then s.frameMac x l else [])

/-- A response that leaves the session's SEQ as it is. -/
def State.sessionReply (s : State) (r : IspReq) (x : Session) (status : Nat) (pay : List Nat) : State :=
  s.spSend r.src (s.sessionFrame r x status pay)

/-- A request is answered as executed: its SEQ and its response are kept, and it counts (R599, R629). -/
def State.ispReply (s : State) (r : IspReq) (x : Session) (status : Nat) (pay : List Nat) : State :=
  let l := s.sessionFrame r x status pay
  let s := s.setSession x.num (fun (x : Session) => { x with seq := r.seq, resp := l })
  (s.spSend r.src l).count (sportReg Reg.Sport.ISP_RX)

/-! ## What becomes of a request -/

/-- Whether a command exists (R605). -/
def cmdKnown (c : Nat) : Bool :=
  [1, 2, 3, 4, 0x10, 0x11, 0x12, 0x13, 0x14, 0x15, 0x20, 0x21, 0x22, 0x23, 0x24, 0x30, 0x31, 0x32, 0x40].contains c

/-- Whether a command is served in DEAD (R605). -/
def cmdInDead (c : Nat) : Bool :=
  [1, 2, 3, 4, 0x10, 0x11, 0x20, 0x21, 0x22, 0x23, 0x24, 0x32, 0x40].contains c

/-- Whether a session's level may use a command (R603, R605). An open session has no further AUTH. -/
def cmdLevel (x : Session) (c : Nat) : Bool :=
  if c = 2 then !x.opened
  else if x.level = 4 then c == 3 || c == 4 || c == 0x10 || c == 0x11
  else if c = 0x40 then x.level == 3
  else if [0x20, 0x21, 0x22, 0x23, 0x30, 0x31].contains c then decide (2 ≤ x.level)
  else true

/-- Whether a payload has the form of its command (R601, R605). -/
def payFits (x : Session) (r : IspReq) : Bool :=
  let n := r.len
  let p := r.pay
  let c := r.cmd
  if c = 2 then (if hmacLevel x.level then n == 32 else n == 96)
  else if c = 4 then decide (n ≤ 64)
  else if c = 0x10 then n == 5 && decide (1 ≤ p.getD 4 0 ∧ p.getD 4 0 ≤ 64)
  else if c = 0x11 then decide (1 ≤ p.getD 4 0 ∧ p.getD 4 0 ≤ 64) && n == 5 + 4 * p.getD 4 0
  else if c = 0x12 then n == 2 && decide (p.getD 0 0 ≤ 1)
  else if c = 0x13 then n == 6 && decide (p.getD 0 0 ≤ 1)
  else if c = 0x14 then n == 32
  else if c = 0x15 then n == 1
  else if c = 0x20 then n == 4
  else if c = 0x21 then decide (5 ≤ n ∧ n ≤ 1028)
  else if c = 0x30 then n == 116 && be p 6 2 % 2 == 0
  else if c = 0x31 then n == 116 && be p 6 2 % 2 == 1
  else if c = 0x40 then n == 1 && decide (1 ≤ p.getD 0 0 ∧ p.getD 0 0 ≤ 3)
  else n == 0

/-- What Shepherd does with the request at the head of its queue, other than execute it; none for one it executes. -/
def State.ispRefuse (s : State) (r : IspReq) : Option (State → State) :=
  if r.cmd = 1 then
    let lv := r.pay.getD 0 0
    let no (st : Nat) : Option (State → State) :=
      some (fun s => (s.plainReply r 0 st []).count (sportReg Reg.Sport.ISP_RX))
    if !lenFits r.octs 0 then some State.ispDrop
    else if r.len ≠ 33 ∨ lv = 0 ∨ 4 < lv then no ispBadFrame
    else if s.shep.locked then no ispAuthLocked
    else if !s.levelOk lv then no ispLevel
    else if 4 ≤ s.shep.sessions.length then no ispSessionBusy
    else if hmacLevel lv && !(s.slot (levelSlot lv)).valid then no ispNoSecret
    else none
  else match s.sessionOf r with
    | none =>
      if r.len ≤ 1100 ∧ 12 + r.len ≤ r.octs.length then some (fun s => s.plainReply r r.session ispNoSession [])
      else some State.ispDrop
    | some x =>
      if !lenFits r.octs (trailerLen x r.cmd) || !s.trailerOk x r then some State.ispDrop
      else if x.seq ≠ 0 ∧ r.seq = x.seq then some (fun s => s.spSend r.src x.resp)
      else if r.seq ≠ (x.seq + 1) % 2 ^ 32 then some (fun s => s.sessionReply r x ispBadSeq [])
      else
        let no (st : Nat) : Option (State → State) := some (fun s => s.ispReply r x st [])
        if !cmdKnown r.cmd then no ispBadCmd
        else if s.inDead && !cmdInDead r.cmd then no ispKennelOnly
        else if !cmdLevel x r.cmd then no ispLevel
        else if !payFits x r then (if r.cmd = 2 then some (fun s => s.sessionReply r x ispBadFrame []) else no ispBadFrame)
        else none

/-- Shepherd works through the requests at the head of its queue that it answers or discards without executing them, up to
one it executes or, while a STAGE_CLOSE is being verified, none (R596). -/
def State.ispAdvance : Nat → State → State
  | 0, s => s
  | n + 1, s =>
    match s.shep.closing, s.shep.reqs with
    | none, r :: rest =>
      (match s.ispRefuse r with
       | some f => (f { s with shep := { s.shep with reqs := rest } }).ispAdvance n
       | none => s)
    | _, _ => s

def State.ispDispose (s : State) : State := s.ispAdvance s.shep.reqs.length

/-- The request at the head of the queue is executed if it is one of the command `c`. -/
def State.ispServe (s : State) (c : Nat) (f : State → IspReq → State) : State :=
  let s := s.ispDispose
  match s.shep.closing, s.shep.reqs with
  | none, r :: rest => if r.cmd = c then (f { s with shep := { s.shep with reqs := rest } } r).ispDispose else s
  | _, _ => s

/-- The same for a command of a session. -/
def State.ispExec (s : State) (c : Nat) (f : State → IspReq → Session → State) : State :=
  s.ispServe c (fun s r => match s.sessionOf r with | some x => f s r x | none => s)

/-! ## Frames that arrive -/

/-- A frame of the protocol, from octet 0 of its header (R596, R597, R599). Through the fabric come Whistles and
acknowledgements only. -/
def State.ispTake (s : State) (fabric : Bool) (src l : List Nat) : State :=
  let o := l.getD 0 0 % 256
  if o / 16 ≠ 1 then s
  else if o % 16 = 1 then
    if fabric then s
    else if 16 ≤ s.shep.reqs.length then s.ispDrop
    else
      let r : IspReq := ⟨src, l⟩
      { s with shep := { s.shep with reqs := s.shep.reqs ++ [r] } }.ispDispose
  else if o % 16 = 2 then s
  else if o % 16 = 3 then
    if lenFits l 0 && be l 10 2 == 116 then
      { s with shep := { s.shep with whistleIn := s.shep.whistleIn ++ [octs (l.drop 12) 116] } }
    else s.ispDrop
  else if o % 16 = 4 then
    if lenFits l 0 && be l 10 2 == 7 then
      { s with shep := { s.shep with ackIn := s.shep.ackIn ++ [octs (l.drop 12) 7] } }
    else s.ispDrop
  else s.ispDrop

/-- SP_FRAME_RX: a frame on the service port, `l` with its FCS (R594). -/
def spFrameRx (l : List Nat) (s : State) : State :=
  if !s.spUp then s
  else
    let da := be l 0 6
    if !fcsGood l || isTagged l || be l 12 2 != 0x88B5 || (da != s.spMac && da != s.whistleMac) then s.ispDrop
    else s.ispTake false (octs (l.drop 6) 6) ((l.drop 14).take (l.length - 18))

def execSpFrameRx (l : List Nat) (s : State) : Host.Outcome State Fault Refusal := .next (spFrameRx l s)

/-- Whether a frame at a host port is a frame of the protocol. -/
def RxItem.isIsp (x : RxItem) : Bool := etherType x.octs == 0x88B5

/-- FABRIC_ISP_RX: the first frame of the protocol at half h's host port (R595). -/
def fabricIspRx (h : Half) (s : State) : State :=
  let q := if h = .a then s.hostRxA else s.hostRxB
  match q.find? RxItem.isIsp with
  | none => s
  | some x =>
    if !s.domainOn 6 then s
    else
      let rest := q.erase x
      let s := if h = .a then { s with hostRxA := rest } else { s with hostRxB := rest }
      let l := x.octs.drop (payloadAt x.octs)
      s.ispTake true (octs (x.octs.drop 6) 6) (l.take (l.length - 4))

def execFabricIspRx (h : Half) (s : State) : Host.Outcome State Fault Refusal := .next (fabricIspRx h s)

/-! ## Opening and ending a session (R601 to R604) -/

/-- The first number from `n` on, in 1 to 0xFFFF, that no session has. -/
def State.freeNum (s : State) : Nat → Nat → Nat
  | 0, n => n
  | k + 1, n => if s.shep.sessions.any (fun (x : Session) => x.num == n) then s.freeNum k (n % 0xFFFF + 1) else n

/-- VAULT.IMG_DIGEST as 48 octets. -/
def State.imgDigest (s : State) : List Nat :=
  (List.range 12).flatMap (fun i => octets (s.rd (vaultReg Reg.Vault.IMG_DIGEST + 4 * i)))

/-- HELLO: a session number, both open, and N_dev, 32 octets of the TRNG. -/
def hello (s : State) : State :=
  s.ispServe 1 (fun s r =>
    let nd := s.fresh
    let ndev := bigEnd 32 nd.1
    let nn := nd.2.freshIn 1 0xFFFF
    let s := nn.2
    let num := s.freeNum 4 nn.1
    let x : Session := {
      num := num, level := r.pay.getD 0 0, ntool := octs (r.pay.drop 1) 32, ndev := ndev, unit := s.selfUnit,
      boot := s.rdN (pwrBase + Reg.Pwr.BOOT_CNT), digest := s.imgDigest, mac := r.src }
    let s := { s with shep := { s.shep with sessions := s.shep.sessions ++ [x] } }
    let pay := ndev ++ bigEnd 2 x.unit ++ bigEnd 4 x.boot ++ x.digest ++ [b2n s.drsValid + 2 * b2n s.inDead]
    (s.plainReply r num ispOk pay).count (sportReg Reg.Sport.ISP_RX))

def execHello (s : State) : Host.Outcome State Fault Refusal := .next (hello s)

/-- AUTH: the tool's proof opens the session; a failure counts, and the third in a row locks HELLO out. -/
def auth (s : State) : State :=
  s.ispExec 2 (fun s r x =>
    let good :=
      if hmacLevel x.level then r.pay == s.proof x (x.chal [1])
      else s.stationSigned (x.ndev ++ x.ntool ++ bigEnd 2 x.unit ++ bigEnd 4 x.boot) r.pay
    if good then
      let s := s.setSession x.num (fun (x : Session) => { x with opened := true })
      let s := { s with shep := { s.shep with fails := 0 } }
      (s.raise shepBase 16).ispReply r x ispOk (if hmacLevel x.level then s.proof x (x.chal [2]) else [])
    else
      let n := s.shep.fails + 1
      let s := { s with shep := { s.shep with fails := n, locked := s.shep.locked || decide (3 ≤ n) } }
      let s := (s.count (shepReg Reg.Shep.AUTH_FAIL_CNT)).raise shepBase 17
      s.sessionReply r x ispAuthFail [])

def execAuth (s : State) : Host.Outcome State Fault Refusal := .next (auth s)

/-- CLOSE: answered, then the session ends (R604). -/
def close (s : State) : State :=
  s.ispExec 3 (fun s r x => (s.ispReply r x ispOk []).dropSessions (fun (y : Session) => y.num == x.num))

def execClose (s : State) : Host.Outcome State Fault Refusal := .next (close s)

/-- PING: the same octets. -/
def ping (s : State) : State := s.ispExec 4 (fun s r x => s.ispReply r x ispOk r.pay)

def execPing (s : State) : Host.Outcome State Fault Refusal := .next (ping s)

/-- AUTH_TIMEOUT: a session still waiting for its AUTH is dropped without a response. -/
def authTimeout (num : Nat) (s : State) : State :=
  (s.dropSessions (fun (x : Session) => x.num == num && !x.opened)).ispDispose

def execAuthTimeout (num : Nat) (s : State) : Host.Outcome State Fault Refusal := .next (authTimeout num s)

/-- AUTH_LOCK_EXPIRY. -/
def authLockExpiry (s : State) : State :=
  if s.shep.locked then { s with shep := { s.shep with locked := false, fails := 0 } } else s

def execAuthLockExpiry (s : State) : Host.Outcome State Fault Refusal := .next (authLockExpiry s)

/-- SESSION_TIMEOUT: an open session without an executed request for 60 s ends. -/
def sessionTimeout (num : Nat) (s : State) : State :=
  (s.dropSessions (fun (x : Session) => x.num == num && x.opened)).ispDispose

def execSessionTimeout (num : Nat) (s : State) : Host.Outcome State Fault Refusal := .next (sessionTimeout num s)

/-- SHEP_RESTART: Shepherd's watchdog restarts its core; the monitor records SHEP_WDG (R344, R604). -/
def shepRestartNow (s : State) : State := if s.supplied then (s.shepRestart.stageOff).record 40 0 else s

def execShepRestart (s : State) : Host.Outcome State Fault Refusal := .next (shepRestartNow s)

end Sys2Proof.Machine
end

