-- ==== Sys2Proof/Machine/Service.lean ====
section
/-! DEFINITION. The commands of the service protocol that reach registers, debug modules and the unit directory, and those
that stage an image (R605, R607 to R614, R628). -/

namespace Sys2Proof.Machine

/-! ## Register access -/

/-- What a session's register access carries (R41). -/
def Session.access (x : Session) : Access := ⟨.shep, decide (2 ≤ x.level), 0⟩

/-- The register-access code an access ended with, and the word it answered (R45). -/
def Resp.sideBand : Resp → Nat × Word
  | .data w => (0, w)
  | .ok => (0, 0)
  | .code c => (c, 0)
  | _ => (sbNoPage, 0)

/-- Words are read at ascending addresses up to the first that ends with another code than OK; no code where a word waits for its
tile (R175). -/
def regReadRun (acc : Access) : Nat → Nat → List Word → State → Option Nat × List Word × State
  | 0, _, l, s => (some 0, l, s)
  | n + 1, at_, l, s =>
    let s := regRead acc at_ s
    if s.resp = .stalled then (none, l, s.presentAgain acc at_)
    else
      match s.resp.sideBand with
      | (0, w) => regReadRun acc n (at_ + 4) (l ++ [w]) s
      | (c, _) => (some c, l, s)

/-- Words are written at ascending addresses up to the first that ends with another code than OK: code and words done. -/
def regWriteRun (acc : Access) (reach : Nat → Bool) : List Word → Nat → Nat → State → Nat × Nat × State
  | [], _, n, s => (0, n, s)
  | w :: ws, at_, n, s =>
    let s := if reach at_ then regWrite acc at_ w s else s.sbRefuse sbNoPage
    match s.resp.sideBand with
    | (0, _) => regWriteRun acc reach ws (at_ + 4) (n + 1) s
    | (c, _) => (c, n, s)

/-- Pages a PROVISION session's REG_WRITE reaches (R603). -/
def provisionReach (addr : Nat) : Bool :=
  [sysBase, keysBase, vaultBase, shepBase].contains (addr / 0x1000 * 0x1000)

/-- The words a REG_READ has read so far. -/
def State.wordsRead (s : State) (r : IspReq) (x : Session) : List Word :=
  match s.shep.reading with
  | some (num, q, l) => if num = x.num ∧ q = r.seq then l else []
  | none => []

/-- REG_READ. One that waits for a tile stays at the head of the queue with the words it has read, and goes on when it is executed
again (R175, R596). -/
def ispRegRead (s : State) : State :=
  s.ispExec 0x10 (fun s r x =>
    let had := s.wordsRead r x
    let t := regReadRun x.access (r.pay.getD 4 0 - had.length) (be r.pay 0 4 + 4 * had.length) had s
    let l := t.2.1
    let u := { t.2.2 with resp := s.resp }
    match t.1 with
    | none => { u with shep := { u.shep with reqs := r :: u.shep.reqs, reading := some (x.num, r.seq, l) } }
    | some c =>
      { u with shep := { u.shep with reading := none } }.ispReply r x ispOk
        ([c, l.length] ++ l.flatMap (fun (w : Word) => bigEnd 4 w.toNat)))

def execRegRead (s : State) : Host.Outcome State Fault Refusal := .next (ispRegRead s)

/-- REG_WRITE. -/
def ispRegWrite (s : State) : State :=
  s.ispExec 0x11 (fun s r x =>
    let was := s.resp
    let ws := (List.range (r.pay.getD 4 0)).map (fun i => word (be r.pay (5 + 4 * i) 4))
    let reach (n : Nat) : Bool := x.level != 4 || provisionReach n
    let t := regWriteRun x.access reach ws (be r.pay 0 4) 0 s
    ({ t.2.2 with resp := was }).ispReply r x ispOk [t.1, t.2.1])

def execRegWrite (s : State) : Host.Outcome State Fault Refusal := .next (ispRegWrite s)

/-! ## Debug modules -/

/-- The half a DM command names. -/
def IspReq.half (r : IspReq) : Half := if r.pay.getD 0 0 = 1 then .b else .a

/-- Addresses of the debug module interface that start an abstract command or a system-bus access. PRESUMED: the RISC-V
debug specification's command, sbaddress0 and sbdata0. -/
def dmActs (n : Nat) : Bool := n == 0x17 || n == 0x39 || n == 0x3C

/-- DM_READ: the debug module's answer is no register of the spec's map; its value is free. -/
def dmRead (s : State) : State :=
  s.ispExec 0x12 (fun s r x =>
    let v := s.freshIn 0 0xFFFFFFFF
    v.2.ispReply r x ispOk (bigEnd 4 v.1))

def execDmRead (s : State) : Host.Outcome State Fault Refusal := .next (dmRead s)

/-- DM_WRITE: the write reaches the debug module with the session's world; a secure abstract command or system-bus access is
refused there unless SEC_INV is 1 (R528). A half without power has no debug module to reach. -/
def dmWrite (s : State) : State :=
  s.ispExec 0x13 (fun s r x =>
    let sec := decide (2 ≤ x.level)
    let n := r.pay.getD 1 0
    let s := s.onlyIf (s.domainOn r.half.pd) (fun s =>
      s.emit (.dmi r.half n (word (be r.pay 2 4)) sec (sec && dmActs n && !s.invasive true)))
    s.ispReply r x ispOk [])

def execDmWrite (s : State) : Host.Outcome State Fault Refusal := .next (dmWrite s)

/-! ## Messages -/

/-- MSG_SEND of the protocol: the message goes into Shepherd's message registers and is sent (R628). -/
def ispMsgSend (s : State) : State :=
  s.ispExec 0x14 (fun s r x =>
    let s := s.each (List.range 8) (fun s i => s.wr (Master.shep.msgRegs + 4 * i) (imgWord r.pay (4 * i)))
    (msgGo .shep 1 s).ispReply r x ispOk [])

def execIspMsgSend (s : State) : Host.Outcome State Fault Refusal := .next (ispMsgSend s)

/-- MSG_POLL: the count and the oldest returned message, then POP (R605, R628). -/
def msgPoll (s : State) : State :=
  s.ispExec 0x15 (fun s r x =>
    let hd := (List.range 8).flatMap (fun i => octets (s.rd (Master.shep.msgRegs + mHead + 4 * i)))
    let n := s.mrqS.length
    (mrqPop .shep (word (r.pay.getD 0 0)) s).ispReply r x ispOk (n :: hd))

def execMsgPoll (s : State) : Host.Outcome State Fault Refusal := .next (msgPoll s)

/-! ## Staging (R607 to R614) -/

/-- Whether both code stores have power. -/
def State.storesOn (s : State) : Bool := s.domainOn 3 && s.domainOn 5

/-- IMG_LEN as R607 has it. -/
def imgLenOk (n : Nat) : Bool := decide (512 ≤ n ∧ n ≤ 805306368) && n % 512 == 0

/-- Kennel switches the code stores' domains on (R623). -/
def State.storesUp (s : State) : State :=
  s.each [3, 5] (fun s k => if s.gateSt k = 1 then s else s.setGateSt k 1)

/-- STAGE_OPEN (R612). -/
def stageOpen (s : State) : State :=
  s.ispExec 0x20 (fun s r x =>
    let n := be r.pay 0 4
    match s.shep.holder.filter (fun h => h != x.num) with
    | some h => s.ispReply r x ispStageBusy (bigEnd 2 h)
    | none =>
      if s.actState = 1 then s.ispReply r x ispActArmed []
      else if !imgLenOk n then s.ispReply r x ispBadImage []
      else if !s.inDead && !s.storesOn then s.ispReply r x ispNoStore []
      else
        let s := s.onlyIf s.inDead State.storesUp
        let s := { s with shep := { s.shep with holder := some x.num, imgLen := n, nextOff := 0, img := [] } }
        (s.setTarget slotWriting).ispReply r x ispOk [])

def execStageOpen (s : State) : Host.Outcome State Fault Refusal := .next (stageOpen s)

/-- STAGE_DATA (R613); `ok`: both stores programmed the octets without a fault. -/
def stageData (ok : Bool) (s : State) : State :=
  s.ispExec 0x21 (fun s r x =>
    let off := be r.pay 0 4
    let d := r.pay.drop 4
    if s.shep.holder ≠ some x.num then s.ispReply r x ispNotHolder []
    else if off ≠ s.shep.nextOff ∨ s.shep.imgLen < off + d.length then s.ispReply r x ispBadOffset []
    else if !s.storesOn || !ok then s.ispReply r x ispNoStore []
    else
      let s := { s with shep := { s.shep with nextOff := off + d.length, img := s.shep.img ++ d } }.stagePut off d
      s.ispReply r x ispOk [])

def execStageData (ok : Bool) (s : State) : Host.Outcome State Fault Refusal := .next (stageData ok s)

/-- STAGE_CLOSE (R613): before all octets have arrived BAD_IMAGE, the lock released; else the verification runs, and is
answered when it ends. -/
def stageClose (s : State) : State :=
  s.ispExec 0x22 (fun s r x =>
    if s.shep.holder ≠ some x.num then s.ispReply r x ispNotHolder []
    else if s.shep.nextOff < s.shep.imgLen then (s.stageRelease.stageOff).ispReply r x ispBadImage []
    else { s with shep := { s.shep with closing := some r } }.setTarget slotVerifying)

def execStageClose (s : State) : Host.Outcome State Fault Refusal := .next (stageClose s)

/-- A little-endian word of an image header (R607). -/
def headWord (l : List Nat) (off : Nat) : Nat := (imgWord l off).toNat

/-- The checks of R608 on a header, up to the length: `most` the length it may not pass. -/
def State.headerOk (s : State) (l : List Nat) : Bool :=
  let id := s.rd (sysBase + Reg.Sys.DEV_ID)
  headWord l 0 == 0x5A55494D && headWord l 4 % 256 == 1 && headWord l 4 / 65536 == bitsOf id 16 16 &&
    decide (headWord l 8 % 256 ≤ bitsOf id 0 8) && imgLenOk (headWord l 12)

/-- The image digest: SHA-384 with the signature taken as zeros (R607). -/
def imgDigestOf (l : List Nat) : List Nat :=
  octs (Config.sha 384 (l.take 0x100 ++ List.replicate 0x60 0 ++ l.drop 0x160)) 48

/-- The signature of a header over an image digest, under IMG_KEY (R607, R608). -/
def State.imgSigned (s : State) (head digest : List Nat) : Bool :=
  Config.ecdsaVerify (s.shepKey Reg.Shep.IMG_KEY) digest (octs (head.drop 0x100) 96)

/-- VERSION of the slot that was staged (R623, R626). -/
def State.stagedVersion (s : State) (v : Word) : State :=
  if s.inDead then { s with shep := { s.shep with verBoot := v } }
  else ({ s with shep := { s.shep with verOther := v } }).hwP shepBase (shepReg Reg.Shep.STAGE_VERSION) v

/-- The lock is freed with the target's state as it is. -/
def State.stageFree (s : State) : State :=
  ({ s with shep := { s.shep with holder := none, imgLen := 0, nextOff := 0, img := [] } }).stageOff

/-- STAGE_VERIFY_DONE (R608, R613); `same`: both halves' copies give the same digest. STAGE_CLOSE is answered and the lock
released. One whose lock was released meanwhile has lost its code store. -/
def stageVerifyDone (same : Bool) (s : State) : State :=
  match s.shep.closing with
  | none => s
  | some r =>
    let s := { s with shep := { s.shep with closing := none } }
    match s.sessionOf r with
    | none => s.ispDispose
    | some x =>
      let l := s.shep.img
      let v := headWord l 16
      let dg := imgDigestOf l
      let s :=
        if s.shep.holder ≠ some x.num then s.ispReply r x ispNoStore []
        else if !(s.headerOk l && headWord l 12 == s.shep.imgLen && s.imgSigned l dg && same) then
          (s.stageRelease.stageOff).ispReply r x ispVerifyFail []
        else if v < s.rdN (shepReg Reg.Shep.MIN_VERSION) then (s.stageRelease.stageOff).ispReply r x ispVersionOld []
        else (((s.setTarget slotVerified).stagedVersion (word v)).stageFree).ispReply r x ispOk (bigEnd 4 v ++ dg)
      s.ispDispose

def execStageVerifyDone (same : Bool) (s : State) : Host.Outcome State Fault Refusal := .next (stageVerifyDone same s)

/-- STAGE_ABORT (R614). -/
def stageAbort (s : State) : State :=
  s.ispExec 0x23 (fun s r x =>
    if s.shep.holder ≠ some x.num then s.ispReply r x ispNotHolder []
    else (s.stageRelease.stageOff).ispReply r x ispOk [])

def execStageAbort (s : State) : Host.Outcome State Fault Refusal := .next (stageAbort s)

/-- STAGE_STATUS. -/
def stageStatus (s : State) : State :=
  s.ispExec 0x24 (fun s r x =>
    s.ispReply r x ispOk (bigEnd 4 (s.rdN (shepReg Reg.Shep.STAGE_STAT)) ++ bigEnd 2 (s.shep.holder.getD 0) ++
      bigEnd 4 s.shep.nextOff))

def execStageStatus (s : State) : Host.Outcome State Fault Refusal := .next (stageStatus s)

/-- STAGE_LOCK_TIMEOUT: 60 s without a staging command release the lock; a verification is no idle time (R614). -/
def stageLockTimeout (s : State) : State := if s.shep.closing.isSome then s else s.stageRelease.stageOff

def execStageLockTimeout (s : State) : Host.Outcome State Fault Refusal := .next (stageLockTimeout s)

end Sys2Proof.Machine
end

