-- ==== Sys2Proof/Machine/Activation.lean ====
section
/-! DEFINITION. Activation groups and the Whistle, the activation instant, boot verification, the health window and
RECOVER (R608, R615 to R624). -/

namespace Sys2Proof.Machine

/-! ## The body of a Whistle (R616) -/

def whId (l : List Nat) : Nat := be l 0 4
def whGroup (l : List Nat) : Nat := be l 4 2
def whCancel (l : List Nat) : Bool := be l 6 2 % 2 == 1
def whSec (l : List Nat) : Nat := be l 8 6
def whNs (l : List Nat) : Nat := be l 14 4
def whOrigin (l : List Nat) : Nat := be l 18 2 % 16384

/-- The instant in units of TB0's clock, 2^-40 ns. -/
def whTotal (l : List Nat) : Nat := (whSec l * 1000000000 + whNs l) * 2 ^ 40

/-- TB0 in units of 2^-40 ns. -/
def State.tb0Total (s : State) : Nat := s.time.clk0.now.total

/-- The signature of a body under STATION_KEY. -/
def State.whSigned (s : State) (l : List Nat) : Bool := s.stationSigned (l.take 20) (octs (l.drop 20) 96)

/-- ACT_ID armed here, if one is. -/
def State.armedId (s : State) : Option Nat := if s.actState = 1 then some (s.rdN (shepReg Reg.Shep.ACT_ID)) else none

/-- LAST_ACT_ID. -/
def State.lastActId (s : State) : Nat := s.rdN (shepReg Reg.Shep.LAST_ACT_ID)

/-- Whether the module is a member of a group (R615). -/
def State.inGroup (s : State) (g : Nat) : Bool :=
  (List.range 8).any (fun i =>
    let w := s.rd (shepReg Reg.Shep.ACT_GROUP + 4 * i)
    bitOf w 31 && bitsOf w 0 16 == g)

/-- A Whistle or an acknowledgement from octet 0 of its header (R597). -/
def whFrame (type : Nat) (body : List Nat) : List Nat :=
  [0x10 + type] ++ List.replicate 9 0 ++ bigEnd 2 body.length ++ body

/-- A WHISTLE_ACK to the origin (R618); the origin acknowledges nothing to itself. -/
def State.whistleAck (s : State) (own : Bool) (l : List Nat) (result : Nat) : State :=
  s.onlyIf (!own) (fun s =>
    s.fabricSend (s.unitMac (whOrigin l)) (whFrame 4 (bigEnd 4 (whId l) ++ bigEnd 2 s.selfUnit ++ [result])))

/-- The module arms (R618, R626). -/
def State.arm (s : State) (l : List Nat) : State :=
  let w (s : State) (off v : Nat) : State := s.hwP shepBase (shepReg off) (word v)
  let s := w (w s Reg.Shep.ACT_ID (whId l)) Reg.Shep.LAST_ACT_ID (whId l)
  let s := w (w s Reg.Shep.INSTANT_SEC_LO (whSec l % 2 ^ 32)) Reg.Shep.INSTANT_SEC_HI (whSec l / 2 ^ 32)
  ((w s Reg.Shep.INSTANT_NS (whNs l % 2 ^ 30)).setActState 1).raise shepBase 19

/-- What a module does at the first Whistle with an ACT_ID (R618); `own`: at the origin itself (R617). -/
def State.whistleAct (s : State) (own : Bool) (l : List Nat) : State :=
  let id := whId l
  let c := whCancel l
  if s.shep.acted.contains (id, c) then s
  else if !s.whSigned l || (!c && decide (id ≤ s.lastActId)) then s.count (shepReg Reg.Shep.WHISTLE_BAD)
  else
    let s := s.raise shepBase 21
    let done (s : State) : State := { s with shep := { s.shep with acted := s.shep.acted ++ [(id, c)] } }
    if !s.inGroup (whGroup l) || s.inDead then s
    else if c then
      if s.armedId = some id then (done ((s.setActState 0).actResult 4)).whistleAck own l 5 else s
    else
      let s := done s
      if s.actState ≠ 0 then s.whistleAck own l 3
      else if whTotal l < s.tb0Total + 10000000 * 2 ^ 40 then s.whistleAck own l 4
      else
        let r := if s.targetSt = slotVerified && s.shep.holder.isNone then 1 else 2
        (s.arm l).whistleAck own l r

/-! ## Commands -/

/-- The origin takes a body that passed its checks: answered OK, to be sent five times, and acted on (R617). -/
def State.originate (s : State) (r : IspReq) (x : Session) (l : List Nat) : State :=
  let s := s.ispReply r x ispOk []
  let w : WhistleSend := ⟨l, 5⟩
  let s := { s with shep := { s.shep with sends := s.shep.sends ++ [w], lastOrigin := some (whId l) } }
  s.whistleAct true l

/-- ARM_ACTIVATION (R617). -/
def armActivation (s : State) : State :=
  s.ispExec 0x30 (fun s r x =>
    let l := r.pay
    let t := whTotal l
    let now := s.tb0Total
    if !s.whSigned l then s.ispReply r x ispBadSignature []
    else if whId l ≤ s.lastActId then s.ispReply r x ispStaleId []
    else if t < now + 1000000000 * 2 ^ 40 ∨ now + 86400000000000 * 2 ^ 40 < t then s.ispReply r x ispArmTime []
    else if s.actState = 1 then s.ispReply r x ispActBusy []
    else s.originate r x l)

def execArmActivation (s : State) : Host.Outcome State Fault Refusal := .next (armActivation s)

/-- DISARM (R617). -/
def disarm (s : State) : State :=
  s.ispExec 0x31 (fun s r x =>
    let l := r.pay
    if !s.whSigned l then s.ispReply r x ispBadSignature []
    else if s.armedId ≠ some (whId l) then s.ispReply r x ispNotArmed []
    else s.originate r x l)

def execDisarm (s : State) : Host.Outcome State Fault Refusal := .next (disarm s)

/-- ACT_STATUS (R605). -/
def actStatus (s : State) : State :=
  s.ispExec 0x32 (fun s r x =>
    let w (off : Nat) : List Nat := bigEnd 4 (s.rdN (shepReg off))
    let hi := bigEnd 2 (s.fld (shepReg Reg.Shep.INSTANT_SEC_HI) 0 16)
    s.ispReply r x ispOk (w Reg.Shep.ACT_STAT ++ w Reg.Shep.ACT_ID ++ hi ++ w Reg.Shep.INSTANT_SEC_LO ++
      w Reg.Shep.INSTANT_NS ++ w Reg.Shep.ACK_CNT))

def execActStatus (s : State) : Host.Outcome State Fault Refusal := .next (actStatus s)

/-- BOOT_SLOT switches (R611, R620, R624): the slots change places, the one left in state `left`. -/
def State.switchSlot (s : State) (left : Nat) : State :=
  let k := shepReg Reg.Shep.BOOT_SLOT
  let s := s.hwP shepBase k (setBits (s.rd k) 0 1 (1 - s.fld k 0 1))
  let p := s.shep
  let s := { s with shep := { p with bootSt := p.otherSt, otherSt := left, verBoot := p.verOther, verOther := p.verBoot } }
  s.hwP shepBase (shepReg Reg.Shep.STAGE_VERSION) p.verBoot

/-- RECOVER (R624). -/
def recover (s : State) : State :=
  s.ispExec 0x40 (fun s r x =>
    let mode := r.pay.getD 0 0
    if !s.inDead then s.ispReply r x ispNotDead []
    else if s.shep.holder.isSome then s.ispReply r x ispStageBusy (bigEnd 2 (s.shep.holder.getD 0))
    else if mode = 2 ∧ s.shep.otherSt ≠ slotPrevious ∧ s.shep.otherSt ≠ slotVerified ∨
        mode = 3 ∧ s.shep.bootSt ≠ slotVerified then s.ispReply r x ispNoImage []
    else
      let s := (s.ispReply r x ispOk []).dropSessions (fun (y : Session) => y.num == x.num)
      let s := s.setActState 2
      let s := s.onlyIf (mode == 2) (·.switchSlot slotInvalid)
      let s := { s with shep := { s.shep with recovered := true } }
      s.showStage.reset? .srst 7)

def execRecover (s : State) : Host.Outcome State Fault Refusal := .next (recover s)

/-! ## Whistles on their way -/

/-- WHISTLE_SEND (R617): the first Whistle still to be sent goes out once more, on SP and through the fabric. -/
def whistleSend (s : State) : State :=
  match s.shep.sends with
  | [] => s
  | w :: ws =>
    let l := whFrame 3 w.body
    let s := { s with shep := { s.shep with sends := if w.left ≤ 1 then ws else { w with left := w.left - 1 } :: ws } }
    (s.spSend (bigEnd 6 s.whistleMac) l).fabricSend s.whistleMac l

def execWhistleSend (s : State) : Host.Outcome State Fault Refusal := .next (whistleSend s)

/-- WHISTLE_RX (R618): the first Whistle that has arrived. -/
def whistleRx (s : State) : State :=
  match s.shep.whistleIn with
  | [] => s
  | l :: ls => { s with shep := { s.shep with whistleIn := ls } }.whistleAct false l

def execWhistleRx (s : State) : Host.Outcome State Fault Refusal := .next (whistleRx s)

/-- WHISTLE_ACK_RX (R618): the first acknowledgement that has arrived is counted if it is for the last ACT_ID originated. -/
def whistleAckRx (s : State) : State :=
  match s.shep.ackIn with
  | [] => s
  | l :: ls =>
    let s := { s with shep := { s.shep with ackIn := ls } }
    if s.shep.lastOrigin = some (be l 0 4) then
      s.countFld (shepReg Reg.Shep.ACK_CNT) (if l.getD 6 0 = 1 then 0 else 16) 16
    else s

def execWhistleAckRx (s : State) : Host.Outcome State Fault Refusal := .next (whistleAckRx s)

/-! ## The instant, the boot and the window -/

/-- The armed instant in units of 2^-40 ns. -/
def State.instant (s : State) : Nat :=
  ((s.rdN (shepReg Reg.Shep.INSTANT_SEC_LO) + s.fld (shepReg Reg.Shep.INSTANT_SEC_HI) 0 16 * 2 ^ 32) * 1000000000 +
    s.fld (shepReg Reg.Shep.INSTANT_NS) 0 30) * 2 ^ 40

/-- ACTIVATION_INSTANT (R619, R620): TB0 has reached the armed instant. -/
def activationInstant (s : State) : State :=
  if s.actState ≠ 1 ∨ s.tb0Total < s.instant then s
  else
    let s := s.setActState 0
    if s.devState ≠ 0 ∧ s.devState ≠ 1 then s.actResult 3
    else if s.targetSt ≠ slotVerified ∨ s.shep.holder.isSome then s.actResult 2
    else
      let s := (s.setActState 2).switchSlot slotPrevious
      let s := { s with shep := { s.shep with recovered := false } }
      s.showStage.reset? .srst 7

def execActivationInstant (s : State) : Host.Outcome State Fault Refusal := .next (activationInstant s)

/-- BOOT_VERIFY (R608, R622, R323 step 4): `head` the header in the boot slot, `digest` the SHA-384 of its image, `same`
whether both halves' copies give it. In DEAD the slot is not run. -/
def bootVerify (head digest : List Nat) (same : Bool) (s : State) : State :=
  if !s.supplied || s.verified || !(s.rst.contains .por || s.rst.contains .srst) then s
  else if s.inDead then s.enterDead
  else
    let dg := octs digest 48
    if s.headerOk head && s.imgSigned head dg && same then
      let ws := (wordsOf dg 12).map word
      let s := s.each ws.zipIdx (fun s e => s.wr (vaultBase + Reg.Vault.IMG_DIGEST + 4 * e.2) e.1)
      { s with imgKept := ws, verified := true }
    else (s.actResult 6).enterDead

def execBootVerify (head digest : List Nat) (same : Bool) (s : State) : Host.Outcome State Fault Refusal :=
  .next (bootVerify head digest same s)

/-- HEALTH_WINDOW_EXPIRY (R622): the window closes without both bits. -/
def healthWindowExpiry (s : State) : State :=
  match s.actState, s.shep.winEnd with
  | 2, some t => if t ≤ s.tbfNs then (s.actResult 5).enterDead else s
  | _, _ => s

def execHealthWindowExpiry (s : State) : Host.Outcome State Fault Refusal := .next (healthWindowExpiry s)

end Sys2Proof.Machine
end

