-- ==== Sys2Proof/Machine/Dispatch.lean ====
section
/-! DEFINITION. The dispatcher: one arm per command. -/

namespace Sys2Proof.Machine

def exec (i : Instr) (s : State) : Host.Outcome State Fault Refusal :=
  match i with
  | .registerWrite acc size addr v => Sys2Proof.Machine.execRegisterWrite acc size addr v s
  | .rcRead acc size addr => Sys2Proof.Machine.execRcRead acc size addr s
  | .ownerWrite acc page v => Sys2Proof.Machine.execOwnerWrite acc page v s
  | .lockWrite acc page v => Sys2Proof.Machine.execLockWrite acc page v s
  | .irqClr acc page v => Sys2Proof.Machine.execIrqClr acc page v s
  | .irqForce acc page v => Sys2Proof.Machine.execIrqForce acc page v s
  | .unitNop acc page => Sys2Proof.Machine.execUnitNop acc page s
  | .unitCmdReserved acc page cmd => Sys2Proof.Machine.execUnitCmdReserved acc page cmd s
  | .unitPrst acc page => Sys2Proof.Machine.execUnitPrst acc page s
  | .unitUnsupported acc page cmd => Sys2Proof.Machine.execUnitUnsupported acc page cmd s
  | .compositeCmd acc page cmd => Sys2Proof.Machine.execCompositeCmd acc page cmd s
  | .fanOutStep comp => Sys2Proof.Machine.execFanOutStep comp s
  | .channelOn acc n => Sys2Proof.Machine.execChannelOn acc n s
  | .channelOff acc n => Sys2Proof.Machine.execChannelOff acc n s
  | .channelClear acc n => Sys2Proof.Machine.execChannelClear acc n s
  | .domainOn acc d => Sys2Proof.Machine.execDomainOn acc d s
  | .domainOff acc d => Sys2Proof.Machine.execDomainOff acc d s
  | .domainPrst acc d => Sys2Proof.Machine.execDomainPrst acc d s
  | .halfHalt acc h => Sys2Proof.Machine.execHalfHalt acc h s
  | .halfResume acc h => Sys2Proof.Machine.execHalfResume acc h s
  | .halfClear acc h => Sys2Proof.Machine.execHalfClear acc h s
  | .portOn acc p => Sys2Proof.Machine.execPortOn acc p s
  | .portOff acc p => Sys2Proof.Machine.execPortOff acc p s
  | .canClear acc k => Sys2Proof.Machine.execCanClear acc k s
  | .msgSend acc v => Sys2Proof.Machine.execMsgSend acc v s
  | .mrqPop acc v => Sys2Proof.Machine.execMrqPop acc v s
  | .msgArrive => Sys2Proof.Machine.execMsgArrive s
  | .msgReturn => Sys2Proof.Machine.execMsgReturn s
  | .clockTick => Sys2Proof.Machine.execClockTick s
  | .incLoWrite acc k v => Sys2Proof.Machine.execIncLoWrite acc k v s
  | .incHiWrite acc k v => Sys2Proof.Machine.execIncHiWrite acc k v s
  | .incCommit k => Sys2Proof.Machine.execIncCommit k s
  | .slewGo acc k => Sys2Proof.Machine.execSlewGo acc k s
  | .slewCancel acc k => Sys2Proof.Machine.execSlewCancel acc k s
  | .slewDone k => Sys2Proof.Machine.execSlewDone k s
  | .ofsGo acc k => Sys2Proof.Machine.execOfsGo acc k s
  | .offsetApply k => Sys2Proof.Machine.execOffsetApply k s
  | .snapGo acc => Sys2Proof.Machine.execSnapGo acc s
  | .snapLatch m => Sys2Proof.Machine.execSnapLatch m s
  | .capPop acc h => Sys2Proof.Machine.execCapPop acc h s
  | .timeEpochReached d => Sys2Proof.Machine.execTimeEpochReached d s
  | .encEdge pin rising => Sys2Proof.Machine.execEncEdge pin rising s
  | .lsEdge pin rising => Sys2Proof.Machine.execLsEdge pin rising s
  | .lineMsgGo acc d v => Sys2Proof.Machine.execLineMsgGo acc d v s
  | .domainHold d => Sys2Proof.Machine.execDomainHold d s
  | .stallTimeout d => Sys2Proof.Machine.execStallTimeout d s
  | .evtShadowWrite acc n1 j v => Sys2Proof.Machine.execEvtShadowWrite acc n1 j v s
  | .evtCommit acc n1 v => Sys2Proof.Machine.execEvtCommit acc n1 v s
  | .eventEvaluate => Sys2Proof.Machine.execEventEvaluate s
  | .actionSet n1 => Sys2Proof.Machine.execActionSet n1 s
  | .actionClear n1 => Sys2Proof.Machine.execActionClear n1 s
  | .actionToggle n1 => Sys2Proof.Machine.execActionToggle n1 s
  | .actionOpen n1 => Sys2Proof.Machine.execActionOpen n1 s
  | .actionClose n1 => Sys2Proof.Machine.execActionClose n1 s
  | .actionPulse n1 => Sys2Proof.Machine.execActionPulse n1 s
  | .pulseEnd k => Sys2Proof.Machine.execPulseEnd k s
  | .actionSample n1 => Sys2Proof.Machine.execActionSample n1 s
  | .actionIrq n1 => Sys2Proof.Machine.execActionIrq n1 s
  | .actionChain n1 => Sys2Proof.Machine.execActionChain n1 s
  | .lineSet acc w v => Sys2Proof.Machine.execLineSet acc w v s
  | .lineClr acc w v => Sys2Proof.Machine.execLineClr acc w v s
  | .gateStateWrite acc w v => Sys2Proof.Machine.execGateStateWrite acc w v s
  | .toArm acc k v => Sys2Proof.Machine.execToArm acc k v s
  | .toDisarm acc k v => Sys2Proof.Machine.execToDisarm acc k v s
  | .phaseRead acc d => Sys2Proof.Machine.execPhaseRead acc d s
  | .tclKeepalive t seq src claim => Sys2Proof.Machine.execTclKeepalive t seq src claim s
  | .tclClaim t seq src claim => Sys2Proof.Machine.execTclClaim t seq src claim s
  | .tclRenew t seq src claim => Sys2Proof.Machine.execTclRenew t seq src claim s
  | .tclWrite t seq src claim unit reg data => Sys2Proof.Machine.execTclWrite t seq src claim unit reg data s
  | .tclRead t seq src claim unit reg => Sys2Proof.Machine.execTclRead t seq src claim unit reg s
  | .tclPark t seq src claim => Sys2Proof.Machine.execTclPark t seq src claim s
  | .tclTrst t seq src claim key => Sys2Proof.Machine.execTclTrst t seq src claim key s
  | .tclBadFrame t octs => Sys2Proof.Machine.execTclBadFrame t octs s
  | .storedReplyDiscard t => Sys2Proof.Machine.execStoredReplyDiscard t s
  | .replyStatus t r => Sys2Proof.Machine.execReplyStatus t r s
  | .replyAck t r => Sys2Proof.Machine.execReplyAck t r s
  | .replyData t r => Sys2Proof.Machine.execReplyData t r s
  | .replyNack t r => Sys2Proof.Machine.execReplyNack t r s
  | .replyTimeout t seq began => Sys2Proof.Machine.execReplyTimeout t seq began s
  | .leashStayEntry t => Sys2Proof.Machine.execLeashStayEntry t s
  | .leashLossEntry t => Sys2Proof.Machine.execLeashLossEntry t s
  | .takeInstant t => Sys2Proof.Machine.execTakeInstant t s
  | .trstTakeEffect t => Sys2Proof.Machine.execTrstTakeEffect t s
  | .tilePowerUp t mv => Sys2Proof.Machine.execTilePowerUp t mv s
  | .tileBrownout t mv => Sys2Proof.Machine.execTileBrownout t mv s
  | .feedBandChange t mv => Sys2Proof.Machine.execFeedBandChange t mv s
  | .supplySample t n1 => Sys2Proof.Machine.execSupplySample t n1 s
  | .lhInputChange t n1 lv => Sys2Proof.Machine.execLhInputChange t n1 lv s
  | .inEdge n => Sys2Proof.Machine.execInEdge n s
  | .leashCtrlClaim acc t => Sys2Proof.Machine.execLeashCtrlClaim acc t s
  | .leashCtrlRenew acc t => Sys2Proof.Machine.execLeashCtrlRenew acc t s
  | .leashCtrlPark acc t => Sys2Proof.Machine.execLeashCtrlPark acc t s
  | .trstReq acc t v => Sys2Proof.Machine.execTrstReq acc t v s
  | .rwtWrite acc n r v => Sys2Proof.Machine.execRwtWrite acc n r v s
  | .policyWrite acc t unit v => Sys2Proof.Machine.execPolicyWrite acc t unit v s
  | .keepaliveTimer h => Sys2Proof.Machine.execKeepaliveTimer h s
  | .mirrorReload t => Sys2Proof.Machine.execMirrorReload t s
  | .leashPoll t => Sys2Proof.Machine.execLeashPoll t s
  | .mirrorRefresh t => Sys2Proof.Machine.execMirrorRefresh t s
  | .fastTrip n ma out => Sys2Proof.Machine.execFastTrip n ma out s
  | .digitalTrip n ma out => Sys2Proof.Machine.execDigitalTrip n ma out s
  | .inrushWindowClose n => Sys2Proof.Machine.execInrushWindowClose n s
  | .thermalLatch n t => Sys2Proof.Machine.execThermalLatch n t s
  | .junctionThreshold n t => Sys2Proof.Machine.execJunctionThreshold n t s
  | .retryTimerExpiry n => Sys2Proof.Machine.execRetryTimerExpiry n s
  | .cleanTimeExpiry n => Sys2Proof.Machine.execCleanTimeExpiry n s
  | .protClrTh n => Sys2Proof.Machine.execProtClrTh n s
  | .protClrOc n => Sys2Proof.Machine.execProtClrOc n s
  | .protClrRetry n => Sys2Proof.Machine.execProtClrRetry n s
  | .protClrDiag n => Sys2Proof.Machine.execProtClrDiag n s
  | .olOnDetect n ua => Sys2Proof.Machine.execOlOnDetect n ua s
  | .revDetect n ma => Sys2Proof.Machine.execRevDetect n ma s
  | .offDiagStart n => Sys2Proof.Machine.execOffDiagStart n s
  | .offDiagPhase1End n out => Sys2Proof.Machine.execOffDiagPhase1End n out s
  | .offDiagPhase2End n out => Sys2Proof.Machine.execOffDiagPhase2End n out s
  | .conversionHold t pre => Sys2Proof.Machine.execConversionHold t pre s
  | .conversionResult t code => Sys2Proof.Machine.execConversionResult t code s
  | .swConv acc t v => Sys2Proof.Machine.execSwConv acc t v s
  | .bgScanStart t => Sys2Proof.Machine.execBgScanStart t s
  | .capArm acc t v => Sys2Proof.Machine.execCapArm acc t v s
  | .capAbort acc t v => Sys2Proof.Machine.execCapAbort acc t v s
  | .capDone t => Sys2Proof.Machine.execCapDone t s
  | .capDataRead acc t => Sys2Proof.Machine.execCapDataRead acc t s
  | .fmonSample va vb => Sys2Proof.Machine.execFmonSample va vb s
  | .fmonClr acc v => Sys2Proof.Machine.execFmonClr acc v s
  | .membAdd acc g m => Sys2Proof.Machine.execMembAdd acc g m s
  | .membRemove acc g m => Sys2Proof.Machine.execMembRemove acc g m s
  | .membApply => Sys2Proof.Machine.execMembApply s
  | .distItem => Sys2Proof.Machine.execDistItem s
  | .barkFeed acc v => Sys2Proof.Machine.execBarkFeed acc v s
  | .barkSend => Sys2Proof.Machine.execBarkSend s
  | .barkReceive h net w => Sys2Proof.Machine.execBarkReceive h net w s
  | .echoReceive h net w => Sys2Proof.Machine.execEchoReceive h net w s
  | .barkMissTimer h net => Sys2Proof.Machine.execBarkMissTimer h net s
  | .takeoverGrant => Sys2Proof.Machine.execTakeoverGrant s
  | .takeoverClaim => Sys2Proof.Machine.execTakeoverClaim s
  | .roleSwap acc h => Sys2Proof.Machine.execRoleSwap acc h s
  | .roleAssume acc h => Sys2Proof.Machine.execRoleAssume acc h s
  | .resyncReq acc h => Sys2Proof.Machine.execResyncReq acc h s
  | .resyncAbort acc h => Sys2Proof.Machine.execResyncAbort acc h s
  | .cmpEpoch acc v => Sys2Proof.Machine.execCmpEpoch acc v s
  | .cmpBase acc v => Sys2Proof.Machine.execCmpBase acc v s
  | .cmpRecordRx h => Sys2Proof.Machine.execCmpRecordRx h s
  | .cmpLateTimer h => Sys2Proof.Machine.execCmpLateTimer h s
  | .por cell => Sys2Proof.Machine.execPor cell s
  | .bor rail => Sys2Proof.Machine.execBor rail s
  | .srstRequest acc key => Sys2Proof.Machine.execSrstRequest acc key s
  | .hrstARequest acc key => Sys2Proof.Machine.execHrstARequest acc key s
  | .hrstBRequest acc key => Sys2Proof.Machine.execHrstBRequest acc key s
  | .crstRequest acc key h core => Sys2Proof.Machine.execCrstRequest acc key h core s
  | .resetRelease r => Sys2Proof.Machine.execResetRelease r s
  | .stateReqDoze acc => Sys2Proof.Machine.execStateReqDoze acc s
  | .stateReqRun acc => Sys2Proof.Machine.execStateReqRun acc s
  | .stateReqPark acc => Sys2Proof.Machine.execStateReqPark acc s
  | .dozeWake => Sys2Proof.Machine.execDozeWake s
  | .parkEntry => Sys2Proof.Machine.execParkEntry s
  | .parkTileWaitEnd => Sys2Proof.Machine.execParkTileWaitEnd s
  | .wakeSource kind n1 rtc => Sys2Proof.Machine.execWakeSource kind n1 rtc s
  | .parkExit periods => Sys2Proof.Machine.execParkExit periods s
  | .supplyLow => Sys2Proof.Machine.execSupplyLow s
  | .supplyLoss => Sys2Proof.Machine.execSupplyLoss s
  | .pdReqOn acc k => Sys2Proof.Machine.execPdReqOn acc k s
  | .pdReqOff acc k => Sys2Proof.Machine.execPdReqOff acc k s
  | .pdTransitionEnd k => Sys2Proof.Machine.execPdTransitionEnd k s
  | .secureHoldWrite acc k b => Sys2Proof.Machine.execSecureHoldWrite acc k b s
  | .ckgReqOn acc j => Sys2Proof.Machine.execCkgReqOn acc j s
  | .ckgReqOff acc j => Sys2Proof.Machine.execCkgReqOff acc j s
  | .rwpWrite acc addr v => Sys2Proof.Machine.execRwpWrite acc addr v s
  | .lifeHour => Sys2Proof.Machine.execLifeHour s
  | .lsDivergence x d => Sys2Proof.Machine.execLsDivergence x d s
  | .lsUe x array checker addr => Sys2Proof.Machine.execLsUe x array checker addr s
  | .correctableError x => Sys2Proof.Machine.execCorrectableError x s
  | .scrubGo acc x => Sys2Proof.Machine.execScrubGo acc x s
  | .scrubAuto x => Sys2Proof.Machine.execScrubAuto x s
  | .scrubCompare x main checker => Sys2Proof.Machine.execScrubCompare x main checker s
  | .lsInject acc x lane => Sys2Proof.Machine.execLsInject acc x lane s
  | .monitorRecord src info => Sys2Proof.Machine.execMonitorRecord src info s
  | .safeInject acc src dry key => Sys2Proof.Machine.execSafeInject acc src dry key s
  | .pathPersistExpiry h => Sys2Proof.Machine.execPathPersistExpiry h s
  | .ceWindowExpiry h => Sys2Proof.Machine.execCeWindowExpiry h s
  | .busStallTimer h addr => Sys2Proof.Machine.execBusStallTimer h addr s
  | .frameLookup p pre octs sfd sec => Sys2Proof.Machine.execFrameLookup p pre octs sfd sec s
  | .fabricSlot arr => Sys2Proof.Machine.execFabricSlot arr s
  | .ingressFrameEnd p pre octs err icv => Sys2Proof.Machine.execIngressFrameEnd p pre octs err icv s
  | .txSelect p bin => Sys2Proof.Machine.execTxSelect p bin s
  | .txComplete p => Sys2Proof.Machine.execTxComplete p s
  | .launchLate p q => Sys2Proof.Machine.execLaunchLate p q s
  | .rsvCommit acc => Sys2Proof.Machine.execRsvCommit acc s
  | .rsvRevert acc => Sys2Proof.Machine.execRsvRevert acc s
  | .rsvActivate => Sys2Proof.Machine.execRsvActivate s
  | .fdbWrite acc idx => Sys2Proof.Machine.execFdbWrite acc idx s
  | .fdbClear acc idx => Sys2Proof.Machine.execFdbClear acc idx s
  | .fdbRead acc idx => Sys2Proof.Machine.execFdbRead acc idx s
  | .fdbFind acc idx => Sys2Proof.Machine.execFdbFind acc idx s
  | .sfWrite acc idx clr => Sys2Proof.Machine.execSfWrite acc idx clr s
  | .sfClear acc idx clr => Sys2Proof.Machine.execSfClear acc idx clr s
  | .sfRead acc idx clr => Sys2Proof.Machine.execSfRead acc idx clr s
  | .mgWrite acc idx => Sys2Proof.Machine.execMgWrite acc idx s
  | .mgClear acc idx => Sys2Proof.Machine.execMgClear acc idx s
  | .mgRead acc idx => Sys2Proof.Machine.execMgRead acc idx s
  | .cmtBadOp acc tbl v => Sys2Proof.Machine.execCmtBadOp acc tbl v s
  | .learnInsert => Sys2Proof.Machine.execLearnInsert s
  | .residueEvaluate => Sys2Proof.Machine.execResidueEvaluate s
  | .residueTimeout => Sys2Proof.Machine.execResidueTimeout s
  | .linkUp p sp master lo hi => Sys2Proof.Machine.execLinkUp p sp master lo hi s
  | .linkDown p => Sys2Proof.Machine.execLinkDown p s
  | .anFail p => Sys2Proof.Machine.execAnFail p s
  | .anRetry p => Sys2Proof.Machine.execAnRetry p s
  | .tdrGo acc p vf => Sys2Proof.Machine.execTdrGo acc p vf s
  | .tdrDone p refl noise => Sys2Proof.Machine.execTdrDone p refl noise s
  | .plcaCycle p seen => Sys2Proof.Machine.execPlcaCycle p seen s
  | .collision p late node => Sys2Proof.Machine.execCollision p late node s
  | .plcaObsExpiry p mask => Sys2Proof.Machine.execPlcaObsExpiry p mask s
  | .gwFrameRx => Sys2Proof.Machine.execGwFrameRx s
  | .gwAggSend bus => Sys2Proof.Machine.execGwAggSend bus s
  | .canRx k m ago => Sys2Proof.Machine.execCanRx k m ago s
  | .canTxDone k => Sys2Proof.Machine.execCanTxDone k s
  | .canTxError k arb => Sys2Proof.Machine.execCanTxError k arb s
  | .canBusOff k => Sys2Proof.Machine.execCanBusOff k s
  | .canErrState k passive tec rec errs => Sys2Proof.Machine.execCanErrState k passive tec rec errs s
  | .canRecoveryDone k => Sys2Proof.Machine.execCanRecoveryDone k s
  | .linHeader k id res ago => Sys2Proof.Machine.execLinHeader k id res ago s
  | .linNoResp k id => Sys2Proof.Machine.execLinNoResp k id s
  | .diChange n1 lv => Sys2Proof.Machine.execDiChange n1 lv s
  | .aiConversion m code => Sys2Proof.Machine.execAiConversion m code s
  | .aiScan => Sys2Proof.Machine.execAiScan s
  | .aiSwConv acc v => Sys2Proof.Machine.execAiSwConv acc v s
  | .lhDiffTimer n1 => Sys2Proof.Machine.execLhDiffTimer n1 s
  | .qassignWrite acc n v => Sys2Proof.Machine.execQassignWrite acc n v s
  | .ctxViWrite acc w v => Sys2Proof.Machine.execCtxViWrite acc w v s
  | .viEnable acc n => Sys2Proof.Machine.execViEnable acc n s
  | .viQuiesce acc n => Sys2Proof.Machine.execViQuiesce acc n s
  | .viResume acc n => Sys2Proof.Machine.execViResume acc n s
  | .viFreeze acc n => Sys2Proof.Machine.execViFreeze acc n s
  | .viSave acc n mig => Sys2Proof.Machine.execViSave acc n mig s
  | .viRestore acc n mig => Sys2Proof.Machine.execViRestore acc n mig s
  | .viVrst acc n => Sys2Proof.Machine.execViVrst acc n s
  | .viVrstForce acc n => Sys2Proof.Machine.execViVrstForce acc n s
  | .quiesceComplete n => Sys2Proof.Machine.execQuiesceComplete n s
  | .vrstComplete n => Sys2Proof.Machine.execVrstComplete n s
  | .saveComplete => Sys2Proof.Machine.execSaveComplete s
  | .restoreComplete img => Sys2Proof.Machine.execRestoreComplete img s
  | .doorbell acc n v => Sys2Proof.Machine.execDoorbell acc n v s
  | .qWrWrite acc n v => Sys2Proof.Machine.execQWrWrite acc n v s
  | .qRdWrite acc n v => Sys2Proof.Machine.execQRdWrite acc n v s
  | .hostTxFetch h desc octs => Sys2Proof.Machine.execHostTxFetch h desc octs s
  | .hostRxDeliver h => Sys2Proof.Machine.execHostRxDeliver h s
  | .tokenRefill => Sys2Proof.Machine.execTokenRefill s
  | .dwrrRound e => Sys2Proof.Machine.execDwrrRound e s
  | .outboundPostedWrite acc mst off octs excl backlog => Sys2Proof.Machine.execOutboundPostedWrite acc mst off octs excl backlog s
  | .delayedTransaction acc mst off size data excl => Sys2Proof.Machine.execDelayedTransaction acc mst off size data excl s
  | .fenceRead acc mst => Sys2Proof.Machine.execFenceRead acc mst s
  | .spanRequestRx buf ok data => Sys2Proof.Machine.execSpanRequestRx buf ok data s
  | .spanCplRx h tun => Sys2Proof.Machine.execSpanCplRx h tun s
  | .spanAckRx h tun => Sys2Proof.Machine.execSpanAckRx h tun s
  | .spanWfailRx h tun => Sys2Proof.Machine.execSpanWfailRx h tun s
  | .dtDiscardTimer => Sys2Proof.Machine.execDtDiscardTimer s
  | .tunnelTimeout => Sys2Proof.Machine.execTunnelTimeout s
  | .spanLinkDown => Sys2Proof.Machine.execSpanLinkDown s
  | .spanFrameRx h => Sys2Proof.Machine.execSpanFrameRx h s
  | .pwfPop acc v => Sys2Proof.Machine.execPwfPop acc v s
  | .mworldWrite h c machine v => Sys2Proof.Machine.execMworldWrite h c machine v s
  | .smrWrite acc h r lim v => Sys2Proof.Machine.execSmrWrite acc h r lim v s
  | .srccfgWrite acc h n v => Sys2Proof.Machine.execSrccfgWrite acc h n v s
  | .irqLineChange h n => Sys2Proof.Machine.execIrqLineChange h n s
  | .claimRead acc h c sec => Sys2Proof.Machine.execClaimRead acc h c sec s
  | .completeWrite acc h c sec v => Sys2Proof.Machine.execCompleteWrite acc h c sec v s
  | .sgiWrite acc h v => Sys2Proof.Machine.execSgiWrite acc h v s
  | .dbgEnWrite acc v => Sys2Proof.Machine.execDbgEnWrite acc v s
  | .dbgLockWrite acc v => Sys2Proof.Machine.execDbgLockWrite acc v s
  | .haltRequest h c sec => Sys2Proof.Machine.execHaltRequest h c sec s
  | .bankEnWrite acc k v => Sys2Proof.Machine.execBankEnWrite acc k v s
  | .cntHiWrite acc k n1 v => Sys2Proof.Machine.execCntHiWrite acc k n1 v s
  | .cntLoWrite acc k n1 v => Sys2Proof.Machine.execCntLoWrite acc k n1 v s
  | .counterOverflow k n1 => Sys2Proof.Machine.execCounterOverflow k n1 s
  | .tamper src => Sys2Proof.Machine.execTamper src s
  | .provision acc v => Sys2Proof.Machine.execProvision acc v s
  | .ksWrite acc slot parent record => Sys2Proof.Machine.execKsWrite acc slot parent record s
  | .ksErase acc slot parent record => Sys2Proof.Machine.execKsErase acc slot parent record s
  | .ksDerive acc slot parent record => Sys2Proof.Machine.execKsDerive acc slot parent record s
  | .ksRead acc slot parent record => Sys2Proof.Machine.execKsRead acc slot parent record s
  | .ksAttest acc slot parent record => Sys2Proof.Machine.execKsAttest acc slot parent record s
  | .ksStoreP acc slot parent record => Sys2Proof.Machine.execKsStoreP acc slot parent record s
  | .ksLoadP acc slot parent record => Sys2Proof.Machine.execKsLoadP acc slot parent record s
  | .ksEraseP acc slot parent record => Sys2Proof.Machine.execKsEraseP acc slot parent record s
  | .ksReadP acc slot parent record => Sys2Proof.Machine.execKsReadP acc slot parent record s
  | .ksDeriveRoot acc slot parent record => Sys2Proof.Machine.execKsDeriveRoot acc slot parent record s
  | .ksCmdReserved acc op slot parent record => Sys2Proof.Machine.execKsCmdReserved acc op slot parent record s
  | .ksCmdEnd => Sys2Proof.Machine.execKsCmdEnd s
  | .csubmit acc n v => Sys2Proof.Machine.execCsubmit acc n v s
  | .ciphSubmit acc v => Sys2Proof.Machine.execCiphSubmit acc v s
  | .laneAccept lane heads iv aad tag wbOk => Sys2Proof.Machine.execLaneAccept lane heads iv aad tag wbOk s
  | .laneBlock lane inp wrOk => Sys2Proof.Machine.execLaneBlock lane inp wrOk s
  | .laneOpEnd lane wrOk wbOk => Sys2Proof.Machine.execLaneOpEnd lane wrOk wbOk s
  | .saEnable acc p v => Sys2Proof.Machine.execSaEnable acc p v s
  | .cipherAlarm cause => Sys2Proof.Machine.execCipherAlarm cause s
  | .alarmClr acc v => Sys2Proof.Machine.execAlarmClr acc v s
  | .trngStartupDone => Sys2Proof.Machine.execTrngStartupDone s
  | .randDataRead acc => Sys2Proof.Machine.execRandDataRead acc s
  | .spFrameRx octs => Sys2Proof.Machine.execSpFrameRx octs s
  | .fabricIspRx h => Sys2Proof.Machine.execFabricIspRx h s
  | .hello => Sys2Proof.Machine.execHello s
  | .auth => Sys2Proof.Machine.execAuth s
  | .close => Sys2Proof.Machine.execClose s
  | .ping => Sys2Proof.Machine.execPing s
  | .regRead => Sys2Proof.Machine.execRegRead s
  | .regWrite => Sys2Proof.Machine.execRegWrite s
  | .dmRead => Sys2Proof.Machine.execDmRead s
  | .dmWrite => Sys2Proof.Machine.execDmWrite s
  | .ispMsgSend => Sys2Proof.Machine.execIspMsgSend s
  | .msgPoll => Sys2Proof.Machine.execMsgPoll s
  | .stageOpen => Sys2Proof.Machine.execStageOpen s
  | .stageData ok => Sys2Proof.Machine.execStageData ok s
  | .stageClose => Sys2Proof.Machine.execStageClose s
  | .stageVerifyDone same => Sys2Proof.Machine.execStageVerifyDone same s
  | .stageAbort => Sys2Proof.Machine.execStageAbort s
  | .stageStatus => Sys2Proof.Machine.execStageStatus s
  | .armActivation => Sys2Proof.Machine.execArmActivation s
  | .disarm => Sys2Proof.Machine.execDisarm s
  | .actStatus => Sys2Proof.Machine.execActStatus s
  | .recover => Sys2Proof.Machine.execRecover s
  | .authTimeout num => Sys2Proof.Machine.execAuthTimeout num s
  | .authLockExpiry => Sys2Proof.Machine.execAuthLockExpiry s
  | .sessionTimeout num => Sys2Proof.Machine.execSessionTimeout num s
  | .stageLockTimeout => Sys2Proof.Machine.execStageLockTimeout s
  | .whistleSend => Sys2Proof.Machine.execWhistleSend s
  | .whistleRx => Sys2Proof.Machine.execWhistleRx s
  | .whistleAckRx => Sys2Proof.Machine.execWhistleAckRx s
  | .activationInstant => Sys2Proof.Machine.execActivationInstant s
  | .bootVerify head digest same => Sys2Proof.Machine.execBootVerify head digest same s
  | .healthOk acc v => Sys2Proof.Machine.execHealthOk acc v s
  | .healthWindowExpiry => Sys2Proof.Machine.execHealthWindowExpiry s
  | .shepRestart => Sys2Proof.Machine.execShepRestart s
  | .minVersionWrite acc v => Sys2Proof.Machine.execMinVersionWrite acc v s
  | .actGroupWrite acc k v => Sys2Proof.Machine.execActGroupWrite acc k v s
  | .dozeEntryComplete => Sys2Proof.Machine.execDozeEntryComplete s
  | .macMergeVerification p ok => Sys2Proof.Machine.execMacMergeVerification p ok s
  | .cellMeasurement mv => Sys2Proof.Machine.execCellMeasurement mv s
  | .supplyMvSample mv => Sys2Proof.Machine.execSupplyMvSample mv s

end Sys2Proof.Machine
end

