-- ==== Sys2Proof/WellFormed.lean ====
section
/-! DEFINITION. Which commands are well formed: operands whose type is wider than what they stand for are held to the width
the spec gives it. The meanings are total; this says which commands the outside can send. -/

namespace Sys2Proof

open Machine

/-- A list of octets, at most `most` of them. -/
def octetsWf (l : List Nat) (most : Nat) : Bool := l.all (fun n => decide (n < 256)) && decide (l.length ≤ most)

/-- An address of the register space (R17). -/
def addrWf (addr : Nat) : Bool := decide (0x40000000 ≤ addr ∧ addr < 0x41000000)

/-- An access of 1, 2, 4 or 8 octets to the register space, or one of at most 4 octets to a code store (R610). -/
def accessWf (size addr : Nat) : Bool :=
  [1, 2, 4, 8].contains size && (addrWf addr || (decide (size ≤ 4) && (Config.codeAt addr).isSome))

/-- The first address of a 4 KiB page of the register space (R17). -/
def pageWf (page : Nat) : Bool := page % 0x1000 == 0 && addrWf page

/-- A reply frame with every field in its width (R170). -/
def Machine.TclRep.wf (r : TclRep) : Bool :=
  decide (r.type < 16 ∧ r.seq < 16 ∧ r.holder < 4 ∧ r.state < 8 ∧ r.cur < 65536 ∧ r.out < 65536 ∧ r.unit < 256 ∧
    r.reg < 256 ∧ r.reason < 256 ∧ r.refType < 256)

/-- A CAN message with an identifier and a length its format admits (R447). -/
def Machine.CanMsg.wf (m : CanMsg) : Bool :=
  decide (m.id < 2 ^ (if m.ide && m.fmt.val != 2 then 29 else 11)) &&
    octetsWf m.data (if m.fmt.val = 0 then 8 else if m.fmt.val = 1 then 64 else 2048)

/-- Octets of the longest frame a descriptor or MAC_CFG.MAX_FRAME can name: a field of 14 bits (R430). -/
def frameMost : Nat := 16384

/-- Octets of a run on a tile's configuration link that the model takes as one frame: no TYPE is longer than 13 with its
preamble (R169), and a longer run is bad at any length. -/
def tclMost : Nat := 64

/-- Words a SCRUB reads in each core (R341): x1 to x31, f0 to f31 and fcsr, twelve CSRs, and the tag words of both caches. -/
def scrubWords : Nat := 31 + 33 + 12 + 512 + 512

/-- Whether a command's operands lie in what the spec lets the outside send. -/
def Instr.wf : Instr → Bool
  | .registerWrite _ size addr _ => accessWf size addr
  | .rcRead _ size addr => accessWf size addr
  | .ownerWrite _ page _ => pageWf page
  | .lockWrite _ page _ => pageWf page
  | .irqClr _ page _ => pageWf page
  | .irqForce _ page _ => pageWf page
  | .unitNop _ page => pageWf page
  | .unitCmdReserved _ page cmd => pageWf page && decide (cmd < 9)
  | .unitPrst _ page => pageWf page
  | .unitUnsupported _ page cmd => pageWf page && decide (cmd < 16)
  | .compositeCmd _ page cmd => pageWf page && decide (cmd < 16)
  | .fanOutStep comp => decide (comp < 4096)
  | .tclBadFrame _ octs => octetsWf octs tclMost
  | .replyStatus _ r => r.wf
  | .replyAck _ r => r.wf
  | .replyData _ r => r.wf
  | .replyNack _ r => r.wf
  | .scrubCompare _ main checker => decide (main.length = scrubWords ∧ checker.length = scrubWords)
  | .replyTimeout _ _ began => began.all (octetsWf · tclMost)
  | .rwpWrite _ addr _ => addrWf addr
  | .busStallTimer _ addr => decide (addr < 2 ^ 48)
  | .frameLookup _ _ octs _ _ => octetsWf octs frameMost
  | .fabricSlot arr => arr.all (fun e => octetsWf e.2.2 64)
  | .ingressFrameEnd _ _ octs _ _ => octetsWf octs frameMost
  | .canRx _ m _ => m.wf
  | .restoreComplete img => octetsWf img frameMost
  | .hostTxFetch _ _ octs => octetsWf octs frameMost
  | .outboundPostedWrite _ _ _ octs _ _ => octetsWf octs 64
  | .delayedTransaction _ _ _ _ data _ => data.all (fun l => octetsWf l 64)
  | .spanRequestRx _ _ data => octetsWf data 64
  | .spFrameRx octs => octetsWf octs frameMost
  | .authTimeout num => decide (num < 65536)
  | .sessionTimeout num => decide (num < 65536)
  | .bootVerify head digest _ => octetsWf head 512 && octetsWf digest 48
  | _ => true

end Sys2Proof
end

