-- ==== Sys2Proof/Safety.lean ====
section
/-! DEFINITION. The terms claims are stated in: a command that runs, a write that reaches its register, the invariant every
step keeps, a request of the service protocol that is executed and answered, and what a run that goes on is. -/

namespace Sys2Proof.Machine

/-- The command runs: its meaning answers the next state `t`. -/
def Runs (c : Instr) (s t : State) : Prop := exec c s = .next t

/-- The block goes on: a step answers a next state. -/
def Goes (s : State) : Prop := ∃ t, step s = .next t

/-- A word write at an address reaches its page (R34, R43). -/
def Takes (s : State) (acc : Access) (addr : Nat) : Prop := s.judge acc true 4 addr = .accept

/-- A word read at an address reaches its page (R34, R42). -/
def Shows (s : State) (acc : Access) (addr : Nat) : Prop := s.judge acc false 4 addr = .accept

/-- Key of the comparison's write counter of a half, which every write of the active half's pages counts in (R284). -/
def cmpKey (h : Half) : Nat := localBase h.idx + Reg.Local.CMP_WRITES

/-- Every register but those `p` names, and the comparison's write counters, reads in `t` as in `s`. -/
def SameBut (p : Nat → Bool) (s t : State) : Prop :=
  ∀ k, p k = false → k ≠ cmpKey .a → k ≠ cmpKey .b → t.rd k = s.rd k

/-- A register of the event counter banks, where any command may be counted (R530). -/
def counting (k : Nat) : Bool := decide (ecBase 0 ≤ k ∧ k < ecBase 4)

/-- Every register but those `p` names, the event counters and the comparison's write counters, reads in `t` as in `s`. -/
def Touches (p : Nat → Bool) (s t : State) : Prop := SameBut (fun k => counting k || p k) s t

/-- Every register `c` names reads its Reset value (R15). -/
def Lost (c : Nat → Bool) (t : State) : Prop := ∀ k, c k = true → t.rd k = regReset k

/-- The command runs, and its next state satisfies `P`. -/
def Leads (c : Instr) (s : State) (P : State → Prop) : Prop := ∃ t, exec c s = .next t ∧ P t

/-- Outside the registers, the answer of the access and the comparison's running CRC (R284) nothing changed. -/
def OnlyRegs (s t : State) : Prop :=
  t = { s with
        regs := t.regs
        resp := t.resp
        halves := t.halves } ∧
    ∀ h, t.halfSt h = { s.halfSt h with
                        crc := (t.halfSt h).crc }

/-- What an accepted access leaves alone: every register but those `p` names, and everything outside the registers. -/
def Keeps (p : Nat → Bool) (s t : State) : Prop := SameBut p s t ∧ OnlyRegs s t

/-- The invariant every step keeps: the register file is in its canonical form, so that equal register contents are equal
data. -/
def State.Inv (s : State) : Prop := s.regsWf = true

/-- Shepherd executes request `r` of session `x` next, as its command `c` (R596, R598, R599, R605): it is alone in the queue,
no verification is under way, its trailer is good, its SEQ is the next one, and in DEAD it is a command served there. -/
def Serves (s : State) (r : IspReq) (x : Session) (c : Nat) : Prop :=
  s.shep.closing = none ∧ s.shep.reqs = [r] ∧ r.cmd = c ∧ s.sessionOf r = some x ∧ lenFits r.octs (trailerLen x c) = true ∧
    s.trailerOk x r = true ∧ r.seq = (x.seq + 1) % 2 ^ 32 ∧ (s.inDead = true → cmdInDead c = true)

/-- A request was answered as executed (R597 to R599, R629): the response with its trailer left on the service port where its
link is up, after what `pre` had sent; it is kept for a repeat, and ISP_RX counts. -/
def Replies (s t : State) (r : IspReq) (x : Session) (status : Nat) (pay : List Nat) (pre : List Emit) : Prop :=
  let l := [0x12, r.cmd] ++ bigEnd 2 r.session ++ bigEnd 4 r.seq ++ [status, 0] ++ bigEnd 2 pay.length ++ pay
  let f := l ++ (if hmacLevel x.level then s.frameMac x l else [])
  t.out = (if s.spUp then [Emit.spFrame (ethFrame r.src (bigEnd 6 s.spMac) f)] else []) ++ pre ++ s.out ∧ t.shep.reqs = [] ∧
    (∀ y ∈ t.shep.sessions, y.num = x.num → y.seq = r.seq ∧ y.resp = f) ∧
    t.rdN (sportReg Reg.Sport.ISP_RX) = min 0xFFFFFFFF (s.rdN (sportReg Reg.Sport.ISP_RX) + 1)

end Sys2Proof.Machine
end

