-- ==== Sys2Proof/Certificates/Slice0/Obligations.lean ====
section
/-! DEFINITION. The statements about the model, chapter by chapter of the spec. -/

open Sys2Proof Sys2Proof.Machine

/-! ## The machine as a whole -/

/-- A step takes the command at the front of the queue and runs it with the queue's rest. On an empty queue the block idles (the model's choice, log entry 1). -/
def Obligations.StepRunsFront : Prop :=
  (∀ (s : State) (c : Instr) (q : List Instr), step (s.withPending (c :: q)) = exec c (s.withPending q)) ∧
  (∀ s : State, s.pending = [] → step s = .next s)

/-- No command stops the block: every command runs in every state, and so does every step. -/
def Obligations.EveryCommandRuns : Prop :=
  (∀ (c : Instr) (s : State), ∃ t, Runs c s t) ∧ ∀ s : State, Goes s

/-- What reset leaves (R15, R23, R32, R40, R260): every register at its Reset value, the identity and the primary pages'
GEN among them, Half A active, nothing queued. That State.reset is the release of a power-on reset, and the
reset values the spec does not give, are the model's (log entries 7, 9). -/
def Obligations.ResetLeaves : Prop :=
  (∀ k, State.reset.rd k = regReset k) ∧ State.reset.pending = [] ∧ State.reset.activeHalf = .a ∧
  State.reset.rd (sysBase + Reg.Hdr.UNIT_PARAM) = 8 ∧ State.reset.rd (localBase 0 + Reg.Hdr.UNIT_ID) = 0x00102002 ∧
  State.reset.rd (localBase 1 + Reg.Hdr.UNIT_ID) = 0x00102003 ∧ State.reset.rd (hrnBase + Reg.Hdr.ROLE_GEN) = 1 ∧
  (∀ n < 128, State.reset.rd (chanBase n + Reg.Hdr.ROLE_GEN) = 1) ∧
  State.reset.rd (sysBase + Reg.Sys.ACC_VIOL_CNT) = 0 ∧ State.reset.rd (sysBase + Reg.Sys.STBY_DISCARD) = 0 ∧
  State.reset.rd (sysBase + Reg.Sys.SB_REFUSE_CNT) = 0

/-- The register file after reset is in canonical form. -/
def Obligations.ResetInv : Prop := State.reset.Inv

/-- Every step keeps the register file in its canonical form, whatever the command and the state. -/
def Obligations.StepKeepsInv : Prop := ∀ s t : State, s.Inv → step s = .next t → t.Inv

/-! ## Accesses, the page header, unit commands, messages -/

/-- REGISTER_WRITE that the page accepts, to a register without an effect of its own (R9, R10): the field kind says which
bits take the written value, and nothing else changes. Of a register row of class P more is counted; its statement is
DomainsAndPersistence. -/
def Obligations.WritesByFieldKind : Prop :=
  ∀ (s : State) (acc : Access) (addr : Nat) (v : Word) (p : Page) (r : RegRow) (j : Nat),
    Takes s acc addr → acc.page addr = some p → p.row (addr % 0x1000) = some (r, j) →
    (p.hasHeader = true → 0x40 ≤ addr % 0x1000) →
    p.kind ∈ ([.dir, .dirtab, .tbcor, .sw, .eq, .mir, .fetch, .fbio, .can, .di, .enc, .ls, .lh, .intcPend, .lane, .trng,
      .ctxp] : List PageKind) →
    let k := p.base + addr % 0x1000
    let m := word r.mask
    (r.acc = .rw ∨ r.acc = .rwt ∨ (r.acc = .rwl ∧ s.fieldLocked p = false) →
      Leads (.registerWrite acc 4 addr v) s fun t =>
        t.resp = .ok ∧ t.rd k = (s.rd k &&& ~~~m) ||| (v &&& m) ∧ Keeps (· == k) s t) ∧
    (r.acc = .w1c → Leads (.registerWrite acc 4 addr v) s fun t =>
        t.resp = .ok ∧ t.rd k = s.rd k &&& ~~~(v &&& m) ∧ Keeps (· == k) s t) ∧
    (r.acc = .w1s → Leads (.registerWrite acc 4 addr v) s fun t =>
        t.resp = .ok ∧ t.rd k = s.rd k ||| (v &&& m) ∧ Keeps (· == k) s t) ∧
    (r.acc = .ro ∨ r.acc = .wo ∨ r.acc = .rc → Leads (.registerWrite acc 4 addr v) s fun t =>
        t.resp = .ok ∧ Keeps (fun _ => false) s t)

/-- Accesses that reach no register (R4, R5, R8), by REGISTER_WRITE and by a read: a byte, halfword or unaligned access to register
space ends with a bus error and changes nothing, and so does one to an address in no defined page; a page whose unit is absent
reads 0 and ignores writes without a bus error. On the side band, which has no bus errors, the codes of R45 stand for them. -/
def Obligations.AccessesWithoutARegister : Prop :=
  ∀ (s : State) (acc : Access) (size addr : Nat) (v : Word), s.supplied = true → 0x40000000 ≤ addr → addr < 0x41000000 →
    let both (P : Instr → Prop) : Prop := P (.registerWrite acc size addr v) ∧ P (.rcRead acc size addr)
    let fails (code : Nat) : Prop :=
      (∀ h, acc.master = .half h → both fun c => Leads c s fun t => t = s.answer .busError) ∧
      (acc.master = .shep → both fun c => Leads c s fun t => t.resp = .code code ∧ Keeps (· == sysBase + Reg.Sys.SB_REFUSE_CNT) s t)
    (size ≠ 4 ∨ addr % 4 ≠ 0 → fails 5) ∧
    (size = 4 → addr % 4 = 0 → acc.page addr = none → fails 1) ∧
    (∀ p, size = 4 → addr % 4 = 0 → acc.page addr = some p → p.kind = .absent →
      (Leads (.registerWrite acc size addr v) s fun t => t.resp = .ok ∧ Keeps (fun _ => false) s t) ∧
      Leads (.rcRead acc size addr) s fun t => t = s.answer (.data 0))

/-- REGISTER_WRITE that reaches no register: a word-sized access that is not aligned or not of four octets ends with a bus
error (R8), and so does a half's write to a slot of its code store, while the data region takes one (R610); an access that fails R34 ends with a bus error and changes nothing but OWNER_VIOL, ACC_VIOL_ADDR and
ACC_VIOL_CNT (R35, R40); a standby half's write to an ACTIVE page is discarded and counted in STBY_DISCARD (R35), its event
counter aside; a side-band access refused counts in SB_REFUSE_CNT and answers the code (R45), one to RST_REQ in ACC_VIOL_CNT
too (R298). -/
def Obligations.RefusedWrites : Prop :=
  ∀ (s : State) (acc : Access) (size addr : Nat) (v : Word),
    (s.supplied = true → size ≠ 4 ∨ addr % 4 ≠ 0 → acc.code addr = none → ∀ h, acc.master = .half h →
      Leads (.registerWrite acc size addr v) s fun t => t = s.answer .busError) ∧
    (∀ h, acc.master = .half h → Leads (.registerWrite acc size addr v) s fun t => ∀ off, codeOff addr = some off →
      (inSlot off = true → t = s.answer .busError) ∧
      (inSlot off = false → 0 < size → size ≤ 4 → s.memTakes h acc.secure addr size = true → t.resp = .ok ∧ t.regs = s.regs ∧
        ∀ i < size, off + i < 2 ^ 31 → t.codeOct h (off + i) = (octets v).getD i 0)) ∧
    (∀ p, s.judge acc true size addr = .violation → acc.page addr = some p →
      Leads (.registerWrite acc size addr v) s fun t =>
        t.resp = .busError ∧ t.bit (p.prim + Reg.Hdr.UNIT_STAT) 10 = true ∧
        t.rd (sysBase + Reg.Sys.ACC_VIOL_ADDR) = word addr ∧
        t.rdN (sysBase + Reg.Sys.ACC_VIOL_CNT) = min 0xFFFFFFFF (s.rdN (sysBase + Reg.Sys.ACC_VIOL_CNT) + 1) ∧
        Keeps (fun k => k == p.prim + Reg.Hdr.UNIT_STAT || k == sysBase + Reg.Sys.ACC_VIOL_ADDR ||
          k == sysBase + Reg.Sys.ACC_VIOL_CNT) s t) ∧
    (∀ h, s.judge acc true size addr = .discard → acc.master = .half h → s.unmuzzled acc.secure = false →
      Leads (.registerWrite acc size addr v) s fun t =>
        t.resp = .ok ∧
        t.rdN (sysBase + Reg.Sys.STBY_DISCARD) = min 0xFFFFFFFF (s.rdN (sysBase + Reg.Sys.STBY_DISCARD) + 1) ∧
        Keeps (· == sysBase + Reg.Sys.STBY_DISCARD) s t) ∧
    (∀ c, s.judge acc true size addr = .refuse c →
      Leads (.registerWrite acc size addr v) s fun t =>
        t.resp = .code c ∧
        t.rdN (sysBase + Reg.Sys.SB_REFUSE_CNT) = min 0xFFFFFFFF (s.rdN (sysBase + Reg.Sys.SB_REFUSE_CNT) + 1) ∧
        (addr = pwrBase + Reg.Pwr.RST_REQ → c ≠ sbAlignment →
          t.rdN (sysBase + Reg.Sys.ACC_VIOL_CNT) = min 0xFFFFFFFF (s.rdN (sysBase + Reg.Sys.ACC_VIOL_CNT) + 1)) ∧
        Keeps (fun k => k == sysBase + Reg.Sys.SB_REFUSE_CNT ||
          (addr == pwrBase + Reg.Pwr.RST_REQ && k == sysBase + Reg.Sys.ACC_VIOL_CNT)) s t)

/-- RC_READ (R12): a read of a read-to-clear register answers its value; it clears for the half or Shepherd that keeps the
page's counts and for nobody else. BUF_MIN reloads with BUF_FREE in place of clearing (R391); Q_DROP of the selected queue
clears for either half, each its own (R12). -/
def Obligations.ReadClears : Prop :=
  (∀ (s : State) (acc : Access) (addr : Nat) (p : Page) (r : RegRow) (j : Nat),
    Shows s acc addr → acc.page addr = some p → p.row (addr % 0x1000) = some (r, j) → r.acc = .rc →
    s.live (s.asSent acc) p (addr % 0x1000) = none → (readEffect (s.asSent acc) p (addr % 0x1000)).isNone = true →
    let k := s.regKey (s.asSent acc) p (addr % 0x1000)
    Leads (.rcRead acc 4 addr) s fun t =>
      t.resp = .data (s.rd k) ∧ t.rd k = (if s.readClears acc p then 0 else s.rd k) ∧ Keeps (· == k) s t) ∧
  (∀ (s : State) (acc : Access), Shows s acc (swBase + Reg.Sw.BUF_MIN) →
    Leads (.rcRead acc 4 (swBase + Reg.Sw.BUF_MIN)) s fun t =>
      t.resp = .data (s.rd (swBase + Reg.Sw.BUF_MIN)) ∧
      t.rd (swBase + Reg.Sw.BUF_MIN) =
        (if s.readClears acc (.own .sw 0 swBase) then word s.bufFree else s.rd (swBase + Reg.Sw.BUF_MIN)) ∧
      Keeps (· == swBase + Reg.Sw.BUF_MIN) s t) ∧
  (∀ (s : State) (acc : Access) (h : Half) (n : Nat), 0 < n → n < 128 → acc.master = .half h →
    Shows s acc (viBase n + Reg.Vi.Q_DROP) → s.qSel h n < s.qCount n →
    Leads (.rcRead acc 4 (viBase n + Reg.Vi.Q_DROP)) s fun t =>
      t.resp = .data (word (s.hq h n (s.qSel h n)).drop) ∧
      t.hq h n (s.qSel h n) = { s.hq h n (s.qSel h n) with
                                drop := 0 } ∧ t.regs = s.regs)

/-- OWNER_WRITE (R36, R39, R55): a secure VI0 write to an OWNER that is not locked is taken, its reserved bits aside, and a
change of VI or HALF increments the unit's GEN, past 0xFFFF to 1; a write that breaks R36 is an ownership failure; a locked
OWNER keeps its value and sets LOCK_VIOL. LOCK_WRITE sets the bits of LOCK written 1 and clears none (R38); IRQ_CLR clears and IRQ_FORCE sets the bits of IRQ_RAW
written 1 that the page defines (R29), EVIRQ of HRN aside, which stands while an enabled line is set (R146). Nothing else
changes. -/
def Obligations.HeaderWrites : Prop :=
  (∀ (s : State) (acc : Access) (page : Nat) (v : Word) (p : Page),
     let addr := pageAddr page Reg.Hdr.OWNER
     let k := p.base + Reg.Hdr.OWNER
     let unit := if p.kind = .local ∨ p.kind = .msg then halfBase p.idx else p.prim
     let old := s.rd k
     let chg := bitsOf old 1 7 ≠ bitsOf v 1 7 ∨ bitsOf old 8 2 ≠ bitsOf v 8 2
     Takes s acc addr → acc.page addr = some p → p.hasHeader = true →
     ((s.asSent acc).secure = true → acc.vi = 0 → s.ownerLocked p = false →
       Leads (.ownerWrite acc page v) s fun t =>
         t.resp = .ok ∧ t.rd k = v &&& 0x7FF ∧ (¬chg → t.gen unit = s.gen unit) ∧
         (chg → t.gen unit = if s.gen unit = 0xFFFF then 1 else s.gen unit + 1) ∧
         Keeps (fun j => j == k || j == unit + Reg.Hdr.ROLE_GEN) s t) ∧
     (∀ h, acc.master = .half h → acc.secure = false →
       bitOf old 0 = true ∨ bitOf v 0 = true ∨ bitsOf old 8 2 ≠ bitsOf v 8 2 →
       Leads (.ownerWrite acc page v) s fun t =>
         t.resp = .busError ∧ t.rd k = old ∧ t.bit (p.prim + Reg.Hdr.UNIT_STAT) 10 = true ∧
         t.rd (sysBase + Reg.Sys.ACC_VIOL_ADDR) = word addr ∧
         Keeps (fun j => j == p.prim + Reg.Hdr.UNIT_STAT || j == sysBase + Reg.Sys.ACC_VIOL_ADDR ||
           j == sysBase + Reg.Sys.ACC_VIOL_CNT) s t) ∧
     (∀ h, acc.master = .half h → acc.secure = true → acc.vi = 0 → s.ownerLocked p = true →
       Leads (.ownerWrite acc page v) s fun t =>
         t.resp = .ok ∧ t.rd k = old ∧ t.bit (p.prim + Reg.Hdr.UNIT_STAT) 11 = true ∧
         Keeps (fun j => j == p.prim + Reg.Hdr.UNIT_STAT || j == p.prim + Reg.Hdr.IRQ_RAW) s t)) ∧
  (∀ (s : State) (acc : Access) (page : Nat) (v : Word) (p : Page), p.hasHeader = true →
     (Takes s acc (pageAddr page Reg.Hdr.LOCK) → acc.page (pageAddr page Reg.Hdr.LOCK) = some p →
       Leads (.lockWrite acc page v) s fun t =>
         t.resp = .ok ∧ t.rd (p.base + Reg.Hdr.LOCK) = s.rd (p.base + Reg.Hdr.LOCK) ||| (v &&& 3) ∧
         Keeps (· == p.base + Reg.Hdr.LOCK) s t) ∧
     (Takes s acc (pageAddr page Reg.Hdr.IRQ_CLR) → acc.page (pageAddr page Reg.Hdr.IRQ_CLR) = some p → p.isPrimary = true →
       Leads (.irqClr acc page v) s fun t =>
         t.resp = .ok ∧
         (let w := s.rd (p.base + Reg.Hdr.IRQ_RAW) &&& ~~~(v &&& word p.irqMask)
          t.rd (p.base + Reg.Hdr.IRQ_RAW) =
            if p.base = hrnBase ∧ (s.rd (hrnBase + Reg.Hrn.EVIRQ_RAW) &&& s.rd (hrnBase + Reg.Hrn.EVIRQ_EN)) ≠ 0 then
              setBits w 21 1 1
            else w) ∧
         Keeps (· == p.base + Reg.Hdr.IRQ_RAW) s t) ∧
     (Takes s acc (pageAddr page Reg.Hdr.IRQ_FORCE) → acc.page (pageAddr page Reg.Hdr.IRQ_FORCE) = some p →
       p.isPrimary = true →
       Leads (.irqForce acc page v) s fun t =>
         t.resp = .ok ∧
         t.rd (p.base + Reg.Hdr.IRQ_RAW) = s.rd (p.base + Reg.Hdr.IRQ_RAW) ||| (v &&& word p.irqMask) ∧
         Keeps (· == p.base + Reg.Hdr.IRQ_RAW) s t))

/-- Commands of UNIT_CTRL (R25, R27): NOP changes nothing; a reserved command and one the unit's type does not support end
with CMD_RESULT = UNSUPPORTED, and every command with BUSY where the unit is busy; CMD_DONE rises with the result (R29). PRST
ends with DONE, the page's class-X registers but those that show a level, a link or another unit's state (log entry 17) at their
Reset values; sums above a composite follow, and so do a half's path bits. The other pages
of a multi-page unit ignore UNIT_CTRL (R19), KEYS, VAULT and the counter banks aside (R536, R565). -/
def Obligations.UnitCommands : Prop :=
  ∀ (s : State) (acc : Access) (page cmd : Nat) (p : Page),
    let addr := pageAddr page Reg.Hdr.UNIT_CTRL
    let st := p.base + Reg.Hdr.UNIT_STAT
    let raw := p.base + Reg.Hdr.IRQ_RAW
    let ends (t : State) (r : CmdResult) : Prop :=
      t.resp = .ok ∧ t.fld st 7 3 = r.code ∧ t.bit raw 2 = true ∧ Keeps (fun j => j == st || j == raw) s t
    let aboveSum (k : Nat) : Bool := k == isumKey 1 || (List.range 64).any (fun (g : Nat) =>
      k == isumKey (0xC0 + g) || k == cgBase g + Reg.Cg.I_SPAN || k == cgBase g + Reg.Hdr.IRQ_RAW)
    Takes s acc addr → acc.page addr = some p → p.hasHeader = true →
    Leads (.unitNop acc page) s (fun t => t.resp = .ok ∧ Keeps (fun _ => false) s t) ∧
    (p.isPrimary = true → p.kind ≠ .local → p.kind ≠ .msg → s.busy p.base = false →
      Leads (.unitCmdReserved acc page cmd) s (ends · .unsupported)) ∧
    (p.isPrimary = true → p.kind ≠ .local → p.kind ≠ .msg → p.kind ≠ .ec → s.busy p.base = true →
      Leads (.unitCmdReserved acc page cmd) s (ends · .busy)) ∧
    (p.isPrimary = true → p.kind ≠ .local → p.kind ≠ .msg → s.busy p.base = false → 0 < cmd → cmd < 7 → cmd ≠ 4 →
      unitEffect (s.asSent acc) p cmd = none → Leads (.unitUnsupported acc page cmd) s (ends · .unsupported)) ∧
    (p.kind = .vi → s.busy p.base = false → Leads (.unitUnsupported acc page 4) s (ends · .unsupported)) ∧
    (p.isPrimary = true → p.kind ≠ .local → p.kind ≠ .msg → p.kind ≠ .vi → p.kind ≠ .dom → p.kind ≠ .chan →
      p.kind ≠ .sadc → p.kind ≠ .ec → s.busy p.base = false →
      Leads (.unitPrst acc page) s fun t =>
        t.resp = .ok ∧ t.fld st 7 3 = CmdResult.done.code ∧ t.busy p.base = false ∧ t.rd raw = 4 ∧
        Lost (fun k => decide (k < 0x100000000 ∧ k ≠ st ∧ k ≠ raw) && keyIs (fun q => q.base == p.base) (· == .x) k &&
          !(prstKeeps p.kind).contains (k % 0x1000)) t ∧
        SameBut (fun k => decide (k = st ∨ k = raw) || keyIs (fun q => q.base == p.base) (· == .x) k ||
          ((p.kind == .tile || p.kind == .cg) && aboveSum k) ||
          (p.kind == .half && k == p.base + Reg.Half.ROLE_STAT) || (p.kind == .port && k == p.base + Reg.Port.PORT_STAT)) s t) ∧
    (p.kind = .chan ∨ p.kind = .sadc ∧ p.isPrimary = true → s.busy p.base = false →
      Leads (.unitPrst acc page) s fun t => t.resp = .ok ∧ t.fld st 7 3 = CmdResult.done.code) ∧
    (p.kind = .ec → p.isPrimary = true →
      Leads (.unitPrst acc page) s fun t => t.resp = .ok ∧ t.fld st 7 3 = CmdResult.done.code) ∧
    (p.isPrimary = false → p.kind ≠ .keys → p.kind ≠ .vault → p.kind ≠ .ec →
      Leads (.unitUnsupported acc page cmd) s (fun t => t.resp = .ok ∧ Keeps (fun _ => false) s t))

/-- COMPOSITE_CMD and FAN_OUT_STEP (R49, R50): ON, OFF or CLEAR of a composite with members sets BUSY and begins a fan-out
over its members in ascending order; without members it ends with DONE at once; on a busy composite it ends with BUSY. The
step does nothing where no fan-out is under way or its awaited member is still busy; a member busy with a command of its own
answers BUSY, so that the fan-out will not report DONE; after the last member's result BUSY clears and the result is DONE
where every member reported DONE, else PARTIAL. -/
def Obligations.Composites : Prop :=
  (∀ (s : State) (acc : Access) (page cmd : Nat) (p : Page),
    let addr := pageAddr page Reg.Hdr.UNIT_CTRL
    let st := p.base + Reg.Hdr.UNIT_STAT
    let raw := p.base + Reg.Hdr.IRQ_RAW
    Takes s acc addr → acc.page addr = some p → p.kind ∈ ([.sys, .tile, .cg] : List PageKind) →
    (s.busy p.base = true → Leads (.compositeCmd acc page cmd) s fun t =>
      t.fld st 7 3 = CmdResult.busy.code ∧ t.bit raw 2 = true ∧ Keeps (fun j => j == st || j == raw) s t) ∧
    (s.busy p.base = false → s.members p.localNum = [] → Leads (.compositeCmd acc page cmd) s fun t =>
      t.fld st 7 3 = CmdResult.done.code ∧ t.busy p.base = false ∧ t.bit raw 2 = true ∧
      Keeps (fun j => j == st || j == raw) s t) ∧
    (s.busy p.base = false → s.members p.localNum ≠ [] → Leads (.compositeCmd acc page cmd) s fun t =>
      t.busy p.base = true ∧ t.fld st 7 3 = s.fld st 7 3 ∧ SameBut (· == st) s t ∧
      t.fan p.localNum = some { cmd := 1 + cmd % 3, acc := s.asSent acc, rest := s.members p.localNum })) ∧
  (∀ (s : State) (l : Nat), s.fan l = none → Leads (.fanOutStep l) s fun t => t = s) ∧
  (∀ (s : State) (l m : Nat) (f : Fan), s.fan l = some f → f.cur = some m → s.busy (compBase m) = true →
    Leads (.fanOutStep l) s fun t => t = s) ∧
  (∀ (s : State) (l m : Nat) (f : Fan), s.fan l = some f → f.cur = none → f.rest = [0x100 + m] → m < 128 →
    f.cmd = cmdOn → s.busy (chanBase m) = true → (0x20 ≤ l ∧ l < 0x28 ∨ l = 1) →
    Leads (.fanOutStep l) s fun t =>
      t.fld (chanBase m + Reg.Hdr.UNIT_STAT) 7 3 = CmdResult.busy.code ∧
      t.fld (compBase l + Reg.Hdr.UNIT_STAT) 7 3 = CmdResult.partly.code ∧ t.busy (compBase l) = false) ∧
  (∀ (s : State) (l : Nat) (f : Fan), s.fan l = some f → f.rest = [] →
    (∀ m, f.cur = some m → s.busy (compBase m) = false) →
    let all := f.allDone && (match f.cur with | some m => s.memberDone m | none => true)
    Leads (.fanOutStep l) s fun t =>
      t.fld (compBase l + Reg.Hdr.UNIT_STAT) 7 3 = (if all then CmdResult.done.code else CmdResult.partly.code) ∧
      t.busy (compBase l) = false ∧ t.bit (compBase l + Reg.Hdr.IRQ_RAW) 2 = true ∧
      t.fans = s.fans.del l ∧
      SameBut (fun k => k == compBase l + Reg.Hdr.UNIT_STAT || k == compBase l + Reg.Hdr.IRQ_RAW) s t)

/-- MSG_SEND and MRQ_POP (R58, R59, R62, R63): GO captures MSG_TX0 to MSG_TX7 with SRC, SENDER and REASON set by the
hardware; a message to a LOCAL entry goes to this module's own directory, with MSG_TX_STAT 0; one without a VALID entry comes
back to the sender's misroute queue with REASON = NO_ROUTE, counted, with MSG_TX_STAT saying so; without GO nothing is sent.
POP discards the oldest returned message and shows the next. -/
def Obligations.Messages : Prop :=
  (∀ (s : State) (acc : Access) (v : Word),
    let m := acc.master
    let x (i : Nat) : Word := s.rd (m.msgRegs + 4 * i)
    let w := [x 0, setBits (setBits (x 1) 14 2 m.sender) 0 14 s.selfUnit, setBits (x 2) 16 4 0, x 3, x 4, x 5, x 6, x 7]
    let e := s.dirEntry (bitsOf (x 0) 0 14)
    Takes s acc (m.msgAddr + mSend) →
    (bitOf v 0 = false → Leads (.msgSend acc v) s fun t => t.resp = .ok ∧ Keeps (fun _ => false) s t) ∧
    (bitOf v 0 = true → s.domainOn 6 = true → bitOf e 31 = true → bitOf e 30 = true →
      Leads (.msgSend acc v) s fun t =>
        t.resp = .ok ∧ t.dirIn = s.dirIn ++ [(true, w)] ∧ t.rd (m.msgRegs + mStat) = 0 ∧
        SameBut (· == m.msgRegs + mStat) s t) ∧
    (bitOf v 0 = true → s.domainOn 6 = true → bitOf e 31 = false → (s.mrq m).length < 64 →
      (∀ h, m = .half h → s.domainOn h.pd = true) →
      Leads (.msgSend acc v) s fun t =>
        t.resp = .ok ∧ t.mrq m = s.mrq m ++ [withReason w msgNoRoute] ∧ t.rdN (m.msgRegs + mStat) = 2 ∧
        t.rdN (m.msgRegs + mCount) = (s.mrq m).length + 1 ∧ t.dirIn = s.dirIn ∧
        t.rdN (dirReg Reg.Dir.NO_ROUTE_CNT) = min 0xFFFFFFFF (s.rdN (dirReg Reg.Dir.NO_ROUTE_CNT) + 1))) ∧
  (∀ (s : State) (acc : Access) (v : Word),
    let m := acc.master
    Takes s acc (m.msgAddr + mPop) →
    (bitOf v 0 = false → Leads (.mrqPop acc v) s fun t => t.resp = .ok ∧ Keeps (fun _ => false) s t) ∧
    (bitOf v 0 = true → Leads (.mrqPop acc v) s fun t =>
      t.resp = .ok ∧ t.mrq m = (s.mrq m).tail ∧ t.rd (m.msgRegs + mCount) = word (s.mrq m).tail.length ∧
      (∀ i < 8, t.rd (m.msgRegs + mHead + 4 * i) = ((s.mrq m).tail.headD []).getD i 0) ∧
      SameBut (fun k => decide (m.msgRegs + mHead ≤ k ∧ k < m.msgRegs + mHead + 32) || k == m.msgRegs + mCount) s t))

/-- MSG_ARRIVE and MSG_RETURN (R60 to R62): the first message that has arrived is taken; one that addresses no unit of this
module goes back with REASON = NO_UNIT, counted; one of another generation is not executed, raises MISROLE of its unit and
goes back with REASON = MISROLE, counted; a QUERY of the present generation is answered with a REPLY that carries the unit's
UNIT_STAT and ROLE_GEN. A returned message joins its sender's queue, or is lost and counted in LOST_CNT where that holds 64. -/
def Obligations.DirectoryMessages : Prop :=
  (∀ (s : State), s.dirIn = [] → Leads .msgArrive s fun t => t = s) ∧
  (∀ (s : State) (b : Bool) (w : List Word) (rest : List (Bool × List Word)),
    s.dirIn = (b, w) :: rest → msgReason w = 0 → msgSrc w = s.selfUnit → s.domainOn 6 = true →
    s.bit (dirReg Reg.Dir.DIR_CTRL) 0 = true →
    let e := s.dirEntry (msgDst w)
    (bitOf e 31 = false ∨ bitOf e 30 = false → Leads .msgArrive s fun t =>
      t.dirIn = rest ∧ t.dirBack = s.dirBack ++ [withReason w msgNoUnit] ∧
      t.rdN (dirReg Reg.Dir.NO_UNIT_CNT) = min 0xFFFFFFFF (s.rdN (dirReg Reg.Dir.NO_UNIT_CNT) + 1) ∧
      SameBut (· == dirReg Reg.Dir.NO_UNIT_CNT) s t) ∧
    (∀ p, bitOf e 31 = true → bitOf e 30 = true → 0 < msgType w → msgType w ≤ 3 → unitPage (bitsOf e 0 12) = some p →
      s.domainOn p.domain = true →
      (s.msgGenOk w p = false → Leads .msgArrive s fun t =>
        t.dirIn = rest ∧ t.dirBack = s.dirBack ++ [withReason w msgMisrole] ∧
        t.bit (p.base + Reg.Hdr.IRQ_RAW) 3 = true ∧
        t.rdN (dirReg Reg.Dir.MISROLE_CNT) = min 0xFFFFFFFF (s.rdN (dirReg Reg.Dir.MISROLE_CNT) + 1)) ∧
      (s.msgGenOk w p = true → msgType w = 2 → Leads .msgArrive s fun t =>
        t.dirBack = s.dirBack ∧ ∃ r, t.dirIn = rest ++ [(true, r)] ∧ msgType r = 3 ∧ msgSrc r = s.selfUnit ∧
          msgDst r = s.selfUnit ∧ msgSender r = msgSender w ∧
          r.getD 3 0 = s.unitStat p ∧ r.getD 4 0 = s.rd (p.base + Reg.Hdr.ROLE_GEN)))) ∧
  (∀ (s : State), s.dirBack = [] → Leads .msgReturn s fun t => t = s) ∧
  (∀ (s : State) (w : List Word) (ws : List (List Word)) (m : Master),
    s.dirBack = w :: ws → bitsOf (w.getD 1 0) 14 2 = m.sender → s.domainOn 6 = true →
    (∀ h, m = .half h → s.domainOn h.pd = true) →
    ((s.mrq m).length < 64 → Leads .msgReturn s fun t =>
      t.dirBack = ws ∧ t.mrq m = s.mrq m ++ [w] ∧ t.rdN (m.msgRegs + mCount) = (s.mrq m).length + 1) ∧
    (64 ≤ (s.mrq m).length → Leads .msgReturn s fun t =>
      t.dirBack = ws ∧ t.mrq m = s.mrq m ∧
      t.rdN (dirReg Reg.Dir.LOST_CNT) = min 0xFFFFFFFF (s.rdN (dirReg Reg.Dir.LOST_CNT) + 1) ∧
      SameBut (· == dirReg Reg.Dir.LOST_CNT) s t))

/-! ## Device time -/

/-- CLOCK_TICK (R66, R67, R69, R76): a CANCEL takes what remains of a slew away, and a GO holds from here on, SLEWING with
it; what both clocks read at the edge is kept for the frames whose SFD it saw. Each adjustable clock advances by its INCREMENT and at most one SLEW_STEP of what remains of its
slew, TBF by the nominal INCREMENT; NS stays below 10^9; a clock that passes SEC = 2^48 − 1 sets SEC_WRAP. While the timebase
stands still (R74) a tick changes nothing. -/
def Obligations.TickAdvancesClocks : Prop :=
  ∀ s : State,
    (s.time.stopped = true → Leads .clockTick s fun t => t = s) ∧
    (s.time.stopped = false → Leads .clockTick s fun t =>
      (∀ k ∈ [0, 1],
        let c := s.clk k
        let step : Int := s.slewStep k
        let r : Int := if c.slewOff then 0 else c.slew
        let d : Int := if 0 < r then min step r else if r < 0 then -min step (-r) else 0
        let total := c.now.total + ((c.inc : Int) + d).toNat
        t.clk k = { c with
                    now := Clock.ofTotal total
                    slew := r - d
                    slewing := c.slewing && !c.slewOff
                    slewNew := false
                    slewOff := false
                    slewOn := c.slewing && !c.slewOff && r - d != 0 } ∧
          (t.clk k).now.ns < 1000000000 ∧ (clockRange ≤ total → t.bit (tbBase + Reg.Tb.TB_STAT) 3 = true)) ∧
      t.time.hist.head? = some ⟨s.tb0, (s.clk 0).inc, s.tb1, (s.clk 1).inc⟩ ∧
      t.time.tbf = Clock.ofTotal (s.time.tbf.total + 0x1999999999A))

/-- The INCREMENT (R68): INC_LO loads the shadow; INC_HI between 1.5984 ns and 1.6016 ns requests the commit of both words,
which INC_COMMIT makes the running INCREMENT; outside that range nothing is requested, INC_RANGE is set with CLK, and
RANGE_ERR raised. Nothing else changes. -/
def Obligations.Increments : Prop :=
  ∀ (s : State) (acc : Access) (k : Fin 2) (v : Word),
    (Takes s acc (clkReg k.val Reg.Clk.INC_LO) → Leads (.incLoWrite acc k v) s fun t =>
      t.clk k.val = { s.clk k.val with
                      shadow := v } ∧
      t.clk (1 - k.val) = s.clk (1 - k.val) ∧
      Keeps (fun _ => false) { s with
                               time := t.time } t) ∧
    (Takes s acc (clkReg k.val Reg.Clk.INC_HI) →
      let inc := bitsOf v 0 12 * 2 ^ 32 + (s.clk k.val).shadow.toNat
      (15984 * 2 ^ 40 ≤ inc * 10000 ∧ inc * 10000 ≤ 16016 * 2 ^ 40 → Leads (.incHiWrite acc k v) s fun t =>
        t.clk k.val = { s.clk k.val with
                        incReq := some inc } ∧
        t.clk (1 - k.val) = s.clk (1 - k.val) ∧ Keeps (fun _ => false) { s with
                                                                         time := t.time } t) ∧
      (¬(15984 * 2 ^ 40 ≤ inc * 10000 ∧ inc * 10000 ≤ 16016 * 2 ^ 40) → Leads (.incHiWrite acc k v) s fun t =>
        t.bit (tbBase + Reg.Tb.TB_STAT) 0 = true ∧ t.bit (tbBase + Reg.Tb.TB_STAT) 8 = decide (k = 1) ∧
        t.bit (tbBase + Reg.Hdr.IRQ_RAW) 20 = true ∧
        Keeps (fun j => j == tbBase + Reg.Tb.TB_STAT || j == tbBase + Reg.Hdr.IRQ_RAW) s t)) ∧
    (∀ inc, (s.clk k.val).incReq = some inc → Leads (.incCommit k) s fun t =>
      t.clk k.val = { s.clk k.val with
                      inc := inc
                      incReq := none } ∧
      t.clk (1 - k.val) = s.clk (1 - k.val) ∧ t = { s with
                                                    time := t.time }) ∧
    ((s.clk k.val).incReq = none → Leads (.incCommit k) s fun t => t = s)

/-- Slews (R69): GO loads SLEW_AMT, in units of 2^-16 ns, as what remains, to be applied from the next tick; CANCEL has the next
tick drop what remains, without SLEW_DONE; a slew that has nothing left ends, and the clock's SLEW_DONE bit rises. One-shot offsets (R70): GO takes the offset of OFS_SEC, OFS_NS and OFS_FRAC for the next tick, or sets OFS_BUSY while one
is pending; OFFSET_APPLY steps the clock by it, or, where OFS_NS is 10^9 or more or the clock would go below zero, leaves the
clock and sets OFS_RANGE. -/
def Obligations.SlewsAndOffsets : Prop :=
  (∀ (s : State) (acc : Access) (k : Fin 2),
     (Takes s acc (clkReg k.val Reg.Clk.SLEW_CTRL) →
       (Leads (.slewGo acc k) s fun t =>
         t.clk k.val = { s.clk k.val with
                         slew := s.rdI (clkReg k.val Reg.Clk.SLEW_AMT) * 2 ^ 24
                         slewing := true
                         slewNew := true
                         slewOff := false } ∧
         t.clk (1 - k.val) = s.clk (1 - k.val) ∧ Keeps (fun _ => false) { s with
                                                                          time := t.time } t) ∧
       (Leads (.slewCancel acc k) s fun t =>
         t.clk k.val = { s.clk k.val with
                         slewOff := true } ∧
         t.clk (1 - k.val) = s.clk (1 - k.val) ∧ Keeps (fun _ => false) { s with
                                                                          time := t.time } t)) ∧
     ((s.clk k.val).slewing = true → (s.clk k.val).slew = 0 → (s.clk k.val).slewNew = false → (s.clk k.val).slewOff = false →
       Leads (.slewDone k) s fun t =>
       t.clk k.val = { s.clk k.val with
                       slewing := false } ∧
       t.clk (1 - k.val) = s.clk (1 - k.val) ∧ t.bit (tbBase + Reg.Hdr.IRQ_RAW) (16 + k.val) = true ∧
       Keeps (· == tbBase + Reg.Hdr.IRQ_RAW) { s with
                                               time := t.time } t) ∧
     ((s.clk k.val).slewing = false ∨ (s.clk k.val).slew ≠ 0 ∨ (s.clk k.val).slewNew = true ∨ (s.clk k.val).slewOff = true →
       Leads (.slewDone k) s fun t => t = s)) ∧
  (∀ (s : State) (acc : Access) (k : Fin 2),
     (Takes s acc (clkReg k.val Reg.Clk.OFS_CTRL) →
       ((s.clk k.val).ofsReq = none → Leads (.ofsGo acc k) s fun t =>
         (∃ o, (t.clk k.val).ofsReq = some o ∧ o.ns = s.fld (clkReg k.val Reg.Clk.OFS_NS) 0 30 ∧
           o.frac = s.fld (clkReg k.val Reg.Clk.OFS_FRAC) 0 16 ∧
           o.sec = signedOf 48 (s.fld (clkReg k.val Reg.Clk.OFS_SEC_HI) 0 16 * 2 ^ 32 +
             s.rdN (clkReg k.val Reg.Clk.OFS_SEC_LO))) ∧
         (t.clk k.val).now = (s.clk k.val).now ∧ Keeps (fun _ => false) { s with
                                                                          time := t.time } t) ∧
       (∀ o, (s.clk k.val).ofsReq = some o → Leads (.ofsGo acc k) s fun t =>
         t.bit (tbBase + Reg.Tb.TB_STAT) 2 = true ∧ t.time = s.time ∧
         Keeps (fun j => j == tbBase + Reg.Tb.TB_STAT || j == tbBase + Reg.Hdr.IRQ_RAW) s t)) ∧
     (∀ o, (s.clk k.val).ofsReq = some o →
       let c := s.clk k.val
       let offset : Int := (o.sec * 1000000000 + o.ns) * 2 ^ 40 + o.frac * 2 ^ 24
       (o.ns < 1000000000 → 0 ≤ (c.now.total : Int) + offset → Leads (.offsetApply k) s fun t =>
         t.clk k.val = { c with
                         ofsReq := none
                         now := Clock.ofTotal ((c.now.total : Int) + offset).toNat } ∧
         t.clk (1 - k.val) = s.clk (1 - k.val)) ∧
       (1000000000 ≤ o.ns ∨ (c.now.total : Int) + offset < 0 → Leads (.offsetApply k) s fun t =>
         t.clk k.val = { c with
                         ofsReq := none } ∧
         t.bit (tbBase + Reg.Tb.TB_STAT) 1 = true ∧ t.bit (tbBase + Reg.Hdr.IRQ_RAW) 20 = true ∧
         Keeps (fun j => j == tbBase + Reg.Tb.TB_STAT || j == tbBase + Reg.Hdr.IRQ_RAW) { s with
                                                                                          time := t.time } t)))

/-- SNAP_GO and SNAP_LATCH (R75, R90): GO clears VALID of the writer's own bank and requests the latch; the latch enters the
three clocks as they stand together in that bank and sets VALID; no other bank and no clock changes. CAP_POP discards the
oldest entry of the half's capture FIFO (R93). -/
def Obligations.Snapshots : Prop :=
  (∀ (s : State) (acc : Access), Takes s acc (tbBase + Reg.Tb.SNAP) → s.time.stopped = false →
    Leads (.snapGo acc) s fun t =>
      t.rd (bank acc.master.bankNo (tbBase + Reg.Tb.SNAP_STAT)) = 0 ∧ acc.master ∈ t.time.snapReq ∧
      (∀ m ∈ s.time.snapReq, m ∈ t.time.snapReq) ∧ t.tb0 = s.tb0 ∧ t.tb1 = s.tb1 ∧
      Keeps (· == bank acc.master.bankNo (tbBase + Reg.Tb.SNAP_STAT)) { s with
                                                                       time := t.time } t) ∧
  (∀ (s : State) (m : Master), m ∈ s.time.snapReq → s.time.stopped = false →
    let b := bank m.bankNo tbBase
    let word4 (t : State) (key : Nat) (c : Clock) : Prop :=
      t.rd key = word (c.sec / 2 ^ 32) ∧ t.rd (key + 4) = word c.sec ∧ t.rd (key + 8) = word c.ns ∧
        t.rd (key + 12) = word c.frac
    Leads (.snapLatch m) s fun t =>
      word4 t (b + Reg.Tb.SNAP0) s.tb0 ∧ word4 t (b + Reg.Tb.SNAP1) s.tb1 ∧ word4 t (b + Reg.Tb.SNAPF) s.time.tbf ∧
      t.rd (b + Reg.Tb.SNAP_STAT) = 1 ∧ m ∉ t.time.snapReq ∧ t.tb0 = s.tb0 ∧ t.tb1 = s.tb1 ∧
      Keeps (fun k => decide (b + Reg.Tb.SNAP_STAT ≤ k ∧ k < b + Reg.Tb.SNAPF + 16)) { s with
                                                                                      time := t.time } t) ∧
  (∀ (s : State) (m : Master), m ∉ s.time.snapReq → Leads (.snapLatch m) s fun t => t = s) ∧
  (∀ (s : State) (acc : Access) (h : Half), Takes s acc (tbcapBase h.idx + Reg.Tbcap.CAP_POP) →
    Leads (.capPop acc h) s fun t =>
      t.capFifo h = (s.capFifo h).tail ∧ t.capFifo h.other = s.capFifo h.other ∧
      Keeps (fun _ => false) { s with
                               time := t.time } t)

/-! ## Huarneel -/

/-- DOMAIN_ON, DOMAIN_OFF and DOMAIN_PRST (R97, R98, R99, R105, R111): ON is refused under R111 with nothing else changed;
otherwise the domain starts, a TIME domain past its EPOCH at its ideal position in RUN, a QUAD or SINGLE domain at INIT_PHASE
in WAIT; OFF stops the domain and its running children and withdraws its placed events; PRST also loses the domain's record.
Each ends with its CMD_RESULT. -/
def Obligations.DomainCommands : Prop :=
  ∀ (s : State) (acc : Access) (d : Fin 16), Takes s acc (domReg d.val Reg.Hdr.UNIT_CTRL) →
    let st := domReg d.val Reg.Hdr.UNIT_STAT
    let raw := domReg d.val Reg.Hdr.IRQ_RAW
    let ends (t : State) (on : Bool) : Prop :=
      t.fld st 7 3 = CmdResult.done.code ∧ t.bit st 0 = on ∧ t.bit raw 2 = true
    (s.onRefused d.val = true → Leads (.domainOn acc d) s fun t =>
      t.resp = .ok ∧ t.fld st 7 3 = CmdResult.refused.code ∧ t.bit raw 2 = true ∧ t.doms = s.doms ∧
      Keeps (fun k => k == st || k == raw) s t) ∧
    (s.onRefused d.val = false → s.domSrc d.val = 0 → s.epochPassed d.val = true →
      Leads (.domainOn acc d) s fun t => ends t true ∧
        t.dom d.val = { st := .run, p := s.idealPos d.val, rate := s.timeRate d.val, dir := some false }) ∧
    (s.onRefused d.val = false → s.domSrc d.val = 0 → s.epochPassed d.val = false →
      Leads (.domainOn acc d) s fun t => ends t true ∧ t.dom d.val = { st := .wait }) ∧
    (s.onRefused d.val = false → s.domSrc d.val = 1 → s.angMode d.val ≠ 1 →
      Leads (.domainOn acc d) s fun t => ends t true ∧ (t.dom d.val).st = .wait ∧
        (t.dom d.val).x = s.rdN (domReg d.val Reg.Dom.INIT_PHASE) ∧ (t.dom d.val).rate = 0) ∧
    (Leads (.domainOff acc d) s fun t => ends t false ∧ (t.dom d.val).st = .off ∧ (t.dom d.val).rate = 0 ∧
      (∀ c ∈ s.children d.val, (t.dom c).st = .off) ∧
      (∀ q ∈ t.placed, q.late = true ∨ isCompat q.idx = true ∨ evDomain q.w1 ≠ d.val)) ∧
    (Leads (.domainPrst acc d) s fun t => t.dom d.val = {} ∧ t.rd raw = 4 ∧
      t.rdN st = CmdResult.done.code * 128 ∧ (∀ c ∈ s.children d.val, (t.dom c).st = .off))

/-- What moves a domain from state to state (R99, R112, R113): a TIME domain in WAIT whose clock reaches EPOCH enters RUN at
its ideal position; a running ANGLE or LINE domain at its clamp enters HOLD with R = 0; HOLD that lasts STALL_TIMEOUT becomes
STALLED, counted and raised; where the condition does not hold, nothing changes. PHASE_READ latches CYCLE, R and the
timestamp of the same tick (R149). -/
def Obligations.DomainEvents : Prop :=
  ∀ (s : State) (d : Fin 16),
    (s.domSrc d.val = 0 → (s.dom d.val).st = .wait → s.epochPassed d.val = true → Leads (.timeEpochReached d) s fun t =>
      (t.dom d.val).st = .run ∧ (t.dom d.val).p = s.idealPos d.val ∧ (t.dom d.val).rate = s.timeRate d.val ∧
      t.bit (domBase d.val + Reg.Hdr.IRQ_RAW) 20 = true) ∧
    (s.epochPassed d.val = false → Leads (.timeEpochReached d) s fun t => t = s) ∧
    ((s.dom d.val).st = .run → (s.dom d.val).rate ≠ 0 → s.clampOf d.val = some (s.dom d.val).p →
      Leads (.domainHold d) s fun t =>
        (t.dom d.val).st = .hold ∧ (t.dom d.val).rate = 0 ∧ (t.dom d.val).p = (s.dom d.val).p ∧ t.regs = s.regs) ∧
    ((s.dom d.val).st ≠ .run → Leads (.domainHold d) s fun t => t = s) ∧
    ((s.dom d.val).st = .hold → s.fld (domReg d.val Reg.Dom.STALL_TIMEOUT) 0 24 ≠ 0 →
      s.domSrc d.val = 1 ∨ s.domSrc d.val = 2 → Leads (.stallTimeout d) s fun t =>
        (t.dom d.val).st = .stalled ∧ t.bit (domReg d.val Reg.Hdr.IRQ_RAW) 16 = true ∧
        t.rdN (domReg d.val Reg.Dom.STALL_CNT) = min 0xFFFFFFFF (s.rdN (domReg d.val Reg.Dom.STALL_CNT) + 1)) ∧
    (s.fld (domReg d.val Reg.Dom.STALL_TIMEOUT) 0 24 = 0 → Leads (.stallTimeout d) s fun t => t = s) ∧
    (∀ acc, Shows s acc (domReg d.val Reg.Dom.PHASE) → Leads (.phaseRead acc d) s fun t =>
      t.resp = .data (word ((s.dom d.val).x % 2 ^ 32)) ∧
      t.rd (domReg d.val Reg.Dom.CYCLE) = word ((s.dom d.val).x / 2 ^ 32) ∧
      t.rd (domReg d.val Reg.Dom.RATE_LO) = word (unsignedOf 32 (s.dom d.val).rate) ∧
      t.rd (domReg d.val Reg.Dom.DOM_TS_LO) = s.tb0.tsLo ∧ t.rd (domReg d.val Reg.Dom.DOM_TS_HI) = s.tb0.tsHi ∧
      Keeps (fun k => decide (domReg d.val Reg.Dom.CYCLE ≤ k ∧ k ≤ domReg d.val Reg.Dom.DOM_TS_HI)) s t)

/-- Source edges (R102, R104, R107, R108, R456): an encoder edge sets the pin's level, counts it, and moves a SINGLE domain on
the pin to its next edge position; a line-sync edge sets level and timestamp and starts a frame of a WAIT domain on the pin
at the rate of LINE_FRAME while no interval is known; LINE_MSG_GO starts a frame of a domain with the MSG source, which runs,
or holds where its period is 0, and does nothing to another domain or without GO. -/
def Obligations.SourceEdges : Prop :=
  (∀ (s : State) (pin : Fin 16) (rising : Bool),
    (s.domainOn 9 = false → Leads (.encEdge pin rising) s fun t => t = s) ∧
    (s.domainOn 9 = true → Leads (.encEdge pin rising) s fun t =>
      t.bit (encBase + Reg.Enc.ENC_LEVEL) pin.val = rising ∧
      t.rd (encBase + Reg.Enc.ENC_CNT + 4 * pin.val) = s.rd (encBase + Reg.Enc.ENC_CNT + 4 * pin.val) + 1 ∧
      ∀ d < 16, s.domSrc d = 1 → (s.dom d).st ≠ .off → s.angMode d = 2 →
        s.fld (domReg d Reg.Dom.ANG_CFG) 4 4 = pin.val → rising = true →
        let rev := s.bit (domReg d Reg.Dom.ANG_CFG) 17
        (t.dom d).xe = s.nextSrc d rev ∧ (t.dom d).dir = some rev ∧
          (t.dom d).lastT = some (s.tb0.t16 - s.fld (encBase + Reg.Enc.ENC_CFG + 4 * pin.val) 4 4 * 100 * 2 ^ 16))) ∧
  (∀ (s : State) (pin : Fin 4) (rising : Bool),
    let tk := s.tb0.t16 - s.fld (lsBase + Reg.Ls.LS_CFG + 4 * pin.val) 4 4 * 100 * 2 ^ 16
    (s.domainOn 9 = false → Leads (.lsEdge pin rising) s fun t => t = s) ∧
    (s.domainOn 9 = true → Leads (.lsEdge pin rising) s fun t =>
      t.bit (lsBase + Reg.Ls.LS_LEVEL) pin.val = rising ∧
      t.rd (lsBase + Reg.Ls.LS_TS_LO + 8 * pin.val) = (Clock.ofT16 tk).tsLo ∧
      t.rd (lsBase + Reg.Ls.LS_TS_HI + 8 * pin.val) = (Clock.ofT16 tk).tsHi ∧
      ∀ d < 16, s.domSrc d = 2 → (s.dom d).st = .wait → s.bit (domReg d Reg.Dom.LINE_CFG) 0 = false →
        s.fld (domReg d Reg.Dom.LINE_CFG) 1 2 = pin.val → s.bit (domReg d Reg.Dom.LINE_CFG) 3 ≠ rising →
        (s.dom d).frameStart = none → (s.dom d).frames = [] → s.lineFrame d ≠ 0 →
        (t.dom d).st = .run ∧ (t.dom d).frameStart = some tk ∧
          (t.dom d).rate = rate48 (2 ^ 64 / s.lineFrame d : Nat))) ∧
  (∀ (s : State) (acc : Access) (d : Fin 16) (v : Word), Takes s acc (domReg d.val Reg.Dom.LINE_MSG_GO) →
    let period := s.fld (domReg d.val Reg.Dom.LINE_LINES) 0 16 *
      (s.rdN (domReg d.val Reg.Dom.LINE_PERIOD_NS) * 2 ^ 16 + s.fld (domReg d.val Reg.Dom.LINE_PERIOD_FRAC) 0 16)
    let msg := s.domSrc d.val = 2 ∧ (s.dom d.val).st ≠ .off ∧ s.bit (domReg d.val Reg.Dom.LINE_CFG) 0 = true
    (bitOf v 0 = false ∨ ¬msg → Leads (.lineMsgGo acc d v) s fun t => t.resp = .ok ∧ Keeps (fun _ => false) s t) ∧
    (bitOf v 0 = true → msg → period ≠ 0 → Leads (.lineMsgGo acc d v) s fun t => (t.dom d.val).st = .run) ∧
    (bitOf v 0 = true → msg → period = 0 → Leads (.lineMsgGo acc d v) s fun t =>
      (t.dom d.val).st = .hold ∧ (t.dom d.val).rate = 0))

/-- Writing the event table (R118, R119, R144): a write of word 0, 2 or 3 goes to the page's shadow, which a write for another
entry first empties; the entries of the compatibility block ignore it. A write of word 1 commits it with the shadowed words,
the reserved bits aside (bit 30 of word 1, and of word 3 the upper half of an action that is no PULSE), and empties the shadow; one that R119 refuses changes no entry and is counted, with its reason and
index in LAST_REFUSED, and raised. -/
def Obligations.EventTable : Prop :=
  (∀ (s : State) (acc : Access) (i : Fin 4096) (j : Fin 4) (v : Word), Takes s acc (evtWord i.val j.val) →
    let was := s.shadow (i.val / 128)
    let same := was.idx = some i.val
    (isCompat i.val = true → Leads (.evtShadowWrite acc i j v) s fun t =>
      t.resp = .ok ∧ Keeps (fun _ => false) s t) ∧
    (isCompat i.val = false → j ≠ 1 → Leads (.evtShadowWrite acc i j v) s fun t =>
      let sh := t.shadow (i.val / 128)
      sh.idx = some i.val ∧ sh.w0 = (if j = 0 then some v else if same then was.w0 else none) ∧
        sh.w2 = (if j = 2 then some v else if same then was.w2 else none) ∧
        sh.w3 = (if j = 3 then some v else if same then was.w3 else none) ∧
        Keeps (fun _ => false) { s with
                                 evtShadow := t.evtShadow } t)) ∧
  (∀ (s : State) (acc : Access) (i : Fin 4096) (v : Word), Takes s acc (evtWord i.val 1) → isCompat i.val = false →
    let sh := s.shadow (i.val / 128)
    let mine (w : Option Word) (j : Nat) : Word :=
      if sh.idx = some i.val then w.getD (s.rd (evtWord i.val j)) else s.rd (evtWord i.val j)
    let w1 := setBit v 30 false
    let w3 := if evAction w1 = 6 then mine sh.w3 3 else mine sh.w3 3 &&& 0xFFFF
    let r := s.commitReason i.val w1 w3
    (r = 0 → Leads (.evtCommit acc i v) s fun t =>
      t.resp = .ok ∧ t.rd (evtWord i.val 0) = mine sh.w0 0 ∧ t.rd (evtWord i.val 1) = w1 ∧
      t.rd (evtWord i.val 3) = w3 ∧ t.shadow (i.val / 128) = {} ∧
      (evArm w1 = false ∨ evAt w1 = true → t.rd (evtWord i.val 2) = mine sh.w2 2)) ∧
    (r ≠ 0 → Leads (.evtCommit acc i v) s fun t =>
      t.resp = .ok ∧ t.shadow (i.val / 128) = {} ∧
      t.rd (hrnBase + Reg.Hrn.LAST_REFUSED) = word (2 ^ 31 + r * 2 ^ 16 + i.val) ∧
      t.rdN (hrnBase + Reg.Hrn.COMMIT_REFUSED) = min 0xFFFFFFFF (s.rdN (hrnBase + Reg.Hrn.COMMIT_REFUSED) + 1) ∧
      t.bit (hrnBase + Reg.Hdr.IRQ_RAW) 20 = true ∧
      Keeps (fun k => k == hrnBase + Reg.Hrn.LAST_REFUSED || k == hrnBase + Reg.Hrn.COMMIT_REFUSED ||
        k == hrnBase + Reg.Hdr.IRQ_RAW) { s with
                                          evtShadow := t.evtShadow } t))

/-- EVENT_EVALUATE (R124 to R126): with one armed event, that has no occurrence placed, runs forward and drives no IN line:
an instant from 2 µs up to 3,686.4 ns ahead is placed at its projected instant where R34 lets the event act; one farther ahead
changes nothing; a nearer one is LATE, flagged and counted. Once PARK entry has begun nothing is evaluated (R304). An action executes only at an occurrence that is due (R124, R129), and a LATE occurrence whose event R34 no longer lets
act is dropped: the event is disarmed and OWNER_FAIL counts (R120). -/
def Obligations.EventEvaluation : Prop :=
  ((∀ s : State, s.parkStage ≠ 0 ∨ s.armed = [] → Leads .eventEvaluate s fun t => t = s) ∧
   (∀ (s : State) (i : Nat),
     let w1 := s.rd (evtWord i 1)
     let p := s.evPos i w1
     let xe := s.boundPos i
     let inst := roundNs (projectT16 s.tb0.t16 p.1 p.2 xe) 0
     let ahead : Int := (inst * 2 ^ 16 : Nat) - (s.tb0.t16 : Nat)
     s.parkStage = 0 → s.armed = [i] → s.evRuns i w1 = true → evAction w1 ≠ 0 → isLineAct (evAction w1) = false →
     evReverse w1 = false → 0 < p.2 → 0 < posDist (p.1 / subUnit) xe → s.placed.any (·.idx == i) = false →
     (36864 * 2 ^ 16 ≤ ahead * 10 → Leads .eventEvaluate s fun t => t = s) ∧
     (2000 * 2 ^ 16 ≤ ahead → ahead * 10 < 36864 * 2 ^ 16 → s.evOwnerOk i w1 = true → Leads .eventEvaluate s fun t =>
       t.placed = s.placed ++ [⟨i, w1, s.rd (evtWord i 3), inst, [], false, false, none⟩]) ∧
     (ahead < 2000 * 2 ^ 16 → evSkip w1 = true → Leads .eventEvaluate s fun t =>
       t.placed = s.placed ∧
       t.bit (evtBase (i / 128) + Reg.Evt.LATE_FLAG + 4 * (i % 128 / 32)) (i % 32) = true ∧
       t.rdN (hrnBase + Reg.Hrn.LATE_CNT) = min 0xFFFFFFFF (s.rdN (hrnBase + Reg.Hrn.LATE_CNT) + 1) ∧
       t.rdN (hrnBase + Reg.Hrn.SKIP_CNT) = min 0xFFFFFFFF (s.rdN (hrnBase + Reg.Hrn.SKIP_CNT) + 1) ∧
       t.rdN (hrnBase + Reg.Hrn.LAST_LATE) = 2 ^ 31 + i))) ∧
  (∀ (s : State) (i : Fin 4096) (a : Nat) (c : Instr),
     (a, c) ∈ ([(1, .actionSet i), (2, .actionClear i), (3, .actionToggle i), (4, .actionOpen i), (5, .actionClose i),
       (6, .actionPulse i), (7, .actionSample i), (8, .actionIrq i), (9, .actionChain i)] : List (Nat × Instr)) →
     (s.dueAct i.val a = none → Leads c s fun t => t = s) ∧
     (∀ q, s.dueAct i.val a = some q → q.late = true → s.evOwnerOk i.val q.w1 = false → Leads c s fun t =>
       evArm (t.rd (evtWord i.val 1)) = false ∧
       t.rdN (hrnBase + Reg.Hrn.OWNER_FAIL) = min 0xFFFFFFFF (s.rdN (hrnBase + Reg.Hrn.OWNER_FAIL) + 1) ∧
       (∀ p ∈ t.placed, p ∈ s.placed ∧ ¬(p.idx = i.val ∧ p.late = true))))

/-- What each action does at an occurrence that is due and may act (R117, R129, R132, R136, R138 to R141): SET, CLEAR and
TOGGLE put the line's level in the image; OPEN and CLOSE set the queue's gate, but where an event of higher index acts on it at the same instant; PULSE makes the timed output active until its
instant plus the width; SAMPLE puts a hold with the event's index on the sense converter; IRQ sets the event line's bit and,
where enabled, EVIRQ; CHAIN arms its target. The occurrence is then over, and a ONCE event disarmed (R122). -/
def Obligations.ActionsAct : Prop :=
  ∀ (s : State) (i : Fin 4096) (a : Nat) (q : Placed), s.dueAct i.val a = some q →
    q.late = false ∨ s.evOwnerOk i.val q.w1 = true → isCompat i.val = false → q.replaced = false →
    let ended (t : State) : Prop :=
      (∀ p ∈ t.placed, ¬(p.idx = q.idx ∧ p.inst = q.inst ∧ p.late = q.late)) ∧
      (evRepeat (s.rd (evtWord i.val 1)) ≠ 1 → evTarget q.w1 ≠ i.val ∨ a ≠ 9 → evArm (t.rd (evtWord i.val 1)) = false)
    let tgt := evTarget q.w1
    (∀ n < 128, ∀ x ≤ s.tb0.nsTotal, q.lines = [(n, x)] →
      (a = 1 → Leads (.actionSet i) s fun t => ended t ∧ t.level n = true) ∧
      (a = 2 → Leads (.actionClear i) s fun t => ended t ∧ t.level n = false) ∧
      (a = 3 → Leads (.actionToggle i) s fun t => ended t ∧ t.level n = !s.level n)) ∧
    (∀ b c, (a, b, c) ∈ [(4, true, .actionOpen i), (5, false, .actionClose i)] → Leads c s fun t =>
      ended t ∧ t.gateOpen (bitsOf q.w1 8 5) (bitsOf q.w1 0 3) =
        (if s.gateOver q then s.gateOpen (bitsOf q.w1 8 5) (bitsOf q.w1 0 3) else b)) ∧
    (a = 6 → Leads (.actionPulse i) s fun t => ended t ∧
      Tbl.get none t.toEnd (tgt % 8) = some (q.inst + pulseWidth (bitsOf q.w3 16 16))) ∧
    (a = 7 → tgt / 2 ^ 14 = 0 → Leads (.actionSample i) s fun t => ended t ∧
      ∃ h ∈ (t.adc (tgt / 2 ^ 8 % 8)).holds, h.ev = q.idx ∧ h.sel = tgt % 2 ^ 8 ∧ h.origin = 0 ∧ q.inst ≤ h.t) ∧
    (a = 8 → Leads (.actionIrq i) s fun t => ended t ∧
      t.bit (hrnBase + Reg.Hrn.EVIRQ_RAW) (tgt % 32) = true ∧
      (s.bit (hrnBase + Reg.Hrn.EVIRQ_EN) (tgt % 32) = true → t.bit (hrnBase + Reg.Hdr.IRQ_RAW) 21 = true)) ∧
    (a = 9 → tgt % 4096 ≠ i.val → Leads (.actionChain i) s fun t => ended t ∧
      evArm (t.rd (evtWord (tgt % 4096) 1)) = true)

/-- LINE_SET and LINE_CLR (R132): the channels named whose page lets the writer through take the level in the image, the
others keep theirs. GATE_STATE takes the bits that stand for ports, but a gate that an action set in this tick keeps it (R136). TO_ARM and TO_DISARM (R142, R151): every slot
disarmed and not armed is disarmed, every slot armed holds a PULSE entry of its output in the event table, and PERIODIC is
stored. PULSE_END returns an output to idle once its pulse's end has come (R139). -/
def Obligations.LinesAndOutputs : Prop :=
  (∀ (s : State) (acc : Access) (w : Fin 4) (v : Word) (lv : Bool) (c : Instr),
    (lv = true ∧ c = .lineSet acc w v ∧ Takes s acc (hrnBase + Reg.Hrn.LINE_SET + 4 * w.val)) ∨
      (lv = false ∧ c = .lineClr acc w v ∧ Takes s acc (hrnBase + Reg.Hrn.LINE_CLR + 4 * w.val)) →
    Leads c s fun t => t.resp = .ok ∧ ∀ n < 128,
      t.level n = (if n / 32 = w.val ∧ bitOf v (n % 32) = true ∧ s.lineOk acc n = true then lv else s.level n)) ∧
  (∀ (s : State) (acc : Access) (w : Fin 8) (v : Word), Takes s acc (hrnBase + Reg.Hrn.GATE_STATE + 4 * w.val) →
    Leads (.gateStateWrite acc w v) s fun t =>
      t.resp = .ok ∧
      (∀ b < 32, t.bit (hrnBase + Reg.Hrn.GATE_STATE + 4 * w.val) b =
        (if 32 * w.val + b ∈ s.gateActs then s.bit (hrnBase + Reg.Hrn.GATE_STATE + 4 * w.val) b
         else bitOf (v &&& gateMask w.val) b)) ∧
      Keeps (· == hrnBase + Reg.Hrn.GATE_STATE + 4 * w.val) { s with
                                                             frames := t.frames } t) ∧
  (∀ (s : State) (acc : Access) (k : Fin 8) (v : Word) (c : Instr), c = .toArm acc k v ∨ c = .toDisarm acc k v →
    Takes s acc (toReg k.val Reg.Tpo.TO_CTRL) →
    Leads c s fun t => t.resp = .ok ∧ t.bit (toReg k.val Reg.Tpo.TO_CTRL) 8 = bitOf v 8 ∧
      ∀ j < 4, (bitOf v j = true → t.rd (evtWord (slotEvt k.val j) 1) = word (2 ^ 31 + 6 * 2 ^ 22 + 2 ^ 20 + k.val) ∧
          t.rd (evtWord (slotEvt k.val j) 2) = s.rd (toReg k.val (Reg.Tpo.SLOT0_SEC + 8 * j))) ∧
        (bitOf v j = false → bitOf v (4 + j) = true → evArm (t.rd (evtWord (slotEvt k.val j) 1)) = false) ∧
        (bitOf v j = false → bitOf v (4 + j) = false →
          t.rd (evtWord (slotEvt k.val j) 1) = s.rd (evtWord (slotEvt k.val j) 1))) ∧
  (∀ (s : State) (k : Fin 8) (e : Nat), Tbl.get none s.toEnd k.val = some e →
    (e ≤ s.tb0.nsTotal → Leads (.pulseEnd k) s fun t =>
      Tbl.get none t.toEnd k.val = none ∧ t.toLevel k.val = s.bit (tpoBase + Reg.Tpo.GCFG) k.val ∧ t.regs = s.regs) ∧
    (s.tb0.nsTotal < e → Leads (.pulseEnd k) s fun t => t = s))

/-! ## Drive tiles and their links -/

/-- What a powered tile does with a request it has not stored (R169 to R171, R176 to R178, R185, R187, R189): KEEPALIVE, RENEW and
CLAIM under the take rule, WRITE, READ, PARK and TRST, each with its reply, which the tile stores with the request; what the
Leash does not allow is answered with NACK and its reason. The octets of a request's frame, preamble and CRC with them, are
that request at the tile (R167, R168). Where a channel may settle anew, the monitor's reaction to
TILE_FAULT is LOG or IRQ. -/
def Obligations.TileRequests : Prop :=
  ∀ (s : State) (k : Fin 8) (seq : Fin 16) (src : Fin 4) (claim : Fin 65536),
    let t := k.val
    let q (type : Nat) : TclReq := { type := type, seq := seq.val, src := src.val, claim := claim.val }
    let replied (u : State) (q : TclReq) (p : TclRep → Prop) : Prop :=
      (u.tile t).lastReq = some q ∧ ∃ r, (u.tile t).lastRep = some r ∧ u.out.head? = some (.tclRep t r.octets) ∧
        r.seq = seq.val ∧ r.holder = u.leashHolder t ∧ r.state = u.leashState t ∧ r.cur = u.leashCur t ∧ p r
    let nacked (u : State) (q : TclReq) (reason : Nat) : Prop :=
      replied u q (fun r => r.type = 12 ∧ r.reason = reason ∧ r.refType = q.type) ∧
        u.rd (tt t Reg.Tile.LEASH_STAT) = s.rd (tt t Reg.Tile.LEASH_STAT) ∧ (u.tile t).trst = (s.tile t).trst
    let taken (u : State) (cur holder : Nat) : Prop :=
      u.leashCur t = cur ∧ u.leashHolder t = holder ∧ u.leashState t = 1 ∧ (u.tile t).latch = some (s.outWord t)
    let half := src = 1 ∨ src = 2
    let holds := src.val = s.leashHolder t ∧ claim.val = s.leashCur t
    let st := s.leashState t
    (s.tile t).powered = true → (s.tile t).starting = false →
    ((s.tile t).lastReq ≠ some (q 1) → half →
      (holds → st = 1 ∨ st = 3 ∨ st = 4 → Leads (.tclKeepalive k seq src claim) s fun u =>
        replied u (q 1) (fun r => r.type = 9 ∧ r.out = s.outWord t) ∧
        u.rd (tt t Reg.Tile.LEASH_STAT) = s.rd (tt t Reg.Tile.LEASH_STAT)) ∧
      (holds → st = 2 → s.reaction 32 ≤ 1 → Leads (.tclKeepalive k seq src claim) s fun u =>
        replied u (q 1) (fun r => r.type = 9) ∧ taken u claim.val src.val) ∧
      (¬holds ∨ st = 0 → Leads (.tclKeepalive k seq src claim) s fun u => nacked u (q 1) 1)) ∧
    ((s.tile t).lastReq ≠ some (q 2) → half →
      (s.leashCur t ≠ 0xFFFF → s.leashCur t < claim.val → s.reaction 32 ≤ 1 → Leads (.tclClaim k seq src claim) s fun u =>
        replied u (q 2) (fun r => r.type = 9) ∧ taken u claim.val src.val) ∧
      (s.leashCur t ≠ 0xFFFF → claim.val ≤ s.leashCur t → Leads (.tclClaim k seq src claim) s fun u => nacked u (q 2) 2) ∧
      (s.leashCur t = 0xFFFF → Leads (.tclClaim k seq src claim) s fun u => nacked u (q 2) 3)) ∧
    ((s.tile t).lastReq ≠ some (q 3) → half →
      (holds → st ≠ 0 → s.reaction 32 ≤ 1 → Leads (.tclRenew k seq src claim) s fun u =>
        replied u (q 3) (fun r => r.type = 9) ∧ taken u claim.val src.val) ∧
      (¬holds ∨ st = 0 → Leads (.tclRenew k seq src claim) s fun u => nacked u (q 3) 1)) ∧
    (∀ (unit reg : Fin 256) (data : Word),
      let qw : TclReq := { q 4 with
                           unit := unit.val
                           reg := reg.val
                           data := data }
      (s.tile t).lastReq ≠ some qw → half →
      (holds → st ≠ 0 → unit.val < 16 → regOff reg.val = Reg.Chan.CH_CFG → s.reaction 32 ≤ 1 →
        Leads (.tclWrite k seq src claim unit reg data) s fun u =>
          replied u qw (fun r => r.type = 10 ∧ r.data = data &&& 7) ∧
          u.rd (tk (16 * t + unit.val) Reg.Chan.CH_CFG) = data &&& 7) ∧
      (holds → st ≠ 0 → unit = 16 → regOff reg.val = Reg.Tile.STAY_TIME →
        Leads (.tclWrite k seq src claim unit reg data) s fun u =>
          replied u qw (fun r => r.type = 10 ∧ r.data = word (limit 500 10000000 (bitsOf data 0 24))) ∧
          u.rd (tt t Reg.Tile.STAY_TIME_ACT) = word (limit 500 10000000 (bitsOf data 0 24))) ∧
      (holds → st ≠ 0 → 16 < unit.val → Leads (.tclWrite k seq src claim unit reg data) s fun u => nacked u qw 5) ∧
      (¬holds ∨ st = 0 → Leads (.tclWrite k seq src claim unit reg data) s fun u => nacked u qw 1)) ∧
    (∀ (unit reg : Fin 256),
      let qr : TclReq := { q 5 with
                           unit := unit.val
                           reg := reg.val }
      (s.tile t).lastReq ≠ some qr →
      (∀ d, s.tileRead t unit.val (regOff reg.val) = some d → Leads (.tclRead k seq src claim unit reg) s fun u =>
        replied u qr (fun r => r.type = 11 ∧ r.data = d) ∧ u.regs = s.regs) ∧
      (s.tileRead t unit.val (regOff reg.val) = none → Leads (.tclRead k seq src claim unit reg) s fun u =>
        nacked u qr 5 ∧ u.regs = s.regs)) ∧
    ((s.tile t).lastReq ≠ some (q 6) → half →
      (holds → st = 1 ∨ st = 2 ∨ st = 3 → s.reaction 32 ≤ 1 → Leads (.tclPark k seq src claim) s fun u =>
        replied u (q 6) (fun r => r.type = 9) ∧ u.leashState t = 4 ∧ u.leashCur t = s.leashCur t ∧
        (u.tile t).park = s.outWord t) ∧
      (¬holds ∨ st = 0 ∨ st = 4 → Leads (.tclPark k seq src claim) s fun u => nacked u (q 6) 1)) ∧
    (∀ key : Fin 65536,
      let qt : TclReq := { q 7 with
                           key := key.val }
      (s.tile t).lastReq ≠ some qt → half →
      (holds → key.val = 0xC3A5 → Leads (.tclTrst k seq src claim key) s fun u =>
        replied u qt (fun r => r.type = 9) ∧ (u.tile t).trst = true ∧ u.regs = s.regs) ∧
      (holds → key.val ≠ 0xC3A5 → Leads (.tclTrst k seq src claim key) s fun u => nacked u qt 6) ∧
      (¬holds → Leads (.tclTrst k seq src claim key) s fun u => nacked u qt 1)) ∧
    (∀ (r : TclRep) (q' : TclReq) (c : Instr),
      (q', c) ∈ ([(q 1, .tclKeepalive k seq src claim), (q 2, .tclClaim k seq src claim), (q 3, .tclRenew k seq src claim),
        (q 6, .tclPark k seq src claim)] : List (TclReq × Instr)) →
      (s.tile t).lastReq = some q' → (s.tile t).lastRep = some r →
      Leads c s fun u => u = s.emit (.tclRep t r.octets)) ∧
    (∀ (q' : TclReq) (c : Instr),
      (q', c) ∈ ([(q 1, .tclKeepalive k seq src claim), (q 2, .tclClaim k seq src claim), (q 3, .tclRenew k seq src claim),
        (q 6, .tclPark k seq src claim)] : List (TclReq × Instr)) → exec (.tclBadFrame k q'.octets) s = exec c s) ∧
    (src = 0 ∨ src = 3 → (s.tile t).lastReq ≠ some (q 2) → Leads (.tclClaim k seq src claim) s fun u => nacked u (q 2) 4)

/-- What a tile does by itself (R154, R156, R158, R171, R172, R178, R180, R185, R188, R189): it counts a bad frame and refuses
a reserved TYPE; discards its stored request; goes from HELD to STAY with the levels of IN, and from STAY to LOSS; follows IN
from the take instant; a TRST, or a brown-out, leaves it UNCLAIMED with every channel off; a feed that rises through 3.0 V
powers it; it takes the feed, its supply samples, a limp-home level and an IN edge. Where a channel may settle anew, the
monitor's reaction to TILE_FAULT is LOG or IRQ. -/
def Obligations.TileEvents : Prop :=
  ∀ (s : State) (k : Fin 8),
    let t := k.val
    let m := s.tile t
    let off (u : State) : Prop := u.leashState t = 0 ∧ u.leashCur t = 0 ∧ ∀ c < 16, (u.chan (16 * t + c)).conducts = false
    (∀ octs, tclRequest octs = none → m.powered = true → Leads (.tclBadFrame k octs) s fun u =>
      u.fld (tileBase t + Reg.Tile.TCL_ERR) 0 16 = min 0xFFFF (s.fld (tileBase t + Reg.Tile.TCL_ERR) 0 16 + 1) ∧
      Keeps (· == tileBase t + Reg.Tile.TCL_ERR) s u) ∧
    (∀ octs q, tclRequest octs = some q → m.powered = true → m.starting = false → (q.type = 0 ∨ 7 < q.type) →
      m.lastReq ≠ some q → Leads (.tclBadFrame k octs) s fun u => u.regs = s.regs ∧
        ∃ r, (u.tile t).lastRep = some r ∧ u.out.head? = some (.tclRep t r.octets) ∧ r.type = 12 ∧ r.reason = 7 ∧ r.refType = q.type) ∧
    (m.powered = false → ∀ octs, Leads (.tclBadFrame k octs) s fun u => u = s) ∧
    (Leads (.storedReplyDiscard k) s fun u => (u.tile t).lastReq = none ∧ (u.tile t).lastRep = none ∧ u.regs = s.regs) ∧
    (s.leashState t = 1 → s.reaction 32 ≤ 1 → Leads (.leashStayEntry k) s fun u =>
      u.leashState t = 2 ∧ u.leashCur t = s.leashCur t ∧ u.leashHolder t = s.leashHolder t ∧
      (u.tile t).stay = (match m.latch with | some l => l | none => m.inLv)) ∧
    (s.leashState t ≠ 1 → Leads (.leashStayEntry k) s fun u => u = s) ∧
    (s.leashState t = 2 → s.reaction 32 ≤ 1 → Leads (.leashLossEntry k) s fun u =>
      u.leashState t = 3 ∧ u.leashCur t = s.leashCur t ∧ u.leashHolder t = s.leashHolder t) ∧
    (s.leashState t ≠ 2 → Leads (.leashLossEntry k) s fun u => u = s) ∧
    (m.latch ≠ none → m.powered = true → s.leashState t = 1 → s.reaction 32 ≤ 1 → Leads (.takeInstant k) s fun u =>
      (u.tile t).latch = none ∧ ∀ c < 16, u.srcLevel (16 * t + c) = m.inLv.testBit c) ∧
    (m.latch = none → Leads (.takeInstant k) s fun u => u = s) ∧
    (m.trst = true → m.powered = true → s.reaction 32 ≤ 1 → Leads (.trstTakeEffect k) s fun u =>
      off u ∧ (u.tile t).trst = false ∧ (u.tile t).starting = false ∧
      ∀ c < 16, u.rd (tk (16 * t + c) Reg.Chan.CH_CFG) = regReset (tk (16 * t + c) Reg.Chan.CH_CFG)) ∧
    (m.trst = false → Leads (.trstTakeEffect k) s fun u => u = s) ∧
    (∀ mv,
      (m.powered = false → 3000 ≤ mv → s.reaction 32 ≤ 1 → Leads (.tilePowerUp k mv) s fun u =>
        (u.tile t).powered = true ∧ (u.tile t).starting = true ∧ (u.tile t).trst = true ∧ (u.tile t).feed = mv) ∧
      (m.powered = true ∨ mv < 3000 → Leads (.tilePowerUp k mv) s fun u => u = s) ∧
      (m.powered = true → mv < 2800 → s.reaction 32 ≤ 1 → Leads (.tileBrownout k mv) s fun u =>
        off u ∧ (u.tile t).powered = false ∧ (u.tile t).feed = mv) ∧
      (m.powered = false ∨ 2800 ≤ mv → Leads (.tileBrownout k mv) s fun u => u = s) ∧
      (s.reaction 32 ≤ 1 → Leads (.feedBandChange k mv) s fun u => (u.tile t).feed = mv ∧
        (m.powered = true → (u.tile t).moved = (m.moved || feedBand m.feed != feedBand mv)))) ∧
    (∀ x, (m.powered = true → Leads (.supplySample k x) s fun u =>
        (u.tile t).samples = (x :: m.samples).take 1000 ∧ u.regs = s.regs ∧
        ((u.tile t).supWarn = true ↔ (u.tile t).samples.length = 1000 ∧ 12000 * 1000 < (u.tile t).samples.foldl (· + ·) 0)) ∧
      (m.powered = false → Leads (.supplySample k x) s fun u => u = s)) ∧
    (∀ (i : Fin 16) (lv : Bool),
      (m.powered = true → s.reaction 32 ≤ 1 → Leads (.lhInputChange ⟨t, by omega⟩ i lv) s fun u =>
        (u.tile t).lh.testBit i.val = lv) ∧
      (s.domainOn 9 = true → Leads (.lhInputChange 8 i lv) s fun u =>
        u.bit (lhBase + Reg.Lh.LH_LEVEL) i.val = lv) ∧
      (s.domainOn 9 = false → Leads (.lhInputChange 8 i lv) s fun u => u = s)) ∧
    (∀ (c : Fin 128) (lv : Bool), s.inFlight.find? (fun e => e.1 == c.val) = some (c.val, lv) → c.val / 16 = t →
      s.reaction 32 ≤ 1 → Leads (.inEdge c) s fun u =>
        (u.tile t).inLv.testBit (c.val % 16) = lv ∧ u.inFlight = s.inFlight.erase (c.val, lv)) ∧
    (∀ c : Fin 128, s.inFlight.find? (fun e => e.1 == c.val) = none → Leads (.inEdge c) s fun u => u = s)

/-- What tile control sends (R173, R174, R175, R182, R183, R186, R189, R195): LEASH_CTRL queues CLAIM with the mirror's CUR + 1,
RENEW with CUR, PARK with the writer's own claim number; TRST_REQ queues TRST on its key and else nothing; a write of a
tile-held register queues WRITE, is held while the queue of 32 is full, and is refused over the side band as NOT_CLAIMED; a
policy write stores the P register and queues its copy from the holder; a half's agent queues KEEPALIVE for each tile it
holds while its half is active and running; the poll queues a READ of LEASH_STAT. A request queued is waiting or sent. -/
def Obligations.TileControlRequests : Prop :=
  ∀ (s : State) (acc : Access) (k : Fin 8),
    let t := k.val
    let m := acc.master
    let ctl (u : State) (type claim : Nat) : Prop :=
      ∃ e ∈ (u.tc t).ctlQ ++ (u.tc t).sent, e.req.type = type ∧ e.req.src = m.src ∧ e.req.claim = claim ∧ e.why = .agent
    (Takes s acc (mt t Reg.Tile.LEASH_CTRL) →
      Leads (.leashCtrlClaim acc k) s (fun u => u.resp = .ok ∧ ctl u 2 ((s.mirCur t + 1) % 65536)) ∧
      Leads (.leashCtrlRenew acc k) s (fun u => u.resp = .ok ∧ ctl u 3 (s.mirCur t)) ∧
      Leads (.leashCtrlPark acc k) s (fun u => u.resp = .ok ∧ ctl u 6 ((s.tc t).claimOf m.src))) ∧
    (∀ v, Takes s acc (mt t Reg.Tile.TRST_REQ) →
      (v = 0xC3A5 → Leads (.trstReq acc k v) s fun u => u.resp = .ok ∧ ctl u 7 ((s.tc t).claimOf m.src)) ∧
      (v ≠ 0xC3A5 → Leads (.trstReq acc k v) s fun u => u.resp = .ok ∧ Keeps (fun _ => false) s u)) ∧
    (∀ (n : Fin 128) (r : Fin 7) (v : Word), n.val / 16 = t →
      let off := rwtOffs.getD r.val 0
      Takes s acc (mc n.val off) →
      ((s.tc t).rwUsed < 32 → Leads (.rwtWrite acc n r v) s fun u =>
        u.resp = (match m with | .half _ => .ok | .shep => .code sbNotClaimed) ∧
        ∃ e ∈ (u.tc t).rwQ ++ (u.tc t).sent, e.req.type = 4 ∧ e.req.src = m.src ∧
          e.req.claim = (s.tc t).claimOf m.src ∧ e.req.unit = n.val % 16 ∧ e.req.reg = (off - 0x40) / 4 ∧ e.req.data = v) ∧
      (∀ h, m = .half h → 32 ≤ (s.tc t).rwUsed → Leads (.rwtWrite acc n r v) s fun u =>
        u.resp = .stalled ∧ u.tcs = s.tcs ∧ u.regs = ((s.cmpWrite acc 4 (mc n.val off) v).regs))) ∧
    (∀ (unit : Fin 17) (v : Word),
      let tile := unit = 16
      let key := if tile then mt t Reg.Tile.STAY_TIME else mc (16 * t + unit.val) Reg.Chan.CH_POL
      let v' := if tile then word (limit 500 10000000 (bitsOf v 0 24)) else v &&& 0x1FF
      Takes s acc key → s.worn key = false →
      Leads (.policyWrite acc k unit v) s fun u => u.rd key = v' ∧
        (m.src ≠ s.mirHolder t → u.tcs = s.tcs) ∧
        (m.src = s.mirHolder t → (s.tc t).rwUsed < 32 → ∃ e ∈ (u.tc t).rwQ ++ (u.tc t).sent,
          e.req.type = 4 ∧ e.req.src = m.src ∧ e.req.unit = unit.val ∧ e.req.data = v')) ∧
    (∀ h, s.role h = roleActive → s.running h = true → (s.tc t).agent h = true → Leads (.keepaliveTimer h) s fun u =>
      ∃ e ∈ (u.tc t).ctlQ ++ (u.tc t).sent, e.req.type = 1 ∧ e.req.src = h.code2 ∧
        e.req.claim = (s.tc t).claimOf h.code2) ∧
    (∀ h, s.role h ≠ roleActive ∨ s.running h = false → Leads (.keepaliveTimer h) s fun u => u = s) ∧
    (Leads (.leashPoll k) s fun u => ∃ e ∈ (u.tc t).rwQ ++ (u.tc t).held ++ (u.tc t).sent,
      e.req.type = 5 ∧ e.req.unit = 0x10 ∧ regOff e.req.reg = Reg.Tile.LEASH_STAT ∧ e.why = .poll)

/-- What replies do to tile control (R173 to R175, R177, R216): a STATUS that answers a CLAIM or RENEW ends it, makes its number
the half's own and raises CLAIM_DONE; an ACK enters the applied value in the mirror, and ends CLEAR of a channel; DATA enters
the value and serves a stalled read; NACK is recorded and counted, its request over; any matched reply shows the tile's Leash
in the mirror with LINK_UP. A read whose reader has turned to it again keeps its answer for it while the mirror is not valid. An
attempt without a valid reply is sent again up to two times, then the request ends as TIMEOUT; from the third in a row the link
is down. An unmatched SEQ changes nothing. -/
def Obligations.TileControlReplies : Prop :=
  ∀ (s : State) (k : Fin 8) (r : TclRep) (e : TcEntry),
    let t := k.val
    let leash := word (r.cur % 2 ^ 16 + r.holder % 4 * 2 ^ 16 + r.state % 8 * 2 ^ 18)
    let mirrored (u : State) : Prop :=
      u.rd (mt t Reg.Tile.LEASH_STAT) = leash ∧ u.linkUp t = true ∧ (u.tc t).timeouts = 0
    (r.type = 9 → (s.tc t).match? r = some e → e.req.src = 1 ∨ e.req.src = 2 → e.req.type = 2 ∨ e.req.type = 3 →
      e.why = .agent → Leads (.replyStatus k r) s fun u =>
        mirrored u ∧ (u.tc t).claimOf e.req.src = e.req.claim ∧ u.bit (tileBase t + Reg.Hdr.IRQ_RAW) 16 = true ∧
        (u.tc t).adopted = true) ∧
    (r.type = 10 → (s.tc t).match? r = some e → e.req.unit < 16 → regOff e.req.reg = Reg.Chan.CH_CFG → e.why = .master →
      Leads (.replyAck k r) s fun u =>
        mirrored u ∧ u.rd (mc (16 * t + e.req.unit) Reg.Chan.CH_CFG) = r.data) ∧
    (∀ n, r.type = 10 → (s.tc t).match? r = some e → e.req.unit = n % 16 → n / 16 = t →
      regOff e.req.reg = Reg.Chan.PROT_CLR → e.why = .clear n → Leads (.replyAck k r) s fun u =>
        mirrored u ∧ u.busy (chanBase n) = false ∧
        u.fld (chanBase n + Reg.Hdr.UNIT_STAT) 7 3 =
          (if bitOf r.data 1 then CmdResult.done.code else CmdResult.refused.code)) ∧
    (∀ acc addr again, r.type = 11 → (s.tc t).match? r = some e → e.why = .serve acc addr again →
      Leads (.replyData k r) s fun u =>
        let d := if e.req.unit < 16 ∧ regOff e.req.reg = Reg.Chan.CH_POL_ACT
          then u.rd (mc (16 * t + e.req.unit) Reg.Chan.CH_POL_ACT) else r.data
        mirrored u ∧ (again = false → u.resp = .data d) ∧
          (again = true → u.mirrorValid t = false → (acc, addr, .data d) ∈ u.served)) ∧
    (r.type = 12 → (s.tc t).match? r = some e → e.why = .master → r.reason < 16 → Leads (.replyNack k r) s fun u =>
      mirrored u ∧ u.rdN (mt t Reg.Tile.LAST_NACK) = r.reason + e.req.type % 16 * 2 ^ 4 + e.req.src % 4 * 2 ^ 8 + 2 ^ 31 ∧
      u.rdN (mt t Reg.Tile.NACK_CNT) = min 0xFFFFFFFF (s.rdN (mt t Reg.Tile.NACK_CNT) + 1) ∧
      u.bit (tileBase t + Reg.Hdr.IRQ_RAW) 21 = true) ∧
    (∀ (seq : Fin 16) (began : Option (List Nat)), (s.tc t).sent.find? (fun e => e.req.seq == seq.val) = some e →
      let ends (P : State → Prop) : Prop := Leads (.replyTimeout k seq began) s P
      (began.any tclReplyGood = true → ends fun u => u = s) ∧
      (began.any tclReplyGood = false →
        (e.tries < 2 → ends fun u =>
          u.out = .tclReq t e.req.octets :: s.out ∧ (u.tc t).timeouts = (s.tc t).timeouts ∧
          (∃ e' ∈ (u.tc t).sent, e'.req = e.req ∧ e'.tries = e.tries + 1)) ∧
        (2 ≤ e.tries → e.why = .master → (s.tc t).timeouts < 2 → ends fun u =>
          (u.tc t).timeouts = (s.tc t).timeouts + 1 ∧ u.linkUp t = s.linkUp t ∧
          u.rdN (mt t Reg.Tile.LAST_NACK) = 0xF + e.req.type % 16 * 2 ^ 4 + e.req.src % 4 * 2 ^ 8 + 2 ^ 31) ∧
        (2 ≤ e.tries → e.why = .master → 2 ≤ (s.tc t).timeouts → s.linkUp t = true → s.reaction 33 ≤ 1 → ends fun u =>
          u.linkUp t = false ∧ u.bit (tileBase t + Reg.Hdr.IRQ_RAW) 22 = true))) ∧
    (∀ (seq : Fin 16) (began : Option (List Nat)), (s.tc t).sent.find? (fun e => e.req.seq == seq.val) = none →
      Leads (.replyTimeout k seq began) s fun u => u = s)

/-- MIRROR_RELOAD and MIRROR_REFRESH (R175, R222): the reload reads every tile-held register of a powered tile, and LINK_UP and
MIRROR_VALID are then 1; a refresh carries the protection registers of every channel to the mirrors while the link is up, with
REGULATING of an open regulating window as it is then (R206); an
unpowered tile, or a link that is down, leaves the mirrors. CHANNEL_ON, CHANNEL_OFF and CHANNEL_CLEAR (R190, R216): accepted, ON and OFF set the channel's level in the image and end with
DONE; CLEAR queues PROT_CLR with all four bits and leaves the channel BUSY; where the writer or the Leash does not allow the
command, and for ON where the channel is not enabled or latched, they end with REFUSED; on a busy channel with BUSY. -/
def Obligations.MirrorsAndChannelCommands : Prop :=
  (∀ (s : State) (k : Fin 8),
     let t := k.val
     ((s.tile t).powered = true → (s.tile t).starting = false →
       Leads (.mirrorReload k) s fun u =>
         u.linkUp t = true ∧ u.mirrorValid t = true ∧
         u.rd (mt t Reg.Tile.LEASH_STAT) = s.rd (tt t Reg.Tile.LEASH_STAT) ∧
         u.rd (mt t Reg.Tile.STAY_TIME_ACT) = s.rd (tt t Reg.Tile.STAY_TIME_ACT) ∧
         ∀ c < 16, ∀ o ∈ chanHeld, o ≠ Reg.Chan.CH_POL_ACT → u.rd (mc (16 * t + c) o) = s.rd (tk (16 * t + c) o)) ∧
     ((s.tile t).powered = false → Leads (.mirrorReload k) s fun u => u = s) ∧
     (s.linkUp t = true → (s.tile t).powered = true → (s.tile t).starting = false →
       Leads (.mirrorRefresh k) s fun u =>
         u.rd (mt t Reg.Tile.SUPPLY_I) = word (s.supplyMean t % 2 ^ 16) ∧ u.rd (mt t Reg.Tile.LH_STATE) = word (s.tile t).lh ∧
         ∀ c < 16, ∀ o ∈ [Reg.Chan.PROT_STAT, Reg.Chan.DIAG_HIST, Reg.Chan.TRIP_CNT, Reg.Chan.RESTART_CNT],
           u.rd (mc (16 * t + c) o) = u.rd (tk (16 * t + c) o) ∧
             (o ≠ Reg.Chan.PROT_STAT ∨ s.regOpen (16 * t + c) = false →
               u.rd (tk (16 * t + c) o) = s.rd (tk (16 * t + c) o))) ∧
     (s.linkUp t = false → Leads (.mirrorRefresh k) s fun u => u = s)) ∧
  (∀ (s : State) (acc : Access) (n : Fin 128), Takes s acc (mc n.val Reg.Hdr.UNIT_CTRL) →
     let b := chanBase n.val
     let st := b + Reg.Hdr.UNIT_STAT
     let raw := b + Reg.Hdr.IRQ_RAW
     let ends (u : State) (r : CmdResult) : Prop :=
       u.resp = .ok ∧ u.fld st 7 3 = r.code ∧ u.bit raw 2 = true ∧ Keeps (fun k => k == st || k == raw) s u
     (s.busy b = false → s.chanRefused acc n.val = false → s.bit (mc n.val Reg.Chan.CH_CFG) 0 = true →
       s.mirLatched n.val = false → Leads (.channelOn acc n) s fun u =>
         u.level n.val = true ∧ u.fld st 7 3 = CmdResult.done.code ∧ u.bit raw 2 = true) ∧
     (s.busy b = false → s.chanRefused acc n.val = false → Leads (.channelOff acc n) s fun u =>
         u.level n.val = false ∧ u.fld st 7 3 = CmdResult.done.code ∧ u.bit raw 2 = true) ∧
     (s.busy b = false → s.chanRefused acc n.val = false → (s.tc (n.val / 16)).rwUsed < 32 →
       Leads (.channelClear acc n) s fun u => u.busy b = true ∧
         ∃ e ∈ (u.tc (n.val / 16)).rwQ ++ (u.tc (n.val / 16)).sent, e.why = .clear n.val ∧ e.req.type = 4 ∧
           e.req.unit = n.val % 16 ∧ regOff e.req.reg = Reg.Chan.PROT_CLR ∧ e.req.data = 0xF) ∧
     (s.busy b = false → s.chanRefused acc n.val = true ∨ s.bit (mc n.val Reg.Chan.CH_CFG) 0 = false ∨
       s.mirLatched n.val = true → Leads (.channelOn acc n) s (ends · .refused)) ∧
     (s.busy b = false → s.chanRefused acc n.val = true →
       Leads (.channelOff acc n) s (ends · .refused) ∧ Leads (.channelClear acc n) s (ends · .refused)) ∧
     (s.busy b = true → Leads (.channelOn acc n) s (ends · .busy) ∧ Leads (.channelOff acc n) s (ends · .busy) ∧
       Leads (.channelClear acc n) s (ends · .busy)))

/-- A side-band write to a tile-held field of a channel (R44): one that passes R43 is forwarded to the tile, where the Leash refuses
it, and ends with NOT_CLAIMED; one that does not pass R43 is not forwarded and ends with OWNER_ACTIVE. Both count in
SB_REFUSE_CNT, and the field keeps its value. -/
def Obligations.TileHeldSideBandWrites : Prop :=
  ∀ (s : State) (acc : Access) (n : Fin 128) (r : Fin 7) (v : Word), acc.master = .shep →
    let k := mc n.val (rwtOffs.getD r.val 0)
    let cnt := sysBase + Reg.Sys.SB_REFUSE_CNT
    let ends (t : State) (code : Nat) : Prop := t.resp = .code code ∧ t.rdN cnt = min 0xFFFFFFFF (s.rdN cnt + 1) ∧ t.rd k = s.rd k
    (Takes s acc k → Leads (.rwtWrite acc n r v) s (ends · 6)) ∧
    (s.judge acc true 4 k = .refuse 2 → Leads (.rwtWrite acc n r v) s fun t =>
      ends t 2 ∧ t.tcs = s.tcs ∧ t.tiles = s.tiles ∧ Keeps (· == cnt) s t)

/-! ## Channel protection -/

/-- FAST_TRIP and DIGITAL_TRIP (R158, R202 to R206, R211, R217): a conducting channel whose current lies above the threshold and
its tolerance latches OC_LATCH, stops conducting, has a restart pending with its retry timer running, counts the trip, and
keeps the cause and whether the output was below 30 % of the feed; a current below the threshold and its tolerance, an idle
channel, and a regulating inrush window for the digital stage, change nothing. A channel that stopped conducting at the same
tile clock edge still trips, and of the trips of one edge the cause of highest priority stands (R215). -/
def Obligations.OvercurrentTrips : Prop :=
  ∀ (s : State) (n : Fin 128) (ma out : Nat),
    let c := n.val
    let nom := chanInom c * 100
    let lim := nom * s.fld (tk c Reg.Chan.OC_CFG) (if (s.chan c).inrush then 8 else 0) 8 / 100
    let tol := lim * 2 / 100 + nom / 100
    let old := s.fld (tk c Reg.Chan.PROT_STAT) 12 3
    let tripped (u : State) (cause : Nat) : Prop :=
      u.ocLatch c = true ∧ u.restartPend c = true ∧ (u.chan c).timer = true ∧ (u.chan c).conducts = false ∧
      u.fld (tk c Reg.Chan.PROT_STAT) 12 3 = (if s.tripsNow c ∧ causeRank old < causeRank cause then old else cause) ∧
      u.fld (tk c Reg.Chan.TRIP_CNT) 0 16 = min 0xFFFF (s.fld (tk c Reg.Chan.TRIP_CNT) 0 16 + 1) ∧
      u.bit (tk c Reg.Chan.PROT_STAT) 15 = decide (out * 100 < (s.tile (c / 16)).feed * 30)
    (s.trips c = false → Leads (.fastTrip n ma out) s fun u => u = s) ∧
    (s.trips c = true → ma + 2 * nom * 15 / 100 < 2 * nom → Leads (.fastTrip n ma out) s fun u => u = s) ∧
    (s.trips c = true → 2 * nom + 2 * nom * 15 / 100 ≤ ma → s.reaction 32 ≤ 1 →
      Leads (.fastTrip n ma out) s (tripped · 1)) ∧
    (s.trips c = false ∨ (s.chan c).inrush = true ∧ s.bit (tk c Reg.Chan.OC_CFG) 29 = true →
      Leads (.digitalTrip n ma out) s fun u => u = s) ∧
    (s.trips c = true → (s.chan c).inrush = false ∨ s.bit (tk c Reg.Chan.OC_CFG) 29 = false →
      (ma + tol < lim → Leads (.digitalTrip n ma out) s fun u => u = s) ∧
      (lim + tol ≤ ma → s.reaction 32 ≤ 1 →
        Leads (.digitalTrip n ma out) s (tripped · (if (s.chan c).inrush then 3 else 2))))

/-- THERMAL_LATCH, JUNCTION_THRESHOLD and INRUSH_WINDOW_CLOSE (R205, R206, R208): with the sensor's ±5 °C, 180 °C latches a
powered channel and counts the trip, below 170 °C nothing latches; HOT and TH_WARN follow the junction where the sensor leaves
no doubt; the window closes. -/
def Obligations.ThermalAndInrush : Prop :=
  ∀ (s : State) (n : Fin 128) (x : Int),
    let c := n.val
    let pw := (s.tile (c / 16)).powered
    (pw = true → 1800 ≤ x → s.reaction 32 ≤ 1 → Leads (.thermalLatch n x) s fun u =>
      u.thLatch c = true ∧ u.hot c = true ∧ u.restartPend c = true ∧ (u.chan c).timer = true ∧
      (u.chan c).conducts = false ∧ u.fld (tk c Reg.Chan.PROT_STAT) 12 3 = 4 ∧
      u.fld (tk c Reg.Chan.TRIP_CNT) 16 16 = min 0xFFFF (s.fld (tk c Reg.Chan.TRIP_CNT) 16 16 + 1)) ∧
    (x < 1700 ∨ pw = false → Leads (.thermalLatch n x) s fun u => u.regs = s.regs ∧ u.chans = s.chans) ∧
    (pw = true → s.reaction 32 ≤ 1 →
      (1550 ≤ x → Leads (.junctionThreshold n x) s fun u => u.hot c = true ∧ u.thLatch c = s.thLatch c) ∧
      (x < 1450 → Leads (.junctionThreshold n x) s fun u => u.hot c = false ∧ u.thLatch c = s.thLatch c) ∧
      (s.warnTemp c + 50 ≤ x → Leads (.junctionThreshold n x) s fun u => u.bit (tk c Reg.Chan.PROT_STAT) 16 = true) ∧
      (x < s.warnTemp c - 100 → Leads (.junctionThreshold n x) s fun u => u.bit (tk c Reg.Chan.PROT_STAT) 16 = false)) ∧
    (pw = false → Leads (.junctionThreshold n x) s fun u => u.regs = s.regs ∧ u.chans = s.chans) ∧
    ((s.chan c).conducts = true → s.reaction 32 ≤ 1 → Leads (.inrushWindowClose n) s fun u =>
      (u.chan c).inrush = false ∧ u.bit (tk c Reg.Chan.PROT_STAT) 21 = false)

/-- The restart rule and CLEAN_TIME (R211, R212): the retry timer's expiry restarts a channel without a thermal latch while
RETRY_LEFT lasts, taking one and counting the restart, locks it out at 0, and defers the restart where the thermal latch
stands; a clean time restores RETRY_LEFT from RETRY_CFG. Conduction follows R158. -/
def Obligations.Restarts : Prop :=
  ∀ (s : State) (n : Fin 128),
    let c := n.val
    (s.reaction 32 ≤ 1 → (s.chan c).timer = true → s.restartPend c = true →
      (s.thLatch c = false → s.retryLeft c ≠ 0 → Leads (.retryTimerExpiry n) s fun u =>
        u.ocLatch c = false ∧ u.restartPend c = false ∧ u.retryLeft c = s.retryLeft c - 1 ∧
        u.lockout c = s.lockout c ∧ (u.chan c).clean = true ∧ (u.chan c).conducts = u.mayConduct c ∧
        u.fld (tk c Reg.Chan.RESTART_CNT) 0 16 = min 0xFFFF (s.fld (tk c Reg.Chan.RESTART_CNT) 0 16 + 1)) ∧
      (s.thLatch c = false → s.retryLeft c = 0 → Leads (.retryTimerExpiry n) s fun u =>
        u.lockout c = true ∧ u.restartPend c = false ∧ (u.chan c).conducts = false ∧
        u.fld (tk c Reg.Chan.PROT_STAT) 0 3 = 5) ∧
      (s.thLatch c = true → (s.chan c).deferred = false → Leads (.retryTimerExpiry n) s fun u =>
        u.restartPend c = true ∧ (u.chan c).deferred = true ∧ u.retryLeft c = s.retryLeft c ∧
        u.fld (tk c Reg.Chan.RESTART_CNT) 16 16 = min 0xFFFF (s.fld (tk c Reg.Chan.RESTART_CNT) 16 16 + 1))) ∧
    ((s.chan c).timer = false → Leads (.retryTimerExpiry n) s fun u => u = s) ∧
    (s.reaction 32 ≤ 1 → (s.chan c).clean = true → s.fld (tk c Reg.Chan.RETRY_CFG) 16 8 ≠ 0 →
      Leads (.cleanTimeExpiry n) s fun u =>
        u.retryLeft c = s.fld (tk c Reg.Chan.RETRY_CFG) 0 4 ∧ (u.chan c).clean = false) ∧
    ((s.chan c).clean = false ∨ s.fld (tk c Reg.Chan.RETRY_CFG) 16 8 = 0 → Leads (.cleanTimeExpiry n) s fun u => u = s)

/-- PROT_CLR (R213): TH clears the thermal latch, or is denied while HOT; OC clears OC_LATCH, and the pending restart where no
thermal latch stands; RETRY ends the lockout with RETRY_LEFT from RETRY_CFG; DIAG clears the diagnostic history and the trip
cause. An UNCLAIMED or unpowered tile acts on none of them. -/
def Obligations.ProtectionClear : Prop :=
  ∀ (s : State) (n : Fin 128),
    let c := n.val
    let dh := tk c Reg.Chan.DIAG_HIST
    let ps := tk c Reg.Chan.PROT_STAT
    (s.clrOpen c = true → s.reaction 32 ≤ 1 →
      (s.hot c = true → Leads (.protClrTh n) s fun u => u.thLatch c = s.thLatch c ∧ u.bit ps 7 = true) ∧
      (s.hot c = false → Leads (.protClrTh n) s fun u => u.thLatch c = false) ∧
      Leads (.protClrOc n) s (fun u => u.ocLatch c = false ∧
        (s.thLatch c = false → u.restartPend c = false) ∧ (u.chan c).conducts = u.mayConduct c) ∧
      Leads (.protClrRetry n) s (fun u => u.lockout c = false ∧ u.ocLatch c = false ∧ u.restartPend c = false ∧
        u.retryLeft c = s.fld (tk c Reg.Chan.RETRY_CFG) 0 4 ∧ (u.chan c).conducts = u.mayConduct c) ∧
      Leads (.protClrDiag n) s (fun u => u.fld dh 0 8 = 0 ∧ u.fld ps 12 3 = 0 ∧ u.bit ps 7 = false)) ∧
    (s.clrOpen c = false → ∀ i ∈ [Instr.protClrTh n, .protClrOc n, .protClrRetry n, .protClrDiag n],
      Leads i s fun u => u = s)

/-- Load diagnostics (R217, R218): OL_ON and REV follow a measured current where the tolerances leave no doubt, with their
history, on a conducting channel that enables them; an off-state sequence begins on an eligible channel, its first phase ends
with SHORT_BAT or goes on to the second, which decides OL_OFF and clears SHORT_BAT. -/
def Obligations.Diagnostics : Prop :=
  ∀ (s : State) (n : Fin 128) (x : Nat),
    let c := n.val
    let ps := tk c Reg.Chan.PROT_STAT
    let dh := tk c Reg.Chan.DIAG_HIST
    let nom := chanInom c * 100
    let lim := max 1 (s.fld (tk c Reg.Chan.DIAG_CFG) 8 8) * nom
    let on := (s.chan c).conducts = true
    ((s.chan c).conducts = false ∨ (s.chan c).inrush = true ∨ s.bit (tk c Reg.Chan.DIAG_CFG) 0 = false →
      Leads (.olOnDetect n x) s fun u => u = s) ∧
    (on → (s.chan c).inrush = false → s.bit (tk c Reg.Chan.DIAG_CFG) 0 = true → s.reaction 32 ≤ 1 →
      (x + (lim / 10 + nom / 2) < lim → Leads (.olOnDetect n x) s fun u => u.bit ps 17 = true ∧ u.bit dh 0 = true) ∧
      (lim + (lim / 10 + nom / 2) ≤ x → Leads (.olOnDetect n x) s fun u => u.bit ps 17 = false)) ∧
    ((s.chan c).conducts = false ∨ s.bit (tk c Reg.Chan.DIAG_CFG) 2 = false → Leads (.revDetect n x) s fun u => u = s) ∧
    (on → s.bit (tk c Reg.Chan.DIAG_CFG) 2 = true → s.reaction 32 ≤ 1 →
      (nom * 2 < x * 100 → Leads (.revDetect n x) s fun u => u.bit ps 20 = true ∧ u.bit dh 3 = true) ∧
      (x * 100 < nom * 2 → Leads (.revDetect n x) s fun u => u.bit ps 20 = false)) ∧
    (s.diagEligible c = true → (s.chan c).diag = 0 → Leads (.offDiagStart n) s fun u =>
      (u.chan c).diag = 1 ∧ u.regs = s.regs) ∧
    (s.diagEligible c = false → Leads (.offDiagStart n) s fun u => u = s) ∧
    ((s.chan c).diag = 1 → s.reaction 32 ≤ 1 →
      ((s.tile (c / 16)).feed + 300 ≤ x + 2000 → Leads (.offDiagPhase1End n x) s fun u =>
        u.bit ps 19 = true ∧ u.bit dh 2 = true ∧ (u.chan c).diag = 0) ∧
      (x + 2000 + 300 < (s.tile (c / 16)).feed → Leads (.offDiagPhase1End n x) s fun u =>
        (u.chan c).diag = 2 ∧ u.regs = s.regs)) ∧
    ((s.chan c).diag ≠ 1 → Leads (.offDiagPhase1End n x) s fun u => u = s) ∧
    ((s.chan c).diag = 2 → s.reaction 32 ≤ 1 →
      (4300 ≤ x → Leads (.offDiagPhase2End n x) s fun u =>
        u.bit ps 18 = true ∧ u.bit dh 1 = true ∧ u.bit ps 19 = false ∧ (u.chan c).diag = 0) ∧
      (x + 300 < 4000 → Leads (.offDiagPhase2End n x) s fun u =>
        u.bit ps 18 = false ∧ u.bit ps 19 = false ∧ (u.chan c).diag = 0)) ∧
    ((s.chan c).diag ≠ 2 → Leads (.offDiagPhase2End n x) s fun u => u = s)

/-! ## Sense unit -/

/-- Conversions (R232 to R241): the next hold whose instant has come is taken, sets the pointer for a current and fixes the
range by R238; the result, from 450 ns after the hold on, counts, writes its destination and raises CONV_NEW: a current is calibrated to within the rounding
of R239 with its instant and flags, the other codes are decoded by R241. A software request of a defined code gets a hold of
its own at least 400 ns on and 500 ns from every other; a scan due begins with its first wanted quantity, or is dropped where one
or a capture runs, and the next is due BG_INT later. -/
def Obligations.Conversions : Prop :=
  ∀ (s : State) (n : Fin 8),
    let k := n.val
    let a := s.adc k
    let st := sadcReg k Reg.Sadc.SADC_STAT
    let now := s.tb0.nsTotal
    (∀ pre, s.domainOn 11 = false ∨ a.conv.isSome = true ∨
        s.capState k ≠ 2 ∧ s.bit st 6 = false ∧ (∀ h ∈ a.holds, now < h.t) →
      Leads (.conversionHold n pre) s fun t => t = s) ∧
    (∀ pre h rest, s.domainOn 11 = true → a.conv = none → s.capState k ≠ 2 → a.holds = h :: rest → h.t ≤ now →
      s.bit st 6 = false → h.sel < 16 →
      Leads (.conversionHold n pre) s fun t =>
        (t.adc k).holds = rest ∧ (t.adc k).last = some h.t ∧ t.fld st 0 4 = h.sel ∧ (t.tile k).ptr = h.sel ∧ SameBut (· == st) s t ∧
        ∃ c, (t.adc k).conv = some c ∧ c.hold = h ∧ c.cap = false ∧ c.chan = 16 * k + h.sel ∧
          let m := s.fld (chanBase (16 * k + h.sel) + Reg.Chan.MEAS_CFG) 0 2
          (m = 1 → c.range = 0) ∧ (m = 2 → c.range = 1) ∧ (m = 0 → pre + 400 < 38400 → c.range = 0) ∧
          (m = 0 → 38800 ≤ pre → c.range = 1)) ∧
    (∀ code, (∀ c, a.conv = some c → c.hold.t ≤ now ∧ now < c.hold.t + 450) →
      Leads (.conversionResult n code) s fun t => t = s) ∧
    (∀ (code : Fin 65536) c, a.conv = some c → s.convReady c = true → c.cap = true → Leads (.conversionResult n code) s fun t =>
      (t.adc k).samples = a.samples ++ [⟨code.val, c.range⟩] ∧ (t.adc k).conv = none ∧
      Touches (fun j => j == sadcReg k Reg.Sadc.CONV_CNT || j == sadcReg k Reg.Sadc.CAP_STAT) s t) ∧
    (∀ (code : Fin 65536) c, a.conv = some c → s.convReady c = true → c.cap = false → c.chan < 128 →
      let b := chanBase c.chan
      let raw := b + Reg.Chan.MEAS_RAW
      let clip := decide (code = 65535)
      let cnt := sadcReg k Reg.Sadc.CONV_CNT
      let only (t : State) (p : Nat → Bool) : Prop := Touches (fun j => j == cnt || p j) s t
      let up (j : Nat) : Bool := (s.above c.chan).any (fun l => decide (compBase l ≤ j ∧ j < compBase l + 0x1000))
      (c.hold.sel < 16 → c.range ≤ 1 → c.hold.origin ≤ 2 → Leads (.conversionResult n code) s fun t =>
        (t.adc k).conv = none ∧
        t.rdN cnt = min 0xFFFFFFFF (s.rdN cnt + 1) ∧ only t (fun j => up j || decide (b ≤ j ∧ j < b + 0x1000)) ∧
        (t.rdI (b + Reg.Chan.I_SUM) * calDen - s.calNum c.chan c.range code.val (tjOf (s.rd (b + Reg.Chan.TJ)))).natAbs
          ≤ calDen ∧
        t.fld raw 0 16 = code.val ∧ t.fld raw 16 1 = c.range ∧ t.bit raw 17 = clip ∧
        t.bit raw 18 = decide (c.hold.slip ≠ 0) ∧ t.bit raw 19 = !bitOf (s.rd (b + Reg.Chan.TJ)) 31 ∧
        t.fld raw 20 2 = c.hold.origin ∧ t.rd (b + Reg.Chan.MEAS_TS_LO) = (atNs c.hold.t).tsLo ∧
        t.rd (b + Reg.Chan.MEAS_TS_HI) = (atNs c.hold.t).tsHi ∧ t.bit (b + Reg.Hdr.IRQ_RAW) 26 = true ∧
        (clip = true → t.bit (b + Reg.Hdr.IRQ_RAW) 27 = true ∧
          t.rdN (b + Reg.Chan.CLIP_CNT) = min 0xFFFFFFFF (s.rdN (b + Reg.Chan.CLIP_CNT) + 1))) ∧
      (c.hold.sel = 0x10 → Leads (.conversionResult n code) s fun t =>
        (t.rdI (b + Reg.Chan.VOUT) * 4 - ((code.val : Int) - 8192) * 5).natAbs < 4 ∧
        only t (fun j => j == b + Reg.Chan.VOUT || j == b + Reg.Chan.WIRE_R || j == b + Reg.Hdr.IRQ_RAW)) ∧
      (c.hold.sel = 0x11 → code.val < 49152 → Leads (.conversionResult n code) s fun t =>
        t.bit (b + Reg.Chan.TJ) 31 = true ∧ signedOf 16 (t.fld (b + Reg.Chan.TJ) 0 16) = (code.val : Int) - 16384 ∧
        only t (· == b + Reg.Chan.TJ)) ∧
      (c.hold.sel = 0x12 → Leads (.conversionResult n code) s fun t =>
        (t.rdI (tileBase k + Reg.Tile.VFEED) * 4 - ((code.val : Int) - 8192) * 5).natAbs < 4 ∧
        only t (· == tileBase k + Reg.Tile.VFEED)) ∧
      (c.hold.sel = 0x13 → code.val < 49152 → Leads (.conversionResult n code) s fun t =>
        signedOf 16 (t.fld (tileBase k + Reg.Tile.TTILE) 0 16) = (code.val : Int) - 16384 ∧
        only t (· == tileBase k + Reg.Tile.TTILE)) ∧
      (c.hold.sel = 0x14 → Leads (.conversionResult n code) s fun t =>
        t.rdN (sadcReg k Reg.Sadc.SELF_ZERO) = code.val ∧ only t (· == sadcReg k Reg.Sadc.SELF_ZERO)) ∧
      (c.hold.sel = 0x15 → Leads (.conversionResult n code) s fun t =>
        t.rdN (sadcReg k Reg.Sadc.SELF_REF) = code.val ∧ only t (· == sadcReg k Reg.Sadc.SELF_REF))) ∧
    (∀ acc v, Takes s acc (sadcReg k Reg.Sadc.SW_CONV) →
      (bitOf v 8 = false ∨ 0x17 ≤ bitsOf v 0 5 → Leads (.swConv acc n v) s fun t =>
        t.resp = .ok ∧ Keeps (fun _ => false) s t) ∧
      (bitOf v 8 = true → bitsOf v 0 5 < 0x17 → s.capState k ≠ 2 → Leads (.swConv acc n v) s fun t =>
        t.resp = .ok ∧ (∀ h ∈ a.holds, h ∈ (t.adc k).holds) ∧ Keeps (fun _ => false) { s with
                                                                                         adcs := t.adcs } t ∧
        ∃ h ∈ (t.adc k).holds, h.sel = bitsOf v 0 5 ∧ h.origin = 2 ∧ now + 400 ≤ h.t ∧
          ∀ g ∈ a.holds, g.t + 500 ≤ h.t ∨ h.t + 500 ≤ g.t)) ∧
    (s.bit (sadcReg k Reg.Sadc.SADC_CFG) 0 = false ∨ s.time.tbf.nsTotal < a.bgDue ∨ s.domainOn 11 = false →
      Leads (.bgScanStart n) s fun t => t = s) ∧
    (s.bit (sadcReg k Reg.Sadc.SADC_CFG) 0 = true → a.bgDue ≤ s.time.tbf.nsTotal → s.domainOn 11 = true →
      (s.bit st 6 = true ∨ s.capState k = 2 → Leads (.bgScanStart n) s fun t =>
        s.time.tbf.nsTotal < (t.adc k).bgDue ∧ (t.adc k).holds = a.holds ∧ (t.adc k).bg = a.bg ∧ t.regs = s.regs) ∧
      (s.bit st 6 = false → s.capState k ≠ 2 → a.holds = [] → s.placed = [] →
        s.bit (chanBase (16 * k) + Reg.Chan.MEAS_CFG) 2 = true → Leads (.bgScanStart n) s fun t =>
          s.time.tbf.nsTotal < (t.adc k).bgDue ∧ t.bit st 6 = true ∧ SameBut (· == st) s t ∧ (t.adc k).holds.length = 1 ∧
          ∃ h ∈ (t.adc k).holds, h.sel = 0 ∧ h.origin = 1 ∧ h.chan = some (16 * k) ∧ now + 400 ≤ h.t ∧
            ∀ l, a.last = some l → l + 500 ≤ h.t))

/-- Inrush captures and the feed monitor (R243 to R246, R252, R253): ARM arms a capture of its channel, or starts it 400 ns
on with TRIG IMMEDIATE (while CKG5 is gated it stays armed, R317), and does nothing while one is armed or runs; ABORT ends one without features; the last sample's
features end in DONE with SIG_HINT.VALID and CAP_DONE; CAP_DATA answers the sample CAP_PTR names and the main bus advances
it. A feed sample, at an instant of TB0 whose NS is a multiple of 100,000, is entered with its minima and maxima, which FMON_CLR lets start afresh, and raises FEED_UV where the feed
falls below FMON_UV. -/
def Obligations.CapturesAndFeeds : Prop :=
  (∀ (s : State) (acc : Access) (n : Fin 8) (v : Word),
    let k := n.val
    let a := s.adc k
    let st := sadcReg k Reg.Sadc.CAP_STAT
    let busy := s.capState k = 1 ∨ s.capState k = 2
    (Takes s acc (sadcReg k Reg.Sadc.CAP_CTRL) →
      (busy → bitOf v 9 = false → Leads (.capArm acc n v) s fun t => t.resp = .ok ∧ Keeps (fun _ => false) s t) ∧
      (¬busy → bitOf v 8 = true → bitOf v 4 = false → Leads (.capArm acc n v) s fun t =>
        t.capState k = 1 ∧ t.fld st 4 4 = bitsOf v 0 4 ∧ t.fld st 16 13 = 0 ∧ (t.adc k).samples = [] ∧
        (t.adc k).holds = a.holds ∧ SameBut (· == st) s t) ∧
      (¬busy → bitOf v 8 = true → bitOf v 4 = true → s.gated 5 = true → Leads (.capArm acc n v) s fun t =>
        t.capState k = 1 ∧ (t.adc k).capImm = true ∧ (t.adc k).holds = a.holds ∧ SameBut (· == st) s t) ∧
      (¬busy → bitOf v 8 = true → bitOf v 4 = true → s.gated 5 = false → Leads (.capArm acc n v) s fun t =>
        t.capState k = 2 ∧ t.fld st 4 4 = bitsOf v 0 4 ∧ (t.adc k).samples = [] ∧ s.tb0.nsTotal + 400 ≤ (t.adc k).t0 ∧
        (a.last = none → (t.adc k).t0 = s.tb0.nsTotal + 400) ∧ (∀ l, a.last = some l → l + 500 ≤ (t.adc k).t0) ∧
        t.rd (sadcReg k Reg.Sadc.CAP_TS_LO) = (atNs (t.adc k).t0).tsLo ∧
        ((∀ h ∈ a.holds, h.origin ≠ 0) → SameBut (fun j => decide (sadcReg k 0 ≤ j ∧ j < sadcReg k 0x1000)) s t)) ∧
      (busy → bitOf v 9 = true → bitOf v 8 = false → Leads (.capAbort acc n v) s fun t =>
        t.capState k = 0 ∧ t.bit st 2 = true ∧
        SameBut (fun j => j == st || j == sadcReg k Reg.Sadc.SADC_STAT) s t) ∧
      (¬busy → bitOf v 8 = false → Leads (.capAbort acc n v) s fun t => t.resp = .ok ∧ Keeps (fun _ => false) s t)) ∧
    (s.capState k = 2 → a.samples.length = 4096 → s.gated 5 = false → Leads (.capDone n) s fun t =>
      t.capState k = 3 ∧ t.bit (sadcReg k Reg.Sadc.SIG_HINT) 31 = true ∧
      t.bit (sadcBase 0 + Reg.Hdr.IRQ_RAW) (16 + k) = true ∧
      Touches (fun j => decide (sadcReg k 0 ≤ j ∧ j < sadcReg k 0x1000) || j == sadcBase 0 + Reg.Hdr.IRQ_RAW) s t) ∧
    (s.capState k ≠ 2 ∨ a.samples.length ≠ 4096 ∨ s.gated 5 = true → Leads (.capDone n) s fun t => t = s) ∧
    (∀ x, Shows s acc (sadcReg k Reg.Sadc.CAP_DATA) → a.samples[s.fld (sadcReg k Reg.Sadc.CAP_PTR) 0 12]? = some x →
      x.code < 65536 → x.range ≤ 1 → Leads (.capDataRead acc n) s fun t =>
        t.resp = .data (word (x.code + x.range * 2 ^ 16 + (if x.code = 65535 then 2 ^ 17 else 0))) ∧
        t.fld (sadcReg k Reg.Sadc.CAP_PTR) 0 12 =
          (s.fld (sadcReg k Reg.Sadc.CAP_PTR) 0 12 + (if acc.master = .shep then 0 else 1)) % 4096 ∧
        Keeps (· == sadcReg k Reg.Sadc.CAP_PTR) s t)) ∧
  (∀ (s : State) (va vb : Int), s.domainOn 11 = true → s.fmonDue = true → -10000 ≤ va → va ≤ 70000 → -10000 ≤ vb → vb ≤ 70000 →
    let i (u : State) (off : Nat) : Int := u.rdI (fmonReg off)
    let uv : Int := (s.fld (fmonReg Reg.Sadc.FMON_UV) 0 16 : Nat)
    let irq := sadcBase 0 + Reg.Hdr.IRQ_RAW
    Leads (.fmonSample va vb) s fun t =>
      i t Reg.Sadc.FMON_A = va ∧ i t Reg.Sadc.FMON_B = vb ∧
      i t Reg.Sadc.FMON_A_MIN = (if s.fmonClrA then va else min (i s Reg.Sadc.FMON_A_MIN) va) ∧
      i t Reg.Sadc.FMON_A_MAX = (if s.fmonClrA then va else max (i s Reg.Sadc.FMON_A_MAX) va) ∧
      i t Reg.Sadc.FMON_B_MIN = (if s.fmonClrB then vb else min (i s Reg.Sadc.FMON_B_MIN) vb) ∧
      i t Reg.Sadc.FMON_B_MAX = (if s.fmonClrB then vb else max (i s Reg.Sadc.FMON_B_MAX) vb) ∧
      t.fmonClrA = false ∧ t.fmonClrB = false ∧
      SameBut (fun k => decide (fmonReg Reg.Sadc.FMON_A ≤ k ∧ k ≤ fmonReg Reg.Sadc.FMON_B_MAX) || k == irq) s t ∧
      (∀ p, s.fmonPrev = some p →
        t.bit irq 24 = (s.bit irq 24 || decide (uv ≠ 0 ∧ va < uv ∧ uv ≤ p.1)) ∧
        t.bit irq 25 = (s.bit irq 25 || decide (uv ≠ 0 ∧ vb < uv ∧ uv ≤ p.2)))) ∧
  (∀ (s : State) (va vb : Int), s.domainOn 11 = false ∨ s.fmonDue = false → Leads (.fmonSample va vb) s fun t => t = s) ∧
  (∀ (s : State) (acc : Access) (v : Word), Takes s acc (fmonReg Reg.Sadc.FMON_CLR) →
    Leads (.fmonClr acc v) s fun t =>
      t.resp = .ok ∧ t.fmonClrA = (s.fmonClrA || bitOf v 0) ∧ t.fmonClrB = (s.fmonClrB || bitOf v 1) ∧
      Keeps (fun _ => false) { s with
                               fmonClrA := t.fmonClrA
                               fmonClrB := t.fmonClrB } t)

/-- Membership (R247, R248, R55): a write of MEMB_CTRL waits for the next cycle, in which the oldest is checked: one that the
table of R247 refuses ends with the code of its first failing check (OP, ownership, BUSY, not a member, already held, a loop, too
deep) and MEMB_DONE, and the membership stays; one that passes takes effect: the bitmap, the member's GROUP or PARENT, the count,
both GENs, RESULT DONE and MEMB_DONE. -/
def Obligations.Membership : Prop :=
  (∀ (s : State) (acc : Access) (n : Fin 64) (m : Fin 4096), Takes s acc (cgBase n.val + Reg.Cg.MEMB_CTRL) →
    ∀ c op, (c, op) ∈ [(.membAdd acc n m, 1), (.membRemove acc n m, 2)] → Leads c s fun t =>
      t.resp = .ok ∧ t.membReqs = s.membReqs ++ [⟨n.val, m.val, op, s.asSent acc⟩] ∧ SameBut (fun _ => false) s t) ∧
  (∀ s : State, s.membReqs = [] → Leads .membApply s fun t => t = s) ∧
  (∀ (s : State) (q : MembReq) (rest : List MembReq), s.membReqs = q :: rest → q.group < 64 →
    let g := q.group
    let m := q.member
    let b := cgBase g
    let st := b + Reg.Cg.MEMB_STAT
    let raw := b + Reg.Hdr.IRQ_RAW
    let fails (r : Nat) : Prop := Leads .membApply s fun t =>
      t.fld st 28 4 = r ∧ t.bit raw 17 = true ∧ Keeps (fun k => k == st || k == raw) { s with
                                                                                     membReqs := rest } t
    let ups := s.groupChain 6 (some g)
    let isCh : Prop := 0x100 ≤ m ∧ m < 0x180
    let isGrp : Prop := 0xC0 ≤ m ∧ m < 0x100
    let fits : Prop := (q.op = 1 ∨ q.op = 2) ∧ (isCh ∨ isGrp ∧ m ≠ 0xC0 + g)
    let busy : Prop := (∃ x ∈ ups, s.busy (cgBase x) = true) ∨ isGrp ∧ s.busy (compBase m) = true
    let loop : Prop := isGrp ∧ m - 0xC0 ∈ ups
    let deep : Prop := isGrp ∧ ∃ p ∈ ups.zipIdx, 6 < max (s.grpLevel p.1) (s.grpLevel (m - 0xC0) + 1 + p.2)
    (¬fits → fails 2) ∧
    (fits → s.r34 q.acc (compBase m) = false → fails 3) ∧
    (fits → s.r34 q.acc (compBase m) = true → busy → fails 4) ∧
    (fits → s.r34 q.acc (compBase m) = true → ¬busy →
      (q.op = 2 → s.isMember g m = false → fails 5) ∧
      (q.op = 1 → (s.holderOf m).isSome = true → fails 6) ∧
      (q.op = 1 → s.holderOf m = none → loop → fails 7) ∧
      (q.op = 1 → s.holderOf m = none → ¬loop → deep → fails 8) ∧
      (q.op = 2 ∧ s.isMember g m = true ∨ q.op = 1 ∧ s.holderOf m = none ∧ ¬loop ∧ ¬deep → Leads .membApply s fun t =>
        t.membReqs = rest ∧ t.isMember g m = decide (q.op = 1) ∧ t.fld st 28 4 = 1 ∧ t.bit raw 17 = true ∧
        t.rd (if isCh then chanBase (m - 0x100) + Reg.Chan.GROUP else cgBase (m - 0xC0) + Reg.Cg.PARENT) =
          (if q.op = 1 then word (g + 2 ^ 31) else 0) ∧
        (∀ k ∈ [compBase m, b], t.gen k = (if s.gen k = 0xFFFF then 1 else s.gen k + 1)) ∧
        (q.op = 1 → isCh → s.fld st 0 8 < 128 → t.fld st 0 8 = s.fld st 0 8 + 1))))

/-! ## Fail-operational halves -/

/-- The input distributor and the barks (R264, R265, R267, R271 to R277): the oldest item gets the next INSEQ and is due at
every half in step; its record is written once no frame with a lower number is still to reach the half, or is lost there,
counted, and costs a standby its role; BARK_FEED and an active half that its monitor has not stopped permit the bark on both
paths, the line and, as a Span frame of class BARK, the network, composed by R272; an invalid word is only counted; a valid one
restarts its path, a BARK is answered by an ECHO of the same SEQ, and a YIELD in it reaches the arbiter; a path is silent at its
third miss, and both silent paths are PEER_SILENT: a failure of the active half at the other, PEER_LOST at the active half. -/
def Obligations.InputsAndBarks : Prop :=
  (∀ s : State, s.distQ = [] → s.ringDue = [] → Leads .distItem s fun t => t = s) ∧
  (∀ (s : State) (x : DistItem) (rest : List DistItem) (h : Half), s.distQ = x :: rest → s.ringDue = [] →
    let seq := (s.inseq + 1) % 2 ^ 48
    let len := s.ringLen h
    let m := s.halfSt h
    let wr := lreg h Reg.Local.RING_WR
    let w := s.fld wr 0 16
    let full : Prop := (w + 1) % len = s.fld (lreg h Reg.Local.RING_RD) 0 16 % len
    let on := s.bit (lreg h Reg.Local.RING_CFG) 8
    let joined : Prop := s.role h ≠ roleOffline ∧ m.since < seq
    let early : Prop := ∃ n ∈ s.framesDue h ++ ((s.hostRx h).filter (fun (y : RxItem) => y.inseq != 0)).map (·.inseq), n ≤ seq
    let rec8 : List Word := [word seq,
      word ((x.flags + 4 * b2n (m.gap || m.gapRec)) * 2 ^ 24 + x.source * 2 ^ 16 + seq / 2 ^ 32), x.tsLo, x.tsHi, word x.id,
      x.w5, x.w6, x.w7]
    (Leads .distItem s fun t => t.distQ = rest ∧ t.inseq = seq) ∧
    (s.role h = roleOffline → Leads .distItem s fun t => t.rd wr = s.rd wr ∧ t.halfSt h = m) ∧
    (joined → early → Leads .distItem s fun t => t.rd wr = s.rd wr ∧ t.halfSt h = m ∧ (h, seq, x) ∈ t.ringDue) ∧
    (joined → ¬early → on = true → ¬full → Leads .distItem s fun t =>
      t.rdN wr = (w + 1) % len ∧ (t.halfSt h).gap = false ∧ (t.halfSt h).gapRec = false ∧
      Emit.memWrite h (s.rdN (lreg h Reg.Local.RING_BASE) + 32 * (w % len)) (rec8.flatMap octets) ∈ t.out ∧
      t.rd (lreg h Reg.Local.INSEQ_LO) = word seq ∧ t.rdN (lreg h Reg.Local.INSEQ_HI) = seq / 2 ^ 32 ∧ t.role h = s.role h) ∧
    (joined → ¬early → full ∨ on = false → Leads .distItem s fun t =>
      t.rdN (hreg h Reg.Half.INPUT_LOST_CNT) = min 0xFFFFFFFF (s.rdN (hreg h Reg.Half.INPUT_LOST_CNT) + 1) ∧
      (t.halfSt h).gapRec = true ∧ t.rd wr = s.rd wr ∧ t.bit (localBase h.idx + Reg.Hdr.IRQ_RAW) 17 = true ∧
      t.role h = if s.role h = roleActive then roleActive else roleOffline)) ∧
  (∀ (s : State) (acc : Access) (v : Word) (h : Half), acc.master = .half h →
    Takes s acc (0x40E00000 + Reg.Local.BARK_FEED) → Leads (.barkFeed acc v) s fun t =>
      t.resp = .ok ∧ (t.halfSt h).fed = some s.tbfNs ∧ (t.halfSt h.other).fed = (s.halfSt h.other).fed ∧
      SameBut (fun _ => false) s t) ∧
  (∀ s : State,
    let h := s.activeHalf
    let m := s.halfSt h
    (∀ f, m.fed = some f → s.role h = roleActive → m.stopped = false → s.tbfNs ≤ f + s.feedWin h →
      Leads .barkSend s fun t => ∃ y : Bool,
        let w (net : Bool) : Nat := s.barkWord h 1 (s.path h net).tx y
        Emit.bark h (w false) ∈ t.out ∧ Touches (fun _ => false) s t ∧
        t.hostTx h = s.hostTx h ++ (if s.domainOn 6 then
          [⟨bridgeVi, 0, [], s.spanFrame s.selfUnit 1 h.idx (bigEnd 8 (w true))⟩] else []) ∧
        ∀ net : Bool, (t.path h net).tx = ((s.path h net).tx + 1) % 65536 ∧
          ((s.path h net).tx < 65536 →
            let x := BitVec.ofNat 64 (w net)
            barkKind x = 1 ∧ barkSrc x = h.code2 ∧ barkRole x = roleActive ∧ barkGen x = s.gen sysBase ∧
            barkSeq x = (s.path h net).tx ∧ (w net).testBit 8 = y ∧ barkCrc (x.toNat % 2 ^ 56) = x.toNat / 2 ^ 56)) ∧
    (s.role h ≠ roleActive ∨ m.stopped = true ∨ m.fed = none ∨ (∀ f, m.fed = some f → f + s.feedWin h < s.tbfNs) →
      Leads .barkSend s fun t => t = s)) ∧
  (∀ (s : State) (h : Half) (net : Bool) (w : BitVec 64), ∀ i ∈ [Instr.barkReceive h net w, .echoReceive h net w],
    let p := s.path h net
    let back (t : State) : Prop :=
      (t.path h net).miss = 0 ∧ (t.path h net).last = some s.tbfNs ∧ (t.path h net).due = s.tbfNs + 110000 ∧
      (t.path h net).fault = false ∧ t.bit (hreg h Reg.Half.ROLE_STAT) 10 = false
    (s.barkValid h net w = false → Leads i s fun t =>
      t.rdN (hreg h Reg.Half.BARK_ERR_CNT) = min 0xFFFFFFFF (s.rdN (hreg h Reg.Half.BARK_ERR_CNT) + 1) ∧
      t.bit (halfBase h.idx + Reg.Hdr.IRQ_RAW) 25 = true ∧
      Keeps (fun k => k == hreg h Reg.Half.BARK_ERR_CNT || k == halfBase h.idx + Reg.Hdr.IRQ_RAW) s t) ∧
    (s.barkValid h net w = true → barkKind w = 1 → w.toNat.testBit 8 = false → Leads i s fun t =>
      let x := t.barkWord h 2 (barkSeq w) false
      back t ∧ (t.path h net).rxBark = some (barkSeq w) ∧ t.activeHalf = s.activeHalf ∧ t.yielded = s.yielded ∧
      (s.role h ≠ roleActive → s.running h = true →
        (net = false → Emit.bark h x ∈ t.out) ∧
        (net = true → s.domainOn 6 = true → t.hostTx h = s.hostTx h ++
          [⟨bridgeVi, 0, [], s.spanFrame s.selfUnit 1 h.idx (bigEnd 8 x)⟩]))) ∧
    (s.barkValid h net w = true → barkKind w = 1 → w.toNat.testBit 8 = true → Leads i s fun t =>
      (t.path h net).miss = 0 ∧ t.yielded = true) ∧
    (s.barkValid h net w = true → barkKind w = 2 → h = s.activeHalf → Leads i s fun t =>
      back t ∧ (t.path h net).rxEcho = some (barkSeq w)) ∧
    (s.barkValid h net w = true → barkKind w = 2 → h ≠ s.activeHalf → Leads i s fun t =>
      t.path h net = { p with rxEcho := some (barkSeq w) })) ∧
  (∀ (s : State) (h : Half) (net : Bool),
    let p := s.path h net
    let q := s.path h (!net)
    let seen := s.bit (hreg h Reg.Half.ROLE_STAT) 10
    (s.tbfNs < p.due → Leads (.barkMissTimer h net) s fun t => t = s) ∧
    (p.due ≤ s.tbfNs → Leads (.barkMissTimer h net) s fun t =>
      (t.path h net).miss = min (p.miss + 1) 3 ∧ (t.path h net).due = s.tbfNs + 100000 ∧ t.path h (!net) = { q with
        fault := (t.path h (!net)).fault }) ∧
    (p.due ≤ s.tbfNs → p.miss < 2 ∨ q.miss < 3 → Leads (.barkMissTimer h net) s fun t =>
      t.bit (hreg h Reg.Half.ROLE_STAT) 10 = false ∧ t.grant = s.grant) ∧
    (p.due ≤ s.tbfNs → p.miss = 2 → q.miss = 3 → seen = false → Leads (.barkMissTimer h net) s fun t =>
      t.bit (hreg h Reg.Half.ROLE_STAT) 10 = true ∧
      (h = s.activeHalf → t.bit (halfBase h.idx + Reg.Hdr.IRQ_RAW) 26 = true ∧ t.grant = s.grant) ∧
      (h ≠ s.activeHalf → s.mayTake h = true → s.grant = none → t.grant = some ⟨h, causeSilent⟩) ∧
      (h ≠ s.activeHalf → s.mayTake h = false → t.grant = s.grant ∧
        t.fld (hreg h Reg.Half.ROLE_STAT) 12 4 = causeActiveLost)))

/-- Roles (R261, R277, R279, R281, R282, R287, R289, R291, R301): a grant to a standby in HEEL with TAKEOVER_EN makes it ACTIVE
and the other half OFFLINE (HEEL after a SWAP), advances the generations of the device, the halves and the tiles, and leaves its
cause, count and instant; a grant that finds no such standby is ACTIVE_LOST; the takeover CLAIMs go out with CUR + 1; after a
grant that waits, SWAP by the active half, ASSUME, RESYNC_REQ and RESYNC_ABORT act under their conditions and are refused with
CTRL_REFUSED otherwise; HALT, RESUME (of a RESETTING half by its own software alone) and CLEAR of a half. -/
def Obligations.RolesAndTakeover : Prop :=
  (∀ s : State, s.grant = none → Leads .takeoverGrant s fun t => t = s) ∧
  (∀ (s : State) (g : Grant), s.grant = some g →
    let h := g.half
    let o := h.other
    let gens := [sysBase, halfBase 0, halfBase 1] ++ (List.range 8).map tileBase
    let stat := hreg h Reg.Half.ROLE_STAT
    (s.role h = roleHeel → s.takeoverEn h = true → Leads .takeoverGrant s fun t =>
      t.activeHalf = h ∧ t.role h = roleActive ∧ t.yielded = false ∧
      (g.cause ≠ causeSwap ∨ s.peerSilentBit o = false → t.grant = none) ∧
      t.role o = (if g.cause = causeSwap then roleHeel else roleOffline) ∧
      (∀ b ∈ gens, t.gen b = if s.gen b = 0xFFFF then 1 else s.gen b + 1) ∧
      t.fld stat 12 4 = g.cause % 16 ∧
      t.fld (hreg h Reg.Half.TAKEOVER_CNT) 0 16 = min 0xFFFF (s.fld (hreg h Reg.Half.TAKEOVER_CNT) 0 16 + 1) ∧
      t.rd (hreg h Reg.Half.LAST_TAKEOVER_TS_LO) = s.tb0.tsLo ∧ t.rd (hreg h Reg.Half.LAST_TAKEOVER_TS_HI) = s.tb0.tsHi ∧
      t.bit (halfBase 0 + Reg.Hdr.IRQ_RAW) 16 = true ∧ t.bit (halfBase 1 + Reg.Hdr.IRQ_RAW) 16 = true ∧
      t.claimDue = some (h, g.cause != causeAssume)) ∧
    (s.role h ≠ roleHeel ∨ s.takeoverEn h = false → Leads .takeoverGrant s fun t =>
      t.activeHalf = s.activeHalf ∧ t.grant = none ∧ t.fld stat 12 4 = causeActiveLost ∧
      SameBut (fun k => k == stat || k == halfBase h.idx + Reg.Hdr.IRQ_RAW) s t)) ∧
  (∀ s : State, s.claimDue = none → Leads .takeoverClaim s fun t => t = s) ∧
  (∀ (s : State) (h : Half), s.claimDue = some (h, true) → Leads .takeoverClaim s fun t =>
    t.claimDue = none ∧ ∀ n < 8, (s.tc n).sent = [] → ∃ e ∈ (t.tc n).sent,
      e.req.type = 2 ∧ e.req.src = h.code2 ∧ e.req.claim = (s.mirCur n + 1) % 65536 ∧ Emit.tclReq n e.req.octets ∈ t.out) ∧
  (∀ (s : State) (acc : Access) (h : Half), Takes s acc (hreg h Reg.Half.ROLE_CTRL) →
    let u := takeoverGrant s
    let st := hreg h Reg.Half.ROLE_STAT
    let swapOk : Prop := acc.master = .half u.activeHalf ∧ h = u.activeHalf ∧ u.role h = roleActive ∧ u.role h.other = roleHeel
    let assumeOk : Prop := u.running h.other = false ∨ u.peerSilentBit h = true
    let refused (i : Instr) (u : State) : Prop := Leads i s fun t => t.bit st 11 = true ∧ Keeps (· == st) u t
    let joinOk : Prop := u.role h = roleOffline ∧ u.running h = true ∧ h ≠ u.activeHalf
    let secure := (s.asSent acc).secure
    (secure = true →
      (swapOk → Leads (.roleSwap acc h) s fun t =>
        t.activeHalf = h.other ∧ t.role h.other = roleActive ∧ t.role h = roleHeel) ∧
      (¬swapOk → refused (.roleSwap acc h) u) ∧
      (assumeOk → Leads (.roleAssume acc h) s fun t =>
        t.activeHalf = h ∧ t.role h = roleActive ∧ t.role h.other = roleOffline ∧ t.fld st 12 4 = causeAssume ∧
        t.claimDue = some (h, false)) ∧
      (¬assumeOk → refused (.roleAssume acc h) u)) ∧
    (secure = false → ∀ i ∈ [Instr.roleSwap acc h, .roleAssume acc h], refused i u) ∧
    (joinOk → Leads (.resyncReq acc h) s fun t =>
      t.role h = roleResync ∧ t.fld st 12 4 = causeResyncReq ∧ (t.halfSt h).first = true ∧
      t.bit (halfBase h.other.idx + Reg.Hdr.IRQ_RAW) 20 = true ∧ t.fld (lreg h Reg.Local.CMP_STAT) 8 8 = 0) ∧
    (¬joinOk → refused (.resyncReq acc h) u) ∧
    (s.role h = roleResync → Leads (.resyncAbort acc h) s fun t => t.role h = roleOffline ∧ t.fld st 12 4 = causeAbort) ∧
    (s.role h ≠ roleResync → refused (.resyncAbort acc h) s)) ∧
  (∀ (s : State) (acc : Access) (h : Half), Takes s acc (hreg h Reg.Hdr.UNIT_CTRL) →
    let us := hreg h Reg.Hdr.UNIT_STAT
    let was := s.halfState h
    let ended (t : State) (r : CmdResult) : Prop := t.fld us 7 3 = r.code ∧ t.bit (hreg h Reg.Hdr.IRQ_RAW) 2 = true
    let may : Prop := (was = 2 ∧ acc.master = .half h ∨ was = 3) ∧ s.domainOn h.pd = true
    (was = 1 ∨ was = 2 → Leads (.halfHalt acc h) s fun t =>
      t.halfState h = 3 ∧ ended t .done ∧ (s.role h = roleActive → t.yielded = true)) ∧
    (was ≠ 1 → was ≠ 2 → Leads (.halfHalt acc h) s fun t =>
      t.halfState h = was ∧ ended t (if was = 3 then .done else .refused)) ∧
    (may → Leads (.halfResume acc h) s fun t => t.halfState h = 1 ∧ ended t .done ∧ t.cycled = true) ∧
    (was = 1 → Leads (.halfResume acc h) s fun t => t.halfState h = 1 ∧ ended t .done ∧
      Keeps (fun k => k == us || k == hreg h Reg.Hdr.IRQ_RAW) s t) ∧
    (was ≠ 1 → ¬may → Leads (.halfResume acc h) s fun t => t.halfState h = was ∧ ended t .refused) ∧
    (Leads (.halfClear acc h) s fun t => t.bit (hreg h Reg.Half.ROLE_STAT) 11 = false ∧ ended t .done))

/-- The comparison of output commands (R285 to R288), whatever the roles. CMP_EPOCH, CMP_BASE, CMP_RECORD_RX and CMP_LATE_TIMER
complete: closing an epoch sends its record to the other half and opens the next, CMP_BASE sets the number the barks carry, a
record on the link arrives, a close that stays uncompared for CMP_TIMEOUT is late. A record is kept until both sides hold the
epoch; equal digest and count match, and enough matches of a RESYNC enter HEEL; anything else is counted and takes a RESYNC out
of step. Where an outcome may be recorded, the monitor's reaction to it is LOG or IRQ. -/
def Obligations.Comparison : Prop :=
  (∀ (s : State) (acc : Access) (v : Word) (h : Half), acc.master = .half h →
    Takes s acc (0x40E00000 + Reg.Local.CMP_EPOCH) → s.reaction (halfSrc h 8) ≤ 1 →
    let u := s.cmpWrite acc 4 (0x40E00000 + Reg.Local.CMP_EPOCH) v
    let m := u.halfSt h
    let r : CmpRec := {
      epoch := v.toNat, digest := m.crc ^^^ 0xFFFFFFFF, count := u.rdN (lreg h Reg.Local.CMP_WRITES), close := s.tb0.nsTotal }
    let st := lreg h Reg.Local.CMP_STAT
    let n := min 255 (s.fld st 8 8 + 1)
    (Leads (.cmpEpoch acc v) s fun t =>
      t.resp = .ok ∧ (t.halfSt h).crc = 0xFFFFFFFF ∧ (t.halfSt h).lastClosed = v.toNat ∧
      t.rd (lreg h Reg.Local.CMP_WRITES) = 0 ∧ t.cmpLink = s.cmpLink ++ [(h.other, r)]) ∧
    ((∀ y ∈ m.peer, y.epoch ≠ v.toNat) → Leads (.cmpEpoch acc v) s fun t =>
      (t.halfSt h).own = m.own ++ [r] ∧ (t.halfSt h).peer = m.peer) ∧
    (m.own = [] → ∀ y, m.peer = [y] → y.epoch = v.toNat →
      (y.digest = r.digest → y.count = r.count → Leads (.cmpEpoch acc v) s fun t =>
        (t.halfSt h).own = [] ∧ (t.halfSt h).peer = [] ∧ (t.halfSt h).cmpOk = true ∧
        t.bit st 0 = true ∧ t.fld st 8 8 = n ∧
        (s.role h = roleResync → max 1 (s.fld (hreg h Reg.Half.FO_CFG) 16 8) ≤ n → t.role h = roleHeel)) ∧
      (y.digest ≠ r.digest ∨ y.count ≠ r.count → Leads (.cmpEpoch acc v) s fun t =>
        (t.halfSt h).cmpOk = false ∧ t.rd st = 2 ∧
        t.rdN (hreg h Reg.Half.CMP_MISMATCH_CNT) = min 0xFFFFFFFF (s.rdN (hreg h Reg.Half.CMP_MISMATCH_CNT) + 1) ∧
        t.bit (halfBase 0 + Reg.Hdr.IRQ_RAW) 21 = true ∧ t.bit (halfBase 1 + Reg.Hdr.IRQ_RAW) 21 = true ∧
        (s.role s.standby = roleResync → t.role s.standby = roleOffline) ∧
        (s.role s.standby = roleHeel →
          t.role s.standby = if s.bit (hreg s.standby Reg.Half.FO_CFG) 1 then roleHeel else roleOffline)))) ∧
  (∀ (s : State) (acc : Access) (v : Word) (h : Half), acc.master = .half h → Takes s acc (0x40E00000 + Reg.Local.CMP_BASE) →
    Leads (.cmpBase acc v) s fun t =>
      t.resp = .ok ∧ (t.halfSt h).lastClosed = v.toNat ∧ (t.halfSt h.other).lastClosed = (s.halfSt h.other).lastClosed ∧
      SameBut (fun _ => false) s t) ∧
  (∀ (s : State) (h : Half), (∀ e ∈ s.cmpLink, e.1 ≠ h) → Leads (.cmpRecordRx h) s fun t => t = s) ∧
  (∀ (s : State) (h : Half) (r : CmpRec), s.cmpLink.find? (fun e => e.1 == h) = some (h, r) →
    s.reaction (halfSrc h 8) ≤ 1 → s.reaction (halfSrc h 9) ≤ 1 →
    let m := s.halfSt h
    (Leads (.cmpRecordRx h) s fun t => t.cmpLink = s.cmpLink.erase (h, r) ∧ (t.halfSt h).lastPeer = some r.epoch) ∧
    (m.peer.length < 16 → (∀ x ∈ m.own, x.epoch ≠ r.epoch) → Leads (.cmpRecordRx h) s fun t =>
      (t.halfSt h).peer = m.peer ++ [r] ∧
      (m.lastPeer = none ∨ m.lastPeer = some (r.epoch - 1) ∧ 0 < r.epoch ∧ r.epoch < 2 ^ 32 → t.regs = s.regs)) ∧
    (∀ o rest, m.peer = o :: rest → m.peer.length = 16 → (∀ x ∈ m.own, x.epoch ≠ r.epoch) →
      Leads (.cmpRecordRx h) s fun t => (t.halfSt h).peer = rest ++ [r] ∧
        t.rdN (hreg h Reg.Half.CMP_LATE_CNT) = min 0xFFFFFFFF (s.rdN (hreg h Reg.Half.CMP_LATE_CNT) + 1))) ∧
  (∀ (s : State) (h : Half), (s.halfSt h).own = [] → Leads (.cmpLateTimer h) s fun t => t = s) ∧
  (∀ (s : State) (h : Half) (r : CmpRec) (rest : List CmpRec), (s.halfSt h).own = r :: rest →
    (s.tb0.nsTotal < r.close + s.cmpTimeout h → Leads (.cmpLateTimer h) s fun t => t = s) ∧
    (r.close + s.cmpTimeout h ≤ s.tb0.nsTotal → s.reaction (halfSrc h 9) ≤ 1 → Leads (.cmpLateTimer h) s fun t =>
      (t.halfSt h).own = rest ∧ (t.halfSt h).cmpOk = false ∧ t.rd (lreg h Reg.Local.CMP_STAT) = 4 ∧
      t.rdN (hreg h Reg.Half.CMP_LATE_CNT) = min 0xFFFFFFFF (s.rdN (hreg h Reg.Half.CMP_LATE_CNT) + 1) ∧
      t.bit (halfBase 0 + Reg.Hdr.IRQ_RAW) 22 = true ∧ (s.role s.standby = roleResync → t.role s.standby = roleOffline)))

/-! ## Resets, power states, persistence -/

/-- Resets (R297 to R301, R311, R262): an RST_REQ with the key from the secure active half or the side band starts its reset,
any other key of theirs does nothing and any other writer's write, whatever its key, is counted; SRST loses every register of class S, H and X and keeps the
others, ACTIVE_HALF among them; HRST takes its half's class-H and X pages and its ROLE, and the active half yields; CRST takes
no register but its pair's LS_STAT; a rail's brown-out acts as R299 says; POR also loses class A and starts the clocks from 0.
At their release the halves are RESETTING with the roles of R262. -/
def Obligations.Resets : Prop :=
  let cause := pwrReg Reg.Pwr.RST_CAUSE
  let dev := pwrReg Reg.Pwr.DEV_STATE
  let shx (k : Nat) : Bool := k / 0x100000000 != 2 && keyIs (fun _ => true) clsSHX k
  let kept (k : Nat) : Bool := (List.range 6).any (fun x => k == lspBase x + Reg.Lsp.LS_STAT) ||
    k == pwrBase + Reg.Hdr.IRQ_RAW
  let boot (k : Nat) : Bool := k == cause || k == dev || k == hreg .a Reg.Half.ROLE_STAT || k == hreg .b Reg.Half.ROLE_STAT ||
    k == pwrReg Reg.Pwr.BOOT_CNT || k == pwrBase + Reg.Hdr.WEAR
  let srst (s t : State) (c : Nat) : Prop :=
    Rst.srst ∈ t.rst ∧ t.rd cause = word (c * 0x111) ∧ t.devState = 0 ∧ t.activeHalf = s.activeHalf ∧
    Lost (fun k => shx k && !kept k) t ∧ (s.ks = none → SameBut (fun k => shx k || boot k) s t)
  let hrst (s t : State) (h : Half) (c : Nat) : Prop :=
    Rst.hrst h ∈ t.rst ∧ t.fld cause (4 + 4 * h.idx) 4 = c ∧ t.role h = roleOffline ∧ t.halfState h = 0 ∧
    Lost (fun k => keyIs (fun p => p.kind == .local && p.idx == h.idx) (fun c => c == .h || c == .x) k) t ∧
    (s.role h = roleActive → h = s.activeHalf → t.yielded = true) ∧
    (∀ n < 128, t.rd (chanBase n + Reg.Chan.CH_CFG) = s.rd (chanBase n + Reg.Chan.CH_CFG))
  let free (s : State) : Prop := s.supplied = true ∧ s.parking = false ∧ s.rst = []
  (∀ (s : State) (acc : Access) (key : Fin 65536) (h : Half) (core : Fin 8),
    Takes s acc (pwrReg Reg.Pwr.RST_REQ) →
    let all := [Instr.srstRequest acc key, .hrstARequest acc key, .hrstBRequest acc key, .crstRequest acc key h core]
    let c := if acc.master = .shep then 5 else 4
    let by' : Prop := acc.master = .shep ∨ acc.secure = true ∧ acc.master = .half s.activeHalf
    (key ≠ 0x5A3C → by' → ∀ i ∈ all, Leads i s fun t => t.resp = .ok ∧ Keeps (fun _ => false) s t) ∧
    (¬by' → ∀ i ∈ all, Leads i s fun t =>
      t.rdN (sysBase + Reg.Sys.ACC_VIOL_CNT) = min 0xFFFFFFFF (s.rdN (sysBase + Reg.Sys.ACC_VIOL_CNT) + 1) ∧
      Keeps (· == sysBase + Reg.Sys.ACC_VIOL_CNT) s t) ∧
    (key = 0x5A3C → by' → free s →
      Leads (.srstRequest acc key) s (srst s · c) ∧
      (s.domainOn 2 = true → Leads (.hrstARequest acc key) s (hrst s · .a c)) ∧
      (s.domainOn 4 = true → Leads (.hrstBRequest acc key) s (hrst s · .b c)) ∧
      (core ≠ 7 → s.domainOn h.pd = true → Leads (.crstRequest acc key h core) s fun t =>
        t.rst.length = 1 ∧ t.fld cause (4 + 4 * h.idx) 4 = c ∧
        SameBut (fun k => k == cause || k == lspBase (pairOf h (core.val - 4)) + Reg.Lsp.LS_STAT) s t))) ∧
  (∀ s : State, free s →
    (s.domainOn 2 = true → Leads (.bor 1) s (hrst s · .a 3)) ∧ (s.domainOn 4 = true → Leads (.bor 2) s (hrst s · .b 3)) ∧
    Leads (.bor 3) s (srst s · 3)) ∧
  (∀ (s : State) (b : Bool), s.ks = none →
    let por (t : State) (c : Nat) : Prop :=
      t.supplied = true ∧ Rst.por ∈ t.rst ∧ t.rd cause = word (c * 0x111) ∧ t.activeHalf = .a ∧ t.time = {} ∧ t.inseq = 0 ∧
      (∀ n < 128, t.rd (mc n Reg.Chan.CAL_FINE) = s.rd (mc n Reg.Chan.CAL_FINE)) ∧
      (s.worn (pwrReg Reg.Pwr.POR_CNT) = false → s.rdN (pwrReg Reg.Pwr.POR_CNT) < 0xFFFFFFFF →
        t.rdN (pwrReg Reg.Pwr.POR_CNT) = s.rdN (pwrReg Reg.Pwr.POR_CNT) + 1)
    (s.supplied = false → Leads (.por b) s (por · 1)) ∧ (s.supplied = true → Leads (.por b) s fun t => t = s) ∧
    (s.supplied = true → Leads (.bor 0) s (por · 2))) ∧
  (∀ (s : State) (r : Rst), r ∉ s.rst → Leads (.resetRelease r) s fun t => t = s) ∧
  (∀ s : State,
    (∀ r ∈ [Rst.por, .srst], r ∈ s.rst →
      (s.verified = true → Leads (.resetRelease r) s fun t =>
        t.rst = [] ∧ ∀ h, t.halfState h = 2 ∧ t.role h = (if h = s.activeHalf then roleActive else roleOffline) ∧
          t.fld (hreg h Reg.Half.ROLE_STAT) 12 4 = causePowerup) ∧
      (s.verified = false → Leads (.resetRelease r) s fun t => t = s)) ∧
    (∀ h, Rst.hrst h ∈ s.rst → s.domainOn h.pd = true → Leads (.resetRelease (.hrst h)) s fun t =>
      t.halfState h = 2 ∧ t.rst = s.rst.erase (.hrst h) ∧ SameBut (· == hreg h Reg.Half.ROLE_STAT) s t) ∧
    (∀ h c, Rst.crst h c ∈ s.rst → Leads (.resetRelease (.crst h c)) s fun t =>
      t = { s with
            rst := s.rst.erase (.crst h c) }))

/-- Device states and the supply (R302 to R308, R326, R331, R564): DOZE is entered from RUN, honours an exit condition that
arose meanwhile, and ends at RUN or an interrupt to an application core; PARK is entered in two steps, which discard pending
requests, park the tiles, take both halves down and stop the timebase; an enabled source that fires is latched and the device is
WAKING, from which every page comes back as at SRST with the clocks moved on; a request that its state does not list is refused. A low supply is shown and recorded; its loss stops all logic. -/
def Obligations.PowerStates : Prop :=
  let dev := pwrReg Reg.Pwr.DEV_STATE
  (∀ (s : State) (acc : Access), Takes s acc (pwrReg Reg.Pwr.STATE_REQ) →
    let refused (i : Instr) (r : Nat) : Prop := Leads i s fun t =>
      t.fld dev 16 4 = r ∧ t.devState = s.devState ∧ t.bit (pwrBase + Reg.Hdr.IRQ_RAW) 20 = true ∧
      Keeps (fun k => k == dev || k == pwrBase + Reg.Hdr.IRQ_RAW) s t
    ((s.asSent acc).secure = true →
      (s.devState = 0 → s.dozing = false →
        Leads (.stateReqDoze acc) s (fun t => t.dozing = true ∧ t.devState = 0) ∧
        Leads (.stateReqPark acc) s (fun t => t.devState = 2 ∧ SameBut (· == dev) s t) ∧ refused (.stateReqRun acc) 2) ∧
      (s.devState = 1 → s.dozing = false → Leads (.stateReqRun acc) s (fun t => t.devState = 0 ∧ t.fld dev 16 4 = 1) ∧
        refused (.stateReqDoze acc) 2 ∧ refused (.stateReqPark acc) 2) ∧
      (s.devState = 2 ∨ s.devState = 4 → s.dozing = false → ∀ i ∈ [Instr.stateReqDoze acc, .stateReqRun acc, .stateReqPark acc],
        refused i 3) ∧
      (s.dozing = true → Leads (.stateReqRun acc) s (fun t => t.dozeExit = true) ∧ refused (.stateReqPark acc) 3)) ∧
    ((s.asSent acc).secure = false →
      ∀ i ∈ [Instr.stateReqDoze acc, .stateReqRun acc, .stateReqPark acc], Leads i s fun t =>
        t.bit (pwrBase + Reg.Hdr.UNIT_STAT) 10 = true ∧ Keeps (· == pwrBase + Reg.Hdr.UNIT_STAT) s t)) ∧
  (∀ s : State,
    (s.dozing = true → Leads .dozeEntryComplete s fun t =>
      t.dozing = false ∧ t.devState = (if s.dozeExit then 0 else 1) ∧ t.fld dev 16 4 = 1 ∧ SameBut (· == dev) s t) ∧
    (s.dozing = false → Leads .dozeEntryComplete s fun t => t = s) ∧
    (s.appIrq .a = true ∨ s.appIrq .b = true →
      (s.dozing = true → Leads .dozeWake s fun t => t = { s with
        dozeExit := true }) ∧
      (s.dozing = false → s.devState = 1 → Leads .dozeWake s fun t => t.devState = 0 ∧ SameBut (· == dev) s t)) ∧
    (s.appIrq .a = false ∧ s.appIrq .b = false ∨ s.dozing = false ∧ s.devState ≠ 1 → Leads .dozeWake s fun t => t = s) ∧
    (s.devState = 2 → s.parkStage = 0 → Leads .parkEntry s fun t =>
      t.parkStage = 1 ∧ t.wakes = [] ∧ ∀ k < 20, t.bit (gateKey k) 24 = false ∧
        (s.bit (gateKey k) 24 = true → t.fld (gateKey k) 28 4 = 0)) ∧
    (s.devState ≠ 2 ∨ s.parkStage ≠ 0 → Leads .parkEntry s fun t => t = s) ∧
    (s.devState = 2 → s.parkStage = 1 → Leads .parkTileWaitEnd s fun t =>
      t.devState = (if s.wakes = [] then 3 else 4) ∧ t.time.stopped = true ∧ t.fld dev 16 4 = 1 ∧
      (∀ k < 20, t.bit (gateKey k) 24 = false) ∧
      (∀ n < 8, t.bit (pwrReg Reg.Pwr.PARK_STAT) n = decide (s.mirState n = 4) ∧
        t.bit (pwrReg Reg.Pwr.PARK_STAT) (8 + n) = !decide (s.mirState n = 4)) ∧
      (∀ h, t.halfState h = 4 ∧ t.role h = roleOffline) ∧ (∀ k < 12, 2 ≤ k → t.gateSt k = 0)) ∧
    (s.devState ≠ 2 ∨ s.parkStage ≠ 1 → Leads .parkTileWaitEnd s fun t => t = s)) ∧
  (∀ (s : State) (kind : Fin 16) (n : Fin 128) (rtc : Nat),
    let open' : Prop := s.supplied = true ∧ (s.devState = 2 ∧ s.parkStage = 1 ∨ s.devState = 3 ∨ s.devState = 4)
    let fires : Prop := s.wakeOn kind.val n.val = true ∧ (kind = 5 → s.alarmAt rtc = true)
    (open' → fires → s.wakes = [] → Leads (.wakeSource kind n rtc) s fun t =>
      t.wakes = [⟨kind.val, n.val, rtc⟩] ∧ t.rdN (pwrReg Reg.Pwr.WAKE_CAUSE) = 2 ^ 31 + n.val * 256 + kind.val ∧
      t.devState = (if s.devState = 3 then 4 else s.devState) ∧
      SameBut (fun k => k == pwrReg Reg.Pwr.WAKE_CAUSE || k == dev) s t) ∧
    (¬open' ∨ ¬fires → Leads (.wakeSource kind n rtc) s fun t => t = s)) ∧
  (∀ (s : State) (n : Nat),
    (s.wakes = [] ∨ s.devState ≠ 4 ∨ s.time.parked = none → Leads (.parkExit n) s fun t => t = s) ∧
    (∀ c0 c1 cf rtc, s.wakes ≠ [] → s.devState = 4 → s.time.parked = some (c0, c1, cf, rtc) →
      Leads (.parkExit n) s fun t =>
        t.devState = 0 ∧ t.tb0 = wakeClock c0 n ∧ t.tb1 = wakeClock c1 n ∧ t.time.tbf = wakeClock cf n ∧
        t.time.stopped = false ∧ t.wakes = [] ∧ t.activeHalf = s.activeHalf ∧
        (∀ h, t.halfState h = 2 ∧ t.role h = (if h = s.activeHalf then roleActive else roleOffline)) ∧
        t.rd (pwrReg Reg.Pwr.RST_CAUSE) = 0x888 ∧ t.bit (pwrBase + Reg.Hdr.IRQ_RAW) 16 = true)) ∧
  (∀ (s : State) (mv : Nat),
    (s.supplied = true → s.reaction 37 ≤ 1 → Leads .supplyLow s fun t =>
      t.bit dev 8 = true ∧ t.bit (pwrBase + Reg.Hdr.IRQ_RAW) 17 = true) ∧
    (s.supplied = true → Leads .supplyLoss s fun t =>
      t.supplied = false ∧ t.time.stopped = true ∧ t.rst = [] ∧
      Lost (fun k => decide (k / 0x100000000 ≠ 2) && keyIs (fun _ => true) (fun c => c != .p && c != .v) k &&
        !decide (k = hreg .a Reg.Half.ROLE_STAT ∨ k = hreg .b Reg.Half.ROLE_STAT)) t) ∧
    (s.supplied = true → Leads (.supplyMvSample mv) s fun t =>
      t.rdN (pwrReg Reg.Pwr.SUPPLY_MV) = min mv 0xFFFF ∧ (5000 ≤ mv → t.bit dev 8 = false) ∧
      SameBut (fun k => k == dev || k == pwrReg Reg.Pwr.SUPPLY_MV) s t) ∧
    (s.supplied = false → ∀ i ∈ [Instr.supplyLow, .supplyLoss, .supplyMvSample mv], Leads i s fun t => t = s)) ∧
  (∀ (s : State) (mv : Fin 65536), Leads (.cellMeasurement mv) s fun t =>
    t.fld (vaultReg Reg.Vault.CELL_MV) 0 16 = mv.val ∧ t.bit (vaultReg Reg.Vault.VAULT_STAT) 1 = decide (mv.val < 3000) ∧
    SameBut (fun k => k == vaultReg Reg.Vault.CELL_MV || k == vaultReg Reg.Vault.VAULT_STAT) s t)

/-- Power domains, clock gates and persistent words (R312, R313, R315 to R317, R319, R320, R322): the first failing check of
R315 ends a domain's request; one that passes starts the transition, whose end is DONE, and a compute domain that came on is
under HRST; a gate switches at once, and the timers of the tunnel and the captures that its clock runs stand still meanwhile; a normal-world OFF of a held gate or domain is recorded as PENDING; SECURE_HOLD follows a
secure write only. A persistent word takes its value and counts; a worn word keeps its value. -/
def Obligations.DomainsAndPersistence : Prop :=
  let irq := pwrBase + Reg.Hdr.IRQ_RAW
  (∀ (s : State) (acc : Access) (n : Fin 12),
    let k := n.val
    let g := gateKey k
    let ends (i : Instr) (r : Nat) : Prop := Leads i s fun t =>
      t.fld g 28 4 = r ∧ t.gateSt k = s.gateSt k ∧ t.bit irq 22 = true ∧ Keeps (fun j => j == g || j == irq) s t
    let users := (pdUsers k).any (fun j => s.gateSt j != 0)
    let needs := (pdNeeds k).any (fun j => s.gateSt j != 1)
    let active : Prop := k ∈ s.activeHalf.pds ∨ k = 6 ∧ (s.role s.standby = roleHeel ∨ s.role s.standby = roleResync)
    Takes s acc g →
    (k < 2 → ends (.pdReqOn acc n) 3 ∧ ends (.pdReqOff acc n) 3) ∧
    (2 ≤ k → 2 ≤ s.gateSt k → ends (.pdReqOn acc n) 7 ∧ ends (.pdReqOff acc n) 7) ∧
    (2 ≤ k → s.gateSt k < 2 →
      (active → ends (.pdReqOff acc n) 4) ∧ (¬active → users = true → ends (.pdReqOff acc n) 5) ∧
      (needs = true → ends (.pdReqOn acc n) 5) ∧
      (k = 11 → (∃ m < 8, s.mirState m = 1) → ends (.pdReqOff acc n) 6) ∧
      (needs = false → s.gateSt k = 0 → s.bit g 24 = false → Leads (.pdReqOn acc n) s fun t =>
        t.gateSt k = 2 ∧ Keeps (· == g) s t) ∧
      (needs = false → s.gateSt k = 1 → s.bit g 24 = false → ends (.pdReqOn acc n) 1) ∧
      (¬active → users = false → (k = 11 → ∀ m < 8, s.mirState m ≠ 1) → s.gateSt k = 1 →
        ((s.asSent acc).secure = true ∨ s.held k = false → Leads (.pdReqOff acc n) s fun t =>
          t.gateSt k = 3 ∧ t.bit g 24 = false ∧
          Lost (fun j => j / 0x100000000 != 2 && !counting j && keyIs (fun p => p.domain == k) clsSHX j) t) ∧
        ((s.asSent acc).secure = false → s.held k = true → s.bit g 24 = false → Leads (.pdReqOff acc n) s fun t =>
          t.gateSt k = 1 ∧ t.bit g 24 = true ∧ t.fld g 28 4 = 2 ∧ t.bit irq 21 = true)))) ∧
  (∀ (s : State) (acc : Access) (n : Fin 8), Takes s acc (gateKey (12 + n.val)) → s.bit (gateKey (12 + n.val)) 24 = false →
    let g := gateKey (12 + n.val)
    let only (t : State) : Prop := Keeps (fun j => j == g || j == irq) s t
    (Leads (.ckgReqOn acc n) s fun t => t.gated n.val = false ∧ t.fld g 28 4 = 1 ∧ (n ≠ 2 → n ≠ 5 → only t) ∧
      (n = 2 → t.tunGate = none ∧ SameBut (fun j => j == g || j == irq) s t) ∧ (n = 5 → t.capGate = none)) ∧
    ((s.asSent acc).secure = true ∨ s.held (12 + n.val) = false → Leads (.ckgReqOff acc n) s fun t =>
      t.gated n.val = true ∧ t.fld g 28 4 = 1 ∧ t.bit irq 22 = true ∧ SameBut (fun j => j == g || j == irq) s t ∧
      (n = 2 → t.tunGate ≠ none) ∧ (n = 5 → t.capGate ≠ none))) ∧
  (∀ (s : State) (acc : Access) (n : Fin 20) (b : Bool), Takes s acc (gateKey n.val) → s.bit (gateKey n.val) 24 = false →
    ((s.asSent acc).secure = true ∨ s.held n.val = b → Leads (.secureHoldWrite acc n b) s fun t =>
      t.held n.val = b ∧ Keeps (· == gateKey n.val) s t) ∧
    ((s.asSent acc).secure = false → s.held n.val ≠ b → Leads (.secureHoldWrite acc n b) s fun t =>
      t.held n.val = s.held n.val ∧ t.bit (pwrBase + Reg.Hdr.UNIT_STAT) 10 = true ∧
      Keeps (· == pwrBase + Reg.Hdr.UNIT_STAT) s t)) ∧
  (∀ (s : State) (n : Fin 12),
    let k := n.val
    (s.gateSt k < 2 → Leads (.pdTransitionEnd n) s fun t => t = s) ∧
    (s.gateSt k = 3 → Leads (.pdTransitionEnd n) s fun t =>
      t.gateSt k = 0 ∧ t.fld (gateKey k) 28 4 = 1 ∧ t.bit irq 22 = true ∧
      SameBut (fun j => j == gateKey k || j == irq) s t) ∧
    (s.gateSt k = 2 → Leads (.pdTransitionEnd n) s fun t => t.gateSt k = 1 ∧ t.fld (gateKey k) 28 4 = 1 ∧
      (2 ≤ k → k ≠ 2 → k ≠ 4 → Lost (fun j => j / 0x100000000 != 2 && keyIs (fun p => p.domain == k) clsSHX j) t) ∧
      (∀ h : Half, k = h.pd → s.supplied = true → s.parking = false → s.rst = [] → Rst.hrst h ∈ t.rst))) ∧
  (∀ (s : State) (acc : Access) (addr : Nat) (v : Word) (p : Page) (r : RegRow) (j : Nat),
    Takes s acc addr → acc.page addr = some p → p.row (addr % 0x1000) = some (r, j) → r.acc = .rwp → p.kind = .pwr →
    let k := p.base + addr % 0x1000
    (s.worn k = false → Leads (.rwpWrite acc addr v) s fun t =>
      t.rd k = (s.rd k &&& ~~~(word r.mask)) ||| (v &&& word r.mask) ∧ t.wearOf k = s.wearOf k + 1 ∧
      Touches (fun i => i == k || i == p.base + Reg.Hdr.WEAR || i == p.prim + Reg.Hdr.IRQ_RAW) s t) ∧
    (∀ h, s.worn k = true → acc.master = .half h → Leads (.rwpWrite acc addr v) s fun t =>
      t.rd k = s.rd k ∧ t.wear = s.wear ∧ t.bit (p.prim + Reg.Hdr.UNIT_STAT) 11 = true ∧ t.bit irq 19 = true ∧
      t.rdN (pwrReg Reg.Pwr.P_WORN_CNT) = min 0xFFFFFFFF (s.rdN (pwrReg Reg.Pwr.P_WORN_CNT) + 1))) ∧
  (∀ s : State,
    let k := pwrReg (if s.devState = 3 ∨ s.devState = 4 then Reg.Pwr.LIFE_PARK_H else Reg.Pwr.LIFE_OP_H)
    s.supplied = true → s.worn k = false → s.rdN k < 0xFFFFFFFF → Leads .lifeHour s fun t =>
      t.rdN k = s.rdN k + 1 ∧ t.wearOf k = s.wearOf k + 1 ∧
      SameBut (fun j => j == k || j == pwrBase + Reg.Hdr.WEAR || j == irq) s t)

/-! ## Lockstep pairs and the safety monitor -/

/-- Errors (R337 to R352): an occurrence of a named source sets its ERR_STAT bit, counts, enters LAST_ERR and, where none
stands, FIRST_ERR, and acts by its reaction: IRQ raises SAFE's bit, YIELD stops an active half, HRST and SRST request those
resets; what both cores of a pair present alike leaves it, a difference on a lane or an uncorrectable error freezes the pair and is such
an occurrence, from a frozen pair nothing leaves, and a correctable error only counts; a SCRUB starts on a pair that runs, and its comparison ends it; injections act with their key and in the secure world only. -/
def Obligations.ErrorsAndScrubs : Prop :=
  let reg := safeReg
  let logged (s t : State) (src : Nat) (info : Word) (r : Nat) (inj : Bool) : Prop :=
    t.bit (reg Reg.Safe.ERR_STAT0 + 4 * (src / 32)) (src % 32) = true ∧
    t.rdN (reg Reg.Safe.ERR_CNT) = min 0xFFFFFFFF (s.rdN (reg Reg.Safe.ERR_CNT) + 1) ∧
    t.rdN (reg Reg.Safe.LAST_ERR) = errWord src r inj ∧ t.rd (reg Reg.Safe.LAST_INFO) = info ∧
    (if s.bit (reg Reg.Safe.FIRST_ERR) 31 then t.rd (reg Reg.Safe.FIRST_ERR) = s.rd (reg Reg.Safe.FIRST_ERR)
     else t.rdN (reg Reg.Safe.FIRST_ERR) = errWord src r inj ∧ t.rd (reg Reg.Safe.FIRST_INFO) = info)
  let inSafe (k : Nat) : Bool := decide (safeBase ≤ k ∧ k < safeBase + 0x1000)
  let runs (s : State) : Prop := s.supplied = true ∧ s.devState ≠ 3 ∧ s.parking = false
  (∀ (s : State) (src : Fin 64) (info : Word),
    let r := s.reaction src.val
    (srcNamed src.val = false ∨ s.supplied = false ∨ s.devState = 3 ∨ s.devState = 4 → Leads (.monitorRecord src info) s fun t => t = s) ∧
    (srcNamed src.val = true → runs s →
      Leads (.monitorRecord src info) s (fun t => logged s t src.val info r false) ∧
      (r ≤ 1 → Leads (.monitorRecord src info) s fun t =>
        (r = 1 → t.bit (safeBase + Reg.Hdr.IRQ_RAW) 16 = true) ∧ Touches inSafe s t ∧ t.rst = s.rst) ∧
      (r = 5 → s.rst = [] → Leads (.monitorRecord src info) s fun t => Rst.srst ∈ t.rst) ∧
      (∀ h, srcHalf src.val = some h →
        (r = 4 → s.rst = [] → s.domainOn h.pd = true → Leads (.monitorRecord src info) s fun t => Rst.hrst h ∈ t.rst) ∧
        (r = 3 → s.role h = roleActive → h = s.activeHalf → Leads (.monitorRecord src info) s fun t =>
          t.yielded = true ∧ (t.halfSt h).stopped = true) ∧
        (r = 3 → s.role h = roleHeel → Leads (.monitorRecord src info) s fun t =>
          t.role h = roleOffline ∧ t.fld (hreg h Reg.Half.ROLE_STAT) 12 4 = causeYieldMon)))) ∧
  (∀ (s : State) (acc : Access) (src : Fin 64) (dry : Bool) (key : Fin 65536), Takes s acc (reg Reg.Safe.INJECT) →
    (key ≠ 0x3CA5 ∨ srcNamed src.val = false → Leads (.safeInject acc src dry key) s fun t =>
      SameBut (fun _ => false) s t ∧ t.rst = s.rst) ∧
    (key = 0x3CA5 → srcNamed src.val = true → runs s →
      let r := if dry then min 1 (s.reaction src.val) else s.reaction src.val
      Leads (.safeInject acc src dry key) s fun t => logged s t src.val (t.rd (reg Reg.Safe.LAST_INFO)) r true ∧
        (r ≤ 1 → Touches inSafe s t ∧ t.rst = s.rst))) ∧
  (∀ (s : State) (n : Fin 6),
    let x := n.val
    let st := lspReg x Reg.Lsp.LS_STAT
    let div := lspReg x Reg.Lsp.DIV_INFO
    let src := halfSrc (pairHalf x) (x % 3)
    let ue := halfSrc (pairHalf x) 3
    (∀ (lane : Fin 8) (a b : Nat),
      s.frozen x = true ∨ s.domainOn (pairHalf x).pd = false ∨ s.supplied = false ∨ lane = 6 ∧ s.bit st 0 = false →
      Leads (.lsDivergence n ⟨lane, a, b⟩) s fun t => t = s) ∧
    (∀ (lane : Fin 8) (a : Nat), s.frozen x = false → s.domainOn (pairHalf x).pd = true → s.supplied = true →
      (lane.val < 6 → Leads (.lsDivergence n ⟨lane, a, a⟩) s fun t => t = s.emit (.pairOut x lane.val a)) ∧
      (6 ≤ lane.val → Leads (.lsDivergence n ⟨lane, a, a⟩) s fun t => t = s)) ∧
    (∀ (lane : Fin 8) (a b : Nat), a ≠ b → runs s → s.domainOn (pairHalf x).pd = true → s.frozen x = false →
      lane ≠ 6 ∨ s.bit st 0 = true →
      (s.reaction src ≤ 2 → Leads (.lsDivergence n ⟨lane, a, b⟩) s fun t =>
        t.rdN div = lane.val + 2 ^ 31 ∧ logged s t src (word lane.val) (s.reaction src) false ∧
        (s.reaction src = 2 → s.rst = [] → t.rst ≠ []) ∧ (lane = 6 → t.bit st 0 = false ∧ t.fld st 4 2 = 2)) ∧
      (s.reaction src ≤ 1 → Leads (.lsDivergence n ⟨lane, a, b⟩) s fun t => t.frozen x = true)) ∧
    (∀ array checker addr, runs s → s.domainOn (pairHalf x).pd = true →
      let info := word (x % 3 + array.val * 4 + b2n checker * 16 + addr % 2 ^ 24 * 2 ^ 8)
      Leads (.lsUe n array checker addr) s (fun t => logged s t ue info (s.reaction ue) false) ∧
      (s.reaction ue ≤ 1 → Leads (.lsUe n array checker addr) s fun t => t.frozen x = true)) ∧
    (∀ array checker addr, s.domainOn (pairHalf x).pd = false → Leads (.lsUe n array checker addr) s fun t => t = s) ∧
    (Leads (.correctableError n) s fun t =>
      t.rdN (lspReg x Reg.Lsp.CE_CNT) = min 0xFFFFFFFF (s.rdN (lspReg x Reg.Lsp.CE_CNT) + 1) ∧
      Tbl.get 0 t.ceCount (pairHalf x).idx = Tbl.get 0 s.ceCount (pairHalf x).idx + 1 ∧
      Keeps (· == lspReg x Reg.Lsp.CE_CNT) { s with
                                             ceCount := t.ceCount } t) ∧
    (s.bit st 0 = false → s.frozen x = false → s.supplied = true → s.domainOn (pairHalf x).pd = true →
      (∀ acc, Takes s acc (lspReg x Reg.Lsp.SCRUB_GO) → Leads (.scrubGo acc n) s fun t =>
        t.bit st 0 = true ∧ Keeps (· == st) s t) ∧
      (s.fld (lspReg x Reg.Lsp.LS_CFG) 0 20 ≠ 0 → Leads (.scrubAuto n) s fun t => t.bit st 0 = true ∧ Keeps (· == st) s t)) ∧
    (s.bit st 0 = true ∨ s.frozen x = true →
      (∀ acc, Takes s acc (lspReg x Reg.Lsp.SCRUB_GO) → Leads (.scrubGo acc n) s fun t => Keeps (fun _ => false) s t) ∧
      Leads (.scrubAuto n) s (fun t => t = s)) ∧
    (s.fld (lspReg x Reg.Lsp.LS_CFG) 0 20 = 0 → Leads (.scrubAuto n) s fun t => t = s) ∧
    (∀ a b, s.bit st 0 = false → Leads (.scrubCompare n a b) s fun t => t = s) ∧
    (∀ a b, s.bit st 0 = true →
      (scrubDigest a = scrubDigest b → Leads (.scrubCompare n a b) s fun t =>
        t.bit st 0 = false ∧ t.fld st 4 2 = 1 ∧ t.rd (lspReg x Reg.Lsp.SCRUB_DIGEST) = scrubDigest a ∧
        t.rdN (lspReg x Reg.Lsp.SCRUB_CNT) = min 0xFFFFFFFF (s.rdN (lspReg x Reg.Lsp.SCRUB_CNT) + 1) ∧
        t.bit (safeBase + Reg.Hdr.IRQ_RAW) 17 = true) ∧
      (scrubDigest a ≠ scrubDigest b → runs s → s.reaction src ≤ 2 → Leads (.scrubCompare n a b) s fun t =>
        t.bit st 0 = false ∧ t.fld st 4 2 = 2 ∧ t.rdN div = 6 + 2 ^ 31 ∧ logged s t src 6 (s.reaction src) false)) ∧
    (∀ (acc : Access) (lane : Fin 16), Takes s acc (lspReg x Reg.Lsp.INJECT) →
      let ok : Prop := lane.val < 8 ∧ lane ≠ 6 ∧ s.frozen x = false ∧ s.supplied = true ∧ s.domainOn (pairHalf x).pd = true
      ((s.asSent acc).secure = true → ok → Leads (.lsInject acc n lane) s fun t =>
        t.rd (lspReg x Reg.Lsp.INJECT_STAT) = 3 ∧ t.rdN div = lane.val + 2 ^ 8 + 2 ^ 31 ∧
        t.bit (safeBase + Reg.Hdr.IRQ_RAW) 18 = true ∧
        Keeps (fun k => k == lspReg x Reg.Lsp.INJECT_STAT || k == div || k == safeBase + Reg.Hdr.IRQ_RAW) s t) ∧
      ((s.asSent acc).secure = true → ¬ok → Leads (.lsInject acc n lane) s fun t => Keeps (fun _ => false) s t) ∧
      ((s.asSent acc).secure = false → Leads (.lsInject acc n lane) s fun t =>
        t.bit (safeBase + Reg.Hdr.UNIT_STAT) 10 = true ∧ Keeps (· == safeBase + Reg.Hdr.UNIT_STAT) s t))) ∧
  (∀ (s : State) (h : Half), runs s →
    let path := hreg h Reg.Half.ROLE_STAT
    let n := Tbl.get 0 s.ceCount h.idx
    (s.bit path 7 = true → Leads (.pathPersistExpiry h) s fun t =>
      logged s t (halfSrc h 10) (word (b2n (s.halfSt h).line.fault + 2 * b2n (s.halfSt h).net.fault))
        (s.reaction (halfSrc h 10)) false) ∧
    (s.bit path 7 = false → Leads (.pathPersistExpiry h) s fun t => t = s) ∧
    (s.fld (reg Reg.Safe.CE_CFG) 0 16 < n → Leads (.ceWindowExpiry h) s fun t =>
      logged s t (halfSrc h 6) (word n) (s.reaction (halfSrc h 6)) false) ∧
    (n ≤ s.fld (reg Reg.Safe.CE_CFG) 0 16 → Leads (.ceWindowExpiry h) s fun t =>
      Tbl.get 0 t.ceCount h.idx = 0 ∧ t = { s with
        ceCount := t.ceCount }) ∧
    (∀ addr, Leads (.busStallTimer h addr) s fun t =>
      logged s t (halfSrc h 7) (word (addr % 2 ^ 24)) (s.reaction (halfSrc h 7)) false))

/-! ## Switch fabric -/

/-- The fabric and the egress queues (R358, R361, R368, R369, R375, R377, R381, R383, R385, R389, R390, R394, R395): a frame
whose first cell arrives is looked up and recorded at its port, with a copy for each port its entry names; a slot takes its
next cell into the buffer, every 32nd ends a fabric cycle; the highest queue with an eligible head begins; a frame passed on
in full leaves its queue, is counted and handed over; a late launch is dropped or sent by LATE_POL; the last cell decides good
and bad frames; RSV commits are checked, made active at the next cycle, and reverted; a port's MAC merge verification ends. -/
def Obligations.FabricAndEgress : Prop :=
  let up1 (s t : State) (k : Nat) : Prop := t.rdN k = min 0xFFFFFFFF (s.rdN k + 1)
  (∀ (s : State) (p : Fin 29) (pre : Bool) (l : List Nat) (sfd : SfdPoint) (sec : Option SecTag),
    (s.domainOn 6 = false ∨ s.portUp p.val = false ∨ p = 26 ∧ s.hostTxA = [] ∨ p = 27 ∧ s.hostTxB = [] ∨
        p = 28 ∧ s.gwTx = [] ∨ s.msOn p.val = true ∧ s.gated 1 = true → Leads (.frameLookup p pre l sfd sec) s fun t => t = s) ∧
    (p.val < 26 → s.domainOn 6 = true → s.portUp p.val = true → s.frames = [] → s.sfs = [] → s.gated 3 = true →
        s.msOn p.val = false ∨ s.gated 1 = false →
      let f := (clean l).take 64
      let vp := s.vidPcp p.val f
      let found := s.fdbFind (be f 0 6) vp.1
      let arrived (t : State) (ports : List Nat) : Prop :=
        up1 s t (fwdReg Reg.Fwd.LOOKUP_CNT) ∧ t.frames.length = 1 ∧
        ∀ x ∈ t.frames, x.inp = p.val ∧ x.pmac = pre ∧ x.octs = f ∧ x.ended = false ∧ x.copies.map (·.port) = ports
      (found = none → isLinkLocal (be f 0 6) = false → s.bit (fwdReg Reg.Fwd.IN_CFG + 4 * p.val) 17 = false →
        vp.1 < 0xFFF → Leads (.frameLookup p pre l sfd sec) s fun t =>
          arrived t [] ∧ up1 s t (fwdReg Reg.Fwd.MISS_CNT) ∧ up1 s t (fwdReg Reg.Fwd.MISS_DROP)) ∧
      (∀ i (o : Fin 26), found = some i → vp.1 < 0xFFF → entWord (s.fdbEnt i) 2 = word (2 ^ o.val) →
        entWord (s.fdbEnt i) 3 = 0 → o.val ≠ p.val → s.admits o.val vp.2 = .ok →
        s.qcfg o.val vp.2 qRsv = false → Leads (.frameLookup p pre l sfd sec) s fun t =>
          arrived t [o.val] ∧ up1 s t (qReg o.val vp.2 Reg.Eq.ENQ_CNT)))) ∧
  (∀ s : State,
    (s.domainOn 6 = false → Leads (.fabricSlot []) s fun t => t = s) ∧
    (s.domainOn 6 = true → s.frames = [] → Leads (.fabricSlot []) s fun t =>
      t.slotNo = (s.slotNo + 1) % 32 ∧ t.frames = [] ∧
      t.rd (swReg Reg.Sw.FAB_CYCLE) = s.rd (swReg Reg.Sw.FAB_CYCLE) + (if s.slotNo = 31 then 1 else 0) ∧
      Touches (· == swReg Reg.Sw.FAB_CYCLE) s t) ∧
    (∀ f, s.domainOn 6 = true → s.frames = [f] → f.rsv = false → f.inp < 29 → f.copies ≠ [] → f.sent < f.arrived →
      (∀ c ∈ f.copies, c.begun = false) → (f.base = none ∧ f.held = []) → s.bufFree ≠ 0 →
      Leads (.fabricSlot []) s fun t => t.frames = [{ f with
        sent := f.sent + 1
        base := some (((f.inp + s.slotNo) % 32 + 32 - f.sent % 32) % 32) }])) ∧
  (∀ (s : State) (p : Fin 29) (bin : Fin 13),
    ((∀ q < 8, s.headOf p.val q = none) → Leads (.txSelect p bin) s fun t => t = s) ∧
    (∀ q f c, q < 8 → s.headOf p.val q = some (f, c) → (∀ r < 8, q < r → s.headOf p.val r = none) →
      s.portTakes p.val q = true → s.timely f c = true → s.startOk f c = true → s.guardHolds f c = false →
      s.msOn p.val = false → Leads (.txSelect p bin) s fun t =>
        (t.frames.any fun x => x.id == f.id && x.copies.any fun y => y.port == p.val && y.q == q && y.begun) = true)) ∧
  (∀ (s : State) (p : Fin 29),
    ((∀ f ∈ s.frames, ∀ c ∈ f.copies, c.port ≠ p.val ∨ c.begun = false) → Leads (.txComplete p) s fun t => t = s) ∧
    (∀ f c n, s.frames = [f] → f.copies = [c] → c.port = p.val → c.begun = true → c.bad = false → f.ended = true →
      c.overran = false → f.total = some n → n ≤ c.passed → c.q < 8 → Leads (.txComplete p) s fun t =>
        up1 s t (qReg p.val c.q Reg.Eq.TX_CNT) ∧ t.frames = [] ∧
        (p.val < 26 → up1 s t (portBase p.val + Reg.Port.TX_GOOD) ∧ Emit.frame p.val (f.outOcts c) true ∈ t.out) ∧
        (p = 26 → t.hostRxA = s.hostRxA ++ [⟨rxRecord f c, f.inseq, f.octs⟩]) ∧
        (p = 27 → t.hostRxB = s.hostRxB ++ [⟨rxRecord f c, f.inseq, f.octs⟩]) ∧
        (p = 28 → t.gwRx = s.gwRx ++ [f.octs]))) ∧
  (∀ (s : State) (p : Fin 29) (n : Fin 8),
    let q := n.val
    (s.headOf p.val q = none → Leads (.launchLate p n) s fun t => t = s) ∧
    (∀ f c, s.frames = [f] → s.headOf p.val q = some (f, c) →
      (s.isLate f c = false → Leads (.launchLate p n) s fun t => t = s) ∧
      (s.isLate f c = true → s.qcfg p.val q qLatePol = true → Leads (.launchLate p n) s fun t =>
        up1 s t (qReg p.val q Reg.Eq.LATE_SENT) ∧ t.bit (swBase + Reg.Hdr.IRQ_RAW) 22 = true ∧
        (t.frames.any fun x => x.id == f.id && x.copies.any fun y => y.port == p.val && y.q == q && y.lateSent) = true) ∧
      (s.isLate f c = true → s.qcfg p.val q qLatePol = false → Leads (.launchLate p n) s fun t =>
        up1 s t (qReg p.val q Reg.Eq.LATE_DROP) ∧ t.bit (swBase + Reg.Hdr.IRQ_RAW) 22 = true ∧
        ∀ x ∈ t.frames, x.copies.map (·.port) = (f.copies.filter (· != c)).map (·.port)))) ∧
  (∀ (s : State) (p : Fin 29) (pre : Bool) (l : List Nat) (err icv : Bool),
    ((∀ f ∈ s.frames, f.inp ≠ p.val ∨ f.pmac ≠ pre ∨ f.ended = true) →
      Leads (.ingressFrameEnd p pre l err icv) s fun t => t = s) ∧
    (∀ f, s.frames = [f] → f.inp = p.val → f.pmac = pre → f.ended = false → f.whole = false → f.filt = none →
      f.sample = none → f.copies = [] → s.msOn p.val = false →
      let all := f.octs ++ clean l
      let b := portBase p.val
      let badLen : Prop := all.length < 64 ∨ s.fld (b + Reg.Port.MAC_CFG) 0 14 < all.length
      (badLen → Leads (.ingressFrameEnd p pre l err icv) s fun t =>
        t.fld (b + Reg.Port.RX_BAD) 16 16 = min 0xFFFF (s.fld (b + Reg.Port.RX_BAD) 16 16 + 1) ∧ t.frames = [] ∧
        t.learnQ = s.learnQ) ∧
      (¬badLen → err = true ∨ fcsGood all = false → Leads (.ingressFrameEnd p pre l err icv) s fun t =>
        t.fld (b + Reg.Port.RX_BAD) 0 16 = min 0xFFFF (s.fld (b + Reg.Port.RX_BAD) 0 16 + 1) ∧ t.frames = [] ∧
        t.learnQ = s.learnQ) ∧
      (¬badLen → err = false → fcsGood all = true → Leads (.ingressFrameEnd p pre l err icv) s fun t =>
        up1 s t (b + Reg.Port.RX_GOOD) ∧ t.frames = []))) ∧
  (∀ (s : State) (acc : Access), Takes s acc (frsvReg Reg.Frsv.RSV_CTRL) →
    let st := frsvReg Reg.Frsv.RSV_STAT
    let irq := swBase + Reg.Hdr.IRQ_RAW
    let shadow (k : Nat) : Bool := decide (frsvReg Reg.Frsv.SHADOW ≤ k ∧ k < frsvReg Reg.Frsv.SHADOW + 1024)
    (s.bit st 30 = true → Leads (.rsvCommit acc) s fun t =>
      t.fld st 0 4 = 2 ∧ t.bit irq 19 = true ∧ Keeps (fun k => k == st || k == irq) s t) ∧
    (∀ i j r, s.bit st 30 = false → s.rsvFault = some (i, j, r) → Leads (.rsvCommit acc) s fun t =>
      t.rd st = word (r + i * 2 ^ 8 + j * 2 ^ 16) ∧ t.bit irq 19 = true ∧ Keeps (fun k => k == st || k == irq) s t) ∧
    (s.bit st 30 = false → s.rsvFault = none → Leads (.rsvCommit acc) s fun t =>
      t.rd st = 0x40000000 ∧ Keeps (· == st) s t) ∧
    (Leads (.rsvRevert acc) s fun t =>
      (∀ k < 256, t.rd (frsvReg Reg.Frsv.SHADOW + 4 * k) = s.rd (frsvReg Reg.Frsv.ACTIVE + 4 * k)) ∧ Keeps shadow s t)) ∧
  (∀ s : State,
    let st := frsvReg Reg.Frsv.RSV_STAT
    (s.bit st 30 = false → Leads .rsvActivate s fun t => t = s) ∧
    (s.bit st 30 = true → Leads .rsvActivate s fun t =>
      (∀ k < 256, t.rd (frsvReg Reg.Frsv.ACTIVE + 4 * k) = s.rd (frsvReg Reg.Frsv.SHADOW + 4 * k)) ∧ t.rd st = 1 ∧
      t.bit (swBase + Reg.Hdr.IRQ_RAW) 18 = true ∧
      SameBut (fun k => decide (frsvReg Reg.Frsv.ACTIVE ≤ k ∧ k < frsvReg Reg.Frsv.ACTIVE + 1024) || k == st ||
        k == swBase + Reg.Hdr.IRQ_RAW) s t)) ∧
  (∀ (s : State) (p : Fin 14) (ok : Bool),
    let cfg := eqReg p.val Reg.Eq.PORT_EQ_CFG
    let st := eqReg p.val Reg.Eq.PORT_EQ_STAT
    Leads (.macMergeVerification p ok) s fun t => SameBut (· == st) s t ∧
      (s.bit cfg 0 = false → t.fld st 0 3 = 0) ∧ (s.bit cfg 0 = true → s.bit cfg 3 = true → t.fld st 0 3 = 1) ∧
      (s.bit cfg 0 = true → s.bit cfg 3 = false → t.bit st 0 = ok ∧ t.fld st 1 2 = if ok then 2 else 3))

/-! ## Forwarding tables -/

/-- Table commits, learning and residue (R400 to R406, R408, R411, R413, R415 to R417, R425): a WRITE takes the shadow as it
stands, or is refused with BAD_ENTRY or DUPLICATE and changes nothing; a CLEAR empties the entry, a READ copies it, a FIND
gives its index or NOT_FOUND; a reserved OP ends with BAD_OP; a learn request inserts at the lowest invalid index at or above
LEARN_BASE; a residue copy is admitted once its queue admits it and refused at its time. -/
def Obligations.ForwardingTables : Prop :=
  let up1 (s t : State) (k : Nat) : Prop := t.rdN k = min 0xFFFFFFFF (s.rdN k + 1)
  (∀ (s : State) (acc : Access) (n : Fin 8192), Takes s acc (fwdReg Reg.Fwd.FDB_CMT) →
    let i := n.val
    let st := fwdReg Reg.Fwd.FDB_CMT_STAT
    let w := s.shadowWords (fwdReg Reg.Fwd.FDB_SH) 4
    let key := s.fdbFind (entMac w) (entVid w)
    let ends (t : State) (r j : Nat) : Prop := t.resp = .ok ∧ t.fld st 0 4 = r ∧ t.fld st 16 13 = j ∧ SameBut (· == st) s t
    let inserts (t : State) : Prop := ends t 1 i ∧ t.fdbEnt i = w.set 1 (setBit (entWord w 1) 30 false) ∧
      ∀ m < 8192, m ≠ i → t.fdbEnt m = s.fdbEnt m
    (fdbBad w = true → Leads (.fdbWrite acc n) s fun t => ends t 4 i ∧ t.fdb = s.fdb) ∧
    (fdbBad w = false → entValid w = false ∨ key = none ∨ key = some i → Leads (.fdbWrite acc n) s inserts) ∧
    (∀ j, fdbBad w = false → entValid w = true → key = some j → j ≠ i → j < 8192 → Leads (.fdbWrite acc n) s fun t =>
      ends t 3 j ∧ t.fdb = s.fdb) ∧
    (Leads (.fdbClear acc n) s fun t => ends t 1 i ∧ t.fdbEnt i = [] ∧ ∀ m < 8192, m ≠ i → t.fdbEnt m = s.fdbEnt m) ∧
    (Leads (.fdbRead acc n) s fun t => t.fld st 0 4 = 1 ∧ t.fld st 16 13 = i ∧ t.fdb = s.fdb ∧
      ∀ j < 4, t.rd (fwdReg Reg.Fwd.FDB_RD + 4 * j) = entWord (s.fdbEnt i) j) ∧
    (∀ j, key = some j → j < 8192 → Leads (.fdbFind acc n) s fun t => ends t 1 j ∧ t.fdb = s.fdb) ∧
    (key = none → Leads (.fdbFind acc n) s fun t => ends t 5 i ∧ t.fdb = s.fdb)) ∧
  (∀ (s : State) (acc : Access) (n : Fin 2048) (clr : Bool), Takes s acc (sfltReg Reg.Sflt.SF_CMT) →
    let i := n.val
    let st := sfltReg Reg.Sflt.SF_CMT_STAT
    let w := s.shadowWords (sfltReg Reg.Sflt.SF_SH) 8
    let rd := sfltReg Reg.Sflt.SF_RD
    let others (t : State) : Prop := ∀ m < 2048, m ≠ i → t.sf m = s.sf m
    (sfBad w = true → Leads (.sfWrite acc n clr) s fun t => t.fld st 0 4 = 4 ∧ t.sfs = s.sfs ∧ SameBut (· == st) s t) ∧
    (sfBad w = false → Leads (.sfWrite acc n clr) s fun t =>
      t.fld st 0 4 = 1 ∧ t.fld st 16 11 = i ∧ (t.sf i).ws = w ∧ (t.sf i).tokens ≤ sfCbs w ∧ (t.sf i).hits = (s.sf i).hits ∧
      others t ∧ SameBut (· == st) s t) ∧
    (Leads (.sfClear acc n clr) s fun t =>
      t.fld st 0 4 = 1 ∧ (t.sf i).ws = [] ∧ (t.sf i).metered = false ∧ (t.sf i).hits = (s.sf i).hits ∧ others t ∧
      SameBut (· == st) s t) ∧
    (Leads (.sfRead acc n clr) s fun t =>
      t.fld st 0 4 = 1 ∧ (∀ j < 8, t.rd (rd + 4 * j) = entWord (s.sf i).ws j) ∧
      t.rd (sfltReg Reg.Sflt.SF_RD_MATCH) = word (s.sf i).hits ∧ (t.sf i).ws = (s.sf i).ws ∧ others t ∧
      (t.sf i).hits = if clr then 0 else (s.sf i).hits)) ∧
  (∀ (s : State) (acc : Access) (n : Fin 1024), Takes s acc (mcgReg Reg.Mcg.MG_CMT) →
    let i := n.val
    let st := mcgReg Reg.Mcg.MG_CMT_STAT
    let w := s.shadowWords (mcgReg Reg.Mcg.MG_SH) 2
    let bad : Prop := bitOf (entWord w 0) 30 = true ∨ bitsOf (entWord w 1) 30 2 ≠ 0 ∨ bitsOf (entWord w 1) 1 15 ≠ 0
    let others (t : State) : Prop := ∀ m < 1024, m ≠ i → t.mg m = s.mg m
    (bad → Leads (.mgWrite acc n) s fun t => t.fld st 0 4 = 4 ∧ t.mgs = s.mgs ∧ SameBut (· == st) s t) ∧
    (¬bad → Leads (.mgWrite acc n) s fun t =>
      t.fld st 0 4 = 1 ∧ entWord (t.mg i) 0 = entWord w 0 ∧ bitOf (entWord (t.mg i) 1) 0 = bitOf (entWord w 1) 0 ∧
      bitsOf (entWord (t.mg i) 1) 16 14 = max 1 (min 10000 (bitsOf (entWord w 1) 16 14)) ∧ others t ∧
      SameBut (· == st) s t) ∧
    (Leads (.mgClear acc n) s fun t => t.fld st 0 4 = 1 ∧ t.mg i = [] ∧ others t ∧ SameBut (· == st) s t) ∧
    (Leads (.mgRead acc n) s fun t =>
      t.fld st 0 4 = 1 ∧ t.mgs = s.mgs ∧ ∀ j < 2, t.rd (mcgReg Reg.Mcg.MG_RD + 4 * j) = entWord (s.mg i) j)) ∧
  (∀ (s : State) (acc : Access) (tbl : Fin 3) (v : Word), Takes s acc (tblCmt tbl.val) →
    bitsOf v 16 3 = 0 ∨ (if tbl = 0 then 4 else 3) < bitsOf v 16 3 → Leads (.cmtBadOp acc tbl v) s fun t =>
      let st := if tbl = 0 then fwdReg Reg.Fwd.FDB_CMT_STAT else if tbl = 1 then sfltReg Reg.Sflt.SF_CMT_STAT
        else mcgReg Reg.Mcg.MG_CMT_STAT
      t.fld st 0 4 = 6 ∧ Keeps (· == st) s t) ∧
  (∀ s : State,
    (s.learnQ = [] → Leads .learnInsert s fun t => t = s) ∧
    (∀ x rest, s.learnQ = x :: rest →
      let base := s.fld (fwdReg Reg.Fwd.LEARN_CFG) 0 13
      let out := if isHost x.port then 2 ^ 29 else 2 ^ x.port
      (∀ i < 8192, base ≤ i → s.fdbFind x.mac x.vid = none → entValid (s.fdbEnt i) = false →
        (∀ j < i, base ≤ j → entValid (s.fdbEnt j) = true) → x.mac < 2 ^ 48 → x.vid < 2 ^ 12 → x.port < 29 →
        Leads .learnInsert s fun t =>
          t.learnQ = rest ∧ up1 s t (fwdReg Reg.Fwd.LEARN_ADD) ∧ entValid (t.fdbEnt i) = true ∧
          entMac (t.fdbEnt i) = x.mac ∧ entVid (t.fdbEnt i) = x.vid ∧ bitOf (entWord (t.fdbEnt i) 1) 30 = true ∧
          entWord (t.fdbEnt i) 2 = word out ∧ Touches (· == fwdReg Reg.Fwd.LEARN_ADD) s t) ∧
      (s.fdbFind x.mac x.vid = none → (∀ j < 8192, base ≤ j → entValid (s.fdbEnt j) = true) →
        Leads .learnInsert s fun t => t.learnQ = rest ∧ t.fdb = s.fdb ∧ up1 s t (fwdReg Reg.Fwd.LEARN_FULL)) ∧
      (∀ i, s.fdbFind x.mac x.vid = some i → Leads .learnInsert s fun t =>
        t.learnQ = rest ∧ t.fdb = s.fdb ∧
        t.rdN (fwdReg Reg.Fwd.LEARN_MOVE) = (if bitsOf (entWord (s.fdbEnt i) 2) 0 30 = out then
          s.rdN (fwdReg Reg.Fwd.LEARN_MOVE) else min 0xFFFFFFFF (s.rdN (fwdReg Reg.Fwd.LEARN_MOVE) + 1))))) ∧
  (∀ s : State,
    (s.frames = [] → Leads .residueEvaluate s (fun t => t = s) ∧ Leads .residueTimeout s (fun t => t.frames = [])) ∧
    (∀ f c n, s.frames = [f] → f.copies = [c] → c.residue = some n → c.port < 29 → c.q < 8 → c.begun = false →
      (s.admits c.port c.q = .ok → Leads .residueEvaluate s fun t =>
        up1 s t (mcgReg Reg.Mcg.RESIDUE_ADMIT) ∧ up1 s t (qReg c.port c.q Reg.Eq.ENQ_CNT) ∧ t.residueWait = 0) ∧
      (s.admits c.port c.q ≠ .ok → Leads .residueEvaluate s fun t =>
        t.residueWait = 1 ∧ t.regs = s.regs) ∧
      (n ≤ s.time.tbf.nsTotal → c.port < 26 → Leads .residueTimeout s fun t =>
        up1 s t (mcgReg Reg.Mcg.MC_RESIDUE_DROP + 4 * c.port) ∧ up1 s t (qReg c.port c.q Reg.Eq.TAIL_DROP) ∧
        t.residueWait = 0) ∧
      (s.time.tbf.nsTotal < n → Leads .residueTimeout s fun t => t.residueWait = 1)))


/-! ## Ports, field buses and inputs -/

/-- Ports (R431 to R440, R442): a link comes up at its resolved or forced speed with the role, its correction slot and what
negotiation recorded; it goes down, ending the frame in transmission and keeping those queued; a failed negotiation is flagged
and counted; ON and OFF follow ADMIN_EN and are UNSUPPORTED on P26 to P28; a cable measurement is refused while ADMIN_EN is 1
and else ends with the first row of R439 that holds; PLCA counts opportunities and flags two differing cycles; a collision is
a fault under PLCA, and under CSMA/CD a backoff, a drop when late, a drop at the sixteenth. -/
def Obligations.PortsAndCables : Prop :=
  let up1 (s t : State) (k : Nat) : Prop := t.rdN k = min 0xFFFFFFFF (s.rdN k + 1)
  let up16 (s t : State) (k lo : Nat) : Prop := t.fld k lo 16 = min 0xFFFF (s.fld k lo 16 + 1)
  (∀ (s : State) (p : Fin 27) (sp : Fin 3) (m : Bool) (lo : Word) (hi : Fin 65536),
    let k := portReg p.val
    let cfg := k Reg.Port.PORT_CFG
    let cor := tbcorBase + Reg.Tbcor.COR_STAT + 0x20 * p.val
    let raw := k Reg.Hdr.IRQ_RAW
    let an := decide (p < 22) && s.bit cfg 4
    let slot := if p.val < 2 ∨ 6 ≤ p.val then 0 else if an then sp.val else min 2 (s.fld cfg 12 3)
    let adv := decide (p.val < 2 ∨ 6 ≤ p.val) || s.bit cfg (8 + sp.val)
    let rate := if p.val < 2 then 25000 else if p.val < 6 then [2500, 5000, 10000].getD slot 0
      else if p.val < 14 then 1000 else if p.val < 22 then 100 else 10
    (p < 26 → s.domainOn (portPd p.val) = false ∨ s.bit cfg 0 = false ∨ s.portUp p.val = true ∨
        an = true ∧ (p.val ∈ s.anWait ∨ adv = false) → Leads (.linkUp p sp m lo hi) s fun t => t = s) ∧
    (p < 26 → s.domainOn (portPd p.val) = true → s.bit cfg 0 = true → s.portUp p.val = false →
      an = false ∨ p.val ∉ s.anWait ∧ adv = true → Leads (.linkUp p sp m lo hi) s fun t =>
        t.portUp p.val = true ∧ t.fld (k Reg.Port.PORT_STAT) 16 16 = rate ∧ t.bit raw 16 = true ∧
        t.bit (k Reg.Port.PORT_STAT) 1 = (if an then m else !(s.bit cfg 5)) ∧ t.bit (k Reg.Port.PORT_STAT) 2 = an ∧
        t.fld cor 0 2 = slot ∧ t.bit cor 2 = true ∧
        (an = true → t.rd (k Reg.Port.LP_PAGE_LO) = lo ∧ t.rdN (k Reg.Port.LP_PAGE_HI) = hi.val ∧ t.bit raw 17 = true) ∧
        SameBut (fun j => [k Reg.Port.PORT_STAT, cor, raw, k Reg.Port.LP_PAGE_LO, k Reg.Port.LP_PAGE_HI].contains j) s t ∧
        t = { s with
              regs := t.regs }) ∧
    (p = 26 → s.supplied = true → s.bit (sportReg Reg.Sport.SP_CFG) 0 = true → s.bit (sportReg Reg.Sport.SP_STAT) 0 = false →
      Leads (.linkUp p sp m lo hi) s fun t =>
        t.bit (sportReg Reg.Sport.SP_STAT) 0 = true ∧ t.bit (sportBase + Reg.Hdr.IRQ_RAW) 16 = true ∧
        SameBut (fun j => j == sportReg Reg.Sport.SP_STAT || j == sportBase + Reg.Hdr.IRQ_RAW) s t)) ∧
  (∀ (s : State) (p : Fin 27),
    let k := portReg p.val
    (p < 26 → s.domainOn (portPd p.val) = false ∨ s.portUp p.val = false → Leads (.linkDown p) s fun t => t = s) ∧
    (p < 26 → s.domainOn (portPd p.val) = true → s.portUp p.val = true →
      (s.frames = [] → Leads (.linkDown p) s fun t =>
        t.portUp p.val = false ∧ t.portRate p.val = 0 ∧ up1 s t (k Reg.Port.LINK_DOWN_CNT) ∧
        t.bit (k Reg.Hdr.IRQ_RAW) 16 = true) ∧
      (∀ f c, s.frames = [f] → f.copies = [c] → c.port = p.val → c.q < 8 →
        (c.begun = true → Leads (.linkDown p) s fun t =>
          t.portUp p.val = false ∧ (∀ g ∈ t.frames, g.copies = []) ∧ up1 s t (k Reg.Port.TX_ABORT) ∧ up1 s t (k Reg.Port.LINK_DOWN_CNT) ∧
          t.out = .frame p.val (f.sentOcts c) false :: s.out) ∧
        (c.begun = false → Leads (.linkDown p) s fun t =>
          t.portUp p.val = false ∧ t.frames.map (·.copies.length) = [1] ∧ t.out = s.out))) ∧
    (p = 26 → s.bit (sportReg Reg.Sport.SP_STAT) 0 = true → Leads (.linkDown p) s fun t =>
      t.bit (sportReg Reg.Sport.SP_STAT) 0 = false ∧ t.bit (sportBase + Reg.Hdr.IRQ_RAW) 16 = true)) ∧
  (∀ (s : State) (p : Fin 22),
    let k := portReg p.val
    (s.domainOn (portPd p.val) = false ∨ s.bit (k Reg.Port.PORT_CFG) 0 = false ∨ s.bit (k Reg.Port.PORT_CFG) 4 = false ∨
        s.portUp p.val = true ∨ p.val ∈ s.anWait → Leads (.anFail p) s fun t => t = s) ∧
    (s.domainOn (portPd p.val) = true → s.bit (k Reg.Port.PORT_CFG) 0 = true → s.bit (k Reg.Port.PORT_CFG) 4 = true →
      s.portUp p.val = false → p.val ∉ s.anWait → Leads (.anFail p) s fun t =>
        t.bit (k Reg.Port.PORT_STAT) 3 = true ∧ up1 s t (k Reg.Port.AN_FAIL_CNT) ∧ t.bit (k Reg.Hdr.IRQ_RAW) 18 = true ∧
        t.portUp p.val = false ∧ p.val ∈ t.anWait ∧
        SameBut (fun j => [k Reg.Port.PORT_STAT, k Reg.Port.AN_FAIL_CNT, k Reg.Hdr.IRQ_RAW].contains j) s t) ∧
    Leads (.anRetry p) s fun t => t = { s with
                                        anWait := s.anWait.filter (· != p.val) }) ∧
  (∀ (s : State) (acc : Access) (p : Fin 29),
    let k := portReg p.val
    let st := k Reg.Hdr.UNIT_STAT
    let raw := k Reg.Hdr.IRQ_RAW
    let ends (t : State) (r : CmdResult) : Prop := t.resp = .ok ∧ t.fld st 7 3 = r.code ∧ t.bit raw 2 = true
    (Takes s acc (k Reg.Hdr.UNIT_CTRL) →
      (26 ≤ p.val → Leads (.portOn acc p) s (fun t => ends t .unsupported ∧ Keeps (fun j => j == st || j == raw) s t) ∧
        Leads (.portOff acc p) s fun t => ends t .unsupported ∧ Keeps (fun j => j == st || j == raw) s t) ∧
      (p.val < 26 → Leads (.portOn acc p) s fun t =>
        ends t .done ∧ t.bit (k Reg.Port.PORT_CFG) 0 = true ∧ t.unitOn (portBase p.val) = true ∧
        Keeps (fun j => j == st || j == raw || j == k Reg.Port.PORT_CFG) s t) ∧
      (p.val < 26 → s.portUp p.val = false → Leads (.portOff acc p) s fun t =>
        ends t .done ∧ t.bit (k Reg.Port.PORT_CFG) 0 = false ∧ t.unitOn (portBase p.val) = false ∧
        Keeps (fun j => j == st || j == raw || j == k Reg.Port.PORT_CFG) s t) ∧
      (p.val < 26 → s.portUp p.val = true → s.frames = [] → Leads (.portOff acc p) s fun t =>
        ends t .done ∧ t.bit (k Reg.Port.PORT_CFG) 0 = false ∧ t.unitOn (portBase p.val) = false ∧
        t.portUp p.val = false ∧ up1 s t (k Reg.Port.LINK_DOWN_CNT))) ∧
    (∀ vf : Fin 256, Takes s acc (k Reg.Port.TDR_CTRL) →
      (26 ≤ p.val ∨ s.bit (k Reg.Port.TDR_STAT) 8 = true → Leads (.tdrGo acc p vf) s fun t =>
        t.resp = .ok ∧ Keeps (fun _ => false) s t) ∧
      (p.val < 26 → s.bit (k Reg.Port.TDR_STAT) 8 = false → s.bit (k Reg.Port.PORT_CFG) 0 = true →
        Leads (.tdrGo acc p vf) s fun t =>
          t.fld (k Reg.Port.TDR_STAT) 0 4 = 5 ∧ t.bit (k Reg.Port.TDR_STAT) 8 = false ∧ t.bit raw 19 = true ∧
          Keeps (fun j => j == k Reg.Port.TDR_STAT || j == raw) s t) ∧
      (p.val < 26 → s.bit (k Reg.Port.TDR_STAT) 8 = false → s.bit (k Reg.Port.PORT_CFG) 0 = false →
        Leads (.tdrGo acc p vf) s fun t =>
          t.bit (k Reg.Port.TDR_STAT) 8 = true ∧ Tbl.get 0 t.tdrVf p.val = (if vf = 0 then 179 else vf.val) ∧
          SameBut (· == k Reg.Port.TDR_STAT) s t))) ∧
  (∀ (s : State) (p : Fin 26) (refl : List (Fin 4096 × Int)) (noise : Bool),
    let k := portReg p.val
    let st := k Reg.Port.TDR_STAT
    let vf := Tbl.get 0 s.tdrVf p.val
    let ends (t : State) (r n : Nat) : Prop := t.fld st 0 4 = r ∧ t.fld st 9 3 = n ∧ t.bit st 8 = false ∧
      t.bit (k Reg.Hdr.IRQ_RAW) 19 = true ∧
      SameBut (fun j => decide (k Reg.Port.TDR_REFL ≤ j ∧ j < k Reg.Port.TDR_REFL + 16) || j == st ||
        j == k Reg.Hdr.IRQ_RAW) s t
    (s.bit st 8 = false ∨ s.gated 4 = true → Leads (.tdrDone p refl noise) s fun t => t = s) ∧
    (s.bit st 8 = true → s.gated 4 = false →
      Leads (.tdrDone p refl true) s (ends · 6 0) ∧
      Leads (.tdrDone p [] false) s (ends · 1 0) ∧
      (∀ (d : Fin 4096) (a : Int), -128 ≤ a → a ≤ 127 →
        let far := tdrDist d.val vf
        (far < 3 ∨ 600 < far ∨ a.natAbs < 8 → Leads (.tdrDone p [(d, a)] false) s (ends · 1 0)) ∧
        (3 ≤ far → far ≤ 600 → 8 ≤ a.natAbs → Leads (.tdrDone p [(d, a)] false) s fun t =>
          ends t (if 64 ≤ a then 2 else if a ≤ -64 then 3 else 4) 1 ∧
          t.fld (k Reg.Port.TDR_REFL) 0 12 = d.val ∧ t.fld (k Reg.Port.TDR_REFL) 12 12 = far ∧
          signedOf 8 (t.fld (k Reg.Port.TDR_REFL) 24 8) = a)))) ∧
  (∀ (s : State) (q : Fin 4) (seen : Fin 256),
    let p := 22 + q.val
    let cfg := portReg p Reg.Port.PLCA_CFG
    let st := portReg p Reg.Port.PLCA_STAT
    let nc := max 1 (min 32 (s.fld cfg 8 8))
    let raw := portReg p Reg.Hdr.IRQ_RAW
    (s.domainOn 8 = false ∨ s.plca p = false → Leads (.plcaCycle q seen) s fun t => t = s) ∧
    (s.domainOn 8 = true → s.plca p = true → s.fld cfg 0 8 = 0 → Leads (.plcaCycle q seen) s fun t =>
      t.bit st 0 = true ∧ t.fld st 8 8 = nc ∧ Touches (· == st) s t) ∧
    (s.domainOn 8 = true → s.plca p = true → s.fld cfg 0 8 ≠ 0 →
      let was := Tbl.get 0 s.plcaLast p
      (Leads (.plcaCycle q seen) s fun t => t.bit st 0 = true ∧ t.fld st 8 8 = seen.val ∧
        Tbl.get 0 t.plcaLast p = (if seen.val = nc then 1 else 2)) ∧
      (seen.val ≠ nc → was = 2 → s.bit st 1 = false → Leads (.plcaCycle q seen) s fun t =>
        t.bit st 1 = true ∧ up1 s t (portReg p Reg.Port.NC_MISMATCH_CNT) ∧ t.bit raw 20 = true) ∧
      (seen.val ≠ nc → was ≠ 2 ∨ s.bit st 1 = true → Leads (.plcaCycle q seen) s fun t =>
        t.bit st 1 = s.bit st 1 ∧ Touches (· == st) s t) ∧
      (seen.val = nc → Leads (.plcaCycle q seen) s fun t =>
        t.bit st 1 = (s.bit st 1 && !decide (was = 1)) ∧ Touches (· == st) s t))) ∧
  (∀ (s : State) (q : Fin 4) (late : Bool) (node : Fin 32),
    let p := 22 + q.val
    let st := portReg p Reg.Port.PLCA_STAT
    let cnt := portReg p Reg.Port.COLL_CNT
    let raw := portReg p Reg.Hdr.IRQ_RAW
    (s.domainOn 8 = false ∨ s.portUp p = false → Leads (.collision q late node) s fun t => t = s) ∧
    (s.domainOn 8 = true → s.portUp p = true → s.plca p = true → Leads (.collision q late node) s fun t =>
      up16 s t cnt 0 ∧ t.fld cnt 16 16 = s.fld cnt 16 16 ∧ t.bit st 2 = true ∧ t.fld st 16 5 = node.val ∧
      t.bit raw 20 = true ∧ t.frames.length = s.frames.length ∧ Touches (fun j => j == cnt || j == st || j == raw) s t) ∧
    (∀ f c, s.domainOn 8 = true → s.portUp p = true → s.plca p = false → s.frames = [f] → f.copies = [c] →
      c.port = p → c.q < 8 → c.begun = true →
      (Leads (.collision q true node) s fun t =>
        up16 s t cnt 16 ∧ t.fld cnt 0 16 = s.fld cnt 0 16 ∧ ∀ g ∈ t.frames, g.copies = []) ∧
      (15 ≤ c.tries → Leads (.collision q false node) s fun t =>
        up16 s t cnt 0 ∧ (∀ g ∈ t.frames, g.copies = []) ∧ up1 s t (portReg p Reg.Port.EXC_COLL_DROP) ∧ t.bit raw 21 = true) ∧
      (c.tries < 15 → Leads (.collision q false node) s fun t =>
        up16 s t cnt 0 ∧ t.frames.map (fun g => g.copies.map (·.tries)) = [[c.tries + 1]] ∧
        Touches (· == cnt) s t))) ∧
  (∀ (s : State) (q : Fin 4) (mask : Word),
    let p := 22 + q.val
    (s.domainOn 8 = false ∨ s.plca p = false ∨ s.fld (portReg p Reg.Port.PLCA_OBS) 0 16 = 0 →
      Leads (.plcaObsExpiry q mask) s fun t => t = s) ∧
    (s.domainOn 8 = true → s.plca p = true → s.fld (portReg p Reg.Port.PLCA_OBS) 0 16 ≠ 0 →
      Leads (.plcaObsExpiry q mask) s fun t =>
        t.rd (portReg p Reg.Port.PLCA_ACTIVE) = mask ∧ SameBut (· == portReg p Reg.Port.PLCA_ACTIVE) s t))

/-- Field buses and inputs (R443 to R446, R448 to R450, R452 to R455, R457): the messages of an accepted AVTP frame are queued
for their buses, those for a controller that is OFF or full dropped and counted; gathered messages leave as one frame when
AGG_TIME has passed, or at once where it is 0; a CAN message received is counted and forwarded or filtered; one sent leaves
its queue; one in error is retried up to TX_RETRY times; error states, bus-off, recovery and CLEAR; LIN headers and missing
responses; discrete and analog inputs; the limp-home comparison. -/
def Obligations.FieldBusesAndInputs : Prop :=
  let up1 (s t : State) (k : Nat) : Prop := t.rdN k = min 0xFFFFFFFF (s.rdN k + 1)
  (∀ s : State,
    let drop := fbioReg Reg.Fbio.GW_RX_DROP
    (s.gwRx = [] → Leads .gwFrameRx s fun t => t = s) ∧
    (∀ l rest, s.gwRx = l :: rest →
      let d := avtpData s.gwAddr (l.take (l.length - 4))
      (s.bit (fbioReg Reg.Fbio.GW_CFG) 0 = false ∨ d = none → Leads .gwFrameRx s fun t =>
        t.gwRx = rest ∧ up1 s t drop ∧ Touches (· == drop) s t) ∧
      (∀ x m, s.bit (fbioReg Reg.Fbio.GW_CFG) 0 = true → d = some x → splitAcf 512 x = ([m], false) →
        (parseAcf s.xlType m = none → Leads .gwFrameRx s fun t =>
          t.gwRx = rest ∧ up1 s t drop ∧ Touches (· == drop) s t) ∧
        (∀ k, parseAcf s.xlType m = some ⟨false, k, m⟩ → k < 12 →
          (s.fld (canBase k + Reg.Can.CAN_CFG) 0 2 = 0 ∨ 32 ≤ (s.canTxq k).length → Leads .gwFrameRx s fun t =>
            t.canTxq k = s.canTxq k ∧ up1 s t (canBase k + Reg.Can.TX_DROP) ∧
            t.bit (canBase k + Reg.Hdr.IRQ_RAW) 18 = true ∧ up1 s t (fbioReg Reg.Fbio.GW_TX_MSGS)) ∧
          (s.fld (canBase k + Reg.Can.CAN_CFG) 0 2 ≠ 0 → (s.canTxq k).length < 32 → Leads .gwFrameRx s fun t =>
            t.gwRx = rest ∧ t.canTxq k = s.canTxq k ++ [{ octs := m }] ∧ up1 s t (fbioReg Reg.Fbio.GW_TX_MSGS) ∧
            SameBut (· == fbioReg Reg.Fbio.GW_TX_MSGS) s t)) ∧
        (∀ k, parseAcf s.xlType m = some ⟨true, k, m⟩ → k < 8 →
          (s.fld (linBase k + Reg.Lin.LIN_CFG) 0 2 = 1 → Leads .gwFrameRx s fun t =>
            Tbl.get [] t.linQ k = Tbl.get [] s.linQ k ++ [linParts m] ∧ up1 s t (fbioReg Reg.Fbio.GW_TX_MSGS)) ∧
          (s.fld (linBase k + Reg.Lin.LIN_CFG) 0 2 = 3 → Leads .gwFrameRx s fun t =>
            Tbl.get [] t.linData (64 * k + (linParts m).1) = (linParts m).2))))) ∧
  (∀ (s : State) (bus : Fin 24),
    let a := s.agg bus.val
    let due := a.first + 1000 * s.fld (fbioReg Reg.Fbio.GW_AGG_TIME) 0 16 ≤ s.time.tbf.nsTotal
    (a.msgs = [] ∨ ¬due → Leads (.gwAggSend bus) s fun t => t = s) ∧
    (a.msgs ≠ [] → due → Leads (.gwAggSend bus) s fun t =>
      t.gwTx = s.gwTx ++ [s.gwFrame bus.val (Tbl.get 0 s.aggSeq bus.val) a.msgs] ∧ (t.agg bus.val).msgs = [] ∧
      t.rdN (fbioReg Reg.Fbio.GW_RX_MSGS) = min 0xFFFFFFFF (s.rdN (fbioReg Reg.Fbio.GW_RX_MSGS) + a.msgs.length) ∧
      SameBut (· == fbioReg Reg.Fbio.GW_RX_MSGS) s t)) ∧
  (∀ (s : State) (k : Fin 12),
    let r := canReg k.val
    let raw := r Reg.Hdr.IRQ_RAW
    let st := r Reg.Can.CAN_STAT
    let q := s.canTxq k.val
    let bo := s.fld st 0 2 = 2
    (∀ (m : CanMsg) (ago : Nat),
      (s.canRuns k.val = false ∨ s.fld (r Reg.Can.CAN_CFG) 0 2 ≤ m.fmt.val ∨ bo →
        Leads (.canRx k m ago) s fun t => t = s) ∧
      (s.canRuns k.val = true → m.fmt.val < s.fld (r Reg.Can.CAN_CFG) 0 2 → ¬bo →
        (s.canAccepts k.val m = false → Leads (.canRx k m ago) s fun t =>
          up1 s t (r Reg.Can.RX_CNT) ∧ up1 s t (r Reg.Can.RX_FILTERED) ∧
          Touches (fun j => j == r Reg.Can.RX_CNT || j == r Reg.Can.RX_FILTERED) s t ∧ t.gwTx = s.gwTx) ∧
        (s.canAccepts k.val m = true → s.bit (fbioReg Reg.Fbio.GW_CFG) 0 = true → (s.agg k.val).msgs = [] →
          let x := canAcf s.xlType k.val m ((s.tb0.nsTotal - ago) % 2 ^ 64)
          (s.fld (fbioReg Reg.Fbio.GW_AGG_TIME) 0 16 = 0 → Leads (.canRx k m ago) s fun t =>
            up1 s t (r Reg.Can.RX_CNT) ∧ (t.agg k.val).msgs = [] ∧
            t.gwTx = s.gwTx ++ [s.gwFrame k.val (Tbl.get 0 s.aggSeq k.val) [x]]) ∧
          (s.fld (fbioReg Reg.Fbio.GW_AGG_TIME) 0 16 ≠ 0 → 1 < s.fld (fbioReg Reg.Fbio.GW_CFG) 16 5 →
            Leads (.canRx k m ago) s fun t =>
              up1 s t (r Reg.Can.RX_CNT) ∧ t.agg k.val = ⟨[x], s.time.tbf.nsTotal⟩ ∧ t.gwTx = s.gwTx)))) ∧
    (s.canSends k.val = false → Leads (.canTxDone k) s fun t => t = s) ∧
    (∀ m rest, s.canSends k.val = true → q = m :: rest →
      (s.bit (r Reg.Can.CAN_CFG) 4 = false → Leads (.canTxDone k) s fun t =>
        t.canTxq k.val = rest ∧ up1 s t (r Reg.Can.TX_CNT) ∧ SameBut (· == r Reg.Can.TX_CNT) s t) ∧
      (∀ n, rest = [n] → s.bit (r Reg.Can.CAN_CFG) 4 = true → Leads (.canTxDone k) s fun t =>
        t.canTxq k.val = [if arbField n.octs < arbField m.octs then m else n] ∧ up1 s t (r Reg.Can.TX_CNT)) ∧
      (s.bit (r Reg.Can.CAN_CFG) 4 = false →
        let retry := s.fld (r Reg.Can.CAN_CFG) 8 4
        (retry = 0 ∨ m.tries < retry → Leads (.canTxError k false) s fun t =>
          t.canTxq k.val = { m with tries := m.tries + 1 } :: rest ∧ up1 s t (r Reg.Can.ERR_CNT)) ∧
        (retry ≠ 0 → retry ≤ m.tries → Leads (.canTxError k false) s fun t =>
          t.canTxq k.val = rest ∧ up1 s t (r Reg.Can.ERR_CNT) ∧ up1 s t (r Reg.Can.TX_DROP) ∧ t.bit raw 18 = true))) ∧
    Leads (.canTxError k true) s (fun t => t = s) ∧
    (s.canRuns k.val = false ∨ bo → Leads (.canBusOff k) s (fun t => t = s) ∧
      ∀ pas tec rec n, Leads (.canErrState k pas tec rec n) s (fun t => t = s)) ∧
    (s.canRuns k.val = true → ¬bo →
      (Leads (.canBusOff k) s fun t =>
        t.fld st 0 2 = 2 ∧ up1 s t (r Reg.Can.BUSOFF_CNT) ∧ t.bit raw 16 = true ∧ t.bit raw 17 = true ∧
        t.bit st 24 = s.bit (r Reg.Can.CAN_CFG) 3 ∧ t.canTxq k.val = q ∧
        SameBut (fun j => j == st || j == raw || j == r Reg.Can.BUSOFF_CNT) s t) ∧
      (∀ pas tec rec n, Leads (.canErrState k pas tec rec n) s fun t =>
        t.fld st 0 2 = (if pas then 1 else 0) ∧ t.fld st 8 8 = tec.val ∧ t.fld st 16 8 = rec.val ∧
        t.rdN (r Reg.Can.ERR_CNT) = min 0xFFFFFFFF (s.rdN (r Reg.Can.ERR_CNT) + n) ∧
        (s.fld st 0 2 ≠ (if pas then 1 else 0) → t.bit raw 16 = true) ∧
        Touches (fun j => j == st || j == raw || j == r Reg.Can.ERR_CNT) s t)) ∧
    (s.canRuns k.val = false ∨ s.bit st 24 = false → Leads (.canRecoveryDone k) s fun t => t = s) ∧
    (s.canRuns k.val = true → s.bit st 24 = true → Leads (.canRecoveryDone k) s fun t =>
      t.bit st 24 = false ∧ t.fld st 0 2 = 0 ∧ t.fld st 8 16 = 0 ∧ t.canTxq k.val = q ∧
      SameBut (fun j => j == st || j == raw) s t) ∧
    (∀ acc, Takes s acc (r Reg.Hdr.UNIT_CTRL) → Leads (.canClear acc k) s fun t =>
      t.resp = .ok ∧ t.fld (r Reg.Hdr.UNIT_STAT) 7 3 = (if bo then CmdResult.done else CmdResult.unsupported).code ∧
      t.bit raw 2 = true ∧ (bo → t.bit st 24 = true) ∧
      Keeps (fun j => j == r Reg.Hdr.UNIT_STAT || j == raw || decide (bo ∧ j = st)) s t)) ∧
  (∀ (s : State) (k : Fin 8) (id : Fin 64) (ago : Nat),
    let r := linReg k.val
    let raw := r Reg.Hdr.IRQ_RAW
    let map := r Reg.Lin.NO_RESP_MAP + 4 * (id.val / 32)
    let runs := s.domainOn 9 = true ∧ s.gated 7 = false ∧ s.bit (r Reg.Lin.LIN_CFG) 0 = true
    let popped := match Tbl.get [] s.linQ k.val with
      | (i, d) :: rest => if i = id.val then rest else (i, d) :: rest
      | [] => []
    (¬runs → (∀ res, Leads (.linHeader k id res ago) s fun t => t = s) ∧ Leads (.linNoResp k id) s fun t => t = s) ∧
    (runs →
      (Leads (.linHeader k id .checksum ago) s fun t =>
        up1 s t (r Reg.Lin.CKSUM_ERR_CNT) ∧ t.bit raw 17 = true ∧ Tbl.get [] t.linQ k.val = popped ∧ t.gwTx = s.gwTx ∧
        SameBut (fun j => j == r Reg.Lin.CKSUM_ERR_CNT || j == raw) s t) ∧
      (Leads (.linHeader k id .bits ago) s fun t =>
        up1 s t (r Reg.Lin.BIT_ERR_CNT) ∧ t.bit raw 17 = true ∧ Tbl.get [] t.linQ k.val = popped ∧ t.gwTx = s.gwTx ∧
        SameBut (fun j => j == r Reg.Lin.BIT_ERR_CNT || j == raw) s t) ∧
      (∀ d, s.bit (fbioReg Reg.Fbio.GW_CFG) 0 = true → s.fld (fbioReg Reg.Fbio.GW_AGG_TIME) 0 16 = 0 →
        (s.agg (16 + k.val)).msgs = [] →
        Leads (.linHeader k id (.complete d) ago) s fun t =>
          Tbl.get [] t.linQ k.val = popped ∧ t.gwTx = s.gwTx ++ [s.gwFrame (16 + k.val) (Tbl.get 0 s.aggSeq (16 + k.val))
            [linAcf k.val id.val ((s.linOwn k.val id.val).getD d) ((s.tb0.nsTotal - ago) % 2 ^ 64)]]) ∧
      (Leads (.linNoResp k id) s fun t =>
        up1 s t (r Reg.Lin.NO_RESP_CNT) ∧ t.bit map (id.val % 32) = true ∧
        t.fld (r Reg.Lin.LAST_NO_RESP) 0 6 = id.val ∧ t.bit (r Reg.Lin.LAST_NO_RESP) 31 = true ∧ t.bit raw 16 = true ∧
        Tbl.get [] t.linQ k.val = popped ∧
        Touches (fun j => j == r Reg.Lin.NO_RESP_CNT || j == map || j == r Reg.Lin.LAST_NO_RESP || j == raw) s t))) ∧
  (∀ (s : State) (i : Fin 96) (lv : Bool),
    let now := lv != s.bit (diBase + Reg.Di.DI_CFG + 4 * i.val) 11
    let k := diBase + Reg.Di.DI_LEVEL + 4 * (i.val / 32)
    let c := diBase + Reg.Di.DI_CHG + 4 * (i.val / 32)
    let raw := diBase + Reg.Hdr.IRQ_RAW
    (s.domainOn 9 = false ∨ s.bit k (i.val % 32) = now → Leads (.diChange i lv) s fun t => t = s) ∧
    (s.domainOn 9 = true → s.bit k (i.val % 32) ≠ now → Leads (.diChange i lv) s fun t =>
      t.bit k (i.val % 32) = now ∧ t.bit c (i.val % 32) = true ∧
      (s.bit c (i.val % 32) = false → t.bit raw 16 = true) ∧ SameBut (fun j => j == k || j == c || j == raw) s t)) ∧
  (∀ (s : State) (m : Fin 4) (code : Fin 65536),
    ((s.ai m.val).busy = none → Leads (.aiConversion m code) s fun t => t = s) ∧
    (∀ i o slip, (s.ai m.val).busy = some (i, o, slip) → i < 48 → o < 3 → Leads (.aiConversion m code) s fun t =>
      let k := aiBase + Reg.Ai.AI_DATA + 4 * i
      t.fld k 0 16 = code.val ∧ t.fld k 16 2 = o ∧ t.bit k 18 = slip ∧
      t.bit k 19 = s.bit (aiBase + Reg.Ai.AI_LOWR + 4 * (i / 32)) (i % 32) ∧ t.bit k 31 = true ∧ Touches (· == k) s t ∧
      ((s.ai m.val).reqs = [] → (s.ai m.val).scan = [] → (t.ai m.val).busy = none))) ∧
  (∀ s : State,
    (s.domainOn 9 = false → Leads .aiScan s fun t => t = s) ∧
    (s.domainOn 9 = true → s.aiConv = [] → s.placed = [] → s.rd (aiBase + Reg.Ai.AI_SCAN_EN) = 0x1005 →
      s.rd (aiBase + Reg.Ai.AI_SCAN_EN + 4) = 0 → Leads .aiScan s fun t =>
        (t.ai 0).busy = some (0, 1, false) ∧ (t.ai 0).scan = [2] ∧ (t.ai 1).busy = some (12, 1, false) ∧
        (t.ai 2).busy = none ∧ (t.ai 3).busy = none ∧ t.regs = s.regs)) ∧
  (∀ (s : State) (acc : Access) (v : Word), Takes s acc (aiBase + Reg.Ai.AI_SW_CONV) →
    let i := bitsOf v 0 6
    (bitOf v 8 = false ∨ 48 ≤ i → Leads (.aiSwConv acc v) s fun t => t.resp = .ok ∧ Keeps (fun _ => false) s t) ∧
    (bitOf v 8 = true → i < 48 → s.ai (i / 12) = {} → Leads (.aiSwConv acc v) s fun t =>
      t.resp = .ok ∧ (t.ai (i / 12)).busy = some (i, 2, false) ∧ SameBut (fun _ => false) s t) ∧
    (∀ x, bitOf v 8 = true → i < 48 → (s.ai (i / 12)).busy = some x → Leads (.aiSwConv acc v) s fun t =>
      t.resp = .ok ∧ (t.ai (i / 12)).busy = some x ∧ (t.ai (i / 12)).reqs = (s.ai (i / 12)).reqs ++ [(i, 2, false)])) ∧
  (∀ (s : State) (i : Fin 16),
    let k := lhBase + Reg.Lh.LH_DIFF
    (s.lhDiffers i.val = false → Leads (.lhDiffTimer i) s fun t => t.bit k i.val = false ∧ SameBut (· == k) s t) ∧
    (s.domainOn 9 = true → s.lhDiffers i.val = true → s.bit k i.val = false → Leads (.lhDiffTimer i) s fun t =>
      t.bit k i.val = true ∧ t.bit (lhBase + Reg.Hdr.IRQ_RAW) 16 = true ∧
      SameBut (fun j => j == k || j == lhBase + Reg.Hdr.IRQ_RAW) s t))


/-! ## Virtual instances -/

/-- Virtual instances (R463, R464, R466 to R472, R474 to R477, R480, R481, R483): QASSIGN and CTX_VI writes are taken or
refused and recorded; each VI command is refused by the name R475 gives for the state, changing no state, or enters its state;
a quiesce completes when no work is in flight, into FROZEN with the snapshot after FREEZE; VRST leaves the VI stopped with its
queues, deficits and contexts cleared and its generation counted on; SAVE and RESTORE end with their results; DOORBELL, Q_WR and
Q_RD move the index the direction leaves to software and nothing while FROZEN; host transmit by the queues, each frame but a
Span frame contributing its FCS to the comparison (R284) and one of a half that is not ACTIVE discarded (R269); host receive
in ascending INSEQ (R264), to a half in step alone; drops counted; buckets refill; a round starts over the VIs of weight 1 or more. -/
def Obligations.VirtualInstances : Prop :=
  let up1 (s t : State) (k : Nat) : Prop := t.rdN k = min 0xFFFFFFFF (s.rdN k + 1)
  let irq0 := viBase 0 + Reg.Hdr.IRQ_RAW
  (∀ (s : State) (acc : Access) (n : Fin 128) (v : Word), Takes s acc (qassignKey n.val) →
    let st := vi0Reg Reg.Vi0.ASSIGN_STAT
    let base := bitsOf v 0 10
    let cnt := bitsOf v 16 7
    let mine (b c i : Nat) : Prop := b ≤ i ∧ i < b + c
    let refused : Prop := 64 < cnt ∨ 1024 < base + cnt ∨
      (∃ m ∈ List.range 128, m ≠ 0 ∧ m ≠ n.val ∧ 0 < cnt ∧ 0 < s.qCount m ∧ base < s.qBase m + s.qCount m ∧
        s.qBase m < base + cnt) ∨
      (∃ i ∈ List.range 1024, decide (mine (s.qBase n.val) (s.qCount n.val) i) ≠ decide (mine base cnt i) ∧
        s.poolOn i = true)
    (n = 0 → Leads (.qassignWrite acc n v) s fun t => t.resp = .ok ∧ Keeps (fun _ => false) s t) ∧
    (n ≠ 0 → refused → Leads (.qassignWrite acc n v) s fun t =>
      t.resp = .ok ∧ t.bit st 0 = true ∧ t.fld st 16 7 = n.val ∧ t.bit st 31 = true ∧ t.bit irq0 18 = true ∧
      Keeps (fun k => k == st || k == irq0) s t) ∧
    (n ≠ 0 → ¬refused → Leads (.qassignWrite acc n v) s fun t =>
      t.resp = .ok ∧ t.qBase n.val = base ∧ t.qCount n.val = cnt ∧ Keeps (· == qassignKey n.val) s t)) ∧
  (∀ (s : State) (acc : Access) (w : Fin 64) (v : Word),
    let k := vi0Reg Reg.Vi0.CTX_VI + 4 * w.val
    let st := vi0Reg Reg.Vi0.ASSIGN_STAT
    Takes s acc k → Leads (.ctxViWrite acc w v) s fun t =>
      t.resp = .ok ∧ SameBut (fun j => j == k || j == st) s t ∧
      ∀ b < 4,
        let c := 4 * w.val + b
        let own := bitsOf v (8 * b) 7
        (s.ctxRef c = false → t.ctxOwner c = own) ∧
        (s.ctxRef c = false → own ≠ s.ctxOwner c → Tbl.get {} t.ctxs c = {}) ∧
        (s.ctxRef c = true → t.ctxOwner c = s.ctxOwner c) ∧
        (s.ctxRef c = true → own ≠ s.ctxOwner c → t.bit st 1 = true ∧ t.bit st 31 = true) ∧
        (s.ctxRef c = true ∨ own = s.ctxOwner c → Tbl.get {} t.ctxs c = Tbl.get {} s.ctxs c)) ∧
  (∀ (s : State) (acc : Access) (n : Fin 128), Takes s acc (vi0Reg Reg.Vi0.VI_CMD) →
    let cs := vi0Reg Reg.Vi0.VI_CMD_STAT
    let vs := viReg n.val Reg.Vi.VI_STAT
    let st := s.viState n.val
    let stat (t : State) (r : Nat) : Prop := t.resp = .ok ∧ t.fld cs 0 4 = r ∧ t.fld cs 16 7 = n.val
    let no (c : Instr) (r : Nat) : Prop := Leads c s fun t => stat t r ∧ Keeps (· == cs) s t
    let enter (t : State) (v : Nat) : Prop := stat t 1 ∧ t.viState n.val = v ∧
      SameBut (fun k => [cs, vs, viReg n.val Reg.Hdr.UNIT_STAT, viReg n.val Reg.Hdr.IRQ_RAW, irq0].contains k) s t
    let done (t : State) (v : Nat) : Prop := enter t v ∧ t.fld vs 4 4 = 1 ∧ t.bit irq0 16 = true
    let all (r : Nat) : Prop := no (.viEnable acc n) r ∧ no (.viQuiesce acc n) r ∧ no (.viResume acc n) r ∧
      no (.viFreeze acc n) r ∧ no (.viSave acc n 7) r ∧ no (.viRestore acc n 7) r ∧ no (.viVrst acc n) r ∧
      no (.viVrstForce acc n) r
    (n = 0 → all 6) ∧
    (n ≠ 0 → st = 5 ∨ st = 6 → all 2) ∧
    (n ≠ 0 → st < 5 →
      (st = 0 → Leads (.viEnable acc n) s (done · 1)) ∧ (st ≠ 0 → no (.viEnable acc n) 3) ∧
      (st = 0 → no (.viQuiesce acc n) 3) ∧ (st = 1 → Leads (.viQuiesce acc n) s (enter · 2)) ∧
      (2 ≤ st → Leads (.viQuiesce acc n) s (done · st)) ∧
      (st < 2 → no (.viResume acc n) 3) ∧ (2 ≤ st → Leads (.viResume acc n) s (done · 1)) ∧
      (st = 0 → no (.viFreeze acc n) 3) ∧
      (st = 1 ∨ st = 2 → Leads (.viFreeze acc n) s fun t => enter t 2 ∧ n.val ∈ t.viFreeze) ∧
      (3 ≤ st → Leads (.viFreeze acc n) s (done · 4)) ∧
      (st = 3 → Leads (.viFreeze acc n) s fun t => (Tbl.get none t.viSnaps n.val).isSome = true) ∧
      (st = 1 ∨ st = 2 → no (.viVrst acc n) 4) ∧
      (st ≠ 1 → st ≠ 2 → Leads (.viVrst acc n) s (enter · 5)) ∧
      Leads (.viVrstForce acc n) s (enter · 5) ∧
      ∀ mig : Fin 256,
        (st ≠ 4 → no (.viSave acc n mig) 5) ∧ (st ≠ 0 → no (.viRestore acc n mig) 3) ∧
        (st = 4 → s.viImage = none → Leads (.viSave acc n mig) s fun t =>
          enter t 6 ∧ t.viImage = some (n.val, false, mig.val)) ∧
        (st = 0 → s.viImage = none → Leads (.viRestore acc n mig) s fun t =>
          enter t 6 ∧ t.viImage = some (n.val, true, mig.val)) ∧
        (st = 4 → s.viImage ≠ none → no (.viSave acc n mig) 2) ∧
        (st = 0 → s.viImage ≠ none → no (.viRestore acc n mig) 2))) ∧
  (∀ (s : State) (n : Fin 128),
    let vs := viReg n.val Reg.Vi.VI_STAT
    let ended (t : State) (v : Nat) : Prop := t.viState n.val = v ∧ t.fld vs 4 4 = 1 ∧ t.bit irq0 16 = true
    (s.viState n.val ≠ 2 ∨ s.viBusyWork n.val = true → Leads (.quiesceComplete n) s fun t => t = s) ∧
    (n ≠ 0 → s.viState n.val = 2 → s.viBusyWork n.val = false →
      (n.val ∉ s.viFreeze → Leads (.quiesceComplete n) s (ended · 3)) ∧
      (n.val ∈ s.viFreeze → Leads (.quiesceComplete n) s fun t =>
        ended t 4 ∧ n.val ∉ t.viFreeze ∧
        ∃ x, Tbl.get none t.viSnaps n.val = some x ∧
          x.queues = (List.range (s.qCount n.val)).map (fun q => s.hq s.activeHalf n.val q) ∧
          x.slots.map (·.1) = s.viSlots n.val ∧ x.ctxs.map (·.1) = s.viCtxs n.val ∧
          x.gen = s.gen (viBase n.val))) ∧
    (s.viState n.val ≠ 5 ∨ s.viBusyWork n.val = true → Leads (.vrstComplete n) s fun t => t = s) ∧
    (n ≠ 0 → s.viState n.val = 5 → s.viBusyWork n.val = false →
      (Leads (.vrstComplete n) s fun t =>
        ended t 0 ∧ t.gen (viBase n.val) = (if s.gen (viBase n.val) = 0xFFFF then 1 else s.gen (viBase n.val) + 1) ∧
        (∀ h, ∀ q < 64, q < s.qCount n.val → t.hq h n.val q = {}) ∧ (∀ e < 6, t.deficit e n.val = 0) ∧
        t.bucket n.val = s.tbBurst n.val * 1024 ∧
        (∀ c ∈ s.viCtxs n.val, Tbl.get {} t.ctxs c = {} ∧ t.ctxOwner c = n.val)) ∧
      (∀ f c, s.frames = [f] → f.copies = [c] → c.port < 29 → c.q < 8 → c.begun = false → c.residue = none →
        s.fld (portBase c.port + Reg.Hdr.OWNER) 1 7 = n.val → Leads (.vrstComplete n) s fun t =>
          up1 s t (viReg n.val Reg.Vi.VRST_FLUSH) ∧ ∀ g ∈ t.frames, g.copies = []))) ∧
  (∀ (s : State) (n : Nat) (mig : Nat) (l : List Nat), 0 < n → n < 128 →
    let vs := viReg n Reg.Vi.VI_STAT
    let ended (t : State) (v r : Nat) : Prop :=
      t.viState n = v ∧ t.fld vs 4 4 = r ∧ t.bit irq0 16 = true ∧ t.viImage = none
    (s.viImage = none → Leads .saveComplete s (fun t => t = s) ∧ Leads (.restoreComplete l) s fun t => t = s) ∧
    (∀ x, s.viImage = some (n, false, mig) → Tbl.get none s.viSnaps n = some x →
      (16 < x.ctxs.length ∨ 32 < x.slots.length → Leads .saveComplete s fun t => ended t 4 7 ∧ t.out = s.out) ∧
      (∀ p, x.ctxs.length ≤ 16 → x.slots.length ≤ 32 → (s.slot p).vi ≠ n → x.slots ≠ [] →
        (∀ e ∈ x.slots, e.2.parent = some p) → Leads .saveComplete s fun t => ended t 4 8 ∧ t.out = s.out) ∧
      (x.ctxs.length ≤ 16 → x.slots.length ≤ 32 → (∀ e ∈ x.slots, e.2.parent = none) →
        (s.migKey mig = none → Leads .saveComplete s fun t => ended t 4 12 ∧ t.out = s.out) ∧
        (∀ k, s.migKey mig = some k → s.running .a = true → s.running .b = false → Leads .saveComplete s fun t =>
          ended t 4 1 ∧ t.out = .memWrite .a s.imgAddr (s.viImg n k x) :: s.out))) ∧
    (s.viImage = some (n, true, mig) →
      (s.migKey mig = none → Leads (.restoreComplete l) s fun t => ended t 0 12 ∧ t.hqs = s.hqs) ∧
      (∀ k, s.migKey mig = some k → imgWord l 0 ≠ 0x5A564931 → Leads (.restoreComplete l) s fun t =>
        ended t 0 9 ∧ t.hqs = s.hqs) ∧
      (let r := s.restoreResult n mig l
       Leads (.restoreComplete l) s fun t =>
        (r ≠ 1 → ended t 0 r ∧ t.hqs = s.hqs ∧ t.slots = s.slots) ∧
        (r = 1 → ended t 4 1 ∧ t.gen (viBase n) = (if s.gen (viBase n) = 0xFFFF then 1 else s.gen (viBase n) + 1) ∧
          t.rd (shareKey n Reg.Vi0.SHARE_W) = imgWord l 0x40 ∧
          ∀ h, ∀ q < bitsOf (imgWord l 0x18) 0 7, (t.hq h n q).lo = imgWord l (0x60 + 16 * q) ∧
            (t.hq h n q).cfg = imgWord l (0x68 + 16 * q))))) ∧
  (∀ (s : State) (acc : Access) (m : Fin 127) (v : Word),
    let n := m.val + 1
    let h := s.viBank acc
    let prim := viBase n
    let locked (c : Instr) : Prop := Leads c s fun t =>
      t.bit (prim + Reg.Hdr.UNIT_STAT) 11 = true ∧ t.hqs = s.hqs
    let none' (c : Instr) : Prop := Leads c s fun t => t.resp = .ok ∧ Keeps (fun _ => false) s t
    let rd (c : Instr) (q x : Nat) : Prop := Leads c s fun t =>
      t.resp = .ok ∧ t.hq h n q = { s.hq h n q with rd := x } ∧ SameBut (fun _ => false) s t
    let wr (c : Instr) (q x : Nat) : Prop := Leads c s fun t =>
      t.resp = .ok ∧ t.hq h n q = { s.hq h n q with wr := x } ∧ SameBut (fun _ => false) s t
    (Takes s acc (viReg n Reg.Vi.DOORBELL) →
      let q := bitsOf v 0 6
      (s.viState n = 4 → locked (.doorbell acc m v)) ∧
      (s.viState n ≠ 4 → s.qCount n ≤ q → none' (.doorbell acc m v)) ∧
      (s.viState n ≠ 4 → q < s.qCount n →
        (bitOf (s.hq h n q).cfg 1 = true → rd (.doorbell acc m v) q (bitsOf v 16 16)) ∧
        (bitOf (s.hq h n q).cfg 1 = false → wr (.doorbell acc m v) q (bitsOf v 16 16)))) ∧
    (let q := s.qSel h n
     (Takes s acc (viReg n Reg.Vi.Q_WR) →
       (s.viState n = 4 → locked (.qWrWrite acc m v)) ∧
       (s.viState n ≠ 4 → bitOf (s.hq h n q).cfg 1 = true ∨ s.qCount n ≤ q → none' (.qWrWrite acc m v)) ∧
       (s.viState n ≠ 4 → bitOf (s.hq h n q).cfg 1 = false → q < s.qCount n → wr (.qWrWrite acc m v) q (bitsOf v 0 16))) ∧
     (Takes s acc (viReg n Reg.Vi.Q_RD) →
       (s.viState n = 4 → locked (.qRdWrite acc m v)) ∧
       (s.viState n ≠ 4 → bitOf (s.hq h n q).cfg 1 = false ∨ s.qCount n ≤ q → none' (.qRdWrite acc m v)) ∧
       (s.viState n ≠ 4 → bitOf (s.hq h n q).cfg 1 = true → q < s.qCount n →
         rd (.qRdWrite acc m v) q (bitsOf v 0 16))))) ∧
  (∀ (s : State) (h : Half) (d : List Word) (l : List Nat),
    (s.domainOn 6 = false → Leads (.hostTxFetch h d l) s fun t => t = s) ∧
    ((∀ n < 128, s.txElig h n = false) → Leads (.hostTxFetch h d l) s fun t =>
      t.regs = s.regs ∧ t.hqs = s.hqs ∧ t.hostTxA = s.hostTxA ∧ t.hostTxB = s.hostTxB) ∧
    (∀ n w q, s.domainOn 6 = true → 0 < n → n < 128 → s.txElig h n = true → s.dwrr h.idx = { todo := [(n, w)] } → 0 < w →
      s.deficit h.idx n = 0 → s.txNext h n = some q →
      let f := descFrame d l
      let p := 26 + h.idx
      let ended (t : State) (k : Nat) : Prop := up1 s t k ∧
        (t.hq h n q).rd = ((s.hq h n q).rd + 1) % (s.hq h n q).len ∧ t.hostTxA = s.hostTxA ∧ t.hostTxB = s.hostTxB
      (descBad p d = true → Leads (.hostTxFetch h d l) s fun t =>
        t.fld (swReg Reg.Sw.HOST_DESC_ERR) (16 * h.idx) 16 =
          min 0xFFFF (s.fld (swReg Reg.Sw.HOST_DESC_ERR) (16 * h.idx) 16 + 1) ∧
        (t.hq h n q).rd = ((s.hq h n q).rd + 1) % (s.hq h n q).len ∧ t.hostTxA = s.hostTxA ∧ t.hostTxB = s.hostTxB) ∧
      let span := etherType f = 0x88B6
      let fcs := (List.range 4).foldl (fun a i => a + (f.drop (f.length - 4)).getD i 0 % 256 * 256 ^ i) 0
      let writes := lreg h Reg.Local.CMP_WRITES
      let fold (t : State) : Prop := ¬span →
        (t.halfSt h).crc = (octets 2 ++ octets (word fcs)).foldl crcByte (s.halfSt h).crc ∧
        t.rdN writes = (s.rdN writes + 1) % 2 ^ 32
      (descBad p d = false → s.role h ≠ roleActive → ¬span → Leads (.hostTxFetch h d l) s fun t =>
        ended t (hreg h Reg.Half.HOST_TX_DISCARD) ∧ fold t) ∧
      (descBad p d = false → s.role h = roleActive ∨ span → s.busRefused n f = true → Leads (.hostTxFetch h d l) s fun t =>
        ended t (viReg n Reg.Vi.BUS_REFUSED) ∧ fold t) ∧
      (descBad p d = false → s.role h = roleActive ∨ span → s.busRefused n f = false → Leads (.hostTxFetch h d l) s fun t =>
        (h = .a → t.hostTxA = s.hostTxA ++ [⟨n, q, d, f⟩]) ∧ (h = .b → t.hostTxB = s.hostTxB ++ [⟨n, q, d, f⟩]) ∧
        t.hqs = s.hqs ∧ fold t ∧ SameBut (fun k => decide (¬span) && k == writes) s t ∧
        (s.tbRate n ≠ 0 → t.bucket n = s.bucket n - 1024 * (bitsOf (d.getD 2 0) 0 14 : Int))))) ∧
  (∀ (s : State) (h : Half),
    let q0 := if h = .a then s.hostRxA else s.hostRxB
    let left (t : State) : List RxItem := if h = .a then t.hostRxA else t.hostRxB
    let noq := vi0Reg Reg.Vi0.RX_NOQ
    s.ringDue = [] →
    (q0 = [] ∨ (∀ x ∈ q0, ownType x.octs = true) → Leads (.hostRxDeliver h) s fun t => t = s) ∧
    (∀ x, q0 = [x] → (∃ n ∈ s.framesDue h, n < x.inseq) → Leads (.hostRxDeliver h) s fun t => t = s) ∧
    (∀ x y, q0 = [x, y] → ownType x.octs = false → ownType y.octs = false → y.inseq < x.inseq → s.frames = [] →
      Leads (.hostRxDeliver h) s fun t => left t = [x]) ∧
    (∀ x, q0 = [x] → etherType x.octs ≠ 0x88B6 → etherType x.octs ≠ 0x88B5 → s.frames = [] →
      s.role h = roleOffline ∨ x.inseq ≤ (s.halfSt h).since → Leads (.hostRxDeliver h) s fun t =>
        left t = [] ∧ t.hqs = s.hqs ∧ SameBut (fun _ => false) s t) ∧
    (∀ x, q0 = [x] → etherType x.octs ≠ 0x88B6 → etherType x.octs ≠ 0x88B5 → s.frames = [] →
      s.role h ≠ roleOffline → (s.halfSt h).since < x.inseq →
      let tgt := (s.steerTo (bitsOf (x.ws.getD 4 0) 16 16) (bitsOf (x.ws.getD 3 0) 21 3)).bind s.poolOwner
      (tgt = none → Leads (.hostRxDeliver h) s fun t =>
        left t = [] ∧ up1 s t noq ∧ t.bit irq0 17 = true ∧ t.hqs = s.hqs ∧ SameBut (fun k => k == noq || k == irq0) s t) ∧
      (∀ n q, tgt = some (n, q) →
        let r := s.hq h n q
        let units := 1 + (x.octs.length + 31) / 32
        let free := r.len - 1 - (r.wr % r.len + r.len - r.rd % r.len) % r.len
        (bitOf r.cfg 0 = false ∨ bitOf r.cfg 1 = false → Leads (.hostRxDeliver h) s fun t =>
          left t = [] ∧ up1 s t noq ∧ t.hqs = s.hqs) ∧
        (bitOf r.cfg 0 = true → bitOf r.cfg 1 = true → s.viState n ≠ 1 → Leads (.hostRxDeliver h) s fun t =>
          left t = [] ∧ up1 s t (viReg n Reg.Vi.QUIESCE_DROP) ∧ t.hqs = s.hqs) ∧
        (bitOf r.cfg 0 = true → bitOf r.cfg 1 = true → s.viState n = 1 → free < units →
          Leads (.hostRxDeliver h) s fun t => left t = [] ∧ t.hq h n q = { r with drop := min 0xFFFFFFFF (r.drop + 1) }) ∧
        (bitOf r.cfg 0 = true → bitOf r.cfg 1 = true → s.viState n = 1 → units ≤ free → q < 64 →
          Leads (.hostRxDeliver h) s fun t =>
            left t = [] ∧ t.hq h n q = { r with wr := (r.wr % r.len + units) % r.len } ∧
            t.bit (bank h.idx (viBase n + Reg.Vi.Q_PEND + 4 * (q / 32))) (q % 32) = true ∧ t.out ≠ s.out)))) ∧
  (∀ s : State,
    (s.domainOn 6 = false → Leads .tokenRefill s fun t => t = s) ∧
    (s.domainOn 6 = true → Leads .tokenRefill s fun t => t.regs = s.regs ∧ ∀ i < 127,
      let n := i + 1
      let full : Int := s.tbBurst n * 1024
      t.bucket n = if s.tbRate n = 0 then full else min full (s.bucket n + s.tbRate n * 128))) ∧
  (∀ (s : State) (e : Fin 6),
    ((s.dwrr e.val).cur ≠ none ∨ (s.dwrr e.val).todo ≠ [] → Leads (.dwrrRound e) s fun t => t = s) ∧
    ((s.dwrr e.val).cur = none → (s.dwrr e.val).todo = [] → Leads (.dwrrRound e) s fun t =>
      t.regs = s.regs ∧ (t.dwrr e.val).cur = none ∧ (t.dwrr e.val).todo = ((List.range 127).map (· + 1)).filterMap
        (fun n => if s.weight e.val n = 0 then none else some (n, s.weight e.val n))))


/-! ## Span bridge -/

/-- The Span bridge (R489 to R494, R497 to R500, R503 to R505): an access to the aperture is refused locally with its REASON
in LAST_ERR, dropped from the standby under ACTIVE, accepted as a posted write under the next TAG, or retried as a delayed
transaction whose result a re-presentation collects; FENCE; an inbound request is refused or performed and answered; answers
reach their entries and posted writes; a failed posted write is logged, or lost where the log is full; POP, the discard timer, the
tunnel's timeout, the link's loss; Span frames. -/
def Obligations.SpanBridge : Prop :=
  let up1 (s t : State) (k : Nat) : Prop := t.rdN k = min 0xFFFFFFFF (s.rdN k + 1)
  let raw := spanBase + Reg.Hdr.IRQ_RAW
  let logged (s t : State) (p : SpPost) (reason : Nat) : Prop :=
    t.pwf.length = s.pwf.length + 1 ∧ t.rdN (spanReg Reg.Span.PWF_COUNT) = t.pwf.length ∧ t.bit raw 16 = true ∧
    ∀ e, t.pwf.getLast? = some e → bitsOf (e.getD 0 0) 0 16 = p.tag ∧ bitsOf (e.getD 0 0) 16 4 = reason ∧
      bitsOf (e.getD 0 0) 20 5 = p.win ∧ bitsOf (e.getD 0 0) 25 2 = p.half.code2 ∧ bitOf (e.getD 0 0) 27 = p.tunnel ∧
      bitOf (e.getD 0 0) 31 = true ∧ e.getD 1 0 = word p.addr
  (∀ (s : State) (acc : Access) (mst : Fin 64) (off : BitVec 32) (l : List Nat) (excl : Bool) (bk : Fin 33) (size : Fin 65)
      (data : Option (List Nat)),
    let o := off.toNat
    let near (n : Nat) (wr : Bool) (c : Instr) : Prop :=
      (acc.master = .shep → Leads c s fun t => t.resp = .code sbNoPage ∧ up1 s t (sysBase + Reg.Sys.SB_REFUSE_CNT)) ∧
      ∀ h, acc.master = .half h →
        (s.domainOn 6 = false ∨ n = 0 ∨ 64 < n ∨ 64 < o % 64 + n → Leads c s fun t => t = { s with
                                                                                           resp := .busError }) ∧
        (s.domainOn 6 = true → 0 < n → n ≤ 64 → o % 64 + n ≤ 64 → s.spDts = [] →
          let refuse (r : Nat) : Prop := Leads c s fun t =>
            let e := spanReg Reg.Span.LAST_ERR
            t.resp = .busError ∧ up1 s t (spanReg Reg.Span.ERR_CNT) ∧ t.fld e 0 4 = r ∧ t.fld e 8 2 = h.code2 ∧
            t.bit e 31 = true ∧ t.rdN (spanReg Reg.Span.LAST_ERR_ADDR_LO) = o ∧
            t.rdN (spanReg Reg.Span.LAST_ERR_ADDR_HI) = 0x10 ∧ t.bit raw 20 = true ∧ t = { s with
                                                                                         regs := t.regs
                                                                                         resp := .busError }
          (s.outWindow h o n = none → refuse 2) ∧
          (∀ w, s.outWindow h o n = some w →
            let w0 := s.rd (spowReg w 0)
            let denied := (bitOf w0 4 && !acc.secure) || (acc.vi.val != 0 && acc.vi.val != bitsOf w0 8 7)
            let lanes := !bitOf w0 3 || (n == 1 || n == 2 || n == 4 || n == 8) && o % n == 0
            (denied = true → refuse 3) ∧ (denied = false → excl = true → refuse 8) ∧
            (denied = false → excl = false → lanes = false → refuse 4) ∧
            (denied = false → excl = false → lanes = true → bitsOf w0 5 2 = 3 → h ≠ s.activeHalf → wr = true →
              Leads c s fun t => t.resp = .ok ∧ up1 s t (spanReg Reg.Span.STBY_DROP) ∧
                SameBut (· == spanReg Reg.Span.STBY_DROP) s t)))
    near l.length true (.outboundPostedWrite acc mst off l excl bk) ∧
    near size.val data.isSome (.delayedTransaction acc mst off size data excl)) ∧
  (∀ (s : State) (h : Half) (sec : Bool) (vi : Fin 128) (mst : Fin 64) (off : BitVec 32) (l : List Nat) (bk : Fin 33)
      (w : Nat),
    let acc : Access := ⟨.half h, sec, vi⟩
    let o := off.toNat
    let n := l.length
    let w0 := s.rd (spowReg w 0)
    let span := (s.fld (spowReg w 2) 16 16 * 65536 + s.rdN (spowReg w 3) * 2 ^ 32 +
      (o - s.fld (spowReg w 1) 0 16 * 65536)) % 2 ^ 64
    s.domainOn 6 = true → 0 < n → o % 64 + n ≤ 64 → s.outWindow h o n = some w →
    (bitOf w0 4 = false ∨ sec = true) → (vi = 0 ∨ vi.val = bitsOf w0 8 7) → bitOf w0 3 = false →
    (bitsOf w0 5 2 ≠ 3 ∨ h = s.activeHalf) →
    (s.spDts = [] → bitOf w0 2 = false →
      (32 ≤ bk.val → 32 ≤ (s.spPosts.filter (fun p => p.half == h)).length →
        Leads (.outboundPostedWrite acc mst off l false bk) s fun t => t.resp = .retry ∧ t.spPosts = s.spPosts ∧
          t.spIn = s.spIn) ∧
      (bk = 0 →
        let k := 2 * h.idx + b2n (bitOf w0 1)
        let tag := Tbl.get 0 s.spTags k
        let p : SpPost := ⟨h, bitOf w0 1, tag, w, span, bitsOf w0 16 14, s.tbfNs⟩
        (bitOf w0 1 = false → s.spanLinkUp = true → (s.spBuf false h true).length < 32 →
          Leads (.outboundPostedWrite acc mst off l false bk) s fun t =>
            t.resp = .ok ∧ t.spPosts = s.spPosts ++ [p] ∧ Tbl.get 0 t.spTags k = (tag + 1) % 65536 ∧
            t.spIn = s.spIn ++ [⟨false, h, 0, h.idx, 0, tag, span, n, octs l n, bitOf w0 4, s.spSeq⟩]) ∧
        (bitOf w0 1 = true → s.tunEn = true → Leads (.outboundPostedWrite acc mst off l false bk) s fun t =>
          t.resp = .ok ∧ t.spPosts = s.spPosts ++ [p] ∧ t.spIn = s.spIn ∧
          (h = .a → t.hostTxA.length = s.hostTxA.length + 1) ∧ (h = .b → t.hostTxB.length = s.hostTxB.length + 1)) ∧
        (bitOf w0 1 = false → s.spanLinkUp = false → s.pwf.length < 16 → tag < 65536 →
          (∀ x ∈ s.spPosts, x.tag ≠ tag) → Leads (.outboundPostedWrite acc mst off l false bk) s fun t =>
            t.resp = .ok ∧ t.spPosts = s.spPosts ∧ logged s t p 7))) ∧
    (let read (P : State → Prop) : Prop := Leads (.delayedTransaction acc mst off ⟨n % 65, Nat.mod_lt _ (by decide)⟩ none false) s P
     n ≤ 64 → 
     (s.spDts = [] → bitOf w0 1 = false →
       let tag := Tbl.get 0 s.spTags (2 * h.idx)
       (s.spanLinkUp = true → (s.spBuf false h false).length < 16 → read fun t =>
         t.resp = .retry ∧ t.spDts.length = 1 ∧ (∀ d ∈ t.spDts, d.half = h ∧ d.tag = tag ∧ d.result = none) ∧
         t.spIn = s.spIn ++ [⟨false, h, 0, h.idx, 2, tag, span, n, [], bitOf w0 4, s.spSeq⟩]) ∧
       (s.spanLinkUp = true → 16 ≤ (s.spBuf false h false).length → read fun t =>
         t.resp = .retry ∧ t.spIn = s.spIn ∧ t.spDts.length = 1 ∧ ∀ d ∈ t.spDts, d.sent = none ∧ d.result = none) ∧
       (s.spanLinkUp = false → read fun t =>
         t.resp = .retry ∧ t.spIn = s.spIn ∧ t.spDts.length = 1 ∧ ∀ d ∈ t.spDts, d.result = some (7, [], s.tbfNs))) ∧
     ((∀ d ∈ s.spDts, d.half = h ∧ d.addr ≠ 0x1000000000 + o ∧ d.result = none) → s.spDts.length = 16 → read fun t =>
       t.resp = .retry ∧ up1 s t (spanReg Reg.Span.DR_FULL_CNT) ∧ t.spDts = s.spDts) ∧
     (∀ d, s.spDts = [d] → d.half = h → d.master = mst.val → d.addr = 0x1000000000 + o → d.size = n → d.secure = sec →
       d.vi = vi.val → d.data = none → d.fence = false →
       (d.result = none → read fun t => t.resp = .retry ∧ t.spDts = s.spDts) ∧
       (∀ r x at_, d.result = some (r, x, at_) → s.tbfNs ≤ at_ + s.discardNs →
         (r = 0 → read fun t => t.resp = .octets (if d.swap then x.reverse else x) ∧ t.spDts = []) ∧
         (r ≠ 0 → read fun t => t.resp = .busError ∧ t.spDts = []))))) ∧
  (∀ (s : State) (acc : Access) (mst : Fin 64) (h : Half), Shows s acc (spanReg Reg.Span.FENCE) → acc.master = .half h →
    let d0 (d : SpDt) : Prop := d.half = h ∧ d.master = mst.val ∧ d.addr = spanReg Reg.Span.FENCE ∧ d.size = 4 ∧
      d.secure = acc.secure ∧ d.vi = acc.vi.val ∧ d.data = none ∧ d.fence = true
    (s.spDts = [] → (∀ p ∈ s.spPosts, p.half ≠ h) → Leads (.fenceRead acc mst) s fun t =>
      t.resp = .retry ∧ t.spDts.length = 1 ∧ ∀ d ∈ t.spDts, d0 d ∧ d.result = some (0, [], s.tbfNs)) ∧
    (∀ p, s.spDts = [] → s.spPosts = [p] → p.half = h → Leads (.fenceRead acc mst) s fun t =>
      t.resp = .retry ∧ t.spDts.length = 1 ∧ ∀ d ∈ t.spDts, d0 d ∧ d.waits = [(p.tunnel, p.tag)] ∧ d.result = none) ∧
    (∀ d, s.spDts = [d] → d0 d → d.result = none → Leads (.fenceRead acc mst) s fun t =>
      t.resp = .retry ∧ t.spDts = s.spDts) ∧
    (∀ d x at_, s.spDts = [d] → d0 d → d.result = some (0, x, at_) → s.tbfNs ≤ at_ + s.discardNs →
      d.failed = true ∨ Tbl.get 0 s.spFail h.idx ≠ 2 → Leads (.fenceRead acc mst) s fun t =>
        t.resp = .data (word (s.pwf.length + if d.failed then 256 else 0)) ∧ t.spDts = [])) ∧
  (∀ (s : State) (b : Fin 6) (ok : Bool) (data : List Nat),
    let tun := decide (4 ≤ b.val)
    let posted := b == 0 || b == 1 || b == 4
    let h := if b.val % 2 = 0 then Half.a else .b
    let refused := spanReg Reg.Span.IN_REFUSED
    (s.spBuf tun h posted = [] ∨ (if tun then s.tunEn && !s.gated 2 else s.spanLinkUp) = false →
      Leads (.spanRequestRx b ok data) s fun t => t = s) ∧
    (∀ r, s.spIn = [r] → s.spBuf tun h posted = [r] → tun = false → s.spanLinkUp = true → s.spDts = [] → r.kind < 3 →
      let what := if r.kind ≠ 0 then 0 else 2
      (s.inWindow r = none → Leads (.spanRequestRx b ok data) s fun t =>
        t.spIn = [] ∧ up1 s t refused ∧ t.spAns = s.spAns ++ [⟨false, h, 0, r.tag, what, 2, [], r.addr, s.spSeq⟩] ∧
        SameBut (· == refused) s t) ∧
      (∀ w, s.inWindow r = some w →
        let w0 := s.rd (spiwReg w 0)
        let addr := (s.iwLocal w + (r.addr - s.iwBase w)) % 2 ^ 64
        (inDenied w0 r = true → Leads (.spanRequestRx b ok data) s fun t =>
          t.spIn = [] ∧ up1 s t refused ∧ t.spAns = s.spAns ++ [⟨false, h, 0, r.tag, what, 3, [], r.addr, s.spSeq⟩]) ∧
        (inDenied w0 r = false → bitsOf w0 6 2 = h.other.idx + 1 →
          let code := codeOff addr
          (ok = false ∨ s.memTakes h.other (bitOf w0 5) addr r.size = false → Leads (.spanRequestRx b ok data) s fun t =>
            t.spIn = [] ∧ t.out = s.out ∧
            t.spAns = s.spAns ++ [⟨false, h, 0, r.tag, what, 1, [], r.addr, s.spSeq⟩]) ∧
          (ok = true → s.memTakes h.other (bitOf w0 5) addr r.size = true →
            (r.kind = 2 → Leads (.spanRequestRx b ok data) s fun t =>
              let got := match code with
                | some off => (List.range r.size).map (fun i => s.codeOct h.other (off + i))
                | none => octs data r.size
              t.spIn = [] ∧ t.out = s.out ∧ t.spAns = s.spAns ++ [⟨false, h, 0, r.tag, 0, 0, got, r.addr, s.spSeq⟩]) ∧
            (r.kind ≠ 2 → Leads (.spanRequestRx b ok data) s fun t =>
              let bad := code.any inSlot
              let kind := if r.kind ≠ 0 then 0 else if bad then 2 else 1
              t.spIn = [] ∧ t.spAns = s.spAns ++ [⟨false, h, 0, r.tag, kind, b2n bad, [], r.addr, s.spSeq⟩] ∧
              t.out = (if code.isNone then .memWrite h.other addr r.data :: s.out else s.out) ∧
              ∀ off, code = some off →
                t.codeStore = (if bad then s else s.codePut h.other off r.data).codeStore)))))) ∧
  (∀ (s : State) (h : Half) (tun : Bool),
    let drop := spanReg Reg.Span.TUN_RX_DROP
    (s.spAns = [] → Leads (.spanCplRx h tun) s (fun t => t = s) ∧ Leads (.spanAckRx h tun) s (fun t => t = s) ∧
      Leads (.spanWfailRx h tun) s fun t => t = s) ∧
    (∀ r, s.spAns = [r] → r.half = h → r.tunnel = tun →
      (r.what = 0 → s.spIn = [] →
        (∀ d, s.spDts = [d] → r.forDt d = true → d.result = none → d.fence = false → Leads (.spanCplRx h tun) s fun t =>
          t.spAns = [] ∧ t.spDts = [{ d with result := some (r.reason, r.data, s.tbfNs) }] ∧ SameBut (fun _ => false) s t) ∧
        (s.spDts = [] → Leads (.spanCplRx h tun) s fun t =>
          t.spAns = [] ∧ (tun = true → up1 s t drop) ∧ SameBut (fun k => tun && k == drop) s t)) ∧
      (r.what = 1 →
        (∀ p, s.spPosts = [p] → r.forPost p = true → Leads (.spanAckRx h tun) s fun t =>
          t.spAns = [] ∧ t.spPosts = [] ∧ t.pwf = s.pwf ∧ SameBut (fun _ => false) s t) ∧
        (s.spPosts = [] → Leads (.spanAckRx h tun) s fun t =>
          t.spAns = [] ∧ (tun = true → up1 s t drop) ∧ SameBut (fun k => tun && k == drop) s t)) ∧
      (r.what = 2 → r.reason < 16 →
        (∀ p, s.spPosts = [p] → r.forPost p = true → p.tag < 65536 → p.win < 32 → s.pwf.length < 16 →
          Leads (.spanWfailRx h tun) s fun t => t.spAns = [] ∧ t.spPosts = [] ∧ logged s t p r.reason) ∧
        (∀ p, s.spPosts = [p] → r.forPost p = true → 16 ≤ s.pwf.length → Leads (.spanWfailRx h tun) s fun t =>
          t.spPosts = [] ∧ t.pwf = s.pwf ∧ up1 s t (spanReg Reg.Span.PWF_LOST) ∧ t.bit raw 17 = true) ∧
        (s.spPosts = [] → Leads (.spanWfailRx h tun) s fun t => t.pwf = s.pwf ∧ (tun = true → up1 s t drop))))) ∧
  (∀ (s : State) (acc : Access) (v : Word), Takes s acc (spanReg Reg.Span.PWF_POP) →
    (bitOf v 0 = false → Leads (.pwfPop acc v) s fun t => t.resp = .ok ∧ Keeps (fun _ => false) s t) ∧
    (bitOf v 0 = true → Leads (.pwfPop acc v) s fun t =>
      t.resp = .ok ∧ t.pwf = s.pwf.tail ∧ t.rd (spanReg Reg.Span.PWF_COUNT) = word s.pwf.tail.length ∧
      ∀ i < 3, t.rd (spanReg Reg.Span.PWF_HEAD + 4 * i) = (s.pwf.tail.headD []).getD i 0)) ∧
  (∀ s : State,
    (s.spDts = [] → Leads .dtDiscardTimer s fun t => t = s) ∧
    (∀ d r, s.spDts = [d] → d.result = some r →
      (s.tbfNs - r.2.2 < s.discardNs → Leads .dtDiscardTimer s fun t => t = s) ∧
      (s.discardNs ≤ s.tbfNs - r.2.2 → Leads .dtDiscardTimer s fun t =>
        t.spDts = [] ∧ up1 s t (spanReg Reg.Span.DR_DISCARD_CNT) ∧ t.bit raw 18 = true)) ∧
    (s.domainOn 6 = false ∨ s.gated 2 = true → Leads .tunnelTimeout s fun t => t = s) ∧
    (s.domainOn 6 = true → s.gated 2 = false →
      let lim := max 1 (s.fld (spanReg Reg.Span.DR_CFG) 16 16) * 1000
      (∀ d x, s.spDts = [d] → s.spPosts = [] → d.sent = some x → d.result = none → d.fence = false →
        Leads .tunnelTimeout s fun t => t.spDts = [if d.tunnel && decide (x + lim ≤ s.tbfNs) then { d with
                                                     result := some (6, [], s.tbfNs) } else d]) ∧
      (∀ p, s.spPosts = [p] → s.pwf.length < 16 → p.tag < 65536 → p.win < 32 →
        (p.tunnel = true → p.time + lim ≤ s.tbfNs → Leads .tunnelTimeout s fun t => t.spPosts = [] ∧ logged s t p 6) ∧
        (p.tunnel = false ∨ s.tbfNs < p.time + lim → Leads .tunnelTimeout s fun t =>
          t.spPosts = [p] ∧ t.pwf = s.pwf))) ∧
    (s.spanLinkUp = true → Leads .spanLinkDown s fun t => t = s) ∧
    (s.spanLinkUp = false →
      (Leads .spanLinkDown s fun t =>
        up1 s t (spanReg Reg.Span.LINK_DOWN_CNT) ∧ t.bit raw 19 = true ∧
        t.spIn = s.spIn.filter (·.tunnel) ∧ t.spAns = s.spAns.filter (·.tunnel) ∧
        ∀ d ∈ t.spDts, d.tunnel = false → d.fence = false → d.result ≠ none) ∧
      (∀ p, s.spPosts = [p] → p.tunnel = false → s.pwf.length < 16 → p.tag < 65536 → p.win < 32 →
        Leads .spanLinkDown s fun t => t.spPosts = [] ∧ logged s t p 7))) ∧
  (∀ (s : State) (h : Half),
    let q := if h = .a then s.hostRxA else s.hostRxB
    let left (t : State) : List RxItem := if h = .a then t.hostRxA else t.hostRxB
    (q = [] → Leads (.spanFrameRx h) s fun t => t = s) ∧
    (s.gated 2 = true → (∀ x ∈ q, isBark x.octs = false) → Leads (.spanFrameRx h) s fun t => t = s) ∧
    (∀ x, q = [x] → etherType x.octs = 0x88B6 → s.domainOn 6 = true → s.gated 2 = false →
      let l := x.octs.drop (payloadAt x.octs)
      let ver := l.getD 0 0 / 16
      let cls := l.getD 0 0 % 16
      let good := ver = 1 ∧ be l 4 2 % 2 ^ 14 = s.selfUnit ∧ s.tunEn = true
      let p := (l.drop 8).take (be l 6 2)
      let drop := spanReg Reg.Span.TUN_RX_DROP
      (ver ≠ 1 ∨ cls = 0 ∨ 6 < cls ∨ cls ≠ 1 ∧ ¬good → Leads (.spanFrameRx h) s fun t =>
        left t = [] ∧ up1 s t drop ∧ SameBut (· == drop) s t) ∧
      (good → cls = 2 → Leads (.spanFrameRx h) s fun t =>
        left t = [] ∧ t.dirIn.length = s.dirIn.length + 1 ∧ SameBut (fun _ => false) s t) ∧
      (good → cls = 3 → p.getD 0 0 % 4 = 0 → 0 < p.getD 1 0 → p.getD 1 0 ≤ 64 →
        ((s.spBuf true h true).length < 64 → Leads (.spanFrameRx h) s fun t =>
          left t = [] ∧ t.spIn = s.spIn ++ [⟨true, h, be l 2 2 % 2 ^ 14, l.getD 1 0 / 64, 0, be p 2 2, be p 4 8,
            p.getD 1 0, octs (p.drop 12) (p.getD 1 0), false, s.spSeq⟩]) ∧
        (64 ≤ (s.spBuf true h true).length → Leads (.spanFrameRx h) s fun t =>
          left t = [] ∧ t.spIn = s.spIn ∧ up1 s t (spanReg Reg.Span.IN_REFUSED))) ∧
      (good → cls = 5 → Leads (.spanFrameRx h) s fun t =>
        left t = [] ∧ t.spAns = s.spAns ++ [⟨true, if l.getD 1 0 / 64 = 1 then .b else .a, be l 2 2 % 2 ^ 14, be p 2 2, 1, 0,
          [], 0, s.spSeq⟩])))


/-! ## Worlds, interrupts, debug and event counters -/

/-- Worlds, interrupts, debug enables and event counters (R513, R515, R518 to R520, R527, R528, R532): mworld is written in
machine mode only; secure regions by secure accesses only; SRCCFG writes, line changes, claims of the highest eligible source,
and completions with their refusals; DBG_EN and DBG_LOCK bit by bit; a halt request takes effect where the invasive enable
of its world is 1 and the hart is no frozen pair (R338); BANK_EN and an overflow. -/
def Obligations.InterruptsDebugCounters : Prop :=
  let up1 (s t : State) (k : Nat) : Prop := t.rdN k = min 0xFFFFFFFF (s.rdN k + 1)
  (∀ (s : State) (h : Half) (c : Fin 7) (v : Word),
    (Leads (.mworldWrite h c true v) s fun t =>
      t.resp = .ok ∧ bitOf (t.mworldOf h c.val) 0 = bitOf v 0 ∧ bitsOf (t.mworldOf h c.val) 8 7 = bitsOf v 8 7 ∧
      bitsOf (t.mworldOf h c.val) 1 7 = 0 ∧ bitsOf (t.mworldOf h c.val) 15 17 = 0 ∧ t.regs = s.regs) ∧
    (Leads (.mworldWrite h c false v) s fun t => t = { s with
                                                       resp := .illegal })) ∧
  (∀ (s : State) (acc : Access) (h : Half) (r : Fin 16) (lim : Bool) (v : Word),
    let k := smrKey h r.val lim
    let st := halfBase h.idx + Reg.Hdr.UNIT_STAT
    Takes s acc k →
    ((s.asSent acc).secure = true → Leads (.smrWrite acc h r lim v) s fun t =>
      t.resp = .ok ∧ t.fld k 0 24 = bitsOf v 0 24 ∧ t.bit k 31 = (!lim && bitOf v 31) ∧ Keeps (· == k) s t) ∧
    ((s.asSent acc).secure = false → Leads (.smrWrite acc h r lim v) s fun t => t.bit st 10 = true ∧ Keeps (· == st) s t)) ∧
  (∀ (s : State) (acc : Access) (h : Half) (n : Fin 1024) (v : Word),
    let k := srcKey h n.val
    let ref := intcReg h Reg.Intc.SEC_REFUSE
    let raw := intcBase h.idx + Reg.Hdr.IRQ_RAW
    let busy := intcReg h Reg.Intc.CFG_BUSY
    Takes s acc k →
    ((s.asSent acc).secure = false → s.bit k 4 = true ∨ bitOf v 4 = true → Leads (.srccfgWrite acc h n v) s fun t =>
      t.resp = .ok ∧ up1 s t ref ∧ t.bit raw 16 = true ∧ Keeps (fun j => j == ref || j == raw) s t) ∧
    ((s.asSent acc).secure = true ∨ s.bit k 4 = false ∧ bitOf v 4 = false →
      (s.srcActive h n.val = true → Leads (.srccfgWrite acc h n v) s fun t =>
        t.fld k 0 4 = bitsOf v 0 4 ∧ t.fld k 4 28 = s.fld k 4 28 ∧ t.fld busy 0 10 = n.val ∧ t.bit busy 31 = true ∧
        SameBut (fun j => j == k || j == busy) s t) ∧
      (s.srcActive h n.val = false → Leads (.srccfgWrite acc h n v) s fun t =>
        t.resp = .ok ∧ t.fld k 0 4 = bitsOf v 0 4 ∧ t.bit k 4 = bitOf v 4 ∧ t.fld k 8 3 = bitsOf v 8 3 ∧
        t.fld k 16 16 = s.fld k 16 16 ∧ SameBut (· == k) s t))) ∧
  (∀ (s : State) (h : Half) (n : Fin 1024),
    let k := srcKey h n.val
    (s.domainOn h.pd = false → Leads (.irqLineChange h n) s fun t => t = s) ∧
    (s.domainOn h.pd = true → 32 ≤ n.val → Leads (.irqLineChange h n) s fun t =>
      t.bit k 16 = (s.srcLine h n.val && !s.srcActive h n.val) ∧ t.fld k 0 16 = s.fld k 0 16 ∧ SameBut (· == k) s t ∧
      (s.fld k 0 4 = 0 → t.out = s.out) ∧ (s.fld k 0 4 ≠ 0 → t.out.length = s.out.length + 1))) ∧
  (∀ (s : State) (acc : Access) (h : Half) (c : Fin 7) (sec : Bool), Shows s acc (hartReg h c.val (claimOff sec)) →
    let ok := (s.asSent acc).secure || !sec
    let pri (n : Nat) : Nat := s.fld (srcKey h n) 0 4
    (ok = false ∨ (∀ n < 1024, s.eligible h c.val sec n = false) → Leads (.claimRead acc h c sec) s fun t =>
      t.resp = .data 0 ∧ t.regs = s.regs) ∧
    (∀ n < 1024, ok = true → s.eligible h c.val sec n = true →
      (∀ m < 1024, s.eligible h c.val sec m = true → pri m < pri n ∨ pri m = pri n ∧ n ≤ m) →
      Leads (.claimRead acc h c sec) s fun t =>
        t.resp = .data (word n) ∧ t.srcActive h n = true ∧ t.srcPending h n = false ∧ Touches (· == srcKey h n) s t)) ∧
  (∀ (s : State) (acc : Access) (h : Half) (c : Fin 7) (sec : Bool) (v : Word),
    Takes s acc (hartReg h c.val (claimOff sec)) →
    let k := srcKey h v.toNat
    let bad := intcReg h Reg.Intc.BAD_COMPLETE
    let raw := intcBase h.idx + Reg.Hdr.IRQ_RAW
    let held : Prop := v.toNat < 1024 ∧ s.srcActive h v.toNat = true ∧ s.bit k 4 = sec ∧ srcTarget (s.rd k) = c.val
    (sec = true → (s.asSent acc).secure = false → Leads (.completeWrite acc h c sec v) s fun t => Keeps (fun _ => false) s t) ∧
    (sec = false ∨ (s.asSent acc).secure = true → held → Leads (.completeWrite acc h c sec v) s fun t =>
      t.srcActive h v.toNat = false ∧ t.srcPending h v.toNat = (if v.toNat < 32 then s.srcPending h v.toNat
        else s.srcLine h v.toNat) ∧ SameBut (· == k) s t) ∧
    (sec = false ∨ (s.asSent acc).secure = true → ¬held → Leads (.completeWrite acc h c sec v) s fun t =>
      up1 s t bad ∧ t.bit raw 17 = true ∧ Keeps (fun j => j == bad || j == raw) s t)) ∧
  (∀ (s : State) (acc : Access) (v : Word) (m : Half),
    let en := sysBase + Reg.Sys.DBG_EN
    let lock := sysBase + Reg.Sys.DBG_LOCK
    let st := sysBase + Reg.Hdr.UNIT_STAT
    (Takes s acc en →
      (acc.secure = false → acc.master = .half m → Leads (.dbgEnWrite acc v) s fun t =>
        t.bit st 10 = true ∧ Keeps (· == st) s t) ∧
      (acc.secure = true → acc.master = .half m → s.worn en = false → Leads (.dbgEnWrite acc v) s fun t =>
        (∀ i < 4, t.bit en i = (bitOf v i && (s.bit en i || !s.bit lock i))) ∧
        ((∃ i ∈ List.range 4, bitOf v i = true ∧ s.bit en i = false ∧ s.bit lock i = true) → t.bit st 11 = true)) ∧
      ((s.asSent acc).secure = false → acc.master = .shep → Leads (.dbgEnWrite acc v) s fun t =>
        t.resp = .code sbSecure ∧ t.bit st 10 = true ∧ t.rd en = s.rd en) ∧
      ((s.asSent acc).secure = true → acc.master = .shep → s.worn en = false → Leads (.dbgEnWrite acc v) s fun t =>
        ∀ i < 4, t.bit en i = bitOf v i)) ∧
    (Takes s acc lock →
      (acc.secure = false → acc.master = .half m → Leads (.dbgLockWrite acc v) s fun t =>
        t.bit st 10 = true ∧ Keeps (· == st) s t) ∧
      (acc.secure = true → acc.master = .half m → s.worn lock = false → Leads (.dbgLockWrite acc v) s fun t =>
        (∀ i < 4, t.bit lock i = (bitOf v i || s.bit lock i)) ∧
        ((∃ i ∈ List.range 4, bitOf v i = false ∧ s.bit lock i = true) → t.bit st 11 = true)) ∧
      ((s.asSent acc).secure = false → acc.master = .shep → Leads (.dbgLockWrite acc v) s fun t =>
        t.resp = .code sbSecure ∧ t.bit st 10 = true ∧ t.rd lock = s.rd lock) ∧
      ((s.asSent acc).secure = true → acc.master = .shep → s.worn lock = false → Leads (.dbgLockWrite acc v) s fun t =>
        ∀ i < 4, t.bit lock i = bitOf v i))) ∧
  (∀ (s : State) (h : Half) (c : Fin 7) (sec : Bool),
    let k := 7 * h.idx + c.val
    (s.domainOn h.pd = false ∨ (s.hart k).halted ≠ none → Leads (.haltRequest h c sec) s fun t => t = s) ∧
    (s.domainOn h.pd = true → (s.hart k).halted = none → s.hartFrozen k = true → Leads (.haltRequest h c sec) s fun t =>
      t.hart k = ⟨some sec, none⟩ ∧ t.regs = s.regs) ∧
    (s.domainOn h.pd = true → (s.hart k).halted = none → s.hartFrozen k = false →
      (s.invasive sec = true → Leads (.haltRequest h c sec) s fun t =>
        t.hart k = ⟨none, some sec⟩ ∧ t.regs = s.regs) ∧
      (s.invasive sec = false → Leads (.haltRequest h c sec) s fun t =>
        t.hart k = ⟨some sec, none⟩ ∧ t.regs = s.regs))) ∧
  (∀ (s : State) (acc : Access) (k : Fin 4) (i : Fin 32) (v : Word),
    let en := ecBase k.val + Reg.Ec.BANK_EN
    (Takes s acc en → Leads (.bankEnWrite acc k v) s fun t =>
      t.resp = .ok ∧ t.rdN en = v.toNat % 2 ^ ecLen k.val ∧
      (ecOutside (s.ecSrc k.val i.val) = false → t.ecCount k.val i.val = s.ecCount k.val i.val)) ∧
    (s.ecOn k.val i.val = false → Leads (.counterOverflow k i) s fun t => t = s) ∧
    (i.val < ecLen k.val → s.ecOn k.val i.val = true → s.ecSelOk k.val i.val = true →
      s.ecCount k.val i.val = 2 ^ 48 - 1 → (∀ j < 32, s.ecSrc k.val j ≠ 0xFF) → Leads (.counterOverflow k i) s fun t =>
        t.ecCount k.val i.val = 0 ∧ t.bit (ecBase k.val + Reg.Ec.OVF_STAT) i.val = true ∧
        Touches (fun _ => false) s t))

/-- Software-generated interrupts (R521): a write of SGI with SRC from 1 to 31 makes that source pending; a normal-world write
naming a SECURE SGI is ignored and counted in SEC_REFUSE; SRC 0 names none. -/
def Obligations.SoftwareInterrupts : Prop :=
  ∀ (s : State) (acc : Access) (h : Half) (v : Word), Takes s acc (intcReg h Reg.Intc.SGI) →
    let n := bitsOf v 0 5
    let ref := intcReg h Reg.Intc.SEC_REFUSE
    let raw := intcBase h.idx + Reg.Hdr.IRQ_RAW
    (n = 0 → Leads (.sgiWrite acc h v) s fun t => t.resp = .ok ∧ Keeps (fun _ => false) s t) ∧
    (n ≠ 0 → (s.asSent acc).secure = false → s.bit (srcKey h n) 4 = true → Leads (.sgiWrite acc h v) s fun t =>
      t.rdN ref = min 0xFFFFFFFF (s.rdN ref + 1) ∧ Keeps (fun k => k == ref || k == raw) s t) ∧
    (n ≠ 0 → (s.asSent acc).secure = true ∨ s.bit (srcKey h n) 4 = false → Leads (.sgiWrite acc h v) s fun t =>
      t.resp = .ok ∧ t.srcPending h n = true ∧ SameBut (· == srcKey h n) s t)

/-- The words of a count (R533): CNT_HI is written to a shadow, and a write of CNT_LO commits both together; while the counter's
BANK_EN bit is 1 both writes are ignored and set LOCK_VIOL; a read of CNT_LO latches CNT_HI from the same instant, which a read
of CNT_HI then answers. -/
def Obligations.CounterWords : Prop :=
  ∀ (s : State) (acc : Access) (k : Fin 4) (i : Fin 32) (v : Word), i.val < ecLen k.val →
    let on := s.bit (ecBase k.val + Reg.Ec.BANK_EN) i.val
    let lo := ecReg k.val i.val Reg.Ec.CNT_LO
    let hi := ecReg k.val i.val Reg.Ec.CNT_HI
    let sh := 32 * k.val + i.val
    let stat := ecBase 0 + Reg.Hdr.UNIT_STAT
    let ignored (c : Instr) : Prop := Leads c s fun t =>
      t.rd lo = s.rd lo ∧ t.rd hi = s.rd hi ∧ t.ecShadow = s.ecShadow ∧ t.bit stat 11 = true
    (Takes s acc hi →
      (on = true → ignored (.cntHiWrite acc k i v)) ∧
      (on = false → Leads (.cntHiWrite acc k i v) s fun t =>
        t.resp = .ok ∧ Tbl.get 0 t.ecShadow sh = bitsOf v 0 16 ∧ SameBut (fun _ => false) s t)) ∧
    (Takes s acc lo →
      (on = true → ignored (.cntLoWrite acc k i v)) ∧
      (on = false → Tbl.get 0 s.ecShadow sh < 2 ^ 16 → Leads (.cntLoWrite acc k i v) s fun t =>
        t.resp = .ok ∧ t.rd lo = v ∧ t.rdN hi = Tbl.get 0 s.ecShadow sh ∧ SameBut (fun j => j == lo || j == hi) s t)) ∧
    (Shows s acc lo → Leads (.rcRead acc 4 lo) s fun t =>
      t.resp = .data (t.rd lo) ∧ Tbl.get 0 t.ecLatch sh = t.fld hi 0 16 ∧ (on = false → t.rd lo = s.rd lo ∧ t.rd hi = s.rd hi)) ∧
    (Shows s acc hi → Leads (.rcRead acc 4 hi) s fun t => t.resp = .data (word (Tbl.get 0 s.ecLatch sh)) ∧ t.regs = s.regs)


/-! ## Key vault -/

/-- The vault and the key slots (R539, R541, R543, R546 to R552, R555, R559): a tamper takes the DRS and every slot; PROVISION is
accepted over the side band in a secure session while the DRS is not valid; KS_CMD captures a command and makes its checks in
R548's order, or ends with BUSY; at its end a command that failed changes no slot, and one that passed has its effect; every end
clears SH_KEY and raises KS_DONE. -/
def Obligations.KeyVault : Prop :=
  let up1 (s t : State) (k : Nat) : Prop := t.rdN k = min 0xFFFFFFFF (s.rdN k + 1)
  let raw := ciphBase + Reg.Hdr.IRQ_RAW
  let ks := keysReg Reg.Keys.KS_STAT
  let cleared (t : State) : Prop := (∀ i < 8, t.rd (keysReg Reg.Keys.SH_KEY + 4 * i) = 0) ∧ t.bit raw 28 = true
  (∀ (s : State) (src : Fin 6),
    (s.drsValid = false → Leads (.tamper src) s fun t => t = s) ∧
    (s.drsValid = true → s.supplied = true → s.reaction 38 ≤ 1 → s.reaction 39 ≤ 1 → Leads (.tamper src) s fun t =>
      t.drsValid = false ∧ t.lossCause = 1 ∧ t.tamperLatch.testBit src.val = true ∧
      t.bit (vaultReg Reg.Vault.TAMPER_STAT) src.val = true ∧
      (s.domainOn 10 = false → t.slots = s.slots ∧ t.bit raw 30 = s.bit raw 30) ∧
      (s.domainOn 10 = true → t.slots = [] ∧ t.bit raw 30 = true ∧ t.bit (ciphReg Reg.Ciph.ALARM_STAT) 6 = true ∧
        up1 s t (ciphReg Reg.Ciph.ALARM_CNT))) ∧
    (s.drsValid = true → s.supplied = false → Leads (.tamper src) s fun t =>
      t.drsValid = false ∧ t.lossCause = 1 ∧ t.tamperLatch.testBit src.val = true ∧ t.tamperOff = s.tamperOff + 1 ∧
      t.regs = s.regs)) ∧
  (∀ (s : State) (acc : Access) (v : Word), Takes s acc (vaultReg Reg.Vault.PROVISION) →
    let k := vaultReg Reg.Vault.PROV_STAT
    let no (r : Nat) : Prop := Leads (.provision acc v) s fun t =>
      t.resp = .ok ∧ t.fld k 0 4 = r ∧ Keeps (· == k) s t
    let go : Prop := bitOf v 0 = true ∧ bitsOf v 16 16 = 0x6B1D
    (¬go → Leads (.provision acc v) s fun t => t.resp = .ok ∧ Keeps (fun _ => false) s t) ∧
    (go → acc.master ≠ .shep ∨ (s.asSent acc).secure = false → no 3) ∧
    (go → acc.master = .shep → (s.asSent acc).secure = true → s.drsValid = true → no 2) ∧
    (go → acc.master = .shep → (s.asSent acc).secure = true → s.drsValid = false → s.trngReady = false → no 4) ∧
    (go → acc.master = .shep → (s.asSent acc).secure = true → s.drsValid = false → s.trngReady = true →
      (∀ e ∈ s.records, e.2 < 0xFFFFFFFF) → Leads (.provision acc v) s fun t =>
        t.resp = .ok ∧ t.fld k 0 4 = 1 ∧ t.drsValid = true ∧ t.lossCause = 0 ∧ t.tamperLatch = 0 ∧
        t.rd (vaultReg Reg.Vault.TAMPER_STAT) = 0 ∧ t.drsGen = s.drsGen + 1 ∧ ∀ n < 1024, t.recWin n = none)) ∧
  (∀ (s : State) (acc : Access) (slot parent : Fin 256) (record : Fin 1024), Takes s acc (keysReg Reg.Keys.KS_CMD) →
    let all (P : Nat → Instr → Prop) : Prop :=
      P 1 (.ksWrite acc slot parent record) ∧ P 2 (.ksErase acc slot parent record) ∧
      P 3 (.ksDerive acc slot parent record) ∧ P 4 (.ksRead acc slot parent record) ∧
      P 5 (.ksAttest acc slot parent record) ∧ P 6 (.ksStoreP acc slot parent record) ∧
      P 7 (.ksLoadP acc slot parent record) ∧ P 8 (.ksEraseP acc slot parent record) ∧
      P 9 (.ksReadP acc slot parent record) ∧ P 10 (.ksDeriveRoot acc slot parent record) ∧
      ∀ o : Fin 6, P (if o.val = 0 then 0 else 10 + o.val) (.ksCmdReserved acc o slot parent record)
    let vi := if acc.master = .shep then 0 else acc.vi.val
    let tgt := s.slot slot.val
    let par := s.slot parent.val
    let admits (k : Slot) : Prop := k.valid = true → (k.world = true → (s.asSent acc).secure = true) ∧ (vi = 0 ∨ vi = k.vi)
    let a0 := s.rd (keysReg Reg.Keys.SH_ATTR0)
    let a1 := s.rd (keysReg Reg.Keys.SH_ATTR1)
    let mayFill : Prop := (bitOf a0 27 = true → (s.asSent acc).secure = true) ∧ (vi = 0 ∨ vi = bitsOf a0 20 7)
    let goodAttr : Prop := bitsOf a0 29 2 ≠ 3 ∧ 1 ≤ bitsOf a0 16 4 ∧ bitsOf a0 16 4 ≤ 5 ∧ bitsOf a0 8 8 ≠ 0 ∧
      (bitsOf a0 29 2 = 1 → a1 ≠ 0)
    let fails (c : Instr) (r : Option Nat) : Prop := Leads c s fun t => ∃ x, t.ks = some x ∧ x.fail = r ∧
      (r ≠ none → t.slots = s.slots)
    (s.ks ≠ none → all fun _ c => Leads c s fun t =>
      t.resp = .ok ∧ t.fld ks 0 4 = 2 ∧ cleared t ∧ t.ks = s.ks ∧ t.slots = s.slots ∧ t.records = s.records) ∧
    (s.ks = none →
      (all fun op c => Leads c s fun t =>
        t.resp = .ok ∧ t.bit ks 8 = true ∧ t.fld ks 16 8 = slot.val ∧ t.records = s.records ∧ SameBut (· == ks) s t ∧
        ∃ x, t.ks = some x ∧ x.op = op ∧ x.slot = slot.val ∧ x.parent = parent.val ∧ x.record = record.val ∧
          x.acc = s.asSent acc ∧ x.attr0 = a0 ∧ x.attr1 = a1 ∧ (op = 0 ∨ 10 < op → x.fail = some 3)) ∧
      ((s.asSent acc).secure = false → fails (.ksStoreP acc slot parent record) (some 4) ∧
        fails (.ksLoadP acc slot parent record) (some 4) ∧ fails (.ksEraseP acc slot parent record) (some 4) ∧
        fails (.ksReadP acc slot parent record) (some 4)) ∧
      (¬admits tgt → fails (.ksWrite acc slot parent record) (some 4) ∧ fails (.ksErase acc slot parent record) (some 4) ∧
        fails (.ksRead acc slot parent record) (some 4) ∧ fails (.ksAttest acc slot parent record) (some 4)) ∧
      (admits tgt → ¬mayFill → fails (.ksWrite acc slot parent record) (some 4)) ∧
      (admits tgt → mayFill → ¬goodAttr → fails (.ksWrite acc slot parent record) (some 5)) ∧
      (admits tgt → mayFill → goodAttr → fails (.ksWrite acc slot parent record) none) ∧
      (admits tgt → fails (.ksErase acc slot parent record) none) ∧
      (admits tgt → tgt.spent = true → fails (.ksRead acc slot parent record) (some 6) ∧
        fails (.ksAttest acc slot parent record) (some 6)) ∧
      (admits tgt → tgt.spent = false → fails (.ksRead acc slot parent record) none ∧
        fails (.ksAttest acc slot parent record) (if tgt.usage.testBit 6 = true ∧ tgt.alg = 4 then none else some 7)) ∧
      (admits tgt → admits par → mayFill → goodAttr → par.spent = false → bitOf a0 27 = par.world →
        bitsOf a0 20 7 = par.vi →
        (par.usage.testBit 4 = false ∨ par.alg ≠ 2 → fails (.ksDerive acc slot parent record) (some 7)) ∧
        (par.usage.testBit 4 = true → par.alg = 2 → par.depth = 3 → fails (.ksDerive acc slot parent record) (some 9)) ∧
        (par.usage.testBit 4 = true → par.alg = 2 → par.depth < 3 → s.rd (keysReg Reg.Keys.SH_LABEL) = 0 →
          Leads (.ksDerive acc slot parent record) s fun t =>
            (∃ x, t.ks = some x ∧ x.fail = none) ∧
            (t.slot parent.val).count = (if par.life = 1 then par.count - 1 else par.count))) ∧
      ((s.asSent acc).secure = true → (admits tgt → tgt.spent = false → fails (.ksStoreP acc slot parent record) none) ∧
        fails (.ksEraseP acc slot parent record) none ∧ fails (.ksReadP acc slot parent record) none ∧
        (admits tgt → s.recWin record.val = none → fails (.ksLoadP acc slot parent record) none)) ∧
      (admits tgt → mayFill → goodAttr → s.rd (keysReg Reg.Keys.SH_LABEL) = 0 →
        fails (.ksDeriveRoot acc slot parent record) none))) ∧
  (∀ s : State, (s.ks = none → Leads .ksCmdEnd s fun t => t = s) ∧
    ∀ c, s.ks = some c → c.slot < 256 →
      let ended (t : State) (r : Nat) : Prop :=
        t.fld ks 0 4 = r ∧ t.bit ks 8 = false ∧ t.fld ks 16 8 = c.slot ∧ cleared t ∧ t.ks = none
      let tgt := s.slot c.slot
      let n := c.record
      let fails (r : Nat) : Prop := Leads .ksCmdEnd s fun t => ended t r ∧ t.slots = s.slots ∧ t.records = s.records
      let filled (t : State) (k : Slot) : Prop :=
        (t.slot c.slot).valid = true ∧ (t.slot c.slot).gen = (tgt.gen + 1) % 256 ∧ (t.slot c.slot).key = k.key ∧
        (t.slot c.slot).world = k.world ∧ (t.slot c.slot).vi = k.vi ∧ (t.slot c.slot).alg = k.alg ∧
        (t.slot c.slot).usage = k.usage ∧ (t.slot c.slot).life = k.life ∧ (t.slot c.slot).count = k.count ∧
        (t.slot c.slot).parent = k.parent ∧ (t.slot c.slot).depth = k.depth ∧ (t.slot c.slot).fromDrs = k.fromDrs ∧
        (∀ h, c.acc.master = .half h → (t.slot c.slot).half = h.idx) ∧ ∀ m < 256, m ≠ c.slot → t.slot m = s.slot m
      (∀ r, c.fail = some r → r < 16 → r ≠ 8 → fails r) ∧
      (c.fail = none →
        (c.op = 1 ∨ c.op = 10 → tgt.valid = true → s.slotRef c.slot = true → Leads .ksCmdEnd s fun t =>
          ended t 8 ∧ t.slots = s.slots ∧ up1 s t (keysReg Reg.Keys.SLOT_BUSY_CNT)) ∧
        (c.op = 1 → tgt.valid = false → Leads .ksCmdEnd s fun t => ended t 1 ∧
          filled t (slotOf c.attr0 c.attr1 (octs c.key (algBits (bitsOf c.attr0 16 4) / 8)))) ∧
        (c.op = 2 → tgt.valid = false → Leads .ksCmdEnd s fun t => ended t 1 ∧ t.slots = s.slots) ∧
        (c.op = 2 → tgt.valid = true → Leads .ksCmdEnd s fun t =>
          ended t 1 ∧ (t.slot c.slot).valid = false ∧ (t.slot c.slot).key = [] ∧
          (s.slotKids c.slot = [] → (t.slot c.slot).gen = (tgt.gen + 1) % 256) ∧
          (∀ k < 256, s.slotKids c.slot = [k] → k ≠ c.slot → s.slotKids k = [] → (t.slot k).valid = false ∧
            up1 s t (keysReg Reg.Keys.REVOKED_CNT) ∧ t.bit raw 29 = true)) ∧
        (c.op = 3 ∨ c.op = 5 ∨ c.op = 6 →
          let p := if c.op = 3 then c.parent else c.slot
          (s.slot p).valid = false ∨ (s.slot p).gen ≠ c.gen → fails 6) ∧
        (c.op = 3 → (s.slot c.parent).valid = true → (s.slot c.parent).gen = c.gen → (s.slot c.parent).life = 0 →
          tgt.valid = false → Leads .ksCmdEnd s fun t => ended t 1 ∧
            filled t { slotOf c.attr0 c.attr1 (kdf (s.slot c.parent).key c.label c.ctx (algBits (bitsOf c.attr0 16 4))) with
              parent := some c.parent
              depth := (s.slot c.parent).depth + 1 }) ∧
        (c.op = 4 → Leads .ksCmdEnd s fun t =>
          ended t 1 ∧ t.rd (keysReg Reg.Keys.RD_ATTR0) = tgt.attr0 ∧ t.rd (keysReg Reg.Keys.RD_ATTR1) = word tgt.count ∧
          t.rd (keysReg Reg.Keys.RD_LINK) = tgt.link ∧ t.slots = s.slots) ∧
        (c.op = 5 → tgt.valid = true → tgt.gen = c.gen → tgt.life = 0 → Leads .ksCmdEnd s fun t =>
          ended t 1 ∧ t.rd (keysReg Reg.Keys.ATT_BOOT) = c.boot ∧ t.slots = s.slots ∧
          let mac := octs (Config.hmac 256 tgt.key c.msg) 32
          ∀ i < 8, t.rdN (keysReg Reg.Keys.ATT_MAC + 4 * i) = mac.getD (4 * i) 0 + mac.getD (4 * i + 1) 0 * 2 ^ 8 +
            mac.getD (4 * i + 2) 0 * 2 ^ 16 + mac.getD (4 * i + 3) 0 * 2 ^ 24) ∧
        (c.op = 6 ∨ c.op = 7 ∨ c.op = 10 → s.drsValid = false → tgt.valid = true → tgt.gen = c.gen →
          s.slotRef c.slot = false ∨ c.op = 6 → tgt.life = 0 → fails 11) ∧
        (c.op = 6 → tgt.valid = true → tgt.gen = c.gen → tgt.life = 0 → s.drsValid = true → s.pkWear = [] →
          let b := if s.recWin n = some 0 then 1 else 0
          let g := max (s.recWord n 0 0) (s.recWord n 1 0) + 1
          g < 2 ^ 32 → Leads .ksCmdEnd s fun t =>
            ended t 1 ∧ t.slots = s.slots ∧ t.recWord n b 0 = g ∧ t.recGood n b = true ∧
            t.recWord n b 1 = c.st0.toNat ∧ t.recWord n b 2 = c.st1.toNat ∧
            ∀ i < 16, t.recWord n (1 - b) i = s.recWord n (1 - b) i) ∧
        (c.op = 7 ∨ c.op = 9 → s.drsValid = true → tgt.valid = false → s.recWin n = none → fails 12) ∧
        (c.op = 7 → s.drsValid = true → tgt.valid = false → s.recWin n ≠ none → Leads .ksCmdEnd s fun t =>
          let u := (s.unwrapRec n).join
          (u = none → ended t 13 ∧ t.slots = s.slots) ∧ (u ≠ none → ended t 1 ∧ filled t (u.getD {}))) ∧
        (c.op = 8 → (∀ e ∈ s.records, e.2 < 0xFFFFFFFF) → Leads .ksCmdEnd s fun t =>
          ended t 1 ∧ t.recWin n = none ∧ t.slots = s.slots) ∧
        (∀ b, c.op = 9 → s.recWin n = some b → Leads .ksCmdEnd s fun t =>
          ended t 1 ∧ t.rd (keysReg Reg.Keys.RD_ATTR0) = word (s.recWord n b 1) ∧
          t.rd (keysReg Reg.Keys.RD_ATTR1) = word (s.recWord n b 2) ∧
          t.rd (keysReg Reg.Keys.RD_LINK) = word (s.recWord n b 0) ∧ t.records = s.records) ∧
        (c.op = 10 → s.drsValid = true → tgt.valid = false → Leads .ksCmdEnd s fun t => ended t 1 ∧
          filled t { slotOf c.attr0 c.attr1 (kdf s.drs c.label
              ([b2n (bitOf c.attr0 27), bitsOf c.attr0 20 7] ++ c.ctx) (algBits (bitsOf c.attr0 16 4))) with
            fromDrs := true })))


/-! ## Cipher engine -/

/-- The cipher engine (R568, R569, R571 to R578, R580 to R583, R585, R586): a submission is queued, or dropped and counted; an
idle lane takes an eligible head, refuses it with the STATUS of the first check of R574 that fails or accepts it; a block is
read and, as R577 has it, written or held; an operation's end writes back words 14 and 15 after its other writes; an SA is
enabled or refused; an alarm zeroes every slot and sets HOLD unless it is a tamper; ALARM_CLR and the start-up test end it.
That a submission over the side band is dropped, and the ciphers' functions, are the model's (log entries 4, 64); a
RAND_DATA word is free (log entry 3). -/
def Obligations.CipherEngine : Prop :=
  let up1 (s t : State) (k : Nat) : Prop := t.rdN k = min 0xFFFFFFFF (s.rdN k + 1)
  let raw := ciphBase + Reg.Hdr.IRQ_RAW
  let al := ciphReg Reg.Ciph.ALARM_STAT
  let ts := trngReg Reg.Trng.TRNG_STAT
  let off (s : State) : Prop := s.domainOn 10 = false ∨ s.gated 0 = true
  let dma (s : State) (vi addr : Nat) (l : List Nat) : List Emit :=
    if l = [] ∨ s.suppressed vi = true then [] else (s.dmaHalves.map (fun (h : Half) => Emit.memWrite h addr l)).reverse
  (∀ (s : State) (acc : Access) (v : Word) (n : Fin 127),
    let sub (c : Instr) (vi : Nat) : Prop :=
      (∀ h, acc.master = .half h → s.role h = roleActive → s.csOut vi < 32 → Leads c s fun t =>
        t.resp = .ok ∧ t.csubs = s.csubs ++ [⟨vi, h, acc.secure, v.toNat * 2 ^ 6⟩] ∧ SameBut (fun _ => false) s t) ∧
      ((∀ h, acc.master = .half h → s.role h ≠ roleActive ∨ 32 ≤ s.csOut vi) → Leads c s fun t =>
        t.resp = .ok ∧ up1 s t (ciphReg Reg.Ciph.SUBMIT_DROP) ∧ t.bit raw 17 = true ∧
        Keeps (fun k => k == ciphReg Reg.Ciph.SUBMIT_DROP || k == raw) s t)
    (Takes s acc (viReg (n.val + 1) Reg.Vi.CSUBMIT) → s.domainOn 10 = true → sub (.csubmit acc n v) (n.val + 1)) ∧
    (Takes s acc (ciphReg Reg.Ciph.SUBMIT) → sub (.ciphSubmit acc v) 0)) ∧
  (∀ (s : State) (k : Fin 4) (heads : List (Fin 128 × Option (List Word))) (iv aad tag : Option (List Nat)) (wbOk : Bool),
    let c := Instr.laneAccept k heads iv aad tag wbOk
    let e := 2 + k.val
    let elig := s.laneElig heads
    let waits : Prop := off s ∨ s.trngReady = false ∨ s.bit al 0 = true ∨ s.lane k.val ≠ none
    (waits → Leads c s fun t => t = s) ∧
    (¬waits → (∀ n < 128, elig n = false) → Leads c s fun t => t.csubs = s.csubs ∧ t.lanes = s.lanes ∧ t.regs = s.regs) ∧
    ∀ (n : Fin 128) (x : CSub), ¬waits → elig n.val = true → s.csHead n.val = some x →
      ((∀ m < 128, m ≠ n.val → elig m = false) ∧ (n.val = 0 ∨ s.weight e n.val = 0)) ∨
        (elig 0 = false ∧ (s.dwrr e).cur = some n.val ∧ 0 < s.deficit e n.val) →
      let ended (t : State) : Prop := t.csubs = s.csubs.erase x ∧ t.lane k.val = none ∧ t.slots = s.slots ∧
        up1 s t (ciphReg Reg.Ciph.OPS_CNT) ∧ up1 s t (laneReg k.val Reg.Lane.LANE_OPS)
      (fetchedHead heads n.val = some none → Leads c s fun t => ended t ∧ t.out = s.out ∧ t.ctxs = s.ctxs) ∧
      ∀ ws, fetchedHead heads n.val = some (some ws) → ws.length = 14 →
        let bit (w i : Nat) : Bool := bitOf (ws.getD w 0) i
        let f (w lo m : Nat) : Nat := bitsOf (ws.getD w 0) lo m
        let m := f 0 0 4
        let keyed : Prop := m ≠ 7 ∧ m ≠ 8
        let key := s.slot (f 0 16 8)
        let cx := s.ctx (f 0 24 8)
        let len := (ws.getD 6 0).toNat
        let ivLen := f 1 22 5
        let tagLen := f 1 16 6
        let block := if m = 6 ∨ m = 7 then 64 else if m = 8 then 128 else if m = 9 then (if key.alg = 5 then 128 else 64) else 16
        let single : Prop := bit 0 6 = true ∧ bit 0 7 = true
        let bad : Prop := m = 0 ∨ 10 ≤ m ∨ f 0 9 7 ≠ 0 ∨ f 1 27 5 ≠ 0 ∨ f 7 24 8 ≠ 0 ∨ bit 7 17 = true ∨
          ((m = 1 ∨ m = 2) ∧ ivLen ≠ 16) ∨ (m = 3 ∧ (ivLen ≠ 12 ∨ tagLen < 12 ∨ 16 < tagLen)) ∨
          (m = 4 ∧ (ivLen < 7 ∨ 13 < ivLen ∨ tagLen < 4 ∨ 16 < tagLen ∨ tagLen % 2 = 1)) ∨
          (m = 5 ∧ (tagLen < 4 ∨ 16 < tagLen)) ∨ (m = 6 ∧ (ivLen ≠ 12 ∨ tagLen ≠ 16)) ∨
          (m = 9 ∧ (tagLen < 16 ∨ (if key.alg = 4 then 32 else 48) < tagLen)) ∨ ((m = 7 ∨ m = 8) ∧ bit 0 4 = true) ∨
          (m = 4 ∧ ¬single) ∨ (bit 0 6 = false ∧ f 7 0 17 ≠ 0) ∨ (bit 0 7 = false ∧ len % block ≠ 0) ∨
          (¬single ∧ bit 0 4 = true ∧ (m = 3 ∨ m = 6) ∧ bit 0 5 = false)
        let foreign : Prop := s.ctxOwner (f 0 24 8) ≠ x.vi ∨
          (keyed ∧ key.valid = true ∧ ((key.world = true ∧ x.secure = false) ∨ (x.vi ≠ 0 ∧ x.vi ≠ key.vi)))
        let empty : Prop := keyed ∧ (key.valid = false ∨ (key.life = 1 ∧ key.count = 0))
        let serves : Prop := (if m = 6 then key.alg = 3 else if m = 9 then key.alg = 4 ∨ key.alg = 5 else key.alg = 1 ∨ key.alg = 2) ∧
          key.usage.testBit ((if m = 5 ∨ m = 9 then 2 else 0) + f 0 4 1) = true
        let wrongCtx : Prop := bit 0 6 = cx.opened ∨
          (bit 0 6 = false ∧ ((keyed ∧ cx.slot ≠ f 0 16 8) ∨ cx.mode ≠ m ∨ cx.dir ≠ f 0 4 1))
        let revoked : Prop := keyed ∧ bit 0 6 = false ∧ cx.gen ≠ key.gen
        let before := if bit 0 6 = true then 0 else cx.inp.length
        let tooLong : Prop :=
          (if m = 3 ∨ m = 6 then 2 ^ 20 else if m = 4 then 2 ^ 16 else 2 ^ 24) < len ∨
          (if m = 5 then 2 ^ 24 else if m = 3 ∨ m = 6 then 2 ^ 36 - 32 else 2 ^ 36) < before + len ∨
          (if m = 3 ∨ m = 4 ∨ m = 6 then 2 ^ 16 < f 7 0 17 else f 7 0 17 ≠ 0) ∨ (m = 1 ∧ (len = 0 ∨ len % 16 ≠ 0))
        let refused (st : Nat) : Prop := bit 0 8 = false → Leads c s fun t =>
          ended t ∧ up1 s t (ciphReg Reg.Ciph.REFUSED_CNT) ∧
          let r := if bit 0 7 = true ∧ bit 0 6 = false ∧ s.ctxOwner (f 0 24 8) = x.vi then cx.sess else 0
          t.out = (if wbOk = true then
            dma s x.vi (x.addr + 56) (octets (word14 st r false) ++ octets (word r)) else []) ++ s.out
        (bad → refused 5) ∧ (¬bad → foreign → refused 6) ∧ (¬bad → ¬foreign → empty → refused 8) ∧
        (¬bad → ¬foreign → ¬empty →
          (keyed → ¬serves → refused 7) ∧
          ((keyed → serves) → (wrongCtx → refused 9) ∧ (¬wrongCtx → revoked → refused 4) ∧
            (¬wrongCtx → ¬revoked → tooLong → refused 3) ∧
            (¬wrongCtx → ¬revoked → ¬tooLong → Leads c s fun t =>
              t.csubs = s.csubs.erase x ∧ t.out = s.out ∧
              (keyed → (t.slot (f 0 16 8)).count = if key.life = 1 then key.count - 1 else key.count) ∧
              (bit 0 6 = true → bit 0 7 = false → (t.ctx (f 0 24 8)).opened = true ∧ (t.ctx (f 0 24 8)).slot = f 0 16 8 ∧
                (t.ctx (f 0 24 8)).gen = key.gen ∧ (t.ctx (f 0 24 8)).mode = m ∧ (t.ctx (f 0 24 8)).dir = f 0 4 1) ∧
              ∃ o, t.lane k.val = some o ∧ o.sub = x ∧ o.words = ws ∧ o.gen = key.gen ∧ o.released = 0 ∧
                o.inp = (if bit 0 6 = true then [] else cx.inp) ∧ (iv ≠ none → aad ≠ none → tag ≠ none → o.fail = none))))) ∧
  (∀ (s : State) (k : Fin 4) (inp : Option (List Nat)) (wrOk : Bool),
    let c := Instr.laneBlock k inp wrOk
    (s.lane k.val = none ∨ off s → Leads c s fun t => t = s) ∧
    ∀ o, s.lane k.val = some o → ¬off s →
      (o.fail ≠ none → Leads c s fun t => t = s) ∧
      (o.fail = none →
        let m := descMode o.words
        let key := s.slot (descSlot o.words)
        let lost : Prop := m ≠ 7 ∧ m ≠ 8 ∧ (key.valid = false ∨ key.gen ≠ o.gen)
        let now (t : State) (p : CipherOp) : Prop := t.lane k.val = some p ∧ t.slots = s.slots ∧ t.csubs = s.csubs
        (lost → Leads c s fun t => t.out = s.out ∧ now t { o with fail := some 4 }) ∧
        (¬lost → inp = none → Leads c s fun t => t.out = s.out ∧ now t { o with fail := some 10 }) ∧
        (∀ l, ¬lost → inp = some l → (∀ b ∈ l, b < 256) → l.length = modeBlock m key.alg → o.pass2 = false → o.base ≤ o.inp.length →
          let all := o.inp ++ l
          let left := descLen o.words - (o.inp.length - o.base)
          let aeadDec : Prop := (m = 3 ∨ m = 4 ∨ m = 6) ∧ descDir o.words = 1
          let fresh := (List.range l.length).map fun i => (s.opOut o all).getD (o.inp.length + i) 0 % 256
          (l.length ≤ left → m = 5 ∨ m = 7 ∨ m = 8 ∨ m = 9 → Leads c s fun t =>
            t.out = s.out ∧ now t { o with inp := all }) ∧
          (l.length ≤ left → 1 ≤ m → m ≤ 6 → m ≠ 5 → ¬aeadDec → wrOk = true → Leads c s fun t =>
            t.out = dma s o.sub.vi (descAddr o.words 4 + o.released) fresh ++ s.out ∧
            now t { o with
              inp := all
              released := o.released + l.length }) ∧
          (l.length ≤ left → 1 ≤ m → m ≤ 6 → m ≠ 5 → ¬aeadDec → wrOk = false → Leads c s fun t =>
            t.out = s.out ∧ t.slots = s.slots ∧ t.csubs = s.csubs ∧ ∃ p, t.lane k.val = some p ∧ p.fail = some 10) ∧
          (l.length ≤ left → aeadDec → descStream o.words = true → o.held.length + l.length < 4096 ∨ wrOk = true →
            Leads c s fun t =>
              if o.held.length + l.length < 4096 then
                t.out = s.out ∧ now t { o with
                  inp := all
                  held := o.held ++ fresh }
              else
                t.out = dma s o.sub.vi (descAddr o.words 4 + o.released) ((o.held ++ fresh).take 4096) ++ s.out ∧
                t.slots = s.slots ∧ t.csubs = s.csubs ∧
                ∃ p, t.lane k.val = some p ∧ p.held = (o.held ++ fresh).drop 4096 ∧ p.released = o.released + 4096) ∧
          (l.length ≤ left → aeadDec → descStream o.words = false → m = 4 → Leads c s fun t =>
            t.out = s.out ∧ now t { o with
              inp := all
              held := o.held ++ fresh }) ∧
          (aeadDec → descStream o.words = false → m ≠ 4 → l.length ≤ left → Leads c s fun t =>
            t.out = s.out ∧
            (l.length < left → now t { o with inp := all }) ∧
            (l.length = left → let p := { o with inp := all }
              if s.opTag p = o.tag then now t { p with pass2 := true } else now t { p with fail := some 2 }))))) ∧
  (∀ (s : State) (k : Fin 4) (wrOk wbOk : Bool),
    let c := Instr.laneOpEnd k wrOk wbOk
    (s.lane k.val = none ∨ off s → Leads c s fun t => t = s) ∧
    ∀ o, s.lane k.val = some o → ¬off s →
      let ci := descCtx o.words
      let n := o.sub.vi
      let m := descMode o.words
      let lost : Prop := m ≠ 7 ∧ m ≠ 8 ∧ ((s.slot (descSlot o.words)).valid = false ∨ (s.slot (descSlot o.words)).gen ≠ o.gen)
      let total := if descLast o.words = true then o.sess + o.released else o.released
      let ends (t : State) : Prop := t.lane k.val = none ∧ up1 s t (ciphReg Reg.Ciph.OPS_CNT) ∧
        up1 s t (laneReg k.val Reg.Lane.LANE_OPS)
      let back (st r : Nat) (p : Bool) : List Emit :=
        if wbOk = true then dma s n (o.sub.addr + 56) (octets (word14 st r p) ++ octets (word r)) else []
      let plain : Prop := bitOf (descWord o.words 0) 8 = false
      (o.fail = none → o.inp.length - o.base ≠ descLen o.words → Leads c s fun t => t = s) ∧
      (plain → o.fail = some 4 ∨ o.fail = some 11 → m ≠ 5 → 1 ≤ m → m ≤ 6 → Leads c s fun t =>
        ends t ∧ (s.ctxOwner ci = n → (t.ctx ci).opened = false) ∧
        let i := if (m = 3 ∨ m = 4 ∨ m = 6) ∧ descDir o.words = 1 ∧ descStream o.words = false then 0 else o.released
        t.out = back (o.fail.getD 0) total false ++
          dma s n (descAddr o.words 4 + i) (List.replicate (descLen o.words - i) 0) ++ s.out) ∧
      (plain → o.fail = some 10 → Leads c s fun t =>
        ends t ∧ (s.ctxOwner ci = n → (t.ctx ci).opened = false) ∧ t.out = back 10 total false ++ s.out) ∧
      (plain → o.fail = some 2 → Leads c s fun t =>
        ends t ∧ up1 s t (ciphReg Reg.Ciph.TAG_FAIL_CNT) ∧ t.bit raw 18 = true ∧
        (descLast o.words = true → s.ctxOwner ci = n → (t.ctx ci).opened = false) ∧
        t.out = (if descStream o.words = true then back 2 total true else back 2 0 false) ++ s.out) ∧
      (plain → o.fail = none → ¬lost → o.inp.length - o.base = descLen o.words → o.pass2 = false → o.held = [] →
        descDir o.words = 0 → wrOk = true → wbOk = true → Leads c s fun t =>
          ends t ∧
          (descLast o.words = true → s.ctxOwner ci = n → (t.ctx ci).opened = false) ∧
          (descLast o.words = false → (t.ctx ci).inp = o.inp ∧ (t.ctx ci).sess = o.sess + o.released) ∧
          t.out = back 1 total false ++
            (if descLast o.words = true ∧ m ≠ 1 ∧ m ≠ 2 then dma s n (descAddr o.words 12) (s.opTag o) else []) ++ s.out) ∧
      (plain → o.fail = none → ¬lost → o.inp.length - o.base = descLen o.words → o.pass2 = true →
        o.held.length = descLen o.words → m = 3 ∨ m = 6 → descDir o.words = 1 → descStream o.words = false →
        wbOk = true → Leads c s fun t => ends t ∧
          (readsTag o.words = false ∨ s.opTag o = o.tag → t.out = back 1 total false ++ s.out))) ∧
  (∀ (s : State) (acc : Access) (p : Fin 6) (v : Word), Takes s acc (msReg p.val Reg.Msec.SA_CTRL) →
    let i := s.saSel p.val
    let x := s.sa p.val i
    let key := s.slot (bitsOf v 0 8)
    let spent : Prop := key.valid = false ∨ (key.life = 1 ∧ key.count = 0)
    let sets (a : Sa) : Prop := Leads (.saEnable acc p v) s fun t =>
      t.resp = .ok ∧ t.sa p.val i = a ∧ t.slots = s.slots ∧ SameBut (fun _ => false) s t
    (bitOf v 8 = true →
      (spent → sets { x with result := 2 }) ∧
      (¬spent → key.alg ≠ 2 ∨ key.usage.testBit 7 = false → sets { x with result := 3 }) ∧
      (¬spent → key.alg = 2 → key.usage.testBit 7 = true → x.en = false → Leads (.saEnable acc p v) s fun t =>
        t.resp = .ok ∧ t.sa p.val i = { x with
          slot := bitsOf v 0 8
          en := true
          result := 1 } ∧
        (t.slot (bitsOf v 0 8)).count = if key.life = 1 then key.count - 1 else key.count)) ∧
    (bitOf v 8 = false → (s.slot x.slot).life = 0 → sets { x with
      slot := bitsOf v 0 8
      en := false })) ∧
  (∀ (s : State) (cause : Fin 3),
    (s.domainOn 10 = false → Leads (.cipherAlarm cause) s fun t => t = s) ∧
    (s.domainOn 10 = true → s.reaction 38 ≤ 1 → Leads (.cipherAlarm cause) s fun t =>
      t.slots = [] ∧ (∀ p < 6, ∀ i < 36, (t.sa p i).en = false) ∧ t.bit al 0 = true ∧
      t.bit al (if cause.val = 2 then 5 else 4) = true ∧ up1 s t (ciphReg Reg.Ciph.ALARM_CNT) ∧ t.bit raw 16 = true ∧
      (∀ k < 4, ∀ o, s.lane k = some o → ∃ p, t.lane k = some p ∧ p.fail ≠ none ∧ (o.fail = none → p.fail = some 11)) ∧
      (cause.val < 2 → t.bit ts 0 = false ∧ t.bit ts 2 = true ∧
        up1 s t (trngReg (if cause.val = 0 then Reg.Trng.RCT_FAIL else Reg.Trng.APT_FAIL))))) ∧
  (∀ (s : State) (acc : Access) (v : Word), Takes s acc (ciphReg Reg.Ciph.ALARM_CLR) →
    ((s.asSent acc).secure = true → bitOf v 0 = true → s.bit al 0 = true → Leads (.alarmClr acc v) s fun t =>
      t.resp = .ok ∧ t.bit al 0 = false ∧ t.bit ts 0 = false ∧ t.bit ts 1 = true ∧ t.bit ts 2 = false ∧
      Keeps (fun k => k == al || k == ts) s t) ∧
    ((s.asSent acc).secure = true → bitOf v 0 = false ∨ s.bit al 0 = false → Leads (.alarmClr acc v) s fun t =>
      t.resp = .ok ∧ Keeps (fun _ => false) s t) ∧
    ((s.asSent acc).secure = false → Leads (.alarmClr acc v) s fun t =>
      t.bit (ciphBase + Reg.Hdr.UNIT_STAT) 10 = true ∧ Keeps (· == ciphBase + Reg.Hdr.UNIT_STAT) s t)) ∧
  (∀ s : State,
    (s.domainOn 10 = false ∨ s.bit ts 0 = true ∨ s.bit ts 2 = true → Leads .trngStartupDone s fun t => t = s) ∧
    (s.domainOn 10 = true → s.bit ts 0 = false → s.bit ts 2 = false → Leads .trngStartupDone s fun t =>
      t.bit ts 0 = true ∧ t.bit ts 1 = false ∧ SameBut (· == ts) s t)) ∧
  ∀ (s : State) (acc : Access), Shows s acc (trngReg Reg.Trng.RAND_DATA) →
    ((s.asSent acc).secure = false → Leads (.randDataRead acc) s fun t => t.resp = .data 0 ∧ SameBut (fun _ => false) s t) ∧
    ((s.asSent acc).secure = true → s.trngReady = false → Leads (.randDataRead acc) s fun t =>
      t.resp = .data 0 ∧ t.bit ts 3 = true ∧ SameBut (· == ts) s t) ∧
    ((s.asSent acc).secure = true → s.trngReady = true → Leads (.randDataRead acc) s fun t =>
      t.resp = .data (word s.fresh.1) ∧ SameBut (fun _ => false) s t)


/-! ## Service port, Shepherd and image update -/

/-- The service protocol (R594 to R607, R613, R614, R628): which frames are taken, and what an idle Shepherd answers to a
request it does not execute; HELLO, AUTH and the ends of sessions; register, debug and message commands; staging, its lock and
its verification. A request is executed by the row of its command while it is alone in the queue (log entry 71); DM_READ's
datum is free (log entry 3). -/
def Obligations.ServiceProtocol : Prop :=
  let up1 (s t : State) (k : Nat) : Prop := t.rdN k = min 0xFFFFFFFF (s.rdN k + 1)
  let drop := sportReg Reg.Sport.ISP_DROP
  let rx := sportReg Reg.Sport.ISP_RX
  let raw := shepBase + Reg.Hdr.IRQ_RAW
  let dropped (c : Instr) (s : State) : Prop := Leads c s fun t =>
    up1 s t drop ∧ SameBut (· == drop) s t ∧ t.shep = s.shep ∧ t.out = s.out
  let rows : List Instr := [.hello, .auth, .close, .ping, .regRead, .regWrite, .dmRead, .dmWrite, .ispMsgSend, .msgPoll, .stageOpen,
    .stageData true, .stageClose, .stageAbort, .stageStatus, .armActivation, .disarm, .actStatus, .recover]
  (∀ s : State, s.shep.reqs = [] ∨ s.shep.closing ≠ none → ∀ c ∈ rows, Leads c s fun t => t = s) ∧
  (∀ (s : State) (l : List Nat),
    let da := be l 0 6
    let good : Prop := fcsGood l = true ∧ isTagged l = false ∧ be l 12 2 = 0x88B5 ∧ (da = s.spMac ∨ da = s.whistleMac)
    let f := (l.drop 14).take (l.length - 18)
    let h := f.getD 0 0
    let r : IspReq := ⟨octs (l.drop 6) 6, f⟩
    (s.spUp = false → Leads (.spFrameRx l) s fun t => t = s) ∧
    (s.spUp = true → ¬good → dropped (.spFrameRx l) s) ∧
    (s.spUp = true → good → h < 256 →
      (h / 16 ≠ 1 → Leads (.spFrameRx l) s fun t => t = s) ∧
      (h / 16 = 1 → h % 16 = 0 ∨ 5 ≤ h % 16 → dropped (.spFrameRx l) s) ∧
      (h = 0x11 → 16 ≤ s.shep.reqs.length → dropped (.spFrameRx l) s) ∧
      (h = 0x11 → s.shep.reqs.length < 16 → s.shep.closing ≠ none → Leads (.spFrameRx l) s fun t =>
        t.shep = { s.shep with
          reqs := s.shep.reqs ++ [r] } ∧ t.regs = s.regs ∧ t.out = s.out) ∧
      (h = 0x13 → lenFits f 0 = true → be f 10 2 = 116 → Leads (.spFrameRx l) s fun t =>
        t.shep = { s.shep with
          whistleIn := s.shep.whistleIn ++ [octs (f.drop 12) 116] } ∧ t.regs = s.regs) ∧
      (h = 0x14 → lenFits f 0 = true → be f 10 2 = 7 → Leads (.spFrameRx l) s fun t =>
        t.shep = { s.shep with
          ackIn := s.shep.ackIn ++ [octs (f.drop 12) 7] } ∧ t.regs = s.regs) ∧
      (h = 0x11 → s.shep.closing = none → s.shep.reqs = [] →
        let plain (n st : Nat) : List Emit :=
          [.spFrame (ethFrame r.src (bigEnd 6 s.spMac) ([0x12, r.cmd] ++ bigEnd 2 n ++ bigEnd 4 r.seq ++ [st, 0, 0, 0]))]
        let noHello (st : Nat) : Prop := Leads (.spFrameRx l) s fun t =>
          t.out = plain 0 st ++ s.out ∧ t.shep = s.shep ∧ up1 s t rx ∧ SameBut (· == rx) s t
        let lv := r.pay.getD 0 0
        (r.cmd = 1 → lenFits f 0 = true →
          (r.len ≠ 33 ∨ lv = 0 ∨ 4 < lv → noHello 0x01) ∧
          (r.len = 33 → 1 ≤ lv → lv ≤ 4 →
            let there : Prop := if lv = 3 then s.inDead = true else if lv = 4 then
              s.drsValid = false ∨ s.recWin 1022 = none ∨ s.recWin 1023 = none else s.inDead = false
            (s.shep.locked = true → noHello 0x05) ∧ (s.shep.locked = false → ¬there → noHello 0x06) ∧
            (s.shep.locked = false → there → 4 ≤ s.shep.sessions.length → noHello 0x07) ∧
            (s.shep.locked = false → there → s.shep.sessions.length < 4 → lv ≠ 4 → (s.slot (if lv = 1 then 254 else 255)).valid = false →
              noHello 0x0A))) ∧
        (r.cmd ≠ 1 → r.len ≤ 1100 → 12 + r.len ≤ f.length → (∀ y ∈ s.shep.sessions, y.num ≠ r.session) →
          Leads (.spFrameRx l) s fun t => t.out = plain r.session 0x03 ++ s.out ∧ t.shep = s.shep ∧ t.regs = s.regs) ∧
        (∀ x, r.cmd ≠ 1 → s.sessionOf r = some x → lenFits f (trailerLen x r.cmd) = true →
          (s.trailerOk x r = false → dropped (.spFrameRx l) s) ∧
          (s.trailerOk x r = true →
            (x.seq ≠ 0 → r.seq = x.seq → Leads (.spFrameRx l) s fun t =>
              t.out = Emit.spFrame (ethFrame r.src (bigEnd 6 s.spMac) x.resp) :: s.out ∧ t.shep = s.shep ∧ t.regs = s.regs) ∧
            (r.seq ≠ (x.seq + 1) % 2 ^ 32 → x.seq = 0 ∨ r.seq ≠ x.seq → Leads (.spFrameRx l) s fun t =>
              t.out ≠ s.out ∧ t.shep = s.shep ∧ t.regs = s.regs) ∧
            (r.seq = (x.seq + 1) % 2 ^ 32 →
              let no (st : Nat) : Prop := Leads (.spFrameRx l) s fun t => Replies s t r x st [] [] ∧ SameBut (· == rx) s t
              (cmdKnown r.cmd = false → no 0x02) ∧
              (cmdKnown r.cmd = true → s.inDead = true → r.cmd ∈ [0x12, 0x13, 0x14, 0x15, 0x30, 0x31] → no 0x09) ∧
              (s.inDead = false → r.cmd ∈ [0x20, 0x21, 0x22, 0x23, 0x30, 0x31] → x.level = 1 ∨ x.level = 4 → no 0x06) ∧
              (s.inDead = false → r.cmd = 0x40 → x.level ≠ 3 → no 0x06) ∧
              (r.cmd = 4 → 64 < r.len → no 0x01))))))) ∧
  (∀ (s : State) (h : Half),
    let q := if h = .a then s.hostRxA else s.hostRxB
    let isp (x : RxItem) : Prop := etherType x.octs = 0x88B5
    let queue (t : State) := if h = .a then t.hostRxA else t.hostRxB
    ((∀ x ∈ q, ¬isp x) ∨ s.domainOn 6 = false → Leads (.fabricIspRx h) s fun t => t = s) ∧
    (∀ x rest, q = x :: rest → isp x → s.domainOn 6 = true →
      let f := (x.octs.drop (payloadAt x.octs)).take (x.octs.length - payloadAt x.octs - 4)
      (f.getD 0 0 = 0x11 ∨ f.getD 0 0 = 0x12 → Leads (.fabricIspRx h) s fun t => queue t = rest ∧ t.shep = s.shep ∧ t.regs = s.regs) ∧
      (f.getD 0 0 = 0x13 → lenFits f 0 = true → be f 10 2 = 116 → Leads (.fabricIspRx h) s fun t =>
        queue t = rest ∧ t.shep.whistleIn = s.shep.whistleIn ++ [octs (f.drop 12) 116] ∧ t.regs = s.regs))) ∧
  (∀ (s : State) (r : IspReq), s.shep.closing = none → s.shep.reqs = [r] → r.cmd = 1 → lenFits r.octs 0 = true → r.len = 33 →
    let lv := r.pay.getD 0 0
    1 ≤ lv → lv ≤ 4 → s.shep.locked = false → s.shep.sessions.length < 4 →
    (if lv = 3 then s.inDead = true else if lv = 4 then
      s.drsValid = false ∨ s.recWin 1022 = none ∨ s.recWin 1023 = none else s.inDead = false) →
    (lv ≠ 4 → (s.slot (if lv = 1 then 254 else 255)).valid = true) → Leads .hello s fun t =>
      t.shep.reqs = [] ∧ up1 s t rx ∧ t.shep.sessions.dropLast = s.shep.sessions ∧
      ∃ x, t.shep.sessions.getLast? = some x ∧ x.opened = false ∧ x.level = lv ∧ x.seq = 0 ∧ 1 ≤ x.num ∧ x.num ≤ 0xFFFF ∧
        (∀ y ∈ s.shep.sessions, y.num ≠ x.num) ∧ x.ntool = octs (r.pay.drop 1) 32 ∧ x.ndev.length = 32 ∧
        x.unit = s.selfUnit ∧ x.boot = s.rdN (pwrBase + Reg.Pwr.BOOT_CNT) ∧ x.digest = s.imgDigest ∧
        t.out = (if s.spUp then [Emit.spFrame (ethFrame r.src (bigEnd 6 s.spMac) ([0x12, 1] ++ bigEnd 2 x.num ++ bigEnd 4 r.seq ++
          [0, 0] ++ bigEnd 2 87 ++ x.ndev ++ bigEnd 2 x.unit ++ bigEnd 4 x.boot ++ x.digest ++
          [b2n s.drsValid + 2 * b2n s.inDead]))] else []) ++ s.out) ∧
  (∀ (s : State) (r : IspReq) (x : Session), Serves s r x 2 → x.opened = false → x.seq = 0 →
    r.len = (if hmacLevel x.level then 32 else 96) →
    let good : Prop := if hmacLevel x.level then r.pay = s.proof x (x.chal [1])
      else s.stationSigned (x.ndev ++ x.ntool ++ bigEnd 2 x.unit ++ bigEnd 4 x.boot) r.pay = true
    Leads .auth s fun t =>
      (good → Replies s t r { x with
          opened := true } 0 (if hmacLevel x.level then s.proof x (x.chal [2]) else []) [] ∧
        (∀ y ∈ t.shep.sessions, y.num = x.num → y.opened = true) ∧ t.shep.fails = 0 ∧ t.bit raw 16 = true) ∧
      (¬good → t.shep.sessions = s.shep.sessions ∧ t.shep.fails = s.shep.fails + 1 ∧ (2 ≤ s.shep.fails → t.shep.locked = true) ∧
        up1 s t (shepReg Reg.Shep.AUTH_FAIL_CNT) ∧ t.bit raw 17 = true)) ∧
  (∀ (s : State) (r : IspReq) (x : Session),
    (Serves s r x 3 → r.len = 0 → s.shep.holder ≠ some x.num → s.inDead = false → Leads .close s fun t =>
      Replies s t r x 0 [] [] ∧ t.shep.sessions.length < s.shep.sessions.length ∧ (∀ y ∈ t.shep.sessions, y.num ≠ x.num) ∧
      t.bit raw 16 = true ∧ SameBut (fun k => k == raw || k == rx) s t) ∧
    (Serves s r x 4 → r.len ≤ 64 → Leads .ping s fun t => Replies s t r x 0 r.pay [] ∧ SameBut (· == rx) s t) ∧
    (let a := be r.pay 0 4
     let n := r.pay.getD 4 0
     let acc : Access := ⟨.shep, decide (2 ≤ x.level), 0⟩
     let s0 := { s with
       shep := { s.shep with
         reqs := [] } }
     (Serves s r x 0x10 → r.len = 5 → 1 ≤ n → n ≤ 64 →
       let u := regReadRun acc n a [] s0
       s.shep.reading = none → u.2.2.shep = s0.shep →
         (∀ code, u.1 = some code → Leads .regRead s fun t => t.resp = s.resp ∧
           Replies u.2.2 t r x 0 ([code, u.2.1.length] ++ u.2.1.flatMap fun (w : Word) => bigEnd 4 w.toNat) []) ∧
         (u.1 = none → Leads .regRead s fun t => t.resp = s.resp ∧ t.out = u.2.2.out ∧ t.shep = { s0.shep with
           reqs := [r]
           reading := some (x.num, r.seq, u.2.1) })) ∧
     (Serves s r x 0x11 → 1 ≤ n → n ≤ 64 → r.len = 5 + 4 * n →
       let ws := (List.range n).map fun i => word (be r.pay (5 + 4 * i) 4)
       let reach (k : Nat) : Bool := x.level != 4 || [sysBase, keysBase, vaultBase, shepBase].contains (k / 0x1000 * 0x1000)
       let u := regWriteRun acc reach ws a 0 s0
       u.2.2.shep = s0.shep → Leads .regWrite s fun t => t.resp = s.resp ∧ Replies u.2.2 t r x 0 [u.1, u.2.1] [])) ∧
    (x.level ≠ 4 → r.pay.getD 0 0 ≤ 1 →
      let h : Half := if r.pay.getD 0 0 = 1 then .b else .a
      let sec := decide (2 ≤ x.level)
      let a := r.pay.getD 1 0
      (Serves s r x 0x12 → r.len = 2 → Leads .dmRead s fun t =>
        Replies s t r x 0 (bigEnd 4 (s.freshIn 0 0xFFFFFFFF).1) [] ∧ SameBut (· == rx) s t) ∧
      (Serves s r x 0x13 → r.len = 6 → Leads .dmWrite s fun t =>
        Replies s t r x 0 [] (if s.domainOn h.pd then
          [.dmi h a (word (be r.pay 2 4)) sec (sec && (a == 0x17 || a == 0x39 || a == 0x3C) && !s.invasive true)] else []) ∧
        SameBut (· == rx) s t)) ∧
    (Serves s r x 0x14 → x.level ≠ 4 → r.len = 32 →
      let w (i : Nat) : Word := imgWord r.pay (4 * i)
      let e := s.dirEntry (bitsOf (w 0) 0 14)
      s.domainOn 6 = true → bitOf e 31 = true → bitOf e 30 = true → Leads .ispMsgSend s fun t =>
        Replies s t r x 0 [] [] ∧ (∀ i < 8, t.rd (shepBase + Reg.Shep.MSG_TX + 4 * i) = w i) ∧
        t.dirIn = s.dirIn ++ [(true, [w 0, setBits (setBits (w 1) 14 2 2) 0 14 s.selfUnit, setBits (w 2) 16 4 0, w 3, w 4, w 5, w 6,
          w 7])]) ∧
    (Serves s r x 0x15 → x.level ≠ 4 → r.len = 1 → Leads .msgPoll s fun t =>
      Replies s t r x 0 (s.mrqS.length :: (List.range 8).flatMap fun i => octets (s.rd (shepBase + Reg.Shep.MSG_TX + 0x40 + 4 * i))) [] ∧
      t.mrqS = if r.pay.getD 0 0 % 2 = 1 then s.mrqS.tail else s.mrqS) ∧
    (Serves s r x 0x24 → x.level ≠ 4 → r.len = 0 → Leads .stageStatus s fun t =>
      Replies s t r x 0 (bigEnd 4 (s.rdN (shepReg Reg.Shep.STAGE_STAT)) ++ bigEnd 2 (s.shep.holder.getD 0) ++
        bigEnd 4 s.shep.nextOff) [] ∧ SameBut (· == rx) s t)) ∧
  (∀ (s : State) (r : IspReq) (x : Session), 2 ≤ x.level → x.level ≠ 4 →
    let n := be r.pay 0 4
    let mine : Prop := s.shep.holder = some x.num
    let invalid (t : State) : Prop := t.shep.holder = none ∧ t.targetSt = 4
    let live : Prop := s.inDead = false
    (∀ ok, Serves s r x 0x21 → 5 ≤ r.len → r.len ≤ 1028 →
      let d := r.pay.drop 4
      let no (st : Nat) : Prop := Leads (.stageData ok) s fun t => Replies s t r x st [] [] ∧ SameBut (· == rx) s t
      (¬mine → no 0x11) ∧ (mine → n ≠ s.shep.nextOff ∨ s.shep.imgLen < n + d.length → no 0x12) ∧
      (mine → n = s.shep.nextOff → n + d.length ≤ s.shep.imgLen →
        (s.domainOn 3 = false ∨ s.domainOn 5 = false ∨ ok = false → no 0x16) ∧
        (s.domainOn 3 = true → s.domainOn 5 = true → ok = true → Leads (.stageData ok) s fun t =>
          Replies s t r x 0 [] [] ∧ t.shep.nextOff = n + d.length ∧ t.shep.img = s.shep.img ++ d ∧ t.shep.holder = s.shep.holder ∧
          t.codeStore = (s.stagePut n d).codeStore ∧
          SameBut (· == rx) s t))) ∧
    (Serves s r x 0x22 → r.len = 0 →
      (¬mine → Leads .stageClose s fun t => Replies s t r x 0x11 [] [] ∧ SameBut (· == rx) s t) ∧
      (mine → live → s.shep.nextOff < s.shep.imgLen → Leads .stageClose s fun t => Replies s t r x 0x13 [] [] ∧ invalid t) ∧
      (mine → live → s.shep.imgLen ≤ s.shep.nextOff → Leads .stageClose s fun t =>
        t.shep.closing = some r ∧ t.shep.reqs = [] ∧ t.targetSt = 2 ∧ t.shep.holder = s.shep.holder ∧ t.out = s.out)) ∧
    (Serves s r x 0x23 → r.len = 0 →
      (¬mine → Leads .stageAbort s fun t => Replies s t r x 0x11 [] [] ∧ SameBut (· == rx) s t) ∧
      (mine → live → Leads .stageAbort s fun t => Replies s t r x 0 [] [] ∧ invalid t)) ∧
    (s.shep.closing = some r → s.shep.reqs = [] → s.sessionOf r = some x → mine → live → ∀ same, Leads (.stageVerifyDone same) s fun t =>
      let l := s.shep.img
      let w (i : Nat) : Nat := (imgWord l (4 * i)).toNat
      let id := s.rd (sysBase + Reg.Sys.DEV_ID)
      let digest := octs (Config.sha 384 (l.take 0x100 ++ List.replicate 0x60 0 ++ l.drop 0x160)) 48
      let passes : Prop := w 0 = 0x5A55494D ∧ w 1 % 256 = 1 ∧ w 1 / 2 ^ 16 = bitsOf id 16 16 ∧ w 2 % 256 ≤ bitsOf id 0 8 ∧
        512 ≤ w 3 ∧ w 3 ≤ 805306368 ∧ w 3 % 512 = 0 ∧ w 3 = s.shep.imgLen ∧
        Config.ecdsaVerify (s.shepKey Reg.Shep.IMG_KEY) digest (octs (l.drop 0x100) 96) = true ∧ same = true
      t.shep.closing = none ∧ t.shep.holder = none ∧
      (¬passes → Replies s t r x 0x14 [] [] ∧ invalid t) ∧
      (passes → w 4 < s.rdN (shepReg Reg.Shep.MIN_VERSION) → Replies s t r x 0x15 [] [] ∧ invalid t) ∧
      (passes → s.rdN (shepReg Reg.Shep.MIN_VERSION) ≤ w 4 → Replies s t r x 0 (bigEnd 4 (w 4) ++ digest) [] ∧ t.targetSt = 3))) ∧
  (∀ (s : State) (same : Bool), s.shep.closing = none → Leads (.stageVerifyDone same) s fun t => t = s) ∧
  (∀ s : State,
    (s.shep.closing ≠ none ∨ (s.shep.holder = none ∧ s.inDead = false) → Leads .stageLockTimeout s fun t => t = s) ∧
    (s.shep.closing = none → s.shep.holder ≠ none → s.inDead = false → Leads .stageLockTimeout s fun t =>
      t.shep.holder = none ∧ t.shep.otherSt = 4 ∧ t.shep.sessions = s.shep.sessions) ∧
    (s.shep.locked = true → Leads .authLockExpiry s fun t => t = { s with
      shep := { s.shep with
        locked := false
        fails := 0 } }) ∧
    (s.shep.locked = false → Leads .authLockExpiry s fun t => t = s)) ∧
  ∀ (s : State) (n : Nat), s.shep.reqs = [] → s.inDead = false →
    let left (c : Instr) (o : Bool) : Prop := Leads c s fun t =>
      t.shep.sessions = s.shep.sessions.filter (fun (y : Session) => !(y.num == n && y.opened == o)) ∧ t.out = s.out ∧
      ((∃ y ∈ s.shep.sessions, y.num = n ∧ y.opened = o ∧ s.shep.holder = some n) → t.shep.holder = none ∧ t.shep.otherSt = 4) ∧
      ((∃ y ∈ s.shep.sessions, y.num = n ∧ y.opened = o ∧ o = true) → t.bit raw 16 = true)
    left (.authTimeout n) false ∧ left (.sessionTimeout n) true

/-- STAGE_OPEN (R612, in a session whose level may stage): STAGE_BUSY with the holder's number where another session holds the lock;
then ACT_ARMED, BAD_IMAGE and NO_STORE in this order; one that passes takes the lock, sets the target slot's state to WRITING and
the next expected offset to 0, for the holder itself too. In DEAD Kennel switches the code stores on (R623). -/
def Obligations.StageOpening : Prop :=
  ∀ (s : State) (r : IspReq) (x : Session), Serves s r x 0x20 → 2 ≤ x.level → x.level ≠ 4 → r.len = 4 →
    let n := be r.pay 0 4
    let rx := sportReg Reg.Sport.ISP_RX
    let sized : Prop := 512 ≤ n ∧ n ≤ 805306368 ∧ n % 512 = 0
    let free : Prop := ∀ h, s.shep.holder = some h → h = x.num
    let no (st : Nat) (p : List Nat) : Prop := Leads .stageOpen s fun t => Replies s t r x st p [] ∧ SameBut (· == rx) s t ∧
      t.shep.holder = s.shep.holder ∧ t.targetSt = s.targetSt
    let opens (t : State) : Prop := t.shep.holder = some x.num ∧ t.shep.imgLen = n ∧ t.shep.nextOff = 0 ∧ t.shep.img = [] ∧ t.targetSt = 1
    (∀ h, s.shep.holder = some h → h ≠ x.num → no 0x10 (bigEnd 2 h)) ∧
    (free → s.actState = 1 → no 0x17 []) ∧ (free → s.actState ≠ 1 → ¬sized → no 0x13 []) ∧
    (free → s.actState ≠ 1 → s.actState ≠ 3 → sized → s.domainOn 3 = false ∨ s.domainOn 5 = false → no 0x16 []) ∧
    (free → s.actState ≠ 1 → s.actState ≠ 3 → sized → s.domainOn 3 = true → s.domainOn 5 = true → Leads .stageOpen s fun t =>
      opens t ∧ Replies s t r x 0 [] [] ∧ t.shep.bootSt = s.shep.bootSt) ∧
    (free → s.actState = 3 → sized → Leads .stageOpen s fun t =>
      opens t ∧ t.shep.otherSt = s.shep.otherSt ∧ t.gateSt 3 = 1 ∧ t.gateSt 5 = 1)

/-- Activation (R608, R609, R611, R615 to R624): ARM_ACTIVATION, DISARM and RECOVER with their checks in order; a Whistle, sent five
times and acted on once; the instant; the boot verification; the health window and its end in a commit or in DEAD. The last
writes of a persistent word before it wears out are left out here (StepKeepsInv and DomainsAndPersistence cover them); the
signature check is opaque (log entry 4), so a conclusion names both of its outcomes. -/
def Obligations.Activation : Prop :=
  let up1 (s t : State) (k : Nat) : Prop := t.rdN k = min 0xFFFFFFFF (s.rdN k + 1)
  let rg (s : State) (off : Nat) : Nat := s.rdN (shepReg off)
  let rx := sportReg Reg.Sport.ISP_RX
  let raw := shepBase + Reg.Hdr.IRQ_RAW
  let result (t : State) : Nat := t.fld (shepReg Reg.Shep.ACT_STAT) 4 4
  let fresh (s : State) : Prop := ∀ off ∈ [Reg.Shep.BOOT_SLOT, Reg.Shep.ACT_STAT, Reg.Shep.ACT_ID, Reg.Shep.LAST_ACT_ID,
    Reg.Shep.INSTANT_SEC_LO, Reg.Shep.INSTANT_SEC_HI, Reg.Shep.INSTANT_NS, Reg.Shep.RUN_VERSION, Reg.Shep.STAGE_STAT,
    Reg.Shep.STAGE_VERSION], s.wearOf (shepReg off) < 9999990
  let sec (l : List Nat) : Nat := be l 8 6
  let ns (l : List Nat) : Nat := be l 14 4
  let at' (l : List Nat) : Nat := (sec l * 1000000000 + ns l) * 2 ^ 40
  let signed (s : State) (l : List Nat) : Prop := s.stationSigned (l.take 20) (octs (l.drop 20) 96) = true
  let member (s : State) (l : List Nat) : Prop := ∃ i ∈ List.range 8,
    s.bit (shepReg Reg.Shep.ACT_GROUP + 4 * i) 31 = true ∧ s.fld (shepReg Reg.Shep.ACT_GROUP + 4 * i) 0 16 = be l 4 2
  let armed (t : State) (l : List Nat) : Prop := t.actState = 1 ∧ rg t Reg.Shep.ACT_ID = be l 0 4 ∧ rg t Reg.Shep.LAST_ACT_ID = be l 0 4 ∧
    rg t Reg.Shep.INSTANT_SEC_LO = sec l % 2 ^ 32 ∧ rg t Reg.Shep.INSTANT_SEC_HI = sec l / 2 ^ 32 ∧
    rg t Reg.Shep.INSTANT_NS = ns l % 2 ^ 30 ∧ t.bit raw 19 = true
  let unarmed (s t : State) : Prop := t.actState = s.actState ∧ rg t Reg.Shep.ACT_ID = rg s Reg.Shep.ACT_ID ∧
    rg t Reg.Shep.LAST_ACT_ID = rg s Reg.Shep.LAST_ACT_ID
  let acks (s t : State) (l : List Nat) (result : Nat) : Prop := s.domainOn 6 = true →
    let body := [0x14] ++ List.replicate 9 0 ++ bigEnd 2 7 ++ (bigEnd 4 (be l 0 4) ++ bigEnd 2 s.selfUnit ++ [result])
    let f := withFcs (ethFrame (bigEnd 6 (s.unitMac (be l 18 2 % 16384))) (bigEnd 6 (s.unitMac s.selfUnit)) body ++ [0, 0, 0, 0])
    if s.activeHalf = .a then t.hostTxA = s.hostTxA ++ [⟨129, 0, [], f⟩] else t.hostTxB = s.hostTxB ++ [⟨129, 0, [], f⟩]
  let silent (s t : State) : Prop := t.hostTxA = s.hostTxA ∧ t.hostTxB = s.hostTxB ∧ t.out = s.out
  let dead (s t : State) (r : Nat) : Prop := t.actState = 3 ∧ result t = r ∧ t.shep.sessions = [] ∧ t.devState = 5 ∧
    t.shep.bootSt = 4 ∧ t.shep.otherSt = (if s.shep.holder ≠ none ∧ s.actState ≠ 3 then 4 else s.shep.otherSt) ∧
    t.shep.holder = none ∧ t.shep.winEnd = none ∧ ∀ h, t.halfState h = 5
  (∀ (s : State) (r : IspReq) (x : Session), 2 ≤ x.level → x.level ≠ 4 → fresh s →
    let l := r.pay
    let id := be l 0 4
    let now := s.tb0Total
    let no (t : State) (st : Nat) : Prop := Replies s t r x st [] [] ∧ SameBut (· == rx) s t ∧ t.shep.sends = s.shep.sends
    let goes (t : State) : Prop := Replies s t r x 0 [] [] ∧ t.shep.sends = s.shep.sends ++ [⟨l, 5⟩] ∧ t.shep.lastOrigin = some id ∧
      t.hostTxA = s.hostTxA ∧ t.hostTxB = s.hostTxB
    (Serves s r x 0x30 → r.len = 116 → be l 6 2 % 2 = 0 → Leads .armActivation s fun t =>
      (¬signed s l → no t 0x20) ∧
      (signed s l → id ≤ rg s Reg.Shep.LAST_ACT_ID → no t 0x21) ∧
      (signed s l → rg s Reg.Shep.LAST_ACT_ID < id →
        let inTime : Prop := now + 10 ^ 9 * 2 ^ 40 ≤ at' l ∧ at' l ≤ now + 86400 * 10 ^ 9 * 2 ^ 40
        (¬inTime → no t 0x22) ∧ (inTime → s.actState = 1 → no t 0x23) ∧
        (inTime → s.actState ≠ 1 → goes t ∧
          ((id, false) ∉ s.shep.acted → member s l → s.actState = 0 → armed t l) ∧
          (¬member s l ∨ s.actState ≠ 0 → unarmed s t)))) ∧
    (Serves s r x 0x31 → r.len = 116 → be l 6 2 % 2 = 1 → Leads .disarm s fun t =>
      (¬signed s l → no t 0x20) ∧
      (signed s l → s.actState ≠ 1 ∨ rg s Reg.Shep.ACT_ID ≠ id → no t 0x24) ∧
      (signed s l → s.actState = 1 → rg s Reg.Shep.ACT_ID = id → goes t ∧
        ((id, true) ∉ s.shep.acted → member s l → t.actState = 0 ∧ result t = 4 ∧ t.bit raw 20 = true)))) ∧
  (∀ (s : State) (r : IspReq) (x : Session),
    (Serves s r x 0x32 → x.level ≠ 4 → r.len = 0 → Leads .actStatus s fun t =>
      Replies s t r x 0 (bigEnd 4 (rg s Reg.Shep.ACT_STAT) ++ bigEnd 4 (rg s Reg.Shep.ACT_ID) ++
        bigEnd 2 (s.fld (shepReg Reg.Shep.INSTANT_SEC_HI) 0 16) ++ bigEnd 4 (rg s Reg.Shep.INSTANT_SEC_LO) ++
        bigEnd 4 (rg s Reg.Shep.INSTANT_NS) ++ bigEnd 4 (rg s Reg.Shep.ACK_CNT)) [] ∧ SameBut (· == rx) s t)) ∧
  (∀ (s : State) (r : IspReq) (x : Session), Serves s r x 0x40 → x.level = 3 → r.len = 1 → fresh s →
    let m := r.pay.getD 0 0
    let no (st : Nat) (p : List Nat) : Prop := Leads .recover s fun t => Replies s t r x st p [] ∧ SameBut (· == rx) s t
    let usable : Prop := (m = 2 → s.shep.otherSt = 5 ∨ s.shep.otherSt = 3) ∧ (m = 3 → s.shep.bootSt = 3)
    1 ≤ m → m ≤ 3 →
    (s.actState ≠ 3 → no 0x25 []) ∧ (∀ h, s.actState = 3 → s.shep.holder = some h → no 0x10 (bigEnd 2 h)) ∧
    (s.actState = 3 → s.shep.holder = none → ¬usable → no 0x26 []) ∧
    (s.actState = 3 → s.shep.holder = none → usable → s.supplied = true → s.parking = false → s.rst = [] → Leads .recover s fun t =>
      t.actState = 2 ∧ t.shep.recovered = true ∧ Rst.srst ∈ t.rst ∧ t.rd (pwrReg Reg.Pwr.RST_CAUSE) = 0x777 ∧
      (∀ y ∈ t.shep.sessions, y.num ≠ x.num) ∧
      t.fld (shepReg Reg.Shep.BOOT_SLOT) 0 1 = (if m = 2 then 1 - s.fld (shepReg Reg.Shep.BOOT_SLOT) 0 1 else
        s.fld (shepReg Reg.Shep.BOOT_SLOT) 0 1) ∧
      t.shep.bootSt = (if m = 2 then s.shep.otherSt else s.shep.bootSt) ∧ t.shep.otherSt = (if m = 2 then 4 else s.shep.otherSt))) ∧
  (∀ s : State,
    (s.shep.sends = [] → Leads .whistleSend s fun t => t = s) ∧
    (∀ w ws, s.shep.sends = w :: ws →
      let f := [0x13] ++ List.replicate 9 0 ++ bigEnd 2 w.body.length ++ w.body
      let e := ethFrame (bigEnd 6 s.whistleMac) (bigEnd 6 (s.unitMac s.selfUnit)) f
      Leads .whistleSend s fun t =>
        t.shep = { s.shep with
          sends := if w.left ≤ 1 then ws else ⟨w.body, w.left - 1⟩ :: ws } ∧ t.regs = s.regs ∧
        t.out = (if s.spUp then [Emit.spFrame (ethFrame (bigEnd 6 s.whistleMac) (bigEnd 6 s.spMac) f)] else []) ++ s.out ∧
        (s.domainOn 6 = true → if s.activeHalf = .a then t.hostTxA = s.hostTxA ++ [⟨129, 0, [], withFcs (e ++ [0, 0, 0, 0])⟩]
          else t.hostTxB = s.hostTxB ++ [⟨129, 0, [], withFcs (e ++ [0, 0, 0, 0])⟩]) ∧
        (s.domainOn 6 = false → t.hostTxA = s.hostTxA ∧ t.hostTxB = s.hostTxB))) ∧
  (∀ s : State,
    (s.shep.whistleIn = [] → Leads .whistleRx s fun t => t = s) ∧
    ∀ l ls, s.shep.whistleIn = l :: ls → (∀ b ∈ l, b < 256) → fresh s →
      let id := be l 0 4
      let cancel := be l 6 2 % 2 == 1
      ((id, cancel) ∈ s.shep.acted → Leads .whistleRx s fun t => t = { s with
        shep := { s.shep with
          whistleIn := ls } }) ∧
      ((id, cancel) ∉ s.shep.acted → Leads .whistleRx s fun t =>
        let bad : Prop := ¬signed s l ∨ (cancel = false ∧ id ≤ rg s Reg.Shep.LAST_ACT_ID)
        t.shep.whistleIn = ls ∧
        (bad → up1 s t (shepReg Reg.Shep.WHISTLE_BAD) ∧ SameBut (· == shepReg Reg.Shep.WHISTLE_BAD) s t ∧ silent s t) ∧
        (¬bad → t.bit raw 21 = true ∧
          (¬member s l ∨ s.actState = 3 → unarmed s t ∧ silent s t) ∧
          (member s l → s.actState ≠ 3 →
            (cancel = true → s.actState = 1 → rg s Reg.Shep.ACT_ID = id → t.actState = 0 ∧ result t = 4 ∧ acks s t l 5) ∧
            (cancel = true → s.actState ≠ 1 ∨ rg s Reg.Shep.ACT_ID ≠ id → unarmed s t ∧ silent s t) ∧
            (cancel = false → s.actState ≠ 0 → unarmed s t ∧ acks s t l 3) ∧
            (cancel = false → s.actState = 0 → at' l < s.tb0Total + 10 ^ 7 * 2 ^ 40 → unarmed s t ∧ acks s t l 4) ∧
            (cancel = false → s.actState = 0 → s.tb0Total + 10 ^ 7 * 2 ^ 40 ≤ at' l → armed t l ∧
              acks s t l (if s.shep.otherSt = 3 ∧ s.shep.holder = none then 1 else 2)))))) ∧
  (∀ s : State, (s.shep.ackIn = [] → Leads .whistleAckRx s fun t => t = s) ∧
    ∀ l ls, s.shep.ackIn = l :: ls →
      let k := shepReg Reg.Shep.ACK_CNT
      let i := if l.getD 6 0 = 1 then 0 else 16
      (s.shep.lastOrigin = some (be l 0 4) → Leads .whistleAckRx s fun t =>
        t.shep.ackIn = ls ∧ t.fld k i 16 = min 0xFFFF (s.fld k i 16 + 1) ∧ t.fld k (16 - i) 16 = s.fld k (16 - i) 16 ∧
        SameBut (· == k) s t) ∧
      (s.shep.lastOrigin ≠ some (be l 0 4) → Leads .whistleAckRx s fun t => t.shep.ackIn = ls ∧ t.regs = s.regs)) ∧
  (∀ s : State,
    let instant := ((rg s Reg.Shep.INSTANT_SEC_LO + s.fld (shepReg Reg.Shep.INSTANT_SEC_HI) 0 16 * 2 ^ 32) * 10 ^ 9 +
      s.fld (shepReg Reg.Shep.INSTANT_NS) 0 30) * 2 ^ 40
    (s.actState ≠ 1 ∨ s.tb0Total < instant → Leads .activationInstant s fun t => t = s) ∧
    (s.actState = 1 → instant ≤ s.tb0Total → fresh s →
      let missed (r : Nat) : Prop := Leads .activationInstant s fun t => t.actState = 0 ∧ result t = r ∧ t.bit raw 20 = true ∧
        t.rst = s.rst ∧ t.shep = s.shep ∧ rg t Reg.Shep.BOOT_SLOT = rg s Reg.Shep.BOOT_SLOT
      (s.devState ≠ 0 → s.devState ≠ 1 → missed 3) ∧
      (s.devState = 0 ∨ s.devState = 1 →
        (s.shep.otherSt ≠ 3 ∨ s.shep.holder ≠ none → missed 2) ∧
        (s.shep.otherSt = 3 → s.shep.holder = none → s.supplied = true → s.rst = [] → Leads .activationInstant s fun t =>
          t.actState = 2 ∧ t.fld (shepReg Reg.Shep.BOOT_SLOT) 0 1 = 1 - s.fld (shepReg Reg.Shep.BOOT_SLOT) 0 1 ∧
          t.shep.bootSt = 3 ∧ t.shep.otherSt = 5 ∧ t.shep.recovered = false ∧ Rst.srst ∈ t.rst ∧
          t.rd (pwrReg Reg.Pwr.RST_CAUSE) = 0x777)))) ∧
  (∀ (s : State) (head digest : List Nat) (same : Bool),
    let booting : Prop := s.supplied = true ∧ s.verified = false ∧ (Rst.por ∈ s.rst ∨ Rst.srst ∈ s.rst)
    (¬booting → Leads (.bootVerify head digest same) s fun t => t = s) ∧
    (booting → fresh s → s.actState = 3 → Leads (.bootVerify head digest same) s fun t => dead s t (result s)) ∧
    (booting → fresh s → s.actState ≠ 3 → Leads (.bootVerify head digest same) s fun t =>
      let w (i : Nat) : Nat := (imgWord head (4 * i)).toNat
      let id := s.rd (sysBase + Reg.Sys.DEV_ID)
      let passes : Prop := w 0 = 0x5A55494D ∧ w 1 % 256 = 1 ∧ w 1 / 2 ^ 16 = bitsOf id 16 16 ∧ w 2 % 256 ≤ bitsOf id 0 8 ∧
        512 ≤ w 3 ∧ w 3 ≤ 805306368 ∧ w 3 % 512 = 0 ∧
        Config.ecdsaVerify (s.shepKey Reg.Shep.IMG_KEY) (octs digest 48) (octs (head.drop 0x100) 96) = true ∧ same = true
      (passes → t.verified = true ∧ t.actState = s.actState ∧ t.imgKept.length = 12 ∧ ∀ i < 12,
        t.rd (vaultReg Reg.Vault.IMG_DIGEST + 4 * i) = imgWord (octs digest 48) (4 * i) ∧
        t.imgKept.getD i 0 = imgWord (octs digest 48) (4 * i)) ∧
      (¬passes → dead s t 6))) ∧
  (∀ (s : State) (acc : Access) (v : Word),
    let k := shepReg Reg.Shep.HEALTH_STAT
    (Takes s acc (shepReg Reg.Shep.HEALTH_OK) →
      (acc.master = .shep ∨ v ≠ 0x5AFE0001 → Leads (.healthOk acc v) s fun t => t.resp = .ok ∧ Keeps (fun _ => false) s t) ∧
      ∀ h, acc.master = .half h → v = 0x5AFE0001 →
        let both : Prop := ∀ g, g ≠ h → s.bit k g.idx = true
        let open' : Prop := s.actState = 2 ∧ s.shep.winEnd ≠ none
        (¬both ∨ ¬open' → Leads (.healthOk acc v) s fun t =>
          t.resp = .ok ∧ t.bit k h.idx = true ∧ t.actState = s.actState ∧ (s.bit k h.idx = false → t.bit raw 22 = true) ∧
          Keeps (fun j => j == k || j == raw) s t) ∧
        (both → open' → fresh s → Leads (.healthOk acc v) s fun t =>
          t.resp = .ok ∧ t.actState = 0 ∧ result t = (if s.shep.recovered then 7 else 1) ∧ t.shep.bootSt = 6 ∧
          t.shep.otherSt = s.shep.otherSt ∧ t.shep.winEnd = none ∧ t.rd (shepReg Reg.Shep.RUN_VERSION) = s.shep.verBoot ∧
          t.bit raw 20 = true)) ∧
    (let m := shepReg Reg.Shep.MIN_VERSION
     Takes s acc m →
      (v.toNat < s.rdN m → Leads (.minVersionWrite acc v) s fun t => t.bit (shepBase + Reg.Hdr.UNIT_STAT) 11 = true ∧
        Keeps (fun j => j == shepBase + Reg.Hdr.UNIT_STAT || j == raw) s t) ∧
      (s.rdN m ≤ v.toNat → s.worn m = false → Leads (.minVersionWrite acc v) s fun t => t.resp = .ok ∧ t.rd m = v)) ∧
    (∀ i : Fin 8, let g := shepReg Reg.Shep.ACT_GROUP + 4 * i.val
     Takes s acc g →
      (s.actState = 1 → Leads (.actGroupWrite acc i v) s fun t => t.bit (shepBase + Reg.Hdr.UNIT_STAT) 11 = true ∧
        Keeps (fun j => j == shepBase + Reg.Hdr.UNIT_STAT || j == raw) s t) ∧
      (s.actState ≠ 1 → s.worn g = false → Leads (.actGroupWrite acc i v) s fun t => t.resp = .ok ∧ t.rd g = v &&& 0x8000FFFF))) ∧
  ∀ s : State,
    (s.actState ≠ 2 ∨ s.shep.winEnd = none → Leads .healthWindowExpiry s fun t => t = s) ∧
    (∀ e, s.actState = 2 → s.shep.winEnd = some e →
      (s.tbfNs < e → Leads .healthWindowExpiry s fun t => t = s) ∧
      (e ≤ s.tbfNs → fresh s → Leads .healthWindowExpiry s fun t => dead s t 5)) ∧
    (s.supplied = false → Leads .shepRestart s fun t => t = s) ∧
    (s.supplied = true → s.inDead = false → s.reaction 40 ≤ 1 → Leads .shepRestart s fun t =>
      t.shep.sessions = [] ∧ t.shep.reqs = [] ∧ t.shep.closing = none ∧ t.shep.sends = [] ∧ t.shep.whistleIn = [] ∧ t.shep.ackIn = [] ∧
      t.shep.fails = 0 ∧ t.shep.locked = false ∧ t.actState = s.actState ∧
      ((∃ y ∈ s.shep.sessions, s.shep.holder = some y.num) → t.shep.holder = none ∧ t.shep.otherSt = 4))
end

