-- ==== Sys2Proof/Laws/State.lean ====
section
/-! SUPPORT. One lemma per field per shared update: what a register write, a record of output, an answer and a change of
the queue leave. All true by `rfl`; they spare later proofs every unfolding of a record update. -/

namespace Sys2Proof.Machine

/-! ## A register written -/

@[simp] theorem State.wr_resp (s : State) (k : Nat) (v : Word) : (s.wr k v).resp = s.resp := rfl
@[simp] theorem State.wr_freeCtr (s : State) (k : Nat) (v : Word) : (s.wr k v).freeCtr = s.freeCtr := rfl
@[simp] theorem State.wr_pending (s : State) (k : Nat) (v : Word) : (s.wr k v).pending = s.pending := rfl
@[simp] theorem State.wr_out (s : State) (k : Nat) (v : Word) : (s.wr k v).out = s.out := rfl
@[simp] theorem State.wr_activeHalf (s : State) (k : Nat) (v : Word) : (s.wr k v).activeHalf = s.activeHalf := rfl
@[simp] theorem State.wr_fans (s : State) (k : Nat) (v : Word) : (s.wr k v).fans = s.fans := rfl
@[simp] theorem State.wr_mrqA (s : State) (k : Nat) (v : Word) : (s.wr k v).mrqA = s.mrqA := rfl
@[simp] theorem State.wr_mrqB (s : State) (k : Nat) (v : Word) : (s.wr k v).mrqB = s.mrqB := rfl
@[simp] theorem State.wr_mrqS (s : State) (k : Nat) (v : Word) : (s.wr k v).mrqS = s.mrqS := rfl
@[simp] theorem State.wr_wear (s : State) (k : Nat) (v : Word) : (s.wr k v).wear = s.wear := rfl
@[simp] theorem State.wr_time (s : State) (k : Nat) (v : Word) : (s.wr k v).time = s.time := rfl
@[simp] theorem State.wr_doms (s : State) (k : Nat) (v : Word) : (s.wr k v).doms = s.doms := rfl
@[simp] theorem State.wr_evtShadow (s : State) (k : Nat) (v : Word) : (s.wr k v).evtShadow = s.evtShadow := rfl
@[simp] theorem State.wr_placed (s : State) (k : Nat) (v : Word) : (s.wr k v).placed = s.placed := rfl
@[simp] theorem State.wr_lineLast (s : State) (k : Nat) (v : Word) : (s.wr k v).lineLast = s.lineLast := rfl
@[simp] theorem State.wr_toEnd (s : State) (k : Nat) (v : Word) : (s.wr k v).toEnd = s.toEnd := rfl
@[simp] theorem State.wr_lsLast (s : State) (k : Nat) (v : Word) : (s.wr k v).lsLast = s.lsLast := rfl
@[simp] theorem State.wr_inFlight (s : State) (k : Nat) (v : Word) : (s.wr k v).inFlight = s.inFlight := rfl
@[simp] theorem State.wr_tiles (s : State) (k : Nat) (v : Word) : (s.wr k v).tiles = s.tiles := rfl
@[simp] theorem State.wr_chans (s : State) (k : Nat) (v : Word) : (s.wr k v).chans = s.chans := rfl
@[simp] theorem State.wr_tcs (s : State) (k : Nat) (v : Word) : (s.wr k v).tcs = s.tcs := rfl
@[simp] theorem State.wr_adcs (s : State) (k : Nat) (v : Word) : (s.wr k v).adcs = s.adcs := rfl
@[simp] theorem State.wr_convAt (s : State) (k : Nat) (v : Word) : (s.wr k v).convAt = s.convAt := rfl
@[simp] theorem State.wr_fmonPrev (s : State) (k : Nat) (v : Word) : (s.wr k v).fmonPrev = s.fmonPrev := rfl
@[simp] theorem State.wr_fmonClrA (s : State) (k : Nat) (v : Word) : (s.wr k v).fmonClrA = s.fmonClrA := rfl
@[simp] theorem State.wr_fmonClrB (s : State) (k : Nat) (v : Word) : (s.wr k v).fmonClrB = s.fmonClrB := rfl
@[simp] theorem State.wr_membReqs (s : State) (k : Nat) (v : Word) : (s.wr k v).membReqs = s.membReqs := rfl
@[simp] theorem State.wr_slots (s : State) (k : Nat) (v : Word) : (s.wr k v).slots = s.slots := rfl
@[simp] theorem State.wr_ks (s : State) (k : Nat) (v : Word) : (s.wr k v).ks = s.ks := rfl
@[simp] theorem State.wr_drsValid (s : State) (k : Nat) (v : Word) : (s.wr k v).drsValid = s.drsValid := rfl
@[simp] theorem State.wr_lossCause (s : State) (k : Nat) (v : Word) : (s.wr k v).lossCause = s.lossCause := rfl
@[simp] theorem State.wr_drsGen (s : State) (k : Nat) (v : Word) : (s.wr k v).drsGen = s.drsGen := rfl
@[simp] theorem State.wr_tamperLatch (s : State) (k : Nat) (v : Word) : (s.wr k v).tamperLatch = s.tamperLatch := rfl
@[simp] theorem State.wr_tamperOff (s : State) (k : Nat) (v : Word) : (s.wr k v).tamperOff = s.tamperOff := rfl
@[simp] theorem State.wr_records (s : State) (k : Nat) (v : Word) : (s.wr k v).records = s.records := rfl
@[simp] theorem State.wr_pkWear (s : State) (k : Nat) (v : Word) : (s.wr k v).pkWear = s.pkWear := rfl
@[simp] theorem State.wr_sas (s : State) (k : Nat) (v : Word) : (s.wr k v).sas = s.sas := rfl
@[simp] theorem State.wr_scs (s : State) (k : Nat) (v : Word) : (s.wr k v).scs = s.scs := rfl
@[simp] theorem State.wr_csubs (s : State) (k : Nat) (v : Word) : (s.wr k v).csubs = s.csubs := rfl
@[simp] theorem State.wr_lanes (s : State) (k : Nat) (v : Word) : (s.wr k v).lanes = s.lanes := rfl
@[simp] theorem State.wr_ctxs (s : State) (k : Nat) (v : Word) : (s.wr k v).ctxs = s.ctxs := rfl
@[simp] theorem State.wr_halves (s : State) (k : Nat) (v : Word) : (s.wr k v).halves = s.halves := rfl
@[simp] theorem State.wr_cmpLink (s : State) (k : Nat) (v : Word) : (s.wr k v).cmpLink = s.cmpLink := rfl
@[simp] theorem State.wr_inseq (s : State) (k : Nat) (v : Word) : (s.wr k v).inseq = s.inseq := rfl
@[simp] theorem State.wr_distQ (s : State) (k : Nat) (v : Word) : (s.wr k v).distQ = s.distQ := rfl
@[simp] theorem State.wr_grant (s : State) (k : Nat) (v : Word) : (s.wr k v).grant = s.grant := rfl
@[simp] theorem State.wr_claimDue (s : State) (k : Nat) (v : Word) : (s.wr k v).claimDue = s.claimDue := rfl
@[simp] theorem State.wr_yielded (s : State) (k : Nat) (v : Word) : (s.wr k v).yielded = s.yielded := rfl
@[simp] theorem State.wr_rst (s : State) (k : Nat) (v : Word) : (s.wr k v).rst = s.rst := rfl
@[simp] theorem State.wr_verified (s : State) (k : Nat) (v : Word) : (s.wr k v).verified = s.verified := rfl
@[simp] theorem State.wr_supplied (s : State) (k : Nat) (v : Word) : (s.wr k v).supplied = s.supplied := rfl
@[simp] theorem State.wr_parkStage (s : State) (k : Nat) (v : Word) : (s.wr k v).parkStage = s.parkStage := rfl
@[simp] theorem State.wr_wakes (s : State) (k : Nat) (v : Word) : (s.wr k v).wakes = s.wakes := rfl
@[simp] theorem State.wr_dozing (s : State) (k : Nat) (v : Word) : (s.wr k v).dozing = s.dozing := rfl
@[simp] theorem State.wr_dozeExit (s : State) (k : Nat) (v : Word) : (s.wr k v).dozeExit = s.dozeExit := rfl
@[simp] theorem State.wr_ceCount (s : State) (k : Nat) (v : Word) : (s.wr k v).ceCount = s.ceCount := rfl
@[simp] theorem State.wr_cycled (s : State) (k : Nat) (v : Word) : (s.wr k v).cycled = s.cycled := rfl
@[simp] theorem State.wr_mworld (s : State) (k : Nat) (v : Word) : (s.wr k v).mworld = s.mworld := rfl
@[simp] theorem State.wr_harts (s : State) (k : Nat) (v : Word) : (s.wr k v).harts = s.harts := rfl
@[simp] theorem State.wr_ecShadow (s : State) (k : Nat) (v : Word) : (s.wr k v).ecShadow = s.ecShadow := rfl
@[simp] theorem State.wr_ecLatch (s : State) (k : Nat) (v : Word) : (s.wr k v).ecLatch = s.ecLatch := rfl
@[simp] theorem State.wr_slotNo (s : State) (k : Nat) (v : Word) : (s.wr k v).slotNo = s.slotNo := rfl
@[simp] theorem State.wr_frames (s : State) (k : Nat) (v : Word) : (s.wr k v).frames = s.frames := rfl
@[simp] theorem State.wr_frameId (s : State) (k : Nat) (v : Word) : (s.wr k v).frameId = s.frameId := rfl
@[simp] theorem State.wr_credits (s : State) (k : Nat) (v : Word) : (s.wr k v).credits = s.credits := rfl
@[simp] theorem State.wr_fdb (s : State) (k : Nat) (v : Word) : (s.wr k v).fdb = s.fdb := rfl
@[simp] theorem State.wr_sfs (s : State) (k : Nat) (v : Word) : (s.wr k v).sfs = s.sfs := rfl
@[simp] theorem State.wr_mgs (s : State) (k : Nat) (v : Word) : (s.wr k v).mgs = s.mgs := rfl
@[simp] theorem State.wr_learnQ (s : State) (k : Nat) (v : Word) : (s.wr k v).learnQ = s.learnQ := rfl
@[simp] theorem State.wr_fetchSeq (s : State) (k : Nat) (v : Word) : (s.wr k v).fetchSeq = s.fetchSeq := rfl
@[simp] theorem State.wr_hostTxA (s : State) (k : Nat) (v : Word) : (s.wr k v).hostTxA = s.hostTxA := rfl
@[simp] theorem State.wr_hostTxB (s : State) (k : Nat) (v : Word) : (s.wr k v).hostTxB = s.hostTxB := rfl
@[simp] theorem State.wr_hostRxA (s : State) (k : Nat) (v : Word) : (s.wr k v).hostRxA = s.hostRxA := rfl
@[simp] theorem State.wr_hostRxB (s : State) (k : Nat) (v : Word) : (s.wr k v).hostRxB = s.hostRxB := rfl
@[simp] theorem State.wr_gwTx (s : State) (k : Nat) (v : Word) : (s.wr k v).gwTx = s.gwTx := rfl
@[simp] theorem State.wr_gwRx (s : State) (k : Nat) (v : Word) : (s.wr k v).gwRx = s.gwRx := rfl
@[simp] theorem State.wr_hqs (s : State) (k : Nat) (v : Word) : (s.wr k v).hqs = s.hqs := rfl
@[simp] theorem State.wr_anWait (s : State) (k : Nat) (v : Word) : (s.wr k v).anWait = s.anWait := rfl
@[simp] theorem State.wr_tdrVf (s : State) (k : Nat) (v : Word) : (s.wr k v).tdrVf = s.tdrVf := rfl
@[simp] theorem State.wr_plcaLast (s : State) (k : Nat) (v : Word) : (s.wr k v).plcaLast = s.plcaLast := rfl
@[simp] theorem State.wr_canQ (s : State) (k : Nat) (v : Word) : (s.wr k v).canQ = s.canQ := rfl
@[simp] theorem State.wr_linQ (s : State) (k : Nat) (v : Word) : (s.wr k v).linQ = s.linQ := rfl
@[simp] theorem State.wr_linData (s : State) (k : Nat) (v : Word) : (s.wr k v).linData = s.linData := rfl
@[simp] theorem State.wr_aggs (s : State) (k : Nat) (v : Word) : (s.wr k v).aggs = s.aggs := rfl
@[simp] theorem State.wr_aggSeq (s : State) (k : Nat) (v : Word) : (s.wr k v).aggSeq = s.aggSeq := rfl
@[simp] theorem State.wr_aiConv (s : State) (k : Nat) (v : Word) : (s.wr k v).aiConv = s.aiConv := rfl
@[simp] theorem State.wr_steer (s : State) (k : Nat) (v : Word) : (s.wr k v).steer = s.steer := rfl
@[simp] theorem State.wr_deficits (s : State) (k : Nat) (v : Word) : (s.wr k v).deficits = s.deficits := rfl
@[simp] theorem State.wr_dwrrs (s : State) (k : Nat) (v : Word) : (s.wr k v).dwrrs = s.dwrrs := rfl
@[simp] theorem State.wr_buckets (s : State) (k : Nat) (v : Word) : (s.wr k v).buckets = s.buckets := rfl
@[simp] theorem State.wr_txLast (s : State) (k : Nat) (v : Word) : (s.wr k v).txLast = s.txLast := rfl
@[simp] theorem State.wr_viFreeze (s : State) (k : Nat) (v : Word) : (s.wr k v).viFreeze = s.viFreeze := rfl
@[simp] theorem State.wr_viSnaps (s : State) (k : Nat) (v : Word) : (s.wr k v).viSnaps = s.viSnaps := rfl
@[simp] theorem State.wr_viImage (s : State) (k : Nat) (v : Word) : (s.wr k v).viImage = s.viImage := rfl
@[simp] theorem State.wr_spPosts (s : State) (k : Nat) (v : Word) : (s.wr k v).spPosts = s.spPosts := rfl
@[simp] theorem State.wr_spDts (s : State) (k : Nat) (v : Word) : (s.wr k v).spDts = s.spDts := rfl
@[simp] theorem State.wr_spIn (s : State) (k : Nat) (v : Word) : (s.wr k v).spIn = s.spIn := rfl
@[simp] theorem State.wr_spAns (s : State) (k : Nat) (v : Word) : (s.wr k v).spAns = s.spAns := rfl
@[simp] theorem State.wr_spTags (s : State) (k : Nat) (v : Word) : (s.wr k v).spTags = s.spTags := rfl
@[simp] theorem State.wr_spSeq (s : State) (k : Nat) (v : Word) : (s.wr k v).spSeq = s.spSeq := rfl
@[simp] theorem State.wr_spFail (s : State) (k : Nat) (v : Word) : (s.wr k v).spFail = s.spFail := rfl
@[simp] theorem State.wr_pwf (s : State) (k : Nat) (v : Word) : (s.wr k v).pwf = s.pwf := rfl
@[simp] theorem State.wr_dirIn (s : State) (k : Nat) (v : Word) : (s.wr k v).dirIn = s.dirIn := rfl
@[simp] theorem State.wr_dirBack (s : State) (k : Nat) (v : Word) : (s.wr k v).dirBack = s.dirBack := rfl
@[simp] theorem State.wr_laneOct (s : State) (k : Nat) (v : Word) : (s.wr k v).laneOct = s.laneOct := rfl
@[simp] theorem State.wr_shep (s : State) (k : Nat) (v : Word) : (s.wr k v).shep = s.shep := rfl
@[simp] theorem State.wr_gateActs (s : State) (k : Nat) (v : Word) : (s.wr k v).gateActs = s.gateActs := rfl
@[simp] theorem State.wr_fmonAt (s : State) (k : Nat) (v : Word) : (s.wr k v).fmonAt = s.fmonAt := rfl
@[simp] theorem State.wr_capGate (s : State) (k : Nat) (v : Word) : (s.wr k v).capGate = s.capGate := rfl
@[simp] theorem State.wr_ringDue (s : State) (k : Nat) (v : Word) : (s.wr k v).ringDue = s.ringDue := rfl
@[simp] theorem State.wr_served (s : State) (k : Nat) (v : Word) : (s.wr k v).served = s.served := rfl
@[simp] theorem State.wr_tunGate (s : State) (k : Nat) (v : Word) : (s.wr k v).tunGate = s.tunGate := rfl
@[simp] theorem State.wr_codeStore (s : State) (k : Nat) (v : Word) : (s.wr k v).codeStore = s.codeStore := rfl
@[simp] theorem State.wr_imgKept (s : State) (k : Nat) (v : Word) : (s.wr k v).imgKept = s.imgKept := rfl

/-! ## Something sent to the outside -/

@[simp] theorem State.emit_regs (s : State) (e : Emit) : (s.emit e).regs = s.regs := rfl
@[simp] theorem State.emit_resp (s : State) (e : Emit) : (s.emit e).resp = s.resp := rfl
@[simp] theorem State.emit_freeCtr (s : State) (e : Emit) : (s.emit e).freeCtr = s.freeCtr := rfl
@[simp] theorem State.emit_pending (s : State) (e : Emit) : (s.emit e).pending = s.pending := rfl
@[simp] theorem State.emit_activeHalf (s : State) (e : Emit) : (s.emit e).activeHalf = s.activeHalf := rfl
@[simp] theorem State.emit_fans (s : State) (e : Emit) : (s.emit e).fans = s.fans := rfl
@[simp] theorem State.emit_mrqA (s : State) (e : Emit) : (s.emit e).mrqA = s.mrqA := rfl
@[simp] theorem State.emit_mrqB (s : State) (e : Emit) : (s.emit e).mrqB = s.mrqB := rfl
@[simp] theorem State.emit_mrqS (s : State) (e : Emit) : (s.emit e).mrqS = s.mrqS := rfl
@[simp] theorem State.emit_wear (s : State) (e : Emit) : (s.emit e).wear = s.wear := rfl
@[simp] theorem State.emit_time (s : State) (e : Emit) : (s.emit e).time = s.time := rfl
@[simp] theorem State.emit_doms (s : State) (e : Emit) : (s.emit e).doms = s.doms := rfl
@[simp] theorem State.emit_evtShadow (s : State) (e : Emit) : (s.emit e).evtShadow = s.evtShadow := rfl
@[simp] theorem State.emit_placed (s : State) (e : Emit) : (s.emit e).placed = s.placed := rfl
@[simp] theorem State.emit_lineLast (s : State) (e : Emit) : (s.emit e).lineLast = s.lineLast := rfl
@[simp] theorem State.emit_toEnd (s : State) (e : Emit) : (s.emit e).toEnd = s.toEnd := rfl
@[simp] theorem State.emit_lsLast (s : State) (e : Emit) : (s.emit e).lsLast = s.lsLast := rfl
@[simp] theorem State.emit_inFlight (s : State) (e : Emit) : (s.emit e).inFlight = s.inFlight := rfl
@[simp] theorem State.emit_tiles (s : State) (e : Emit) : (s.emit e).tiles = s.tiles := rfl
@[simp] theorem State.emit_chans (s : State) (e : Emit) : (s.emit e).chans = s.chans := rfl
@[simp] theorem State.emit_tcs (s : State) (e : Emit) : (s.emit e).tcs = s.tcs := rfl
@[simp] theorem State.emit_adcs (s : State) (e : Emit) : (s.emit e).adcs = s.adcs := rfl
@[simp] theorem State.emit_convAt (s : State) (e : Emit) : (s.emit e).convAt = s.convAt := rfl
@[simp] theorem State.emit_fmonPrev (s : State) (e : Emit) : (s.emit e).fmonPrev = s.fmonPrev := rfl
@[simp] theorem State.emit_fmonClrA (s : State) (e : Emit) : (s.emit e).fmonClrA = s.fmonClrA := rfl
@[simp] theorem State.emit_fmonClrB (s : State) (e : Emit) : (s.emit e).fmonClrB = s.fmonClrB := rfl
@[simp] theorem State.emit_membReqs (s : State) (e : Emit) : (s.emit e).membReqs = s.membReqs := rfl
@[simp] theorem State.emit_slots (s : State) (e : Emit) : (s.emit e).slots = s.slots := rfl
@[simp] theorem State.emit_ks (s : State) (e : Emit) : (s.emit e).ks = s.ks := rfl
@[simp] theorem State.emit_drsValid (s : State) (e : Emit) : (s.emit e).drsValid = s.drsValid := rfl
@[simp] theorem State.emit_lossCause (s : State) (e : Emit) : (s.emit e).lossCause = s.lossCause := rfl
@[simp] theorem State.emit_drsGen (s : State) (e : Emit) : (s.emit e).drsGen = s.drsGen := rfl
@[simp] theorem State.emit_tamperLatch (s : State) (e : Emit) : (s.emit e).tamperLatch = s.tamperLatch := rfl
@[simp] theorem State.emit_tamperOff (s : State) (e : Emit) : (s.emit e).tamperOff = s.tamperOff := rfl
@[simp] theorem State.emit_records (s : State) (e : Emit) : (s.emit e).records = s.records := rfl
@[simp] theorem State.emit_pkWear (s : State) (e : Emit) : (s.emit e).pkWear = s.pkWear := rfl
@[simp] theorem State.emit_sas (s : State) (e : Emit) : (s.emit e).sas = s.sas := rfl
@[simp] theorem State.emit_scs (s : State) (e : Emit) : (s.emit e).scs = s.scs := rfl
@[simp] theorem State.emit_csubs (s : State) (e : Emit) : (s.emit e).csubs = s.csubs := rfl
@[simp] theorem State.emit_lanes (s : State) (e : Emit) : (s.emit e).lanes = s.lanes := rfl
@[simp] theorem State.emit_ctxs (s : State) (e : Emit) : (s.emit e).ctxs = s.ctxs := rfl
@[simp] theorem State.emit_halves (s : State) (e : Emit) : (s.emit e).halves = s.halves := rfl
@[simp] theorem State.emit_cmpLink (s : State) (e : Emit) : (s.emit e).cmpLink = s.cmpLink := rfl
@[simp] theorem State.emit_inseq (s : State) (e : Emit) : (s.emit e).inseq = s.inseq := rfl
@[simp] theorem State.emit_distQ (s : State) (e : Emit) : (s.emit e).distQ = s.distQ := rfl
@[simp] theorem State.emit_grant (s : State) (e : Emit) : (s.emit e).grant = s.grant := rfl
@[simp] theorem State.emit_claimDue (s : State) (e : Emit) : (s.emit e).claimDue = s.claimDue := rfl
@[simp] theorem State.emit_yielded (s : State) (e : Emit) : (s.emit e).yielded = s.yielded := rfl
@[simp] theorem State.emit_rst (s : State) (e : Emit) : (s.emit e).rst = s.rst := rfl
@[simp] theorem State.emit_verified (s : State) (e : Emit) : (s.emit e).verified = s.verified := rfl
@[simp] theorem State.emit_supplied (s : State) (e : Emit) : (s.emit e).supplied = s.supplied := rfl
@[simp] theorem State.emit_parkStage (s : State) (e : Emit) : (s.emit e).parkStage = s.parkStage := rfl
@[simp] theorem State.emit_wakes (s : State) (e : Emit) : (s.emit e).wakes = s.wakes := rfl
@[simp] theorem State.emit_dozing (s : State) (e : Emit) : (s.emit e).dozing = s.dozing := rfl
@[simp] theorem State.emit_dozeExit (s : State) (e : Emit) : (s.emit e).dozeExit = s.dozeExit := rfl
@[simp] theorem State.emit_ceCount (s : State) (e : Emit) : (s.emit e).ceCount = s.ceCount := rfl
@[simp] theorem State.emit_cycled (s : State) (e : Emit) : (s.emit e).cycled = s.cycled := rfl
@[simp] theorem State.emit_mworld (s : State) (e : Emit) : (s.emit e).mworld = s.mworld := rfl
@[simp] theorem State.emit_harts (s : State) (e : Emit) : (s.emit e).harts = s.harts := rfl
@[simp] theorem State.emit_ecShadow (s : State) (e : Emit) : (s.emit e).ecShadow = s.ecShadow := rfl
@[simp] theorem State.emit_ecLatch (s : State) (e : Emit) : (s.emit e).ecLatch = s.ecLatch := rfl
@[simp] theorem State.emit_slotNo (s : State) (e : Emit) : (s.emit e).slotNo = s.slotNo := rfl
@[simp] theorem State.emit_frames (s : State) (e : Emit) : (s.emit e).frames = s.frames := rfl
@[simp] theorem State.emit_frameId (s : State) (e : Emit) : (s.emit e).frameId = s.frameId := rfl
@[simp] theorem State.emit_credits (s : State) (e : Emit) : (s.emit e).credits = s.credits := rfl
@[simp] theorem State.emit_fdb (s : State) (e : Emit) : (s.emit e).fdb = s.fdb := rfl
@[simp] theorem State.emit_sfs (s : State) (e : Emit) : (s.emit e).sfs = s.sfs := rfl
@[simp] theorem State.emit_mgs (s : State) (e : Emit) : (s.emit e).mgs = s.mgs := rfl
@[simp] theorem State.emit_learnQ (s : State) (e : Emit) : (s.emit e).learnQ = s.learnQ := rfl
@[simp] theorem State.emit_fetchSeq (s : State) (e : Emit) : (s.emit e).fetchSeq = s.fetchSeq := rfl
@[simp] theorem State.emit_hostTxA (s : State) (e : Emit) : (s.emit e).hostTxA = s.hostTxA := rfl
@[simp] theorem State.emit_hostTxB (s : State) (e : Emit) : (s.emit e).hostTxB = s.hostTxB := rfl
@[simp] theorem State.emit_hostRxA (s : State) (e : Emit) : (s.emit e).hostRxA = s.hostRxA := rfl
@[simp] theorem State.emit_hostRxB (s : State) (e : Emit) : (s.emit e).hostRxB = s.hostRxB := rfl
@[simp] theorem State.emit_gwTx (s : State) (e : Emit) : (s.emit e).gwTx = s.gwTx := rfl
@[simp] theorem State.emit_gwRx (s : State) (e : Emit) : (s.emit e).gwRx = s.gwRx := rfl
@[simp] theorem State.emit_hqs (s : State) (e : Emit) : (s.emit e).hqs = s.hqs := rfl
@[simp] theorem State.emit_anWait (s : State) (e : Emit) : (s.emit e).anWait = s.anWait := rfl
@[simp] theorem State.emit_tdrVf (s : State) (e : Emit) : (s.emit e).tdrVf = s.tdrVf := rfl
@[simp] theorem State.emit_plcaLast (s : State) (e : Emit) : (s.emit e).plcaLast = s.plcaLast := rfl
@[simp] theorem State.emit_canQ (s : State) (e : Emit) : (s.emit e).canQ = s.canQ := rfl
@[simp] theorem State.emit_linQ (s : State) (e : Emit) : (s.emit e).linQ = s.linQ := rfl
@[simp] theorem State.emit_linData (s : State) (e : Emit) : (s.emit e).linData = s.linData := rfl
@[simp] theorem State.emit_aggs (s : State) (e : Emit) : (s.emit e).aggs = s.aggs := rfl
@[simp] theorem State.emit_aggSeq (s : State) (e : Emit) : (s.emit e).aggSeq = s.aggSeq := rfl
@[simp] theorem State.emit_aiConv (s : State) (e : Emit) : (s.emit e).aiConv = s.aiConv := rfl
@[simp] theorem State.emit_steer (s : State) (e : Emit) : (s.emit e).steer = s.steer := rfl
@[simp] theorem State.emit_deficits (s : State) (e : Emit) : (s.emit e).deficits = s.deficits := rfl
@[simp] theorem State.emit_dwrrs (s : State) (e : Emit) : (s.emit e).dwrrs = s.dwrrs := rfl
@[simp] theorem State.emit_buckets (s : State) (e : Emit) : (s.emit e).buckets = s.buckets := rfl
@[simp] theorem State.emit_txLast (s : State) (e : Emit) : (s.emit e).txLast = s.txLast := rfl
@[simp] theorem State.emit_viFreeze (s : State) (e : Emit) : (s.emit e).viFreeze = s.viFreeze := rfl
@[simp] theorem State.emit_viSnaps (s : State) (e : Emit) : (s.emit e).viSnaps = s.viSnaps := rfl
@[simp] theorem State.emit_viImage (s : State) (e : Emit) : (s.emit e).viImage = s.viImage := rfl
@[simp] theorem State.emit_spPosts (s : State) (e : Emit) : (s.emit e).spPosts = s.spPosts := rfl
@[simp] theorem State.emit_spDts (s : State) (e : Emit) : (s.emit e).spDts = s.spDts := rfl
@[simp] theorem State.emit_spIn (s : State) (e : Emit) : (s.emit e).spIn = s.spIn := rfl
@[simp] theorem State.emit_spAns (s : State) (e : Emit) : (s.emit e).spAns = s.spAns := rfl
@[simp] theorem State.emit_spTags (s : State) (e : Emit) : (s.emit e).spTags = s.spTags := rfl
@[simp] theorem State.emit_spSeq (s : State) (e : Emit) : (s.emit e).spSeq = s.spSeq := rfl
@[simp] theorem State.emit_spFail (s : State) (e : Emit) : (s.emit e).spFail = s.spFail := rfl
@[simp] theorem State.emit_pwf (s : State) (e : Emit) : (s.emit e).pwf = s.pwf := rfl
@[simp] theorem State.emit_dirIn (s : State) (e : Emit) : (s.emit e).dirIn = s.dirIn := rfl
@[simp] theorem State.emit_dirBack (s : State) (e : Emit) : (s.emit e).dirBack = s.dirBack := rfl
@[simp] theorem State.emit_laneOct (s : State) (e : Emit) : (s.emit e).laneOct = s.laneOct := rfl
@[simp] theorem State.emit_shep (s : State) (e : Emit) : (s.emit e).shep = s.shep := rfl
@[simp] theorem State.emit_gateActs (s : State) (e : Emit) : (s.emit e).gateActs = s.gateActs := rfl
@[simp] theorem State.emit_fmonAt (s : State) (e : Emit) : (s.emit e).fmonAt = s.fmonAt := rfl
@[simp] theorem State.emit_capGate (s : State) (e : Emit) : (s.emit e).capGate = s.capGate := rfl
@[simp] theorem State.emit_ringDue (s : State) (e : Emit) : (s.emit e).ringDue = s.ringDue := rfl
@[simp] theorem State.emit_served (s : State) (e : Emit) : (s.emit e).served = s.served := rfl
@[simp] theorem State.emit_tunGate (s : State) (e : Emit) : (s.emit e).tunGate = s.tunGate := rfl
@[simp] theorem State.emit_codeStore (s : State) (e : Emit) : (s.emit e).codeStore = s.codeStore := rfl
@[simp] theorem State.emit_imgKept (s : State) (e : Emit) : (s.emit e).imgKept = s.imgKept := rfl

/-! ## An access answered -/

@[simp] theorem State.answer_regs (s : State) (r : Resp) : (s.answer r).regs = s.regs := rfl
@[simp] theorem State.answer_freeCtr (s : State) (r : Resp) : (s.answer r).freeCtr = s.freeCtr := rfl
@[simp] theorem State.answer_pending (s : State) (r : Resp) : (s.answer r).pending = s.pending := rfl
@[simp] theorem State.answer_out (s : State) (r : Resp) : (s.answer r).out = s.out := rfl
@[simp] theorem State.answer_activeHalf (s : State) (r : Resp) : (s.answer r).activeHalf = s.activeHalf := rfl
@[simp] theorem State.answer_fans (s : State) (r : Resp) : (s.answer r).fans = s.fans := rfl
@[simp] theorem State.answer_mrqA (s : State) (r : Resp) : (s.answer r).mrqA = s.mrqA := rfl
@[simp] theorem State.answer_mrqB (s : State) (r : Resp) : (s.answer r).mrqB = s.mrqB := rfl
@[simp] theorem State.answer_mrqS (s : State) (r : Resp) : (s.answer r).mrqS = s.mrqS := rfl
@[simp] theorem State.answer_wear (s : State) (r : Resp) : (s.answer r).wear = s.wear := rfl
@[simp] theorem State.answer_time (s : State) (r : Resp) : (s.answer r).time = s.time := rfl
@[simp] theorem State.answer_doms (s : State) (r : Resp) : (s.answer r).doms = s.doms := rfl
@[simp] theorem State.answer_evtShadow (s : State) (r : Resp) : (s.answer r).evtShadow = s.evtShadow := rfl
@[simp] theorem State.answer_placed (s : State) (r : Resp) : (s.answer r).placed = s.placed := rfl
@[simp] theorem State.answer_lineLast (s : State) (r : Resp) : (s.answer r).lineLast = s.lineLast := rfl
@[simp] theorem State.answer_toEnd (s : State) (r : Resp) : (s.answer r).toEnd = s.toEnd := rfl
@[simp] theorem State.answer_lsLast (s : State) (r : Resp) : (s.answer r).lsLast = s.lsLast := rfl
@[simp] theorem State.answer_inFlight (s : State) (r : Resp) : (s.answer r).inFlight = s.inFlight := rfl
@[simp] theorem State.answer_tiles (s : State) (r : Resp) : (s.answer r).tiles = s.tiles := rfl
@[simp] theorem State.answer_chans (s : State) (r : Resp) : (s.answer r).chans = s.chans := rfl
@[simp] theorem State.answer_tcs (s : State) (r : Resp) : (s.answer r).tcs = s.tcs := rfl
@[simp] theorem State.answer_adcs (s : State) (r : Resp) : (s.answer r).adcs = s.adcs := rfl
@[simp] theorem State.answer_convAt (s : State) (r : Resp) : (s.answer r).convAt = s.convAt := rfl
@[simp] theorem State.answer_fmonPrev (s : State) (r : Resp) : (s.answer r).fmonPrev = s.fmonPrev := rfl
@[simp] theorem State.answer_fmonClrA (s : State) (r : Resp) : (s.answer r).fmonClrA = s.fmonClrA := rfl
@[simp] theorem State.answer_fmonClrB (s : State) (r : Resp) : (s.answer r).fmonClrB = s.fmonClrB := rfl
@[simp] theorem State.answer_membReqs (s : State) (r : Resp) : (s.answer r).membReqs = s.membReqs := rfl
@[simp] theorem State.answer_slots (s : State) (r : Resp) : (s.answer r).slots = s.slots := rfl
@[simp] theorem State.answer_ks (s : State) (r : Resp) : (s.answer r).ks = s.ks := rfl
@[simp] theorem State.answer_drsValid (s : State) (r : Resp) : (s.answer r).drsValid = s.drsValid := rfl
@[simp] theorem State.answer_lossCause (s : State) (r : Resp) : (s.answer r).lossCause = s.lossCause := rfl
@[simp] theorem State.answer_drsGen (s : State) (r : Resp) : (s.answer r).drsGen = s.drsGen := rfl
@[simp] theorem State.answer_tamperLatch (s : State) (r : Resp) : (s.answer r).tamperLatch = s.tamperLatch := rfl
@[simp] theorem State.answer_tamperOff (s : State) (r : Resp) : (s.answer r).tamperOff = s.tamperOff := rfl
@[simp] theorem State.answer_records (s : State) (r : Resp) : (s.answer r).records = s.records := rfl
@[simp] theorem State.answer_pkWear (s : State) (r : Resp) : (s.answer r).pkWear = s.pkWear := rfl
@[simp] theorem State.answer_sas (s : State) (r : Resp) : (s.answer r).sas = s.sas := rfl
@[simp] theorem State.answer_scs (s : State) (r : Resp) : (s.answer r).scs = s.scs := rfl
@[simp] theorem State.answer_csubs (s : State) (r : Resp) : (s.answer r).csubs = s.csubs := rfl
@[simp] theorem State.answer_lanes (s : State) (r : Resp) : (s.answer r).lanes = s.lanes := rfl
@[simp] theorem State.answer_ctxs (s : State) (r : Resp) : (s.answer r).ctxs = s.ctxs := rfl
@[simp] theorem State.answer_halves (s : State) (r : Resp) : (s.answer r).halves = s.halves := rfl
@[simp] theorem State.answer_cmpLink (s : State) (r : Resp) : (s.answer r).cmpLink = s.cmpLink := rfl
@[simp] theorem State.answer_inseq (s : State) (r : Resp) : (s.answer r).inseq = s.inseq := rfl
@[simp] theorem State.answer_distQ (s : State) (r : Resp) : (s.answer r).distQ = s.distQ := rfl
@[simp] theorem State.answer_grant (s : State) (r : Resp) : (s.answer r).grant = s.grant := rfl
@[simp] theorem State.answer_claimDue (s : State) (r : Resp) : (s.answer r).claimDue = s.claimDue := rfl
@[simp] theorem State.answer_yielded (s : State) (r : Resp) : (s.answer r).yielded = s.yielded := rfl
@[simp] theorem State.answer_rst (s : State) (r : Resp) : (s.answer r).rst = s.rst := rfl
@[simp] theorem State.answer_verified (s : State) (r : Resp) : (s.answer r).verified = s.verified := rfl
@[simp] theorem State.answer_supplied (s : State) (r : Resp) : (s.answer r).supplied = s.supplied := rfl
@[simp] theorem State.answer_parkStage (s : State) (r : Resp) : (s.answer r).parkStage = s.parkStage := rfl
@[simp] theorem State.answer_wakes (s : State) (r : Resp) : (s.answer r).wakes = s.wakes := rfl
@[simp] theorem State.answer_dozing (s : State) (r : Resp) : (s.answer r).dozing = s.dozing := rfl
@[simp] theorem State.answer_dozeExit (s : State) (r : Resp) : (s.answer r).dozeExit = s.dozeExit := rfl
@[simp] theorem State.answer_ceCount (s : State) (r : Resp) : (s.answer r).ceCount = s.ceCount := rfl
@[simp] theorem State.answer_cycled (s : State) (r : Resp) : (s.answer r).cycled = s.cycled := rfl
@[simp] theorem State.answer_mworld (s : State) (r : Resp) : (s.answer r).mworld = s.mworld := rfl
@[simp] theorem State.answer_harts (s : State) (r : Resp) : (s.answer r).harts = s.harts := rfl
@[simp] theorem State.answer_ecShadow (s : State) (r : Resp) : (s.answer r).ecShadow = s.ecShadow := rfl
@[simp] theorem State.answer_ecLatch (s : State) (r : Resp) : (s.answer r).ecLatch = s.ecLatch := rfl
@[simp] theorem State.answer_slotNo (s : State) (r : Resp) : (s.answer r).slotNo = s.slotNo := rfl
@[simp] theorem State.answer_frames (s : State) (r : Resp) : (s.answer r).frames = s.frames := rfl
@[simp] theorem State.answer_frameId (s : State) (r : Resp) : (s.answer r).frameId = s.frameId := rfl
@[simp] theorem State.answer_credits (s : State) (r : Resp) : (s.answer r).credits = s.credits := rfl
@[simp] theorem State.answer_fdb (s : State) (r : Resp) : (s.answer r).fdb = s.fdb := rfl
@[simp] theorem State.answer_sfs (s : State) (r : Resp) : (s.answer r).sfs = s.sfs := rfl
@[simp] theorem State.answer_mgs (s : State) (r : Resp) : (s.answer r).mgs = s.mgs := rfl
@[simp] theorem State.answer_learnQ (s : State) (r : Resp) : (s.answer r).learnQ = s.learnQ := rfl
@[simp] theorem State.answer_fetchSeq (s : State) (r : Resp) : (s.answer r).fetchSeq = s.fetchSeq := rfl
@[simp] theorem State.answer_hostTxA (s : State) (r : Resp) : (s.answer r).hostTxA = s.hostTxA := rfl
@[simp] theorem State.answer_hostTxB (s : State) (r : Resp) : (s.answer r).hostTxB = s.hostTxB := rfl
@[simp] theorem State.answer_hostRxA (s : State) (r : Resp) : (s.answer r).hostRxA = s.hostRxA := rfl
@[simp] theorem State.answer_hostRxB (s : State) (r : Resp) : (s.answer r).hostRxB = s.hostRxB := rfl
@[simp] theorem State.answer_gwTx (s : State) (r : Resp) : (s.answer r).gwTx = s.gwTx := rfl
@[simp] theorem State.answer_gwRx (s : State) (r : Resp) : (s.answer r).gwRx = s.gwRx := rfl
@[simp] theorem State.answer_hqs (s : State) (r : Resp) : (s.answer r).hqs = s.hqs := rfl
@[simp] theorem State.answer_anWait (s : State) (r : Resp) : (s.answer r).anWait = s.anWait := rfl
@[simp] theorem State.answer_tdrVf (s : State) (r : Resp) : (s.answer r).tdrVf = s.tdrVf := rfl
@[simp] theorem State.answer_plcaLast (s : State) (r : Resp) : (s.answer r).plcaLast = s.plcaLast := rfl
@[simp] theorem State.answer_canQ (s : State) (r : Resp) : (s.answer r).canQ = s.canQ := rfl
@[simp] theorem State.answer_linQ (s : State) (r : Resp) : (s.answer r).linQ = s.linQ := rfl
@[simp] theorem State.answer_linData (s : State) (r : Resp) : (s.answer r).linData = s.linData := rfl
@[simp] theorem State.answer_aggs (s : State) (r : Resp) : (s.answer r).aggs = s.aggs := rfl
@[simp] theorem State.answer_aggSeq (s : State) (r : Resp) : (s.answer r).aggSeq = s.aggSeq := rfl
@[simp] theorem State.answer_aiConv (s : State) (r : Resp) : (s.answer r).aiConv = s.aiConv := rfl
@[simp] theorem State.answer_steer (s : State) (r : Resp) : (s.answer r).steer = s.steer := rfl
@[simp] theorem State.answer_deficits (s : State) (r : Resp) : (s.answer r).deficits = s.deficits := rfl
@[simp] theorem State.answer_dwrrs (s : State) (r : Resp) : (s.answer r).dwrrs = s.dwrrs := rfl
@[simp] theorem State.answer_buckets (s : State) (r : Resp) : (s.answer r).buckets = s.buckets := rfl
@[simp] theorem State.answer_txLast (s : State) (r : Resp) : (s.answer r).txLast = s.txLast := rfl
@[simp] theorem State.answer_viFreeze (s : State) (r : Resp) : (s.answer r).viFreeze = s.viFreeze := rfl
@[simp] theorem State.answer_viSnaps (s : State) (r : Resp) : (s.answer r).viSnaps = s.viSnaps := rfl
@[simp] theorem State.answer_viImage (s : State) (r : Resp) : (s.answer r).viImage = s.viImage := rfl
@[simp] theorem State.answer_spPosts (s : State) (r : Resp) : (s.answer r).spPosts = s.spPosts := rfl
@[simp] theorem State.answer_spDts (s : State) (r : Resp) : (s.answer r).spDts = s.spDts := rfl
@[simp] theorem State.answer_spIn (s : State) (r : Resp) : (s.answer r).spIn = s.spIn := rfl
@[simp] theorem State.answer_spAns (s : State) (r : Resp) : (s.answer r).spAns = s.spAns := rfl
@[simp] theorem State.answer_spTags (s : State) (r : Resp) : (s.answer r).spTags = s.spTags := rfl
@[simp] theorem State.answer_spSeq (s : State) (r : Resp) : (s.answer r).spSeq = s.spSeq := rfl
@[simp] theorem State.answer_spFail (s : State) (r : Resp) : (s.answer r).spFail = s.spFail := rfl
@[simp] theorem State.answer_pwf (s : State) (r : Resp) : (s.answer r).pwf = s.pwf := rfl
@[simp] theorem State.answer_dirIn (s : State) (r : Resp) : (s.answer r).dirIn = s.dirIn := rfl
@[simp] theorem State.answer_dirBack (s : State) (r : Resp) : (s.answer r).dirBack = s.dirBack := rfl
@[simp] theorem State.answer_laneOct (s : State) (r : Resp) : (s.answer r).laneOct = s.laneOct := rfl
@[simp] theorem State.answer_shep (s : State) (r : Resp) : (s.answer r).shep = s.shep := rfl
@[simp] theorem State.answer_gateActs (s : State) (r : Resp) : (s.answer r).gateActs = s.gateActs := rfl
@[simp] theorem State.answer_fmonAt (s : State) (r : Resp) : (s.answer r).fmonAt = s.fmonAt := rfl
@[simp] theorem State.answer_capGate (s : State) (r : Resp) : (s.answer r).capGate = s.capGate := rfl
@[simp] theorem State.answer_ringDue (s : State) (r : Resp) : (s.answer r).ringDue = s.ringDue := rfl
@[simp] theorem State.answer_served (s : State) (r : Resp) : (s.answer r).served = s.served := rfl
@[simp] theorem State.answer_tunGate (s : State) (r : Resp) : (s.answer r).tunGate = s.tunGate := rfl
@[simp] theorem State.answer_codeStore (s : State) (r : Resp) : (s.answer r).codeStore = s.codeStore := rfl
@[simp] theorem State.answer_imgKept (s : State) (r : Resp) : (s.answer r).imgKept = s.imgKept := rfl

/-! ## Updates that are a register write -/

@[simp] theorem State.setFld_eq (s : State) (k lo n v : Nat) : s.setFld k lo n v = s.wr k (setBits (s.rd k) lo n v) := rfl
@[simp] theorem State.setBit_eq (s : State) (k i : Nat) (b : Bool) :
    s.setBit k i b = s.wr k (setBits (s.rd k) i 1 (b2n b)) := rfl
@[simp] theorem State.wrN_eq (s : State) (k v : Nat) : s.wrN k v = s.wr k (word v) := rfl
@[simp] theorem State.answer_resp (s : State) (r : Resp) : (s.answer r).resp = r := rfl
@[simp] theorem State.emit_out (s : State) (e : Emit) : (s.emit e).out = e :: s.out := rfl
@[simp] theorem State.onlyIf_true (s : State) (f : State → State) : s.onlyIf true f = f s := rfl
@[simp] theorem State.onlyIf_false (s : State) (f : State → State) : s.onlyIf false f = s := rfl
@[simp] theorem State.each_nil {α : Type} (s : State) (f : State → α → State) : s.each [] f = s := rfl
@[simp] theorem State.each_cons {α : Type} (s : State) (x : α) (l : List α) (f : State → α → State) :
    s.each (x :: l) f = (f s x).each l f := rfl

end Sys2Proof.Machine
end

