-- ==== Sys2Proof/Laws/Ops.lean ====
section
/-! SUPPORT. What the shared operations do, said once: reading a table after a change, the canonical form every operation on
the register file keeps, loops and conditions as induction principles, and the outcomes of an access. -/

namespace Sys2Proof.Machine

/-! ## Tables -/

theorem Tbl.get_put_same {α : Type} (d : α) (t : Tbl α) (k : Nat) (v : α) : Tbl.get d (Tbl.put t k v) k = v := by
  induction t with
  | nil => simp [Tbl.put, Tbl.get]
  | cons e t ih =>
    obtain ⟨k', v'⟩ := e
    unfold Tbl.put
    split
    · simp [Tbl.get]
    · split
      · simp [Tbl.get]
      · rename_i h1 h2
        simp only [Tbl.get]
        rw [if_neg (fun h => h2 h.symm), ih]

theorem Tbl.get_put_ne {α : Type} (d : α) (t : Tbl α) (k j : Nat) (v : α) (h : j ≠ k) :
    Tbl.get d (Tbl.put t k v) j = Tbl.get d t j := by
  induction t with
  | nil => simp [Tbl.put, Tbl.get, Ne.symm h]
  | cons e t ih =>
    obtain ⟨k', v'⟩ := e
    unfold Tbl.put
    split
    · simp [Tbl.get, Ne.symm h]
    · split
      · rename_i h2
        subst h2
        simp [Tbl.get, Ne.symm h]
      · simp only [Tbl.get, ih]

theorem Tbl.get_del_same {α : Type} (d : α) (t : Tbl α) (k : Nat) : Tbl.get d (t.del k) k = d := by
  induction t with
  | nil => rfl
  | cons e t ih =>
    obtain ⟨k', v'⟩ := e
    by_cases h : k' = k
    · subst h
      simpa [Tbl.del] using ih
    · have : Tbl.del ((k', v') :: t) k = (k', v') :: Tbl.del t k := by simp [Tbl.del, h]
      rw [this]
      simp [Tbl.get, h, ih]

theorem Tbl.get_del_ne {α : Type} (d : α) (t : Tbl α) (k j : Nat) (h : j ≠ k) :
    Tbl.get d (t.del k) j = Tbl.get d t j := by
  induction t with
  | nil => rfl
  | cons e t ih =>
    obtain ⟨k', v'⟩ := e
    by_cases hk : k' = k
    · subst hk
      have : Tbl.del ((k', v') :: t) k' = Tbl.del t k' := by simp [Tbl.del]
      rw [this, ih]
      simp [Tbl.get, Ne.symm h]
    · have : Tbl.del ((k', v') :: t) k = (k', v') :: Tbl.del t k := by simp [Tbl.del, hk]
      rw [this]
      simp [Tbl.get, ih]

@[simp] theorem Tbl.get_set_same {α : Type} [DecidableEq α] (d : α) (t : Tbl α) (k : Nat) (v : α) :
    Tbl.get d (Tbl.set d t k v) k = v := by
  unfold Tbl.set
  split
  · rename_i h
    rw [Tbl.get_del_same, h]
  · exact Tbl.get_put_same d t k v

theorem Tbl.get_set_ne {α : Type} [DecidableEq α] (d d' : α) (t : Tbl α) (k j : Nat) (v : α) (h : j ≠ k) :
    Tbl.get d (Tbl.set d' t k v) j = Tbl.get d t j := by
  unfold Tbl.set
  split
  · exact Tbl.get_del_ne d t k j h
  · exact Tbl.get_put_ne d t k j v h

/-! ## The canonical form -/

theorem Tbl.rising_mono {α : Type} (t : Tbl α) (l m : Nat) (h : l ≤ m) (r : Tbl.rising (some m) t = true) :
    Tbl.rising (some l) t = true := by
  cases t with
  | nil => rfl
  | cons e t =>
    obtain ⟨k, v⟩ := e
    simp only [Tbl.rising, Bool.and_eq_true, decide_eq_true_eq] at r ⊢
    exact ⟨by omega, r.2⟩

theorem Tbl.rising_none {α : Type} (t : Tbl α) (l : Nat) (r : Tbl.rising (some l) t = true) :
    Tbl.rising none t = true := by
  cases t with
  | nil => rfl
  | cons e t =>
    obtain ⟨k, v⟩ := e
    simp only [Tbl.rising, Bool.and_eq_true] at r ⊢
    exact ⟨trivial, r.2⟩

theorem Tbl.rising_put {α : Type} (t : Tbl α) (k : Nat) (v : α) (lo : Option Nat) (hk : ∀ l, lo = some l → l < k)
    (r : Tbl.rising lo t = true) : Tbl.rising lo (Tbl.put t k v) = true := by
  induction t generalizing lo with
  | nil => cases lo <;> simp_all [Tbl.put, Tbl.rising]
  | cons e t ih =>
    obtain ⟨k', v'⟩ := e
    have rest : Tbl.rising (some k') t = true := by
      cases lo <;> simp_all [Tbl.rising]
    have head : ∀ l, lo = some l → l < k' := by
      intro l hl
      subst hl
      simp [Tbl.rising] at r
      exact r.1
    unfold Tbl.put
    split
    · rename_i h1
      cases lo with
      | none => simp [Tbl.rising, h1, rest]
      | some l => simp [Tbl.rising, h1, rest, hk l rfl]
    · split
      · rename_i h1 h2
        subst h2
        cases lo with
        | none => simp [Tbl.rising, rest]
        | some l => simp [Tbl.rising, rest, hk l rfl]
      · rename_i h1 h2
        have := ih (some k') (by intro l hl; injection hl; omega) rest
        cases lo with
        | none => simp [Tbl.rising, this]
        | some l => simp [Tbl.rising, this, head l rfl]

theorem Tbl.rising_filter {α : Type} (t : Tbl α) (f : Nat × α → Bool) (lo : Option Nat) (r : Tbl.rising lo t = true) :
    Tbl.rising lo (t.filter f) = true := by
  induction t generalizing lo with
  | nil => cases lo <;> rfl
  | cons e t ih =>
    obtain ⟨k, v⟩ := e
    have rest : Tbl.rising (some k) t = true := by cases lo <;> simp_all [Tbl.rising]
    by_cases h : f (k, v)
    · have := ih (some k) rest
      cases lo <;> simp_all [Tbl.rising]
    · rw [List.filter_cons_of_neg h]
      cases lo with
      | none => exact ih none (Tbl.rising_none t k rest)
      | some l =>
        refine ih (some l) (Tbl.rising_mono t l k ?_ rest)
        simp [Tbl.rising] at r
        omega

theorem Tbl.mem_put {α : Type} (t : Tbl α) (k : Nat) (v : α) (e : Nat × α) (h : e ∈ Tbl.put t k v) :
    e = (k, v) ∨ e ∈ t := by
  induction t with
  | nil => simp [Tbl.put] at h; exact .inl h
  | cons e' t ih =>
    obtain ⟨k', v'⟩ := e'
    unfold Tbl.put at h
    split at h
    · simp at h ⊢
      tauto
    · split at h
      · simp at h ⊢
        tauto
      · simp at h ⊢
        rcases h with h | h
        · exact .inr (.inl h)
        · rcases ih h with h | h
          · exact .inl h
          · exact .inr (.inr h)

/-- Setting an entry keeps the canonical form. -/
theorem Tbl.set_wf {α : Type} [DecidableEq α] (d : Nat → α) (t : Tbl α) (k : Nat) (v : α) (h : Tbl.wf d t = true) :
    Tbl.wf d (Tbl.set (d k) t k v) = true := by
  simp only [Tbl.wf, Bool.and_eq_true, List.all_eq_true, decide_eq_true_eq] at h ⊢
  unfold Tbl.set
  split
  · exact ⟨Tbl.rising_filter t _ none h.1, fun e he => h.2 e (List.mem_of_mem_filter he)⟩
  · rename_i hv
    refine ⟨Tbl.rising_put t k v none (by simp) h.1, fun e he => ?_⟩
    rcases Tbl.mem_put t k v e he with he | he
    · subst he
      exact hv
    · exact h.2 e he

/-- Losing entries keeps the canonical form. -/
theorem Tbl.filter_wf {α : Type} [DecidableEq α] (d : Nat → α) (t : Tbl α) (f : Nat × α → Bool) (h : Tbl.wf d t = true) :
    Tbl.wf d (t.filter f) = true := by
  simp only [Tbl.wf, Bool.and_eq_true, List.all_eq_true, decide_eq_true_eq] at h ⊢
  exact ⟨Tbl.rising_filter t f none h.1, fun e he => h.2 e (List.mem_of_mem_filter he)⟩

/-! ## Registers -/

@[simp] theorem State.rd_wr_same (s : State) (k : Nat) (v : Word) : (s.wr k v).rd k = v := by
  simp [State.rd, State.wr]

theorem State.rd_wr_ne (s : State) (k j : Nat) (v : Word) (h : j ≠ k) : (s.wr k v).rd j = s.rd j := by
  simp [State.rd, State.wr, Tbl.get_set_ne _ _ _ _ _ _ h]

theorem State.rd_wr (s : State) (k j : Nat) (v : Word) : (s.wr k v).rd j = if j = k then v else s.rd j := by
  split
  · rename_i h
    subst h
    simp
  · rename_i h
    exact State.rd_wr_ne s k j v h

@[simp] theorem State.rd_emit (s : State) (e : Emit) (k : Nat) : (s.emit e).rd k = s.rd k := rfl
@[simp] theorem State.rd_answer (s : State) (r : Resp) (k : Nat) : (s.answer r).rd k = s.rd k := rfl

/-- Registers read alike where the register files are alike. -/
theorem State.rd_congr {s t : State} (h : t.regs = s.regs) (k : Nat) : t.rd k = s.rd k := by simp [State.rd, h]

theorem State.wr_regsWf {s : State} (h : s.regsWf = true) (k : Nat) (v : Word) : (s.wr k v).regsWf = true :=
  Tbl.set_wf regReset s.regs k v h

theorem State.loseRegs_regsWf {s : State} (h : s.regsWf = true) (f : Nat → Bool) : (s.loseRegs f).regsWf = true :=
  Tbl.filter_wf regReset s.regs _ h

theorem State.regsWf_congr {s t : State} (h : s.regsWf = true) (e : t.regs = s.regs) : t.regsWf = true := by
  simpa [State.regsWf, e] using h

/-! ## Conditions and loops -/

/-- What holds before and is kept by the change holds after `onlyIf`. -/
theorem State.onlyIf_ind {P : State → Prop} {s : State} {c : Bool} {f : State → State} (h : P s) (hf : c = true → P (f s)) :
    P (s.onlyIf c f) := by
  unfold State.onlyIf
  split
  · rename_i hc
    exact hf hc
  · exact h

/-- What holds before a loop and is kept by each turn holds after it. -/
theorem State.each_ind {α : Type} {P : State → Prop} {s : State} {l : List α} {f : State → α → State} (h : P s)
    (hf : ∀ x ∈ l, ∀ s, P s → P (f s x)) : P (s.each l f) := by
  unfold State.each
  induction l generalizing s with
  | nil => exact h
  | cons x l ih => exact ih (hf x (by simp) s h) (fun y hy => hf y (by simp [hy]))

/-! ## Counters -/

theorem State.count_same (s : State) (k : Nat) :
    ((s.count k).rd k).toNat = if (s.rd k).toNat = 0xFFFFFFFF then 0xFFFFFFFF else (s.rd k).toNat + 1 := by
  unfold State.count State.rdN
  split
  · assumption
  · rename_i h
    simp [State.wrN, word]
    have := (s.rd k).isLt
    omega

theorem State.count_ne (s : State) (k j : Nat) (h : j ≠ k) : (s.count k).rd j = s.rd j := by
  unfold State.count State.wrN
  split
  · rfl
  · exact State.rd_wr_ne s k j _ h

/-! ## Accesses -/

/-- Everything a write access does: the comparison's contribution, then by the verdict the effect on its register or an
answer. -/
theorem State.write_accept (s : State) (acc : Access) (addr : Nat) (v : Word) (eff : Access → State → State)
    (h : s.judge acc true 4 addr = .accept) :
    s.write acc 4 addr v eff = eff (s.asSent acc) ((s.cmpWrite acc 4 addr v).answer .ok) := by
  simp [State.write, h, State.settle, State.rstRefused]

theorem State.read_accept (s : State) (acc : Access) (addr : Nat) (eff : Access → State → State)
    (h : s.judge acc false 4 addr = .accept) : s.read acc 4 addr eff = eff (s.asSent acc) s := by
  simp [State.read, h, State.settle]

/-- A write's contribution to the comparison changes one register, a write counter (R284). -/
theorem State.cmpWrite_rd (s : State) (acc : Access) (size addr : Nat) (v : Word) (k : Nat)
    (ha : k ≠ localBase 0 + Reg.Local.CMP_WRITES) (hb : k ≠ localBase 1 + Reg.Local.CMP_WRITES) :
    (s.cmpWrite acc size addr v).rd k = s.rd k := by
  unfold State.cmpWrite
  split
  · rename_i h _ _ _
    dsimp only
    split
    · unfold State.cmpFold State.countWrap State.wrN
      have : k ≠ localBase h.idx + Reg.Local.CMP_WRITES := by cases h <;> simpa [Half.idx]
      rw [State.rd_wr_ne _ _ _ _ this]
      rfl
    · rfl
  · rfl

end Sys2Proof.Machine
end

