-- ==== Sys2Proof/Laws/Access.lean ====
section
/-! SUPPORT. What an accepted access leaves alone: `Keeps` is kept by every write of a register it names, and the state an
accepted write hands to its register's effect differs from the state before in the comparison only. -/

namespace Sys2Proof.Machine

/-- The state an accepted write hands to the effect on its register. -/
theorem State.regWrite_accept (s : State) (acc : Access) (addr : Nat) (v : Word) (h : Takes s acc addr) :
    regWrite acc addr v s = pageWrite (s.asSent acc) addr v ((s.cmpWrite acc 4 addr v).answer .ok) :=
  State.write_accept s acc addr v (fun acc => pageWrite acc addr v) h

/-- An accepted access reaches a page that is there, whose domain has power. -/
theorem State.judge_page {s : State} {acc : Access} {w : Bool} {addr : Nat} (h : s.judge acc w 4 addr = .accept) :
    ∃ p, acc.page addr = some p ∧ p.kind ≠ .absent ∧ s.domainOn p.domain = true ∧ addr % 4 = 0 ∧ s.supplied = true := by
  unfold State.judge at h
  split at h
  · cases h
  · rename_i hs
    split at h
    · split at h <;> cases h
    · rename_i h4
      split at h
      · split at h <;> cases h
      · rename_i p hp
        split at h
        · cases h
        · rename_i hk
          split at h
          · split at h <;> cases h
          · rename_i hd
            exact ⟨p, hp, hk, by simpa using hd, by omega, by simpa using hs⟩

theorem Keeps.refl (p : Nat → Bool) (s : State) : Keeps p s s := ⟨fun _ _ _ _ => rfl, rfl, fun _ => rfl⟩

theorem Keeps.wr {p : Nat → Bool} {s t : State} (h : Keeps p s t) {k : Nat} (v : Word) (hk : p k = true) :
    Keeps p s (t.wr k v) := by
  refine ⟨fun j hj ha hb => ?_, ?_, h.2.2⟩
  · rw [State.rd_wr_ne t k j v (by rintro rfl; simp [hk] at hj)]
    exact h.1 j hj ha hb
  · have := h.2.1
    rw [this]
    rfl

theorem Keeps.answer {p : Nat → Bool} {s t : State} (h : Keeps p s t) (r : Resp) : Keeps p s (t.answer r) := by
  refine ⟨h.1, ?_, h.2.2⟩
  have := h.2.1
  rw [this]
  rfl

theorem Keeps.setFld {p : Nat → Bool} {s t : State} (h : Keeps p s t) {k : Nat} (lo n v : Nat) (hk : p k = true) :
    Keeps p s (t.setFld k lo n v) := h.wr _ hk

theorem Keeps.setBit {p : Nat → Bool} {s t : State} (h : Keeps p s t) {k : Nat} (i : Nat) (b : Bool) (hk : p k = true) :
    Keeps p s (t.setBit k i b) := h.wr _ hk

theorem Keeps.wrN {p : Nat → Bool} {s t : State} (h : Keeps p s t) {k : Nat} (v : Nat) (hk : p k = true) :
    Keeps p s (t.wrN k v) := h.wr _ hk

theorem Keeps.count {p : Nat → Bool} {s t : State} (h : Keeps p s t) {k : Nat} (hk : p k = true) :
    Keeps p s (t.count k) := by
  unfold State.count
  split
  · exact h
  · exact h.wr _ hk

theorem Keeps.onlyIf {p : Nat → Bool} {s t : State} (h : Keeps p s t) {c : Bool} {f : State → State}
    (hf : Keeps p s (f t)) : Keeps p s (t.onlyIf c f) := by
  unfold State.onlyIf
  split <;> assumption

theorem Keeps.mono {p q : Nat → Bool} {s t : State} (h : Keeps p s t) (hq : ∀ k, p k = true → q k = true) : Keeps q s t :=
  ⟨fun k hk ha hb => h.1 k (by by_contra hc; simp at hc; simp [hq k hc] at hk) ha hb, h.2⟩

/-- A write's contribution to the comparison leaves everything but the comparison alone (R284). -/
theorem State.cmpWrite_keeps (p : Nat → Bool) (s : State) (acc : Access) (size addr : Nat) (v : Word) :
    Keeps p s (s.cmpWrite acc size addr v) := by
  refine ⟨fun k _ ha hb => State.cmpWrite_rd s acc size addr v k ha hb, ?_, ?_⟩
  · unfold State.cmpWrite
    split
    · dsimp only
      split <;> rfl
    · rfl
  · intro h
    unfold State.cmpWrite
    split
    · rename_i h' p' _ _
      dsimp only
      split
      · unfold State.cmpFold State.countWrap State.wrN
        simp only [State.halfSt, State.wr, State.setHalfSt]
        by_cases e : h = h'
        · subst e
          simp
        · have : h.idx ≠ h'.idx := by cases h <;> cases h' <;> simp_all [Half.idx]
          rw [Tbl.get_set_ne _ _ _ _ _ _ this]
      · rfl
    · rfl

/-- The state an accepted write hands on. -/
theorem State.taken_keeps (p : Nat → Bool) (s : State) (acc : Access) (addr : Nat) (v : Word) :
    Keeps p s ((s.cmpWrite acc 4 addr v).answer .ok) := (State.cmpWrite_keeps p s acc 4 addr v).answer .ok

/-- What holds of every page of the register space by evaluation holds of the page an address lies in. -/
theorem pageOf_all {P : Page → Bool} {v : Nat}
    (h : ((List.range 0x1000).all fun n => match pageOf v ((0x40000 + n) * 0x1000) with | some p => P p | none => true) = true)
    {a : Nat} {p : Page} (e : pageOf v a = some p) : P p = true := by
  have e' : pageOf v (a / 0x1000 * 0x1000) = some p := by
    unfold pageOf at e ⊢
    rw [Nat.mul_div_cancel _ (by decide)]
    exact e
  have r : 0x40000 ≤ a / 0x1000 ∧ a / 0x1000 < 0x41000 := by
    unfold pageOf at e
    dsimp only at e
    by_contra hc
    rw [if_pos (by omega)] at e
    cases e
  rw [List.all_eq_true] at h
  have := h (a / 0x1000 - 0x40000) (by rw [List.mem_range]; omega)
  rw [show 0x40000 + (a / 0x1000 - 0x40000) = a / 0x1000 by omega, e'] at this
  exact this

/-- A page's base key is that of a page, and the half-local page's only where the page is half-local. -/
def baseOk (p : Page) : Bool :=
  p.base % 0x1000 == 0 && (p.base / 0x1000 % 0x100000 != 0x40E00 || p.kind == .local)

theorem pageOf_baseOk {v a : Nat} {p : Page} (hv : v ≤ 1) (h : pageOf v a = some p) : baseOk p = true := by
  have : v = 0 ∨ v = 1 := by omega
  rcases this with rfl | rfl
  · exact pageOf_all (P := baseOk) (by decide +kernel) h
  · exact pageOf_all (P := baseOk) (by decide +kernel) h

end Sys2Proof.Machine
end

