-- ==== Sys2Proof/Tests/Slice0.lean ====
section
/-! SUPPORT. Tests of the model: the smoke test of well-formedness, and for every statement with hypotheses one theorem
that shows, clause by clause, states and operands that meet them together. -/

namespace Sys2Proof.Tests

open Sys2Proof.Machine

set_option Elab.async false
set_option maxRecDepth 100000
set_option synthInstance.maxHeartbeats 1000000
set_option synthInstance.maxSize 100000

/-! ## Ill-formed commands: one for each check -/

theorem test_wf_address : Instr.wf (.registerWrite ⟨.shep, true, 0⟩ 8 0x3FFFFFF8 0) = false := by decide
theorem test_wf_size : Instr.wf (.rcRead ⟨.shep, true, 0⟩ 3 0x40000000) = false := by decide
theorem test_wf_page : Instr.wf (.ownerWrite ⟨.shep, true, 0⟩ 0x40000004 0) = false := by decide
theorem test_wf_reserved : Instr.wf (.unitCmdReserved ⟨.shep, true, 0⟩ 0x40000000 9) = false := by decide
theorem test_wf_unsupported : Instr.wf (.unitUnsupported ⟨.shep, true, 0⟩ 0x40000000 16) = false := by decide
theorem test_wf_composite : Instr.wf (.fanOutStep 4096) = false := by decide
theorem test_wf_tcl_request : Instr.wf (.tclBadFrame 0 [256]) = false := by decide
theorem test_wf_tcl_reply : Instr.wf (.replyAck 0 { type := 4, seq := 0, holder := 4, state := 0, cur := 0 }) = false := by decide
theorem test_wf_tcl_address : Instr.wf (.rwpWrite ⟨.shep, true, 0⟩ 0x41000000 0) = false := by decide
theorem test_wf_bus_address : Instr.wf (.busStallTimer .a (2 ^ 48)) = false := by decide
theorem test_wf_octet : Instr.wf (.spFrameRx [256]) = false := by decide
theorem test_wf_cells : Instr.wf (.fabricSlot [(0, true, List.replicate 65 0)]) = false := by decide
theorem test_wf_can : Instr.wf (.canRx 0 { fmt := 0, id := 2048, data := [] } 0) = false := by decide
theorem test_wf_span : Instr.wf (.spanRequestRx 0 true (List.replicate 65 0)) = false := by decide
theorem test_wf_session : Instr.wf (.authTimeout 65536) = false := by decide
theorem test_wf_boot : Instr.wf (.bootVerify [] (List.replicate 49 0) true) = false := by decide

/-! ## Numbers of the spec's worked examples -/

/-- 01, the register map the examples use: C3, C17, C34, C35 and C104. -/
theorem test_channel_pages : [3, 17, 34, 35, 104].map chanBase = [0x40204000, 0x40222000, 0x40243000, 0x40244000, 0x402C9000] := by
  decide

/-- 02, correcting a +12 ppm crystal: INC_LO, then INC_HI, then the commit of the nominal INCREMENT less 21,110,370. -/
theorem test_increment : ((incCommit 0 (incHiWrite 0 0x199 (incLoWrite 0 0x98577B38 State.reset))).clk 0).inc =
    2 ^ 40 + 659706976666 - 21110370 := by decide +kernel

/-- 02, the same example: SLEW_AMT 0xF34D8000 is −3,250.5 ns in 2^-16 ns. -/
theorem test_slew_amount : ((slewGo 0 (State.reset.wr (clkReg 0 Reg.Clk.SLEW_AMT) 0xF34D8000)).clk 0).slew = -213024768 * 2 ^ 24 := by
  decide +kernel

/-- 06, calibrated readings: C34 in FINE at 85 °C gives I_SUM 297,805. -/
theorem test_calibrate_fine :
    let s := (State.reset.wr (chanBase 34 + Reg.Chan.CAL_FINE) (word (24 * 2 ^ 16 + (2 ^ 16 - 1311)))).wr
      (chanBase 34 + Reg.Chan.CAL_TC) 350
    let n := s.calNum 34 0 47812 (tjOf 0x80002A80)
    2 * n - calDen ≤ 2 * calDen * 297805 ∧ 2 * calDen * 297805 ≤ 2 * n + calDen := by decide +kernel

/-- 06, the same example: C16 in COARSE at 65 °C gives I_SUM 1,210,235. -/
theorem test_calibrate_coarse :
    let s := (State.reset.wr (chanBase 16 + Reg.Chan.CAL_COARSE) (word ((2 ^ 16 - 2) * 2 ^ 16 + 1049))).wr
      (chanBase 16 + Reg.Chan.CAL_TC) 280
    let n := s.calNum 16 1 3851 (tjOf 0x80002080)
    2 * n - calDen ≤ 2 * calDen * 1210235 ∧ 2 * calDen * 1210235 ≤ 2 * n + calDen := by decide +kernel

/-- 06, the same example: code 18,800 of a VOUT conversion is 13,260 mV. -/
theorem test_millivolts : (State.reset.millivolts 18800).1 = 13260 := by decide +kernel

/-! ## Witnesses -/

/-- A secure access of Half A from VI0. -/
def accA : Access := ⟨.half .a, true, 0⟩
/-- A normal-world access of Half A from VI 3. -/
def accN : Access := ⟨.half .a, false, 3⟩
/-- A normal-world access of Half A from VI0. -/
def accM : Access := ⟨.half .a, false, 0⟩
/-- A secure access of Half B from VI0. -/
def accB : Access := ⟨.half .b, true, 0⟩
/-- A secure side-band access. -/
def accS : Access := ⟨.shep, true, 0⟩
/-- The state after reset. -/
abbrev rs : State := State.reset
/-- A normal-world access of Half B from VI0. -/
def accBM : Access := ⟨.half .b, false, 0⟩
/-- A secure-authenticated service session is open. -/
def ssn (s : State) : State :=
  { s with
    shep := { s.shep with
      sessions := [{ num := 1, level := 2, opened := true, ntool := [], ndev := [], unit := 0, boot := 0, digest := [], mac := [] }] } }

/-- The hypotheses of `Obligations.StepKeepsInv` are met. -/
theorem wit_StepKeepsInv : rs.Inv ∧ step rs = .next rs := ⟨by unfold State.Inv; decide +kernel, rfl⟩


namespace Registers

/-- SYS secure. -/
def sysSec : State := rs.wr (sysBase + Reg.Hdr.OWNER) 1
/-- SYS owned by the active half. -/
def sysAct : State := rs.wr (sysBase + Reg.Hdr.OWNER) 0x300
/-- A violation counted. -/
def violOnce : State := rs.wrN (sysBase + Reg.Sys.ACC_VIOL_CNT) 1
/-- SYS with OWNER locked. -/
def sysLocked : State := rs.wr (sysBase + Reg.Hdr.LOCK) 2
/-- Group 0 busy. -/
def cgBusy : State := rs.setBusy (cgBase 0) true
/-- A fan-out of tile 0 at its last member, channel 15, which is busy. -/
def fanLast : State := { (rs.setBusy (tileBase 0) true).setBusy (chanBase 15) true with
                         fans := [(0x20, { cmd := 1, rest := [0x10F] })] }
/-- A fan-out of tile 0 that awaits channel 15, which is busy. -/
def fanWait : State := { (rs.setBusy (tileBase 0) true).setBusy (chanBase 15) true with
                         fans := [(0x20, { cmd := 1, cur := some 0x10F })] }
/-- A fan-out of tile 0 whose last member has reported. -/
def fanEnd : State := { (rs.setBusy (tileBase 0) true).cmdResult (chanBase 15) .done with
                         fans := [(0x20, { cmd := 1, cur := some 0x10F })] }
/-- DIRTAB entry 5: a local unit, tile 0, and GO's message to it. -/
def msgSt : State := ((rs.wr (dirtabBase + 20) 0xC0000020).wr (msgBase 0 + Reg.Msg.MSG_TX) 0x00010005).wr (msgBase 0 + Reg.Msg.MSG_TX + 4) 0x00020000
/-- Two messages came back to Half A. -/
def mrqTwo : State := { rs with
                        mrqA := [[1, 2, 3, 4, 5, 6, 7, 8], [9, 10, 11, 12, 13, 14, 15, 16]] }
/-- A message has arrived: unit 5, of generation `g`, a message of type `ty`. -/
def msgIn (g ty : Nat) : State :=
  { ((rs.wr (dirtabBase + 20) 0xC0000020).wr (dirReg Reg.Dir.DIR_CTRL) 1) with
    dirIn := [(true, [word (g * 65536 + 5), word (ty * 65536 + 0x3FFF), 0x77, 0, 0, 0, 0, 0])] }
/-- A message to a unit without an entry has arrived. -/
def msgLost : State :=
  { (rs.wr (dirReg Reg.Dir.DIR_CTRL) 1) with
    dirIn := [(true, [word 6, word (2 * 65536 + 0x3FFF), 0x77, 0, 0, 0, 0, 0])] }
/-- A returned message has arrived. -/
def msgBackIn : State := { rs with
                           dirBack := [[5, 0, 0x20000, 0, 0, 0, 0, 0]] }
/-- A returned message has arrived and the queue is full. -/
def msgBackFull : State := { rs with
                             dirBack := [[5, 0, 0x20000, 0, 0, 0, 0, 0]]
                             mrqA := List.replicate 64 [] }
/-- A Page of these witnesses. -/
def lit0 : Page := { kind := PageKind.dir, idx := 0, base := dirBase, prim := dirBase : Page }
/-- A Page of these witnesses. -/
def lit1 : Page := { kind := PageKind.sys, idx := 0, base := sysBase, prim := sysBase : Page }
/-- A Page of these witnesses. -/
def lit2 : Page := { kind := PageKind.hrn, idx := 0, base := hrnBase, prim := hrnBase : Page }
/-- A Page of these witnesses. -/
def lit3 : Page := { kind := PageKind.cg, idx := 0, base := cgBase 0, prim := cgBase 0 : Page }
/-- A Page of these witnesses. -/
def lit4 : Page := { kind := PageKind.vi, idx := 3, base := viBase 3, prim := viBase 3 : Page }
/-- A Page of these witnesses. -/
def lit5 : Page := { kind := PageKind.chan, idx := 5, base := chanBase 5, prim := chanBase 5 : Page }
/-- A Page of these witnesses. -/
def lit6 : Page := { kind := PageKind.ec, idx := 0, base := ecBase 0, prim := ecBase 0 : Page }
/-- A Page of these witnesses. -/
def lit7 : Page := { kind := PageKind.frsv, idx := 0, base := frsvBase, prim := swBase : Page }
/-- A Page of these witnesses. -/
def lit8 : Page := { kind := PageKind.tile, idx := 0, base := tileBase 0, prim := tileBase 0 : Page }
/-- A Fan of these witnesses. -/
def lit9 : Fan := { cmd := 1, cur := some 271 : Fan }
/-- A Fan of these witnesses. -/
def lit10 : Fan := { cmd := 1, rest := [271] : Fan }

/-- The hypotheses of `Obligations.WritesByFieldKind` are met, clause by clause. -/
theorem wit_WritesByFieldKind :
    Takes rs accA (dirBase + Reg.Dir.DIR_CTRL) ∧ accA.page (dirBase + Reg.Dir.DIR_CTRL) = some lit0 ∧ lit0.row ((dirBase + Reg.Dir.DIR_CTRL) % 4096) = some ({ off := 68, acc := AccCode.rw, reset := 0, cls := Cls.s, mask := 1 : RegRow }, 0) ∧ (lit0.hasHeader = true → 64 ≤ (dirBase + Reg.Dir.DIR_CTRL) % 4096) ∧ lit0.kind ∈ [PageKind.dir, PageKind.dirtab, PageKind.tbcor, PageKind.sw, PageKind.eq, PageKind.mir, PageKind.fetch, PageKind.fbio, PageKind.can, PageKind.di, PageKind.enc, PageKind.ls, PageKind.lh, PageKind.intcPend, PageKind.lane, PageKind.trng, PageKind.ctxp] ∧ { off := 68, acc := AccCode.rw, reset := 0, cls := Cls.s, mask := 1 : RegRow }.acc = AccCode.rw :=
  by unfold Takes; decide +kernel

/-- The hypotheses of `Obligations.RefusedWrites` are met, clause by clause. -/
theorem wit_RefusedWrites :
    (rs.supplied = true ∧ (4 ≠ 4 ∨ (sysBase + 97) % 4 ≠ 0) ∧ accA.code (sysBase + 97) = none ∧ accA.master = Master.half Half.a) ∧
    (sysSec.judge accN true 4 (sysBase + 96) = Verdict.violation ∧ accN.page (sysBase + 96) = some lit1) ∧
    (sysAct.judge accB true 4 (sysBase + 96) = Verdict.discard ∧ accB.master = Master.half Half.b ∧ sysAct.unmuzzled accB.secure = false) ∧
    sysSec.judge { master := Master.shep, secure := false, vi := 0 : Access } true 4 (sysBase + 96) = Verdict.refuse 3 :=
  by decide +kernel

/-- The hypotheses of `Obligations.ReadClears` are met, clause by clause. -/
theorem wit_ReadClears :
    (Shows violOnce accA (sysBase + 76) ∧ accA.page (sysBase + 76) = some lit1 ∧ lit1.row ((sysBase + 76) % 4096) = some ({ off := 76, acc := AccCode.rc, reset := 0, cls := Cls.s : RegRow }, 0) ∧ { off := 76, acc := AccCode.rc, reset := 0, cls := Cls.s : RegRow }.acc = AccCode.rc ∧ violOnce.live (violOnce.asSent accA) lit1 ((sysBase + 76) % 4096) = none ∧ (readEffect (violOnce.asSent accA) lit1 ((sysBase + 76) % 4096)).isNone = true) ∧
    Shows rs accA (swBase + Reg.Sw.BUF_MIN) :=
  by unfold Shows; decide +kernel

/-- The hypotheses of `Obligations.HeaderWrites` are met, clause by clause. -/
theorem wit_HeaderWrites :
    ((Takes rs accA (pageAddr sysBase Reg.Hdr.OWNER) ∧ accA.page (pageAddr sysBase Reg.Hdr.OWNER) = some lit1 ∧ lit1.hasHeader = true ∧ (rs.asSent accA).secure = true ∧ accA.vi = 0 ∧ rs.ownerLocked lit1 = false) ∧
    (Takes rs accM (pageAddr sysBase Reg.Hdr.OWNER) ∧ accM.page (pageAddr sysBase Reg.Hdr.OWNER) = some lit1 ∧ lit1.hasHeader = true ∧ accM.master = Master.half Half.a ∧ accM.secure = false ∧ (bitOf (rs.rd (lit1.base + Reg.Hdr.OWNER)) 0 = true ∨ bitOf 1 0 = true ∨ bitsOf (rs.rd (lit1.base + Reg.Hdr.OWNER)) 8 2 ≠ bitsOf 1 8 2)) ∧
    (Takes sysLocked accA (pageAddr sysBase Reg.Hdr.OWNER) ∧ accA.page (pageAddr sysBase Reg.Hdr.OWNER) = some lit1 ∧ lit1.hasHeader = true ∧ accA.master = Master.half Half.a ∧ accA.secure = true ∧ accA.vi = 0 ∧ sysLocked.ownerLocked lit1 = true) ∧
    (lit2.hasHeader = true ∧ Takes rs accA (pageAddr hrnBase Reg.Hdr.LOCK) ∧ accA.page (pageAddr hrnBase Reg.Hdr.LOCK) = some lit2) ∧
    (lit2.hasHeader = true ∧ Takes rs accA (pageAddr hrnBase Reg.Hdr.IRQ_CLR) ∧ accA.page (pageAddr hrnBase Reg.Hdr.IRQ_CLR) = some lit2 ∧ lit2.isPrimary = true)) ∧
    (lit2.hasHeader = true ∧ Takes rs accA (pageAddr hrnBase Reg.Hdr.IRQ_FORCE) ∧ accA.page (pageAddr hrnBase Reg.Hdr.IRQ_FORCE) = some lit2 ∧ lit2.isPrimary = true) :=
  ⟨by unfold Takes; decide +kernel,
   by unfold Takes; decide +kernel⟩

/-- The hypotheses of `Obligations.UnitCommands` are met, clause by clause. -/
theorem wit_UnitCommands :
    ((Takes rs accA (pageAddr (cgBase 0) Reg.Hdr.UNIT_CTRL) ∧ accA.page (pageAddr (cgBase 0) Reg.Hdr.UNIT_CTRL) = some lit3 ∧ lit3.hasHeader = true) ∧
    (Takes rs accA (pageAddr (cgBase 0) Reg.Hdr.UNIT_CTRL) ∧ accA.page (pageAddr (cgBase 0) Reg.Hdr.UNIT_CTRL) = some lit3 ∧ lit3.hasHeader = true ∧ lit3.isPrimary = true ∧ lit3.kind ≠ PageKind.local ∧ lit3.kind ≠ PageKind.msg ∧ rs.busy lit3.base = false) ∧
    (Takes cgBusy accA (pageAddr (cgBase 0) Reg.Hdr.UNIT_CTRL) ∧ accA.page (pageAddr (cgBase 0) Reg.Hdr.UNIT_CTRL) = some lit3 ∧ lit3.hasHeader = true ∧ lit3.isPrimary = true ∧ lit3.kind ≠ PageKind.local ∧ lit3.kind ≠ PageKind.msg ∧ lit3.kind ≠ PageKind.ec ∧ cgBusy.busy lit3.base = true) ∧
    (Takes rs accA (pageAddr (cgBase 0) Reg.Hdr.UNIT_CTRL) ∧ accA.page (pageAddr (cgBase 0) Reg.Hdr.UNIT_CTRL) = some lit3 ∧ lit3.hasHeader = true ∧ lit3.isPrimary = true ∧ lit3.kind ≠ PageKind.local ∧ lit3.kind ≠ PageKind.msg ∧ rs.busy lit3.base = false ∧ 0 < 5 ∧ 5 < 7 ∧ 5 ≠ 4 ∧ unitEffect (rs.asSent accA) lit3 5 = none) ∧
    (Takes rs accA (pageAddr (viBase 3) Reg.Hdr.UNIT_CTRL) ∧ accA.page (pageAddr (viBase 3) Reg.Hdr.UNIT_CTRL) = some lit4 ∧ lit4.hasHeader = true ∧ lit4.kind = PageKind.vi ∧ rs.busy lit4.base = false)) ∧
    (Takes rs accA (pageAddr (chanBase 5) Reg.Hdr.UNIT_CTRL) ∧ accA.page (pageAddr (chanBase 5) Reg.Hdr.UNIT_CTRL) = some lit5 ∧ lit5.hasHeader = true ∧ lit5.kind = PageKind.chan ∧ rs.busy lit5.base = false) ∧
    (Takes rs accA (pageAddr (ecBase 0) Reg.Hdr.UNIT_CTRL) ∧ accA.page (pageAddr (ecBase 0) Reg.Hdr.UNIT_CTRL) = some lit6 ∧ lit6.hasHeader = true ∧ lit6.kind = PageKind.ec ∧ lit6.isPrimary = true) ∧
    (Takes rs accA (pageAddr frsvBase Reg.Hdr.UNIT_CTRL) ∧ accA.page (pageAddr frsvBase Reg.Hdr.UNIT_CTRL) = some lit7 ∧ lit7.hasHeader = true ∧ lit7.isPrimary = false ∧ lit7.kind ≠ PageKind.keys ∧ lit7.kind ≠ PageKind.vault ∧ lit7.kind ≠ PageKind.ec) :=
  ⟨by unfold Takes; decide +kernel,
   by unfold Takes; decide +kernel⟩

/-- The hypotheses of `Obligations.Composites` are met, clause by clause. -/
theorem wit_Composites :
    (rs.fan 32 = none ∧
    (fanWait.fan 32 = some lit9 ∧ lit9.cur = some 271 ∧ fanWait.busy (compBase 271) = true) ∧
    (fanLast.fan 32 = some lit10 ∧ lit10.cur = none ∧ lit10.rest = [256 + 15] ∧ 15 < 128 ∧ lit10.cmd = cmdOn ∧ fanLast.busy (chanBase 15) = true ∧ (32 ≤ 32 ∧ 32 < 40 ∨ 32 = 1)) ∧
    (fanEnd.fan 32 = some lit9 ∧ lit9.rest = [] ∧ (∀ (m : ℕ), lit9.cur = some m → fanEnd.busy (compBase m) = false))) ∧
    (Takes cgBusy accA (pageAddr (cgBase 0) Reg.Hdr.UNIT_CTRL) ∧ accA.page (pageAddr (cgBase 0) Reg.Hdr.UNIT_CTRL) = some lit3 ∧ lit3.kind ∈ [PageKind.sys, PageKind.tile, PageKind.cg] ∧ cgBusy.busy lit3.base = true) ∧
    (Takes rs accA (pageAddr (cgBase 0) Reg.Hdr.UNIT_CTRL) ∧ accA.page (pageAddr (cgBase 0) Reg.Hdr.UNIT_CTRL) = some lit3 ∧ lit3.kind ∈ [PageKind.sys, PageKind.tile, PageKind.cg] ∧ rs.busy lit3.base = false ∧ rs.members lit3.localNum = []) ∧
    (Takes rs accA (pageAddr (tileBase 0) Reg.Hdr.UNIT_CTRL) ∧ accA.page (pageAddr (tileBase 0) Reg.Hdr.UNIT_CTRL) = some lit8 ∧ lit8.kind ∈ [PageKind.sys, PageKind.tile, PageKind.cg] ∧ rs.busy lit8.base = false ∧ rs.members lit8.localNum ≠ []) :=
  ⟨by decide +kernel,
   by unfold Takes; decide +kernel⟩

/-- The hypotheses of `Obligations.Messages` are met, clause by clause. -/
theorem wit_Messages :
    ((∀ (h : Half), accA.master = Master.half h → rs.domainOn h.pd = true) ∧ Takes rs accA (accA.master.msgAddr + mSend) ∧ bitOf 1 0 = true ∧ rs.domainOn 6 = true ∧ bitOf (rs.dirEntry (bitsOf (rs.rd (accA.master.msgRegs + 4 * 0)) 0 14)) 31 = false ∧ (rs.mrq accA.master).length < 64) ∧
    (Takes rs accA (accA.master.msgAddr + mSend) ∧ bitOf 0 0 = false) ∧
    (Takes msgSt accA (accA.master.msgAddr + mSend) ∧ bitOf 1 0 = true ∧ msgSt.domainOn 6 = true ∧ bitOf (msgSt.dirEntry (bitsOf (msgSt.rd (accA.master.msgRegs + 4 * 0)) 0 14)) 31 = true ∧ bitOf (msgSt.dirEntry (bitsOf (msgSt.rd (accA.master.msgRegs + 4 * 0)) 0 14)) 30 = true) ∧
    (Takes mrqTwo accA (accA.master.msgAddr + mPop) ∧ bitOf 0 0 = false) ∧
    (Takes mrqTwo accA (accA.master.msgAddr + mPop) ∧ bitOf 1 0 = true) :=
  ⟨⟨by intro h; cases h <;> decide +kernel, by unfold Takes; decide +kernel⟩,
   by unfold Takes; decide +kernel⟩

/-- The hypotheses of `Obligations.DirectoryMessages` are met, clause by clause. -/
theorem wit_DirectoryMessages :
    ((∀ (h : Half), Master.half Half.a = Master.half h → msgBackIn.domainOn h.pd = true) ∧ msgBackIn.dirBack = [[5, 0, 131072, 0, 0, 0, 0, 0]] ∧ bitsOf ([5, 0, 131072, 0, 0, 0, 0, 0].getD 1 0) 14 2 = (Master.half Half.a).sender ∧ msgBackIn.domainOn 6 = true ∧ (msgBackIn.mrq (Master.half Half.a)).length < 64) ∧
    ((∀ (h : Half), Master.half Half.a = Master.half h → msgBackFull.domainOn h.pd = true) ∧ msgBackFull.dirBack = [[5, 0, 131072, 0, 0, 0, 0, 0]] ∧ bitsOf ([5, 0, 131072, 0, 0, 0, 0, 0].getD 1 0) 14 2 = (Master.half Half.a).sender ∧ msgBackFull.domainOn 6 = true ∧ 64 ≤ (msgBackFull.mrq (Master.half Half.a)).length) ∧
    (rs.dirIn = [] ∧
    (msgLost.dirIn = [(true, [word 6, word (2 * 65536 + 16383), 119, 0, 0, 0, 0, 0])] ∧ msgReason [word 6, word (2 * 65536 + 16383), 119, 0, 0, 0, 0, 0] = 0 ∧ msgSrc [word 6, word (2 * 65536 + 16383), 119, 0, 0, 0, 0, 0] = msgLost.selfUnit ∧ msgLost.domainOn 6 = true ∧ msgLost.bit (dirReg Reg.Dir.DIR_CTRL) 0 = true ∧ (bitOf (msgLost.dirEntry (msgDst [word 6, word (2 * 65536 + 16383), 119, 0, 0, 0, 0, 0])) 31 = false ∨ bitOf (msgLost.dirEntry (msgDst [word 6, word (2 * 65536 + 16383), 119, 0, 0, 0, 0, 0])) 30 = false))) ∧
    ((msgIn 2 2).dirIn = [(true, [word (2 * 65536 + 5), word (2 * 65536 + 16383), 119, 0, 0, 0, 0, 0])] ∧ msgReason [word (2 * 65536 + 5), word (2 * 65536 + 16383), 119, 0, 0, 0, 0, 0] = 0 ∧ msgSrc [word (2 * 65536 + 5), word (2 * 65536 + 16383), 119, 0, 0, 0, 0, 0] = (msgIn 2 2).selfUnit ∧ (msgIn 2 2).domainOn 6 = true ∧ (msgIn 2 2).bit (dirReg Reg.Dir.DIR_CTRL) 0 = true ∧ bitOf ((msgIn 2 2).dirEntry (msgDst [word (2 * 65536 + 5), word (2 * 65536 + 16383), 119, 0, 0, 0, 0, 0])) 31 = true ∧ bitOf ((msgIn 2 2).dirEntry (msgDst [word (2 * 65536 + 5), word (2 * 65536 + 16383), 119, 0, 0, 0, 0, 0])) 30 = true ∧ 0 < msgType [word (2 * 65536 + 5), word (2 * 65536 + 16383), 119, 0, 0, 0, 0, 0] ∧ msgType [word (2 * 65536 + 5), word (2 * 65536 + 16383), 119, 0, 0, 0, 0, 0] ≤ 3 ∧ unitPage (bitsOf ((msgIn 2 2).dirEntry (msgDst [word (2 * 65536 + 5), word (2 * 65536 + 16383), 119, 0, 0, 0, 0, 0])) 0 12) = some lit8 ∧ (msgIn 2 2).domainOn lit8.domain = true ∧ (msgIn 2 2).msgGenOk [word (2 * 65536 + 5), word (2 * 65536 + 16383), 119, 0, 0, 0, 0, 0] lit8 = false) ∧
    rs.dirBack = [] :=
  ⟨⟨by intro h; cases h <;> decide +kernel, by decide +kernel⟩,
   ⟨by intro h; cases h <;> decide +kernel, by decide +kernel⟩,
   by decide +kernel,
   by decide +kernel⟩

/-- The hypotheses of `Obligations.AccessesWithoutARegister` are met, clause by clause. -/
theorem wit_AccessesWithoutARegister :
    (rs.supplied = true ∧ 1073741824 ≤ 1073741824 ∧ 1073741824 < 1090519040 ∧ (1 ≠ 4 ∨ 1073741824 % 4 ≠ 0) ∧ accA.master = Master.half Half.a) ∧
    (rs.supplied = true ∧ 1073741824 ≤ 1090514944 ∧ 1090514944 < 1090519040 ∧ 4 = 4 ∧ 1090514944 % 4 = 0 ∧ accA.page 1090514944 = none ∧ accA.master = Master.half Half.a) ∧
    (rs.supplied = true ∧ 1073741824 ≤ 1073741824 ∧ 1073741824 < 1090519040 ∧ (1 ≠ 4 ∨ 1073741824 % 4 ≠ 0) ∧ accS.master = Master.shep) ∧
    (rs.supplied = true ∧ 1073741824 ≤ 1090514944 ∧ 1090514944 < 1090519040 ∧ 4 = 4 ∧ 1090514944 % 4 = 0 ∧ accS.page 1090514944 = none ∧ accS.master = Master.shep) ∧
    (rs.supplied = true ∧ 1073741824 ≤ 1078054912 ∧ 1078054912 < 1090519040 ∧ 4 = 4 ∧ 1078054912 % 4 = 0 ∧ accA.page 1078054912 = some (Page.own PageKind.absent 29 1078054912) ∧ (Page.own PageKind.absent 29 1078054912).kind = PageKind.absent) :=
  by decide +kernel

end Registers

namespace Clocks

/-- Both clocks a little before their end of range, TB0 under slew. -/
def lateClk : State := (rs.setClk 0 { now := ⟨2 ^ 48 - 1, 999999999, 2 ^ 40 - 1⟩, slew := 5, slewing := true, incReq := some 0x19999999990 }).setClk 1 { slew := -7, slewing := true, ofsReq := some ⟨1, 5, 7⟩ }
/-- The timebase stands still. -/
def stopped : State := { rs with
                         time := { rs.time with
                                   stopped := true } }
/-- A slew of TB1 asked for. -/
def slewSet : State := rs.wr (clkReg 1 Reg.Clk.SLEW_AMT) 0xFFFFFFFE
/-- A slew of TB1 with nothing left. -/
def slewEnd : State := rs.setClk 1 { slewing := true }
/-- An offset of TB1 that would take it below zero. -/
def ofsBad : State := rs.setClk 1 { ofsReq := some ⟨-1, 5, 0⟩ }
/-- Domain 3 runs by TB0, event time, and an offset of TB0 is due. -/
def ofsDom : State := { (rs.setClk 0 { ofsReq := some ⟨2, 5, 0⟩ }) with
                        doms := [(3, { st := .run, rate := 1000000 })] }
/-- Half B has a snapshot requested, and the capture FIFO of P27 holds two entries. -/
def snapDue : State := { lateClk with
                         time := { lateClk.time with
                                   snapReq := [.shep, .half .b]
                                   capB := [⟨1, 2, 3⟩, ⟨4, 5, 6⟩] } }
/-- A OfsReq of these witnesses. -/
def lit0 : OfsReq := { sec := 1, ns := 5, frac := 7 : OfsReq }
/-- A OfsReq of these witnesses. -/
def lit1 : OfsReq := { sec := -1, ns := 5, frac := 0 : OfsReq }

/-- The hypotheses of `Obligations.TickAdvancesClocks` are met, clause by clause. -/
theorem wit_TickAdvancesClocks :
    stopped.time.stopped = true ∧
    lateClk.time.stopped = false ∧
    ((lateClk.setClk 1 { slew := -7, slewing := true, slewNew := true, slewOff := true : AdjClock }).setClk 0 { slew := 99, slewing := true, slewNew := true : AdjClock }).time.stopped = false :=
  by decide +kernel

/-- The hypotheses of `Obligations.Increments` are met, clause by clause. -/
theorem wit_Increments :
    ((lateClk.clk 0).incReq = some 1759218604432 ∧
    (rs.clk 0).incReq = none) ∧
    Takes lateClk accA (clkReg 1 Reg.Clk.INC_LO) ∧
    (Takes lateClk accA (clkReg 1 Reg.Clk.INC_HI) ∧ (15984 * 2 ^ 40 ≤ (bitsOf 409 0 12 * 2 ^ 32 + BitVec.toNat (lateClk.clk 1).shadow) * 10000 ∧ (bitsOf 409 0 12 * 2 ^ 32 + BitVec.toNat (lateClk.clk 1).shadow) * 10000 ≤ 16016 * 2 ^ 40)) ∧
    (Takes lateClk accA (clkReg 1 Reg.Clk.INC_HI) ∧ (¬(15984 * 2 ^ 40 ≤ (bitsOf 425 0 12 * 2 ^ 32 + BitVec.toNat (lateClk.clk 1).shadow) * 10000 ∧ (bitsOf 425 0 12 * 2 ^ 32 + BitVec.toNat (lateClk.clk 1).shadow) * 10000 ≤ 16016 * 2 ^ 40))) :=
  ⟨by decide +kernel,
   by unfold Takes; decide +kernel⟩

/-- The hypotheses of `Obligations.SlewsAndOffsets` are met, clause by clause. -/
theorem wit_SlewsAndOffsets :
    (((slewEnd.clk 1).slewing = true ∧ (slewEnd.clk 1).slew = 0) ∧
    ((slewEnd.clk 0).slewing = false ∨ (slewEnd.clk 0).slew ≠ 0 ∨ (slewEnd.clk 0).slewNew = true ∨ (slewEnd.clk 0).slewOff = true) ∧
    ((lateClk.clk 1).ofsReq = some lit0 ∧ lit0.ns < 1000000000 ∧ 0 ≤ ↑(lateClk.clk 1).now.total + ((lit0.sec * 1000000000 + ↑lit0.ns) * 2 ^ 40 + ↑lit0.frac * 2 ^ 24)) ∧
    ((ofsBad.clk 1).ofsReq = some lit1 ∧ (1000000000 ≤ lit1.ns ∨ ↑(ofsBad.clk 1).now.total + ((lit1.sec * 1000000000 + ↑lit1.ns) * 2 ^ 40 + ↑lit1.frac * 2 ^ 24) < 0))) ∧
    Takes slewSet accA (clkReg 1 Reg.Clk.SLEW_CTRL) ∧
    Takes lateClk accA (clkReg 1 Reg.Clk.OFS_CTRL) :=
  ⟨by decide +kernel,
   by unfold Takes; decide +kernel⟩

/-- The hypotheses of `Obligations.Snapshots` are met, clause by clause. -/
theorem wit_Snapshots :
    ((Master.half Half.b ∈ snapDue.time.snapReq ∧ snapDue.time.stopped = false) ∧
    Master.half Half.a ∉ snapDue.time.snapReq) ∧
    (Takes rs accA (tbBase + Reg.Tb.SNAP) ∧ rs.time.stopped = false) ∧
    Takes snapDue accB (tbcapBase Half.b.idx + Reg.Tbcap.CAP_POP) :=
  ⟨by decide +kernel,
   by unfold Takes; decide +kernel⟩

end Clocks

namespace Domains

/-- Domain 3 follows TB0, domain 4 an encoder, domain 5 is a child of domain 4, domain 6 has a reserved clock. -/
def doms : State :=
  (((((rs.wr (domReg 4 Reg.Dom.SRC_CFG) 1).wr (domReg 4 Reg.Dom.INIT_PHASE) 99).wr (domReg 5 Reg.Dom.SRC_CFG) 3).wr
    (domReg 5 Reg.Dom.CHILD_CFG) 4).wr (domReg 6 Reg.Dom.SRC_CFG) 0x30).wr (domReg 4 Reg.Dom.STALL_TIMEOUT) 5
/-- Domains 4 and 5 run. -/
def domsRun : State := { doms with
                         doms := [(4, { st := .run, rate := 7 }), (5, { st := .run, rate := 7 })] }
/-- Domain 3 waits for an epoch ahead. -/
def domWait : State := { (rs.wr (domReg 3 Reg.Dom.TIME_EPOCH_NS) 5) with
                         doms := [(3, { st := .wait })] }
/-- Domain 3 waits for an epoch that has come. -/
def domDue : State := { rs with
                        doms := [(3, { st := .wait })] }
/-- Domain 4 holds. -/
def domHeld : State := { doms with
                         doms := [(4, { st := .hold }), (5, { st := .hold })] }
/-- Domain 4 stands at its clamp. -/
def domClamp : State :=
  let s := { doms with
             doms := [(4, { st := .run, rate := 7, dir := some false })] }
  { s with
    doms := [(4, { st := .run, rate := 7, dir := some false, p := (s.clampOf 4).getD 0 })] }
/-- Domain 4 counts single edges on pin 5 and waits; domain 7 waits for line-sync pin 2. -/
def edges : State :=
  { ((((rs.wr (domReg 4 Reg.Dom.SRC_CFG) 1).wr (domReg 4 Reg.Dom.ANG_CFG) 0x20052).wr (domReg 7 Reg.Dom.SRC_CFG) 2).wr
    (domReg 7 Reg.Dom.LINE_CFG) 0x4).wr (domReg 7 Reg.Dom.LINE_FRAME_NS) 1000 with
    doms := [(4, { st := .wait }), (7, { st := .wait })]
    time := { rs.time with
              clk0 := { now := ⟨5, 0, 0⟩ } } }
/-- PD9 is off. -/
def noPd9 : State := rs.wr (pdcBase + Reg.Pdc.PD_CTRL + 36) 0
/-- Domain 7 takes frames by message. -/
def msgDom : State :=
  { ((((rs.wr (domReg 7 Reg.Dom.SRC_CFG) 2).wr (domReg 7 Reg.Dom.LINE_CFG) 1).wr (domReg 7 Reg.Dom.LINE_LINES) 4).wr
    (domReg 7 Reg.Dom.LINE_PERIOD_NS) 100) with
    doms := [(7, { st := .wait })] }
/-- Domain 7 takes frames by message, of no length. -/
def msgDom0 : State := msgDom.wr (domReg 7 Reg.Dom.LINE_LINES) 0
/-- The shadow of EVT page 0 holds words of event 5. -/
def shadowed : State := { rs with
                          evtShadow := [(0, { idx := some 5, w0 := some 11, w3 := some 0x12340002 })] }
/-- Event 5 opens a gate when domain 4, running forward, reaches phase `ph`. -/
def evSt (ph w1 : Nat) : State :=
  { (((rs.wr (evtWord 5 0) (word ph)).wr (evtWord 5 1) (word w1)).wr (domReg 4 Reg.Dom.SRC_CFG) 1) with
    doms := [(4, { st := .run, rate := 2 ^ 16, dir := some false })]
    time := { rs.time with
              clk0 := { now := ⟨5, 0, 0⟩ } } }
/-- An occurrence of event 5 with action `a` is due. -/
def actSt (a tgt w3 : Nat) (late : Bool) (lines : List (Nat × Nat)) : State :=
  { ((rs.wr (evtWord 5 1) (word (2 ^ 31 + a * 2 ^ 22 + tgt))).wr (evtWord 5 3) (word w3)).wr (hrnBase + Reg.Hrn.EVIRQ_EN) 0xFFFFFFFF with
    placed := [⟨5, word (2 ^ 31 + a * 2 ^ 22 + tgt), word w3, 5000000000, lines, late, false, none⟩]
    time := { rs.time with
              clk0 := { now := ⟨5, 0, 0⟩ } } }
/-- A LATE occurrence whose port page has become another owner's. -/
def actLost : State := (actSt 4 0x202 0 true []).wr (portBase 2 + Reg.Hdr.OWNER) 1
/-- Channel 33 belongs to VI 9, and line 34 is high. -/
def lineSt : State := (rs.wr (chanBase 33 + Reg.Hdr.OWNER) 0x13).wr (hrnBase + Reg.Hrn.LEVEL + 4) 4
/-- Slot 2 of output 3 is armed. -/
def toSt : State := (rs.wr (evtWord (slotEvt 3 2) 1) 0x81900003).wr (toReg 3 Reg.Tpo.SLOT0_SEC) 9
/-- A pulse of output 3 that ends at `e`. -/
def pulseSt (e : Nat) : State := { (rs.wr (tpoBase + Reg.Tpo.GCFG) 0x808) with
                                   toEnd := [(3, some e)] }
/-- A Placed of these witnesses. -/
def lit0 : Placed := { idx := 5, w1 := word (2 ^ 31 + 4 * 2 ^ 22 + 514), w3 := word 0, inst := 5000000000, late := true : Placed }
/-- A Placed of these witnesses. -/
def lit1 : Placed := { idx := 5, w1 := word (2 ^ 31 + 1 * 2 ^ 22 + 40), w3 := word 0, inst := 5000000000, lines := [(40, 5000000000)] : Placed }
/-- A Placed of these witnesses. -/
def lit2 : Placed := { idx := 5, w1 := word (2 ^ 31 + 2 * 2 ^ 22 + 40), w3 := word 0, inst := 5000000000, lines := [(40, 5000000000)] : Placed }
/-- A Placed of these witnesses. -/
def lit3 : Placed := { idx := 5, w1 := word (2 ^ 31 + 3 * 2 ^ 22 + 40), w3 := word 0, inst := 5000000000, lines := [(40, 5000000000)] : Placed }
/-- A Placed of these witnesses. -/
def lit4 : Placed := { idx := 5, w1 := word (2 ^ 31 + 6 * 2 ^ 22 + 3), w3 := word 1074069504, inst := 5000000000 : Placed }
/-- A Placed of these witnesses. -/
def lit5 : Placed := { idx := 5, w1 := word (2 ^ 31 + 8 * 2 ^ 22 + 31), w3 := word 0, inst := 5000000000 : Placed }
/-- A Placed of these witnesses. -/
def lit6 : Placed := { idx := 5, w1 := word (2 ^ 31 + 9 * 2 ^ 22 + 77), w3 := word 0, inst := 5000000000 : Placed }
/-- A Placed of these witnesses. -/
def lit7 : Placed := { idx := 5, w1 := word (2 ^ 31 + 7 * 2 ^ 22 + 515), w3 := word 0, inst := 5000000000 : Placed }
/-- A Access of these witnesses. -/
def lit8 : Access := { master := Master.half Half.a, secure := false, vi := 0 : Access }

/-- The hypotheses of `Obligations.DomainCommands` are met, clause by clause. -/
theorem wit_DomainCommands :
    (Takes doms accA (domReg 6 Reg.Hdr.UNIT_CTRL) ∧ doms.onRefused 6 = true) ∧
    (Takes doms accA (domReg 3 Reg.Hdr.UNIT_CTRL) ∧ doms.onRefused 3 = false ∧ doms.domSrc 3 = 0 ∧ doms.epochPassed 3 = true) ∧
    (Takes domWait accA (domReg 3 Reg.Hdr.UNIT_CTRL) ∧ domWait.onRefused 3 = false ∧ domWait.domSrc 3 = 0 ∧ domWait.epochPassed 3 = false) ∧
    (Takes doms accA (domReg 4 Reg.Hdr.UNIT_CTRL) ∧ doms.onRefused 4 = false ∧ doms.domSrc 4 = 1 ∧ doms.angMode 4 ≠ 1) ∧
    Takes domsRun accA (domReg 4 Reg.Hdr.UNIT_CTRL) :=
  by unfold Takes; decide +kernel

/-- The hypotheses of `Obligations.DomainEvents` are met, clause by clause. -/
theorem wit_DomainEvents :
    ((domDue.domSrc 3 = 0 ∧ (domDue.dom 3).st = DomState.wait ∧ domDue.epochPassed 3 = true) ∧
    domWait.epochPassed 3 = false ∧
    ((domClamp.dom 4).st = DomState.run ∧ (domClamp.dom 4).rate ≠ 0 ∧ domClamp.clampOf 4 = some (domClamp.dom 4).p) ∧
    (domHeld.dom 4).st ≠ DomState.run ∧
    ((domHeld.dom 4).st = DomState.hold ∧ domHeld.fld (domReg 4 Reg.Dom.STALL_TIMEOUT) 0 24 ≠ 0 ∧ (domHeld.domSrc 4 = 1 ∨ domHeld.domSrc 4 = 2)) ∧
    rs.fld (domReg 4 Reg.Dom.STALL_TIMEOUT) 0 24 = 0) ∧
    Shows domsRun accA (domReg 4 Reg.Dom.PHASE) :=
  ⟨by decide +kernel,
   by unfold Shows; decide +kernel⟩

/-- The hypotheses of `Obligations.SourceEdges` are met, clause by clause. -/
theorem wit_SourceEdges :
    (noPd9.domainOn 9 = false ∧
    edges.domainOn 9 = true) ∧
    (Takes msgDom accA (domReg 7 Reg.Dom.LINE_MSG_GO) ∧ bitOf 0 0 = false) ∧
    (Takes msgDom accA (domReg 7 Reg.Dom.LINE_MSG_GO) ∧ bitOf 1 0 = true ∧ (msgDom.domSrc 7 = 2 ∧ (msgDom.dom 7).st ≠ DomState.off ∧ msgDom.bit (domReg 7 Reg.Dom.LINE_CFG) 0 = true) ∧ msgDom.fld (domReg 7 Reg.Dom.LINE_LINES) 0 16 * (msgDom.rdN (domReg 7 Reg.Dom.LINE_PERIOD_NS) * 2 ^ 16 + msgDom.fld (domReg 7 Reg.Dom.LINE_PERIOD_FRAC) 0 16) ≠ 0) ∧
    (Takes msgDom0 accA (domReg 7 Reg.Dom.LINE_MSG_GO) ∧ bitOf 1 0 = true ∧ (msgDom0.domSrc 7 = 2 ∧ (msgDom0.dom 7).st ≠ DomState.off ∧ msgDom0.bit (domReg 7 Reg.Dom.LINE_CFG) 0 = true) ∧ msgDom0.fld (domReg 7 Reg.Dom.LINE_LINES) 0 16 * (msgDom0.rdN (domReg 7 Reg.Dom.LINE_PERIOD_NS) * 2 ^ 16 + msgDom0.fld (domReg 7 Reg.Dom.LINE_PERIOD_FRAC) 0 16) = 0) :=
  ⟨by decide +kernel,
   by unfold Takes; decide +kernel⟩

/-- The hypotheses of `Obligations.EventTable` are met, clause by clause. -/
theorem wit_EventTable :
    (Takes shadowed accA (evtWord 5 2) ∧ isCompat 5 = false ∧ 2 ≠ 1) ∧
    (Takes shadowed accA (evtWord 4095 2) ∧ isCompat 4095 = true) ∧
    (Takes shadowed accA (evtWord 5 1) ∧ isCompat 5 = false ∧ shadowed.commitReason 5 (setBit 3225419779 30 false) (if evAction (setBit 3225419779 30 false) = 6 then if (shadowed.shadow (5 / 128)).idx = some 5 then (shadowed.shadow (5 / 128)).w3.getD (shadowed.rd (evtWord 5 3)) else shadowed.rd (evtWord 5 3) else (if (shadowed.shadow (5 / 128)).idx = some 5 then (shadowed.shadow (5 / 128)).w3.getD (shadowed.rd (evtWord 5 3)) else shadowed.rd (evtWord 5 3)) &&& 65535) = 0) ∧
    (Takes shadowed accA (evtWord 5 1) ∧ isCompat 5 = false ∧ shadowed.commitReason 5 (setBit 2189426691 30 false) (if evAction (setBit 2189426691 30 false) = 6 then if (shadowed.shadow (5 / 128)).idx = some 5 then (shadowed.shadow (5 / 128)).w3.getD (shadowed.rd (evtWord 5 3)) else shadowed.rd (evtWord 5 3) else (if (shadowed.shadow (5 / 128)).idx = some 5 then (shadowed.shadow (5 / 128)).w3.getD (shadowed.rd (evtWord 5 3)) else shadowed.rd (evtWord 5 3)) &&& 65535) ≠ 0) :=
  by unfold Takes; decide +kernel

/-- The hypotheses of `Obligations.EventEvaluation` are met, clause by clause. -/
theorem wit_EventEvaluation :
    (((evSt 3000 2433221122).parkStage = 0 ∧ (evSt 3000 2433221122).armed = [5] ∧ (evSt 3000 2433221122).evRuns 5 ((evSt 3000 2433221122).rd (evtWord 5 1)) = true ∧ evAction ((evSt 3000 2433221122).rd (evtWord 5 1)) ≠ 0 ∧ isLineAct (evAction ((evSt 3000 2433221122).rd (evtWord 5 1))) = false ∧ evReverse ((evSt 3000 2433221122).rd (evtWord 5 1)) = false ∧ 0 < ((evSt 3000 2433221122).evPos 5 ((evSt 3000 2433221122).rd (evtWord 5 1))).2 ∧ 0 < posDist (((evSt 3000 2433221122).evPos 5 ((evSt 3000 2433221122).rd (evtWord 5 1))).1 / subUnit) ((evSt 3000 2433221122).boundPos 5) ∧ (((evSt 3000 2433221122).placed.any fun x => x.idx == 5) = false) ∧ 2000 * 2 ^ 16 ≤ ↑(roundNs (projectT16 (evSt 3000 2433221122).tb0.t16 ((evSt 3000 2433221122).evPos 5 ((evSt 3000 2433221122).rd (evtWord 5 1))).1 ((evSt 3000 2433221122).evPos 5 ((evSt 3000 2433221122).rd (evtWord 5 1))).2 ((evSt 3000 2433221122).boundPos 5)) 0 * 2 ^ 16) - ↑(evSt 3000 2433221122).tb0.t16) ∧ (↑(roundNs (projectT16 (evSt 3000 2433221122).tb0.t16 ((evSt 3000 2433221122).evPos 5 ((evSt 3000 2433221122).rd (evtWord 5 1))).1 ((evSt 3000 2433221122).evPos 5 ((evSt 3000 2433221122).rd (evtWord 5 1))).2 ((evSt 3000 2433221122).boundPos 5)) 0 * 2 ^ 16) - ↑(evSt 3000 2433221122).tb0.t16) * 10 < 36864 * 2 ^ 16 ∧ (evSt 3000 2433221122).evOwnerOk 5 ((evSt 3000 2433221122).rd (evtWord 5 1)) = true) ∧
    ((evSt 5000 2433221122).parkStage = 0 ∧ (evSt 5000 2433221122).armed = [5] ∧ (evSt 5000 2433221122).evRuns 5 ((evSt 5000 2433221122).rd (evtWord 5 1)) = true ∧ evAction ((evSt 5000 2433221122).rd (evtWord 5 1)) ≠ 0 ∧ isLineAct (evAction ((evSt 5000 2433221122).rd (evtWord 5 1))) = false ∧ evReverse ((evSt 5000 2433221122).rd (evtWord 5 1)) = false ∧ 0 < ((evSt 5000 2433221122).evPos 5 ((evSt 5000 2433221122).rd (evtWord 5 1))).2 ∧ 0 < posDist (((evSt 5000 2433221122).evPos 5 ((evSt 5000 2433221122).rd (evtWord 5 1))).1 / subUnit) ((evSt 5000 2433221122).boundPos 5) ∧ (((evSt 5000 2433221122).placed.any fun x => x.idx == 5) = false) ∧ 36864 * 2 ^ 16 ≤ (↑(roundNs (projectT16 (evSt 5000 2433221122).tb0.t16 ((evSt 5000 2433221122).evPos 5 ((evSt 5000 2433221122).rd (evtWord 5 1))).1 ((evSt 5000 2433221122).evPos 5 ((evSt 5000 2433221122).rd (evtWord 5 1))).2 ((evSt 5000 2433221122).boundPos 5)) 0 * 2 ^ 16) - ↑(evSt 5000 2433221122).tb0.t16) * 10) ∧
    (((evSt 500 2433221122).parkStage = 0 ∧ (evSt 500 2433221122).armed = [5] ∧ (evSt 500 2433221122).evRuns 5 ((evSt 500 2433221122).rd (evtWord 5 1)) = true ∧ evAction ((evSt 500 2433221122).rd (evtWord 5 1)) ≠ 0 ∧ isLineAct (evAction ((evSt 500 2433221122).rd (evtWord 5 1))) = false ∧ evReverse ((evSt 500 2433221122).rd (evtWord 5 1)) = false ∧ 0 < ((evSt 500 2433221122).evPos 5 ((evSt 500 2433221122).rd (evtWord 5 1))).2 ∧ 0 < posDist (((evSt 500 2433221122).evPos 5 ((evSt 500 2433221122).rd (evtWord 5 1))).1 / subUnit) ((evSt 500 2433221122).boundPos 5) ∧ (((evSt 500 2433221122).placed.any fun x => x.idx == 5) = false) ∧ ↑(roundNs (projectT16 (evSt 500 2433221122).tb0.t16 ((evSt 500 2433221122).evPos 5 ((evSt 500 2433221122).rd (evtWord 5 1))).1 ((evSt 500 2433221122).evPos 5 ((evSt 500 2433221122).rd (evtWord 5 1))).2 ((evSt 500 2433221122).boundPos 5)) 0 * 2 ^ 16) - ↑(evSt 500 2433221122).tb0.t16 < 2000 * 2 ^ 16 ∧ evSkip ((evSt 500 2433221122).rd (evtWord 5 1)) = true) ∧
    (rs.parkStage ≠ 0 ∨ rs.armed = [])) ∧
    ((7, Instr.actionSample 5) ∈ [(1, Instr.actionSet 5), (2, Instr.actionClear 5), (3, Instr.actionToggle 5), (4, Instr.actionOpen 5), (5, Instr.actionClose 5), (6, Instr.actionPulse 5), (7, Instr.actionSample 5), (8, Instr.actionIrq 5), (9, Instr.actionChain 5)] ∧ rs.dueAct 5 7 = none) ∧
    ((4, Instr.actionOpen 5) ∈ [(1, Instr.actionSet 5), (2, Instr.actionClear 5), (3, Instr.actionToggle 5), (4, Instr.actionOpen 5), (5, Instr.actionClose 5), (6, Instr.actionPulse 5), (7, Instr.actionSample 5), (8, Instr.actionIrq 5), (9, Instr.actionChain 5)] ∧ actLost.dueAct 5 4 = some lit0 ∧ lit0.late = true ∧ actLost.evOwnerOk 5 lit0.w1 = false) :=
  ⟨⟨by decide +kernel, by decide +kernel⟩,
   by decide +kernel,
   by decide +kernel,
   by decide +kernel⟩

/-- The hypotheses of `Obligations.ActionsAct` are met, clause by clause. -/
theorem wit_ActionsAct :
    (((actSt 1 40 0 false [(40, 5000000000)]).dueAct 5 1 = some lit1 ∧ (lit1.late = false ∨ (actSt 1 40 0 false [(40, 5000000000)]).evOwnerOk 5 lit1.w1 = true) ∧ isCompat 5 = false ∧ lit1.replaced = false ∧ 40 < 128 ∧ 5000000000 ≤ (actSt 1 40 0 false [(40, 5000000000)]).tb0.nsTotal ∧ lit1.lines = [(40, 5000000000)] ∧ 1 = 1) ∧
    ((actSt 2 40 0 false [(40, 5000000000)]).dueAct 5 2 = some lit2 ∧ (lit2.late = false ∨ (actSt 2 40 0 false [(40, 5000000000)]).evOwnerOk 5 lit2.w1 = true) ∧ isCompat 5 = false ∧ lit2.replaced = false ∧ 40 < 128 ∧ 5000000000 ≤ (actSt 2 40 0 false [(40, 5000000000)]).tb0.nsTotal ∧ lit2.lines = [(40, 5000000000)] ∧ 2 = 2) ∧
    ((actSt 3 40 0 false [(40, 5000000000)]).dueAct 5 3 = some lit3 ∧ (lit3.late = false ∨ (actSt 3 40 0 false [(40, 5000000000)]).evOwnerOk 5 lit3.w1 = true) ∧ isCompat 5 = false ∧ lit3.replaced = false ∧ 40 < 128 ∧ 5000000000 ≤ (actSt 3 40 0 false [(40, 5000000000)]).tb0.nsTotal ∧ lit3.lines = [(40, 5000000000)] ∧ 3 = 3)) ∧
    ((actSt 4 514 0 true []).dueAct 5 4 = some lit0 ∧ (lit0.late = false ∨ (actSt 4 514 0 true []).evOwnerOk 5 lit0.w1 = true) ∧ isCompat 5 = false ∧ lit0.replaced = false ∧ (4, true, Instr.actionOpen 5) ∈ [(4, true, Instr.actionOpen 5), (5, false, Instr.actionClose 5)]) ∧
    ((actSt 6 3 1074069504 false []).dueAct 5 6 = some lit4 ∧ (lit4.late = false ∨ (actSt 6 3 1074069504 false []).evOwnerOk 5 lit4.w1 = true) ∧ isCompat 5 = false ∧ lit4.replaced = false ∧ 6 = 6) ∧
    ((actSt 8 31 0 false []).dueAct 5 8 = some lit5 ∧ (lit5.late = false ∨ (actSt 8 31 0 false []).evOwnerOk 5 lit5.w1 = true) ∧ isCompat 5 = false ∧ lit5.replaced = false ∧ 8 = 8) ∧
    ((actSt 9 77 0 false []).dueAct 5 9 = some lit6 ∧ (lit6.late = false ∨ (actSt 9 77 0 false []).evOwnerOk 5 lit6.w1 = true) ∧ isCompat 5 = false ∧ lit6.replaced = false ∧ 9 = 9 ∧ evTarget lit6.w1 % 4096 ≠ 5) ∧
    ((actSt 7 515 0 false []).dueAct 5 7 = some lit7 ∧ (lit7.late = false ∨ (actSt 7 515 0 false []).evOwnerOk 5 lit7.w1 = true) ∧ isCompat 5 = false ∧ lit7.replaced = false ∧ 7 = 7 ∧ evTarget lit7.w1 / 2 ^ 14 = 0) :=
  ⟨by decide +kernel,
   by decide +kernel⟩

/-- The hypotheses of `Obligations.LinesAndOutputs` are met, clause by clause. -/
theorem wit_LinesAndOutputs :
    ((Tbl.get none (pulseSt 0).toEnd 3 = some 0 ∧ 0 ≤ (pulseSt 0).tb0.nsTotal) ∧
    (Tbl.get none (pulseSt 9).toEnd 3 = some 9 ∧ (pulseSt 9).tb0.nsTotal < 9)) ∧
    ((true = true ∧ Instr.lineSet lit8 1 14 = Instr.lineSet lit8 1 14 ∧ Takes lineSt lit8 (hrnBase + Reg.Hrn.LINE_SET + 4 * 1) ∨ true = false ∧ Instr.lineSet lit8 1 14 = Instr.lineClr lit8 1 14 ∧ Takes lineSt lit8 (hrnBase + Reg.Hrn.LINE_CLR + 4 * 1))) ∧
    Takes rs accA (hrnBase + Reg.Hrn.GATE_STATE + 4 * 7) ∧
    ((Instr.toArm accA 3 321 = Instr.toArm accA 3 321 ∨ Instr.toArm accA 3 321 = Instr.toDisarm accA 3 321) ∧ Takes toSt accA (toReg 3 Reg.Tpo.TO_CTRL)) :=
  ⟨by decide +kernel,
   by unfold Takes; decide +kernel⟩

end Domains

namespace Tiles

/-- Tile 3 in Leash state `st`, held by Half `h` with claim 7. -/
def leashSt (st h : Nat) : State :=
  { rs.setLeash 3 7 h st with
    tiles := [(3, { inLv := 0x5, stay := 0x3, latch := none })] }
/-- Tile 3 at the last claim number. -/
def leashMax : State := rs.setLeash 3 0xFFFF 1 1
/-- Tile 3 holds a request and its reply. -/
def stored : State :=
  { rs.setLeash 3 7 1 1 with
    tiles := [(3, { lastReq := some { type := 3, seq := 3, src := 1, claim := 7 }
                    lastRep := some { type := 9, seq := 3, holder := 1, state := 1, cur := 7 } })] }
/-- Tile 3 without power. -/
def dark : State := { rs with
                      tiles := [(3, { powered := false, feed := 1000 })] }
/-- Tile 3 with a TRST accepted, channel 50 conducting and its CH_CFG set. -/
def trstDue : State :=
  { (leashSt 1 1).wr (tk 50 Reg.Chan.CH_CFG) 5 with
    tiles := [(3, { trst := true, latch := some 9, inLv := 6 })]
    chans := [(50, { conducts := true })] }
/-- PD9 is off. -/
def lhOff : State := rs.wr (pdcBase + Reg.Pdc.PD_CTRL + 36) 0
/-- Edges of channel 50 under way. -/
def inFl : State := { rs with
                      inFlight := [(2, true), (50, true), (50, false)] }
/-- The half no longer runs, so that Shepherd may write; the queue of tile 3 holds 32. -/
def fullQ : State := rs.setTc 3 { (rs.tc 3) with
                                  rwQ := List.replicate 32 { req := { type := 4, seq := 0, src := 1, claim := 0 }, why := .master } }
/-- Half A runs, active, and its agent holds tile 3. -/
def agentSt : State := (((rs.setFld (halfBase 0 + Reg.Half.ROLE_STAT) 4 3 1).setFld (halfBase 0 + Reg.Half.ROLE_STAT) 0 2 1).setTc 3 { agentA := true, claimA := 9 }).wr (mt 3 Reg.Tile.LEASH_STAT) 0x50009
/-- A request of tile 3 awaits its reply. -/
def sentSt (e : TcEntry) (n : Nat) : State := (rs.setTc 3 { sent := [e], timeouts := n }).wr (mt 3 Reg.Tile.TILE_STAT) 1
/-- Tile 3 with content of its own, and its link up. -/
def tileSt : State :=
  { (((((leashSt 2 1).wr (tk 50 Reg.Chan.CH_CFG) 5).wr (tk 51 Reg.Chan.PROT_STAT) 0x10005).wr (tk 60 Reg.Chan.TRIP_CNT) 3).wr (tt 3 Reg.Tile.STAY_TIME_ACT) 900).wr
      (mt 3 Reg.Tile.TILE_STAT) 1 with
    tiles := [(3, { lh := 0x81, samples := [3, 6] })] }
/-- Channel 50 may be commanded. -/
def chanSt : State := ((rs.wr (mt 3 Reg.Tile.LEASH_STAT) 0x50009).wr (mc 50 Reg.Chan.CH_CFG) 1).wr (hrnBase + Reg.Hrn.LEVEL + 4) 0xF0000000
/-- Channel 50 is busy. -/
def chanBusy : State := rs.setBusy (chanBase 50) true
/-- Channel 33 in the hands of the running active half. -/
def rwtOwn : State := (((ssn rs).wrN (chanBase 33 + Reg.Hdr.OWNER) 0x301).setFld (halfBase 0 + Reg.Half.ROLE_STAT) 4 3 1).setGateSt 7 1
/-- A TclReq of these witnesses. -/
def lit0 : TclReq := { type := 1, seq := 3, src := 1, claim := 7 : TclReq }
/-- A TclReq of these witnesses. -/
def lit1 : TclReq := { type := 3, seq := 3, src := 1, claim := 7 : TclReq }
/-- A TclReq of these witnesses. -/
def lit2 : TclReq := { type := 4, seq := 3, src := 1, claim := 7 : TclReq }
/-- A TclReq of these witnesses. -/
def lit3 : TclReq := { type := 4, seq := 3, src := 1, claim := 6 : TclReq }
/-- A TclReq of these witnesses. -/
def lit4 : TclReq := { type := 5, seq := 3, src := 3, claim := 0 : TclReq }
/-- A TclReq of these witnesses. -/
def lit5 : TclReq := { type := 6, seq := 3, src := 1, claim := 7 : TclReq }
/-- A TclReq of these witnesses. -/
def lit6 : TclReq := { type := 7, seq := 3, src := 1, claim := 7 : TclReq }
/-- A TclReq of these witnesses. -/
def lit7 : TclReq := { type := 7, seq := 3, src := 1, claim := 6 : TclReq }
/-- A TclReq of these witnesses. -/
def lit8 : TclReq := { type := 9, seq := 1, src := 1, claim := 1 : TclReq }
/-- A TclReq of these witnesses. -/
def lit9 : TclReq := { type := 2, seq := 4, src := 1, claim := 9 : TclReq }
/-- A TclReq of these witnesses. -/
def lit10 : TclReq := { type := 4, seq := 4, src := 1, claim := 9, unit := 2, reg := (Reg.Chan.CH_CFG - 64) / 4 : TclReq }
/-- A TclReq of these witnesses. -/
def lit11 : TclReq := { type := 4, seq := 4, src := 1, claim := 9, unit := 2, reg := (Reg.Chan.PROT_CLR - 64) / 4 : TclReq }
/-- A TclReq of these witnesses. -/
def lit12 : TclReq := { type := 5, seq := 4, src := 1, claim := 9, unit := 2 : TclReq }
/-- A TclRep of these witnesses. -/
def lit13 : TclRep := { type := 12, seq := 4, holder := 1, state := 1, cur := 9, out := 129, reason := 5, refType := 4 : TclRep }
/-- A TclReq of these witnesses. -/
def lit14 : TclReq := { type := 4, seq := 4, src := 1, claim := 9, unit := 2 : TclReq }

/-- The hypotheses of `Obligations.TileRequests` are met, clause by clause. -/
theorem wit_TileRequests :
    ((((leashSt 1 1).tile 3).powered = true ∧ ((leashSt 1 1).tile 3).starting = false ∧ ((leashSt 1 1).tile 3).lastReq ≠ some lit0 ∧ (1 = 1 ∨ 1 = 2) ∧ (1 = (leashSt 1 1).leashHolder 3 ∧ 7 = (leashSt 1 1).leashCur 3) ∧ ((leashSt 1 1).leashState 3 = 1 ∨ (leashSt 1 1).leashState 3 = 3 ∨ (leashSt 1 1).leashState 3 = 4)) ∧
    (((leashSt 2 1).tile 3).powered = true ∧ ((leashSt 2 1).tile 3).starting = false ∧ ((leashSt 2 1).tile 3).lastReq ≠ some lit0 ∧ (1 = 1 ∨ 1 = 2) ∧ (1 = (leashSt 2 1).leashHolder 3 ∧ 7 = (leashSt 2 1).leashCur 3) ∧ (leashSt 2 1).leashState 3 = 2 ∧ (leashSt 2 1).reaction 32 ≤ 1) ∧
    (((leashSt 1 1).tile 3).powered = true ∧ ((leashSt 1 1).tile 3).starting = false ∧ ((leashSt 1 1).tile 3).lastReq ≠ some { type := 1, seq := 3, src := 2, claim := 7 : TclReq } ∧ (2 = 1 ∨ 2 = 2) ∧ (¬(2 = (leashSt 1 1).leashHolder 3 ∧ 7 = (leashSt 1 1).leashCur 3) ∨ (leashSt 1 1).leashState 3 = 0)) ∧
    (((leashSt 1 1).tile 3).powered = true ∧ ((leashSt 1 1).tile 3).starting = false ∧ ((leashSt 1 1).tile 3).lastReq ≠ some { type := 2, seq := 3, src := 2, claim := 8 : TclReq } ∧ (2 = 1 ∨ 2 = 2) ∧ (leashSt 1 1).leashCur 3 ≠ 65535 ∧ (leashSt 1 1).leashCur 3 < 8 ∧ (leashSt 1 1).reaction 32 ≤ 1)) ∧
    ((((leashSt 1 1).tile 3).powered = true ∧ ((leashSt 1 1).tile 3).starting = false ∧ ((leashSt 1 1).tile 3).lastReq ≠ some { type := 2, seq := 3, src := 2, claim := 7 : TclReq } ∧ (2 = 1 ∨ 2 = 2) ∧ (leashSt 1 1).leashCur 3 ≠ 65535 ∧ 7 ≤ (leashSt 1 1).leashCur 3) ∧
    ((leashMax.tile 3).powered = true ∧ (leashMax.tile 3).starting = false ∧ (leashMax.tile 3).lastReq ≠ some { type := 2, seq := 3, src := 2, claim := 7 : TclReq } ∧ (2 = 1 ∨ 2 = 2) ∧ leashMax.leashCur 3 = 65535) ∧
    (((leashSt 3 1).tile 3).powered = true ∧ ((leashSt 3 1).tile 3).starting = false ∧ ((leashSt 3 1).tile 3).lastReq ≠ some lit1 ∧ (1 = 1 ∨ 1 = 2) ∧ (1 = (leashSt 3 1).leashHolder 3 ∧ 7 = (leashSt 3 1).leashCur 3) ∧ (leashSt 3 1).leashState 3 ≠ 0 ∧ (leashSt 3 1).reaction 32 ≤ 1) ∧
    (((leashSt 1 1).tile 3).powered = true ∧ ((leashSt 1 1).tile 3).starting = false ∧ ((leashSt 1 1).tile 3).lastReq ≠ some { type := 3, seq := 3, src := 1, claim := 6 : TclReq } ∧ (1 = 1 ∨ 1 = 2) ∧ (¬(1 = (leashSt 1 1).leashHolder 3 ∧ 6 = (leashSt 1 1).leashCur 3) ∨ (leashSt 1 1).leashState 3 = 0))) ∧
    ((((leashSt 1 1).tile 3).powered = true ∧ ((leashSt 1 1).tile 3).starting = false ∧ ((leashSt 1 1).tile 3).lastReq ≠ some { type := lit2.type, seq := lit2.seq, src := lit2.src, claim := lit2.claim, unit := 5, reg := 1, data := 255 : TclReq } ∧ (1 = 1 ∨ 1 = 2) ∧ (1 = (leashSt 1 1).leashHolder 3 ∧ 7 = (leashSt 1 1).leashCur 3) ∧ (leashSt 1 1).leashState 3 ≠ 0 ∧ 5 < 16 ∧ regOff 1 = Reg.Chan.CH_CFG ∧ (leashSt 1 1).reaction 32 ≤ 1) ∧
    (((leashSt 1 1).tile 3).powered = true ∧ ((leashSt 1 1).tile 3).starting = false ∧ ((leashSt 1 1).tile 3).lastReq ≠ some { type := lit2.type, seq := lit2.seq, src := lit2.src, claim := lit2.claim, unit := 16, reg := 3, data := 255 : TclReq } ∧ (1 = 1 ∨ 1 = 2) ∧ (1 = (leashSt 1 1).leashHolder 3 ∧ 7 = (leashSt 1 1).leashCur 3) ∧ (leashSt 1 1).leashState 3 ≠ 0 ∧ 16 = 16 ∧ regOff 3 = Reg.Tile.STAY_TIME)) ∧
    ((((leashSt 1 1).tile 3).powered = true ∧ ((leashSt 1 1).tile 3).starting = false ∧ ((leashSt 1 1).tile 3).lastReq ≠ some { type := lit2.type, seq := lit2.seq, src := lit2.src, claim := lit2.claim, unit := 17, reg := 3, data := 255 : TclReq } ∧ (1 = 1 ∨ 1 = 2) ∧ (1 = (leashSt 1 1).leashHolder 3 ∧ 7 = (leashSt 1 1).leashCur 3) ∧ (leashSt 1 1).leashState 3 ≠ 0 ∧ 16 < 17) ∧
    (((leashSt 1 1).tile 3).powered = true ∧ ((leashSt 1 1).tile 3).starting = false ∧ ((leashSt 1 1).tile 3).lastReq ≠ some { type := lit3.type, seq := lit3.seq, src := lit3.src, claim := lit3.claim, unit := 17, reg := 3, data := 255 : TclReq } ∧ (1 = 1 ∨ 1 = 2) ∧ (¬(1 = (leashSt 1 1).leashHolder 3 ∧ 6 = (leashSt 1 1).leashCur 3) ∨ (leashSt 1 1).leashState 3 = 0)) ∧
    (((leashSt 1 1).tile 3).powered = true ∧ ((leashSt 1 1).tile 3).starting = false ∧ ((leashSt 1 1).tile 3).lastReq ≠ some { type := lit4.type, seq := lit4.seq, src := lit4.src, claim := lit4.claim, unit := 16, reg := 1 : TclReq } ∧ (leashSt 1 1).tileRead 3 16 (regOff 1) = some 327687)) ∧
    ((((leashSt 1 1).tile 3).powered = true ∧ ((leashSt 1 1).tile 3).starting = false ∧ ((leashSt 1 1).tile 3).lastReq ≠ some { type := lit4.type, seq := lit4.seq, src := lit4.src, claim := lit4.claim, unit := 99, reg := 1 : TclReq } ∧ (leashSt 1 1).tileRead 3 99 (regOff 1) = none) ∧
    (((leashSt 2 1).tile 3).powered = true ∧ ((leashSt 2 1).tile 3).starting = false ∧ ((leashSt 2 1).tile 3).lastReq ≠ some lit5 ∧ (1 = 1 ∨ 1 = 2) ∧ (1 = (leashSt 2 1).leashHolder 3 ∧ 7 = (leashSt 2 1).leashCur 3) ∧ ((leashSt 2 1).leashState 3 = 1 ∨ (leashSt 2 1).leashState 3 = 2 ∨ (leashSt 2 1).leashState 3 = 3) ∧ (leashSt 2 1).reaction 32 ≤ 1) ∧
    (((leashSt 4 1).tile 3).powered = true ∧ ((leashSt 4 1).tile 3).starting = false ∧ ((leashSt 4 1).tile 3).lastReq ≠ some lit5 ∧ (1 = 1 ∨ 1 = 2) ∧ (¬(1 = (leashSt 4 1).leashHolder 3 ∧ 7 = (leashSt 4 1).leashCur 3) ∨ (leashSt 4 1).leashState 3 = 0 ∨ (leashSt 4 1).leashState 3 = 4))) ∧
    ((((leashSt 1 1).tile 3).powered = true ∧ ((leashSt 1 1).tile 3).starting = false ∧ ((leashSt 1 1).tile 3).lastReq ≠ some { type := lit6.type, seq := lit6.seq, src := lit6.src, claim := lit6.claim, key := 50085 : TclReq } ∧ (1 = 1 ∨ 1 = 2) ∧ (1 = (leashSt 1 1).leashHolder 3 ∧ 7 = (leashSt 1 1).leashCur 3) ∧ 50085 = 50085) ∧
    (((leashSt 1 1).tile 3).powered = true ∧ ((leashSt 1 1).tile 3).starting = false ∧ ((leashSt 1 1).tile 3).lastReq ≠ some { type := lit6.type, seq := lit6.seq, src := lit6.src, claim := lit6.claim, key := 50086 : TclReq } ∧ (1 = 1 ∨ 1 = 2) ∧ (1 = (leashSt 1 1).leashHolder 3 ∧ 7 = (leashSt 1 1).leashCur 3) ∧ 50086 ≠ 50085) ∧
    (((leashSt 1 1).tile 3).powered = true ∧ ((leashSt 1 1).tile 3).starting = false ∧ ((leashSt 1 1).tile 3).lastReq ≠ some { type := lit7.type, seq := lit7.seq, src := lit7.src, claim := lit7.claim, key := 50085 : TclReq } ∧ (1 = 1 ∨ 1 = 2) ∧ (¬(1 = (leashSt 1 1).leashHolder 3 ∧ 6 = (leashSt 1 1).leashCur 3)))) ∧
    ((stored.tile 3).powered = true ∧ (stored.tile 3).starting = false ∧ (lit1, Instr.tclRenew 3 3 1 7) ∈ [(lit0, Instr.tclKeepalive 3 3 1 7), ({ type := 2, seq := 3, src := 1, claim := 7 : TclReq }, Instr.tclClaim 3 3 1 7), (lit1, Instr.tclRenew 3 3 1 7), (lit5, Instr.tclPark 3 3 1 7)] ∧ (stored.tile 3).lastReq = some lit1 ∧ (stored.tile 3).lastRep = some { type := 9, seq := 3, holder := 1, state := 1, cur := 7 : TclRep }) ∧
    (((leashSt 1 1).tile 3).powered = true ∧ ((leashSt 1 1).tile 3).starting = false ∧ (3 = 0 ∨ 3 = 3) ∧ ((leashSt 1 1).tile 3).lastReq ≠ some { type := 2, seq := 3, src := 3, claim := 9 : TclReq }) :=
  ⟨by decide +kernel,
   by decide +kernel,
   by decide +kernel,
   by decide +kernel,
   by decide +kernel,
   by decide +kernel,
   by decide +kernel⟩

/-- The hypotheses of `Obligations.TileEvents` are met, clause by clause. -/
theorem wit_TileEvents :
    ((tclRequest [85] = none ∧ (rs.tile 3).powered = true) ∧
    (tclRequest lit8.octets = some lit8 ∧ (rs.tile 3).powered = true ∧ (rs.tile 3).starting = false ∧ (lit8.type = 0 ∨ 7 < lit8.type) ∧ (rs.tile 3).lastReq ≠ some lit8) ∧
    (dark.tile 3).powered = false ∧
    (trstDue.leashState 3 = 1 ∧ trstDue.reaction 32 ≤ 1) ∧
    (leashSt 2 1).leashState 3 ≠ 1 ∧
    ((leashSt 2 1).leashState 3 = 2 ∧ (leashSt 2 1).reaction 32 ≤ 1) ∧
    (leashSt 1 1).leashState 3 ≠ 2 ∧
    ((trstDue.tile 3).latch ≠ none ∧ (trstDue.tile 3).powered = true ∧ trstDue.leashState 3 = 1 ∧ trstDue.reaction 32 ≤ 1) ∧
    (rs.tile 3).latch = none ∧
    ((trstDue.tile 3).trst = true ∧ (trstDue.tile 3).powered = true ∧ trstDue.reaction 32 ≤ 1) ∧
    (rs.tile 3).trst = false ∧
    ((dark.tile 3).powered = false ∧ 3000 ≤ 3000 ∧ dark.reaction 32 ≤ 1) ∧
    ((dark.tile 3).powered = true ∨ 2999 < 3000) ∧
    ((trstDue.tile 3).powered = true ∧ 2799 < 2800 ∧ trstDue.reaction 32 ≤ 1) ∧
    ((rs.tile 3).powered = false ∨ 2800 ≤ 2800) ∧
    trstDue.reaction 32 ≤ 1 ∧
    (rs.tile 3).powered = true ∧
    ((rs.tile 3).powered = true ∧ rs.reaction 32 ≤ 1) ∧
    rs.domainOn 9 = true ∧
    lhOff.domainOn 9 = false ∧
    ((List.find? (fun e => e.1 == 50) inFl.inFlight = some (50, true)) ∧ 50 / 16 = 3 ∧ inFl.reaction 32 ≤ 1)) ∧
    (List.find? (fun e => e.1 == 50) rs.inFlight = none) :=
  ⟨by decide +kernel,
   by decide +kernel⟩

/-- The hypotheses of `Obligations.TileControlRequests` are met, clause by clause. -/
theorem wit_TileControlRequests :
    ((agentSt.role Half.a = roleActive ∧ agentSt.running Half.a = true ∧ (agentSt.tc 3).agent Half.a = true) ∧
    (rs.role Half.b ≠ roleActive ∨ rs.running Half.b = false)) ∧
    Takes rs accA (Machine.mt 3 Reg.Tile.LEASH_CTRL) ∧
    (Takes rs accA (Machine.mt 3 Reg.Tile.TRST_REQ) ∧ 50085 = 50085) ∧
    (Takes rs accA (Machine.mt 3 Reg.Tile.TRST_REQ) ∧ 50084 ≠ 50085) ∧
    (50 / 16 = 3 ∧ Takes rs accA (mc 50 (rwtOffs.getD 0 0)) ∧ (rs.tc 3).rwUsed < 32) ∧
    (50 / 16 = 3 ∧ Takes fullQ accA (mc 50 (rwtOffs.getD 0 0)) ∧ accA.master = Master.half Half.a ∧ 32 ≤ (fullQ.tc 3).rwUsed) ∧
    (Takes rs accA (if 5 = 16 then Machine.mt 3 Reg.Tile.STAY_TIME else mc (16 * 3 + 5) Reg.Chan.CH_POL) ∧ rs.worn (if 5 = 16 then Machine.mt 3 Reg.Tile.STAY_TIME else mc (16 * 3 + 5) Reg.Chan.CH_POL) = false) :=
  ⟨by decide +kernel,
   by unfold Takes; decide +kernel⟩

/-- The hypotheses of `Obligations.TileControlReplies` are met, clause by clause. -/
theorem wit_TileControlReplies :
    (({ type := 9, seq := 4, holder := 1, state := 1, cur := 9, out := 129 : TclRep }.type = 9 ∧ ((sentSt { req := lit9, why := TcWhy.agent : TcEntry } 0).tc 3).match? { type := 9, seq := 4, holder := 1, state := 1, cur := 9, out := 129 : TclRep } = some { req := lit9, why := TcWhy.agent : TcEntry } ∧ ({ req := lit9, why := TcWhy.agent : TcEntry }.req.src = 1 ∨ { req := lit9, why := TcWhy.agent : TcEntry }.req.src = 2) ∧ ({ req := lit9, why := TcWhy.agent : TcEntry }.req.type = 2 ∨ { req := lit9, why := TcWhy.agent : TcEntry }.req.type = 3) ∧ { req := lit9, why := TcWhy.agent : TcEntry }.why = TcWhy.agent) ∧
    ({ type := 10, seq := 4, holder := 1, state := 1, cur := 9, out := 129, data := 5 : TclRep }.type = 10 ∧ ((sentSt { req := lit10, why := TcWhy.master : TcEntry } 0).tc 3).match? { type := 10, seq := 4, holder := 1, state := 1, cur := 9, out := 129, data := 5 : TclRep } = some { req := lit10, why := TcWhy.master : TcEntry } ∧ { req := lit10, why := TcWhy.master : TcEntry }.req.unit < 16 ∧ regOff { req := lit10, why := TcWhy.master : TcEntry }.req.reg = Reg.Chan.CH_CFG ∧ { req := lit10, why := TcWhy.master : TcEntry }.why = TcWhy.master)) ∧
    (({ type := 10, seq := 4, holder := 1, state := 1, cur := 9, out := 129, data := 15 : TclRep }.type = 10 ∧ ((sentSt { req := lit11, why := TcWhy.clear 50 : TcEntry } 0).tc 3).match? { type := 10, seq := 4, holder := 1, state := 1, cur := 9, out := 129, data := 15 : TclRep } = some { req := lit11, why := TcWhy.clear 50 : TcEntry } ∧ { req := lit11, why := TcWhy.clear 50 : TcEntry }.req.unit = 50 % 16 ∧ 50 / 16 = 3 ∧ regOff { req := lit11, why := TcWhy.clear 50 : TcEntry }.req.reg = Reg.Chan.PROT_CLR ∧ { req := lit11, why := TcWhy.clear 50 : TcEntry }.why = TcWhy.clear 50) ∧
    ({ type := 11, seq := 4, holder := 1, state := 1, cur := 9, out := 129, data := 15 : TclRep }.type = 11 ∧ ((sentSt { req := lit12, why := TcWhy.serve accA 0 false : TcEntry } 0).tc 3).match? { type := 11, seq := 4, holder := 1, state := 1, cur := 9, out := 129, data := 15 : TclRep } = some { req := lit12, why := TcWhy.serve accA 0 false : TcEntry } ∧ { req := lit12, why := TcWhy.serve accA 0 false : TcEntry }.why = TcWhy.serve accA 0 false)) ∧
    ((lit13.type = 12 ∧ ((sentSt { req := lit14, why := TcWhy.master : TcEntry } 0).tc 3).match? lit13 = some { req := lit14, why := TcWhy.master : TcEntry } ∧ { req := lit14, why := TcWhy.master : TcEntry }.why = TcWhy.master ∧ lit13.reason < 16) ∧
    ((List.find? (fun e => e.req.seq == 4) ((sentSt { req := lit14, why := TcWhy.master, tries := 1 : TcEntry } 0).tc 3).sent = some { req := lit14, why := TcWhy.master, tries := 1 : TcEntry }) ∧ Option.any tclReplyGood none = false ∧ { req := lit14, why := TcWhy.master, tries := 1 : TcEntry }.tries < 2) ∧
    ((List.find? (fun e => e.req.seq == 4) ((sentSt { req := lit14, why := TcWhy.master, tries := 1 : TcEntry } 0).tc 3).sent = some { req := lit14, why := TcWhy.master, tries := 1 : TcEntry }) ∧ Option.any tclReplyGood (some { type := 9, seq := 1, holder := 1, state := 1, cur := 9 : TclRep }.octets) = true)) ∧
    (((List.find? (fun e => e.req.seq == 4) ((sentSt { req := lit14, why := TcWhy.master, tries := 2 : TcEntry } 0).tc 3).sent = some { req := lit14, why := TcWhy.master, tries := 2 : TcEntry }) ∧ Option.any tclReplyGood none = false ∧ 2 ≤ { req := lit14, why := TcWhy.master, tries := 2 : TcEntry }.tries ∧ { req := lit14, why := TcWhy.master, tries := 2 : TcEntry }.why = TcWhy.master ∧ ((sentSt { req := lit14, why := TcWhy.master, tries := 2 : TcEntry } 0).tc 3).timeouts < 2) ∧
    ((List.find? (fun e => e.req.seq == 4) ((sentSt { req := lit14, why := TcWhy.master, tries := 2 : TcEntry } 2).tc 3).sent = some { req := lit14, why := TcWhy.master, tries := 2 : TcEntry }) ∧ Option.any tclReplyGood none = false ∧ 2 ≤ { req := lit14, why := TcWhy.master, tries := 2 : TcEntry }.tries ∧ { req := lit14, why := TcWhy.master, tries := 2 : TcEntry }.why = TcWhy.master ∧ 2 ≤ ((sentSt { req := lit14, why := TcWhy.master, tries := 2 : TcEntry } 2).tc 3).timeouts ∧ (sentSt { req := lit14, why := TcWhy.master, tries := 2 : TcEntry } 2).linkUp 3 = true ∧ (sentSt { req := lit14, why := TcWhy.master, tries := 2 : TcEntry } 2).reaction 33 ≤ 1)) ∧
    (List.find? (fun e => e.req.seq == 5) ((sentSt { req := lit14, why := TcWhy.master, tries := 2 : TcEntry } 0).tc 3).sent = none) :=
  ⟨by decide +kernel,
   by decide +kernel,
   by decide +kernel,
   by decide +kernel,
   by decide +kernel⟩

/-- The hypotheses of `Obligations.MirrorsAndChannelCommands` are met, clause by clause. -/
theorem wit_MirrorsAndChannelCommands :
    (((tileSt.tile 3).powered = true ∧ (tileSt.tile 3).starting = false) ∧
    (dark.tile 3).powered = false ∧
    (tileSt.linkUp 3 = true ∧ (tileSt.tile 3).powered = true ∧ (tileSt.tile 3).starting = false) ∧
    rs.linkUp 3 = false) ∧
    (Takes chanSt accA (mc 50 Reg.Hdr.UNIT_CTRL) ∧ chanSt.busy (chanBase 50) = false ∧ chanSt.chanRefused accA 50 = false ∧ chanSt.bit (mc 50 Reg.Chan.CH_CFG) 0 = true ∧ chanSt.mirLatched 50 = false) ∧
    (Takes chanSt accA (mc 50 Reg.Hdr.UNIT_CTRL) ∧ chanSt.busy (chanBase 50) = false ∧ chanSt.chanRefused accA 50 = false) ∧
    (Takes chanSt accA (mc 50 Reg.Hdr.UNIT_CTRL) ∧ chanSt.busy (chanBase 50) = false ∧ chanSt.chanRefused accA 50 = false ∧ (chanSt.tc (50 / 16)).rwUsed < 32) ∧
    (Takes rs accA (mc 50 Reg.Hdr.UNIT_CTRL) ∧ rs.busy (chanBase 50) = false ∧ (rs.chanRefused accA 50 = true ∨ rs.bit (mc 50 Reg.Chan.CH_CFG) 0 = false ∨ rs.mirLatched 50 = true)) ∧
    (Takes rs accA (mc 50 Reg.Hdr.UNIT_CTRL) ∧ rs.busy (chanBase 50) = false ∧ rs.chanRefused accA 50 = true) ∧
    (Takes chanBusy accA (mc 50 Reg.Hdr.UNIT_CTRL) ∧ chanBusy.busy (chanBase 50) = true) :=
  ⟨by decide +kernel,
   by unfold Takes; decide +kernel⟩

/-- The hypotheses of `Obligations.TileHeldSideBandWrites` are met, clause by clause. -/
theorem wit_TileHeldSideBandWrites :
    (accS.master = Master.shep ∧ rwtOwn.judge accS true 4 (mc 33 (rwtOffs.getD 0 0)) = Verdict.refuse 2) ∧
    (accS.master = Master.shep ∧ Takes rs accS (mc 33 (rwtOffs.getD 0 0))) :=
  ⟨by decide +kernel,
   by unfold Takes; decide +kernel⟩

end Tiles

namespace Supply

/-- Channel 50 conducts on a fed tile; `w` is its OC_CFG, `rc` its RETRY_CFG. -/
def onSt (w rc : Nat) : State :=
  { (((rs.wrN (tk 50 Reg.Chan.OC_CFG) w).wrN (tk 50 Reg.Chan.RETRY_CFG) rc).wrN (tk 50 Reg.Chan.DIAG_CFG) 0x207).setLeash 3 7 1 1 with
    tiles := [(3, { feed := 48000 })]
    chans := [(50, { conducts := true })] }
/-- The same in its inrush window. -/
def inrSt : State := { onSt 0x20000A14 0x4 with
                       chans := [(50, { conducts := true, inrush := true })] }
/-- Channel 50 latched, with its retry timer running. -/
def latched (thl deferred : Bool) (left : Nat) : State :=
  { (((rs.setLeash 3 7 1 1).wrN (tk 50 Reg.Chan.RETRY_CFG) 0x640005).wrN (tk 50 Reg.Chan.DIAG_HIST) 0x10F).wrN (tk 50 Reg.Chan.PROT_STAT)
      (left * 256 + (if thl then 8 else 0) + 64) with
    chans := [(50, { timer := true, clean := true, deferred := deferred })] }
/-- Tile 3 without power. -/
def dark5 : State := { rs with
                       tiles := [(3, { powered := false, feed := 1000 })] }
/-- The same, hot. -/
def hotSt : State := (latched true false 3).wrN (tk 50 Reg.Chan.PROT_STAT) 0x368
/-- Channel 50 may run its off-state sequence, at phase `d`. -/
def offSt (d : Nat) : State :=
  { onSt 0 0 with
    chans := [(50, { diag := d })] }

/-- The hypotheses of `Obligations.OvercurrentTrips` are met, clause by clause. -/
theorem wit_OvercurrentTrips :
    (rs.trips 50 = false ∧
    ((onSt 2580 4).trips 50 = true ∧ 100 + 2 * (chanInom 50 * 100) * 15 / 100 < 2 * (chanInom 50 * 100)) ∧
    ((onSt 2580 4).trips 50 = true ∧ 2 * (chanInom 50 * 100) + 2 * (chanInom 50 * 100) * 15 / 100 ≤ 90000 ∧ (onSt 2580 4).reaction 32 ≤ 1) ∧
    ((inrSt.trips 50 = false ∨ (inrSt.chan 50).inrush = true ∧ inrSt.bit (tk 50 Reg.Chan.OC_CFG) 29 = true)) ∧
    ((onSt 2580 4).trips 50 = true ∧ (((onSt 2580 4).chan 50).inrush = false ∨ (onSt 2580 4).bit (tk 50 Reg.Chan.OC_CFG) 29 = false) ∧ 100 + (chanInom 50 * 100 * (onSt 2580 4).fld (tk 50 Reg.Chan.OC_CFG) (if ((onSt 2580 4).chan 50).inrush = true then 8 else 0) 8 / 100 * 2 / 100 + chanInom 50 * 100 / 100) < chanInom 50 * 100 * (onSt 2580 4).fld (tk 50 Reg.Chan.OC_CFG) (if ((onSt 2580 4).chan 50).inrush = true then 8 else 0) 8 / 100)) ∧
    ((onSt 2580 4).trips 50 = true ∧ (((onSt 2580 4).chan 50).inrush = false ∨ (onSt 2580 4).bit (tk 50 Reg.Chan.OC_CFG) 29 = false) ∧ chanInom 50 * 100 * (onSt 2580 4).fld (tk 50 Reg.Chan.OC_CFG) (if ((onSt 2580 4).chan 50).inrush = true then 8 else 0) 8 / 100 + (chanInom 50 * 100 * (onSt 2580 4).fld (tk 50 Reg.Chan.OC_CFG) (if ((onSt 2580 4).chan 50).inrush = true then 8 else 0) 8 / 100 * 2 / 100 + chanInom 50 * 100 / 100) ≤ 90000 ∧ (onSt 2580 4).reaction 32 ≤ 1) :=
  ⟨by decide +kernel,
   by decide +kernel⟩

/-- The hypotheses of `Obligations.ThermalAndInrush` are met, clause by clause. -/
theorem wit_ThermalAndInrush :
    (((onSt 2580 4).tile (50 / 16)).powered = true ∧ 1800 ≤ 1800 ∧ (onSt 2580 4).reaction 32 ≤ 1) ∧
    (1699 < 1700 ∨ ((onSt 2580 4).tile (50 / 16)).powered = false) ∧
    (((onSt 2580 4).tile (50 / 16)).powered = true ∧ (onSt 2580 4).reaction 32 ≤ 1 ∧ 1550 ≤ 1550) ∧
    (((onSt 2580 4).tile (50 / 16)).powered = true ∧ (onSt 2580 4).reaction 32 ≤ 1 ∧ 1449 < 1450) ∧
    (((onSt 2580 4).tile (50 / 16)).powered = true ∧ (onSt 2580 4).reaction 32 ≤ 1 ∧ (onSt 2580 4).warnTemp 50 + 50 ≤ 2000) ∧
    (((onSt 2580 4).tile (50 / 16)).powered = true ∧ (onSt 2580 4).reaction 32 ≤ 1 ∧ 100 < (onSt 2580 4).warnTemp 50 - 100) ∧
    (dark5.tile (50 / 16)).powered = false ∧
    ((inrSt.chan 50).conducts = true ∧ inrSt.reaction 32 ≤ 1) :=
  by decide +kernel

/-- The hypotheses of `Obligations.Restarts` are met, clause by clause. -/
theorem wit_Restarts :
    ((latched false false 3).reaction 32 ≤ 1 ∧ ((latched false false 3).chan 50).timer = true ∧ (latched false false 3).restartPend 50 = true ∧ (latched false false 3).thLatch 50 = false ∧ (latched false false 3).retryLeft 50 ≠ 0) ∧
    ((latched false false 0).reaction 32 ≤ 1 ∧ ((latched false false 0).chan 50).timer = true ∧ (latched false false 0).restartPend 50 = true ∧ (latched false false 0).thLatch 50 = false ∧ (latched false false 0).retryLeft 50 = 0) ∧
    ((latched true false 3).reaction 32 ≤ 1 ∧ ((latched true false 3).chan 50).timer = true ∧ (latched true false 3).restartPend 50 = true ∧ (latched true false 3).thLatch 50 = true ∧ ((latched true false 3).chan 50).deferred = false) ∧
    (rs.chan 50).timer = false ∧
    ((latched true false 3).reaction 32 ≤ 1 ∧ ((latched true false 3).chan 50).clean = true ∧ (latched true false 3).fld (tk 50 Reg.Chan.RETRY_CFG) 16 8 ≠ 0) ∧
    ((rs.chan 50).clean = false ∨ rs.fld (tk 50 Reg.Chan.RETRY_CFG) 16 8 = 0) :=
  by decide +kernel

/-- The hypotheses of `Obligations.ProtectionClear` are met, clause by clause. -/
theorem wit_ProtectionClear :
    (hotSt.clrOpen 50 = true ∧ hotSt.reaction 32 ≤ 1 ∧ hotSt.hot 50 = true) ∧
    ((latched true false 3).clrOpen 50 = true ∧ (latched true false 3).reaction 32 ≤ 1 ∧ (latched true false 3).hot 50 = false) ∧
    (hotSt.clrOpen 50 = true ∧ hotSt.reaction 32 ≤ 1) ∧
    dark5.clrOpen 50 = false :=
  by decide +kernel

/-- The hypotheses of `Obligations.Diagnostics` are met, clause by clause. -/
theorem wit_Diagnostics :
    ((((offSt 0).chan 50).conducts = false ∨ ((offSt 0).chan 50).inrush = true ∨ (offSt 0).bit (tk 50 Reg.Chan.DIAG_CFG) 0 = false) ∧
    (((onSt 2580 4).chan 50).conducts = true ∧ ((onSt 2580 4).chan 50).inrush = false ∧ (onSt 2580 4).bit (tk 50 Reg.Chan.DIAG_CFG) 0 = true ∧ (onSt 2580 4).reaction 32 ≤ 1 ∧ 5 + (max 1 ((onSt 2580 4).fld (tk 50 Reg.Chan.DIAG_CFG) 8 8) * (chanInom 50 * 100) / 10 + chanInom 50 * 100 / 2) < max 1 ((onSt 2580 4).fld (tk 50 Reg.Chan.DIAG_CFG) 8 8) * (chanInom 50 * 100)) ∧
    (((onSt 2580 4).chan 50).conducts = true ∧ ((onSt 2580 4).chan 50).inrush = false ∧ (onSt 2580 4).bit (tk 50 Reg.Chan.DIAG_CFG) 0 = true ∧ (onSt 2580 4).reaction 32 ≤ 1 ∧ max 1 ((onSt 2580 4).fld (tk 50 Reg.Chan.DIAG_CFG) 8 8) * (chanInom 50 * 100) + (max 1 ((onSt 2580 4).fld (tk 50 Reg.Chan.DIAG_CFG) 8 8) * (chanInom 50 * 100) / 10 + chanInom 50 * 100 / 2) ≤ 50000) ∧
    (((offSt 0).chan 50).conducts = false ∨ (offSt 0).bit (tk 50 Reg.Chan.DIAG_CFG) 2 = false) ∧
    (((onSt 2580 4).chan 50).conducts = true ∧ (onSt 2580 4).bit (tk 50 Reg.Chan.DIAG_CFG) 2 = true ∧ (onSt 2580 4).reaction 32 ≤ 1 ∧ chanInom 50 * 100 * 2 < 50000 * 100)) ∧
    (((onSt 2580 4).chan 50).conducts = true ∧ (onSt 2580 4).bit (tk 50 Reg.Chan.DIAG_CFG) 2 = true ∧ (onSt 2580 4).reaction 32 ≤ 1 ∧ 1 * 100 < chanInom 50 * 100 * 2) ∧
    ((offSt 0).diagEligible 50 = true ∧ ((offSt 0).chan 50).diag = 0) ∧
    rs.diagEligible 50 = false ∧
    (((offSt 1).chan 50).diag = 1 ∧ (offSt 1).reaction 32 ≤ 1 ∧ ((offSt 1).tile (50 / 16)).feed + 300 ≤ 48000 + 2000) ∧
    (((offSt 1).chan 50).diag = 1 ∧ (offSt 1).reaction 32 ≤ 1 ∧ 40000 + 2000 + 300 < ((offSt 1).tile (50 / 16)).feed) ∧
    ((offSt 0).chan 50).diag ≠ 1 ∧
    (((offSt 2).chan 50).diag = 2 ∧ (offSt 2).reaction 32 ≤ 1 ∧ 4300 ≤ 5000) ∧
    (((offSt 2).chan 50).diag = 2 ∧ (offSt 2).reaction 32 ≤ 1 ∧ 100 + 300 < 4000) ∧
    ((offSt 0).chan 50).diag ≠ 2 :=
  ⟨by decide +kernel,
   by decide +kernel⟩

end Supply

namespace Sensing

/-- No background scan on converter 3. -/
def bgOff : State := rs.wr (sadcReg 3 Reg.Sadc.SADC_CFG) 0
/-- Converter 3 with a hold due, its instant the block's. -/
def convSt (sel : Nat) : State :=
  { rs.wrN (chanBase 50 + Reg.Chan.MEAS_CFG) 1 with
    adcs := [(3, { holds := [{ t := 0, sel := sel, origin := 2 }, { t := 900, sel := 0x11, origin := 1 }] })] }
/-- Converter 3 with a conversion in progress. -/
def convRun (sel : Nat) (cap : Bool) : State :=
  { (rs.wrN (chanBase 50 + Reg.Chan.CAL_FINE) 0x00100200).wrN (chanBase 50 + Reg.Chan.GROUP) 0x80000005 with
    adcs := [(3, { conv := some ⟨{ t := 5000, sel := sel, origin := 2, slip := 3 }, 0, 50, cap⟩ })] }
/-- The same at an instant of TB0. -/
def convAt (now : Nat) : State :=
  { (convRun 2 false) with
    time := { rs.time with
              clk0 := { now := ⟨0, now, 0⟩ } } }
/-- Converter 3 with its background scan enabled. -/
def bgSt : State := (rs.wrN (sadcReg 3 Reg.Sadc.SADC_CFG) 0x41).wrN (chanBase 48 + Reg.Chan.MEAS_CFG) 4
/-- A capture of converter 3 in state `st` with `n` samples taken. -/
def capSt (st n : Nat) : State :=
  { rs.wrN (sadcReg 3 Reg.Sadc.CAP_STAT) (st + 0x20) with
    adcs := [(3, { t0 := 5000, last := some 300, samples := List.replicate n { code := 700, range := 1 } })] }
/-- CKG5 gated. -/
def capGated : State := rs.setGateSt 17 0
/-- The feed monitor with samples taken. -/
def fmSt : State := { rs.wrN (fmonReg Reg.Sadc.FMON_UV) 9000 with
                      fmonPrev := some (12000, 8000)
                      fmonClrB := true }
/-- The sense domain off. -/
def senseOff : State := rs.wr (pdcBase + Reg.Pdc.PD_CTRL + 44) 0
/-- Channel 5 in group 7. -/
def memSt : State := State.membEffect rs ⟨7, 0x105, 1, accA⟩
/-- A write of group 7's MEMB_CTRL waits. -/
def memReq (s : State) (m op : Nat) : State := { s with
                                                 membReqs := [⟨7, m, op, accA⟩] }
/-- Group 7 busy. -/
def memBusy : State := rs.setBusy (cgBase 7) true
/-- Channel 5's page owned by Half B. -/
def memOwn : State := rs.wrN (chanBase 5 + Reg.Hdr.OWNER) 0x201
/-- Group 7 in group 9. -/
def memUp : State := State.membEffect rs ⟨9, 0xC7, 1, accA⟩
/-- A chain of five groups, 7 the lowest, and group 24 of level 2. -/
def memDeep : State :=
  (([8, 9, 10, 11].foldl (fun (s : State) g => s.wrN (cgBase (g - 1) + Reg.Cg.PARENT) (2 ^ 31 + g)) rs).setFld
    (cgBase 24 + Reg.Cg.MEMB_STAT) 16 3 2)
/-- A Hold of these witnesses. -/
def lit0 : Hold := { t := 0, sel := 2, origin := 2 : Hold }
/-- A Hold of these witnesses. -/
def lit1 : Hold := { t := 5000, sel := 2, origin := 2, slip := 3 : Hold }
/-- A Hold of these witnesses. -/
def lit2 : Hold := { t := 5000, sel := 16, origin := 2, slip := 3 : Hold }
/-- A Hold of these witnesses. -/
def lit3 : Hold := { t := 5000, sel := 17, origin := 2, slip := 3 : Hold }
/-- A Hold of these witnesses. -/
def lit4 : Hold := { t := 5000, sel := 18, origin := 2, slip := 3 : Hold }
/-- A Hold of these witnesses. -/
def lit5 : Hold := { t := 5000, sel := 19, origin := 2, slip := 3 : Hold }
/-- A Hold of these witnesses. -/
def lit6 : Hold := { t := 5000, sel := 20, origin := 2, slip := 3 : Hold }
/-- A Hold of these witnesses. -/
def lit7 : Hold := { t := 5000, sel := 21, origin := 2, slip := 3 : Hold }
/-- A CapSample of these witnesses. -/
def lit8 : CapSample := { code := 700, range := 1 : CapSample }
/-- A MembReq of these witnesses. -/
def lit9 : MembReq := { group := 7, member := 128, op := 1, acc := accA : MembReq }
/-- A MembReq of these witnesses. -/
def lit10 : MembReq := { group := 7, member := 261, op := 1, acc := accA : MembReq }
/-- A MembReq of these witnesses. -/
def lit11 : MembReq := { group := 7, member := 261, op := 2, acc := accA : MembReq }
/-- A MembReq of these witnesses. -/
def lit12 : MembReq := { group := 7, member := 201, op := 1, acc := accA : MembReq }
/-- A MembReq of these witnesses. -/
def lit13 : MembReq := { group := 7, member := 216, op := 1, acc := accA : MembReq }
/-- A MembReq of these witnesses. -/
def lit14 : MembReq := { group := 7, member := 217, op := 1, acc := accA : MembReq }

/-- The hypotheses of `Obligations.Conversions` are met, clause by clause. -/
theorem wit_Conversions :
    (((rs.domainOn 11 = false ∨ (rs.adc 3).conv.isSome = true ∨ rs.capState 3 ≠ 2 ∧ rs.bit (sadcReg 3 Reg.Sadc.SADC_STAT) 6 = false ∧ ∀ h ∈ (rs.adc 3).holds, rs.tb0.nsTotal < h.t)) ∧
    ((convSt 2).domainOn 11 = true ∧ ((convSt 2).adc 3).conv = none ∧ (convSt 2).capState 3 ≠ 2 ∧ ((convSt 2).adc 3).holds = [lit0, { t := 900, sel := 17, origin := 1 : Hold }] ∧ lit0.t ≤ (convSt 2).tb0.nsTotal ∧ (convSt 2).bit (sadcReg 3 Reg.Sadc.SADC_STAT) 6 = false ∧ lit0.sel < 16) ∧
    ((∀ (c : Conv), (rs.adc 3).conv = some c → c.hold.t ≤ rs.tb0.nsTotal ∧ rs.tb0.nsTotal < c.hold.t + 450)) ∧
    (((convRun 2 true).adc 3).conv = some { hold := lit1, range := 0, chan := 50, cap := true : Conv } ∧ (convRun 2 true).convReady { hold := lit1, range := 0, chan := 50, cap := true : Conv } = true ∧ { hold := lit1, range := 0, chan := 50, cap := true : Conv }.cap = true)) ∧
    ((((convRun 2 false).adc 3).conv = some { hold := lit1, range := 0, chan := 50 : Conv } ∧ (convRun 2 false).convReady { hold := lit1, range := 0, chan := 50 : Conv } = true ∧ { hold := lit1, range := 0, chan := 50 : Conv }.cap = false ∧ { hold := lit1, range := 0, chan := 50 : Conv }.chan < 128 ∧ { hold := lit1, range := 0, chan := 50 : Conv }.hold.sel < 16 ∧ { hold := lit1, range := 0, chan := 50 : Conv }.range ≤ 1 ∧ { hold := lit1, range := 0, chan := 50 : Conv }.hold.origin ≤ 2) ∧
    (((convRun 16 false).adc 3).conv = some { hold := lit2, range := 0, chan := 50 : Conv } ∧ (convRun 16 false).convReady { hold := lit2, range := 0, chan := 50 : Conv } = true ∧ { hold := lit2, range := 0, chan := 50 : Conv }.cap = false ∧ { hold := lit2, range := 0, chan := 50 : Conv }.chan < 128 ∧ { hold := lit2, range := 0, chan := 50 : Conv }.hold.sel = 16)) ∧
    ((((convRun 17 false).adc 3).conv = some { hold := lit3, range := 0, chan := 50 : Conv } ∧ (convRun 17 false).convReady { hold := lit3, range := 0, chan := 50 : Conv } = true ∧ { hold := lit3, range := 0, chan := 50 : Conv }.cap = false ∧ { hold := lit3, range := 0, chan := 50 : Conv }.chan < 128 ∧ { hold := lit3, range := 0, chan := 50 : Conv }.hold.sel = 17 ∧ 49151 < 49152) ∧
    (((convRun 18 false).adc 3).conv = some { hold := lit4, range := 0, chan := 50 : Conv } ∧ (convRun 18 false).convReady { hold := lit4, range := 0, chan := 50 : Conv } = true ∧ { hold := lit4, range := 0, chan := 50 : Conv }.cap = false ∧ { hold := lit4, range := 0, chan := 50 : Conv }.chan < 128 ∧ { hold := lit4, range := 0, chan := 50 : Conv }.hold.sel = 18) ∧
    (((convRun 19 false).adc 3).conv = some { hold := lit5, range := 0, chan := 50 : Conv } ∧ (convRun 19 false).convReady { hold := lit5, range := 0, chan := 50 : Conv } = true ∧ { hold := lit5, range := 0, chan := 50 : Conv }.cap = false ∧ { hold := lit5, range := 0, chan := 50 : Conv }.chan < 128 ∧ { hold := lit5, range := 0, chan := 50 : Conv }.hold.sel = 19 ∧ 49151 < 49152)) ∧
    ((((convRun 20 false).adc 3).conv = some { hold := lit6, range := 0, chan := 50 : Conv } ∧ (convRun 20 false).convReady { hold := lit6, range := 0, chan := 50 : Conv } = true ∧ { hold := lit6, range := 0, chan := 50 : Conv }.cap = false ∧ { hold := lit6, range := 0, chan := 50 : Conv }.chan < 128 ∧ { hold := lit6, range := 0, chan := 50 : Conv }.hold.sel = 20) ∧
    (((convRun 21 false).adc 3).conv = some { hold := lit7, range := 0, chan := 50 : Conv } ∧ (convRun 21 false).convReady { hold := lit7, range := 0, chan := 50 : Conv } = true ∧ { hold := lit7, range := 0, chan := 50 : Conv }.cap = false ∧ { hold := lit7, range := 0, chan := 50 : Conv }.chan < 128 ∧ { hold := lit7, range := 0, chan := 50 : Conv }.hold.sel = 21) ∧
    (bgOff.bit (sadcReg 3 Reg.Sadc.SADC_CFG) 0 = false ∨ bgOff.time.tbf.nsTotal < (bgOff.adc 3).bgDue ∨ bgOff.domainOn 11 = false) ∧
    (bgSt.bit (sadcReg 3 Reg.Sadc.SADC_CFG) 0 = true ∧ (bgSt.adc 3).bgDue ≤ bgSt.time.tbf.nsTotal ∧ bgSt.domainOn 11 = true ∧ bgSt.bit (sadcReg 3 Reg.Sadc.SADC_STAT) 6 = false ∧ bgSt.capState 3 ≠ 2 ∧ (bgSt.adc 3).holds = [] ∧ bgSt.placed = [] ∧ bgSt.bit (chanBase (16 * 3) + Reg.Chan.MEAS_CFG) 2 = true)) ∧
    ((bgSt.setBit (sadcReg 3 Reg.Sadc.SADC_STAT) 6 true).bit (sadcReg 3 Reg.Sadc.SADC_CFG) 0 = true ∧ ((bgSt.setBit (sadcReg 3 Reg.Sadc.SADC_STAT) 6 true).adc 3).bgDue ≤ (bgSt.setBit (sadcReg 3 Reg.Sadc.SADC_STAT) 6 true).time.tbf.nsTotal ∧ (bgSt.setBit (sadcReg 3 Reg.Sadc.SADC_STAT) 6 true).domainOn 11 = true ∧ ((bgSt.setBit (sadcReg 3 Reg.Sadc.SADC_STAT) 6 true).bit (sadcReg 3 Reg.Sadc.SADC_STAT) 6 = true ∨ (bgSt.setBit (sadcReg 3 Reg.Sadc.SADC_STAT) 6 true).capState 3 = 2)) ∧
    (Takes (convSt 2) accA (sadcReg 3 Reg.Sadc.SW_CONV) ∧ bitOf 261 8 = true ∧ bitsOf 261 0 5 < 23 ∧ (convSt 2).capState 3 ≠ 2) ∧
    (Takes (convSt 2) accA (sadcReg 3 Reg.Sadc.SW_CONV) ∧ (bitOf 279 8 = false ∨ 23 ≤ bitsOf 279 0 5)) :=
  ⟨by decide +kernel,
   by decide +kernel,
   by decide +kernel,
   by decide +kernel,
   by decide +kernel,
   by unfold Takes; decide +kernel⟩

/-- The hypotheses of `Obligations.CapturesAndFeeds` are met, clause by clause. -/
theorem wit_CapturesAndFeeds :
    ((fmSt.domainOn 11 = true ∧ fmSt.fmonDue = true ∧ -10000 ≤ 8999 ∧ 8999 ≤ 70000 ∧ -10000 ≤ -400 ∧ -400 ≤ 70000) ∧
    (senseOff.domainOn 11 = false ∨ senseOff.fmonDue = false)) ∧
    (Shows (capSt 2 4) accA (sadcReg 3 Reg.Sadc.CAP_DATA) ∧ ((capSt 2 4).adc 3).samples[(capSt 2 4).fld (sadcReg 3 Reg.Sadc.CAP_PTR) 0 12]? = some lit8 ∧ lit8.code < 65536 ∧ lit8.range ≤ 1) ∧
    (Takes (capSt 2 5) accA (sadcReg 3 Reg.Sadc.CAP_CTRL) ∧ ((capSt 2 5).capState 3 = 1 ∨ (capSt 2 5).capState 3 = 2) ∧ bitOf 258 9 = false) ∧
    (Takes (capSt 0 5) accA (sadcReg 3 Reg.Sadc.CAP_CTRL) ∧ (¬((capSt 0 5).capState 3 = 1 ∨ (capSt 0 5).capState 3 = 2)) ∧ bitOf 258 8 = true ∧ bitOf 258 4 = false) ∧
    (Takes capGated accA (sadcReg 3 Reg.Sadc.CAP_CTRL) ∧ (¬(capGated.capState 3 = 1 ∨ capGated.capState 3 = 2)) ∧ bitOf 274 8 = true ∧ bitOf 274 4 = true ∧ capGated.gated 5 = true) ∧
    (Takes (capSt 3 5) accA (sadcReg 3 Reg.Sadc.CAP_CTRL) ∧ (¬((capSt 3 5).capState 3 = 1 ∨ (capSt 3 5).capState 3 = 2)) ∧ bitOf 274 8 = true ∧ bitOf 274 4 = true ∧ (capSt 3 5).gated 5 = false) ∧
    (Takes (capSt 2 5) accA (sadcReg 3 Reg.Sadc.CAP_CTRL) ∧ ((capSt 2 5).capState 3 = 1 ∨ (capSt 2 5).capState 3 = 2) ∧ bitOf 512 9 = true ∧ bitOf 512 8 = false) ∧
    (Takes rs accA (sadcReg 3 Reg.Sadc.CAP_CTRL) ∧ (¬(rs.capState 3 = 1 ∨ rs.capState 3 = 2)) ∧ bitOf 512 8 = false) ∧
    Takes rs accA (fmonReg Reg.Sadc.FMON_CLR) :=
  ⟨by decide +kernel,
   by unfold Shows; decide +kernel,
   by unfold Takes; decide +kernel⟩

/-- The hypotheses of `Obligations.Membership` are met, clause by clause. -/
theorem wit_Membership :
    ((Instr.membAdd accA 7 261, 1) ∈ [(Instr.membAdd accA 7 261, 1), (Instr.membRemove accA 7 261, 2)] ∧ Takes rs accA (cgBase 7 + Reg.Cg.MEMB_CTRL)) ∧
    (rs.membReqs = [] ∧
    ((memReq rs 128 1).membReqs = [lit9] ∧ lit9.group < 64 ∧ (¬((lit9.op = 1 ∨ lit9.op = 2) ∧ (256 ≤ lit9.member ∧ lit9.member < 384 ∨ (192 ≤ lit9.member ∧ lit9.member < 256) ∧ lit9.member ≠ 192 + lit9.group)))) ∧
    ((memReq memOwn 261 1).membReqs = [lit10] ∧ lit10.group < 64 ∧ ((lit10.op = 1 ∨ lit10.op = 2) ∧ (256 ≤ lit10.member ∧ lit10.member < 384 ∨ (192 ≤ lit10.member ∧ lit10.member < 256) ∧ lit10.member ≠ 192 + lit10.group)) ∧ (memReq memOwn 261 1).r34 lit10.acc (compBase lit10.member) = false) ∧
    ((memReq memBusy 261 1).membReqs = [lit10] ∧ lit10.group < 64 ∧ ((lit10.op = 1 ∨ lit10.op = 2) ∧ (256 ≤ lit10.member ∧ lit10.member < 384 ∨ (192 ≤ lit10.member ∧ lit10.member < 256) ∧ lit10.member ≠ 192 + lit10.group)) ∧ (memReq memBusy 261 1).r34 lit10.acc (compBase lit10.member) = true ∧ ((∃ x ∈ (memReq memBusy 261 1).groupChain 6 (some lit10.group), (memReq memBusy 261 1).busy (cgBase x) = true) ∨ (192 ≤ lit10.member ∧ lit10.member < 256) ∧ (memReq memBusy 261 1).busy (compBase lit10.member) = true))) ∧
    (((memReq rs 261 2).membReqs = [lit11] ∧ lit11.group < 64 ∧ ((lit11.op = 1 ∨ lit11.op = 2) ∧ (256 ≤ lit11.member ∧ lit11.member < 384 ∨ (192 ≤ lit11.member ∧ lit11.member < 256) ∧ lit11.member ≠ 192 + lit11.group)) ∧ (memReq rs 261 2).r34 lit11.acc (compBase lit11.member) = true ∧ (¬((∃ x ∈ (memReq rs 261 2).groupChain 6 (some lit11.group), (memReq rs 261 2).busy (cgBase x) = true) ∨ (192 ≤ lit11.member ∧ lit11.member < 256) ∧ (memReq rs 261 2).busy (compBase lit11.member) = true)) ∧ lit11.op = 2 ∧ (memReq rs 261 2).isMember lit11.group lit11.member = false) ∧
    ((memReq memSt 261 1).membReqs = [lit10] ∧ lit10.group < 64 ∧ ((lit10.op = 1 ∨ lit10.op = 2) ∧ (256 ≤ lit10.member ∧ lit10.member < 384 ∨ (192 ≤ lit10.member ∧ lit10.member < 256) ∧ lit10.member ≠ 192 + lit10.group)) ∧ (memReq memSt 261 1).r34 lit10.acc (compBase lit10.member) = true ∧ (¬((∃ x ∈ (memReq memSt 261 1).groupChain 6 (some lit10.group), (memReq memSt 261 1).busy (cgBase x) = true) ∨ (192 ≤ lit10.member ∧ lit10.member < 256) ∧ (memReq memSt 261 1).busy (compBase lit10.member) = true)) ∧ lit10.op = 1 ∧ ((memReq memSt 261 1).holderOf lit10.member).isSome = true)) ∧
    ((memReq memUp 201 1).membReqs = [lit12] ∧ lit12.group < 64 ∧ ((lit12.op = 1 ∨ lit12.op = 2) ∧ (256 ≤ lit12.member ∧ lit12.member < 384 ∨ (192 ≤ lit12.member ∧ lit12.member < 256) ∧ lit12.member ≠ 192 + lit12.group)) ∧ (memReq memUp 201 1).r34 lit12.acc (compBase lit12.member) = true ∧ (¬((∃ x ∈ (memReq memUp 201 1).groupChain 6 (some lit12.group), (memReq memUp 201 1).busy (cgBase x) = true) ∨ (192 ≤ lit12.member ∧ lit12.member < 256) ∧ (memReq memUp 201 1).busy (compBase lit12.member) = true)) ∧ lit12.op = 1 ∧ (memReq memUp 201 1).holderOf lit12.member = none ∧ ((192 ≤ lit12.member ∧ lit12.member < 256) ∧ lit12.member - 192 ∈ (memReq memUp 201 1).groupChain 6 (some lit12.group))) ∧
    ((memReq memDeep 216 1).membReqs = [lit13] ∧ lit13.group < 64 ∧ ((lit13.op = 1 ∨ lit13.op = 2) ∧ (256 ≤ lit13.member ∧ lit13.member < 384 ∨ (192 ≤ lit13.member ∧ lit13.member < 256) ∧ lit13.member ≠ 192 + lit13.group)) ∧ (memReq memDeep 216 1).r34 lit13.acc (compBase lit13.member) = true ∧ (¬((∃ x ∈ (memReq memDeep 216 1).groupChain 6 (some lit13.group), (memReq memDeep 216 1).busy (cgBase x) = true) ∨ (192 ≤ lit13.member ∧ lit13.member < 256) ∧ (memReq memDeep 216 1).busy (compBase lit13.member) = true)) ∧ lit13.op = 1 ∧ (memReq memDeep 216 1).holderOf lit13.member = none ∧ (¬((192 ≤ lit13.member ∧ lit13.member < 256) ∧ lit13.member - 192 ∈ (memReq memDeep 216 1).groupChain 6 (some lit13.group))) ∧ ((192 ≤ lit13.member ∧ lit13.member < 256) ∧ ∃ p ∈ ((memReq memDeep 216 1).groupChain 6 (some lit13.group)).zipIdx, 6 < max ((memReq memDeep 216 1).grpLevel p.1) ((memReq memDeep 216 1).grpLevel (lit13.member - 192) + 1 + p.2))) ∧
    ((memReq memDeep 217 1).membReqs = [lit14] ∧ lit14.group < 64 ∧ ((lit14.op = 1 ∨ lit14.op = 2) ∧ (256 ≤ lit14.member ∧ lit14.member < 384 ∨ (192 ≤ lit14.member ∧ lit14.member < 256) ∧ lit14.member ≠ 192 + lit14.group)) ∧ (memReq memDeep 217 1).r34 lit14.acc (compBase lit14.member) = true ∧ (¬((∃ x ∈ (memReq memDeep 217 1).groupChain 6 (some lit14.group), (memReq memDeep 217 1).busy (cgBase x) = true) ∨ (192 ≤ lit14.member ∧ lit14.member < 256) ∧ (memReq memDeep 217 1).busy (compBase lit14.member) = true)) ∧ (lit14.op = 2 ∧ (memReq memDeep 217 1).isMember lit14.group lit14.member = true ∨ lit14.op = 1 ∧ (memReq memDeep 217 1).holderOf lit14.member = none ∧ ¬((192 ≤ lit14.member ∧ lit14.member < 256) ∧ lit14.member - 192 ∈ (memReq memDeep 217 1).groupChain 6 (some lit14.group)) ∧ ¬((192 ≤ lit14.member ∧ lit14.member < 256) ∧ ∃ p ∈ ((memReq memDeep 217 1).groupChain 6 (some lit14.group)).zipIdx, 6 < max ((memReq memDeep 217 1).grpLevel p.1) ((memReq memDeep 217 1).grpLevel (lit14.member - 192) + 1 + p.2)))) :=
  ⟨⟨by simp, by unfold Takes; decide +kernel⟩,
   by decide +kernel,
   by decide +kernel,
   by decide +kernel,
   by decide +kernel,
   by decide +kernel⟩

end Sensing

namespace Halves

/-- Both halves in step, Half A active, with their rings enabled, full for Half B where `full`, and an item sampled. -/
def dualSt (role : Nat) (full : Bool) : State :=
  { ((((((rs.setFld (hreg .b Reg.Half.ROLE_STAT) 0 2 role).setFld (hreg .a Reg.Half.ROLE_STAT) 0 2 1).setHalfState .a 1).setHalfState .b 1).wrN
      (lreg .a Reg.Local.RING_CFG) 0x100).wrN (lreg .b Reg.Local.RING_CFG) 0x100).wrN (lreg .b Reg.Local.RING_RD)
        (if full then 1 else 0) with
    distQ := [{ source := 3, tsLo := 1, tsHi := 2, id := 5 }, { source := 4, tsLo := 3, tsHi := 4, id := 6 }]
    halves := [(0, { fed := some 0, line := { tx := 7 } }), (1, { gap := true })] }
/-- The same with a frame of a lower number on its way to both halves. -/
def dueFr : State := { dualSt 3 false with
                       frames := [{ id := 4, inp := 3, octs := [1], inseq := 1, copies := [{ port := 26, q := 0 }, { port := 27, q := 0 }] }] }
/-- A bark word of Half `src` for Half `h`: KIND, SEQ 9, ROLE ACTIVE. -/
def wordOf (s : State) (src : Half) (kind : Nat) (y : Bool := false) : BitVec 64 := BitVec.ofNat 64 (s.barkWord src kind 9 y)
/-- Half `h` after `m` and `n` misses on its line and network paths, its standby ready to take over. -/
def missSt (h : Half) (m n : Nat) : State :=
  ((dualSt 3 false).setBit (hreg .b Reg.Half.FO_CFG) 0 true).setHalfSt h { line := { miss := m }, net := { miss := n } }
/-- The same with the timers not yet due. -/
def earlySt : State := (dualSt 3 false).setHalfSt .b { line := { due := 900 } }
/-- The same with a standby that may not take over. -/
def missNo : State := ((dualSt 2 false)).setHalfSt .b { line := { miss := 2 }, net := { miss := 3 } }
/-- A grant to Half B has been decided. -/
def grantSt (cause role : Nat) : State :=
  { (dualSt role false).setBit (hreg .b Reg.Half.FO_CFG) 0 true with
    grant := some ⟨.b, cause⟩ }
/-- The takeover CLAIMs are due. -/
def dueSt : State := { dualSt 3 false with
                       claimDue := some (.b, true) }
/-- Half B sees both paths silent. -/
def silentSt : State := (dualSt 2 false).setBit (hreg .b Reg.Half.ROLE_STAT) 10 true
/-- Half A halted. -/
def haltSt : State := (dualSt 3 false).setHalfState .a 3
/-- Half B halted, its domain off. -/
def haltOff : State := ((dualSt 3 false).setHalfState .b 3).wr (pdcBase + Reg.Pdc.PD_CTRL + 4 * Half.b.pd) 0
/-- Both halves in step with records held at Half A. -/
def cmpSt (role : Nat) (own peer : List CmpRec) (last : Option Nat) : State :=
  (dualSt role false).setHalfSt .a { own := own, peer := peer, lastPeer := last }
/-- Half B likewise. -/
def cmpStB (role : Nat) (peer : List CmpRec) : State := ((dualSt role false).setFld (hreg .b Reg.Half.FO_CFG) 16 8 0).setHalfSt .b { peer := peer }
/-- A record is on its way to Half A. -/
def linkSt (role : Nat) (last : Option Nat) : State :=
  { cmpSt role [] [] last with
    cmpLink := [(.a, { epoch := 12, digest := 0, count := 0, close := 0 }), (.b, { epoch := 1, digest := 0, count := 0, close := 0 })] }
/-- The same with 16 records waiting. -/
def linkFull : State := (linkSt 2 (some 11)).setHalfSt .a { peer := (List.range 16).map (fun i => { epoch := 100 + i, digest := 0, count := 0, close := 0 }), lastPeer := some 11 }
/-- The timebase 1 ms on, with an epoch of Half A closed at its start. -/
def lateSt (role : Nat) (t : Nat) : State :=
  let s := cmpSt role [{ epoch := 12, digest := 0, count := 0, close := 0 }] [] none
  { s with
    time := { s.time with
              clk0 := { s.time.clk0 with
                        now := Clock.ofT16 (t * 2 ^ 16) } } }
/-- A DistItem of these witnesses. -/
def lit0 : DistItem := { source := 3, tsLo := 1, tsHi := 2, id := 5 : DistItem }
/-- A DistItem of these witnesses. -/
def lit1 : DistItem := { source := 4, tsLo := 3, tsHi := 4, id := 6 : DistItem }
/-- A Grant of these witnesses. -/
def lit2 : Grant := { half := Half.b, cause := 2 : Grant }
/-- A CmpRec of these witnesses. -/
def lit3 : CmpRec := { epoch := 12, digest := 0, count := 0, close := 0 : CmpRec }
/-- A CmpRec of these witnesses. -/
def lit4 : CmpRec := { epoch := 12, digest := 1, count := 0, close := 0 : CmpRec }

/-- The hypotheses of `Obligations.InputsAndBarks` are met, clause by clause. -/
theorem wit_InputsAndBarks :
    ((rs.distQ = [] ∧ rs.ringDue = []) ∧
    ((dualSt 3 false).distQ = [lit0, lit1] ∧ (dualSt 3 false).ringDue = []) ∧
    ((dualSt 0 false).distQ = [lit0, lit1] ∧ (dualSt 0 false).ringDue = [] ∧ (dualSt 0 false).role Half.b = roleOffline) ∧
    ((dualSt 3 false).distQ = [lit0, lit1] ∧ (dualSt 3 false).ringDue = [] ∧ ((dualSt 3 false).role Half.a ≠ roleOffline ∧ ((dualSt 3 false).halfSt Half.a).since < ((dualSt 3 false).inseq + 1) % 2 ^ 48) ∧ (¬∃ n ∈ (dualSt 3 false).framesDue Half.a ++ List.map (fun x => x.inseq) (List.filter (fun y => y.inseq != 0) ((dualSt 3 false).hostRx Half.a)), n ≤ ((dualSt 3 false).inseq + 1) % 2 ^ 48) ∧ (dualSt 3 false).bit (lreg Half.a Reg.Local.RING_CFG) 8 = true ∧ (¬((dualSt 3 false).fld (lreg Half.a Reg.Local.RING_WR) 0 16 + 1) % (dualSt 3 false).ringLen Half.a = (dualSt 3 false).fld (lreg Half.a Reg.Local.RING_RD) 0 16 % (dualSt 3 false).ringLen Half.a)) ∧
    (dueFr.distQ = [lit0, lit1] ∧ dueFr.ringDue = [] ∧ (dueFr.role Half.a ≠ roleOffline ∧ (dueFr.halfSt Half.a).since < (dueFr.inseq + 1) % 2 ^ 48) ∧ (∃ n ∈ dueFr.framesDue Half.a ++ List.map (fun x => x.inseq) (List.filter (fun y => y.inseq != 0) (dueFr.hostRx Half.a)), n ≤ (dueFr.inseq + 1) % 2 ^ 48))) ∧
    (((dualSt 2 true).distQ = [lit0, lit1] ∧ (dualSt 2 true).ringDue = [] ∧ ((dualSt 2 true).role Half.b ≠ roleOffline ∧ ((dualSt 2 true).halfSt Half.b).since < ((dualSt 2 true).inseq + 1) % 2 ^ 48) ∧ (¬∃ n ∈ (dualSt 2 true).framesDue Half.b ++ List.map (fun x => x.inseq) (List.filter (fun y => y.inseq != 0) ((dualSt 2 true).hostRx Half.b)), n ≤ ((dualSt 2 true).inseq + 1) % 2 ^ 48) ∧ (((dualSt 2 true).fld (lreg Half.b Reg.Local.RING_WR) 0 16 + 1) % (dualSt 2 true).ringLen Half.b = (dualSt 2 true).fld (lreg Half.b Reg.Local.RING_RD) 0 16 % (dualSt 2 true).ringLen Half.b ∨ (dualSt 2 true).bit (lreg Half.b Reg.Local.RING_CFG) 8 = false)) ∧
    (((dualSt 3 false).halfSt (dualSt 3 false).activeHalf).fed = some 0 ∧ (dualSt 3 false).role (dualSt 3 false).activeHalf = roleActive ∧ ((dualSt 3 false).halfSt (dualSt 3 false).activeHalf).stopped = false ∧ (dualSt 3 false).tbfNs ≤ 0 + (dualSt 3 false).feedWin (dualSt 3 false).activeHalf) ∧
    (rs.role rs.activeHalf ≠ roleActive ∨ (rs.halfSt rs.activeHalf).stopped = true ∨ (rs.halfSt rs.activeHalf).fed = none ∨ ∀ (f : ℕ), (rs.halfSt rs.activeHalf).fed = some f → f + rs.feedWin rs.activeHalf < rs.tbfNs)) ∧
    (((dualSt 3 false).barkValid Half.b true (wordOf (dualSt 3 false) Half.a 1) = true ∧ barkKind (wordOf (dualSt 3 false) Half.a 1) = 1 ∧ (wordOf (dualSt 3 false) Half.a 1).toNat.testBit 8 = false) ∧
    ((dualSt 3 false).barkValid Half.b true (wordOf (dualSt 3 false) Half.a 1 true) = true ∧ barkKind (wordOf (dualSt 3 false) Half.a 1 true) = 1 ∧ (wordOf (dualSt 3 false) Half.a 1 true).toNat.testBit 8 = true) ∧
    ((dualSt 3 false).barkValid Half.a true (wordOf (dualSt 3 false) Half.b 2) = true ∧ barkKind (wordOf (dualSt 3 false) Half.b 2) = 2 ∧ Half.a = (dualSt 3 false).activeHalf) ∧
    ((dualSt 3 false).barkValid Half.b true (wordOf (dualSt 3 false) Half.a 2) = true ∧ barkKind (wordOf (dualSt 3 false) Half.a 2) = 2 ∧ Half.b ≠ (dualSt 3 false).activeHalf) ∧
    (dualSt 3 false).barkValid Half.b true 77 = false ∧
    earlySt.tbfNs < (earlySt.path Half.b false).due ∧
    ((missSt Half.a 0 3).path Half.a false).due ≤ (missSt Half.a 0 3).tbfNs ∧
    (((missSt Half.a 0 3).path Half.a false).due ≤ (missSt Half.a 0 3).tbfNs ∧ (((missSt Half.a 0 3).path Half.a false).miss < 2 ∨ ((missSt Half.a 0 3).path Half.a !false).miss < 3))) ∧
    (((missSt Half.a 2 3).path Half.a false).due ≤ (missSt Half.a 2 3).tbfNs ∧ ((missSt Half.a 2 3).path Half.a false).miss = 2 ∧ ((missSt Half.a 2 3).path Half.a !false).miss = 3 ∧ (missSt Half.a 2 3).bit (hreg Half.a Reg.Half.ROLE_STAT) 10 = false) ∧
    (accA.master = Master.half Half.a ∧ Takes rs accA (1088421888 + Reg.Local.BARK_FEED)) :=
  ⟨by decide +kernel,
   by decide +kernel,
   by decide +kernel,
   by decide +kernel,
   by unfold Takes; decide +kernel⟩

/-- The hypotheses of `Obligations.RolesAndTakeover` are met, clause by clause. -/
theorem wit_RolesAndTakeover :
    (rs.grant = none ∧
    ((grantSt 2 3).grant = some lit2 ∧ (grantSt 2 3).role lit2.half = roleHeel ∧ (grantSt 2 3).takeoverEn lit2.half = true) ∧
    ((grantSt 2 2).grant = some lit2 ∧ ((grantSt 2 2).role lit2.half ≠ roleHeel ∨ (grantSt 2 2).takeoverEn lit2.half = false)) ∧
    rs.claimDue = none ∧
    dueSt.claimDue = some (Half.b, true)) ∧
    ((Takes (dualSt 3 false) accA (hreg Half.a Reg.Half.ROLE_CTRL) ∧ ((dualSt 3 false).asSent accA).secure = true ∧ (accA.master = Master.half (takeoverGrant (dualSt 3 false)).activeHalf ∧ Half.a = (takeoverGrant (dualSt 3 false)).activeHalf ∧ (takeoverGrant (dualSt 3 false)).role Half.a = roleActive ∧ (takeoverGrant (dualSt 3 false)).role Half.a.other = roleHeel)) ∧
    (Takes (dualSt 2 false) accA (hreg Half.a Reg.Half.ROLE_CTRL) ∧ ((dualSt 2 false).asSent accA).secure = true ∧ (¬(accA.master = Master.half (takeoverGrant (dualSt 2 false)).activeHalf ∧ Half.a = (takeoverGrant (dualSt 2 false)).activeHalf ∧ (takeoverGrant (dualSt 2 false)).role Half.a = roleActive ∧ (takeoverGrant (dualSt 2 false)).role Half.a.other = roleHeel))) ∧
    (Takes silentSt accB (hreg Half.b Reg.Half.ROLE_CTRL) ∧ (silentSt.asSent accB).secure = true ∧ ((takeoverGrant silentSt).running Half.b.other = false ∨ (takeoverGrant silentSt).peerSilentBit Half.b = true)) ∧
    (Takes (dualSt 2 false) accB (hreg Half.b Reg.Half.ROLE_CTRL) ∧ ((dualSt 2 false).asSent accB).secure = true ∧ (¬((takeoverGrant (dualSt 2 false)).running Half.b.other = false ∨ (takeoverGrant (dualSt 2 false)).peerSilentBit Half.b = true)))) ∧
    ((Takes (dualSt 3 false) accM (hreg Half.a Reg.Half.ROLE_CTRL) ∧ ((dualSt 3 false).asSent accM).secure = false) ∧
    (Takes (dualSt 0 false) accB (hreg Half.b Reg.Half.ROLE_CTRL) ∧ ((takeoverGrant (dualSt 0 false)).role Half.b = roleOffline ∧ (takeoverGrant (dualSt 0 false)).running Half.b = true ∧ Half.b ≠ (takeoverGrant (dualSt 0 false)).activeHalf)) ∧
    (Takes (dualSt 2 false) accB (hreg Half.b Reg.Half.ROLE_CTRL) ∧ (¬((takeoverGrant (dualSt 2 false)).role Half.b = roleOffline ∧ (takeoverGrant (dualSt 2 false)).running Half.b = true ∧ Half.b ≠ (takeoverGrant (dualSt 2 false)).activeHalf))) ∧
    (Takes (dualSt 2 false) accB (hreg Half.b Reg.Half.ROLE_CTRL) ∧ (dualSt 2 false).role Half.b = roleResync) ∧
    (Takes (dualSt 3 false) accB (hreg Half.b Reg.Half.ROLE_CTRL) ∧ (dualSt 3 false).role Half.b ≠ roleResync) ∧
    (Takes (dualSt 3 false) accA (hreg Half.a Reg.Hdr.UNIT_CTRL) ∧ ((dualSt 3 false).halfState Half.a = 1 ∨ (dualSt 3 false).halfState Half.a = 2)) ∧
    (Takes haltSt accA (hreg Half.a Reg.Hdr.UNIT_CTRL) ∧ haltSt.halfState Half.a ≠ 1 ∧ haltSt.halfState Half.a ≠ 2)) ∧
    (Takes haltSt accA (hreg Half.a Reg.Hdr.UNIT_CTRL) ∧ ((haltSt.halfState Half.a = 2 ∧ accA.master = Master.half Half.a ∨ haltSt.halfState Half.a = 3) ∧ haltSt.domainOn Half.a.pd = true)) ∧
    (Takes (dualSt 3 false) accA (hreg Half.a Reg.Hdr.UNIT_CTRL) ∧ (dualSt 3 false).halfState Half.a = 1) ∧
    (Takes haltOff accS (hreg Half.b Reg.Hdr.UNIT_CTRL) ∧ haltOff.halfState Half.b ≠ 1 ∧ (¬((haltOff.halfState Half.b = 2 ∧ accS.master = Master.half Half.b ∨ haltOff.halfState Half.b = 3) ∧ haltOff.domainOn Half.b.pd = true))) ∧
    Takes (dualSt 3 false) accA (hreg Half.a Reg.Hdr.UNIT_CTRL) :=
  ⟨by decide +kernel,
   by unfold Takes; decide +kernel,
   by unfold Takes; decide +kernel,
   by unfold Takes; decide +kernel⟩

/-- The hypotheses of `Obligations.Comparison` are met, clause by clause. -/
theorem wit_Comparison :
    ((∀ e ∈ rs.cmpLink, e.1 ≠ Half.a) ∧
    ((List.find? (fun e => e.1 == Half.a) (linkSt 0 none).cmpLink = some (Half.a, lit3)) ∧ (linkSt 0 none).reaction (halfSrc Half.a 8) ≤ 1 ∧ (linkSt 0 none).reaction (halfSrc Half.a 9) ≤ 1) ∧
    ((List.find? (fun e => e.1 == Half.a) (linkSt 0 none).cmpLink = some (Half.a, lit3)) ∧ (linkSt 0 none).reaction (halfSrc Half.a 8) ≤ 1 ∧ (linkSt 0 none).reaction (halfSrc Half.a 9) ≤ 1 ∧ ((linkSt 0 none).halfSt Half.a).peer.length < 16 ∧ (∀ x ∈ ((linkSt 0 none).halfSt Half.a).own, x.epoch ≠ lit3.epoch)) ∧
    ((List.find? (fun e => e.1 == Half.a) linkFull.cmpLink = some (Half.a, lit3)) ∧ linkFull.reaction (halfSrc Half.a 8) ≤ 1 ∧ linkFull.reaction (halfSrc Half.a 9) ≤ 1 ∧ ((linkFull.halfSt Half.a).peer = { epoch := 100, digest := 0, count := 0, close := 0 : CmpRec } :: List.map (fun i => { epoch := 101 + i, digest := 0, count := 0, close := 0 : CmpRec }) (List.range 15)) ∧ (linkFull.halfSt Half.a).peer.length = 16 ∧ (∀ x ∈ (linkFull.halfSt Half.a).own, x.epoch ≠ lit3.epoch)) ∧
    (rs.halfSt Half.a).own = [] ∧
    (((lateSt 3 9000).halfSt Half.a).own = [lit3] ∧ (lateSt 3 9000).tb0.nsTotal < lit3.close + (lateSt 3 9000).cmpTimeout Half.a)) ∧
    (((lateSt 3 1000000000).halfSt Half.a).own = [lit3] ∧ lit3.close + (lateSt 3 1000000000).cmpTimeout Half.a ≤ (lateSt 3 1000000000).tb0.nsTotal ∧ (lateSt 3 1000000000).reaction (halfSrc Half.a 9) ≤ 1) ∧
    ((accA.master = Master.half Half.a ∧ Takes (dualSt 0 false) accA (1088421888 + Reg.Local.CMP_EPOCH) ∧ (dualSt 0 false).reaction (halfSrc Half.a 8) ≤ 1) ∧
    (accA.master = Master.half Half.a ∧ Takes (cmpSt 3 [] [] none) accA (1088421888 + Reg.Local.CMP_EPOCH) ∧ (cmpSt 3 [] [] none).reaction (halfSrc Half.a 8) ≤ 1 ∧ (∀ y ∈ (((cmpSt 3 [] [] none).cmpWrite accA 4 (1088421888 + Reg.Local.CMP_EPOCH) 12).halfSt Half.a).peer, y.epoch ≠ (BitVec.toNat (12 : Word))))) ∧
    (accA.master = Master.half Half.a ∧ Takes (cmpSt 3 [] [lit3] none) accA (1088421888 + Reg.Local.CMP_EPOCH) ∧ (cmpSt 3 [] [lit3] none).reaction (halfSrc Half.a 8) ≤ 1 ∧ (((cmpSt 3 [] [lit3] none).cmpWrite accA 4 (1088421888 + Reg.Local.CMP_EPOCH) 12).halfSt Half.a).own = [] ∧ (((cmpSt 3 [] [lit3] none).cmpWrite accA 4 (1088421888 + Reg.Local.CMP_EPOCH) 12).halfSt Half.a).peer = [lit3] ∧ lit3.epoch = (BitVec.toNat (12 : Word)) ∧ lit3.digest = { epoch := (BitVec.toNat (12 : Word)), digest := (((cmpSt 3 [] [lit3] none).cmpWrite accA 4 (1088421888 + Reg.Local.CMP_EPOCH) 12).halfSt Half.a).crc ^^^ 4294967295, count := ((cmpSt 3 [] [lit3] none).cmpWrite accA 4 (1088421888 + Reg.Local.CMP_EPOCH) 12).rdN (lreg Half.a Reg.Local.CMP_WRITES), close := (cmpSt 3 [] [lit3] none).tb0.nsTotal : CmpRec }.digest ∧ lit3.count = { epoch := (BitVec.toNat (12 : Word)), digest := (((cmpSt 3 [] [lit3] none).cmpWrite accA 4 (1088421888 + Reg.Local.CMP_EPOCH) 12).halfSt Half.a).crc ^^^ 4294967295, count := ((cmpSt 3 [] [lit3] none).cmpWrite accA 4 (1088421888 + Reg.Local.CMP_EPOCH) 12).rdN (lreg Half.a Reg.Local.CMP_WRITES), close := (cmpSt 3 [] [lit3] none).tb0.nsTotal : CmpRec }.count) ∧
    (accA.master = Master.half Half.a ∧ Takes (cmpSt 2 [] [lit4] none) accA (1088421888 + Reg.Local.CMP_EPOCH) ∧ (cmpSt 2 [] [lit4] none).reaction (halfSrc Half.a 8) ≤ 1 ∧ (((cmpSt 2 [] [lit4] none).cmpWrite accA 4 (1088421888 + Reg.Local.CMP_EPOCH) 12).halfSt Half.a).own = [] ∧ (((cmpSt 2 [] [lit4] none).cmpWrite accA 4 (1088421888 + Reg.Local.CMP_EPOCH) 12).halfSt Half.a).peer = [lit4] ∧ lit4.epoch = (BitVec.toNat (12 : Word)) ∧ (lit4.digest ≠ { epoch := (BitVec.toNat (12 : Word)), digest := (((cmpSt 2 [] [lit4] none).cmpWrite accA 4 (1088421888 + Reg.Local.CMP_EPOCH) 12).halfSt Half.a).crc ^^^ 4294967295, count := ((cmpSt 2 [] [lit4] none).cmpWrite accA 4 (1088421888 + Reg.Local.CMP_EPOCH) 12).rdN (lreg Half.a Reg.Local.CMP_WRITES), close := (cmpSt 2 [] [lit4] none).tb0.nsTotal : CmpRec }.digest ∨ lit4.count ≠ { epoch := (BitVec.toNat (12 : Word)), digest := (((cmpSt 2 [] [lit4] none).cmpWrite accA 4 (1088421888 + Reg.Local.CMP_EPOCH) 12).halfSt Half.a).crc ^^^ 4294967295, count := ((cmpSt 2 [] [lit4] none).cmpWrite accA 4 (1088421888 + Reg.Local.CMP_EPOCH) 12).rdN (lreg Half.a Reg.Local.CMP_WRITES), close := (cmpSt 2 [] [lit4] none).tb0.nsTotal : CmpRec }.count)) ∧
    (accA.master = Master.half Half.a ∧ Takes rs accA (1088421888 + Reg.Local.CMP_BASE)) :=
  ⟨by decide +kernel,
   by decide +kernel,
   by unfold Takes; decide +kernel,
   by unfold Takes; decide +kernel,
   by unfold Takes; decide +kernel,
   by unfold Takes; decide +kernel⟩

end Halves

namespace Power

/-- Content of many kinds, as software leaves it. -/
def usedSt : State :=
  { (((((((rs.wrN (mc 5 Reg.Chan.CAL_FINE) 77).wrN (chanBase 5 + Reg.Chan.MEAS_CFG) 1).wrN (localBase 0 + Reg.Local.DIST_SEL) 7).wrN
      (intcBase 0 + 0x100) 3).wrN (pwrReg Reg.Pwr.WAKE_EN_ETH) 5).setFld (hreg .a Reg.Half.ROLE_STAT) 0 2 1).setHalfState .a 1).wrN
      (hreg .b Reg.Half.FO_CFG) 0x11 with
    inseq := 5
    activeHalf := .a
    rst := []
    wear := [(pwrReg Reg.Pwr.USER_P, 3)] }
/-- The same with the logic supply off. -/
def offSt8 : State := { usedSt with
                        supplied := false
                        rst := [.por] }
/-- The same with a reset in progress, the boot slot verified or not. -/
def inRst (r : Rst) (v : Bool) : State := { usedSt with
                                            rst := [r]
                                            verified := v }
/-- The device in state `n`, entering DOZE where `d`. -/
def devSt (n : Nat) (d : Bool) : State := { usedSt.setDevState n with
                                            dozing := d
                                            dozeExit := decide (n = 1) }
/-- PARK entry at its stage, with a request pending and tile 3 parked. -/
def parkSt (st : Nat) : State := { (((usedSt.setDevState 2).setPend 9 true).setFld (gateKey 9) 28 4 2).wr (mt 3 Reg.Tile.LEASH_STAT) 0x2000000 with
                                   parkStage := st }
/-- PARK, with or without a wake latched. -/
def parked (w : Bool) : State :=
  { usedSt.setDevState (if w then 4 else 3) with
    wakes := if w then [⟨4, 0, 9⟩] else []
    time := { stopped := true, parked := some (Clock.ofT16 999, Clock.ofT16 5, Clock.ofT16 0, 77) } }
/-- An interrupt is enabled and pending at an application core of Half A. -/
def appSt (s : State) : State := (s.wrN (srcKey .a 5) 0x10003).wrN (intcReg .a Reg.Intc.INTC_CTRL) 3
/-- PARK with the ALARM set for hour 9 of the real-time count. -/
def alarmSt : State := { parked false with
                         supplied := true }
/-- Domain or gate `k` with STATE `st`, SECURE_HOLD and PENDING. -/
def gateSt8 (k st : Nat) (hold pend : Bool) : State :=
  (((usedSt.setGateSt k st).setBit (gateKey k) 8 hold).setBit (gateKey k) 24 pend)
/-- A tile is held. -/
def heldSt : State := usedSt.wr (mt 3 Reg.Tile.LEASH_STAT) 0x50009
/-- The word USER_P0 worn. -/
def wornSt : State := { usedSt with
                        wear := [(pwrReg Reg.Pwr.USER_P, 10000000)] }
/-- The word USER_P0 about to warn. -/
def warnSt : State := { usedSt with
                        wear := [(pwrReg Reg.Pwr.USER_P, 8999999)] }
/-- A RegRow of these witnesses. -/
def lit0 : RegRow := { off := 256, acc := AccCode.rwp, reset := 0, cls := Cls.p, mask := 4294967295, cnt := 32 : RegRow }

/-- The hypotheses of `Obligations.Resets` are met, clause by clause. -/
theorem wit_Resets :
    (((usedSt.supplied = true ∧ usedSt.parking = false ∧ usedSt.rst = []) ∧ usedSt.domainOn 2 = true) ∧
    ((usedSt.supplied = true ∧ usedSt.parking = false ∧ usedSt.rst = []) ∧ usedSt.domainOn 4 = true) ∧
    ((usedSt.supplied = true ∧ usedSt.parking = false ∧ usedSt.rst = [])) ∧
    (offSt8.ks = none ∧ offSt8.supplied = false) ∧
    (usedSt.ks = none ∧ usedSt.supplied = true) ∧
    Rst.srst ∉ usedSt.rst ∧
    (Rst.por ∈ [Rst.por, Rst.srst] ∧ Rst.por ∈ (inRst Rst.por true).rst ∧ (inRst Rst.por true).verified = true) ∧
    (Rst.por ∈ [Rst.por, Rst.srst] ∧ Rst.por ∈ (inRst Rst.por false).rst ∧ (inRst Rst.por false).verified = false) ∧
    (Rst.hrst Half.b ∈ (inRst (Rst.hrst Half.b) true).rst ∧ (inRst (Rst.hrst Half.b) true).domainOn Half.b.pd = true) ∧
    Rst.crst Half.b 5 ∈ (inRst (Rst.crst Half.b 5) true).rst) ∧
    ((Takes usedSt accA (pwrReg Reg.Pwr.RST_REQ) ∧ 23101 ≠ 23100 ∧ (accA.master = Master.shep ∨ accA.secure = true ∧ accA.master = Master.half usedSt.activeHalf)) ∧
    (Takes usedSt accM (pwrReg Reg.Pwr.RST_REQ) ∧ (¬(accM.master = Master.shep ∨ accM.secure = true ∧ accM.master = Master.half usedSt.activeHalf))) ∧
    (Takes usedSt accA (pwrReg Reg.Pwr.RST_REQ) ∧ 23100 = 23100 ∧ (accA.master = Master.shep ∨ accA.secure = true ∧ accA.master = Master.half usedSt.activeHalf) ∧ (usedSt.supplied = true ∧ usedSt.parking = false ∧ usedSt.rst = [])) ∧
    (Takes usedSt accA (pwrReg Reg.Pwr.RST_REQ) ∧ 23100 = 23100 ∧ (accA.master = Master.shep ∨ accA.secure = true ∧ accA.master = Master.half usedSt.activeHalf) ∧ (usedSt.supplied = true ∧ usedSt.parking = false ∧ usedSt.rst = []) ∧ usedSt.domainOn 2 = true) ∧
    (Takes usedSt accA (pwrReg Reg.Pwr.RST_REQ) ∧ 23100 = 23100 ∧ (accA.master = Master.shep ∨ accA.secure = true ∧ accA.master = Master.half usedSt.activeHalf) ∧ (usedSt.supplied = true ∧ usedSt.parking = false ∧ usedSt.rst = []) ∧ usedSt.domainOn 4 = true)) ∧
    (Takes usedSt accA (pwrReg Reg.Pwr.RST_REQ) ∧ 23100 = 23100 ∧ (accA.master = Master.shep ∨ accA.secure = true ∧ accA.master = Master.half usedSt.activeHalf) ∧ (usedSt.supplied = true ∧ usedSt.parking = false ∧ usedSt.rst = []) ∧ 4 ≠ 7 ∧ usedSt.domainOn Half.b.pd = true) :=
  ⟨by decide +kernel,
   by unfold Takes; decide +kernel,
   by unfold Takes; decide +kernel⟩

/-- The hypotheses of `Obligations.PowerStates` are met, clause by clause. -/
theorem wit_PowerStates :
    ((devSt 0 true).dozing = true ∧
    (devSt 1 false).dozing = false ∧
    (((appSt (devSt 0 true)).appIrq Half.a = true ∨ (appSt (devSt 0 true)).appIrq Half.b = true) ∧ (appSt (devSt 0 true)).dozing = true) ∧
    (((appSt (devSt 1 false)).appIrq Half.a = true ∨ (appSt (devSt 1 false)).appIrq Half.b = true) ∧ (appSt (devSt 1 false)).dozing = false ∧ (appSt (devSt 1 false)).devState = 1) ∧
    (((devSt 1 false).appIrq Half.a = false ∧ (devSt 1 false).appIrq Half.b = false ∨ (devSt 1 false).dozing = false ∧ (devSt 1 false).devState ≠ 1)) ∧
    ((parkSt 0).devState = 2 ∧ (parkSt 0).parkStage = 0) ∧
    ((parkSt 1).devState ≠ 2 ∨ (parkSt 1).parkStage ≠ 0) ∧
    ((parkSt 1).devState = 2 ∧ (parkSt 1).parkStage = 1) ∧
    ((parkSt 0).devState ≠ 2 ∨ (parkSt 0).parkStage ≠ 1) ∧
    (((parked false).supplied = true ∧ ((parked false).devState = 2 ∧ (parked false).parkStage = 1 ∨ (parked false).devState = 3 ∨ (parked false).devState = 4)) ∧ ((parked false).wakeOn 4 0 = true ∧ (4 = 5 → (parked false).alarmAt 9 = true)) ∧ (parked false).wakes = [])) ∧
    (((¬((parked false).supplied = true ∧ ((parked false).devState = 2 ∧ (parked false).parkStage = 1 ∨ (parked false).devState = 3 ∨ (parked false).devState = 4)) ∨ ¬((parked false).wakeOn 5 0 = true ∧ (5 = 5 → (parked false).alarmAt 9 = true)))) ∧
    ((parked false).wakes = [] ∨ (parked false).devState ≠ 4 ∨ (parked false).time.parked = none) ∧
    ((parked true).wakes ≠ [] ∧ (parked true).devState = 4 ∧ (parked true).time.parked = some (Clock.ofT16 999, Clock.ofT16 5, Clock.ofT16 0, 77)) ∧
    usedSt.supplied = true ∧
    (usedSt.supplied = true ∧ usedSt.reaction 37 ≤ 1) ∧
    offSt8.supplied = false) ∧
    (Takes (devSt 0 false) accA (pwrReg Reg.Pwr.STATE_REQ) ∧ ((devSt 0 false).asSent accA).secure = true ∧ (devSt 0 false).devState = 0 ∧ (devSt 0 false).dozing = false) ∧
    (Takes (devSt 1 false) accA (pwrReg Reg.Pwr.STATE_REQ) ∧ ((devSt 1 false).asSent accA).secure = true ∧ (devSt 1 false).devState = 1 ∧ (devSt 1 false).dozing = false) ∧
    (Takes (devSt 2 false) accA (pwrReg Reg.Pwr.STATE_REQ) ∧ ((devSt 2 false).asSent accA).secure = true ∧ ((devSt 2 false).devState = 2 ∨ (devSt 2 false).devState = 4) ∧ (devSt 2 false).dozing = false) ∧
    (Takes (devSt 0 true) accA (pwrReg Reg.Pwr.STATE_REQ) ∧ ((devSt 0 true).asSent accA).secure = true ∧ (devSt 0 true).dozing = true) ∧
    (Takes (devSt 0 true) accM (pwrReg Reg.Pwr.STATE_REQ) ∧ ((devSt 0 true).asSent accM).secure = false) :=
  ⟨by decide +kernel,
   by decide +kernel,
   by unfold Takes; decide +kernel⟩

/-- The hypotheses of `Obligations.DomainsAndPersistence` are met, clause by clause. -/
theorem wit_DomainsAndPersistence :
    (usedSt.gateSt 9 < 2 ∧
    (gateSt8 9 3 false false).gateSt 9 = 3 ∧
    (gateSt8 9 2 false false).gateSt 9 = 2 ∧
    (usedSt.supplied = true ∧ (usedSt.worn (pwrReg (if usedSt.devState = 3 ∨ usedSt.devState = 4 then Reg.Pwr.LIFE_PARK_H else Reg.Pwr.LIFE_OP_H)) = false) ∧ (usedSt.rdN (pwrReg (if usedSt.devState = 3 ∨ usedSt.devState = 4 then Reg.Pwr.LIFE_PARK_H else Reg.Pwr.LIFE_OP_H)) < 4294967295))) ∧
    ((Takes usedSt accA (gateKey 1) ∧ 1 < 2) ∧
    (Takes (gateSt8 9 2 false false) accA (gateKey 9) ∧ 2 ≤ 9 ∧ 2 ≤ (gateSt8 9 2 false false).gateSt 9) ∧
    (Takes usedSt accA (gateKey 2) ∧ 2 ≤ 2 ∧ usedSt.gateSt 2 < 2 ∧ (2 ∈ usedSt.activeHalf.pds ∨ 2 = 6 ∧ (usedSt.role usedSt.standby = roleHeel ∨ usedSt.role usedSt.standby = roleResync))) ∧
    (Takes usedSt accA (gateKey 6) ∧ 2 ≤ 6 ∧ usedSt.gateSt 6 < 2 ∧ (¬(6 ∈ usedSt.activeHalf.pds ∨ 6 = 6 ∧ (usedSt.role usedSt.standby = roleHeel ∨ usedSt.role usedSt.standby = roleResync))) ∧ (((pdUsers 6).any fun j => usedSt.gateSt j != 0) = true)) ∧
    (Takes (gateSt8 3 0 false false) accA (gateKey 2) ∧ 2 ≤ 2 ∧ (gateSt8 3 0 false false).gateSt 2 < 2 ∧ (((pdNeeds 2).any fun j => (gateSt8 3 0 false false).gateSt j != 1) = true)) ∧
    (Takes heldSt accA (gateKey 11) ∧ 2 ≤ 11 ∧ heldSt.gateSt 11 < 2 ∧ 11 = 11 ∧ (∃ m < 8, heldSt.mirState m = 1)) ∧
    (Takes (gateSt8 9 0 false false) accA (gateKey 9) ∧ 2 ≤ 9 ∧ (gateSt8 9 0 false false).gateSt 9 < 2 ∧ (((pdNeeds 9).any fun j => (gateSt8 9 0 false false).gateSt j != 1) = false) ∧ (gateSt8 9 0 false false).gateSt 9 = 0 ∧ (gateSt8 9 0 false false).bit (gateKey 9) 24 = false)) ∧
    ((Takes usedSt accA (gateKey 9) ∧ 2 ≤ 9 ∧ usedSt.gateSt 9 < 2 ∧ (((pdNeeds 9).any fun j => usedSt.gateSt j != 1) = false) ∧ usedSt.gateSt 9 = 1 ∧ usedSt.bit (gateKey 9) 24 = false) ∧
    (Takes usedSt accA (gateKey 4) ∧ 2 ≤ 4 ∧ usedSt.gateSt 4 < 2 ∧ (¬(4 ∈ usedSt.activeHalf.pds ∨ 4 = 6 ∧ (usedSt.role usedSt.standby = roleHeel ∨ usedSt.role usedSt.standby = roleResync))) ∧ (((pdUsers 4).any fun j => usedSt.gateSt j != 0) = false) ∧ (4 = 11 → ∀ m < 8, usedSt.mirState m ≠ 1) ∧ usedSt.gateSt 4 = 1 ∧ ((usedSt.asSent accA).secure = true ∨ usedSt.held 4 = false)) ∧
    (Takes (gateSt8 9 1 true false) accM (gateKey 9) ∧ 2 ≤ 9 ∧ (gateSt8 9 1 true false).gateSt 9 < 2 ∧ (¬(9 ∈ (gateSt8 9 1 true false).activeHalf.pds ∨ 9 = 6 ∧ ((gateSt8 9 1 true false).role (gateSt8 9 1 true false).standby = roleHeel ∨ (gateSt8 9 1 true false).role (gateSt8 9 1 true false).standby = roleResync))) ∧ (((pdUsers 9).any fun j => (gateSt8 9 1 true false).gateSt j != 0) = false) ∧ (9 = 11 → ∀ m < 8, (gateSt8 9 1 true false).mirState m ≠ 1) ∧ (gateSt8 9 1 true false).gateSt 9 = 1 ∧ ((gateSt8 9 1 true false).asSent accM).secure = false ∧ (gateSt8 9 1 true false).held 9 = true ∧ (gateSt8 9 1 true false).bit (gateKey 9) 24 = false)) ∧
    ((Takes usedSt accA (gateKey (12 + 3)) ∧ usedSt.bit (gateKey (12 + 3)) 24 = false) ∧
    (Takes usedSt accA (gateKey (12 + 3)) ∧ usedSt.bit (gateKey (12 + 3)) 24 = false ∧ ((usedSt.asSent accA).secure = true ∨ usedSt.held (12 + 3) = false)) ∧
    (Takes usedSt accA (gateKey 15) ∧ usedSt.bit (gateKey 15) 24 = false ∧ ((usedSt.asSent accA).secure = true ∨ usedSt.held 15 = true)) ∧
    (Takes usedSt accM (gateKey 9) ∧ usedSt.bit (gateKey 9) 24 = false ∧ (usedSt.asSent accM).secure = false ∧ usedSt.held 9 ≠ true) ∧
    (Takes usedSt accA (pwrReg Reg.Pwr.USER_P) ∧ accA.page (pwrReg Reg.Pwr.USER_P) = some (Page.own PageKind.pwr 0 pwrBase) ∧ (Page.own PageKind.pwr 0 pwrBase).row (pwrReg Reg.Pwr.USER_P % 4096) = some (lit0, 0) ∧ lit0.acc = AccCode.rwp ∧ (Page.own PageKind.pwr 0 pwrBase).kind = PageKind.pwr ∧ usedSt.worn ((Page.own PageKind.pwr 0 pwrBase).base + pwrReg Reg.Pwr.USER_P % 4096) = false)) ∧
    (Takes wornSt accA (pwrReg Reg.Pwr.USER_P) ∧ accA.page (pwrReg Reg.Pwr.USER_P) = some (Page.own PageKind.pwr 0 pwrBase) ∧ (Page.own PageKind.pwr 0 pwrBase).row (pwrReg Reg.Pwr.USER_P % 4096) = some (lit0, 0) ∧ lit0.acc = AccCode.rwp ∧ (Page.own PageKind.pwr 0 pwrBase).kind = PageKind.pwr ∧ wornSt.worn ((Page.own PageKind.pwr 0 pwrBase).base + pwrReg Reg.Pwr.USER_P % 4096) = true ∧ accA.master = Master.half Half.a) :=
  ⟨by decide +kernel,
   by unfold Takes; decide +kernel,
   by unfold Takes; decide +kernel,
   by unfold Takes; decide +kernel,
   by unfold Takes; decide +kernel⟩

end Power

namespace Errors

/-- Half A active, the reaction of source `src` set to `r`. -/
def safeSt (src r : Nat) : State :=
  { (((rs.setFld (safeReg Reg.Safe.REACT0 + 4 * (src / 8)) (4 * (src % 8)) 3 r).setFld (hreg .a Reg.Half.ROLE_STAT) 0 2 1).setFld
      (hreg .b Reg.Half.ROLE_STAT) 0 2 3).setBit (hreg .a Reg.Half.ROLE_STAT) 7 true with
    rst := []
    ceCount := [(0, 70000)] }
/-- Pair `x` with LS_STAT `v` and SCRUB_PERIOD `p`. -/
def pairSt (x v p : Nat) : State := ((safeSt (halfSrc (pairHalf x) (x % 3)) 1).wrN (lspReg x Reg.Lsp.LS_STAT) v).wrN (lspReg x Reg.Lsp.LS_CFG) p
/-- Pair 4's page normal-world. -/
def openSt : State := (pairSt 4 0 0).wrN (lspReg 4 Reg.Hdr.OWNER) 0x200
/-- Half A's domain off. -/
def offA : State := rs.wr (pdcBase + Reg.Pdc.PD_CTRL + 4 * Half.a.pd) 0

/-- The hypotheses of `Obligations.ErrorsAndScrubs` are met, clause by clause (part 1 of 2). -/
theorem wit_ErrorsAndScrubs_1 :
    ((srcNamed 12 = false ∨ rs.supplied = false ∨ rs.devState = 3 ∨ rs.devState = 4) ∧
    (srcNamed 6 = true ∧ ((safeSt 6 0).supplied = true ∧ (safeSt 6 0).devState ≠ 3 ∧ (safeSt 6 0).parking = false)) ∧
    (srcNamed 6 = true ∧ ((safeSt 6 0).supplied = true ∧ (safeSt 6 0).devState ≠ 3 ∧ (safeSt 6 0).parking = false) ∧ (safeSt 6 0).reaction 6 ≤ 1) ∧
    (srcNamed 6 = true ∧ ((safeSt 6 5).supplied = true ∧ (safeSt 6 5).devState ≠ 3 ∧ (safeSt 6 5).parking = false) ∧ (safeSt 6 5).reaction 6 = 5 ∧ (safeSt 6 5).rst = []) ∧
    (srcNamed 6 = true ∧ ((safeSt 6 4).supplied = true ∧ (safeSt 6 4).devState ≠ 3 ∧ (safeSt 6 4).parking = false) ∧ srcHalf 6 = some Half.a ∧ (safeSt 6 4).reaction 6 = 4 ∧ (safeSt 6 4).rst = [] ∧ (safeSt 6 4).domainOn Half.a.pd = true) ∧
    (srcNamed 6 = true ∧ ((safeSt 6 3).supplied = true ∧ (safeSt 6 3).devState ≠ 3 ∧ (safeSt 6 3).parking = false) ∧ srcHalf 6 = some Half.a ∧ (safeSt 6 3).reaction 6 = 3 ∧ (safeSt 6 3).role Half.a = roleActive ∧ Half.a = (safeSt 6 3).activeHalf) ∧
    (srcNamed 22 = true ∧ ((safeSt 22 3).supplied = true ∧ (safeSt 22 3).devState ≠ 3 ∧ (safeSt 22 3).parking = false) ∧ srcHalf 22 = some Half.b ∧ (safeSt 22 3).reaction 22 = 3 ∧ (safeSt 22 3).role Half.b = roleHeel)) ∧
    ((((pairSt 4 2 0).frozen 4 = true ∨ (pairSt 4 2 0).domainOn (pairHalf 4).pd = false ∨ (pairSt 4 2 0).supplied = false ∨ 3 = 6 ∧ (pairSt 4 2 0).bit (lspReg 4 Reg.Lsp.LS_STAT) 0 = false)) ∧
    ((pairSt 4 0 0).frozen 4 = false ∧ (pairSt 4 0 0).domainOn (pairHalf 4).pd = true ∧ (pairSt 4 0 0).supplied = true ∧ 3 < 6) ∧
    ((pairSt 4 0 0).frozen 4 = false ∧ (pairSt 4 0 0).domainOn (pairHalf 4).pd = true ∧ (pairSt 4 0 0).supplied = true ∧ 6 ≤ 7) ∧
    (5 ≠ 6 ∧ ((pairSt 4 0 0).supplied = true ∧ (pairSt 4 0 0).devState ≠ 3 ∧ (pairSt 4 0 0).parking = false) ∧ (pairSt 4 0 0).domainOn (pairHalf 4).pd = true ∧ (pairSt 4 0 0).frozen 4 = false ∧ (3 ≠ 6 ∨ (pairSt 4 0 0).bit (lspReg 4 Reg.Lsp.LS_STAT) 0 = true) ∧ (pairSt 4 0 0).reaction (halfSrc (pairHalf 4) (4 % 3)) ≤ 2) ∧
    (5 ≠ 6 ∧ ((pairSt 4 0 0).supplied = true ∧ (pairSt 4 0 0).devState ≠ 3 ∧ (pairSt 4 0 0).parking = false) ∧ (pairSt 4 0 0).domainOn (pairHalf 4).pd = true ∧ (pairSt 4 0 0).frozen 4 = false ∧ (3 ≠ 6 ∨ (pairSt 4 0 0).bit (lspReg 4 Reg.Lsp.LS_STAT) 0 = true) ∧ (pairSt 4 0 0).reaction (halfSrc (pairHalf 4) (4 % 3)) ≤ 1)) ∧
    ((((pairSt 4 0 0).supplied = true ∧ (pairSt 4 0 0).devState ≠ 3 ∧ (pairSt 4 0 0).parking = false) ∧ (pairSt 4 0 0).domainOn (pairHalf 4).pd = true) ∧
    (((safeSt 19 1).supplied = true ∧ (safeSt 19 1).devState ≠ 3 ∧ (safeSt 19 1).parking = false) ∧ (safeSt 19 1).domainOn (pairHalf 4).pd = true ∧ (safeSt 19 1).reaction (halfSrc (pairHalf 4) 3) ≤ 1)) ∧
    (Takes (safeSt 6 1) accA (safeReg Reg.Safe.INJECT) ∧ (15524 ≠ 15525 ∨ srcNamed 6 = false)) ∧
    (Takes (safeSt 6 4) accA (safeReg Reg.Safe.INJECT) ∧ 15525 = 15525 ∧ srcNamed 6 = true ∧ ((safeSt 6 4).supplied = true ∧ (safeSt 6 4).devState ≠ 3 ∧ (safeSt 6 4).parking = false)) :=
  ⟨by decide +kernel,
   by decide +kernel,
   by decide +kernel,
   by unfold Takes; decide +kernel⟩

/-- The hypotheses of `Obligations.ErrorsAndScrubs` are met, clause by clause (part 2 of 2). -/
theorem wit_ErrorsAndScrubs_2 :
    (offA.domainOn (pairHalf 1).pd = false ∧
    ((pairSt 4 0 5).bit (lspReg 4 Reg.Lsp.LS_STAT) 0 = false ∧ (pairSt 4 0 5).frozen 4 = false ∧ (pairSt 4 0 5).supplied = true ∧ (pairSt 4 0 5).domainOn (pairHalf 4).pd = true ∧ (pairSt 4 0 5).fld (lspReg 4 Reg.Lsp.LS_CFG) 0 20 ≠ 0) ∧
    ((pairSt 4 2 5).bit (lspReg 4 Reg.Lsp.LS_STAT) 0 = true ∨ (pairSt 4 2 5).frozen 4 = true) ∧
    (pairSt 4 0 0).fld (lspReg 4 Reg.Lsp.LS_CFG) 0 20 = 0 ∧
    (pairSt 4 0 0).bit (lspReg 4 Reg.Lsp.LS_STAT) 0 = false ∧
    ((pairSt 4 1 0).bit (lspReg 4 Reg.Lsp.LS_STAT) 0 = true ∧ scrubDigest [5] = scrubDigest [5]) ∧
    ((pairSt 4 1 0).bit (lspReg 4 Reg.Lsp.LS_STAT) 0 = true ∧ scrubDigest [5] ≠ scrubDigest [6] ∧ ((pairSt 4 1 0).supplied = true ∧ (pairSt 4 1 0).devState ≠ 3 ∧ (pairSt 4 1 0).parking = false) ∧ (pairSt 4 1 0).reaction (halfSrc (pairHalf 4) (4 % 3)) ≤ 2) ∧
    (((safeSt 10 1).supplied = true ∧ (safeSt 10 1).devState ≠ 3 ∧ (safeSt 10 1).parking = false) ∧ (safeSt 10 1).bit (hreg Half.a Reg.Half.ROLE_STAT) 7 = true) ∧
    (((safeSt 10 1).supplied = true ∧ (safeSt 10 1).devState ≠ 3 ∧ (safeSt 10 1).parking = false) ∧ (safeSt 10 1).bit (hreg Half.b Reg.Half.ROLE_STAT) 7 = false)) ∧
    ((((safeSt 6 1).supplied = true ∧ (safeSt 6 1).devState ≠ 3 ∧ (safeSt 6 1).parking = false) ∧ (safeSt 6 1).fld (safeReg Reg.Safe.CE_CFG) 0 16 < Tbl.get 0 (safeSt 6 1).ceCount Half.a.idx) ∧
    (((safeSt 6 1).supplied = true ∧ (safeSt 6 1).devState ≠ 3 ∧ (safeSt 6 1).parking = false) ∧ Tbl.get 0 (safeSt 6 1).ceCount Half.b.idx ≤ (safeSt 6 1).fld (safeReg Reg.Safe.CE_CFG) 0 16) ∧
    (((safeSt 7 1).supplied = true ∧ (safeSt 7 1).devState ≠ 3 ∧ (safeSt 7 1).parking = false))) ∧
    ((pairSt 4 0 0).bit (lspReg 4 Reg.Lsp.LS_STAT) 0 = false ∧ (pairSt 4 0 0).frozen 4 = false ∧ (pairSt 4 0 0).supplied = true ∧ (pairSt 4 0 0).domainOn (pairHalf 4).pd = true ∧ Takes (pairSt 4 0 0) accB (lspReg 4 Reg.Lsp.SCRUB_GO)) ∧
    (((pairSt 4 1 0).bit (lspReg 4 Reg.Lsp.LS_STAT) 0 = true ∨ (pairSt 4 1 0).frozen 4 = true) ∧ Takes (pairSt 4 1 0) accB (lspReg 4 Reg.Lsp.SCRUB_GO)) ∧
    (Takes (pairSt 4 0 0) accB (lspReg 4 Reg.Lsp.INJECT) ∧ ((pairSt 4 0 0).asSent accB).secure = true ∧ (3 < 8 ∧ 3 ≠ 6 ∧ (pairSt 4 0 0).frozen 4 = false ∧ (pairSt 4 0 0).supplied = true ∧ (pairSt 4 0 0).domainOn (pairHalf 4).pd = true)) ∧
    (Takes (pairSt 4 0 0) accB (lspReg 4 Reg.Lsp.INJECT) ∧ ((pairSt 4 0 0).asSent accB).secure = true ∧ (¬(6 < 8 ∧ 6 ≠ 6 ∧ (pairSt 4 0 0).frozen 4 = false ∧ (pairSt 4 0 0).supplied = true ∧ (pairSt 4 0 0).domainOn (pairHalf 4).pd = true))) ∧
    (Takes openSt accBM (lspReg 4 Reg.Lsp.INJECT) ∧ (openSt.asSent accBM).secure = false) :=
  ⟨by decide +kernel,
   by decide +kernel,
   by unfold Takes; decide +kernel⟩

end Errors

namespace Fabric

/-- 64 octets for the station 02:00:00:00:00:05 of an untagged frame, without a good FCS. -/
def octs64 : List Nat := [2, 0, 0, 0, 0, 5, 2, 0, 0, 0, 0, 9, 8, 0] ++ List.replicate 50 0
/-- Port 3 and 7 up; station 5 of VID 1 behind port 7. -/
def fabSt (known : Bool) : State :=
  { (((((rs.setBit (portBase 3 + Reg.Port.PORT_STAT) 0 true).setBit (portBase 7 + Reg.Port.PORT_STAT) 0 true).setGateSt 15 0).wrN
      (fwdReg Reg.Fwd.IN_CFG + 12) 1).wrN (qReg 7 0 Reg.Eq.QCFG) 0x20).setFld (portBase 7 + Reg.Port.PORT_STAT) 16 16 1000 with
    fdb := if known then [(9, [5, 0x80010200, word (2 ^ 7), 0])] else [] }
/-- A frame of port 3 with the copies `l`. -/
def frSt (sent : Nat) (ended : Bool) (l : List Copy) : State :=
  { fabSt true with
    frames := [{ id := 4, inp := 3, octs := octs64, arrived := 1, sent := sent, ended := ended, whole := ended, copies := l }] }
/-- The fabric domain off. -/
def fabOff : State := rs.setGateSt 6 0
/-- A frame at the head of queue 0 of port 7 whose domain stalled. -/
def lateFr (pol : Bool) : State :=
  { (((fabSt true).setBit (qReg 7 0 Reg.Eq.QCFG) qLt true).setBit (qReg 7 0 Reg.Eq.QCFG) qLatePol pol) with
    doms := [(2, { st := .stalled })]
    frames := [{ id := 4, inp := 3, octs := octs64, launch := some ⟨1, 2, 0, 0⟩, copies := [{ port := 7, q := 0, headAt := some 0 }, { port := 8, q := 1 }] }] }
/-- 64 octets of a frame and its FCS. -/
def good68 : List Nat := withFcs (octs64 ++ [0, 0, 0, 0])
/-- A frame too short so far. -/
def shortFr : State := { fabSt true with
                         frames := [{ id := 4, inp := 3, octs := [1, 2, 3] }] }
/-- The shadow of the reservation table with one entry, or with one that names its own input; a commit pending. -/
def rsvSt (bad pend : Bool) : State :=
  ((rs.wrN (frsvReg Reg.Frsv.SHADOW + 32) (if bad then 0x8100 else 0x8500)).wrN (frsvReg Reg.Frsv.ACTIVE + 64) 0x86).setBit
    (frsvReg Reg.Frsv.RSV_STAT) 30 pend
/-- A Copy of these witnesses. -/
def lit0 : Copy := { port := 7, q := 0 : Copy }
/-- A Copy of these witnesses. -/
def lit1 : Copy := { port := 7, q := 0, got := [0] : Copy }
/-- A Copy of these witnesses. -/
def lit2 : Copy := { port := 7, q := 0, passed := 1, begun := true : Copy }
/-- A Copy of these witnesses. -/
def lit3 : Copy := { port := 7, q := 0, headAt := some 0 : Copy }
/-- A Copy of these witnesses. -/
def lit4 : Copy := { port := 8, q := 1 : Copy }
/-- A Launch of these witnesses. -/
def lit5 : Launch := { mode := 1, dom := 2, phase := 0, cyc := 0 : Launch }
/-- A Frame of these witnesses. -/
def lit6 : Frame := { id := 4, inp := 3, octs := octs64, sent := 1 : Frame }
/-- A Frame of these witnesses. -/
def lit7 : Frame := { id := 4, inp := 3, octs := [1, 2, 3] : Frame }

/-- The hypotheses of `Obligations.FabricAndEgress` are met, clause by clause (part 1 of 2). -/
theorem wit_FabricAndEgress_1 :
    (((fabOff.domainOn 6 = false ∨ fabOff.portUp 3 = false ∨ 3 = 26 ∧ fabOff.hostTxA = [] ∨ 3 = 27 ∧ fabOff.hostTxB = [] ∨ 3 = 28 ∧ fabOff.gwTx = [] ∨ fabOff.msOn 3 = true ∧ fabOff.gated 1 = true)) ∧
    (3 < 26 ∧ (fabSt false).domainOn 6 = true ∧ (fabSt false).portUp 3 = true ∧ (fabSt false).frames = [] ∧ (fabSt false).sfs = [] ∧ (fabSt false).gated 3 = true ∧ ((fabSt false).msOn 3 = false ∨ (fabSt false).gated 1 = false) ∧ (fabSt false).fdbFind (be (List.take 64 (clean octs64)) 0 6) ((fabSt false).vidPcp 3 (List.take 64 (clean octs64))).1 = none ∧ isLinkLocal (be (List.take 64 (clean octs64)) 0 6) = false ∧ (fabSt false).bit (fwdReg Reg.Fwd.IN_CFG + 4 * 3) 17 = false ∧ ((fabSt false).vidPcp 3 (List.take 64 (clean octs64))).1 < 4095)) ∧
    ((3 < 26 ∧ (fabSt true).domainOn 6 = true ∧ (fabSt true).portUp 3 = true ∧ (fabSt true).frames = [] ∧ (fabSt true).sfs = [] ∧ (fabSt true).gated 3 = true ∧ ((fabSt true).msOn 3 = false ∨ (fabSt true).gated 1 = false) ∧ (fabSt true).fdbFind (be (List.take 64 (clean octs64)) 0 6) ((fabSt true).vidPcp 3 (List.take 64 (clean octs64))).1 = some 9 ∧ ((fabSt true).vidPcp 3 (List.take 64 (clean octs64))).1 < 4095 ∧ entWord ((fabSt true).fdbEnt 9) 2 = word (2 ^ 7) ∧ entWord ((fabSt true).fdbEnt 9) 3 = 0 ∧ 7 ≠ 3 ∧ (fabSt true).admits 7 ((fabSt true).vidPcp 3 (List.take 64 (clean octs64))).2 = Admit.ok ∧ (fabSt true).qcfg 7 ((fabSt true).vidPcp 3 (List.take 64 (clean octs64))).2 qRsv = false) ∧
    fabOff.domainOn 6 = false ∧
    (rs.domainOn 6 = true ∧ rs.frames = [])) ∧
    (((frSt 0 false [lit0]).domainOn 6 = true ∧ (frSt 0 false [lit0]).frames = [{ id := 4, inp := 3, octs := octs64, copies := [lit0] : Frame }] ∧ { id := 4, inp := 3, octs := octs64, copies := [lit0] : Frame }.rsv = false ∧ { id := 4, inp := 3, octs := octs64, copies := [lit0] : Frame }.inp < 29 ∧ { id := 4, inp := 3, octs := octs64, copies := [lit0] : Frame }.copies ≠ [] ∧ { id := 4, inp := 3, octs := octs64, copies := [lit0] : Frame }.sent < { id := 4, inp := 3, octs := octs64, copies := [lit0] : Frame }.arrived ∧ (∀ c ∈ { id := 4, inp := 3, octs := octs64, copies := [lit0] : Frame }.copies, c.begun = false) ∧ ({ id := 4, inp := 3, octs := octs64, copies := [lit0] : Frame }.base = none ∧ { id := 4, inp := 3, octs := octs64, copies := [lit0] : Frame }.held = []) ∧ (frSt 0 false [lit0]).bufFree ≠ 0) ∧
    (∀ q < 8, rs.headOf 7 q = none)) ∧
    ((0 < 8 ∧ (frSt 1 true [lit1]).headOf 7 0 = some ({ id := 4, inp := 3, octs := octs64, whole := true, ended := true, sent := 1, copies := [lit1] : Frame }, lit1) ∧ (∀ r < 8, 0 < r → (frSt 1 true [lit1]).headOf 7 r = none) ∧ (frSt 1 true [lit1]).portTakes 7 0 = true ∧ (frSt 1 true [lit1]).timely { id := 4, inp := 3, octs := octs64, whole := true, ended := true, sent := 1, copies := [lit1] : Frame } lit1 = true ∧ (frSt 1 true [lit1]).startOk { id := 4, inp := 3, octs := octs64, whole := true, ended := true, sent := 1, copies := [lit1] : Frame } lit1 = true ∧ (frSt 1 true [lit1]).guardHolds { id := 4, inp := 3, octs := octs64, whole := true, ended := true, sent := 1, copies := [lit1] : Frame } lit1 = false ∧ (frSt 1 true [lit1]).msOn 7 = false) ∧
    (∀ f ∈ rs.frames, ∀ c ∈ f.copies, c.port ≠ 7 ∨ c.begun = false)) ∧
    (((frSt 1 true [lit2]).frames = [{ id := 4, inp := 3, octs := octs64, whole := true, ended := true, sent := 1, copies := [lit2] : Frame }] ∧ { id := 4, inp := 3, octs := octs64, whole := true, ended := true, sent := 1, copies := [lit2] : Frame }.copies = [lit2] ∧ lit2.port = 7 ∧ lit2.begun = true ∧ lit2.bad = false ∧ { id := 4, inp := 3, octs := octs64, whole := true, ended := true, sent := 1, copies := [lit2] : Frame }.ended = true ∧ lit2.overran = false ∧ { id := 4, inp := 3, octs := octs64, whole := true, ended := true, sent := 1, copies := [lit2] : Frame }.total = some 1 ∧ 1 ≤ lit2.passed ∧ lit2.q < 8) ∧
    rs.headOf 7 0 = none ∧
    ((frSt 1 true [lit1]).frames = [{ id := 4, inp := 3, octs := octs64, whole := true, ended := true, sent := 1, copies := [lit1] : Frame }] ∧ (frSt 1 true [lit1]).headOf 7 0 = some ({ id := 4, inp := 3, octs := octs64, whole := true, ended := true, sent := 1, copies := [lit1] : Frame }, lit1) ∧ (frSt 1 true [lit1]).isLate { id := 4, inp := 3, octs := octs64, whole := true, ended := true, sent := 1, copies := [lit1] : Frame } lit1 = false)) ∧
    (((lateFr true).frames = [{ id := 4, inp := 3, octs := octs64, copies := [lit3, lit4], launch := some lit5 : Frame }] ∧ (lateFr true).headOf 7 0 = some ({ id := 4, inp := 3, octs := octs64, copies := [lit3, lit4], launch := some lit5 : Frame }, lit3) ∧ (lateFr true).isLate { id := 4, inp := 3, octs := octs64, copies := [lit3, lit4], launch := some lit5 : Frame } lit3 = true ∧ (lateFr true).qcfg 7 0 qLatePol = true) ∧
    ((lateFr false).frames = [{ id := 4, inp := 3, octs := octs64, copies := [lit3, lit4], launch := some lit5 : Frame }] ∧ (lateFr false).headOf 7 0 = some ({ id := 4, inp := 3, octs := octs64, copies := [lit3, lit4], launch := some lit5 : Frame }, lit3) ∧ (lateFr false).isLate { id := 4, inp := 3, octs := octs64, copies := [lit3, lit4], launch := some lit5 : Frame } lit3 = true ∧ (lateFr false).qcfg 7 0 qLatePol = false) ∧
    (∀ f ∈ rs.frames, f.inp ≠ 3 ∨ f.pmac ≠ false ∨ f.ended = true)) ∧
    (((frSt 1 false []).frames = [lit6] ∧ lit6.inp = 3 ∧ lit6.pmac = false ∧ lit6.ended = false ∧ lit6.whole = false ∧ lit6.filt = none ∧ lit6.sample = none ∧ lit6.copies = [] ∧ (frSt 1 false []).msOn 3 = false ∧ (¬((lit6.octs ++ clean []).length < 64 ∨ (frSt 1 false []).fld (portBase 3 + Reg.Port.MAC_CFG) 0 14 < (lit6.octs ++ clean []).length))) ∧
    ((frSt 1 false []).frames = [lit6] ∧ lit6.inp = 3 ∧ lit6.pmac = false ∧ lit6.ended = false ∧ lit6.whole = false ∧ lit6.filt = none ∧ lit6.sample = none ∧ lit6.copies = [] ∧ (frSt 1 false []).msOn 3 = false ∧ (¬((lit6.octs ++ clean [1, 2]).length < 64 ∨ (frSt 1 false []).fld (portBase 3 + Reg.Port.MAC_CFG) 0 14 < (lit6.octs ++ clean [1, 2]).length)) ∧ (true = true ∨ fcsGood (lit6.octs ++ clean [1, 2]) = false))) ∧
    ((frSt 1 false []).frames = [lit6] ∧ lit6.inp = 3 ∧ lit6.pmac = false ∧ lit6.ended = false ∧ lit6.whole = false ∧ lit6.filt = none ∧ lit6.sample = none ∧ lit6.copies = [] ∧ (frSt 1 false []).msOn 3 = false ∧ (¬((lit6.octs ++ clean (List.drop 64 good68)).length < 64 ∨ (frSt 1 false []).fld (portBase 3 + Reg.Port.MAC_CFG) 0 14 < (lit6.octs ++ clean (List.drop 64 good68)).length)) ∧ false = false ∧ fcsGood (lit6.octs ++ clean (List.drop 64 good68)) = true) ∧
    (shortFr.frames = [lit7] ∧ lit7.inp = 3 ∧ lit7.pmac = false ∧ lit7.ended = false ∧ lit7.whole = false ∧ lit7.filt = none ∧ lit7.sample = none ∧ lit7.copies = [] ∧ shortFr.msOn 3 = false ∧ ((lit7.octs ++ clean [7]).length < 64 ∨ shortFr.fld (portBase 3 + Reg.Port.MAC_CFG) 0 14 < (lit7.octs ++ clean [7]).length)) ∧
    (rsvSt false false).bit (frsvReg Reg.Frsv.RSV_STAT) 30 = false ∧
    (rsvSt false true).bit (frsvReg Reg.Frsv.RSV_STAT) 30 = true :=
  ⟨by decide +kernel,
   by decide +kernel,
   by decide +kernel,
   by decide +kernel,
   by decide +kernel,
   by decide +kernel,
   by decide +kernel,
   by decide +kernel⟩

/-- The hypotheses of `Obligations.FabricAndEgress` are met, clause by clause (part 2 of 2). -/
theorem wit_FabricAndEgress_2 :
    (Takes (rsvSt false true) accA (frsvReg Reg.Frsv.RSV_CTRL) ∧ (rsvSt false true).bit (frsvReg Reg.Frsv.RSV_STAT) 30 = true) ∧
    (Takes (rsvSt true false) accA (frsvReg Reg.Frsv.RSV_CTRL) ∧ (rsvSt true false).bit (frsvReg Reg.Frsv.RSV_STAT) 30 = false ∧ (rsvSt true false).rsvFault = some (1, 1, 4)) ∧
    (Takes (rsvSt false false) accA (frsvReg Reg.Frsv.RSV_CTRL) ∧ (rsvSt false false).bit (frsvReg Reg.Frsv.RSV_STAT) 30 = false ∧ (rsvSt false false).rsvFault = none) ∧
    Takes (rsvSt false false) accA (frsvReg Reg.Frsv.RSV_CTRL) :=
  by unfold Takes; decide +kernel

end Fabric

namespace Forwarding

/-- The shadows written: a forwarding entry (of reserved content where `bad`), a filter, a group; entry 9 in use. -/
def tblSt (bad : Bool) : State :=
  let s := ((rs.wrN (fwdReg Reg.Fwd.FDB_SH) 5).wrN (fwdReg Reg.Fwd.FDB_SH + 4) (if bad then 0x90010200 else 0x80010200)).wrN (fwdReg Reg.Fwd.FDB_SH + 8) 0x80
  let s := ((s.wrN (sfltReg Reg.Sflt.SF_SH) 5).wrN (sfltReg Reg.Sflt.SF_SH + 4) 0x80010200).wrN (sfltReg Reg.Sflt.SF_SH + 28) (if bad then 1 else 0)
  { (s.wrN (sfltReg Reg.Sflt.SF_SH + 24) 9000).wrN (mcgReg Reg.Mcg.MG_SH + 4) (if bad then 2 else 0x3FFF0001) with
    fdb := [(9, [5, 0x80010200, word (2 ^ 7), 0])]
    sfs := [(4, { ws := [1, 2], hits := 77, metered := true, tokens := 5 })]
    mgs := [(6, [1, 2])] }
/-- The same with another key in the forwarding shadow. -/
def tblNew : State := (tblSt false).wrN (fwdReg Reg.Fwd.FDB_SH) 6
/-- A learn request waits. -/
def lrnSt (mac port base : Nat) : State := { (tblSt false).wrN (fwdReg Reg.Fwd.LEARN_CFG) base with
                                             learnQ := [⟨mac, 1, port⟩] }
/-- No invalid index at or above LEARN_BASE. -/
def lrnFull : State := { lrnSt 0x20000000077 3 8191 with
                         fdb := [(8191, [5, 0x80010200, word (2 ^ 7), 0])] }
/-- A residue copy waits for queue 0 of port `p` until TBF ns `n`. -/
def resSt (p qlim n : Nat) : State :=
  { rs.wrN (qReg p 0 Reg.Eq.QLIM) qlim with
    frames := [{ id := 4, inp := 3, octs := [1], copies := [{ port := p, q := 0, residue := some n }] }] }
/-- A Learn of these witnesses. -/
def lit0 : Learn := { mac := 2199023255671, vid := 1, port := 3 : Learn }
/-- A Learn of these witnesses. -/
def lit1 : Learn := { mac := 2199023255557, vid := 1, port := 7 : Learn }
/-- A Copy of these witnesses. -/
def lit2 : Copy := { port := 7, q := 0, residue := some 5 : Copy }
/-- A Copy of these witnesses. -/
def lit3 : Copy := { port := 7, q := 0, residue := some 0 : Copy }

/-- The hypotheses of `Obligations.ForwardingTables` are met, clause by clause. -/
theorem wit_ForwardingTables :
    ((∀ j < 8192, lrnFull.fld (fwdReg Reg.Fwd.LEARN_CFG) 0 13 ≤ j → entValid (lrnFull.fdbEnt j) = true) ∧ lrnFull.learnQ = [lit0] ∧ lrnFull.fdbFind lit0.mac lit0.vid = none) ∧
    (rs.learnQ = [] ∧
    ((lrnSt 2199023255671 3 9).learnQ = [lit0] ∧ 10 < 8192 ∧ (lrnSt 2199023255671 3 9).fld (fwdReg Reg.Fwd.LEARN_CFG) 0 13 ≤ 10 ∧ (lrnSt 2199023255671 3 9).fdbFind lit0.mac lit0.vid = none ∧ entValid ((lrnSt 2199023255671 3 9).fdbEnt 10) = false ∧ (∀ j < 10, (lrnSt 2199023255671 3 9).fld (fwdReg Reg.Fwd.LEARN_CFG) 0 13 ≤ j → entValid ((lrnSt 2199023255671 3 9).fdbEnt j) = true) ∧ lit0.mac < 2 ^ 48 ∧ lit0.vid < 2 ^ 12 ∧ lit0.port < 29) ∧
    ((lrnSt 2199023255557 7 9).learnQ = [lit1] ∧ (lrnSt 2199023255557 7 9).fdbFind lit1.mac lit1.vid = some 9) ∧
    rs.frames = [] ∧
    ((resSt 7 50 5).frames = [{ id := 4, inp := 3, octs := [1], copies := [lit2] : Frame }] ∧ { id := 4, inp := 3, octs := [1], copies := [lit2] : Frame }.copies = [lit2] ∧ lit2.residue = some 5 ∧ lit2.port < 29 ∧ lit2.q < 8 ∧ lit2.begun = false ∧ (resSt 7 50 5).admits lit2.port lit2.q = Admit.ok) ∧
    ((resSt 7 0 5).frames = [{ id := 4, inp := 3, octs := [1], copies := [lit2] : Frame }] ∧ { id := 4, inp := 3, octs := [1], copies := [lit2] : Frame }.copies = [lit2] ∧ lit2.residue = some 5 ∧ lit2.port < 29 ∧ lit2.q < 8 ∧ lit2.begun = false ∧ (resSt 7 0 5).admits lit2.port lit2.q ≠ Admit.ok)) ∧
    (((resSt 7 0 0).frames = [{ id := 4, inp := 3, octs := [1], copies := [lit3] : Frame }] ∧ { id := 4, inp := 3, octs := [1], copies := [lit3] : Frame }.copies = [lit3] ∧ lit3.residue = some 0 ∧ lit3.port < 29 ∧ lit3.q < 8 ∧ lit3.begun = false ∧ 0 ≤ (resSt 7 0 0).time.tbf.nsTotal ∧ lit3.port < 26) ∧
    ((resSt 7 0 5).frames = [{ id := 4, inp := 3, octs := [1], copies := [lit2] : Frame }] ∧ { id := 4, inp := 3, octs := [1], copies := [lit2] : Frame }.copies = [lit2] ∧ lit2.residue = some 5 ∧ lit2.port < 29 ∧ lit2.q < 8 ∧ lit2.begun = false ∧ (resSt 7 0 5).time.tbf.nsTotal < 5)) ∧
    ((Takes (tblSt true) accA (fwdReg Reg.Fwd.FDB_CMT) ∧ fdbBad ((tblSt true).shadowWords (fwdReg Reg.Fwd.FDB_SH) 4) = true) ∧
    (Takes (tblSt false) accA (fwdReg Reg.Fwd.FDB_CMT) ∧ fdbBad ((tblSt false).shadowWords (fwdReg Reg.Fwd.FDB_SH) 4) = false ∧ (entValid ((tblSt false).shadowWords (fwdReg Reg.Fwd.FDB_SH) 4) = false ∨ (tblSt false).fdbFind (entMac ((tblSt false).shadowWords (fwdReg Reg.Fwd.FDB_SH) 4)) (entVid ((tblSt false).shadowWords (fwdReg Reg.Fwd.FDB_SH) 4)) = none ∨ (tblSt false).fdbFind (entMac ((tblSt false).shadowWords (fwdReg Reg.Fwd.FDB_SH) 4)) (entVid ((tblSt false).shadowWords (fwdReg Reg.Fwd.FDB_SH) 4)) = some 9)) ∧
    (Takes (tblSt false) accA (fwdReg Reg.Fwd.FDB_CMT) ∧ fdbBad ((tblSt false).shadowWords (fwdReg Reg.Fwd.FDB_SH) 4) = false ∧ entValid ((tblSt false).shadowWords (fwdReg Reg.Fwd.FDB_SH) 4) = true ∧ (tblSt false).fdbFind (entMac ((tblSt false).shadowWords (fwdReg Reg.Fwd.FDB_SH) 4)) (entVid ((tblSt false).shadowWords (fwdReg Reg.Fwd.FDB_SH) 4)) = some 9 ∧ 9 ≠ 12 ∧ 9 < 8192) ∧
    Takes (tblSt false) accA (fwdReg Reg.Fwd.FDB_CMT)) ∧
    ((Takes (tblSt false) accA (fwdReg Reg.Fwd.FDB_CMT) ∧ (tblSt false).fdbFind (entMac ((tblSt false).shadowWords (fwdReg Reg.Fwd.FDB_SH) 4)) (entVid ((tblSt false).shadowWords (fwdReg Reg.Fwd.FDB_SH) 4)) = some 9 ∧ 9 < 8192) ∧
    (Takes tblNew accA (fwdReg Reg.Fwd.FDB_CMT) ∧ tblNew.fdbFind (entMac (tblNew.shadowWords (fwdReg Reg.Fwd.FDB_SH) 4)) (entVid (tblNew.shadowWords (fwdReg Reg.Fwd.FDB_SH) 4)) = none) ∧
    (Takes (tblSt true) accA (sfltReg Reg.Sflt.SF_CMT) ∧ sfBad ((tblSt true).shadowWords (sfltReg Reg.Sflt.SF_SH) 8) = true) ∧
    (Takes (tblSt false) accA (sfltReg Reg.Sflt.SF_CMT) ∧ sfBad ((tblSt false).shadowWords (sfltReg Reg.Sflt.SF_SH) 8) = false) ∧
    Takes (tblSt false) accA (sfltReg Reg.Sflt.SF_CMT) ∧
    (Takes (tblSt true) accA (mcgReg Reg.Mcg.MG_CMT) ∧ (bitOf (entWord ((tblSt true).shadowWords (mcgReg Reg.Mcg.MG_SH) 2) 0) 30 = true ∨ bitsOf (entWord ((tblSt true).shadowWords (mcgReg Reg.Mcg.MG_SH) 2) 1) 30 2 ≠ 0 ∨ bitsOf (entWord ((tblSt true).shadowWords (mcgReg Reg.Mcg.MG_SH) 2) 1) 1 15 ≠ 0))) ∧
    (Takes (tblSt false) accA (mcgReg Reg.Mcg.MG_CMT) ∧ (¬(bitOf (entWord ((tblSt false).shadowWords (mcgReg Reg.Mcg.MG_SH) 2) 0) 30 = true ∨ bitsOf (entWord ((tblSt false).shadowWords (mcgReg Reg.Mcg.MG_SH) 2) 1) 30 2 ≠ 0 ∨ bitsOf (entWord ((tblSt false).shadowWords (mcgReg Reg.Mcg.MG_SH) 2) 1) 1 15 ≠ 0))) ∧
    Takes (tblSt false) accA (mcgReg Reg.Mcg.MG_CMT) ∧
    (Takes rs accA (tblCmt 0) ∧ (bitsOf 327683 16 3 = 0 ∨ (if 0 = 0 then 4 else 3) < bitsOf 327683 16 3)) :=
  ⟨⟨by
      intro j hj h
      have e : lrnFull.fld (fwdReg Reg.Fwd.LEARN_CFG) 0 13 = 8191 := by decide +kernel
      obtain rfl : j = 8191 := by omega
      decide +kernel, by decide +kernel⟩,
   by decide +kernel,
   by decide +kernel,
   by unfold Takes; decide +kernel,
   by unfold Takes; decide +kernel,
   by unfold Takes; decide +kernel⟩

end Forwarding

namespace Ports

/-- PD8 off. -/
def pd8Off : State := rs.setGateSt 8 0
/-- A link up at port `p`. -/
def upAt (p : Nat) : State := rs.setBit (portBase p + Reg.Port.PORT_STAT) 0 true
/-- The service port's supply and enable on, its link up where `l`. -/
def spSt (l : Bool) : State := { (rs.setBit (sportReg Reg.Sport.SP_CFG) 0 true).setBit (sportReg Reg.Sport.SP_STAT) 0 l with supplied := true }
/-- A frame of two copies' port `p`, begun or not, at a link that is up. -/
def beg (p : Nat) (b : Bool) (n : Nat) : State :=
  { upAt p with frames := [{ id := 4, inp := 3, octs := [1], copies := [{ port := p, q := 0, begun := b, tries := n }] }] }
/-- ADMIN_EN 0 and a measurement under way on port `p`, velocity factor 174. -/
def tdrSt (p : Nat) (busy : Bool) : State :=
  { (rs.setBit (portReg p Reg.Port.PORT_CFG) 0 false).setBit (portReg p Reg.Port.TDR_STAT) 8 busy with tdrVf := [(p, 174)] }
/-- PLCA on P22 as node `n`, the last cycle's comparison `v`. -/
def plSt (n v : Nat) (mm : Bool) : State :=
  { ((upAt 22).wrN (portReg 22 Reg.Port.PLCA_CFG) (0x1000800 + n)).setBit (portReg 22 Reg.Port.PLCA_STAT) 1 mm with plcaLast := [(22, v)] }
/-- PD9 off. -/
def pd9Off : State := rs.setGateSt 9 0
/-- An ACF message of CAN 3 with four data octets, one of LIN 2 for identifier 5, and one of another type. -/
def acfCan : List Nat := canAcf 0x78 3 ⟨0, 0x123, false, false, false, false, [1, 2, 3, 4], 0, 0, 0, false⟩ 77
def acfLin : List Nat := linAcf 2 5 [9, 8] 77
def acfOdd : List Nat := acfMsg 9 true [0, 0]
/-- An NTSCF frame for the gateway with the data `d`. -/
def avtp (d : List Nat) : List Nat :=
  [2, 0, 0, 0, 0, 7, 2, 0, 0, 0, 0, 9, 0x22, 0xF0, 0x82, 0x80 + d.length / 256, d.length % 256, 0] ++ List.replicate 8 0 ++ d ++ [0, 0, 0, 0]
/-- The gateway at 02:00:00:00:00:07 with a frame waiting; CAN 3 in mode FD, LIN 2 a channel of role `r`. -/
def gwSt (d : List Nat) (r : Nat) : State :=
  { ((((rs.wrN (fbioReg Reg.Fbio.GW_SRC_HI) 0x200).wrN (fbioReg Reg.Fbio.GW_SRC_LO) 7).setFld (canReg 3 Reg.Can.CAN_CFG) 0 2 2).setFld
      (linReg 2 Reg.Lin.LIN_CFG) 0 2 r) with gwRx := [avtp d, [1]] }
/-- AGG_TIME 100 µs and AGG_MAX 2. -/
def aggOn (s : State) : State := (s.wrN (fbioReg Reg.Fbio.GW_AGG_TIME) 100).setFld (fbioReg Reg.Fbio.GW_CFG) 16 5 2
/-- A message of bus 3 gathered. -/
def aggSt : State := { rs with aggs := [(3, ⟨[acfCan], 0⟩)] }
/-- CAN 3 with the configuration `cfg` and messages queued, error state `e`, recovering where `r`. -/
def canSt (cfg e : Nat) (r : Bool) (l : List CanTx) : State :=
  { ((rs.wrN (canReg 3 Reg.Can.CAN_CFG) cfg).setFld (canReg 3 Reg.Can.CAN_STAT) 0 2 e).setBit (canReg 3 Reg.Can.CAN_STAT) 24 r with canQ := [(3, l)] }
/-- A filter of CAN 3 that admits identifier 0x200 alone. -/
def fltSt : State := ((canSt 2 0 false []).wrN (canReg 3 0x100) 0x80000200).wrN (canReg 3 0x104) 0x1FFFFFFF
/-- A received message. -/
def rxM : CanMsg := ⟨0, 0x123, false, false, false, false, [1, 2, 3, 4], 0, 0, 0, false⟩
/-- LIN 2 enabled in role `r` with a header queued and data published. -/
def linSt (r : Nat) : State :=
  { ((rs.setFld (linReg 2 Reg.Lin.LIN_CFG) 0 2 r).setBit (linReg 2 Reg.Lin.PUB_MAP) 5 true) with
    linQ := [(2, [(5, [7]), (6, [])])], linData := [(133, [4, 4])] }
/-- Converter 1 busy with input 13. -/
def aiSt (more : List (Nat × Nat × Bool)) : State := { rs with aiConv := [(1, { busy := some (13, 1, false), reqs := more })] }
/-- Tile 2's link up, its limp-home level 3 high, the bank's low. -/
def lhSt : State := ((rs.setBit (tileBase 2 + Reg.Tile.TILE_STAT) 0 true).setBit (tileBase 2 + Reg.Tile.LH_STATE) 3 true).setBit (lhBase + Reg.Lh.LH_DIFF) 4 true
/-- A state of these witnesses. -/
def st0 := { rs with anWait := [9] }
/-- A Copy of these witnesses. -/
def lit0 : Copy := { port := 9, q := 0, begun := true : Copy }
/-- A Copy of these witnesses. -/
def lit1 : Copy := { port := 9, q := 0 : Copy }
/-- A Copy of these witnesses. -/
def lit2 : Copy := { port := 22, q := 0, begun := true : Copy }
/-- A Copy of these witnesses. -/
def lit3 : Copy := { port := 22, q := 0, begun := true, tries := 15 : Copy }
/-- A CanTx of these witnesses. -/
def lit4 : CanTx := { octs := acfCan, tries := 2 : CanTx }
/-- A CanTx of these witnesses. -/
def lit5 : CanTx := { octs := acfCan.set 15 0 : CanTx }

/-- The hypotheses of `Obligations.PortsAndCables` are met, clause by clause (part 1 of 2). -/
theorem wit_PortsAndCables_1 :
    ((9 < 26 ∧ (pd8Off.domainOn (portPd 9) = false ∨ pd8Off.bit (portReg 9 Reg.Port.PORT_CFG) 0 = false ∨ pd8Off.portUp 9 = true ∨ (decide (9 < 22) && pd8Off.bit (portReg 9 Reg.Port.PORT_CFG) 4) = true ∧ (9 ∈ pd8Off.anWait ∨ (decide (9 < 2 ∨ 6 ≤ 9) || pd8Off.bit (portReg 9 Reg.Port.PORT_CFG) (8 + 2)) = false))) ∧
    (0 < 26 ∧ rs.domainOn (portPd 0) = true ∧ rs.bit (portReg 0 Reg.Port.PORT_CFG) 0 = true ∧ rs.portUp 0 = false ∧ ((decide (0 < 22) && rs.bit (portReg 0 Reg.Port.PORT_CFG) 4) = false ∨ 0 ∉ rs.anWait ∧ (decide (0 < 2 ∨ 6 ≤ 0) || rs.bit (portReg 0 Reg.Port.PORT_CFG) (8 + 2)) = true)) ∧
    (26 = 26 ∧ (spSt false).supplied = true ∧ (spSt false).bit (sportReg Reg.Sport.SP_CFG) 0 = true ∧ (spSt false).bit (sportReg Reg.Sport.SP_STAT) 0 = false) ∧
    (9 < 26 ∧ (rs.domainOn (portPd 9) = false ∨ rs.portUp 9 = false)) ∧
    (9 < 26 ∧ (upAt 9).domainOn (portPd 9) = true ∧ (upAt 9).portUp 9 = true ∧ (upAt 9).frames = [])) ∧
    ((9 < 26 ∧ (beg 9 true 0).domainOn (portPd 9) = true ∧ (beg 9 true 0).portUp 9 = true ∧ (beg 9 true 0).frames = [{ id := 4, inp := 3, octs := [1], copies := [lit0] : Frame }] ∧ { id := 4, inp := 3, octs := [1], copies := [lit0] : Frame }.copies = [lit0] ∧ lit0.port = 9 ∧ lit0.q < 8 ∧ lit0.begun = true) ∧
    (9 < 26 ∧ (beg 9 false 0).domainOn (portPd 9) = true ∧ (beg 9 false 0).portUp 9 = true ∧ (beg 9 false 0).frames = [{ id := 4, inp := 3, octs := [1], copies := [lit1] : Frame }] ∧ { id := 4, inp := 3, octs := [1], copies := [lit1] : Frame }.copies = [lit1] ∧ lit1.port = 9 ∧ lit1.q < 8 ∧ lit1.begun = false) ∧
    (26 = 26 ∧ (spSt true).bit (sportReg Reg.Sport.SP_STAT) 0 = true) ∧
    ((upAt 9).domainOn (portPd 9) = false ∨ (upAt 9).bit (portReg 9 Reg.Port.PORT_CFG) 0 = false ∨ (upAt 9).bit (portReg 9 Reg.Port.PORT_CFG) 4 = false ∨ (upAt 9).portUp 9 = true ∨ 9 ∈ (upAt 9).anWait) ∧
    (rs.domainOn (portPd 9) = true ∧ rs.bit (portReg 9 Reg.Port.PORT_CFG) 0 = true ∧ rs.bit (portReg 9 Reg.Port.PORT_CFG) 4 = true ∧ rs.portUp 9 = false ∧ 9 ∉ rs.anWait)) ∧
    (Takes rs accM (portReg 7 Reg.Hdr.UNIT_CTRL) ∧ 7 < 26) ∧
    (Takes rs accM (portReg 7 Reg.Hdr.UNIT_CTRL) ∧ 7 < 26 ∧ rs.portUp 7 = false) ∧
    (Takes (upAt 7) accM (portReg 7 Reg.Hdr.UNIT_CTRL) ∧ 7 < 26 ∧ (upAt 7).portUp 7 = true ∧ (upAt 7).frames = []) ∧
    (Takes rs accM (portReg 26 Reg.Hdr.UNIT_CTRL) ∧ 26 ≤ 26) ∧
    (Takes rs accM (portReg 26 Reg.Port.TDR_CTRL) ∧ (26 ≤ 26 ∨ rs.bit (portReg 26 Reg.Port.TDR_STAT) 8 = true)) ∧
    (Takes rs accM (portReg 9 Reg.Port.TDR_CTRL) ∧ 9 < 26 ∧ rs.bit (portReg 9 Reg.Port.TDR_STAT) 8 = false ∧ rs.bit (portReg 9 Reg.Port.PORT_CFG) 0 = true) ∧
    (Takes (tdrSt 9 false) accM (portReg 9 Reg.Port.TDR_CTRL) ∧ 9 < 26 ∧ (tdrSt 9 false).bit (portReg 9 Reg.Port.TDR_STAT) 8 = false ∧ (tdrSt 9 false).bit (portReg 9 Reg.Port.PORT_CFG) 0 = false) :=
  ⟨by decide +kernel,
   by decide +kernel,
   by unfold Takes; decide +kernel⟩

/-- The hypotheses of `Obligations.PortsAndCables` are met, clause by clause (part 2 of 2). -/
theorem wit_PortsAndCables_2 :
    ((rs.bit (portReg 9 Reg.Port.TDR_STAT) 8 = false ∨ rs.gated 4 = true) ∧
    ((tdrSt 9 true).bit (portReg 9 Reg.Port.TDR_STAT) 8 = true ∧ (tdrSt 9 true).gated 4 = false) ∧
    ((tdrSt 9 true).bit (portReg 9 Reg.Port.TDR_STAT) 8 = true ∧ (tdrSt 9 true).gated 4 = false ∧ -128 ≤ 90 ∧ 90 ≤ 127 ∧ (tdrDist 5 (Tbl.get 0 (tdrSt 9 true).tdrVf 9) < 3 ∨ 600 < tdrDist 5 (Tbl.get 0 (tdrSt 9 true).tdrVf 9) ∨ Int.natAbs 90 < 8)) ∧
    ((tdrSt 9 true).bit (portReg 9 Reg.Port.TDR_STAT) 8 = true ∧ (tdrSt 9 true).gated 4 = false ∧ -128 ≤ 118 ∧ 118 ≤ 127 ∧ 3 ≤ tdrDist 570 (Tbl.get 0 (tdrSt 9 true).tdrVf 9) ∧ tdrDist 570 (Tbl.get 0 (tdrSt 9 true).tdrVf 9) ≤ 600 ∧ 8 ≤ Int.natAbs 118) ∧
    (rs.domainOn 8 = false ∨ rs.plca (22 + 0) = false) ∧
    ((plSt 0 0 false).domainOn 8 = true ∧ (plSt 0 0 false).plca (22 + 0) = true ∧ (plSt 0 0 false).fld (portReg (22 + 0) Reg.Port.PLCA_CFG) 0 8 = 0) ∧
    ((plSt 3 2 false).domainOn 8 = true ∧ (plSt 3 2 false).plca (22 + 0) = true ∧ (plSt 3 2 false).fld (portReg (22 + 0) Reg.Port.PLCA_CFG) 0 8 ≠ 0)) ∧
    (((plSt 3 2 false).domainOn 8 = true ∧ (plSt 3 2 false).plca (22 + 0) = true ∧ (plSt 3 2 false).fld (portReg (22 + 0) Reg.Port.PLCA_CFG) 0 8 ≠ 0 ∧ 4 ≠ max 1 (min 32 ((plSt 3 2 false).fld (portReg (22 + 0) Reg.Port.PLCA_CFG) 8 8)) ∧ Tbl.get 0 (plSt 3 2 false).plcaLast (22 + 0) = 2 ∧ (plSt 3 2 false).bit (portReg (22 + 0) Reg.Port.PLCA_STAT) 1 = false) ∧
    ((plSt 3 2 false).domainOn 8 = true ∧ (plSt 3 2 false).plca (22 + 0) = true ∧ (plSt 3 2 false).fld (portReg (22 + 0) Reg.Port.PLCA_CFG) 0 8 ≠ 0 ∧ 8 = max 1 (min 32 ((plSt 3 2 false).fld (portReg (22 + 0) Reg.Port.PLCA_CFG) 8 8))) ∧
    ((plSt 3 1 true).domainOn 8 = true ∧ (plSt 3 1 true).plca (22 + 0) = true ∧ (plSt 3 1 true).fld (portReg (22 + 0) Reg.Port.PLCA_CFG) 0 8 ≠ 0 ∧ 4 ≠ max 1 (min 32 ((plSt 3 1 true).fld (portReg (22 + 0) Reg.Port.PLCA_CFG) 8 8)) ∧ (Tbl.get 0 (plSt 3 1 true).plcaLast (22 + 0) ≠ 2 ∨ (plSt 3 1 true).bit (portReg (22 + 0) Reg.Port.PLCA_STAT) 1 = true)) ∧
    (rs.domainOn 8 = false ∨ rs.portUp (22 + 0) = false) ∧
    ((plSt 3 0 false).domainOn 8 = true ∧ (plSt 3 0 false).portUp (22 + 0) = true ∧ (plSt 3 0 false).plca (22 + 0) = true)) ∧
    (((beg 22 true 0).domainOn 8 = true ∧ (beg 22 true 0).portUp (22 + 0) = true ∧ (beg 22 true 0).plca (22 + 0) = false ∧ (beg 22 true 0).frames = [{ id := 4, inp := 3, octs := [1], copies := [lit2] : Frame }] ∧ { id := 4, inp := 3, octs := [1], copies := [lit2] : Frame }.copies = [lit2] ∧ lit2.port = 22 + 0 ∧ lit2.q < 8 ∧ lit2.begun = true) ∧
    ((beg 22 true 0).domainOn 8 = true ∧ (beg 22 true 0).portUp (22 + 0) = true ∧ (beg 22 true 0).plca (22 + 0) = false ∧ (beg 22 true 0).frames = [{ id := 4, inp := 3, octs := [1], copies := [lit2] : Frame }] ∧ { id := 4, inp := 3, octs := [1], copies := [lit2] : Frame }.copies = [lit2] ∧ lit2.port = 22 + 0 ∧ lit2.q < 8 ∧ lit2.begun = true ∧ lit2.tries < 15) ∧
    ((beg 22 true 15).domainOn 8 = true ∧ (beg 22 true 15).portUp (22 + 0) = true ∧ (beg 22 true 15).plca (22 + 0) = false ∧ (beg 22 true 15).frames = [{ id := 4, inp := 3, octs := [1], copies := [lit3] : Frame }] ∧ { id := 4, inp := 3, octs := [1], copies := [lit3] : Frame }.copies = [lit3] ∧ lit3.port = 22 + 0 ∧ lit3.q < 8 ∧ lit3.begun = true ∧ 15 ≤ lit3.tries) ∧
    (rs.domainOn 8 = false ∨ rs.plca (22 + 0) = false ∨ rs.fld (portReg (22 + 0) Reg.Port.PLCA_OBS) 0 16 = 0)) ∧
    ((plSt 3 0 false).domainOn 8 = true ∧ (plSt 3 0 false).plca (22 + 0) = true ∧ (plSt 3 0 false).fld (portReg (22 + 0) Reg.Port.PLCA_OBS) 0 16 ≠ 0) :=
  ⟨by decide +kernel,
   by decide +kernel,
   by decide +kernel,
   by decide +kernel⟩

/-- The hypotheses of `Obligations.FieldBusesAndInputs` are met, clause by clause (part 1 of 2). -/
theorem wit_FieldBusesAndInputs_1 :
    (rs.gwRx = [] ∧
    (((gwSt acfCan 1).setBit (fbioReg Reg.Fbio.GW_CFG) 0 false).gwRx = [avtp acfCan, [1]] ∧ (((gwSt acfCan 1).setBit (fbioReg Reg.Fbio.GW_CFG) 0 false).bit (fbioReg Reg.Fbio.GW_CFG) 0 = false ∨ avtpData ((gwSt acfCan 1).setBit (fbioReg Reg.Fbio.GW_CFG) 0 false).gwAddr (List.take ((avtp acfCan).length - 4) (avtp acfCan)) = none)) ∧
    ((gwSt acfOdd 1).gwRx = [avtp acfOdd, [1]] ∧ (gwSt acfOdd 1).bit (fbioReg Reg.Fbio.GW_CFG) 0 = true ∧ avtpData (gwSt acfOdd 1).gwAddr (List.take ((avtp acfOdd).length - 4) (avtp acfOdd)) = some acfOdd ∧ splitAcf 512 acfOdd = ([acfOdd], false) ∧ parseAcf (gwSt acfOdd 1).xlType acfOdd = none) ∧
    ((gwSt acfCan 1).gwRx = [avtp acfCan, [1]] ∧ (gwSt acfCan 1).bit (fbioReg Reg.Fbio.GW_CFG) 0 = true ∧ avtpData (gwSt acfCan 1).gwAddr (List.take ((avtp acfCan).length - 4) (avtp acfCan)) = some acfCan ∧ splitAcf 512 acfCan = ([acfCan], false) ∧ parseAcf (gwSt acfCan 1).xlType acfCan = some { lin := false, bus := 3, octs := acfCan : BusMsg } ∧ 3 < 12 ∧ (gwSt acfCan 1).fld (canBase 3 + Reg.Can.CAN_CFG) 0 2 ≠ 0 ∧ ((gwSt acfCan 1).canTxq 3).length < 32)) ∧
    ((((gwSt acfCan 1).setFld (canReg 3 Reg.Can.CAN_CFG) 0 2 0).gwRx = [avtp acfCan, [1]] ∧ ((gwSt acfCan 1).setFld (canReg 3 Reg.Can.CAN_CFG) 0 2 0).bit (fbioReg Reg.Fbio.GW_CFG) 0 = true ∧ avtpData ((gwSt acfCan 1).setFld (canReg 3 Reg.Can.CAN_CFG) 0 2 0).gwAddr (List.take ((avtp acfCan).length - 4) (avtp acfCan)) = some acfCan ∧ splitAcf 512 acfCan = ([acfCan], false) ∧ parseAcf ((gwSt acfCan 1).setFld (canReg 3 Reg.Can.CAN_CFG) 0 2 0).xlType acfCan = some { lin := false, bus := 3, octs := acfCan : BusMsg } ∧ 3 < 12 ∧ (((gwSt acfCan 1).setFld (canReg 3 Reg.Can.CAN_CFG) 0 2 0).fld (canBase 3 + Reg.Can.CAN_CFG) 0 2 = 0 ∨ 32 ≤ (((gwSt acfCan 1).setFld (canReg 3 Reg.Can.CAN_CFG) 0 2 0).canTxq 3).length)) ∧
    ((gwSt acfLin 1).gwRx = [avtp acfLin, [1]] ∧ (gwSt acfLin 1).bit (fbioReg Reg.Fbio.GW_CFG) 0 = true ∧ avtpData (gwSt acfLin 1).gwAddr (List.take ((avtp acfLin).length - 4) (avtp acfLin)) = some acfLin ∧ splitAcf 512 acfLin = ([acfLin], false) ∧ parseAcf (gwSt acfLin 1).xlType acfLin = some { lin := true, bus := 2, octs := acfLin : BusMsg } ∧ 2 < 8 ∧ (gwSt acfLin 1).fld (linBase 2 + Reg.Lin.LIN_CFG) 0 2 = 1)) ∧
    (((gwSt acfLin 3).gwRx = [avtp acfLin, [1]] ∧ (gwSt acfLin 3).bit (fbioReg Reg.Fbio.GW_CFG) 0 = true ∧ avtpData (gwSt acfLin 3).gwAddr (List.take ((avtp acfLin).length - 4) (avtp acfLin)) = some acfLin ∧ splitAcf 512 acfLin = ([acfLin], false) ∧ parseAcf (gwSt acfLin 3).xlType acfLin = some { lin := true, bus := 2, octs := acfLin : BusMsg } ∧ 2 < 8 ∧ (gwSt acfLin 3).fld (linBase 2 + Reg.Lin.LIN_CFG) 0 2 = 3) ∧
    ((rs.agg 3).msgs = [] ∨ ¬(rs.agg 3).first + 1000 * rs.fld (fbioReg Reg.Fbio.GW_AGG_TIME) 0 16 ≤ rs.time.tbf.nsTotal) ∧
    ((aggSt.agg 3).msgs ≠ [] ∧ (aggSt.agg 3).first + 1000 * aggSt.fld (fbioReg Reg.Fbio.GW_AGG_TIME) 0 16 ≤ aggSt.time.tbf.nsTotal) ∧
    (rs.canRuns 3 = false ∨ rs.fld (canReg 3 Reg.Can.CAN_CFG) 0 2 ≤ 0 ∨ rs.fld (canReg 3 Reg.Can.CAN_STAT) 0 2 = 2) ∧
    (fltSt.canRuns 3 = true ∧ 0 < fltSt.fld (canReg 3 Reg.Can.CAN_CFG) 0 2 ∧ (¬fltSt.fld (canReg 3 Reg.Can.CAN_STAT) 0 2 = 2) ∧ fltSt.canAccepts 3 rxM = false)) ∧
    (((canSt 2 0 false []).canRuns 3 = true ∧ 0 < (canSt 2 0 false []).fld (canReg 3 Reg.Can.CAN_CFG) 0 2 ∧ (¬(canSt 2 0 false []).fld (canReg 3 Reg.Can.CAN_STAT) 0 2 = 2) ∧ (canSt 2 0 false []).canAccepts 3 rxM = true ∧ (canSt 2 0 false []).bit (fbioReg Reg.Fbio.GW_CFG) 0 = true ∧ ((canSt 2 0 false []).agg 3).msgs = [] ∧ (canSt 2 0 false []).fld (fbioReg Reg.Fbio.GW_AGG_TIME) 0 16 = 0) ∧
    ((aggOn (canSt 2 0 false [])).canRuns 3 = true ∧ 0 < (aggOn (canSt 2 0 false [])).fld (canReg 3 Reg.Can.CAN_CFG) 0 2 ∧ (¬(aggOn (canSt 2 0 false [])).fld (canReg 3 Reg.Can.CAN_STAT) 0 2 = 2) ∧ (aggOn (canSt 2 0 false [])).canAccepts 3 rxM = true ∧ (aggOn (canSt 2 0 false [])).bit (fbioReg Reg.Fbio.GW_CFG) 0 = true ∧ ((aggOn (canSt 2 0 false [])).agg 3).msgs = [] ∧ (aggOn (canSt 2 0 false [])).fld (fbioReg Reg.Fbio.GW_AGG_TIME) 0 16 ≠ 0 ∧ 1 < (aggOn (canSt 2 0 false [])).fld (fbioReg Reg.Fbio.GW_CFG) 16 5) ∧
    rs.canSends 3 = false ∧
    ((canSt 2 0 false [lit4, lit5]).canSends 3 = true ∧ (canSt 2 0 false [lit4, lit5]).canTxq 3 = [lit4, lit5] ∧ (canSt 2 0 false [lit4, lit5]).bit (canReg 3 Reg.Can.CAN_CFG) 4 = false)) ∧
    ((canSt 18 0 false [lit4, lit5]).canSends 3 = true ∧ (canSt 18 0 false [lit4, lit5]).canTxq 3 = [lit4, lit5] ∧ [lit5] = [lit5] ∧ (canSt 18 0 false [lit4, lit5]).bit (canReg 3 Reg.Can.CAN_CFG) 4 = true) ∧
    ((canSt 2 0 false [lit4, lit5]).canSends 3 = true ∧ (canSt 2 0 false [lit4, lit5]).canTxq 3 = [lit4, lit5] ∧ (canSt 2 0 false [lit4, lit5]).bit (canReg 3 Reg.Can.CAN_CFG) 4 = false ∧ ((canSt 2 0 false [lit4, lit5]).fld (canReg 3 Reg.Can.CAN_CFG) 8 4 = 0 ∨ lit4.tries < (canSt 2 0 false [lit4, lit5]).fld (canReg 3 Reg.Can.CAN_CFG) 8 4)) ∧
    ((canSt 514 0 false [lit4, lit5]).canSends 3 = true ∧ (canSt 514 0 false [lit4, lit5]).canTxq 3 = [lit4, lit5] ∧ (canSt 514 0 false [lit4, lit5]).bit (canReg 3 Reg.Can.CAN_CFG) 4 = false ∧ (canSt 514 0 false [lit4, lit5]).fld (canReg 3 Reg.Can.CAN_CFG) 8 4 ≠ 0 ∧ (canSt 514 0 false [lit4, lit5]).fld (canReg 3 Reg.Can.CAN_CFG) 8 4 ≤ lit4.tries) ∧
    (rs.canRuns 3 = false ∨ rs.fld (canReg 3 Reg.Can.CAN_STAT) 0 2 = 2) :=
  ⟨by decide +kernel,
   by decide +kernel,
   by decide +kernel,
   by decide +kernel,
   by decide +kernel⟩

/-- The hypotheses of `Obligations.FieldBusesAndInputs` are met, clause by clause (part 2 of 2). -/
theorem wit_FieldBusesAndInputs_2 :
    (((canSt 2 2 false []).canRuns 3 = false ∨ (canSt 2 2 false []).fld (canReg 3 Reg.Can.CAN_STAT) 0 2 = 2) ∧
    ((canSt 2 1 false [lit4]).canRuns 3 = true ∧ (¬(canSt 2 1 false [lit4]).fld (canReg 3 Reg.Can.CAN_STAT) 0 2 = 2)) ∧
    ((canSt 2 0 false [lit4]).canRuns 3 = true ∧ (¬(canSt 2 0 false [lit4]).fld (canReg 3 Reg.Can.CAN_STAT) 0 2 = 2)) ∧
    (rs.canRuns 3 = false ∨ rs.bit (canReg 3 Reg.Can.CAN_STAT) 24 = false) ∧
    ((canSt 2 2 true [lit4]).canRuns 3 = true ∧ (canSt 2 2 true [lit4]).bit (canReg 3 Reg.Can.CAN_STAT) 24 = true) ∧
    ((¬(rs.domainOn 9 = true ∧ rs.gated 7 = false ∧ rs.bit (linReg 2 Reg.Lin.LIN_CFG) 0 = true))) ∧
    (((linSt 1).domainOn 9 = true ∧ (linSt 1).gated 7 = false ∧ (linSt 1).bit (linReg 2 Reg.Lin.LIN_CFG) 0 = true)) ∧
    (((linSt 1).domainOn 9 = true ∧ (linSt 1).gated 7 = false ∧ (linSt 1).bit (linReg 2 Reg.Lin.LIN_CFG) 0 = true) ∧ (linSt 1).bit (fbioReg Reg.Fbio.GW_CFG) 0 = true ∧ (linSt 1).fld (fbioReg Reg.Fbio.GW_AGG_TIME) 0 16 = 0 ∧ ((linSt 1).agg (16 + 2)).msgs = []) ∧
    (pd9Off.domainOn 9 = false ∨ pd9Off.bit (diBase + Reg.Di.DI_LEVEL + 4 * (3 / 32)) (3 % 32) = (true != pd9Off.bit (diBase + Reg.Di.DI_CFG + 4 * 3) 11))) ∧
    ((rs.domainOn 9 = true ∧ rs.bit (diBase + Reg.Di.DI_LEVEL + 4 * (40 / 32)) (40 % 32) ≠ (true != rs.bit (diBase + Reg.Di.DI_CFG + 4 * 40) 11)) ∧
    (rs.ai 1).busy = none ∧
    (((aiSt []).ai 1).busy = some (13, 1, false) ∧ 13 < 48 ∧ 1 < 3) ∧
    pd9Off.domainOn 9 = false ∧
    ((rs.wrN (aiBase + Reg.Ai.AI_SCAN_EN) 4101).domainOn 9 = true ∧ (rs.wrN (aiBase + Reg.Ai.AI_SCAN_EN) 4101).aiConv = [] ∧ (rs.wrN (aiBase + Reg.Ai.AI_SCAN_EN) 4101).placed = [] ∧ (rs.wrN (aiBase + Reg.Ai.AI_SCAN_EN) 4101).rd (aiBase + Reg.Ai.AI_SCAN_EN) = 4101 ∧ (rs.wrN (aiBase + Reg.Ai.AI_SCAN_EN) 4101).rd (aiBase + Reg.Ai.AI_SCAN_EN + 4) = 0) ∧
    lhSt.lhDiffers 4 = false ∧
    (lhSt.domainOn 9 = true ∧ lhSt.lhDiffers 3 = true ∧ lhSt.bit (lhBase + Reg.Lh.LH_DIFF) 3 = false)) ∧
    Takes (canSt 2 1 false [lit4]) accM (canReg 3 Reg.Hdr.UNIT_CTRL) ∧
    (Takes rs accM (aiBase + Reg.Ai.AI_SW_CONV) ∧ (bitOf 5 8 = false ∨ 48 ≤ bitsOf 5 0 6)) ∧
    (Takes rs accM (aiBase + Reg.Ai.AI_SW_CONV) ∧ bitOf 269 8 = true ∧ bitsOf 269 0 6 < 48 ∧ rs.ai (bitsOf 269 0 6 / 12) = { : AiConv }) ∧
    (Takes (aiSt []) accM (aiBase + Reg.Ai.AI_SW_CONV) ∧ bitOf 270 8 = true ∧ bitsOf 270 0 6 < 48 ∧ ((aiSt []).ai (bitsOf 270 0 6 / 12)).busy = some (13, 1, false)) :=
  ⟨by decide +kernel,
   by decide +kernel,
   by unfold Takes; decide +kernel⟩

end Ports

namespace Virtual

/-- VI 3 with eight pool queues from 16 and VI 4 with eight from 24; VI 3's queues 0 and 1 enabled in both banks, queue 1
receiving; VI 3 in state `st`. -/
def viSt (st : Nat) : State :=
  { (((rs.wrN (qassignKey 3) 0x80010).wrN (qassignKey 4) 0x80018).setFld (viReg 3 Reg.Vi.VI_STAT) 0 3 st) with
    hqs := [(16, { cfg := 1, lo := 0x1000, wr := 3, rd := 1 }), (17, { cfg := 3, hi := 7, wr := 15, rd := 2 }), (1040, { cfg := 1, wr := 3, rd := 1 }), (1041, { cfg := 3, wr := 1 })] }
/-- The same with nothing enabled. -/
def viOff : State := { viSt 1 with hqs := [] }
/-- Contexts 4 and 5 owned by VIs 3 and 4 with content, an operation on lane 1 naming context 5. -/
def ctxSt : State :=
  { rs.wrN (vi0Reg Reg.Vi0.CTX_VI + 4) 0x0403 with
    ctxs := [(4, { opened := true }), (5, { opened := true })], slots := [(7, { valid := true, vi := 3, alg := 2, usage := 32, key := [1] })],
    lanes := [(1, some { sub := ⟨3, .a, false, 0⟩, words := [word (5 * 2 ^ 24), 0, 0, 0, 0, 0, 0, 0] })] }
/-- VI 3 in state `st` with deficits, a bucket, a context and work of a frame of its port. -/
def vrSt (st : Nat) : State :=
  { (((viSt st).wrN (vi0Reg Reg.Vi0.CTX_VI + 4) 0x0403).wrN (portBase 17 + Reg.Hdr.OWNER) 6) with
    ctxs := [(4, { opened := true })], deficits := [(3, -7), (259, 9)], buckets := [(3, 5)], lanes := [], slots := ctxSt.slots
    frames := [{ id := 4, inp := 3, octs := [1], copies := [{ port := 17, q := 0 }] }] }
/-- The image engine taken for VI 3, with a snapshot. -/
def imgSt (restore : Bool) (mig : Nat) (x : ViSnap) : State :=
  { (vrSt 6).setFld (hreg .a Reg.Half.ROLE_STAT) 4 3 1 with viImage := some (3, restore, mig), viSnaps := [(3, some x)] }
/-- A snapshot of no queue with the slots and contexts given. -/
def snap (c : Nat) (sl : List (Nat × Slot)) : ViSnap :=
  ⟨[], [1, 2, 3, 4], 0, 0, List.replicate c (4, {}), sl, 1, {}⟩
/-- An image for VI 3 under the key of slot 7. -/
def imgOk : List Nat :=
  let body := octs (octs (littleEnd 4 0x5A564931 ++ littleEnd 4 1 ++ List.replicate 16 0 ++ littleEnd 4 2) 0x60 ++ (List.range 32)) 0xFF0
  body ++ octs (Config.aesCmac (kdf [1] labelMigM [] 256) body) 16
/-- VI 3's transmit queue with a descriptor to fetch, its rate `r`, a round at it. -/
def txSt (r : Nat) : State :=
  { (((viSt 1).setFld (hreg .a Reg.Half.ROLE_STAT) 0 2 1).wrN (shareKey 3 Reg.Vi0.SHARE_RATE) r).setFld (swReg Reg.Sw.HOST_DESC_ERR) 16 16 0xFFFF with dwrrs := [(0, { todo := [(3, 2)] }), (1, { todo := [(3, 2)] })] }
/-- A good descriptor of 60 octets with FCS_INS. -/
def descOk : List Word := [0, 0, 0x403C, 0, 0, 0, 0, 0]
/-- A frame waiting at the host port of half A for class 2 under handle `sh`; class 2 steered to `q`. -/
def rxSt (s : State) (q : Nat) (n : Nat) : State :=
  { (s.wrN (vi0Reg Reg.Vi0.CLASS_RXQ + 8) (2 ^ 31 + q)).setFld (hreg .a Reg.Half.ROLE_STAT) 0 2 1 with hostRxA := [⟨[0, 0, 0, word (2 * 2 ^ 21), 0, 0, 0, 0], 77, List.replicate n 3⟩] }
/-- The same with half A OFFLINE. -/
def offRx (q : Nat) (n : Nat) : State := (rxSt (viSt 1) q n).setFld (hreg .a Reg.Half.ROLE_STAT) 0 2 0
/-- A state of these witnesses. -/
def st0 := { viSt 0 with viImage := some (9, true, 0) }
/-- A state of these witnesses. -/
def st1 := { viSt 4 with viImage := some (9, true, 0) }
/-- A state of these witnesses. -/
def st2 := { vrSt 2 with viFreeze := [3, 4] }
/-- A state of these witnesses. -/
def st3 := { rxSt (viSt 1) 17 32 with hostRxA := [⟨[0, 0, 0, word (2 * 2 ^ 21), 0, 0, 0, 0], 77, List.replicate 32 3⟩, ⟨[], 76, []⟩] }
/-- A state of these witnesses. -/
def st4 := { rxSt (viSt 1) 17 32 with frames := [{ id := 4, inp := 3, octs := [1], inseq := 5, copies := [{ port := 26, q := 0 }] }] }
/-- A Copy of these witnesses. -/
def lit0 : Copy := { port := 17, q := 0 : Copy }
/-- A Slot of these witnesses. -/
def lit1 : Slot := { valid := true, parent := some 20 : Slot }
/-- A Dwrr of these witnesses. -/
def lit2 : Dwrr := { todo := [(3, 2)] : Dwrr }
/-- A RxItem of these witnesses. -/
def lit3 : RxItem := { ws := [0, 0, 0, word (2 * 2 ^ 21), 0, 0, 0, 0], inseq := 77, octs := List.replicate 32 3 : RxItem }
/-- A RxItem of these witnesses. -/
def lit4 : RxItem := { ws := [], inseq := 76, octs := [] : RxItem }
/-- A RxItem of these witnesses. -/
def lit5 : RxItem := { ws := [0, 0, 0, word (2 * 2 ^ 21), 0, 0, 0, 0], inseq := 77, octs := List.replicate 64 3 : RxItem }
/-- A RxItem of these witnesses. -/
def lit6 : RxItem := { ws := [0, 0, 0, word (2 * 2 ^ 21), 0, 0, 0, 0], inseq := 77, octs := List.replicate 640 3 : RxItem }

/-- The hypotheses of `Obligations.VirtualInstances` are met, clause by clause (part 1 of 4). -/
theorem wit_VirtualInstances_1 :
    ((Takes viOff accM (qassignKey 0) ∧ 0 = 0) ∧
    (Takes viOff accM (qassignKey 3) ∧ 3 ≠ 0 ∧ 64 < bitsOf 4259840 16 7) ∧
    (Takes viOff accM (qassignKey 3) ∧ 3 ≠ 0 ∧ (¬(64 < bitsOf 196629 16 7 ∨ 1024 < bitsOf 196629 0 10 + bitsOf 196629 16 7 ∨ (∃ m ∈ List.range 128, m ≠ 0 ∧ m ≠ 3 ∧ 0 < bitsOf 196629 16 7 ∧ 0 < viOff.qCount m ∧ bitsOf 196629 0 10 < viOff.qBase m + viOff.qCount m ∧ viOff.qBase m < bitsOf 196629 0 10 + bitsOf 196629 16 7) ∨ ∃ i ∈ List.range 1024, decide (viOff.qBase 3 ≤ i ∧ i < viOff.qBase 3 + viOff.qCount 3) ≠ decide (bitsOf 196629 0 10 ≤ i ∧ i < bitsOf 196629 0 10 + bitsOf 196629 16 7) ∧ viOff.poolOn i = true))) ∧
    Takes rs accM (vi0Reg Reg.Vi0.CTX_VI + 4 * 1) ∧
    (Takes rs accM (vi0Reg Reg.Vi0.VI_CMD) ∧ 0 = 0) ∧
    (Takes (viSt 5) accM (vi0Reg Reg.Vi0.VI_CMD) ∧ 3 ≠ 0 ∧ ((viSt 5).viState 3 = 5 ∨ (viSt 5).viState 3 = 6)) ∧
    (Takes (viSt 0) accM (vi0Reg Reg.Vi0.VI_CMD) ∧ 3 ≠ 0 ∧ (viSt 0).viState 3 < 5 ∧ (viSt 0).viState 3 = 0) ∧
    (Takes (viSt 0) accM (vi0Reg Reg.Vi0.VI_CMD) ∧ 3 ≠ 0 ∧ (viSt 0).viState 3 < 5 ∧ (viSt 0).viState 3 < 2) ∧
    (Takes (viSt 0) accM (vi0Reg Reg.Vi0.VI_CMD) ∧ 3 ≠ 0 ∧ (viSt 0).viState 3 < 5 ∧ (viSt 0).viState 3 ≠ 1 ∧ (viSt 0).viState 3 ≠ 2)) ∧
    ((Takes (viSt 0) accM (vi0Reg Reg.Vi0.VI_CMD) ∧ 3 ≠ 0 ∧ (viSt 0).viState 3 < 5) ∧
    (Takes (viSt 0) accM (vi0Reg Reg.Vi0.VI_CMD) ∧ 3 ≠ 0 ∧ (viSt 0).viState 3 < 5 ∧ (viSt 0).viState 3 ≠ 4) ∧
    (Takes (viSt 0) accM (vi0Reg Reg.Vi0.VI_CMD) ∧ 3 ≠ 0 ∧ (viSt 0).viState 3 < 5 ∧ (viSt 0).viState 3 = 0 ∧ (viSt 0).viImage = none) ∧
    (Takes st0 accM (vi0Reg Reg.Vi0.VI_CMD) ∧ 3 ≠ 0 ∧ st0.viState 3 < 5 ∧ st0.viState 3 = 0 ∧ st0.viImage ≠ none) ∧
    (Takes (viSt 1) accM (vi0Reg Reg.Vi0.VI_CMD) ∧ 3 ≠ 0 ∧ (viSt 1).viState 3 < 5 ∧ (viSt 1).viState 3 ≠ 0) ∧
    (Takes (viSt 1) accM (vi0Reg Reg.Vi0.VI_CMD) ∧ 3 ≠ 0 ∧ (viSt 1).viState 3 < 5 ∧ (viSt 1).viState 3 = 1) ∧
    (Takes (viSt 1) accM (vi0Reg Reg.Vi0.VI_CMD) ∧ 3 ≠ 0 ∧ (viSt 1).viState 3 < 5 ∧ ((viSt 1).viState 3 = 1 ∨ (viSt 1).viState 3 = 2)) ∧
    (Takes (viSt 2) accM (vi0Reg Reg.Vi0.VI_CMD) ∧ 3 ≠ 0 ∧ (viSt 2).viState 3 < 5 ∧ 2 ≤ (viSt 2).viState 3) ∧
    (Takes (viSt 3) accM (vi0Reg Reg.Vi0.VI_CMD) ∧ 3 ≠ 0 ∧ (viSt 3).viState 3 < 5 ∧ 3 ≤ (viSt 3).viState 3) ∧
    (Takes (viSt 3) accM (vi0Reg Reg.Vi0.VI_CMD) ∧ 3 ≠ 0 ∧ (viSt 3).viState 3 < 5 ∧ (viSt 3).viState 3 = 3) ∧
    (Takes (viSt 4) accM (vi0Reg Reg.Vi0.VI_CMD) ∧ 3 ≠ 0 ∧ (viSt 4).viState 3 < 5 ∧ (viSt 4).viState 3 = 4 ∧ (viSt 4).viImage = none)) ∧
    (Takes st1 accM (vi0Reg Reg.Vi0.VI_CMD) ∧ 3 ≠ 0 ∧ st1.viState 3 < 5 ∧ st1.viState 3 = 4 ∧ st1.viImage ≠ none) :=
  ⟨by unfold Takes; decide +kernel,
   by unfold Takes; decide +kernel,
   by unfold Takes; decide +kernel⟩

/-- The hypotheses of `Obligations.VirtualInstances` are met, clause by clause (part 2 of 4). -/
theorem wit_VirtualInstances_2 :
    (((viSt 1).viState 3 ≠ 2 ∨ (viSt 1).viBusyWork 3 = true) ∧
    (3 ≠ 0 ∧ (viSt 2).viState 3 = 2 ∧ (viSt 2).viBusyWork 3 = false ∧ 3 ∉ (viSt 2).viFreeze) ∧
    (3 ≠ 0 ∧ st2.viState 3 = 2 ∧ st2.viBusyWork 3 = false ∧ 3 ∈ st2.viFreeze) ∧
    ((viSt 1).viState 3 ≠ 5 ∨ (viSt 1).viBusyWork 3 = true) ∧
    (3 ≠ 0 ∧ (vrSt 5).viState 3 = 5 ∧ (vrSt 5).viBusyWork 3 = false) ∧
    (3 ≠ 0 ∧ (vrSt 5).viState 3 = 5 ∧ (vrSt 5).viBusyWork 3 = false ∧ (vrSt 5).frames = [{ id := 4, inp := 3, octs := [1], copies := [lit0] : Frame }] ∧ { id := 4, inp := 3, octs := [1], copies := [lit0] : Frame }.copies = [lit0] ∧ lit0.port < 29 ∧ lit0.q < 8 ∧ lit0.begun = false ∧ lit0.residue = none ∧ (vrSt 5).fld (portBase lit0.port + Reg.Hdr.OWNER) 1 7 = 3) ∧
    (0 < 3 ∧ 3 < 128 ∧ rs.viImage = none) ∧
    (0 < 3 ∧ 3 < 128 ∧ (imgSt false 7 (snap 17 [])).viImage = some (3, false, 7) ∧ Tbl.get none (imgSt false 7 (snap 17 [])).viSnaps 3 = some (snap 17 []) ∧ (16 < (snap 17 []).ctxs.length ∨ 32 < (snap 17 []).slots.length))) ∧
    ((0 < 3 ∧ 3 < 128 ∧ (imgSt false 7 (snap 0 [(9, lit1)])).viImage = some (3, false, 7) ∧ Tbl.get none (imgSt false 7 (snap 0 [(9, lit1)])).viSnaps 3 = some (snap 0 [(9, lit1)]) ∧ (snap 0 [(9, lit1)]).ctxs.length ≤ 16 ∧ (snap 0 [(9, lit1)]).slots.length ≤ 32 ∧ ((imgSt false 7 (snap 0 [(9, lit1)])).slot 20).vi ≠ 3 ∧ (snap 0 [(9, lit1)]).slots ≠ [] ∧ (∀ e ∈ (snap 0 [(9, lit1)]).slots, e.2.parent = some 20)) ∧
    (0 < 3 ∧ 3 < 128 ∧ (imgSt false 8 (snap 16 [(9, { valid := true : Slot })])).viImage = some (3, false, 8) ∧ Tbl.get none (imgSt false 8 (snap 16 [(9, { valid := true : Slot })])).viSnaps 3 = some (snap 16 [(9, { valid := true : Slot })]) ∧ (snap 16 [(9, { valid := true : Slot })]).ctxs.length ≤ 16 ∧ (snap 16 [(9, { valid := true : Slot })]).slots.length ≤ 32 ∧ (∀ e ∈ (snap 16 [(9, { valid := true : Slot })]).slots, e.2.parent = none) ∧ (imgSt false 8 (snap 16 [(9, { valid := true : Slot })])).migKey 8 = none)) ∧
    ((0 < 3 ∧ 3 < 128 ∧ (imgSt false 7 (snap 16 [(9, { valid := true : Slot })])).viImage = some (3, false, 7) ∧ Tbl.get none (imgSt false 7 (snap 16 [(9, { valid := true : Slot })])).viSnaps 3 = some (snap 16 [(9, { valid := true : Slot })]) ∧ (snap 16 [(9, { valid := true : Slot })]).ctxs.length ≤ 16 ∧ (snap 16 [(9, { valid := true : Slot })]).slots.length ≤ 32 ∧ (∀ e ∈ (snap 16 [(9, { valid := true : Slot })]).slots, e.2.parent = none) ∧ (imgSt false 7 (snap 16 [(9, { valid := true : Slot })])).migKey 7 = some [1] ∧ (imgSt false 7 (snap 16 [(9, { valid := true : Slot })])).running Half.a = true ∧ (imgSt false 7 (snap 16 [(9, { valid := true : Slot })])).running Half.b = false) ∧
    (0 < 3 ∧ 3 < 128 ∧ (imgSt true 8 (snap 0 [])).viImage = some (3, true, 8) ∧ (imgSt true 8 (snap 0 [])).migKey 8 = none) ∧
    (0 < 3 ∧ 3 < 128 ∧ (imgSt true 7 (snap 0 [])).viImage = some (3, true, 7) ∧ (imgSt true 7 (snap 0 [])).migKey 7 = some [1] ∧ imgWord [] 0 ≠ 1515604273) ∧
    (0 < 3 ∧ 3 < 128 ∧ (imgSt true 7 (snap 0 [])).viImage = some (3, true, 7))) ∧
    ((Takes (viSt 4) accN (viReg (2 + 1) Reg.Vi.DOORBELL) ∧ (viSt 4).viState (2 + 1) = 4) ∧
    (Takes (viSt 1) accN (viReg (2 + 1) Reg.Vi.DOORBELL) ∧ (viSt 1).viState (2 + 1) ≠ 4 ∧ (viSt 1).qCount (2 + 1) ≤ bitsOf 327689 0 6) ∧
    (Takes (viSt 1) accN (viReg (2 + 1) Reg.Vi.DOORBELL) ∧ (viSt 1).viState (2 + 1) ≠ 4 ∧ bitsOf 327681 0 6 < (viSt 1).qCount (2 + 1) ∧ bitOf ((viSt 1).hq ((viSt 1).viBank accN) (2 + 1) (bitsOf 327681 0 6)).cfg 1 = true) ∧
    (Takes (viSt 1) accN (viReg (2 + 1) Reg.Vi.DOORBELL) ∧ (viSt 1).viState (2 + 1) ≠ 4 ∧ bitsOf 327680 0 6 < (viSt 1).qCount (2 + 1) ∧ bitOf ((viSt 1).hq ((viSt 1).viBank accN) (2 + 1) (bitsOf 327680 0 6)).cfg 1 = false) ∧
    (Takes (viSt 4) accN (viReg (2 + 1) Reg.Vi.Q_WR) ∧ (viSt 4).viState (2 + 1) = 4)) ∧
    (Takes ((viSt 1).setFld (bank 0 (viReg 3 Reg.Vi.Q_SEL)) 0 6 9) accN (viReg (2 + 1) Reg.Vi.Q_WR) ∧ ((viSt 1).setFld (bank 0 (viReg 3 Reg.Vi.Q_SEL)) 0 6 9).viState (2 + 1) ≠ 4 ∧ (bitOf (((viSt 1).setFld (bank 0 (viReg 3 Reg.Vi.Q_SEL)) 0 6 9).hq (((viSt 1).setFld (bank 0 (viReg 3 Reg.Vi.Q_SEL)) 0 6 9).viBank accN) (2 + 1) (((viSt 1).setFld (bank 0 (viReg 3 Reg.Vi.Q_SEL)) 0 6 9).qSel (((viSt 1).setFld (bank 0 (viReg 3 Reg.Vi.Q_SEL)) 0 6 9).viBank accN) (2 + 1))).cfg 1 = true ∨ ((viSt 1).setFld (bank 0 (viReg 3 Reg.Vi.Q_SEL)) 0 6 9).qCount (2 + 1) ≤ ((viSt 1).setFld (bank 0 (viReg 3 Reg.Vi.Q_SEL)) 0 6 9).qSel (((viSt 1).setFld (bank 0 (viReg 3 Reg.Vi.Q_SEL)) 0 6 9).viBank accN) (2 + 1))) ∧
    (Takes (viSt 1) accN (viReg (2 + 1) Reg.Vi.Q_WR) ∧ (viSt 1).viState (2 + 1) ≠ 4 ∧ bitOf ((viSt 1).hq ((viSt 1).viBank accN) (2 + 1) ((viSt 1).qSel ((viSt 1).viBank accN) (2 + 1))).cfg 1 = false ∧ (viSt 1).qSel ((viSt 1).viBank accN) (2 + 1) < (viSt 1).qCount (2 + 1)) :=
  ⟨by decide +kernel,
   by decide +kernel,
   by decide +kernel,
   by unfold Takes; decide +kernel,
   by unfold Takes; decide +kernel⟩

/-- The hypotheses of `Obligations.VirtualInstances` are met, clause by clause (part 3 of 4). -/
theorem wit_VirtualInstances_3 :
    ((rs.setGateSt 6 0).domainOn 6 = false ∧
    (∀ n < 128, (viSt 3).txElig Half.a n = false) ∧
    ((txSt 0).domainOn 6 = true ∧ 0 < 3 ∧ 3 < 128 ∧ (txSt 0).txElig Half.a 3 = true ∧ (txSt 0).dwrr Half.a.idx = lit2 ∧ 0 < 2 ∧ (txSt 0).deficit Half.a.idx 3 = 0 ∧ (txSt 0).txNext Half.a 3 = some 0 ∧ descBad (26 + Half.a.idx) [] = true) ∧
    ((txSt 0).domainOn 6 = true ∧ 0 < 3 ∧ 3 < 128 ∧ (txSt 0).txElig Half.b 3 = true ∧ (txSt 0).dwrr Half.b.idx = lit2 ∧ 0 < 2 ∧ (txSt 0).deficit Half.b.idx 3 = 0 ∧ (txSt 0).txNext Half.b 3 = some 0 ∧ descBad (26 + Half.b.idx) descOk = false ∧ (txSt 0).role Half.b ≠ roleActive ∧ (¬etherType (descFrame descOk (List.replicate 60 1)) = 34998)) ∧
    ((txSt 5).domainOn 6 = true ∧ 0 < 3 ∧ 3 < 128 ∧ (txSt 5).txElig Half.a 3 = true ∧ (txSt 5).dwrr Half.a.idx = lit2 ∧ 0 < 2 ∧ (txSt 5).deficit Half.a.idx 3 = 0 ∧ (txSt 5).txNext Half.a 3 = some 0 ∧ descBad (26 + Half.a.idx) descOk = false ∧ (txSt 5).role Half.a = roleActive ∧ (txSt 5).busRefused 3 (descFrame descOk (List.replicate 60 1)) = false)) ∧
    (((txSt 0).domainOn 6 = true ∧ 0 < 3 ∧ 3 < 128 ∧ (txSt 0).txElig Half.a 3 = true ∧ (txSt 0).dwrr Half.a.idx = lit2 ∧ 0 < 2 ∧ (txSt 0).deficit Half.a.idx 3 = 0 ∧ (txSt 0).txNext Half.a 3 = some 0 ∧ descBad (26 + Half.a.idx) descOk = false ∧ (txSt 0).role Half.a = roleActive ∧ (txSt 0).busRefused 3 (descFrame descOk ([0, 0, 0, 0, 0, 0, 2, 0, 0, 0, 0, 9, 34, 240, 130, 128, 4, 0, 0, 0, 0, 0, 0, 0, 0, 0, 18, 1, 0, 0] ++ List.replicate 30 0)) = true) ∧
    (rs.ringDue = [] ∧ ((if Half.a = Half.a then rs.hostRxA else rs.hostRxB) = [] ∨ ∀ x ∈ if Half.a = Half.a then rs.hostRxA else rs.hostRxB, ownType x.octs = true)) ∧
    (st3.ringDue = [] ∧ (if Half.a = Half.a then st3.hostRxA else st3.hostRxB) = [lit3, lit4] ∧ ownType lit3.octs = false ∧ ownType lit4.octs = false ∧ lit4.inseq < lit3.inseq ∧ st3.frames = []) ∧
    (st4.ringDue = [] ∧ (if Half.a = Half.a then st4.hostRxA else st4.hostRxB) = [lit3]) ∧
    ((offRx 17 32).ringDue = [] ∧ (if Half.a = Half.a then (offRx 17 32).hostRxA else (offRx 17 32).hostRxB) = [lit3] ∧ etherType lit3.octs ≠ 34998 ∧ etherType lit3.octs ≠ 34997 ∧ (offRx 17 32).frames = [] ∧ ((offRx 17 32).role Half.a = roleOffline ∨ lit3.inseq ≤ ((offRx 17 32).halfSt Half.a).since))) ∧
    (((rxSt (viSt 1) 900 64).ringDue = [] ∧ (if Half.a = Half.a then (rxSt (viSt 1) 900 64).hostRxA else (rxSt (viSt 1) 900 64).hostRxB) = [lit5] ∧ etherType lit5.octs ≠ 34998 ∧ etherType lit5.octs ≠ 34997 ∧ (rxSt (viSt 1) 900 64).frames = [] ∧ (rxSt (viSt 1) 900 64).role Half.a ≠ roleOffline ∧ ((rxSt (viSt 1) 900 64).halfSt Half.a).since < lit5.inseq ∧ ((rxSt (viSt 1) 900 64).steerTo (bitsOf (lit5.ws.getD 4 0) 16 16) (bitsOf (lit5.ws.getD 3 0) 21 3)).bind (rxSt (viSt 1) 900 64).poolOwner = none) ∧
    ((rxSt (viSt 1) 16 64).ringDue = [] ∧ (if Half.a = Half.a then (rxSt (viSt 1) 16 64).hostRxA else (rxSt (viSt 1) 16 64).hostRxB) = [lit5] ∧ etherType lit5.octs ≠ 34998 ∧ etherType lit5.octs ≠ 34997 ∧ (rxSt (viSt 1) 16 64).frames = [] ∧ (rxSt (viSt 1) 16 64).role Half.a ≠ roleOffline ∧ ((rxSt (viSt 1) 16 64).halfSt Half.a).since < lit5.inseq ∧ ((rxSt (viSt 1) 16 64).steerTo (bitsOf (lit5.ws.getD 4 0) 16 16) (bitsOf (lit5.ws.getD 3 0) 21 3)).bind (rxSt (viSt 1) 16 64).poolOwner = some (3, 0) ∧ (bitOf ((rxSt (viSt 1) 16 64).hq Half.a 3 0).cfg 0 = false ∨ bitOf ((rxSt (viSt 1) 16 64).hq Half.a 3 0).cfg 1 = false))) ∧
    ((rxSt (viSt 2) 17 64).ringDue = [] ∧ (if Half.a = Half.a then (rxSt (viSt 2) 17 64).hostRxA else (rxSt (viSt 2) 17 64).hostRxB) = [lit5] ∧ etherType lit5.octs ≠ 34998 ∧ etherType lit5.octs ≠ 34997 ∧ (rxSt (viSt 2) 17 64).frames = [] ∧ (rxSt (viSt 2) 17 64).role Half.a ≠ roleOffline ∧ ((rxSt (viSt 2) 17 64).halfSt Half.a).since < lit5.inseq ∧ ((rxSt (viSt 2) 17 64).steerTo (bitsOf (lit5.ws.getD 4 0) 16 16) (bitsOf (lit5.ws.getD 3 0) 21 3)).bind (rxSt (viSt 2) 17 64).poolOwner = some (3, 1) ∧ bitOf ((rxSt (viSt 2) 17 64).hq Half.a 3 1).cfg 0 = true ∧ bitOf ((rxSt (viSt 2) 17 64).hq Half.a 3 1).cfg 1 = true ∧ (rxSt (viSt 2) 17 64).viState 3 ≠ 1) ∧
    ((rxSt (viSt 1) 17 640).ringDue = [] ∧ (if Half.a = Half.a then (rxSt (viSt 1) 17 640).hostRxA else (rxSt (viSt 1) 17 640).hostRxB) = [lit6] ∧ etherType lit6.octs ≠ 34998 ∧ etherType lit6.octs ≠ 34997 ∧ (rxSt (viSt 1) 17 640).frames = [] ∧ (rxSt (viSt 1) 17 640).role Half.a ≠ roleOffline ∧ ((rxSt (viSt 1) 17 640).halfSt Half.a).since < lit6.inseq ∧ ((rxSt (viSt 1) 17 640).steerTo (bitsOf (lit6.ws.getD 4 0) 16 16) (bitsOf (lit6.ws.getD 3 0) 21 3)).bind (rxSt (viSt 1) 17 640).poolOwner = some (3, 1) ∧ bitOf ((rxSt (viSt 1) 17 640).hq Half.a 3 1).cfg 0 = true ∧ bitOf ((rxSt (viSt 1) 17 640).hq Half.a 3 1).cfg 1 = true ∧ (rxSt (viSt 1) 17 640).viState 3 = 1 ∧ ((rxSt (viSt 1) 17 640).hq Half.a 3 1).len - 1 - (((rxSt (viSt 1) 17 640).hq Half.a 3 1).wr % ((rxSt (viSt 1) 17 640).hq Half.a 3 1).len + ((rxSt (viSt 1) 17 640).hq Half.a 3 1).len - ((rxSt (viSt 1) 17 640).hq Half.a 3 1).rd % ((rxSt (viSt 1) 17 640).hq Half.a 3 1).len) % ((rxSt (viSt 1) 17 640).hq Half.a 3 1).len < 1 + (lit6.octs.length + 31) / 32) ∧
    (((rxSt (viSt 1) 17 32).ringDue = [] ∧ (if Half.a = Half.a then (rxSt (viSt 1) 17 32).hostRxA else (rxSt (viSt 1) 17 32).hostRxB) = [lit3] ∧ etherType lit3.octs ≠ 34998 ∧ etherType lit3.octs ≠ 34997 ∧ (rxSt (viSt 1) 17 32).frames = [] ∧ (rxSt (viSt 1) 17 32).role Half.a ≠ roleOffline ∧ ((rxSt (viSt 1) 17 32).halfSt Half.a).since < lit3.inseq ∧ ((rxSt (viSt 1) 17 32).steerTo (bitsOf (lit3.ws.getD 4 0) 16 16) (bitsOf (lit3.ws.getD 3 0) 21 3)).bind (rxSt (viSt 1) 17 32).poolOwner = some (3, 1) ∧ bitOf ((rxSt (viSt 1) 17 32).hq Half.a 3 1).cfg 0 = true ∧ bitOf ((rxSt (viSt 1) 17 32).hq Half.a 3 1).cfg 1 = true ∧ (rxSt (viSt 1) 17 32).viState 3 = 1 ∧ 1 + (lit3.octs.length + 31) / 32 ≤ ((rxSt (viSt 1) 17 32).hq Half.a 3 1).len - 1 - (((rxSt (viSt 1) 17 32).hq Half.a 3 1).wr % ((rxSt (viSt 1) 17 32).hq Half.a 3 1).len + ((rxSt (viSt 1) 17 32).hq Half.a 3 1).len - ((rxSt (viSt 1) 17 32).hq Half.a 3 1).rd % ((rxSt (viSt 1) 17 32).hq Half.a 3 1).len) % ((rxSt (viSt 1) 17 32).hq Half.a 3 1).len ∧ 1 < 64) ∧
    (txSt 40).domainOn 6 = true ∧
    (((txSt 0).dwrr 0).cur ≠ none ∨ ((txSt 0).dwrr 0).todo ≠ [])) ∧
    ((((viSt 1).wrN (shareKey 9 Reg.Vi0.SHARE_W) 0).dwrr 0).cur = none ∧ (((viSt 1).wrN (shareKey 9 Reg.Vi0.SHARE_W) 0).dwrr 0).todo = []) ∧
    (Takes (viSt 4) accN (viReg (2 + 1) Reg.Vi.Q_RD) ∧ (viSt 4).viState (2 + 1) = 4) ∧
    (Takes ((viSt 1).setFld (bank 0 (viReg 3 Reg.Vi.Q_SEL)) 0 6 9) accN (viReg (2 + 1) Reg.Vi.Q_RD) ∧ ((viSt 1).setFld (bank 0 (viReg 3 Reg.Vi.Q_SEL)) 0 6 9).viState (2 + 1) ≠ 4 ∧ (bitOf (((viSt 1).setFld (bank 0 (viReg 3 Reg.Vi.Q_SEL)) 0 6 9).hq (((viSt 1).setFld (bank 0 (viReg 3 Reg.Vi.Q_SEL)) 0 6 9).viBank accN) (2 + 1) (((viSt 1).setFld (bank 0 (viReg 3 Reg.Vi.Q_SEL)) 0 6 9).qSel (((viSt 1).setFld (bank 0 (viReg 3 Reg.Vi.Q_SEL)) 0 6 9).viBank accN) (2 + 1))).cfg 1 = false ∨ ((viSt 1).setFld (bank 0 (viReg 3 Reg.Vi.Q_SEL)) 0 6 9).qCount (2 + 1) ≤ ((viSt 1).setFld (bank 0 (viReg 3 Reg.Vi.Q_SEL)) 0 6 9).qSel (((viSt 1).setFld (bank 0 (viReg 3 Reg.Vi.Q_SEL)) 0 6 9).viBank accN) (2 + 1))) :=
  ⟨by decide +kernel,
   by decide +kernel,
   by decide +kernel,
   by decide +kernel,
   by decide +kernel,
   by decide +kernel,
   by decide +kernel,
   by unfold Takes; decide +kernel⟩

/-- The hypotheses of `Obligations.VirtualInstances` are met, clause by clause (part 4 of 4). -/
theorem wit_VirtualInstances_4 :
    Takes ((viSt 1).setFld (bank 0 (viReg 3 Reg.Vi.Q_SEL)) 0 6 1) accN (viReg (2 + 1) Reg.Vi.Q_RD) ∧ ((viSt 1).setFld (bank 0 (viReg 3 Reg.Vi.Q_SEL)) 0 6 1).viState (2 + 1) ≠ 4 ∧ bitOf (((viSt 1).setFld (bank 0 (viReg 3 Reg.Vi.Q_SEL)) 0 6 1).hq (((viSt 1).setFld (bank 0 (viReg 3 Reg.Vi.Q_SEL)) 0 6 1).viBank accN) (2 + 1) (((viSt 1).setFld (bank 0 (viReg 3 Reg.Vi.Q_SEL)) 0 6 1).qSel (((viSt 1).setFld (bank 0 (viReg 3 Reg.Vi.Q_SEL)) 0 6 1).viBank accN) (2 + 1))).cfg 1 = true ∧ ((viSt 1).setFld (bank 0 (viReg 3 Reg.Vi.Q_SEL)) 0 6 1).qSel (((viSt 1).setFld (bank 0 (viReg 3 Reg.Vi.Q_SEL)) 0 6 1).viBank accN) (2 + 1) < ((viSt 1).setFld (bank 0 (viReg 3 Reg.Vi.Q_SEL)) 0 6 1).qCount (2 + 1) :=
  by unfold Takes; decide +kernel

end Virtual

namespace Span

/-- Half A active, link and tunnel up; windows 0 (link, posted), 1 (link, non-posted), 2 (tunnel), 3 (secure), 4 (lanes), 5
(ACTIVE), each 64 KiB at that place of the aperture; the inbound window 0 of the link. -/
def spn : State :=
  let s := ((rs.setFld (hreg .a Reg.Half.ROLE_STAT) 0 2 1).wrN (spanReg Reg.Span.SPAN_CTRL) 3)
  let s := s.each [(0, 0x21), (1, 0x325), (2, 0x50023), (3, 0x31), (4, 0x29), (5, 0x61)] fun s e =>
    ((s.wrN (spowReg e.1 0) e.2).wrN (spowReg e.1 1) (0x10000 + e.1)).wrN (spowReg e.1 3) 1
  let s := ((((s.wrN (spiwReg 0 0) 0x8D).wrN (spiwReg 0 1) 0x10).wrN (spiwReg 0 3) 1).wrN (spiwReg 0 4) 0x8100000)
  { (((s.setGateSt 2 1).setGateSt 4 1).setGateSt 3 1).setGateSt 5 1 with rst := [], spTags := [(0, 65535), (1, 7)] }
/-- The link down. -/
def spnDn : State := spn.setBit (spanReg Reg.Span.SPAN_CTRL) 0 false
/-- Posted writes awaited by half A. -/
def pst (tun : Bool) (tag time : Nat) : SpPost := ⟨.a, tun, tag, 3, 0x100000040, 5, time⟩
/-- A log of `n` records. -/
def lg (n : Nat) : List (List Word) := List.replicate n [word (2 ^ 31), 1, 2]
/-- A delayed read by half A, master 1. -/
def dt (r : Option (Nat × List Nat × Nat)) (tun : Bool) : SpDt :=
  { half := .a, master := 1, addr := 0x1000010040, size := 8, secure := true, vi := 0, data := none, tunnel := tun, tag := 9, sent := some 5, result := r }
/-- A read of FENCE by half A, master 1. -/
def fnc (r : Option (Nat × List Nat × Nat)) : SpDt :=
  { half := .a, master := 1, addr := spanReg Reg.Span.FENCE, size := 4, secure := true, vi := 0, data := none, fence := true, failed := true, result := r }
/-- A request from half A on the link. -/
def rq (kind addr : Nat) : SpReq := ⟨false, .a, 0, 0, kind, 77, addr, 8, [1, 2, 3, 4, 5, 6, 7, 8], false, 3⟩
/-- An answer for half A. -/
def an (tun : Bool) (what : Nat) : SpAns := ⟨tun, .a, 5, 9, what, 1, [4, 5], 0x100000040, 6⟩
/-- A Span frame to unit `u` with the payload `p` at half A's host port. -/
def sfr (u b0 : Nat) (p : List Nat) : RxItem :=
  ⟨[], 0, [2, 0, 0, 0, 0, 5, 2, 0, 0, 0, 0, 9, 0x88, 0xB6, b0, 0x40, 0, 3, u / 256, u % 256, 0, p.length] ++ p ++ [0, 0, 0, 0]⟩
def rqPay (k n : Nat) : List Nat := [k, n, 0, 9] ++ bigEnd 8 0x100000040 ++ List.replicate n 7
def nowSt (n : Nat) (d : List SpDt) (p : List SpPost) : State :=
  { spn with time := { spn.time with tbf := { sec := 0, ns := n, acc := 0 } }, spDts := d, spPosts := p, pwf := lg 15 }
/-- A state of these witnesses. -/
def st0 := { spn with spPosts := List.replicate 32 (pst false 5 0) }
/-- A state of these witnesses. -/
def st1 := { spnDn with pwf := lg 15 }
/-- A state of these witnesses. -/
def st2 := { spn with spIn := List.replicate 16 (rq 2 0) }
/-- A state of these witnesses. -/
def st3 := { spn with spDts := List.replicate 16 { dt none false with addr := 1 } }
/-- A state of these witnesses. -/
def st4 := { spn with spDts := [dt none false] }
/-- A state of these witnesses. -/
def st5 := { spn with spDts := [dt (some (0, [1, 2], 0)) false] }
/-- A state of these witnesses. -/
def st6 := { spn with spDts := [dt (some (3, [1, 2], 0)) false] }
/-- A state of these witnesses. -/
def st7 := { spn with spPosts := [pst true 9 0] }
/-- A state of these witnesses. -/
def st8 := { spn with spDts := [fnc none] }
/-- A state of these witnesses. -/
def st9 := { spn with pwf := lg 3, spDts := [fnc (some (0, [], 0))] }
/-- A state of these witnesses. -/
def st10 := { spn with spIn := [rq 0 0x200000000] }
/-- A state of these witnesses. -/
def st11 := { spn.wrN (spiwReg 0 0) 0x81 with spIn := [rq 0 0x100000040] }
/-- A state of these witnesses. -/
def st12 := { spn with spIn := [rq 0 0x100000040] }
/-- A state of these witnesses. -/
def st13 := { (spn).wrN (spiwReg 0 4) 0x40000000 with spIn := [rq 0 0x100000040] }
/-- A state of these witnesses. -/
def st14 := { (spn).wrN (spiwReg 0 4) 0x40000000 with spIn := [rq 2 0x100000040] }
/-- A state of these witnesses. -/
def st15 := { spn with spAns := [an true 0], spDts := [{ dt none true with unit := 5 }] }
/-- A state of these witnesses. -/
def st16 := { dt none true with unit := 5 }
/-- A state of these witnesses. -/
def st17 := { spn with spAns := [an true 0] }
/-- A state of these witnesses. -/
def st18 := { spn with spAns := [an true 1], spPosts := [pst true 9 0] }
/-- A state of these witnesses. -/
def st19 := { spn with spAns := [an true 1] }
/-- A state of these witnesses. -/
def st20 := { spn with spAns := [an true 2], spPosts := [pst true 9 0], pwf := lg 15 }
/-- A state of these witnesses. -/
def st21 := { spn with spAns := [an true 2], spPosts := [pst true 9 0], pwf := lg 16 }
/-- A state of these witnesses. -/
def st22 := { spn with spAns := [an true 2] }
/-- A state of these witnesses. -/
def st23 := { spn with pwf := lg 2 }
/-- A state of these witnesses. -/
def st24 := { spnDn with spDts := [dt none false, dt none true], spIn := [rq 2 0, { rq 2 0 with tunnel := true }], spAns := [an true 0, an false 0] }
/-- A state of these witnesses. -/
def st25 := { spnDn with spPosts := [pst false 9 0] }
/-- A state of these witnesses. -/
def st26 := { spn.setGateSt 14 0 with hostRxA := [sfr 0x3FFF 0x23 []] }
/-- A state of these witnesses. -/
def st27 := { spn with hostRxA := [sfr 0x3FFF 0x23 (rqPay 0 8)] }
/-- A state of these witnesses. -/
def st28 := { spn with hostRxA := [sfr 0x3FFF 0x12 (List.replicate 32 9)] }
/-- A state of these witnesses. -/
def st29 := { spn with hostRxA := [sfr 0x3FFF 0x13 (rqPay 0 8)] }
/-- A state of these witnesses. -/
def st30 := { { spn with spIn := List.replicate 64 { rq 0 0 with tunnel := true } } with hostRxA := [sfr 0x3FFF 0x13 (rqPay 0 8)] }
/-- A state of these witnesses. -/
def st31 := { spn with hostRxA := [sfr 0x3FFF 0x15 [0, 0, 0, 9]] }

/-- The hypotheses of `Obligations.SpanBridge` are met, clause by clause (part 1 of 5). -/
theorem wit_SpanBridge_1 :
    (accS.master = Master.shep ∧
    (accA.master = Master.half Half.a ∧ ((rs.setGateSt 6 0).domainOn 6 = false ∨ (List.replicate 8 300).length = 0 ∨ 64 < (List.replicate 8 300).length ∨ 64 < (BitVec.toNat (64 : Word)) % 64 + (List.replicate 8 300).length)) ∧
    (accA.master = Master.half Half.a ∧ ((rs.setGateSt 6 0).domainOn 6 = false ∨ 8 = 0 ∨ 64 < 8 ∨ 64 < (BitVec.toNat (64 : Word)) % 64 + 8)) ∧
    (accA.master = Master.half Half.a ∧ spn.domainOn 6 = true ∧ 0 < (List.replicate 8 300).length ∧ (List.replicate 8 300).length ≤ 64 ∧ (BitVec.toNat (524288 : Word)) % 64 + (List.replicate 8 300).length ≤ 64 ∧ spn.spDts = [] ∧ spn.outWindow Half.a ((BitVec.toNat (524288 : Word))) (List.replicate 8 300).length = none) ∧
    (accA.master = Master.half Half.a ∧ spn.domainOn 6 = true ∧ 0 < 8 ∧ 8 ≤ 64 ∧ (BitVec.toNat (524288 : Word)) % 64 + 8 ≤ 64 ∧ spn.spDts = [] ∧ spn.outWindow Half.a ((BitVec.toNat (524288 : Word))) 8 = none)) ∧
    ((accM.master = Master.half Half.a ∧ spn.domainOn 6 = true ∧ 0 < (List.replicate 8 300).length ∧ (List.replicate 8 300).length ≤ 64 ∧ (BitVec.toNat (196672 : Word)) % 64 + (List.replicate 8 300).length ≤ 64 ∧ spn.spDts = [] ∧ spn.outWindow Half.a ((BitVec.toNat (196672 : Word))) (List.replicate 8 300).length = some 3 ∧ (bitOf (spn.rd (spowReg 3 0)) 4 && !accM.secure || 0 != 0 && 0 != bitsOf (spn.rd (spowReg 3 0)) 8 7) = true) ∧
    (accM.master = Master.half Half.a ∧ spn.domainOn 6 = true ∧ 0 < 8 ∧ 8 ≤ 64 ∧ (BitVec.toNat (196672 : Word)) % 64 + 8 ≤ 64 ∧ spn.spDts = [] ∧ spn.outWindow Half.a ((BitVec.toNat (196672 : Word))) 8 = some 3 ∧ (bitOf (spn.rd (spowReg 3 0)) 4 && !accM.secure || 0 != 0 && 0 != bitsOf (spn.rd (spowReg 3 0)) 8 7) = true) ∧
    (accN.master = Master.half Half.a ∧ spn.domainOn 6 = true ∧ 0 < (List.replicate 8 300).length ∧ (List.replicate 8 300).length ≤ 64 ∧ (BitVec.toNat (65600 : Word)) % 64 + (List.replicate 8 300).length ≤ 64 ∧ spn.spDts = [] ∧ spn.outWindow Half.a ((BitVec.toNat (65600 : Word))) (List.replicate 8 300).length = some 1 ∧ (bitOf (spn.rd (spowReg 1 0)) 4 && !accN.secure || 3 != 0 && 3 != bitsOf (spn.rd (spowReg 1 0)) 8 7) = false ∧ true = true)) ∧
    ((accN.master = Master.half Half.a ∧ spn.domainOn 6 = true ∧ 0 < 8 ∧ 8 ≤ 64 ∧ (BitVec.toNat (65600 : Word)) % 64 + 8 ≤ 64 ∧ spn.spDts = [] ∧ spn.outWindow Half.a ((BitVec.toNat (65600 : Word))) 8 = some 1 ∧ (bitOf (spn.rd (spowReg 1 0)) 4 && !accN.secure || 3 != 0 && 3 != bitsOf (spn.rd (spowReg 1 0)) 8 7) = false ∧ true = true) ∧
    (accA.master = Master.half Half.a ∧ spn.domainOn 6 = true ∧ 0 < (List.replicate 8 300).length ∧ (List.replicate 8 300).length ≤ 64 ∧ (BitVec.toNat (262212 : Word)) % 64 + (List.replicate 8 300).length ≤ 64 ∧ spn.spDts = [] ∧ spn.outWindow Half.a ((BitVec.toNat (262212 : Word))) (List.replicate 8 300).length = some 4 ∧ (bitOf (spn.rd (spowReg 4 0)) 4 && !accA.secure || 0 != 0 && 0 != bitsOf (spn.rd (spowReg 4 0)) 8 7) = false ∧ false = false ∧ (!bitOf (spn.rd (spowReg 4 0)) 3 || ((List.replicate 8 300).length == 1 || (List.replicate 8 300).length == 2 || (List.replicate 8 300).length == 4 || (List.replicate 8 300).length == 8) && (BitVec.toNat (262212 : Word)) % (List.replicate 8 300).length == 0) = false)) ∧
    (accA.master = Master.half Half.a ∧ spn.domainOn 6 = true ∧ 0 < 8 ∧ 8 ≤ 64 ∧ (BitVec.toNat (262212 : Word)) % 64 + 8 ≤ 64 ∧ spn.spDts = [] ∧ spn.outWindow Half.a ((BitVec.toNat (262212 : Word))) 8 = some 4 ∧ (bitOf (spn.rd (spowReg 4 0)) 4 && !accA.secure || 0 != 0 && 0 != bitsOf (spn.rd (spowReg 4 0)) 8 7) = false ∧ false = false ∧ (!bitOf (spn.rd (spowReg 4 0)) 3 || (8 == 1 || 8 == 2 || 8 == 4 || 8 == 8) && (BitVec.toNat (262212 : Word)) % 8 == 0) = false) ∧
    (accB.master = Master.half Half.b ∧ spn.domainOn 6 = true ∧ 0 < (List.replicate 8 300).length ∧ (List.replicate 8 300).length ≤ 64 ∧ (BitVec.toNat (327744 : Word)) % 64 + (List.replicate 8 300).length ≤ 64 ∧ spn.spDts = [] ∧ spn.outWindow Half.b ((BitVec.toNat (327744 : Word))) (List.replicate 8 300).length = some 5 ∧ (bitOf (spn.rd (spowReg 5 0)) 4 && !accB.secure || 0 != 0 && 0 != bitsOf (spn.rd (spowReg 5 0)) 8 7) = false ∧ false = false ∧ (!bitOf (spn.rd (spowReg 5 0)) 3 || ((List.replicate 8 300).length == 1 || (List.replicate 8 300).length == 2 || (List.replicate 8 300).length == 4 || (List.replicate 8 300).length == 8) && (BitVec.toNat (327744 : Word)) % (List.replicate 8 300).length == 0) = true ∧ bitsOf (spn.rd (spowReg 5 0)) 5 2 = 3 ∧ Half.b ≠ spn.activeHalf ∧ true = true) ∧
    ((accB.master = Master.half Half.b ∧ spn.domainOn 6 = true ∧ 0 < 8 ∧ 8 ≤ 64 ∧ (BitVec.toNat (327744 : Word)) % 64 + 8 ≤ 64 ∧ spn.spDts = [] ∧ spn.outWindow Half.b ((BitVec.toNat (327744 : Word))) 8 = some 5 ∧ (bitOf (spn.rd (spowReg 5 0)) 4 && !accB.secure || 0 != 0 && 0 != bitsOf (spn.rd (spowReg 5 0)) 8 7) = false ∧ false = false ∧ (!bitOf (spn.rd (spowReg 5 0)) 3 || (8 == 1 || 8 == 2 || 8 == 4 || 8 == 8) && (BitVec.toNat (327744 : Word)) % 8 == 0) = true ∧ bitsOf (spn.rd (spowReg 5 0)) 5 2 = 3 ∧ Half.b ≠ spn.activeHalf ∧ (some [1]).isSome = true) ∧
    (st0.domainOn 6 = true ∧ 0 < [1, 2, 3, 4, 5, 6, 7, 8].length ∧ (BitVec.toNat (64 : Word)) % 64 + [1, 2, 3, 4, 5, 6, 7, 8].length ≤ 64 ∧ st0.outWindow Half.a ((BitVec.toNat (64 : Word))) [1, 2, 3, 4, 5, 6, 7, 8].length = some 0 ∧ (bitOf (st0.rd (spowReg 0 0)) 4 = false ∨ true = true) ∧ (0 = 0 ∨ 0 = bitsOf (st0.rd (spowReg 0 0)) 8 7) ∧ bitOf (st0.rd (spowReg 0 0)) 3 = false ∧ (bitsOf (st0.rd (spowReg 0 0)) 5 2 ≠ 3 ∨ Half.a = st0.activeHalf) ∧ st0.spDts = [] ∧ bitOf (st0.rd (spowReg 0 0)) 2 = false ∧ 32 ≤ 32 ∧ (32 ≤ (List.filter (fun p => p.half == Half.a) st0.spPosts).length))) ∧
    (spn.domainOn 6 = true ∧ 0 < [1, 2, 3, 4, 5, 6, 7, 8].length ∧ (BitVec.toNat (64 : Word)) % 64 + [1, 2, 3, 4, 5, 6, 7, 8].length ≤ 64 ∧ spn.outWindow Half.a ((BitVec.toNat (64 : Word))) [1, 2, 3, 4, 5, 6, 7, 8].length = some 0 ∧ (bitOf (spn.rd (spowReg 0 0)) 4 = false ∨ true = true) ∧ (0 = 0 ∨ 0 = bitsOf (spn.rd (spowReg 0 0)) 8 7) ∧ bitOf (spn.rd (spowReg 0 0)) 3 = false ∧ (bitsOf (spn.rd (spowReg 0 0)) 5 2 ≠ 3 ∨ Half.a = spn.activeHalf) ∧ spn.spDts = [] ∧ bitOf (spn.rd (spowReg 0 0)) 2 = false ∧ 0 = 0 ∧ bitOf (spn.rd (spowReg 0 0)) 1 = false ∧ spn.spanLinkUp = true ∧ (spn.spBuf false Half.a true).length < 32) :=
  ⟨by decide +kernel,
   by decide +kernel,
   by decide +kernel,
   by decide +kernel,
   by decide +kernel,
   by decide +kernel,
   by decide +kernel⟩

/-- The hypotheses of `Obligations.SpanBridge` are met, clause by clause (part 2 of 5). -/
theorem wit_SpanBridge_2 :
    (spn.domainOn 6 = true ∧ 0 < [1, 2, 3, 4, 5, 6, 7, 8].length ∧ (BitVec.toNat (131136 : Word)) % 64 + [1, 2, 3, 4, 5, 6, 7, 8].length ≤ 64 ∧ spn.outWindow Half.a ((BitVec.toNat (131136 : Word))) [1, 2, 3, 4, 5, 6, 7, 8].length = some 2 ∧ (bitOf (spn.rd (spowReg 2 0)) 4 = false ∨ true = true) ∧ (0 = 0 ∨ 0 = bitsOf (spn.rd (spowReg 2 0)) 8 7) ∧ bitOf (spn.rd (spowReg 2 0)) 3 = false ∧ (bitsOf (spn.rd (spowReg 2 0)) 5 2 ≠ 3 ∨ Half.a = spn.activeHalf) ∧ spn.spDts = [] ∧ bitOf (spn.rd (spowReg 2 0)) 2 = false ∧ 0 = 0 ∧ bitOf (spn.rd (spowReg 2 0)) 1 = true ∧ spn.tunEn = true) ∧
    (st1.domainOn 6 = true ∧ 0 < [1, 2, 3, 4, 5, 6, 7, 8].length ∧ (BitVec.toNat (64 : Word)) % 64 + [1, 2, 3, 4, 5, 6, 7, 8].length ≤ 64 ∧ st1.outWindow Half.a ((BitVec.toNat (64 : Word))) [1, 2, 3, 4, 5, 6, 7, 8].length = some 0 ∧ (bitOf (st1.rd (spowReg 0 0)) 4 = false ∨ true = true) ∧ (0 = 0 ∨ 0 = bitsOf (st1.rd (spowReg 0 0)) 8 7) ∧ bitOf (st1.rd (spowReg 0 0)) 3 = false ∧ (bitsOf (st1.rd (spowReg 0 0)) 5 2 ≠ 3 ∨ Half.a = st1.activeHalf) ∧ st1.spDts = [] ∧ bitOf (st1.rd (spowReg 0 0)) 2 = false ∧ 0 = 0 ∧ bitOf (st1.rd (spowReg 0 0)) 1 = false ∧ st1.spanLinkUp = false ∧ st1.pwf.length < 16 ∧ Tbl.get 0 st1.spTags (2 * Half.a.idx + b2n (bitOf (st1.rd (spowReg 0 0)) 1)) < 65536 ∧ (∀ x ∈ st1.spPosts, x.tag ≠ Tbl.get 0 st1.spTags (2 * Half.a.idx + b2n (bitOf (st1.rd (spowReg 0 0)) 1)))) ∧
    (spn.domainOn 6 = true ∧ 0 < [1, 2, 3, 4, 5, 6, 7, 8].length ∧ (BitVec.toNat (65600 : Word)) % 64 + [1, 2, 3, 4, 5, 6, 7, 8].length ≤ 64 ∧ spn.outWindow Half.a ((BitVec.toNat (65600 : Word))) [1, 2, 3, 4, 5, 6, 7, 8].length = some 1 ∧ (bitOf (spn.rd (spowReg 1 0)) 4 = false ∨ true = true) ∧ (0 = 0 ∨ 0 = bitsOf (spn.rd (spowReg 1 0)) 8 7) ∧ bitOf (spn.rd (spowReg 1 0)) 3 = false ∧ (bitsOf (spn.rd (spowReg 1 0)) 5 2 ≠ 3 ∨ Half.a = spn.activeHalf) ∧ [1, 2, 3, 4, 5, 6, 7, 8].length ≤ 64 ∧ spn.spDts = [] ∧ bitOf (spn.rd (spowReg 1 0)) 1 = false ∧ spn.spanLinkUp = true ∧ (spn.spBuf false Half.a false).length < 16) ∧
    (st2.domainOn 6 = true ∧ 0 < [1, 2, 3, 4, 5, 6, 7, 8].length ∧ (BitVec.toNat (65600 : Word)) % 64 + [1, 2, 3, 4, 5, 6, 7, 8].length ≤ 64 ∧ st2.outWindow Half.a ((BitVec.toNat (65600 : Word))) [1, 2, 3, 4, 5, 6, 7, 8].length = some 1 ∧ (bitOf (st2.rd (spowReg 1 0)) 4 = false ∨ true = true) ∧ (0 = 0 ∨ 0 = bitsOf (st2.rd (spowReg 1 0)) 8 7) ∧ bitOf (st2.rd (spowReg 1 0)) 3 = false ∧ (bitsOf (st2.rd (spowReg 1 0)) 5 2 ≠ 3 ∨ Half.a = st2.activeHalf) ∧ [1, 2, 3, 4, 5, 6, 7, 8].length ≤ 64 ∧ st2.spDts = [] ∧ bitOf (st2.rd (spowReg 1 0)) 1 = false ∧ st2.spanLinkUp = true ∧ 16 ≤ (st2.spBuf false Half.a false).length) ∧
    (spnDn.domainOn 6 = true ∧ 0 < [1, 2, 3, 4, 5, 6, 7, 8].length ∧ (BitVec.toNat (65600 : Word)) % 64 + [1, 2, 3, 4, 5, 6, 7, 8].length ≤ 64 ∧ spnDn.outWindow Half.a ((BitVec.toNat (65600 : Word))) [1, 2, 3, 4, 5, 6, 7, 8].length = some 1 ∧ (bitOf (spnDn.rd (spowReg 1 0)) 4 = false ∨ true = true) ∧ (0 = 0 ∨ 0 = bitsOf (spnDn.rd (spowReg 1 0)) 8 7) ∧ bitOf (spnDn.rd (spowReg 1 0)) 3 = false ∧ (bitsOf (spnDn.rd (spowReg 1 0)) 5 2 ≠ 3 ∨ Half.a = spnDn.activeHalf) ∧ [1, 2, 3, 4, 5, 6, 7, 8].length ≤ 64 ∧ spnDn.spDts = [] ∧ bitOf (spnDn.rd (spowReg 1 0)) 1 = false ∧ spnDn.spanLinkUp = false) ∧
    (st3.domainOn 6 = true ∧ 0 < [1, 2, 3, 4, 5, 6, 7, 8].length ∧ (BitVec.toNat (65600 : Word)) % 64 + [1, 2, 3, 4, 5, 6, 7, 8].length ≤ 64 ∧ st3.outWindow Half.a ((BitVec.toNat (65600 : Word))) [1, 2, 3, 4, 5, 6, 7, 8].length = some 1 ∧ (bitOf (st3.rd (spowReg 1 0)) 4 = false ∨ true = true) ∧ (0 = 0 ∨ 0 = bitsOf (st3.rd (spowReg 1 0)) 8 7) ∧ bitOf (st3.rd (spowReg 1 0)) 3 = false ∧ (bitsOf (st3.rd (spowReg 1 0)) 5 2 ≠ 3 ∨ Half.a = st3.activeHalf) ∧ [1, 2, 3, 4, 5, 6, 7, 8].length ≤ 64 ∧ (∀ d ∈ st3.spDts, d.half = Half.a ∧ d.addr ≠ 68719476736 + (BitVec.toNat (65600 : Word)) ∧ d.result = none) ∧ st3.spDts.length = 16) ∧
    (st4.domainOn 6 = true ∧ 0 < [1, 2, 3, 4, 5, 6, 7, 8].length ∧ (BitVec.toNat (65600 : Word)) % 64 + [1, 2, 3, 4, 5, 6, 7, 8].length ≤ 64 ∧ st4.outWindow Half.a ((BitVec.toNat (65600 : Word))) [1, 2, 3, 4, 5, 6, 7, 8].length = some 1 ∧ (bitOf (st4.rd (spowReg 1 0)) 4 = false ∨ true = true) ∧ (0 = 0 ∨ 0 = bitsOf (st4.rd (spowReg 1 0)) 8 7) ∧ bitOf (st4.rd (spowReg 1 0)) 3 = false ∧ (bitsOf (st4.rd (spowReg 1 0)) 5 2 ≠ 3 ∨ Half.a = st4.activeHalf) ∧ [1, 2, 3, 4, 5, 6, 7, 8].length ≤ 64 ∧ st4.spDts = [dt none false] ∧ (dt none false).half = Half.a ∧ (dt none false).master = 1 ∧ (dt none false).addr = 68719476736 + (BitVec.toNat (65600 : Word)) ∧ (dt none false).size = [1, 2, 3, 4, 5, 6, 7, 8].length ∧ (dt none false).secure = true ∧ (dt none false).vi = 0 ∧ (dt none false).data = none ∧ (dt none false).fence = false ∧ (dt none false).result = none) ∧
    (st5.domainOn 6 = true ∧ 0 < [1, 2, 3, 4, 5, 6, 7, 8].length ∧ (BitVec.toNat (65600 : Word)) % 64 + [1, 2, 3, 4, 5, 6, 7, 8].length ≤ 64 ∧ st5.outWindow Half.a ((BitVec.toNat (65600 : Word))) [1, 2, 3, 4, 5, 6, 7, 8].length = some 1 ∧ (bitOf (st5.rd (spowReg 1 0)) 4 = false ∨ true = true) ∧ (0 = 0 ∨ 0 = bitsOf (st5.rd (spowReg 1 0)) 8 7) ∧ bitOf (st5.rd (spowReg 1 0)) 3 = false ∧ (bitsOf (st5.rd (spowReg 1 0)) 5 2 ≠ 3 ∨ Half.a = st5.activeHalf) ∧ [1, 2, 3, 4, 5, 6, 7, 8].length ≤ 64 ∧ st5.spDts = [dt (some (0, [1, 2], 0)) false] ∧ (dt (some (0, [1, 2], 0)) false).half = Half.a ∧ (dt (some (0, [1, 2], 0)) false).master = 1 ∧ (dt (some (0, [1, 2], 0)) false).addr = 68719476736 + (BitVec.toNat (65600 : Word)) ∧ (dt (some (0, [1, 2], 0)) false).size = [1, 2, 3, 4, 5, 6, 7, 8].length ∧ (dt (some (0, [1, 2], 0)) false).secure = true ∧ (dt (some (0, [1, 2], 0)) false).vi = 0 ∧ (dt (some (0, [1, 2], 0)) false).data = none ∧ (dt (some (0, [1, 2], 0)) false).fence = false ∧ (dt (some (0, [1, 2], 0)) false).result = some (0, [1, 2], 0) ∧ st5.tbfNs ≤ 0 + st5.discardNs ∧ 0 = 0) :=
  ⟨by decide +kernel,
   by decide +kernel,
   by decide +kernel,
   by decide +kernel,
   by decide +kernel,
   by decide +kernel,
   by decide +kernel,
   by decide +kernel⟩

/-- The hypotheses of `Obligations.SpanBridge` are met, clause by clause (part 3 of 5). -/
theorem wit_SpanBridge_3 :
    (st6.domainOn 6 = true ∧ 0 < [1, 2, 3, 4, 5, 6, 7, 8].length ∧ (BitVec.toNat (65600 : Word)) % 64 + [1, 2, 3, 4, 5, 6, 7, 8].length ≤ 64 ∧ st6.outWindow Half.a ((BitVec.toNat (65600 : Word))) [1, 2, 3, 4, 5, 6, 7, 8].length = some 1 ∧ (bitOf (st6.rd (spowReg 1 0)) 4 = false ∨ true = true) ∧ (0 = 0 ∨ 0 = bitsOf (st6.rd (spowReg 1 0)) 8 7) ∧ bitOf (st6.rd (spowReg 1 0)) 3 = false ∧ (bitsOf (st6.rd (spowReg 1 0)) 5 2 ≠ 3 ∨ Half.a = st6.activeHalf) ∧ [1, 2, 3, 4, 5, 6, 7, 8].length ≤ 64 ∧ st6.spDts = [dt (some (3, [1, 2], 0)) false] ∧ (dt (some (3, [1, 2], 0)) false).half = Half.a ∧ (dt (some (3, [1, 2], 0)) false).master = 1 ∧ (dt (some (3, [1, 2], 0)) false).addr = 68719476736 + (BitVec.toNat (65600 : Word)) ∧ (dt (some (3, [1, 2], 0)) false).size = [1, 2, 3, 4, 5, 6, 7, 8].length ∧ (dt (some (3, [1, 2], 0)) false).secure = true ∧ (dt (some (3, [1, 2], 0)) false).vi = 0 ∧ (dt (some (3, [1, 2], 0)) false).data = none ∧ (dt (some (3, [1, 2], 0)) false).fence = false ∧ (dt (some (3, [1, 2], 0)) false).result = some (3, [1, 2], 0) ∧ st6.tbfNs ≤ 0 + st6.discardNs ∧ 3 ≠ 0) ∧
    ((spn.spBuf (decide (4 ≤ 0)) (if 0 % 2 = 0 then Half.a else Half.b) (0 == 0 || 0 == 1 || 0 == 4) = [] ∨ (if decide (4 ≤ 0) = true then spn.tunEn && !spn.gated 2 else spn.spanLinkUp) = false) ∧
    (st10.spIn = [rq 0 8589934592] ∧ st10.spBuf (decide (4 ≤ 0)) (if 0 % 2 = 0 then Half.a else Half.b) (0 == 0 || 0 == 1 || 0 == 4) = [rq 0 8589934592] ∧ decide (4 ≤ 0) = false ∧ st10.spanLinkUp = true ∧ st10.spDts = [] ∧ (rq 0 8589934592).kind < 3 ∧ st10.inWindow (rq 0 8589934592) = none)) ∧
    ((Shows spn accA (spanReg Reg.Span.FENCE) ∧ accA.master = Master.half Half.a ∧ spn.spDts = [] ∧ (∀ p ∈ spn.spPosts, p.half ≠ Half.a)) ∧
    (Shows st7 accA (spanReg Reg.Span.FENCE) ∧ accA.master = Master.half Half.a ∧ st7.spDts = [] ∧ st7.spPosts = [pst true 9 0] ∧ (pst true 9 0).half = Half.a) ∧
    (Shows st8 accA (spanReg Reg.Span.FENCE) ∧ accA.master = Master.half Half.a ∧ st8.spDts = [fnc none] ∧ ((fnc none).half = Half.a ∧ (fnc none).master = 1 ∧ (fnc none).addr = spanReg Reg.Span.FENCE ∧ (fnc none).size = 4 ∧ (fnc none).secure = accA.secure ∧ (fnc none).vi = 0 ∧ (fnc none).data = none ∧ (fnc none).fence = true) ∧ (fnc none).result = none)) ∧
    (Shows st9 accA (spanReg Reg.Span.FENCE) ∧ accA.master = Master.half Half.a ∧ st9.spDts = [fnc (some (0, [], 0))] ∧ ((fnc (some (0, [], 0))).half = Half.a ∧ (fnc (some (0, [], 0))).master = 1 ∧ (fnc (some (0, [], 0))).addr = spanReg Reg.Span.FENCE ∧ (fnc (some (0, [], 0))).size = 4 ∧ (fnc (some (0, [], 0))).secure = accA.secure ∧ (fnc (some (0, [], 0))).vi = 0 ∧ (fnc (some (0, [], 0))).data = none ∧ (fnc (some (0, [], 0))).fence = true) ∧ (fnc (some (0, [], 0))).result = some (0, [], 0) ∧ st9.tbfNs ≤ 0 + st9.discardNs ∧ ((fnc (some (0, [], 0))).failed = true ∨ Tbl.get 0 st9.spFail Half.a.idx ≠ 2)) :=
  ⟨by decide +kernel,
   by decide +kernel,
   by unfold Shows; decide +kernel,
   by unfold Shows; decide +kernel⟩

/-- The hypotheses of `Obligations.SpanBridge` are met, clause by clause (part 4 of 5). -/
theorem wit_SpanBridge_4 :
    ((st11.spIn = [rq 0 4294967360] ∧ st11.spBuf (decide (4 ≤ 0)) (if 0 % 2 = 0 then Half.a else Half.b) (0 == 0 || 0 == 1 || 0 == 4) = [rq 0 4294967360] ∧ decide (4 ≤ 0) = false ∧ st11.spanLinkUp = true ∧ st11.spDts = [] ∧ (rq 0 4294967360).kind < 3 ∧ st11.inWindow (rq 0 4294967360) = some 0 ∧ inDenied (st11.rd (spiwReg 0 0)) (rq 0 4294967360) = true) ∧
    (st12.spIn = [rq 0 4294967360] ∧ st12.spBuf (decide (4 ≤ 0)) (if 0 % 2 = 0 then Half.a else Half.b) (0 == 0 || 0 == 1 || 0 == 4) = [rq 0 4294967360] ∧ decide (4 ≤ 0) = false ∧ st12.spanLinkUp = true ∧ st12.spDts = [] ∧ (rq 0 4294967360).kind < 3 ∧ st12.inWindow (rq 0 4294967360) = some 0 ∧ inDenied (st12.rd (spiwReg 0 0)) (rq 0 4294967360) = false ∧ bitsOf (st12.rd (spiwReg 0 0)) 6 2 = (if 0 % 2 = 0 then Half.a else Half.b).other.idx + 1 ∧ false = false)) ∧
    (st13.spIn = [rq 0 4294967360] ∧ st13.spBuf (decide (4 ≤ 0)) (if 0 % 2 = 0 then Half.a else Half.b) (0 == 0 || 0 == 1 || 0 == 4) = [rq 0 4294967360] ∧ decide (4 ≤ 0) = false ∧ st13.spanLinkUp = true ∧ st13.spDts = [] ∧ (rq 0 4294967360).kind < 3 ∧ st13.inWindow (rq 0 4294967360) = some 0 ∧ inDenied (st13.rd (spiwReg 0 0)) (rq 0 4294967360) = false ∧ bitsOf (st13.rd (spiwReg 0 0)) 6 2 = (if 0 % 2 = 0 then Half.a else Half.b).other.idx + 1 ∧ true = true ∧ st13.memTakes (if 0 % 2 = 0 then Half.a else Half.b).other (bitOf (st13.rd (spiwReg 0 0)) 5) ((st13.iwLocal 0 + ((rq 0 4294967360).addr - st13.iwBase 0)) % 2 ^ 64) (rq 0 4294967360).size = true ∧ (rq 0 4294967360).kind ≠ 2) ∧
    ((st14.spIn = [rq 2 4294967360] ∧ st14.spBuf (decide (4 ≤ 2)) (if 2 % 2 = 0 then Half.a else Half.b) (2 == 0 || 2 == 1 || 2 == 4) = [rq 2 4294967360] ∧ decide (4 ≤ 2) = false ∧ st14.spanLinkUp = true ∧ st14.spDts = [] ∧ (rq 2 4294967360).kind < 3 ∧ st14.inWindow (rq 2 4294967360) = some 0 ∧ inDenied (st14.rd (spiwReg 0 0)) (rq 2 4294967360) = false ∧ bitsOf (st14.rd (spiwReg 0 0)) 6 2 = (if 2 % 2 = 0 then Half.a else Half.b).other.idx + 1 ∧ true = true ∧ st14.memTakes (if 2 % 2 = 0 then Half.a else Half.b).other (bitOf (st14.rd (spiwReg 0 0)) 5) ((st14.iwLocal 0 + ((rq 2 4294967360).addr - st14.iwBase 0)) % 2 ^ 64) (rq 2 4294967360).size = true ∧ (rq 2 4294967360).kind = 2) ∧
    spn.spAns = [] ∧
    (st15.spAns = [an true 0] ∧ (an true 0).half = Half.a ∧ (an true 0).tunnel = true ∧ (an true 0).what = 0 ∧ st15.spIn = [] ∧ st15.spDts = [st16] ∧ (an true 0).forDt st16 = true ∧ st16.result = none ∧ st16.fence = false) ∧
    (st17.spAns = [an true 0] ∧ (an true 0).half = Half.a ∧ (an true 0).tunnel = true ∧ (an true 0).what = 0 ∧ st17.spIn = [] ∧ st17.spDts = [])) ∧
    ((st18.spAns = [an true 1] ∧ (an true 1).half = Half.a ∧ (an true 1).tunnel = true ∧ (an true 1).what = 1 ∧ st18.spPosts = [pst true 9 0] ∧ (an true 1).forPost (pst true 9 0) = true) ∧
    (st19.spAns = [an true 1] ∧ (an true 1).half = Half.a ∧ (an true 1).tunnel = true ∧ (an true 1).what = 1 ∧ st19.spPosts = []) ∧
    (st20.spAns = [an true 2] ∧ (an true 2).half = Half.a ∧ (an true 2).tunnel = true ∧ (an true 2).what = 2 ∧ (an true 2).reason < 16 ∧ st20.spPosts = [pst true 9 0] ∧ (an true 2).forPost (pst true 9 0) = true ∧ (pst true 9 0).tag < 65536 ∧ (pst true 9 0).win < 32 ∧ st20.pwf.length < 16) ∧
    (st21.spAns = [an true 2] ∧ (an true 2).half = Half.a ∧ (an true 2).tunnel = true ∧ (an true 2).what = 2 ∧ (an true 2).reason < 16 ∧ st21.spPosts = [pst true 9 0] ∧ (an true 2).forPost (pst true 9 0) = true ∧ 16 ≤ st21.pwf.length) ∧
    (st22.spAns = [an true 2] ∧ (an true 2).half = Half.a ∧ (an true 2).tunnel = true ∧ (an true 2).what = 2 ∧ (an true 2).reason < 16 ∧ st22.spPosts = []) ∧
    spn.spDts = []) ∧
    (Takes st23 accM (spanReg Reg.Span.PWF_POP) ∧ bitOf 0 0 = false) ∧
    (Takes st23 accM (spanReg Reg.Span.PWF_POP) ∧ bitOf 1 0 = true) :=
  ⟨by decide +kernel,
   by decide +kernel,
   by decide +kernel,
   by decide +kernel,
   by unfold Takes; decide +kernel⟩

/-- The hypotheses of `Obligations.SpanBridge` are met, clause by clause (part 5 of 5). -/
theorem wit_SpanBridge_5 :
    (((if Half.a = Half.a then st29.hostRxA else st29.hostRxB) = [sfr 16383 19 (rqPay 0 8)] ∧ etherType (sfr 16383 19 (rqPay 0 8)).octs = 34998 ∧ st29.domainOn 6 = true ∧ st29.gated 2 = false ∧ ((List.drop (payloadAt (sfr 16383 19 (rqPay 0 8)).octs) (sfr 16383 19 (rqPay 0 8)).octs).getD 0 0 / 16 = 1 ∧ be (List.drop (payloadAt (sfr 16383 19 (rqPay 0 8)).octs) (sfr 16383 19 (rqPay 0 8)).octs) 4 2 % 2 ^ 14 = st29.selfUnit ∧ st29.tunEn = true) ∧ (List.drop (payloadAt (sfr 16383 19 (rqPay 0 8)).octs) (sfr 16383 19 (rqPay 0 8)).octs).getD 0 0 % 16 = 3 ∧ (List.take (be (List.drop (payloadAt (sfr 16383 19 (rqPay 0 8)).octs) (sfr 16383 19 (rqPay 0 8)).octs) 6 2) (List.drop 8 (List.drop (payloadAt (sfr 16383 19 (rqPay 0 8)).octs) (sfr 16383 19 (rqPay 0 8)).octs))).getD 0 0 % 4 = 0 ∧ 0 < (List.take (be (List.drop (payloadAt (sfr 16383 19 (rqPay 0 8)).octs) (sfr 16383 19 (rqPay 0 8)).octs) 6 2) (List.drop 8 (List.drop (payloadAt (sfr 16383 19 (rqPay 0 8)).octs) (sfr 16383 19 (rqPay 0 8)).octs))).getD 1 0) ∧ (List.take (be (List.drop (payloadAt (sfr 16383 19 (rqPay 0 8)).octs) (sfr 16383 19 (rqPay 0 8)).octs) 6 2) (List.drop 8 (List.drop (payloadAt (sfr 16383 19 (rqPay 0 8)).octs) (sfr 16383 19 (rqPay 0 8)).octs))).getD 1 0 ≤ 64 ∧ (st29.spBuf true Half.a true).length < 64) ∧
    (((if Half.a = Half.a then st30.hostRxA else st30.hostRxB) = [sfr 16383 19 (rqPay 0 8)] ∧ etherType (sfr 16383 19 (rqPay 0 8)).octs = 34998 ∧ st30.domainOn 6 = true ∧ st30.gated 2 = false ∧ ((List.drop (payloadAt (sfr 16383 19 (rqPay 0 8)).octs) (sfr 16383 19 (rqPay 0 8)).octs).getD 0 0 / 16 = 1 ∧ be (List.drop (payloadAt (sfr 16383 19 (rqPay 0 8)).octs) (sfr 16383 19 (rqPay 0 8)).octs) 4 2 % 2 ^ 14 = st30.selfUnit ∧ st30.tunEn = true) ∧ (List.drop (payloadAt (sfr 16383 19 (rqPay 0 8)).octs) (sfr 16383 19 (rqPay 0 8)).octs).getD 0 0 % 16 = 3 ∧ (List.take (be (List.drop (payloadAt (sfr 16383 19 (rqPay 0 8)).octs) (sfr 16383 19 (rqPay 0 8)).octs) 6 2) (List.drop 8 (List.drop (payloadAt (sfr 16383 19 (rqPay 0 8)).octs) (sfr 16383 19 (rqPay 0 8)).octs))).getD 0 0 % 4 = 0 ∧ 0 < (List.take (be (List.drop (payloadAt (sfr 16383 19 (rqPay 0 8)).octs) (sfr 16383 19 (rqPay 0 8)).octs) 6 2) (List.drop 8 (List.drop (payloadAt (sfr 16383 19 (rqPay 0 8)).octs) (sfr 16383 19 (rqPay 0 8)).octs))).getD 1 0) ∧ (List.take (be (List.drop (payloadAt (sfr 16383 19 (rqPay 0 8)).octs) (sfr 16383 19 (rqPay 0 8)).octs) 6 2) (List.drop 8 (List.drop (payloadAt (sfr 16383 19 (rqPay 0 8)).octs) (sfr 16383 19 (rqPay 0 8)).octs))).getD 1 0 ≤ 64 ∧ 64 ≤ (st30.spBuf true Half.a true).length) ∧
    (((nowSt 1000000 [dt (some (0, [], 5)) true] []).spDts = [dt (some (0, [], 5)) true] ∧ (dt (some (0, [], 5)) true).result = some (0, [], 5) ∧ (nowSt 1000000 [dt (some (0, [], 5)) true] []).tbfNs - ((0, [], 5) : Nat × List Word × Nat).2.2 < (nowSt 1000000 [dt (some (0, [], 5)) true] []).discardNs) ∧
    ((nowSt 1000005 [dt (some (0, [], 5)) true] []).spDts = [dt (some (0, [], 5)) true] ∧ (dt (some (0, [], 5)) true).result = some (0, [], 5) ∧ (nowSt 1000005 [dt (some (0, [], 5)) true] []).discardNs ≤ (nowSt 1000005 [dt (some (0, [], 5)) true] []).tbfNs - ((0, [], 5) : Nat × List Word × Nat).2.2) ∧
    ((rs.setGateSt 14 0).domainOn 6 = false ∨ (rs.setGateSt 14 0).gated 2 = true) ∧
    ((nowSt 400 [dt none true] []).domainOn 6 = true ∧ (nowSt 400 [dt none true] []).gated 2 = false ∧ (nowSt 400 [dt none true] []).spDts = [dt none true] ∧ (nowSt 400 [dt none true] []).spPosts = [] ∧ (dt none true).sent = some 5 ∧ (dt none true).result = none ∧ (dt none true).fence = false)) ∧
    (((nowSt 400 [] [pst true 9 5]).domainOn 6 = true ∧ (nowSt 400 [] [pst true 9 5]).gated 2 = false ∧ (nowSt 400 [] [pst true 9 5]).spPosts = [pst true 9 5] ∧ (nowSt 400 [] [pst true 9 5]).pwf.length < 16 ∧ (pst true 9 5).tag < 65536 ∧ (pst true 9 5).win < 32 ∧ ((pst true 9 5).tunnel = false ∨ (nowSt 400 [] [pst true 9 5]).tbfNs < (pst true 9 5).time + max 1 ((nowSt 400 [] [pst true 9 5]).fld (spanReg Reg.Span.DR_CFG) 16 16) * 1000)) ∧
    ((nowSt 500005 [] [pst true 9 5]).domainOn 6 = true ∧ (nowSt 500005 [] [pst true 9 5]).gated 2 = false ∧ (nowSt 500005 [] [pst true 9 5]).spPosts = [pst true 9 5] ∧ (nowSt 500005 [] [pst true 9 5]).pwf.length < 16 ∧ (pst true 9 5).tag < 65536 ∧ (pst true 9 5).win < 32 ∧ (pst true 9 5).tunnel = true ∧ (pst true 9 5).time + max 1 ((nowSt 500005 [] [pst true 9 5]).fld (spanReg Reg.Span.DR_CFG) 16 16) * 1000 ≤ (nowSt 500005 [] [pst true 9 5]).tbfNs) ∧
    spn.spanLinkUp = true ∧
    st24.spanLinkUp = false ∧
    (st25.spanLinkUp = false ∧ st25.spPosts = [pst false 9 0] ∧ (pst false 9 0).tunnel = false ∧ st25.pwf.length < 16 ∧ (pst false 9 0).tag < 65536 ∧ (pst false 9 0).win < 32) ∧
    (if Half.a = Half.a then spn.hostRxA else spn.hostRxB) = []) ∧
    ((st26.gated 2 = true ∧ (∀ x ∈ if Half.a = Half.a then st26.hostRxA else st26.hostRxB, isBark x.octs = false)) ∧
    ((if Half.a = Half.a then st27.hostRxA else st27.hostRxB) = [sfr 16383 35 (rqPay 0 8)] ∧ etherType (sfr 16383 35 (rqPay 0 8)).octs = 34998 ∧ st27.domainOn 6 = true ∧ st27.gated 2 = false ∧ ((List.drop (payloadAt (sfr 16383 35 (rqPay 0 8)).octs) (sfr 16383 35 (rqPay 0 8)).octs).getD 0 0 / 16 ≠ 1 ∨ (List.drop (payloadAt (sfr 16383 35 (rqPay 0 8)).octs) (sfr 16383 35 (rqPay 0 8)).octs).getD 0 0 % 16 = 0 ∨ 6 < (List.drop (payloadAt (sfr 16383 35 (rqPay 0 8)).octs) (sfr 16383 35 (rqPay 0 8)).octs).getD 0 0 % 16 ∨ (List.drop (payloadAt (sfr 16383 35 (rqPay 0 8)).octs) (sfr 16383 35 (rqPay 0 8)).octs).getD 0 0 % 16 ≠ 1 ∧ ¬((List.drop (payloadAt (sfr 16383 35 (rqPay 0 8)).octs) (sfr 16383 35 (rqPay 0 8)).octs).getD 0 0 / 16 = 1 ∧ be (List.drop (payloadAt (sfr 16383 35 (rqPay 0 8)).octs) (sfr 16383 35 (rqPay 0 8)).octs) 4 2 % 2 ^ 14 = st27.selfUnit ∧ st27.tunEn = true)))) ∧
    ((if Half.a = Half.a then st28.hostRxA else st28.hostRxB) = [sfr 16383 18 (List.replicate 32 9)] ∧ etherType (sfr 16383 18 (List.replicate 32 9)).octs = 34998 ∧ st28.domainOn 6 = true ∧ st28.gated 2 = false ∧ ((List.drop (payloadAt (sfr 16383 18 (List.replicate 32 9)).octs) (sfr 16383 18 (List.replicate 32 9)).octs).getD 0 0 / 16 = 1 ∧ be (List.drop (payloadAt (sfr 16383 18 (List.replicate 32 9)).octs) (sfr 16383 18 (List.replicate 32 9)).octs) 4 2 % 2 ^ 14 = st28.selfUnit ∧ st28.tunEn = true) ∧ (List.drop (payloadAt (sfr 16383 18 (List.replicate 32 9)).octs) (sfr 16383 18 (List.replicate 32 9)).octs).getD 0 0 % 16 = 2) ∧
    ((if Half.a = Half.a then st31.hostRxA else st31.hostRxB) = [sfr 16383 21 [0, 0, 0, 9]] ∧ etherType (sfr 16383 21 [0, 0, 0, 9]).octs = 34998 ∧ st31.domainOn 6 = true ∧ st31.gated 2 = false ∧ ((List.drop (payloadAt (sfr 16383 21 [0, 0, 0, 9]).octs) (sfr 16383 21 [0, 0, 0, 9]).octs).getD 0 0 / 16 = 1 ∧ be (List.drop (payloadAt (sfr 16383 21 [0, 0, 0, 9]).octs) (sfr 16383 21 [0, 0, 0, 9]).octs) 4 2 % 2 ^ 14 = st31.selfUnit ∧ st31.tunEn = true) ∧ (List.drop (payloadAt (sfr 16383 21 [0, 0, 0, 9]).octs) (sfr 16383 21 [0, 0, 0, 9]).octs).getD 0 0 % 16 = 5) :=
  ⟨⟨by decide +kernel, by decide +kernel⟩,
   ⟨by decide +kernel, by decide +kernel⟩,
   by decide +kernel,
   by decide +kernel,
   by decide +kernel,
   by decide +kernel⟩

end Span

namespace Lines

/-- Half A's controller enabled: source 5 (SGI, normal, priority 3, hart 2) pending, source 9 the same of priority 3, source 257
(level, secure, priority 7, hart 2) with its line raised, source 6 secure; source 400 ACTIVE at hart 1. -/
def irqSt : State :=
  let s := (rs.wrN (intcReg .a Reg.Intc.INTC_CTRL) 3)
  let s := ((((s.wrN (srcKey .a 5) 0x10203).wrN (srcKey .a 9) 0x10203).wrN (srcKey .a 257) 0x217).wrN (srcKey .a 6) 0x215).wrN (srcKey .a 400) 0x20112
  (s.wrN (sysBase + Reg.Hdr.IRQ_RAW) 1).wrN (sysBase + Reg.Hdr.IRQ_EN) 1
/-- DBG_EN and DBG_LOCK. -/
def dbgSt (en lock : Nat) : State := (rs.wrN (sysBase + Reg.Sys.DBG_EN) en).wrN (sysBase + Reg.Sys.DBG_LOCK) lock
/-- Counter 3 of bank ECSW selects LOOKUP, counter 0 of ECA CYCLES; counter 3 stands at 2^48 - 1; both run where `on`. -/
def ecSt (on : Bool) : State :=
  let s := ((rs.wrN (ecReg 2 3 Reg.Ec.CFG) 0x94).wrN (ecReg 2 3 Reg.Ec.CNT_LO) 0xFFFFFFFF).wrN (ecReg 2 3 Reg.Ec.CNT_HI) 0xFFFF
  let s := if on then s.wrN (ecBase 2 + Reg.Ec.BANK_EN) 0x8 else s
  { s.wrN (ecReg 0 0 Reg.Ec.CFG) 1 with ecShadow := [(67, 0x1234)] }

/-- The hypotheses of `Obligations.InterruptsDebugCounters` are met, clause by clause. -/
theorem wit_InterruptsDebugCounters :
    ((rs.setGateSt 2 0).domainOn Half.a.pd = false ∧
    (irqSt.domainOn Half.a.pd = true ∧ 32 ≤ 257) ∧
    ((rs.setGateSt 2 0).domainOn Half.a.pd = false ∨ ((rs.setGateSt 2 0).hart (7 * Half.a.idx + 3)).halted ≠ none) ∧
    ((rs.setGateSt 2 1).domainOn Half.a.pd = true ∧ ((rs.setGateSt 2 1).hart (7 * Half.a.idx + 3)).halted = none ∧ (rs.setGateSt 2 1).hartFrozen (7 * Half.a.idx + 3) = false ∧ (rs.setGateSt 2 1).invasive false = true) ∧
    ((rs.setGateSt 2 1).domainOn Half.a.pd = true ∧ ((rs.setGateSt 2 1).hart (7 * Half.a.idx + 3)).halted = none ∧ (rs.setGateSt 2 1).hartFrozen (7 * Half.a.idx + 3) = false ∧ (rs.setGateSt 2 1).invasive true = false) ∧
    (ecSt false).ecOn 2 3 = false ∧
    (3 < ecLen 2 ∧ (ecSt true).ecOn 2 3 = true ∧ (ecSt true).ecSelOk 2 3 = true ∧ (ecSt true).ecCount 2 3 = 2 ^ 48 - 1 ∧ (∀ j < 32, (ecSt true).ecSrc 2 j ≠ 255)) ∧
    (((rs.setGateSt 2 1).setBit (lspReg 1 Reg.Lsp.LS_STAT) 1 true).domainOn Half.a.pd = true ∧ (((rs.setGateSt 2 1).setBit (lspReg 1 Reg.Lsp.LS_STAT) 1 true).hart (7 * Half.a.idx + 5)).halted = none ∧ ((rs.setGateSt 2 1).setBit (lspReg 1 Reg.Lsp.LS_STAT) 1 true).hartFrozen (7 * Half.a.idx + 5) = true)) ∧
    ((Shows irqSt accM (hartReg Half.a 2 (claimOff true)) ∧ ((irqSt.asSent accM).secure || !true) = false) ∧
    (Shows irqSt accA (hartReg Half.a 2 (claimOff true)) ∧ 257 < 1024 ∧ ((irqSt.asSent accA).secure || !true) = true ∧ irqSt.eligible Half.a 2 true 257 = true ∧ (∀ m < 1024, irqSt.eligible Half.a 2 true m = true → irqSt.fld (srcKey Half.a m) 0 4 < irqSt.fld (srcKey Half.a 257) 0 4 ∨ irqSt.fld (srcKey Half.a m) 0 4 = irqSt.fld (srcKey Half.a 257) 0 4 ∧ 257 ≤ m))) ∧
    ((Takes rs accA (smrKey Half.a 3 true) ∧ (rs.asSent accA).secure = true) ∧
    (Takes rs accM (smrKey Half.a 3 true) ∧ (rs.asSent accM).secure = false) ∧
    (Takes irqSt accM (srcKey Half.a 257) ∧ (irqSt.asSent accM).secure = false ∧ irqSt.bit (srcKey Half.a 257) 4 = true) ∧
    (Takes irqSt accA (srcKey Half.a 400) ∧ (irqSt.asSent accA).secure = true ∧ irqSt.srcActive Half.a 400 = true) ∧
    (Takes irqSt accM (srcKey Half.a 5) ∧ (irqSt.bit (srcKey Half.a 5) 4 = false ∧ bitOf 1551 4 = false) ∧ irqSt.srcActive Half.a 5 = false) ∧
    (Takes irqSt accM (hartReg Half.a 1 (claimOff true)) ∧ true = true ∧ (irqSt.asSent accM).secure = false) ∧
    (Takes irqSt accA (hartReg Half.a 1 (claimOff true)) ∧ (irqSt.asSent accA).secure = true ∧ ((BitVec.toNat (400 : Word)) < 1024 ∧ irqSt.srcActive Half.a ((BitVec.toNat (400 : Word))) = true ∧ irqSt.bit (srcKey Half.a ((BitVec.toNat (400 : Word)))) 4 = true ∧ srcTarget (irqSt.rd (srcKey Half.a ((BitVec.toNat (400 : Word))))) = 1))) ∧
    ((Takes irqSt accA (hartReg Half.a 2 (claimOff true)) ∧ (irqSt.asSent accA).secure = true ∧ (¬((BitVec.toNat (400 : Word)) < 1024 ∧ irqSt.srcActive Half.a ((BitVec.toNat (400 : Word))) = true ∧ irqSt.bit (srcKey Half.a ((BitVec.toNat (400 : Word)))) 4 = true ∧ srcTarget (irqSt.rd (srcKey Half.a ((BitVec.toNat (400 : Word))))) = 2))) ∧
    (Takes rs accM (sysBase + Reg.Sys.DBG_EN) ∧ accM.secure = false ∧ accM.master = Master.half Half.a) ∧
    (Takes (dbgSt 12 3) accA (sysBase + Reg.Sys.DBG_EN) ∧ accA.secure = true ∧ accA.master = Master.half Half.a ∧ (dbgSt 12 3).worn (sysBase + Reg.Sys.DBG_EN) = false) ∧
    (Takes (dbgSt 12 3) accS (sysBase + Reg.Sys.DBG_EN) ∧ ((dbgSt 12 3).asSent accS).secure = false ∧ accS.master = Master.shep) ∧
    (Takes (ssn (dbgSt 12 3)) accS (sysBase + Reg.Sys.DBG_EN) ∧ ((ssn (dbgSt 12 3)).asSent accS).secure = true ∧ accS.master = Master.shep ∧ (ssn (dbgSt 12 3)).worn (sysBase + Reg.Sys.DBG_EN) = false) ∧
    (Takes rs accM (sysBase + Reg.Sys.DBG_LOCK) ∧ accM.secure = false ∧ accM.master = Master.half Half.a) ∧
    (Takes (dbgSt 12 3) accA (sysBase + Reg.Sys.DBG_LOCK) ∧ accA.secure = true ∧ accA.master = Master.half Half.a ∧ (dbgSt 12 3).worn (sysBase + Reg.Sys.DBG_LOCK) = false)) ∧
    (Takes (dbgSt 12 3) accS (sysBase + Reg.Sys.DBG_LOCK) ∧ ((dbgSt 12 3).asSent accS).secure = false ∧ accS.master = Master.shep) ∧
    (Takes (ssn (dbgSt 12 3)) accS (sysBase + Reg.Sys.DBG_LOCK) ∧ ((ssn (dbgSt 12 3)).asSent accS).secure = true ∧ accS.master = Master.shep ∧ (ssn (dbgSt 12 3)).worn (sysBase + Reg.Sys.DBG_LOCK) = false) ∧
    Takes (ecSt true) accM (ecBase 2 + Reg.Ec.BANK_EN) :=
  ⟨by decide +kernel,
   by unfold Shows; decide +kernel,
   by unfold Takes; decide +kernel,
   by unfold Takes; decide +kernel,
   by unfold Takes; decide +kernel⟩

/-- The hypotheses of `Obligations.SoftwareInterrupts` are met, clause by clause. -/
theorem wit_SoftwareInterrupts :
    (Takes irqSt accM (intcReg Half.a Reg.Intc.SGI) ∧ bitsOf 32 0 5 = 0) ∧
    (Takes irqSt accM (intcReg Half.a Reg.Intc.SGI) ∧ bitsOf 6 0 5 ≠ 0 ∧ (irqSt.asSent accM).secure = false ∧ irqSt.bit (srcKey Half.a (bitsOf 6 0 5)) 4 = true) ∧
    (Takes irqSt accA (intcReg Half.a Reg.Intc.SGI) ∧ bitsOf 6 0 5 ≠ 0 ∧ (irqSt.asSent accA).secure = true) :=
  by unfold Takes; decide +kernel

/-- The hypotheses of `Obligations.CounterWords` are met, clause by clause. -/
theorem wit_CounterWords :
    ((3 < ecLen 2 ∧ Shows (ecSt true) accM (ecReg 2 3 Reg.Ec.CNT_LO)) ∧
    (3 < ecLen 2 ∧ Shows (ecSt true) accM (ecReg 2 3 Reg.Ec.CNT_HI))) ∧
    (3 < ecLen 2 ∧ Takes (ecSt true) accM (ecReg 2 3 Reg.Ec.CNT_HI) ∧ (ecSt true).bit (ecBase 2 + Reg.Ec.BANK_EN) 3 = true) ∧
    (3 < ecLen 2 ∧ Takes (ecSt true) accM (ecReg 2 3 Reg.Ec.CNT_LO) ∧ (ecSt true).bit (ecBase 2 + Reg.Ec.BANK_EN) 3 = true) ∧
    (3 < ecLen 2 ∧ Takes (ecSt false) accM (ecReg 2 3 Reg.Ec.CNT_HI) ∧ (ecSt false).bit (ecBase 2 + Reg.Ec.BANK_EN) 3 = false) ∧
    (3 < ecLen 2 ∧ Takes (ecSt false) accM (ecReg 2 3 Reg.Ec.CNT_LO) ∧ (ecSt false).bit (ecBase 2 + Reg.Ec.BANK_EN) 3 = false ∧ Tbl.get 0 (ecSt false).ecShadow (32 * 2 + 3) < 2 ^ 16) :=
  ⟨by unfold Shows; decide +kernel,
   by unfold Takes; decide +kernel⟩

end Lines

namespace Keys

/-- A captured slot command: operation, slot and failure; parent 3, record 7. -/
def vltCmd (o : Nat × Nat × Option Nat) : KsCmd :=
  { op := o.1, slot := o.2.1, fail := o.2.2, parent := 3, record := 7, acc := accA, attr0 := 0x00024000, key := List.range 32,
    label := [0x41], gen := 9, st0 := 0x80025000, boot := 77 }
/-- The vault provisioned, the generator ready; slot 3 a KDF key (normal, VI 0, depth 0), slot 4 its child an HMAC key, slot 5 a
COUNTED AES-256 key of VI 3 with no use left, slot 6 a secure KDF key at depth 3; record 7 committed in bank 0; an association on slot 3. -/
def vltSt (valid : Bool) (op : Option (Nat × Nat × Option Nat)) : State :=
  { rs with
    rst := []
    drsValid := valid
    drsGen := 1
    tamperLatch := 4
    slots := [(3, { valid := true, alg := 2, usage := 0x50, gen := 9, key := [1, 2], fromDrs := true }),
      (4, { valid := true, alg := 4, usage := 0x40, gen := 2, key := [3], parent := some 3, depth := 1 }),
      (5, { valid := true, alg := 3, usage := 0x41, life := 1, vi := 3, gen := 1, key := [4] }),
      (6, { valid := true, alg := 2, usage := 0x10, world := true, depth := 3, key := [5] }),
      (8, { valid := true, alg := 2, usage := 0x10, life := 1, count := 2, key := [6] })]
    records := [(224, 5), (225, 0x20401), (226, 7), (239, 0xFFFFFFFA)]
    ks := op.map (vltCmd) }
/-- The same with the shadow attributes set. -/
def vltSh (a0 a1 : Nat) (lbl : Nat) : State :=
  ((((vltSt true none).wrN (keysReg Reg.Keys.SH_ATTR0) a0).wrN (keysReg Reg.Keys.SH_ATTR1) a1).wrN (keysReg Reg.Keys.SH_LABEL) lbl).wrN (keysReg Reg.Keys.SH_KDF) 0x0104 |>.wrN (keysBase + Reg.Hdr.OWNER) 0x306
/-- The vault without a root secret, the generator ready. -/
def vltTr : State := (vltSt false none).setBit (trngBase + Reg.Trng.TRNG_STAT) 0 true
/-- A state of these witnesses. -/
def st0 := { vltSt true none with supplied := false }
/-- A state of these witnesses. -/
def st1 := { (vltSt true (some (1, 3, none))) with sas := [(1, { en := true, slot := 3 })] }
/-- A state of these witnesses. -/
def st2 := { (vltSt true (some (7, 9, none))) with records := [] }

/-- The hypotheses of `Obligations.KeyVault` are met, clause by clause (part 1 of 3). -/
theorem wit_KeyVault_1 :
    ((Takes (vltSh 147472 0 0) accM (keysReg Reg.Keys.KS_CMD) ∧ (vltSh 147472 0 0).ks = none ∧ (((vltSh 147472 0 0).slot 9).valid = true → (((vltSh 147472 0 0).slot 9).world = true → ((vltSh 147472 0 0).asSent accM).secure = true) ∧ ((if accM.master = Master.shep then 0 else 0) = 0 ∨ (if accM.master = Master.shep then 0 else 0) = ((vltSh 147472 0 0).slot 9).vi)) ∧ (((vltSh 147472 0 0).slot 4).valid = true → (((vltSh 147472 0 0).slot 4).world = true → ((vltSh 147472 0 0).asSent accM).secure = true) ∧ ((if accM.master = Master.shep then 0 else 0) = 0 ∨ (if accM.master = Master.shep then 0 else 0) = ((vltSh 147472 0 0).slot 4).vi)) ∧ ((bitOf ((vltSh 147472 0 0).rd (keysReg Reg.Keys.SH_ATTR0)) 27 = true → ((vltSh 147472 0 0).asSent accM).secure = true) ∧ ((if accM.master = Master.shep then 0 else 0) = 0 ∨ (if accM.master = Master.shep then 0 else 0) = bitsOf ((vltSh 147472 0 0).rd (keysReg Reg.Keys.SH_ATTR0)) 20 7))) ∧ (bitsOf ((vltSh 147472 0 0).rd (keysReg Reg.Keys.SH_ATTR0)) 29 2 ≠ 3 ∧ 1 ≤ bitsOf ((vltSh 147472 0 0).rd (keysReg Reg.Keys.SH_ATTR0)) 16 4 ∧ bitsOf ((vltSh 147472 0 0).rd (keysReg Reg.Keys.SH_ATTR0)) 16 4 ≤ 5 ∧ bitsOf ((vltSh 147472 0 0).rd (keysReg Reg.Keys.SH_ATTR0)) 8 8 ≠ 0 ∧ (bitsOf ((vltSh 147472 0 0).rd (keysReg Reg.Keys.SH_ATTR0)) 29 2 = 1 → (vltSh 147472 0 0).rd (keysReg Reg.Keys.SH_ATTR1) ≠ 0)) ∧ ((vltSh 147472 0 0).slot 4).spent = false ∧ bitOf ((vltSh 147472 0 0).rd (keysReg Reg.Keys.SH_ATTR0)) 27 = ((vltSh 147472 0 0).slot 4).world ∧ bitsOf ((vltSh 147472 0 0).rd (keysReg Reg.Keys.SH_ATTR0)) 20 7 = ((vltSh 147472 0 0).slot 4).vi ∧ (((vltSh 147472 0 0).slot 4).usage.testBit 4 = false ∨ ((vltSh 147472 0 0).slot 4).alg ≠ 2)) ∧
    ((Takes (vltSh 134365200 0 0) accA (keysReg Reg.Keys.KS_CMD) ∧ (vltSh 134365200 0 0).ks = none ∧ (((vltSh 134365200 0 0).slot 9).valid = true → (((vltSh 134365200 0 0).slot 9).world = true → ((vltSh 134365200 0 0).asSent accA).secure = true) ∧ ((if accA.master = Master.shep then 0 else 0) = 0 ∨ (if accA.master = Master.shep then 0 else 0) = ((vltSh 134365200 0 0).slot 9).vi)) ∧ (((vltSh 134365200 0 0).slot 6).valid = true → (((vltSh 134365200 0 0).slot 6).world = true → ((vltSh 134365200 0 0).asSent accA).secure = true) ∧ ((if accA.master = Master.shep then 0 else 0) = 0 ∨ (if accA.master = Master.shep then 0 else 0) = ((vltSh 134365200 0 0).slot 6).vi)) ∧ ((bitOf ((vltSh 134365200 0 0).rd (keysReg Reg.Keys.SH_ATTR0)) 27 = true → ((vltSh 134365200 0 0).asSent accA).secure = true) ∧ ((if accA.master = Master.shep then 0 else 0) = 0 ∨ (if accA.master = Master.shep then 0 else 0) = bitsOf ((vltSh 134365200 0 0).rd (keysReg Reg.Keys.SH_ATTR0)) 20 7))) ∧ (bitsOf ((vltSh 134365200 0 0).rd (keysReg Reg.Keys.SH_ATTR0)) 29 2 ≠ 3 ∧ 1 ≤ bitsOf ((vltSh 134365200 0 0).rd (keysReg Reg.Keys.SH_ATTR0)) 16 4 ∧ bitsOf ((vltSh 134365200 0 0).rd (keysReg Reg.Keys.SH_ATTR0)) 16 4 ≤ 5 ∧ bitsOf ((vltSh 134365200 0 0).rd (keysReg Reg.Keys.SH_ATTR0)) 8 8 ≠ 0 ∧ (bitsOf ((vltSh 134365200 0 0).rd (keysReg Reg.Keys.SH_ATTR0)) 29 2 = 1 → (vltSh 134365200 0 0).rd (keysReg Reg.Keys.SH_ATTR1) ≠ 0)) ∧ ((vltSh 134365200 0 0).slot 6).spent = false ∧ bitOf ((vltSh 134365200 0 0).rd (keysReg Reg.Keys.SH_ATTR0)) 27 = ((vltSh 134365200 0 0).slot 6).world ∧ bitsOf ((vltSh 134365200 0 0).rd (keysReg Reg.Keys.SH_ATTR0)) 20 7 = ((vltSh 134365200 0 0).slot 6).vi ∧ ((vltSh 134365200 0 0).slot 6).usage.testBit 4 = true ∧ ((vltSh 134365200 0 0).slot 6).alg = 2 ∧ ((vltSh 134365200 0 0).slot 6).depth = 3) ∧
    ((Takes (vltSh 147472 0 0) accA (keysReg Reg.Keys.KS_CMD) ∧ (vltSh 147472 0 0).ks = none ∧ (((vltSh 147472 0 0).slot 3).valid = true → (((vltSh 147472 0 0).slot 3).world = true → ((vltSh 147472 0 0).asSent accA).secure = true) ∧ ((if accA.master = Master.shep then 0 else 0) = 0 ∨ (if accA.master = Master.shep then 0 else 0) = ((vltSh 147472 0 0).slot 3).vi)) ∧ (((vltSh 147472 0 0).slot 3).valid = true → (((vltSh 147472 0 0).slot 3).world = true → ((vltSh 147472 0 0).asSent accA).secure = true) ∧ ((if accA.master = Master.shep then 0 else 0) = 0 ∨ (if accA.master = Master.shep then 0 else 0) = ((vltSh 147472 0 0).slot 3).vi)) ∧ ((bitOf ((vltSh 147472 0 0).rd (keysReg Reg.Keys.SH_ATTR0)) 27 = true → ((vltSh 147472 0 0).asSent accA).secure = true) ∧ ((if accA.master = Master.shep then 0 else 0) = 0 ∨ (if accA.master = Master.shep then 0 else 0) = bitsOf ((vltSh 147472 0 0).rd (keysReg Reg.Keys.SH_ATTR0)) 20 7))) ∧ (bitsOf ((vltSh 147472 0 0).rd (keysReg Reg.Keys.SH_ATTR0)) 29 2 ≠ 3 ∧ 1 ≤ bitsOf ((vltSh 147472 0 0).rd (keysReg Reg.Keys.SH_ATTR0)) 16 4 ∧ bitsOf ((vltSh 147472 0 0).rd (keysReg Reg.Keys.SH_ATTR0)) 16 4 ≤ 5 ∧ bitsOf ((vltSh 147472 0 0).rd (keysReg Reg.Keys.SH_ATTR0)) 8 8 ≠ 0 ∧ (bitsOf ((vltSh 147472 0 0).rd (keysReg Reg.Keys.SH_ATTR0)) 29 2 = 1 → (vltSh 147472 0 0).rd (keysReg Reg.Keys.SH_ATTR1) ≠ 0)) ∧ ((vltSh 147472 0 0).slot 3).spent = false ∧ bitOf ((vltSh 147472 0 0).rd (keysReg Reg.Keys.SH_ATTR0)) 27 = ((vltSh 147472 0 0).slot 3).world ∧ bitsOf ((vltSh 147472 0 0).rd (keysReg Reg.Keys.SH_ATTR0)) 20 7 = ((vltSh 147472 0 0).slot 3).vi ∧ ((vltSh 147472 0 0).slot 3).usage.testBit 4 = true ∧ ((vltSh 147472 0 0).slot 3).alg = 2 ∧ ((vltSh 147472 0 0).slot 3).depth < 3 ∧ (vltSh 147472 0 0).rd (keysReg Reg.Keys.SH_LABEL) = 0) ∧
    ((vltSt false none).drsValid = false ∧
    ((vltSt true none).drsValid = true ∧ (vltSt true none).supplied = true ∧ (vltSt true none).reaction 38 ≤ 1 ∧ (vltSt true none).reaction 39 ≤ 1) ∧
    (st0.drsValid = true ∧ st0.supplied = false)) ∧
    ((Takes (ssn rs) accS (vaultReg Reg.Vault.PROVISION) ∧ (¬(bitOf 1796997121 0 = true ∧ bitsOf 1796997121 16 16 = 27421))) ∧
    (Takes rs accA (vaultReg Reg.Vault.PROVISION) ∧ (bitOf 1797062657 0 = true ∧ bitsOf 1797062657 16 16 = 27421) ∧ accA.master ≠ Master.shep) ∧
    (Takes (ssn (vltSt true none)) accS (vaultReg Reg.Vault.PROVISION) ∧ (bitOf 1797062657 0 = true ∧ bitsOf 1797062657 16 16 = 27421) ∧ accS.master = Master.shep ∧ ((ssn (vltSt true none)).asSent accS).secure = true ∧ (ssn (vltSt true none)).drsValid = true) ∧
    (Takes (ssn (vltSt false none)) accS (vaultReg Reg.Vault.PROVISION) ∧ (bitOf 1797062657 0 = true ∧ bitsOf 1797062657 16 16 = 27421) ∧ accS.master = Master.shep ∧ ((ssn (vltSt false none)).asSent accS).secure = true ∧ (ssn (vltSt false none)).drsValid = false ∧ (ssn (vltSt false none)).trngReady = false) ∧
    (Takes (ssn vltTr) accS (vaultReg Reg.Vault.PROVISION) ∧ (bitOf 1797062657 0 = true ∧ bitsOf 1797062657 16 16 = 27421) ∧ accS.master = Master.shep ∧ ((ssn vltTr).asSent accS).secure = true ∧ (ssn vltTr).drsValid = false ∧ (ssn vltTr).trngReady = true ∧ (∀ e ∈ (ssn vltTr).records, e.2 < 4294967295))) ∧
    ((Takes (vltSt true (some (6, 3, none))) accA (keysReg Reg.Keys.KS_CMD) ∧ (vltSt true (some (6, 3, none))).ks ≠ none) ∧
    (Takes (vltSh 147472 0 0) accA (keysReg Reg.Keys.KS_CMD) ∧ (vltSh 147472 0 0).ks = none) ∧
    (Takes (vltSh 147472 0 0) accM (keysReg Reg.Keys.KS_CMD) ∧ (vltSh 147472 0 0).ks = none ∧ ((vltSh 147472 0 0).asSent accM).secure = false) ∧
    (Takes (vltSh 147472 0 0) accN (keysReg Reg.Keys.KS_CMD) ∧ (vltSh 147472 0 0).ks = none ∧ (¬(((vltSh 147472 0 0).slot 3).valid = true → (((vltSh 147472 0 0).slot 3).world = true → ((vltSh 147472 0 0).asSent accN).secure = true) ∧ ((if accN.master = Master.shep then 0 else 3) = 0 ∨ (if accN.master = Master.shep then 0 else 3) = ((vltSh 147472 0 0).slot 3).vi))))) ∧
    (Takes (vltSh 134365200 0 0) accM (keysReg Reg.Keys.KS_CMD) ∧ (vltSh 134365200 0 0).ks = none ∧ (((vltSh 134365200 0 0).slot 3).valid = true → (((vltSh 134365200 0 0).slot 3).world = true → ((vltSh 134365200 0 0).asSent accM).secure = true) ∧ ((if accM.master = Master.shep then 0 else 0) = 0 ∨ (if accM.master = Master.shep then 0 else 0) = ((vltSh 134365200 0 0).slot 3).vi)) ∧ (¬((bitOf ((vltSh 134365200 0 0).rd (keysReg Reg.Keys.SH_ATTR0)) 27 = true → ((vltSh 134365200 0 0).asSent accM).secure = true) ∧ ((if accM.master = Master.shep then 0 else 0) = 0 ∨ (if accM.master = Master.shep then 0 else 0) = bitsOf ((vltSh 134365200 0 0).rd (keysReg Reg.Keys.SH_ATTR0)) 20 7)))) ∧
    (Takes (vltSh 1610760192 0 0) accA (keysReg Reg.Keys.KS_CMD) ∧ (vltSh 1610760192 0 0).ks = none ∧ (((vltSh 1610760192 0 0).slot 3).valid = true → (((vltSh 1610760192 0 0).slot 3).world = true → ((vltSh 1610760192 0 0).asSent accA).secure = true) ∧ ((if accA.master = Master.shep then 0 else 0) = 0 ∨ (if accA.master = Master.shep then 0 else 0) = ((vltSh 1610760192 0 0).slot 3).vi)) ∧ ((bitOf ((vltSh 1610760192 0 0).rd (keysReg Reg.Keys.SH_ATTR0)) 27 = true → ((vltSh 1610760192 0 0).asSent accA).secure = true) ∧ ((if accA.master = Master.shep then 0 else 0) = 0 ∨ (if accA.master = Master.shep then 0 else 0) = bitsOf ((vltSh 1610760192 0 0).rd (keysReg Reg.Keys.SH_ATTR0)) 20 7)) ∧ (¬(bitsOf ((vltSh 1610760192 0 0).rd (keysReg Reg.Keys.SH_ATTR0)) 29 2 ≠ 3 ∧ 1 ≤ bitsOf ((vltSh 1610760192 0 0).rd (keysReg Reg.Keys.SH_ATTR0)) 16 4 ∧ bitsOf ((vltSh 1610760192 0 0).rd (keysReg Reg.Keys.SH_ATTR0)) 16 4 ≤ 5 ∧ bitsOf ((vltSh 1610760192 0 0).rd (keysReg Reg.Keys.SH_ATTR0)) 8 8 ≠ 0 ∧ (bitsOf ((vltSh 1610760192 0 0).rd (keysReg Reg.Keys.SH_ATTR0)) 29 2 = 1 → (vltSh 1610760192 0 0).rd (keysReg Reg.Keys.SH_ATTR1) ≠ 0)))) :=
  ⟨⟨by unfold Takes; decide +kernel, by decide +kernel⟩,
   ⟨by unfold Takes; decide +kernel, by decide +kernel⟩,
   ⟨by unfold Takes; decide +kernel, by decide +kernel⟩,
   by decide +kernel,
   by unfold Takes; decide +kernel,
   by unfold Takes; decide +kernel,
   by unfold Takes; decide +kernel,
   by unfold Takes; decide +kernel⟩

/-- The hypotheses of `Obligations.KeyVault` are met, clause by clause (part 2 of 3). -/
theorem wit_KeyVault_2 :
    (Takes (vltSh 537018368 1 0) accA (keysReg Reg.Keys.KS_CMD) ∧ (vltSh 537018368 1 0).ks = none ∧ (((vltSh 537018368 1 0).slot 3).valid = true → (((vltSh 537018368 1 0).slot 3).world = true → ((vltSh 537018368 1 0).asSent accA).secure = true) ∧ ((if accA.master = Master.shep then 0 else 0) = 0 ∨ (if accA.master = Master.shep then 0 else 0) = ((vltSh 537018368 1 0).slot 3).vi)) ∧ ((bitOf ((vltSh 537018368 1 0).rd (keysReg Reg.Keys.SH_ATTR0)) 27 = true → ((vltSh 537018368 1 0).asSent accA).secure = true) ∧ ((if accA.master = Master.shep then 0 else 0) = 0 ∨ (if accA.master = Master.shep then 0 else 0) = bitsOf ((vltSh 537018368 1 0).rd (keysReg Reg.Keys.SH_ATTR0)) 20 7)) ∧ (bitsOf ((vltSh 537018368 1 0).rd (keysReg Reg.Keys.SH_ATTR0)) 29 2 ≠ 3 ∧ 1 ≤ bitsOf ((vltSh 537018368 1 0).rd (keysReg Reg.Keys.SH_ATTR0)) 16 4 ∧ bitsOf ((vltSh 537018368 1 0).rd (keysReg Reg.Keys.SH_ATTR0)) 16 4 ≤ 5 ∧ bitsOf ((vltSh 537018368 1 0).rd (keysReg Reg.Keys.SH_ATTR0)) 8 8 ≠ 0 ∧ (bitsOf ((vltSh 537018368 1 0).rd (keysReg Reg.Keys.SH_ATTR0)) 29 2 = 1 → (vltSh 537018368 1 0).rd (keysReg Reg.Keys.SH_ATTR1) ≠ 0))) ∧
    (Takes (vltSh 0 0 0) accA (keysReg Reg.Keys.KS_CMD) ∧ (vltSh 0 0 0).ks = none ∧ (((vltSh 0 0 0).slot 6).valid = true → (((vltSh 0 0 0).slot 6).world = true → ((vltSh 0 0 0).asSent accA).secure = true) ∧ ((if accA.master = Master.shep then 0 else 0) = 0 ∨ (if accA.master = Master.shep then 0 else 0) = ((vltSh 0 0 0).slot 6).vi))) ∧
    (Takes (vltSh 0 0 0) accN (keysReg Reg.Keys.KS_CMD) ∧ (vltSh 0 0 0).ks = none ∧ (((vltSh 0 0 0).slot 5).valid = true → (((vltSh 0 0 0).slot 5).world = true → ((vltSh 0 0 0).asSent accN).secure = true) ∧ ((if accN.master = Master.shep then 0 else 3) = 0 ∨ (if accN.master = Master.shep then 0 else 3) = ((vltSh 0 0 0).slot 5).vi)) ∧ ((vltSh 0 0 0).slot 5).spent = true) ∧
    (Takes (vltSh 0 0 0) accA (keysReg Reg.Keys.KS_CMD) ∧ (vltSh 0 0 0).ks = none ∧ (((vltSh 0 0 0).slot 4).valid = true → (((vltSh 0 0 0).slot 4).world = true → ((vltSh 0 0 0).asSent accA).secure = true) ∧ ((if accA.master = Master.shep then 0 else 0) = 0 ∨ (if accA.master = Master.shep then 0 else 0) = ((vltSh 0 0 0).slot 4).vi)) ∧ ((vltSh 0 0 0).slot 4).spent = false) :=
  ⟨by unfold Takes; decide +kernel,
   by unfold Takes; decide +kernel⟩

/-- The hypotheses of `Obligations.KeyVault` are met, clause by clause (part 3 of 3). -/
theorem wit_KeyVault_3 :
    (rs.ks = none ∧
    ((vltSt true (some (1, 9, some 3))).ks = some (vltCmd (1, 9, some 3)) ∧ (vltCmd (1, 9, some 3)).slot < 256 ∧ (vltCmd (1, 9, some 3)).fail = some 3 ∧ 3 < 16 ∧ 3 ≠ 8) ∧
    (st1.ks = some (vltCmd (1, 3, none)) ∧ (vltCmd (1, 3, none)).slot < 256 ∧ (vltCmd (1, 3, none)).fail = none ∧ (vltCmd (1, 3, none)).op = 1 ∧ (st1.slot (vltCmd (1, 3, none)).slot).valid = true ∧ st1.slotRef (vltCmd (1, 3, none)).slot = true) ∧
    ((vltSt true (some (1, 9, none))).ks = some (vltCmd (1, 9, none)) ∧ (vltCmd (1, 9, none)).slot < 256 ∧ (vltCmd (1, 9, none)).fail = none ∧ (vltCmd (1, 9, none)).op = 1 ∧ ((vltSt true (some (1, 9, none))).slot (vltCmd (1, 9, none)).slot).valid = false) ∧
    ((vltSt true (some (2, 9, none))).ks = some (vltCmd (2, 9, none)) ∧ (vltCmd (2, 9, none)).slot < 256 ∧ (vltCmd (2, 9, none)).fail = none ∧ (vltCmd (2, 9, none)).op = 2 ∧ ((vltSt true (some (2, 9, none))).slot (vltCmd (2, 9, none)).slot).valid = false) ∧
    ((vltSt true (some (2, 3, none))).ks = some (vltCmd (2, 3, none)) ∧ (vltCmd (2, 3, none)).slot < 256 ∧ (vltCmd (2, 3, none)).fail = none ∧ (vltCmd (2, 3, none)).op = 2 ∧ ((vltSt true (some (2, 3, none))).slot (vltCmd (2, 3, none)).slot).valid = true)) ∧
    ((((vltSt true (some (3, 9, none))).setSlot 3 { : Slot }).ks = some (vltCmd (3, 9, none)) ∧ (vltCmd (3, 9, none)).slot < 256 ∧ (vltCmd (3, 9, none)).fail = none ∧ (vltCmd (3, 9, none)).op = 3 ∧ ((((vltSt true (some (3, 9, none))).setSlot 3 { : Slot }).slot (if (vltCmd (3, 9, none)).op = 3 then (vltCmd (3, 9, none)).parent else (vltCmd (3, 9, none)).slot)).valid = false ∨ (((vltSt true (some (3, 9, none))).setSlot 3 { : Slot }).slot (if (vltCmd (3, 9, none)).op = 3 then (vltCmd (3, 9, none)).parent else (vltCmd (3, 9, none)).slot)).gen ≠ (vltCmd (3, 9, none)).gen)) ∧
    ((vltSt true (some (3, 9, none))).ks = some (vltCmd (3, 9, none)) ∧ (vltCmd (3, 9, none)).slot < 256 ∧ (vltCmd (3, 9, none)).fail = none ∧ (vltCmd (3, 9, none)).op = 3 ∧ ((vltSt true (some (3, 9, none))).slot (vltCmd (3, 9, none)).parent).valid = true ∧ ((vltSt true (some (3, 9, none))).slot (vltCmd (3, 9, none)).parent).gen = (vltCmd (3, 9, none)).gen ∧ ((vltSt true (some (3, 9, none))).slot (vltCmd (3, 9, none)).parent).life = 0 ∧ ((vltSt true (some (3, 9, none))).slot (vltCmd (3, 9, none)).slot).valid = false)) ∧
    (((vltSt true (some (4, 3, none))).ks = some (vltCmd (4, 3, none)) ∧ (vltCmd (4, 3, none)).slot < 256 ∧ (vltCmd (4, 3, none)).fail = none ∧ (vltCmd (4, 3, none)).op = 4) ∧
    ((vltSt true (some (5, 3, none))).ks = some (vltCmd (5, 3, none)) ∧ (vltCmd (5, 3, none)).slot < 256 ∧ (vltCmd (5, 3, none)).fail = none ∧ (vltCmd (5, 3, none)).op = 5 ∧ ((vltSt true (some (5, 3, none))).slot (vltCmd (5, 3, none)).slot).valid = true ∧ ((vltSt true (some (5, 3, none))).slot (vltCmd (5, 3, none)).slot).gen = (vltCmd (5, 3, none)).gen ∧ ((vltSt true (some (5, 3, none))).slot (vltCmd (5, 3, none)).slot).life = 0) ∧
    ((vltSt false (some (6, 3, none))).ks = some (vltCmd (6, 3, none)) ∧ (vltCmd (6, 3, none)).slot < 256 ∧ (vltCmd (6, 3, none)).fail = none ∧ (vltCmd (6, 3, none)).op = 6 ∧ (vltSt false (some (6, 3, none))).drsValid = false ∧ ((vltSt false (some (6, 3, none))).slot (vltCmd (6, 3, none)).slot).valid = true ∧ ((vltSt false (some (6, 3, none))).slot (vltCmd (6, 3, none)).slot).gen = (vltCmd (6, 3, none)).gen ∧ (vltCmd (6, 3, none)).op = 6 ∧ ((vltSt false (some (6, 3, none))).slot (vltCmd (6, 3, none)).slot).life = 0)) ∧
    (((vltSt true (some (6, 3, none))).ks = some (vltCmd (6, 3, none)) ∧ (vltCmd (6, 3, none)).slot < 256 ∧ (vltCmd (6, 3, none)).fail = none ∧ (vltCmd (6, 3, none)).op = 6 ∧ ((vltSt true (some (6, 3, none))).slot (vltCmd (6, 3, none)).slot).valid = true ∧ ((vltSt true (some (6, 3, none))).slot (vltCmd (6, 3, none)).slot).gen = (vltCmd (6, 3, none)).gen ∧ ((vltSt true (some (6, 3, none))).slot (vltCmd (6, 3, none)).slot).life = 0 ∧ (vltSt true (some (6, 3, none))).drsValid = true ∧ (vltSt true (some (6, 3, none))).pkWear = [] ∧ max ((vltSt true (some (6, 3, none))).recWord (vltCmd (6, 3, none)).record 0 0) ((vltSt true (some (6, 3, none))).recWord (vltCmd (6, 3, none)).record 1 0) + 1 < 2 ^ 32) ∧
    (st2.ks = some (vltCmd (7, 9, none)) ∧ (vltCmd (7, 9, none)).slot < 256 ∧ (vltCmd (7, 9, none)).fail = none ∧ (vltCmd (7, 9, none)).op = 7 ∧ st2.drsValid = true ∧ (st2.slot (vltCmd (7, 9, none)).slot).valid = false ∧ st2.recWin (vltCmd (7, 9, none)).record = none)) ∧
    (((vltSt true (some (7, 9, none))).ks = some (vltCmd (7, 9, none)) ∧ (vltCmd (7, 9, none)).slot < 256 ∧ (vltCmd (7, 9, none)).fail = none ∧ (vltCmd (7, 9, none)).op = 7 ∧ (vltSt true (some (7, 9, none))).drsValid = true ∧ ((vltSt true (some (7, 9, none))).slot (vltCmd (7, 9, none)).slot).valid = false ∧ (vltSt true (some (7, 9, none))).recWin (vltCmd (7, 9, none)).record ≠ none) ∧
    ((vltSt true (some (8, 3, none))).ks = some (vltCmd (8, 3, none)) ∧ (vltCmd (8, 3, none)).slot < 256 ∧ (vltCmd (8, 3, none)).fail = none ∧ (vltCmd (8, 3, none)).op = 8 ∧ (∀ e ∈ (vltSt true (some (8, 3, none))).records, e.2 < 4294967295)) ∧
    ((vltSt true (some (9, 9, none))).ks = some (vltCmd (9, 9, none)) ∧ (vltCmd (9, 9, none)).slot < 256 ∧ (vltCmd (9, 9, none)).fail = none ∧ (vltCmd (9, 9, none)).op = 9 ∧ (vltSt true (some (9, 9, none))).recWin (vltCmd (9, 9, none)).record = some 0) ∧
    ((vltSt true (some (10, 9, none))).ks = some (vltCmd (10, 9, none)) ∧ (vltCmd (10, 9, none)).slot < 256 ∧ (vltCmd (10, 9, none)).fail = none ∧ (vltCmd (10, 9, none)).op = 10 ∧ (vltSt true (some (10, 9, none))).drsValid = true ∧ ((vltSt true (some (10, 9, none))).slot (vltCmd (10, 9, none)).slot).valid = false)) ∧
    ((Takes (vltSh 0 0 0) accA (keysReg Reg.Keys.KS_CMD) ∧ (vltSh 0 0 0).ks = none ∧ ((vltSh 0 0 0).asSent accA).secure = true ∧ (((vltSh 0 0 0).slot 3).valid = true → (((vltSh 0 0 0).slot 3).world = true → ((vltSh 0 0 0).asSent accA).secure = true) ∧ ((if accA.master = Master.shep then 0 else 0) = 0 ∨ (if accA.master = Master.shep then 0 else 0) = ((vltSh 0 0 0).slot 3).vi)) ∧ ((vltSh 0 0 0).slot 3).spent = false) ∧
    (Takes (vltSh 0 0 0) accA (keysReg Reg.Keys.KS_CMD) ∧ (vltSh 0 0 0).ks = none ∧ ((vltSh 0 0 0).asSent accA).secure = true) ∧
    (Takes (vltSh 0 0 0) accA (keysReg Reg.Keys.KS_CMD) ∧ (vltSh 0 0 0).ks = none ∧ ((vltSh 0 0 0).asSent accA).secure = true ∧ (((vltSh 0 0 0).slot 3).valid = true → (((vltSh 0 0 0).slot 3).world = true → ((vltSh 0 0 0).asSent accA).secure = true) ∧ ((if accA.master = Master.shep then 0 else 0) = 0 ∨ (if accA.master = Master.shep then 0 else 0) = ((vltSh 0 0 0).slot 3).vi)) ∧ (vltSh 0 0 0).recWin 8 = none)) ∧
    (Takes (vltSh 147472 0 0) accA (keysReg Reg.Keys.KS_CMD) ∧ (vltSh 147472 0 0).ks = none ∧ (((vltSh 147472 0 0).slot 3).valid = true → (((vltSh 147472 0 0).slot 3).world = true → ((vltSh 147472 0 0).asSent accA).secure = true) ∧ ((if accA.master = Master.shep then 0 else 0) = 0 ∨ (if accA.master = Master.shep then 0 else 0) = ((vltSh 147472 0 0).slot 3).vi)) ∧ ((bitOf ((vltSh 147472 0 0).rd (keysReg Reg.Keys.SH_ATTR0)) 27 = true → ((vltSh 147472 0 0).asSent accA).secure = true) ∧ ((if accA.master = Master.shep then 0 else 0) = 0 ∨ (if accA.master = Master.shep then 0 else 0) = bitsOf ((vltSh 147472 0 0).rd (keysReg Reg.Keys.SH_ATTR0)) 20 7)) ∧ (bitsOf ((vltSh 147472 0 0).rd (keysReg Reg.Keys.SH_ATTR0)) 29 2 ≠ 3 ∧ 1 ≤ bitsOf ((vltSh 147472 0 0).rd (keysReg Reg.Keys.SH_ATTR0)) 16 4 ∧ bitsOf ((vltSh 147472 0 0).rd (keysReg Reg.Keys.SH_ATTR0)) 16 4 ≤ 5 ∧ bitsOf ((vltSh 147472 0 0).rd (keysReg Reg.Keys.SH_ATTR0)) 8 8 ≠ 0 ∧ (bitsOf ((vltSh 147472 0 0).rd (keysReg Reg.Keys.SH_ATTR0)) 29 2 = 1 → (vltSh 147472 0 0).rd (keysReg Reg.Keys.SH_ATTR1) ≠ 0)) ∧ (vltSh 147472 0 0).rd (keysReg Reg.Keys.SH_LABEL) = 0) :=
  ⟨by decide +kernel,
   by decide +kernel,
   by decide +kernel,
   by decide +kernel,
   by decide +kernel,
   by unfold Takes; decide +kernel,
   by unfold Takes; decide +kernel⟩

end Keys

namespace Cipher

/-- The descriptor words given 0 (CTX 7), 1, 6 and 7; DST 0x9000, TAG 0xA000. -/
def dsc (w0 w1 len w7 : Nat) : List Word := [word w0, word w1, 0x8000, 0, 0x9000, 0, word len, word w7, 0, 0, 0, 0, 0xA000, 0]
/-- The cipher unit ready: slot 0x28 AES-256 (VI 12, usage ENCRYPT, DECRYPT), slot 0x29 HMAC-SHA-256 (COUNTED, one use), slot 0x2A spent,
slot 0x2B ChaCha, slot 0x2C AES secure for MACsec; contexts 7 and 8 of VI 12, 8 open on slot 0x28 in GCM decryption;
VI 12 in RUN with one descriptor waiting; both halves ACTIVE and HEEL. -/
def ciphSt (w : Nat) (sess : Nat) : State :=
  let s := { rs with
    rst := []
    slots := [(0x28, { valid := true, alg := 2, usage := 0x03, gen := 9, vi := 12, key := [1, 2] }),
      (0x29, { valid := true, alg := 4, usage := 0x04, life := 1, count := 1, vi := 12, gen := 2, key := [3] }),
      (0x2A, { valid := true, alg := 2, usage := 0x03, life := 1, count := 0, vi := 12, key := [3] }),
      (0x2B, { valid := true, alg := 3, usage := 0x03, vi := 12, key := [3] }),
      (0x2C, { valid := true, alg := 2, usage := 0x80, world := true, key := [5] })]
    ctxs := [(8, { opened := true, slot := 0x28, gen := 9, mode := 3, dir := 1, inp := List.range 32, sess := sess })]
    csubs := [⟨12, .a, true, 0x1000⟩] }
  let s := ((s.setGateSt 10 1).setGateSt 12 1).setBit (trngBase + Reg.Trng.TRNG_STAT) 0 true
  let s := (s.setFld (viReg 12 Reg.Vi.VI_STAT) 0 3 viRun).setFld (shareKey 12 Reg.Vi0.SHARE_W) 8 8 w
  let s := (s.wrN (vi0Reg Reg.Vi0.CTX_VI + 4) 0x0C000000).wrN (vi0Reg Reg.Vi0.CTX_VI + 8) 0x0000000C
  s.setFld (halfBase 1 + Reg.Half.ROLE_STAT) 0 2 roleHeel
/-- An operation of VI 12 with the words given, `n` octets of its message read. -/
def ciphOp (ws : List Word) (n : Nat) (fail : Option Nat) (pass2 : Bool) (held rel gen : Nat) : CipherOp :=
  { sub := ⟨12, .a, true, 0x1000⟩, words := ws, gen := gen, inp := (List.range n).map (fun (i : Nat) => i % 256), fail := fail, pass2 := pass2,
    held := List.replicate held 7, released := rel }
/-- Lane 1 busy with an operation. -/
def laneSt (o : CipherOp) : State := (ciphSt 0 64).setLane 1 (some o)
/-- A state of these witnesses. -/
def st0 := { ciphSt 0 0 with csubs := List.replicate 32 (⟨12, .a, true, 64⟩ : CSub) ++ List.replicate 32 (⟨0, .a, true, 64⟩ : CSub) }
/-- A CSub of these witnesses. -/
def lit0 : CSub := { vi := 12, half := Half.a, secure := true, addr := 4096 : CSub }
/-- A Dwrr of these witnesses. -/
def lit1 : Dwrr := { cur := some 12 : Dwrr }
/-- A Slot of these witnesses. -/
def lit2 : Slot := { valid := true, vi := 12, alg := 2, usage := 3, gen := 10, key := [1, 2] : Slot }
/-- A hypothesis of the statement. -/
abbrev hyp0 (s : State) : Prop :=
  (s.domainOn 10 = false ∨ s.gated 0 = true) ∨ s.trngReady = false ∨ s.bit (ciphReg Reg.Ciph.ALARM_STAT) 0 = true ∨ s.lane 1 ≠ none
/-- A hypothesis of the statement. -/
abbrev hyp1 (s : State) (d : List Word) : Prop :=
  bitsOf (d.getD 0 0) 0 4 = 0 ∨ 10 ≤ bitsOf (d.getD 0 0) 0 4 ∨ bitsOf (d.getD 0 0) 9 7 ≠ 0 ∨ bitsOf (d.getD 1 0) 27 5 ≠ 0 ∨ bitsOf (d.getD 7 0) 24 8 ≠ 0 ∨ bitOf (d.getD 7 0) 17 = true ∨ (bitsOf (d.getD 0 0) 0 4 = 1 ∨ bitsOf (d.getD 0 0) 0 4 = 2) ∧ bitsOf (d.getD 1 0) 22 5 ≠ 16 ∨ bitsOf (d.getD 0 0) 0 4 = 3 ∧ (bitsOf (d.getD 1 0) 22 5 ≠ 12 ∨ bitsOf (d.getD 1 0) 16 6 < 12 ∨ 16 < bitsOf (d.getD 1 0) 16 6) ∨ bitsOf (d.getD 0 0) 0 4 = 4 ∧ (bitsOf (d.getD 1 0) 22 5 < 7 ∨ 13 < bitsOf (d.getD 1 0) 22 5 ∨ bitsOf (d.getD 1 0) 16 6 < 4 ∨ 16 < bitsOf (d.getD 1 0) 16 6 ∨ bitsOf (d.getD 1 0) 16 6 % 2 = 1) ∨ bitsOf (d.getD 0 0) 0 4 = 5 ∧ (bitsOf (d.getD 1 0) 16 6 < 4 ∨ 16 < bitsOf (d.getD 1 0) 16 6) ∨ bitsOf (d.getD 0 0) 0 4 = 6 ∧ (bitsOf (d.getD 1 0) 22 5 ≠ 12 ∨ bitsOf (d.getD 1 0) 16 6 ≠ 16) ∨ bitsOf (d.getD 0 0) 0 4 = 9 ∧ (bitsOf (d.getD 1 0) 16 6 < 16 ∨ (if (s.slot (bitsOf (d.getD 0 0) 16 8)).alg = 4 then 32 else 48) < bitsOf (d.getD 1 0) 16 6) ∨ (bitsOf (d.getD 0 0) 0 4 = 7 ∨ bitsOf (d.getD 0 0) 0 4 = 8) ∧ bitOf (d.getD 0 0) 4 = true ∨ bitsOf (d.getD 0 0) 0 4 = 4 ∧ ¬(bitOf (d.getD 0 0) 6 = true ∧ bitOf (d.getD 0 0) 7 = true) ∨ bitOf (d.getD 0 0) 6 = false ∧ bitsOf (d.getD 7 0) 0 17 ≠ 0 ∨ bitOf (d.getD 0 0) 7 = false ∧ (BitVec.toNat (d.getD 6 0) % if bitsOf (d.getD 0 0) 0 4 = 6 ∨ bitsOf (d.getD 0 0) 0 4 = 7 then 64 else if bitsOf (d.getD 0 0) 0 4 = 8 then 128 else if bitsOf (d.getD 0 0) 0 4 = 9 then if (s.slot (bitsOf (d.getD 0 0) 16 8)).alg = 5 then 128 else 64 else 16) ≠ 0 ∨ ¬(bitOf (d.getD 0 0) 6 = true ∧ bitOf (d.getD 0 0) 7 = true) ∧ bitOf (d.getD 0 0) 4 = true ∧ (bitsOf (d.getD 0 0) 0 4 = 3 ∨ bitsOf (d.getD 0 0) 0 4 = 6) ∧ bitOf (d.getD 0 0) 5 = false
/-- A hypothesis of the statement. -/
abbrev hyp2 (s : State) (u : CSub) (d : List Word) : Prop :=
  s.ctxOwner (bitsOf (d.getD 0 0) 24 8) ≠ u.vi ∨ (bitsOf (d.getD 0 0) 0 4 ≠ 7 ∧ bitsOf (d.getD 0 0) 0 4 ≠ 8) ∧ (s.slot (bitsOf (d.getD 0 0) 16 8)).valid = true ∧ ((s.slot (bitsOf (d.getD 0 0) 16 8)).world = true ∧ u.secure = false ∨ u.vi ≠ 0 ∧ u.vi ≠ (s.slot (bitsOf (d.getD 0 0) 16 8)).vi)
/-- A hypothesis of the statement. -/
abbrev hyp3 (s : State) (d : List Word) : Prop :=
  (bitsOf (d.getD 0 0) 0 4 ≠ 7 ∧ bitsOf (d.getD 0 0) 0 4 ≠ 8) ∧ ((s.slot (bitsOf (d.getD 0 0) 16 8)).valid = false ∨ (s.slot (bitsOf (d.getD 0 0) 16 8)).life = 1 ∧ (s.slot (bitsOf (d.getD 0 0) 16 8)).count = 0)
/-- A hypothesis of the statement. -/
abbrev hyp4 (s : State) (d : List Word) : Prop :=
  bitsOf (d.getD 0 0) 0 4 ≠ 7 ∧ bitsOf (d.getD 0 0) 0 4 ≠ 8 → (if bitsOf (d.getD 0 0) 0 4 = 6 then (s.slot (bitsOf (d.getD 0 0) 16 8)).alg = 3 else if bitsOf (d.getD 0 0) 0 4 = 9 then (s.slot (bitsOf (d.getD 0 0) 16 8)).alg = 4 ∨ (s.slot (bitsOf (d.getD 0 0) 16 8)).alg = 5 else (s.slot (bitsOf (d.getD 0 0) 16 8)).alg = 1 ∨ (s.slot (bitsOf (d.getD 0 0) 16 8)).alg = 2) ∧ (s.slot (bitsOf (d.getD 0 0) 16 8)).usage.testBit ((if bitsOf (d.getD 0 0) 0 4 = 5 ∨ bitsOf (d.getD 0 0) 0 4 = 9 then 2 else 0) + bitsOf (d.getD 0 0) 4 1) = true
/-- A hypothesis of the statement. -/
abbrev hyp5 (s : State) (d : List Word) : Prop :=
  bitOf (d.getD 0 0) 6 = (s.ctx (bitsOf (d.getD 0 0) 24 8)).opened ∨ bitOf (d.getD 0 0) 6 = false ∧ ((bitsOf (d.getD 0 0) 0 4 ≠ 7 ∧ bitsOf (d.getD 0 0) 0 4 ≠ 8) ∧ (s.ctx (bitsOf (d.getD 0 0) 24 8)).slot ≠ bitsOf (d.getD 0 0) 16 8 ∨ (s.ctx (bitsOf (d.getD 0 0) 24 8)).mode ≠ bitsOf (d.getD 0 0) 0 4 ∨ (s.ctx (bitsOf (d.getD 0 0) 24 8)).dir ≠ bitsOf (d.getD 0 0) 4 1)
/-- A hypothesis of the statement. -/
abbrev hyp6 (s : State) (d : List Word) : Prop :=
  (bitsOf (d.getD 0 0) 0 4 ≠ 7 ∧ bitsOf (d.getD 0 0) 0 4 ≠ 8) ∧ bitOf (d.getD 0 0) 6 = false ∧ (s.ctx (bitsOf (d.getD 0 0) 24 8)).gen ≠ (s.slot (bitsOf (d.getD 0 0) 16 8)).gen
/-- A hypothesis of the statement. -/
abbrev hyp7 (d : List Word) : Prop :=
  (laneSt (ciphOp d 0 none false 0 0 9)).domainOn 10 = false ∨ (laneSt (ciphOp d 0 none false 0 0 9)).gated 0 = true
/-- A hypothesis of the statement. -/
abbrev hyp8 (d : List Word) : Prop :=
  descMode (ciphOp d 0 none false 0 0 9).words ≠ 7 ∧ descMode (ciphOp d 0 none false 0 0 9).words ≠ 8 ∧ (((laneSt (ciphOp d 0 none false 0 0 9)).slot (descSlot (ciphOp d 0 none false 0 0 9).words)).valid = false ∨ ((laneSt (ciphOp d 0 none false 0 0 9)).slot (descSlot (ciphOp d 0 none false 0 0 9).words)).gen ≠ (ciphOp d 0 none false 0 0 9).gen)
/-- A hypothesis of the statement. -/
abbrev hyp9 (d : List Word) : Prop :=
  (List.range 16).length = modeBlock (descMode (ciphOp d 0 none false 0 0 9).words) ((laneSt (ciphOp d 0 none false 0 0 9)).slot (descSlot (ciphOp d 0 none false 0 0 9).words)).alg
/-- A hypothesis of the statement. -/
abbrev hyp10 (d : List Word) : Prop :=
  (List.range 16).length ≤ descLen (ciphOp d 0 none false 0 0 9).words - ((ciphOp d 0 none false 0 0 9).inp.length - (ciphOp d 0 none false 0 0 9).base)

/-- The hypotheses of `Obligations.CipherEngine` are met, clause by clause (part 1 of 5). -/
theorem wit_CipherEngine_1 :
    ((¬hyp0 (ciphSt 0 0) ∧ (ciphSt 0 0).laneElig [(12, some (dsc 120062147 51380224 1048577 0))] 12 = true ∧ (ciphSt 0 0).csHead 12 = some lit0 ∧ ((∀ m < 128, m ≠ 12 → (ciphSt 0 0).laneElig [(12, some (dsc 120062147 51380224 1048577 0))] m = false) ∧ (12 = 0 ∨ (ciphSt 0 0).weight (2 + 1) 12 = 0)) ∧ fetchedHead [(12, some (dsc 120062147 51380224 1048577 0))] 12 = some (some (dsc 120062147 51380224 1048577 0)) ∧ (dsc 120062147 51380224 1048577 0).length = 14 ∧ ¬hyp1 (ciphSt 0 0) (dsc 120062147 51380224 1048577 0) ∧ ¬hyp2 (ciphSt 0 0) lit0 (dsc 120062147 51380224 1048577 0) ∧ ¬hyp3 (ciphSt 0 0) (dsc 120062147 51380224 1048577 0) ∧ hyp4 (ciphSt 0 0) (dsc 120062147 51380224 1048577 0) ∧ ¬hyp5 (ciphSt 0 0) (dsc 120062147 51380224 1048577 0) ∧ ¬hyp6 (ciphSt 0 0) (dsc 120062147 51380224 1048577 0)) ∧ ((if bitsOf ((dsc 120062147 51380224 1048577 0).getD 0 0) 0 4 = 3 ∨ bitsOf ((dsc 120062147 51380224 1048577 0).getD 0 0) 0 4 = 6 then 2 ^ 20 else if bitsOf ((dsc 120062147 51380224 1048577 0).getD 0 0) 0 4 = 4 then 2 ^ 16 else 2 ^ 24) < BitVec.toNat ((dsc 120062147 51380224 1048577 0).getD 6 0) ∨ (if bitsOf ((dsc 120062147 51380224 1048577 0).getD 0 0) 0 4 = 5 then 2 ^ 24 else if bitsOf ((dsc 120062147 51380224 1048577 0).getD 0 0) 0 4 = 3 ∨ bitsOf ((dsc 120062147 51380224 1048577 0).getD 0 0) 0 4 = 6 then 2 ^ 36 - 32 else 2 ^ 36) < (if bitOf ((dsc 120062147 51380224 1048577 0).getD 0 0) 6 = true then 0 else ((ciphSt 0 0).ctx (bitsOf ((dsc 120062147 51380224 1048577 0).getD 0 0) 24 8)).inp.length) + BitVec.toNat ((dsc 120062147 51380224 1048577 0).getD 6 0) ∨ (if bitsOf ((dsc 120062147 51380224 1048577 0).getD 0 0) 0 4 = 3 ∨ bitsOf ((dsc 120062147 51380224 1048577 0).getD 0 0) 0 4 = 4 ∨ bitsOf ((dsc 120062147 51380224 1048577 0).getD 0 0) 0 4 = 6 then 2 ^ 16 < bitsOf ((dsc 120062147 51380224 1048577 0).getD 7 0) 0 17 else bitsOf ((dsc 120062147 51380224 1048577 0).getD 7 0) 0 17 ≠ 0) ∨ bitsOf ((dsc 120062147 51380224 1048577 0).getD 0 0) 0 4 = 1 ∧ (BitVec.toNat ((dsc 120062147 51380224 1048577 0).getD 6 0) = 0 ∨ BitVec.toNat ((dsc 120062147 51380224 1048577 0).getD 6 0) % 16 ≠ 0)) ∧ bitOf ((dsc 120062147 51380224 1048577 0).getD 0 0) 8 = false) ∧
    ((¬hyp0 (ciphSt 0 0) ∧ (ciphSt 0 0).laneElig [(12, some (dsc 120062149 1048576 16 0))] 12 = true ∧ (ciphSt 0 0).csHead 12 = some lit0 ∧ ((∀ m < 128, m ≠ 12 → (ciphSt 0 0).laneElig [(12, some (dsc 120062149 1048576 16 0))] m = false) ∧ (12 = 0 ∨ (ciphSt 0 0).weight (2 + 1) 12 = 0)) ∧ fetchedHead [(12, some (dsc 120062149 1048576 16 0))] 12 = some (some (dsc 120062149 1048576 16 0)) ∧ (dsc 120062149 1048576 16 0).length = 14 ∧ ¬hyp1 (ciphSt 0 0) (dsc 120062149 1048576 16 0) ∧ ¬hyp2 (ciphSt 0 0) lit0 (dsc 120062149 1048576 16 0) ∧ ¬hyp3 (ciphSt 0 0) (dsc 120062149 1048576 16 0) ∧ (bitsOf ((dsc 120062149 1048576 16 0).getD 0 0) 0 4 ≠ 7 ∧ bitsOf ((dsc 120062149 1048576 16 0).getD 0 0) 0 4 ≠ 8)) ∧ (¬((if bitsOf ((dsc 120062149 1048576 16 0).getD 0 0) 0 4 = 6 then ((ciphSt 0 0).slot (bitsOf ((dsc 120062149 1048576 16 0).getD 0 0) 16 8)).alg = 3 else if bitsOf ((dsc 120062149 1048576 16 0).getD 0 0) 0 4 = 9 then ((ciphSt 0 0).slot (bitsOf ((dsc 120062149 1048576 16 0).getD 0 0) 16 8)).alg = 4 ∨ ((ciphSt 0 0).slot (bitsOf ((dsc 120062149 1048576 16 0).getD 0 0) 16 8)).alg = 5 else ((ciphSt 0 0).slot (bitsOf ((dsc 120062149 1048576 16 0).getD 0 0) 16 8)).alg = 1 ∨ ((ciphSt 0 0).slot (bitsOf ((dsc 120062149 1048576 16 0).getD 0 0) 16 8)).alg = 2) ∧ ((ciphSt 0 0).slot (bitsOf ((dsc 120062149 1048576 16 0).getD 0 0) 16 8)).usage.testBit ((if bitsOf ((dsc 120062149 1048576 16 0).getD 0 0) 0 4 = 5 ∨ bitsOf ((dsc 120062149 1048576 16 0).getD 0 0) 0 4 = 9 then 2 else 0) + bitsOf ((dsc 120062149 1048576 16 0).getD 0 0) 4 1) = true)) ∧ bitOf ((dsc 120062149 1048576 16 0).getD 0 0) 8 = false) ∧
    ((¬hyp0 (ciphSt 0 0) ∧ (ciphSt 0 0).laneElig [(12, some (dsc 120062147 51380224 1048576 65536))] 12 = true ∧ (ciphSt 0 0).csHead 12 = some lit0 ∧ ((∀ m < 128, m ≠ 12 → (ciphSt 0 0).laneElig [(12, some (dsc 120062147 51380224 1048576 65536))] m = false) ∧ (12 = 0 ∨ (ciphSt 0 0).weight (2 + 1) 12 = 0)) ∧ fetchedHead [(12, some (dsc 120062147 51380224 1048576 65536))] 12 = some (some (dsc 120062147 51380224 1048576 65536)) ∧ (dsc 120062147 51380224 1048576 65536).length = 14 ∧ ¬hyp1 (ciphSt 0 0) (dsc 120062147 51380224 1048576 65536) ∧ ¬hyp2 (ciphSt 0 0) lit0 (dsc 120062147 51380224 1048576 65536) ∧ ¬hyp3 (ciphSt 0 0) (dsc 120062147 51380224 1048576 65536) ∧ hyp4 (ciphSt 0 0) (dsc 120062147 51380224 1048576 65536) ∧ ¬hyp5 (ciphSt 0 0) (dsc 120062147 51380224 1048576 65536) ∧ ¬hyp6 (ciphSt 0 0) (dsc 120062147 51380224 1048576 65536)) ∧ (¬((if bitsOf ((dsc 120062147 51380224 1048576 65536).getD 0 0) 0 4 = 3 ∨ bitsOf ((dsc 120062147 51380224 1048576 65536).getD 0 0) 0 4 = 6 then 2 ^ 20 else if bitsOf ((dsc 120062147 51380224 1048576 65536).getD 0 0) 0 4 = 4 then 2 ^ 16 else 2 ^ 24) < BitVec.toNat ((dsc 120062147 51380224 1048576 65536).getD 6 0) ∨ (if bitsOf ((dsc 120062147 51380224 1048576 65536).getD 0 0) 0 4 = 5 then 2 ^ 24 else if bitsOf ((dsc 120062147 51380224 1048576 65536).getD 0 0) 0 4 = 3 ∨ bitsOf ((dsc 120062147 51380224 1048576 65536).getD 0 0) 0 4 = 6 then 2 ^ 36 - 32 else 2 ^ 36) < (if bitOf ((dsc 120062147 51380224 1048576 65536).getD 0 0) 6 = true then 0 else ((ciphSt 0 0).ctx (bitsOf ((dsc 120062147 51380224 1048576 65536).getD 0 0) 24 8)).inp.length) + BitVec.toNat ((dsc 120062147 51380224 1048576 65536).getD 6 0) ∨ (if bitsOf ((dsc 120062147 51380224 1048576 65536).getD 0 0) 0 4 = 3 ∨ bitsOf ((dsc 120062147 51380224 1048576 65536).getD 0 0) 0 4 = 4 ∨ bitsOf ((dsc 120062147 51380224 1048576 65536).getD 0 0) 0 4 = 6 then 2 ^ 16 < bitsOf ((dsc 120062147 51380224 1048576 65536).getD 7 0) 0 17 else bitsOf ((dsc 120062147 51380224 1048576 65536).getD 7 0) 0 17 ≠ 0) ∨ bitsOf ((dsc 120062147 51380224 1048576 65536).getD 0 0) 0 4 = 1 ∧ (BitVec.toNat ((dsc 120062147 51380224 1048576 65536).getD 6 0) = 0 ∨ BitVec.toNat ((dsc 120062147 51380224 1048576 65536).getD 6 0) % 16 ≠ 0)))) ∧
    ((∀ (h : Half), accM.master = Master.half h → st0.role h ≠ roleActive ∨ 32 ≤ st0.csOut (11 + 1)) ∧ Takes st0 accM (viReg (11 + 1) Reg.Vi.CSUBMIT) ∧ st0.domainOn 10 = true) ∧
    ((∀ (h : Half), accM.master = Master.half h → st0.role h ≠ roleActive ∨ 32 ≤ st0.csOut 0) ∧ Takes st0 accM (ciphReg Reg.Ciph.SUBMIT)) ∧
    (hyp0 ((ciphSt 0 0).setGateSt 10 0) ∧
    (¬hyp0 (ciphSt 0 0) ∧ (∀ n < 128, (ciphSt 0 0).laneElig [] n = false)) ∧
    (¬hyp0 (ciphSt 0 0) ∧ (ciphSt 0 0).laneElig [(12, none)] 12 = true ∧ (ciphSt 0 0).csHead 12 = some lit0 ∧ ((∀ m < 128, m ≠ 12 → (ciphSt 0 0).laneElig [(12, none)] m = false) ∧ (12 = 0 ∨ (ciphSt 0 0).weight (2 + 1) 12 = 0)) ∧ fetchedHead [(12, none)] 12 = some none) ∧
    (¬hyp0 (((ciphSt 3 0).setDeficit 3 12 5).setDwrr 3 lit1) ∧ (((ciphSt 3 0).setDeficit 3 12 5).setDwrr 3 lit1).laneElig [(12, none)] 12 = true ∧ (((ciphSt 3 0).setDeficit 3 12 5).setDwrr 3 lit1).csHead 12 = some lit0 ∧ ((((ciphSt 3 0).setDeficit 3 12 5).setDwrr 3 lit1).laneElig [(12, none)] 0 = false ∧ ((((ciphSt 3 0).setDeficit 3 12 5).setDwrr 3 lit1).dwrr (2 + 1)).cur = some 12 ∧ 0 < (((ciphSt 3 0).setDeficit 3 12 5).setDwrr 3 lit1).deficit (2 + 1) 12) ∧ fetchedHead [(12, none)] 12 = some none)) ∧
    ((¬hyp0 (ciphSt 0 0) ∧ (ciphSt 0 0).laneElig [(12, some (dsc 120062144 0 16 0))] 12 = true ∧ (ciphSt 0 0).csHead 12 = some lit0 ∧ ((∀ m < 128, m ≠ 12 → (ciphSt 0 0).laneElig [(12, some (dsc 120062144 0 16 0))] m = false) ∧ (12 = 0 ∨ (ciphSt 0 0).weight (2 + 1) 12 = 0)) ∧ fetchedHead [(12, some (dsc 120062144 0 16 0))] 12 = some (some (dsc 120062144 0 16 0)) ∧ (dsc 120062144 0 16 0).length = 14 ∧ hyp1 (ciphSt 0 0) (dsc 120062144 0 16 0) ∧ bitOf ((dsc 120062144 0 16 0).getD 0 0) 8 = false) ∧
    (¬hyp0 (ciphSt 0 0) ∧ (ciphSt 0 0).laneElig [(12, some (dsc 153616579 51380224 16 0))] 12 = true ∧ (ciphSt 0 0).csHead 12 = some lit0 ∧ ((∀ m < 128, m ≠ 12 → (ciphSt 0 0).laneElig [(12, some (dsc 153616579 51380224 16 0))] m = false) ∧ (12 = 0 ∨ (ciphSt 0 0).weight (2 + 1) 12 = 0)) ∧ fetchedHead [(12, some (dsc 153616579 51380224 16 0))] 12 = some (some (dsc 153616579 51380224 16 0)) ∧ (dsc 153616579 51380224 16 0).length = 14 ∧ ¬hyp1 (ciphSt 0 0) (dsc 153616579 51380224 16 0) ∧ hyp2 (ciphSt 0 0) lit0 (dsc 153616579 51380224 16 0) ∧ bitOf ((dsc 153616579 51380224 16 0).getD 0 0) 8 = false)) ∧
    (¬hyp0 (ciphSt 0 0) ∧ (ciphSt 0 0).laneElig [(12, some (dsc 120193219 51380224 16 0))] 12 = true ∧ (ciphSt 0 0).csHead 12 = some lit0 ∧ ((∀ m < 128, m ≠ 12 → (ciphSt 0 0).laneElig [(12, some (dsc 120193219 51380224 16 0))] m = false) ∧ (12 = 0 ∨ (ciphSt 0 0).weight (2 + 1) 12 = 0)) ∧ fetchedHead [(12, some (dsc 120193219 51380224 16 0))] 12 = some (some (dsc 120193219 51380224 16 0)) ∧ (dsc 120193219 51380224 16 0).length = 14 ∧ ¬hyp1 (ciphSt 0 0) (dsc 120193219 51380224 16 0) ∧ ¬hyp2 (ciphSt 0 0) lit0 (dsc 120193219 51380224 16 0) ∧ hyp3 (ciphSt 0 0) (dsc 120193219 51380224 16 0) ∧ bitOf ((dsc 120193219 51380224 16 0).getD 0 0) 8 = false) :=
  ⟨⟨by decide +kernel, by decide +kernel, by decide +kernel⟩,
   ⟨by decide +kernel, by decide +kernel⟩,
   ⟨by decide +kernel, by decide +kernel⟩,
   ⟨by intro h; cases h <;> decide +kernel, by unfold Takes; decide +kernel⟩,
   ⟨by intro h; cases h <;> decide +kernel, by unfold Takes; decide +kernel⟩,
   by decide +kernel,
   by decide +kernel,
   by decide +kernel⟩

/-- The hypotheses of `Obligations.CipherEngine` are met, clause by clause (part 2 of 5). -/
theorem wit_CipherEngine_2 :
    (¬hyp0 (ciphSt 0 0) ∧ (ciphSt 0 0).laneElig [(12, some (dsc 136839379 51380224 16 0))] 12 = true ∧ (ciphSt 0 0).csHead 12 = some lit0 ∧ ((∀ m < 128, m ≠ 12 → (ciphSt 0 0).laneElig [(12, some (dsc 136839379 51380224 16 0))] m = false) ∧ (12 = 0 ∨ (ciphSt 0 0).weight (2 + 1) 12 = 0)) ∧ fetchedHead [(12, some (dsc 136839379 51380224 16 0))] 12 = some (some (dsc 136839379 51380224 16 0)) ∧ (dsc 136839379 51380224 16 0).length = 14 ∧ ¬hyp1 (ciphSt 0 0) (dsc 136839379 51380224 16 0) ∧ ¬hyp2 (ciphSt 0 0) lit0 (dsc 136839379 51380224 16 0) ∧ ¬hyp3 (ciphSt 0 0) (dsc 136839379 51380224 16 0) ∧ hyp4 (ciphSt 0 0) (dsc 136839379 51380224 16 0) ∧ hyp5 (ciphSt 0 0) (dsc 136839379 51380224 16 0) ∧ bitOf ((dsc 136839379 51380224 16 0).getD 0 0) 8 = false) ∧
    ((¬hyp0 ((ciphSt 0 4096).setSlot 40 lit2) ∧ ((ciphSt 0 4096).setSlot 40 lit2).laneElig [(12, some (dsc 136839347 51380224 16 0))] 12 = true ∧ ((ciphSt 0 4096).setSlot 40 lit2).csHead 12 = some lit0 ∧ ((∀ m < 128, m ≠ 12 → ((ciphSt 0 4096).setSlot 40 lit2).laneElig [(12, some (dsc 136839347 51380224 16 0))] m = false) ∧ (12 = 0 ∨ ((ciphSt 0 4096).setSlot 40 lit2).weight (2 + 1) 12 = 0)) ∧ fetchedHead [(12, some (dsc 136839347 51380224 16 0))] 12 = some (some (dsc 136839347 51380224 16 0)) ∧ (dsc 136839347 51380224 16 0).length = 14 ∧ ¬hyp1 ((ciphSt 0 4096).setSlot 40 lit2) (dsc 136839347 51380224 16 0) ∧ ¬hyp2 ((ciphSt 0 4096).setSlot 40 lit2) lit0 (dsc 136839347 51380224 16 0) ∧ ¬hyp3 ((ciphSt 0 4096).setSlot 40 lit2) (dsc 136839347 51380224 16 0) ∧ hyp4 ((ciphSt 0 4096).setSlot 40 lit2) (dsc 136839347 51380224 16 0) ∧ ¬hyp5 ((ciphSt 0 4096).setSlot 40 lit2) (dsc 136839347 51380224 16 0) ∧ hyp6 ((ciphSt 0 4096).setSlot 40 lit2) (dsc 136839347 51380224 16 0) ∧ bitOf ((dsc 136839347 51380224 16 0).getD 0 0) 8 = false) ∧
    ((ciphSt 0 0).lane 1 = none ∨ (ciphSt 0 0).domainOn 10 = false ∨ (ciphSt 0 0).gated 0 = true)) ∧
    ((laneSt (ciphOp (dsc 120062147 51380224 40 0) 0 (some 4) false 0 0 9)).lane 1 = some (ciphOp (dsc 120062147 51380224 40 0) 0 (some 4) false 0 0 9) ∧ (¬((laneSt (ciphOp (dsc 120062147 51380224 40 0) 0 (some 4) false 0 0 9)).domainOn 10 = false ∨ (laneSt (ciphOp (dsc 120062147 51380224 40 0) 0 (some 4) false 0 0 9)).gated 0 = true)) ∧ (ciphOp (dsc 120062147 51380224 40 0) 0 (some 4) false 0 0 9).fail ≠ none) ∧
    ((laneSt (ciphOp (dsc 120062147 51380224 40 0) 0 none false 0 0 8)).lane 1 = some (ciphOp (dsc 120062147 51380224 40 0) 0 none false 0 0 8) ∧ (¬((laneSt (ciphOp (dsc 120062147 51380224 40 0) 0 none false 0 0 8)).domainOn 10 = false ∨ (laneSt (ciphOp (dsc 120062147 51380224 40 0) 0 none false 0 0 8)).gated 0 = true)) ∧ (ciphOp (dsc 120062147 51380224 40 0) 0 none false 0 0 8).fail = none ∧ (descMode (ciphOp (dsc 120062147 51380224 40 0) 0 none false 0 0 8).words ≠ 7 ∧ descMode (ciphOp (dsc 120062147 51380224 40 0) 0 none false 0 0 8).words ≠ 8 ∧ (((laneSt (ciphOp (dsc 120062147 51380224 40 0) 0 none false 0 0 8)).slot (descSlot (ciphOp (dsc 120062147 51380224 40 0) 0 none false 0 0 8).words)).valid = false ∨ ((laneSt (ciphOp (dsc 120062147 51380224 40 0) 0 none false 0 0 8)).slot (descSlot (ciphOp (dsc 120062147 51380224 40 0) 0 none false 0 0 8).words)).gen ≠ (ciphOp (dsc 120062147 51380224 40 0) 0 none false 0 0 8).gen))) ∧
    ((laneSt (ciphOp (dsc 120062147 51380224 40 0) 0 none false 0 0 9)).lane 1 = some (ciphOp (dsc 120062147 51380224 40 0) 0 none false 0 0 9) ∧ ¬hyp7 (dsc 120062147 51380224 40 0) ∧ (ciphOp (dsc 120062147 51380224 40 0) 0 none false 0 0 9).fail = none ∧ ¬hyp8 (dsc 120062147 51380224 40 0)) ∧
    ((laneSt (ciphOp (dsc 120062149 1048576 40 0) 0 none false 0 0 9)).lane 1 = some (ciphOp (dsc 120062149 1048576 40 0) 0 none false 0 0 9) ∧ ¬hyp7 (dsc 120062149 1048576 40 0) ∧ (ciphOp (dsc 120062149 1048576 40 0) 0 none false 0 0 9).fail = none ∧ ¬hyp8 (dsc 120062149 1048576 40 0) ∧ some (List.range 16) = some (List.range 16) ∧ (∀ b ∈ List.range 16, b < 256) ∧ hyp9 (dsc 120062149 1048576 40 0) ∧ (ciphOp (dsc 120062149 1048576 40 0) 0 none false 0 0 9).pass2 = false ∧ (ciphOp (dsc 120062149 1048576 40 0) 0 none false 0 0 9).base ≤ (ciphOp (dsc 120062149 1048576 40 0) 0 none false 0 0 9).inp.length ∧ hyp10 (dsc 120062149 1048576 40 0) ∧ (descMode (ciphOp (dsc 120062149 1048576 40 0) 0 none false 0 0 9).words = 5 ∨ descMode (ciphOp (dsc 120062149 1048576 40 0) 0 none false 0 0 9).words = 7 ∨ descMode (ciphOp (dsc 120062149 1048576 40 0) 0 none false 0 0 9).words = 8 ∨ descMode (ciphOp (dsc 120062149 1048576 40 0) 0 none false 0 0 9).words = 9)) ∧
    ((laneSt (ciphOp (dsc 120062147 51380224 40 0) 0 none false 0 0 9)).lane 1 = some (ciphOp (dsc 120062147 51380224 40 0) 0 none false 0 0 9) ∧ ¬hyp7 (dsc 120062147 51380224 40 0) ∧ (ciphOp (dsc 120062147 51380224 40 0) 0 none false 0 0 9).fail = none ∧ ¬hyp8 (dsc 120062147 51380224 40 0) ∧ some (List.range 16) = some (List.range 16) ∧ (∀ b ∈ List.range 16, b < 256) ∧ hyp9 (dsc 120062147 51380224 40 0) ∧ (ciphOp (dsc 120062147 51380224 40 0) 0 none false 0 0 9).pass2 = false ∧ (ciphOp (dsc 120062147 51380224 40 0) 0 none false 0 0 9).base ≤ (ciphOp (dsc 120062147 51380224 40 0) 0 none false 0 0 9).inp.length ∧ hyp10 (dsc 120062147 51380224 40 0) ∧ 1 ≤ descMode (ciphOp (dsc 120062147 51380224 40 0) 0 none false 0 0 9).words ∧ descMode (ciphOp (dsc 120062147 51380224 40 0) 0 none false 0 0 9).words ≤ 6 ∧ descMode (ciphOp (dsc 120062147 51380224 40 0) 0 none false 0 0 9).words ≠ 5 ∧ (¬((descMode (ciphOp (dsc 120062147 51380224 40 0) 0 none false 0 0 9).words = 3 ∨ descMode (ciphOp (dsc 120062147 51380224 40 0) 0 none false 0 0 9).words = 4 ∨ descMode (ciphOp (dsc 120062147 51380224 40 0) 0 none false 0 0 9).words = 6) ∧ descDir (ciphOp (dsc 120062147 51380224 40 0) 0 none false 0 0 9).words = 1)) ∧ true = true) ∧
    ((laneSt (ciphOp (dsc 120062147 51380224 40 0) 0 none false 0 0 9)).lane 1 = some (ciphOp (dsc 120062147 51380224 40 0) 0 none false 0 0 9) ∧ ¬hyp7 (dsc 120062147 51380224 40 0) ∧ (ciphOp (dsc 120062147 51380224 40 0) 0 none false 0 0 9).fail = none ∧ ¬hyp8 (dsc 120062147 51380224 40 0) ∧ some (List.range 16) = some (List.range 16) ∧ (∀ b ∈ List.range 16, b < 256) ∧ hyp9 (dsc 120062147 51380224 40 0) ∧ (ciphOp (dsc 120062147 51380224 40 0) 0 none false 0 0 9).pass2 = false ∧ (ciphOp (dsc 120062147 51380224 40 0) 0 none false 0 0 9).base ≤ (ciphOp (dsc 120062147 51380224 40 0) 0 none false 0 0 9).inp.length ∧ hyp10 (dsc 120062147 51380224 40 0) ∧ 1 ≤ descMode (ciphOp (dsc 120062147 51380224 40 0) 0 none false 0 0 9).words ∧ descMode (ciphOp (dsc 120062147 51380224 40 0) 0 none false 0 0 9).words ≤ 6 ∧ descMode (ciphOp (dsc 120062147 51380224 40 0) 0 none false 0 0 9).words ≠ 5 ∧ (¬((descMode (ciphOp (dsc 120062147 51380224 40 0) 0 none false 0 0 9).words = 3 ∨ descMode (ciphOp (dsc 120062147 51380224 40 0) 0 none false 0 0 9).words = 4 ∨ descMode (ciphOp (dsc 120062147 51380224 40 0) 0 none false 0 0 9).words = 6) ∧ descDir (ciphOp (dsc 120062147 51380224 40 0) 0 none false 0 0 9).words = 1)) ∧ false = false) :=
  ⟨by decide +kernel,
   by decide +kernel,
   by decide +kernel,
   by decide +kernel,
   by decide +kernel,
   by decide +kernel,
   by decide +kernel,
   by decide +kernel⟩

/-- The hypotheses of `Obligations.CipherEngine` are met, clause by clause (part 3 of 5). -/
theorem wit_CipherEngine_3 :
    (Takes (ciphSt 0 0) accM (viReg (11 + 1) Reg.Vi.CSUBMIT) ∧ (ciphSt 0 0).domainOn 10 = true ∧ accM.master = Master.half Half.a ∧ (ciphSt 0 0).role Half.a = roleActive ∧ (ciphSt 0 0).csOut (11 + 1) < 32) ∧
    (Takes (ciphSt 0 0) accM (ciphReg Reg.Ciph.SUBMIT) ∧ accM.master = Master.half Half.a ∧ (ciphSt 0 0).role Half.a = roleActive ∧ (ciphSt 0 0).csOut 0 < 32) :=
  by unfold Takes; decide +kernel

/-- The hypotheses of `Obligations.CipherEngine` are met, clause by clause (part 4 of 5). -/
theorem wit_CipherEngine_4 :
    (((laneSt (ciphOp (dsc 120062195 51380224 5000 0) 4080 none false 4080 0 9)).lane 1 = some (ciphOp (dsc 120062195 51380224 5000 0) 4080 none false 4080 0 9) ∧ (¬((laneSt (ciphOp (dsc 120062195 51380224 5000 0) 4080 none false 4080 0 9)).domainOn 10 = false ∨ (laneSt (ciphOp (dsc 120062195 51380224 5000 0) 4080 none false 4080 0 9)).gated 0 = true)) ∧ (ciphOp (dsc 120062195 51380224 5000 0) 4080 none false 4080 0 9).fail = none ∧ (¬(descMode (ciphOp (dsc 120062195 51380224 5000 0) 4080 none false 4080 0 9).words ≠ 7 ∧ descMode (ciphOp (dsc 120062195 51380224 5000 0) 4080 none false 4080 0 9).words ≠ 8 ∧ (((laneSt (ciphOp (dsc 120062195 51380224 5000 0) 4080 none false 4080 0 9)).slot (descSlot (ciphOp (dsc 120062195 51380224 5000 0) 4080 none false 4080 0 9).words)).valid = false ∨ ((laneSt (ciphOp (dsc 120062195 51380224 5000 0) 4080 none false 4080 0 9)).slot (descSlot (ciphOp (dsc 120062195 51380224 5000 0) 4080 none false 4080 0 9).words)).gen ≠ (ciphOp (dsc 120062195 51380224 5000 0) 4080 none false 4080 0 9).gen))) ∧ some (List.range 16) = some (List.range 16) ∧ (∀ b ∈ List.range 16, b < 256)) ∧ ((List.range 16).length = modeBlock (descMode (ciphOp (dsc 120062195 51380224 5000 0) 4080 none false 4080 0 9).words) ((laneSt (ciphOp (dsc 120062195 51380224 5000 0) 4080 none false 4080 0 9)).slot (descSlot (ciphOp (dsc 120062195 51380224 5000 0) 4080 none false 4080 0 9).words)).alg ∧ (ciphOp (dsc 120062195 51380224 5000 0) 4080 none false 4080 0 9).pass2 = false ∧ (ciphOp (dsc 120062195 51380224 5000 0) 4080 none false 4080 0 9).base ≤ (ciphOp (dsc 120062195 51380224 5000 0) 4080 none false 4080 0 9).inp.length ∧ (List.range 16).length ≤ descLen (ciphOp (dsc 120062195 51380224 5000 0) 4080 none false 4080 0 9).words - ((ciphOp (dsc 120062195 51380224 5000 0) 4080 none false 4080 0 9).inp.length - (ciphOp (dsc 120062195 51380224 5000 0) 4080 none false 4080 0 9).base) ∧ ((descMode (ciphOp (dsc 120062195 51380224 5000 0) 4080 none false 4080 0 9).words = 3 ∨ descMode (ciphOp (dsc 120062195 51380224 5000 0) 4080 none false 4080 0 9).words = 4 ∨ descMode (ciphOp (dsc 120062195 51380224 5000 0) 4080 none false 4080 0 9).words = 6) ∧ descDir (ciphOp (dsc 120062195 51380224 5000 0) 4080 none false 4080 0 9).words = 1)) ∧ descStream (ciphOp (dsc 120062195 51380224 5000 0) 4080 none false 4080 0 9).words = true ∧ ((ciphOp (dsc 120062195 51380224 5000 0) 4080 none false 4080 0 9).held.length + (List.range 16).length < 4096 ∨ true = true)) ∧
    (((laneSt (ciphOp (dsc 120062164 55574528 40 0) 16 none false 16 0 9)).lane 1 = some (ciphOp (dsc 120062164 55574528 40 0) 16 none false 16 0 9) ∧ (¬((laneSt (ciphOp (dsc 120062164 55574528 40 0) 16 none false 16 0 9)).domainOn 10 = false ∨ (laneSt (ciphOp (dsc 120062164 55574528 40 0) 16 none false 16 0 9)).gated 0 = true)) ∧ (ciphOp (dsc 120062164 55574528 40 0) 16 none false 16 0 9).fail = none ∧ (¬(descMode (ciphOp (dsc 120062164 55574528 40 0) 16 none false 16 0 9).words ≠ 7 ∧ descMode (ciphOp (dsc 120062164 55574528 40 0) 16 none false 16 0 9).words ≠ 8 ∧ (((laneSt (ciphOp (dsc 120062164 55574528 40 0) 16 none false 16 0 9)).slot (descSlot (ciphOp (dsc 120062164 55574528 40 0) 16 none false 16 0 9).words)).valid = false ∨ ((laneSt (ciphOp (dsc 120062164 55574528 40 0) 16 none false 16 0 9)).slot (descSlot (ciphOp (dsc 120062164 55574528 40 0) 16 none false 16 0 9).words)).gen ≠ (ciphOp (dsc 120062164 55574528 40 0) 16 none false 16 0 9).gen))) ∧ some (List.range 16) = some (List.range 16) ∧ (∀ b ∈ List.range 16, b < 256)) ∧ ((List.range 16).length = modeBlock (descMode (ciphOp (dsc 120062164 55574528 40 0) 16 none false 16 0 9).words) ((laneSt (ciphOp (dsc 120062164 55574528 40 0) 16 none false 16 0 9)).slot (descSlot (ciphOp (dsc 120062164 55574528 40 0) 16 none false 16 0 9).words)).alg ∧ (ciphOp (dsc 120062164 55574528 40 0) 16 none false 16 0 9).pass2 = false ∧ (ciphOp (dsc 120062164 55574528 40 0) 16 none false 16 0 9).base ≤ (ciphOp (dsc 120062164 55574528 40 0) 16 none false 16 0 9).inp.length ∧ (List.range 16).length ≤ descLen (ciphOp (dsc 120062164 55574528 40 0) 16 none false 16 0 9).words - ((ciphOp (dsc 120062164 55574528 40 0) 16 none false 16 0 9).inp.length - (ciphOp (dsc 120062164 55574528 40 0) 16 none false 16 0 9).base) ∧ ((descMode (ciphOp (dsc 120062164 55574528 40 0) 16 none false 16 0 9).words = 3 ∨ descMode (ciphOp (dsc 120062164 55574528 40 0) 16 none false 16 0 9).words = 4 ∨ descMode (ciphOp (dsc 120062164 55574528 40 0) 16 none false 16 0 9).words = 6) ∧ descDir (ciphOp (dsc 120062164 55574528 40 0) 16 none false 16 0 9).words = 1) ∧ descStream (ciphOp (dsc 120062164 55574528 40 0) 16 none false 16 0 9).words = false) ∧ descMode (ciphOp (dsc 120062164 55574528 40 0) 16 none false 16 0 9).words = 4) ∧
    (((laneSt (ciphOp (dsc 120062163 51380224 40 0) 16 none false 0 0 9)).lane 1 = some (ciphOp (dsc 120062163 51380224 40 0) 16 none false 0 0 9) ∧ (¬((laneSt (ciphOp (dsc 120062163 51380224 40 0) 16 none false 0 0 9)).domainOn 10 = false ∨ (laneSt (ciphOp (dsc 120062163 51380224 40 0) 16 none false 0 0 9)).gated 0 = true)) ∧ (ciphOp (dsc 120062163 51380224 40 0) 16 none false 0 0 9).fail = none ∧ (¬(descMode (ciphOp (dsc 120062163 51380224 40 0) 16 none false 0 0 9).words ≠ 7 ∧ descMode (ciphOp (dsc 120062163 51380224 40 0) 16 none false 0 0 9).words ≠ 8 ∧ (((laneSt (ciphOp (dsc 120062163 51380224 40 0) 16 none false 0 0 9)).slot (descSlot (ciphOp (dsc 120062163 51380224 40 0) 16 none false 0 0 9).words)).valid = false ∨ ((laneSt (ciphOp (dsc 120062163 51380224 40 0) 16 none false 0 0 9)).slot (descSlot (ciphOp (dsc 120062163 51380224 40 0) 16 none false 0 0 9).words)).gen ≠ (ciphOp (dsc 120062163 51380224 40 0) 16 none false 0 0 9).gen))) ∧ some (List.range 16) = some (List.range 16) ∧ (∀ b ∈ List.range 16, b < 256)) ∧ (List.range 16).length = modeBlock (descMode (ciphOp (dsc 120062163 51380224 40 0) 16 none false 0 0 9).words) ((laneSt (ciphOp (dsc 120062163 51380224 40 0) 16 none false 0 0 9)).slot (descSlot (ciphOp (dsc 120062163 51380224 40 0) 16 none false 0 0 9).words)).alg ∧ (ciphOp (dsc 120062163 51380224 40 0) 16 none false 0 0 9).pass2 = false ∧ (ciphOp (dsc 120062163 51380224 40 0) 16 none false 0 0 9).base ≤ (ciphOp (dsc 120062163 51380224 40 0) 16 none false 0 0 9).inp.length ∧ ((descMode (ciphOp (dsc 120062163 51380224 40 0) 16 none false 0 0 9).words = 3 ∨ descMode (ciphOp (dsc 120062163 51380224 40 0) 16 none false 0 0 9).words = 4 ∨ descMode (ciphOp (dsc 120062163 51380224 40 0) 16 none false 0 0 9).words = 6) ∧ descDir (ciphOp (dsc 120062163 51380224 40 0) 16 none false 0 0 9).words = 1) ∧ descStream (ciphOp (dsc 120062163 51380224 40 0) 16 none false 0 0 9).words = false ∧ descMode (ciphOp (dsc 120062163 51380224 40 0) 16 none false 0 0 9).words ≠ 4 ∧ (List.range 16).length ≤ descLen (ciphOp (dsc 120062163 51380224 40 0) 16 none false 0 0 9).words - ((ciphOp (dsc 120062163 51380224 40 0) 16 none false 0 0 9).inp.length - (ciphOp (dsc 120062163 51380224 40 0) 16 none false 0 0 9).base)) ∧
    (((laneSt (ciphOp (dsc 120062147 51380224 40 0) 40 none false 0 40 9)).lane 1 = some (ciphOp (dsc 120062147 51380224 40 0) 40 none false 0 40 9) ∧ (¬((laneSt (ciphOp (dsc 120062147 51380224 40 0) 40 none false 0 40 9)).domainOn 10 = false ∨ (laneSt (ciphOp (dsc 120062147 51380224 40 0) 40 none false 0 40 9)).gated 0 = true)) ∧ bitOf (descWord (ciphOp (dsc 120062147 51380224 40 0) 40 none false 0 40 9).words 0) 8 = false ∧ (ciphOp (dsc 120062147 51380224 40 0) 40 none false 0 40 9).fail = none ∧ (¬(descMode (ciphOp (dsc 120062147 51380224 40 0) 40 none false 0 40 9).words ≠ 7 ∧ descMode (ciphOp (dsc 120062147 51380224 40 0) 40 none false 0 40 9).words ≠ 8 ∧ (((laneSt (ciphOp (dsc 120062147 51380224 40 0) 40 none false 0 40 9)).slot (descSlot (ciphOp (dsc 120062147 51380224 40 0) 40 none false 0 40 9).words)).valid = false ∨ ((laneSt (ciphOp (dsc 120062147 51380224 40 0) 40 none false 0 40 9)).slot (descSlot (ciphOp (dsc 120062147 51380224 40 0) 40 none false 0 40 9).words)).gen ≠ (ciphOp (dsc 120062147 51380224 40 0) 40 none false 0 40 9).gen)))) ∧ (ciphOp (dsc 120062147 51380224 40 0) 40 none false 0 40 9).inp.length - (ciphOp (dsc 120062147 51380224 40 0) 40 none false 0 40 9).base = descLen (ciphOp (dsc 120062147 51380224 40 0) 40 none false 0 40 9).words ∧ (ciphOp (dsc 120062147 51380224 40 0) 40 none false 0 40 9).pass2 = false ∧ (ciphOp (dsc 120062147 51380224 40 0) 40 none false 0 40 9).held = [] ∧ descDir (ciphOp (dsc 120062147 51380224 40 0) 40 none false 0 40 9).words = 0 ∧ true = true ∧ true = true) ∧
    (((laneSt (ciphOp (dsc 120062163 51380224 40 0) 40 none true 40 40 9)).lane 1 = some (ciphOp (dsc 120062163 51380224 40 0) 40 none true 40 40 9) ∧ (¬((laneSt (ciphOp (dsc 120062163 51380224 40 0) 40 none true 40 40 9)).domainOn 10 = false ∨ (laneSt (ciphOp (dsc 120062163 51380224 40 0) 40 none true 40 40 9)).gated 0 = true)) ∧ bitOf (descWord (ciphOp (dsc 120062163 51380224 40 0) 40 none true 40 40 9).words 0) 8 = false ∧ (ciphOp (dsc 120062163 51380224 40 0) 40 none true 40 40 9).fail = none ∧ (¬(descMode (ciphOp (dsc 120062163 51380224 40 0) 40 none true 40 40 9).words ≠ 7 ∧ descMode (ciphOp (dsc 120062163 51380224 40 0) 40 none true 40 40 9).words ≠ 8 ∧ (((laneSt (ciphOp (dsc 120062163 51380224 40 0) 40 none true 40 40 9)).slot (descSlot (ciphOp (dsc 120062163 51380224 40 0) 40 none true 40 40 9).words)).valid = false ∨ ((laneSt (ciphOp (dsc 120062163 51380224 40 0) 40 none true 40 40 9)).slot (descSlot (ciphOp (dsc 120062163 51380224 40 0) 40 none true 40 40 9).words)).gen ≠ (ciphOp (dsc 120062163 51380224 40 0) 40 none true 40 40 9).gen)))) ∧ (ciphOp (dsc 120062163 51380224 40 0) 40 none true 40 40 9).inp.length - (ciphOp (dsc 120062163 51380224 40 0) 40 none true 40 40 9).base = descLen (ciphOp (dsc 120062163 51380224 40 0) 40 none true 40 40 9).words ∧ (ciphOp (dsc 120062163 51380224 40 0) 40 none true 40 40 9).pass2 = true ∧ (ciphOp (dsc 120062163 51380224 40 0) 40 none true 40 40 9).held.length = descLen (ciphOp (dsc 120062163 51380224 40 0) 40 none true 40 40 9).words ∧ (descMode (ciphOp (dsc 120062163 51380224 40 0) 40 none true 40 40 9).words = 3 ∨ descMode (ciphOp (dsc 120062163 51380224 40 0) 40 none true 40 40 9).words = 6) ∧ descDir (ciphOp (dsc 120062163 51380224 40 0) 40 none true 40 40 9).words = 1 ∧ descStream (ciphOp (dsc 120062163 51380224 40 0) 40 none true 40 40 9).words = false ∧ true = true) ∧
    ((laneSt (ciphOp (dsc 120062147 51380224 40 0) 16 none false 0 0 9)).lane 1 = some (ciphOp (dsc 120062147 51380224 40 0) 16 none false 0 0 9) ∧ (¬((laneSt (ciphOp (dsc 120062147 51380224 40 0) 16 none false 0 0 9)).domainOn 10 = false ∨ (laneSt (ciphOp (dsc 120062147 51380224 40 0) 16 none false 0 0 9)).gated 0 = true)) ∧ (ciphOp (dsc 120062147 51380224 40 0) 16 none false 0 0 9).fail = none ∧ (ciphOp (dsc 120062147 51380224 40 0) 16 none false 0 0 9).inp.length - (ciphOp (dsc 120062147 51380224 40 0) 16 none false 0 0 9).base ≠ descLen (ciphOp (dsc 120062147 51380224 40 0) 16 none false 0 0 9).words) ∧
    ((laneSt (ciphOp (dsc 120062147 51380224 40 0) 16 (some 4) false 0 16 9)).lane 1 = some (ciphOp (dsc 120062147 51380224 40 0) 16 (some 4) false 0 16 9) ∧ (¬((laneSt (ciphOp (dsc 120062147 51380224 40 0) 16 (some 4) false 0 16 9)).domainOn 10 = false ∨ (laneSt (ciphOp (dsc 120062147 51380224 40 0) 16 (some 4) false 0 16 9)).gated 0 = true)) ∧ bitOf (descWord (ciphOp (dsc 120062147 51380224 40 0) 16 (some 4) false 0 16 9).words 0) 8 = false ∧ ((ciphOp (dsc 120062147 51380224 40 0) 16 (some 4) false 0 16 9).fail = some 4 ∨ (ciphOp (dsc 120062147 51380224 40 0) 16 (some 4) false 0 16 9).fail = some 11) ∧ descMode (ciphOp (dsc 120062147 51380224 40 0) 16 (some 4) false 0 16 9).words ≠ 5 ∧ 1 ≤ descMode (ciphOp (dsc 120062147 51380224 40 0) 16 (some 4) false 0 16 9).words ∧ descMode (ciphOp (dsc 120062147 51380224 40 0) 16 (some 4) false 0 16 9).words ≤ 6) ∧
    ((laneSt (ciphOp (dsc 120062162 67108864 40 0) 16 (some 10) false 0 16 9)).lane 1 = some (ciphOp (dsc 120062162 67108864 40 0) 16 (some 10) false 0 16 9) ∧ (¬((laneSt (ciphOp (dsc 120062162 67108864 40 0) 16 (some 10) false 0 16 9)).domainOn 10 = false ∨ (laneSt (ciphOp (dsc 120062162 67108864 40 0) 16 (some 10) false 0 16 9)).gated 0 = true)) ∧ bitOf (descWord (ciphOp (dsc 120062162 67108864 40 0) 16 (some 10) false 0 16 9).words 0) 8 = false ∧ (ciphOp (dsc 120062162 67108864 40 0) 16 (some 10) false 0 16 9).fail = some 10) ∧
    ((laneSt (ciphOp (dsc 120062195 51380224 5000 0) 5000 (some 2) false 0 5000 9)).lane 1 = some (ciphOp (dsc 120062195 51380224 5000 0) 5000 (some 2) false 0 5000 9) ∧ (¬((laneSt (ciphOp (dsc 120062195 51380224 5000 0) 5000 (some 2) false 0 5000 9)).domainOn 10 = false ∨ (laneSt (ciphOp (dsc 120062195 51380224 5000 0) 5000 (some 2) false 0 5000 9)).gated 0 = true)) ∧ bitOf (descWord (ciphOp (dsc 120062195 51380224 5000 0) 5000 (some 2) false 0 5000 9).words 0) 8 = false ∧ (ciphOp (dsc 120062195 51380224 5000 0) 5000 (some 2) false 0 5000 9).fail = some 2) ∧
    (rs.setGateSt 10 0).domainOn 10 = false :=
  ⟨⟨by decide +kernel, by decide +kernel, by decide +kernel⟩,
   ⟨by decide +kernel, by decide +kernel, by decide +kernel⟩,
   ⟨by decide +kernel, by decide +kernel⟩,
   ⟨by decide +kernel, by decide +kernel⟩,
   ⟨by decide +kernel, by decide +kernel⟩,
   by decide +kernel,
   by decide +kernel,
   by decide +kernel⟩

/-- The hypotheses of `Obligations.CipherEngine` are met, clause by clause (part 5 of 5). -/
theorem wit_CipherEngine_5 :
    ((((laneSt (ciphOp (dsc 120062147 51380224 40 0) 0 none false 0 0 9)).setSa 3 0 { slot := 44, en := true, result := 1, salt := [] : Sa }).domainOn 10 = true ∧ ((laneSt (ciphOp (dsc 120062147 51380224 40 0) 0 none false 0 0 9)).setSa 3 0 { slot := 44, en := true, result := 1, salt := [] : Sa }).reaction 38 ≤ 1) ∧
    ((rs.setGateSt 10 0).domainOn 10 = false ∨ (rs.setGateSt 10 0).bit (trngReg Reg.Trng.TRNG_STAT) 0 = true ∨ (rs.setGateSt 10 0).bit (trngReg Reg.Trng.TRNG_STAT) 2 = true) ∧
    (((ciphSt 0 0).setFld (trngReg Reg.Trng.TRNG_STAT) 0 4 2).domainOn 10 = true ∧ ((ciphSt 0 0).setFld (trngReg Reg.Trng.TRNG_STAT) 0 4 2).bit (trngReg Reg.Trng.TRNG_STAT) 0 = false ∧ ((ciphSt 0 0).setFld (trngReg Reg.Trng.TRNG_STAT) 0 4 2).bit (trngReg Reg.Trng.TRNG_STAT) 2 = false)) ∧
    ((Shows ((ciphSt 0 0).wrN (trngBase + Reg.Hdr.OWNER) 774) accN (trngReg Reg.Trng.RAND_DATA) ∧ (((ciphSt 0 0).wrN (trngBase + Reg.Hdr.OWNER) 774).asSent accN).secure = false) ∧
    (Shows ((ciphSt 0 0).setFld (trngReg Reg.Trng.TRNG_STAT) 0 4 2) accA (trngReg Reg.Trng.RAND_DATA) ∧ (((ciphSt 0 0).setFld (trngReg Reg.Trng.TRNG_STAT) 0 4 2).asSent accA).secure = true ∧ ((ciphSt 0 0).setFld (trngReg Reg.Trng.TRNG_STAT) 0 4 2).trngReady = false) ∧
    (Shows (ciphSt 0 0) accA (trngReg Reg.Trng.RAND_DATA) ∧ ((ciphSt 0 0).asSent accA).secure = true ∧ (ciphSt 0 0).trngReady = true)) ∧
    ((Takes (ciphSt 0 0) accM (msReg 5 Reg.Msec.SA_CTRL) ∧ bitOf 298 8 = true ∧ (((ciphSt 0 0).slot (bitsOf 298 0 8)).valid = false ∨ ((ciphSt 0 0).slot (bitsOf 298 0 8)).life = 1 ∧ ((ciphSt 0 0).slot (bitsOf 298 0 8)).count = 0)) ∧
    (Takes (ciphSt 0 0) accM (msReg 0 Reg.Msec.SA_CTRL) ∧ bitOf 296 8 = true ∧ (¬(((ciphSt 0 0).slot (bitsOf 296 0 8)).valid = false ∨ ((ciphSt 0 0).slot (bitsOf 296 0 8)).life = 1 ∧ ((ciphSt 0 0).slot (bitsOf 296 0 8)).count = 0)) ∧ (((ciphSt 0 0).slot (bitsOf 296 0 8)).alg ≠ 2 ∨ ((ciphSt 0 0).slot (bitsOf 296 0 8)).usage.testBit 7 = false)) ∧
    (Takes (ciphSt 0 0) accM (msReg 3 Reg.Msec.SA_CTRL) ∧ bitOf 300 8 = true ∧ (¬(((ciphSt 0 0).slot (bitsOf 300 0 8)).valid = false ∨ ((ciphSt 0 0).slot (bitsOf 300 0 8)).life = 1 ∧ ((ciphSt 0 0).slot (bitsOf 300 0 8)).count = 0)) ∧ ((ciphSt 0 0).slot (bitsOf 300 0 8)).alg = 2 ∧ ((ciphSt 0 0).slot (bitsOf 300 0 8)).usage.testBit 7 = true ∧ ((ciphSt 0 0).sa 3 ((ciphSt 0 0).saSel 3)).en = false) ∧
    (Takes (ciphSt 0 0) accM (msReg 3 Reg.Msec.SA_CTRL) ∧ bitOf 44 8 = false ∧ ((ciphSt 0 0).slot ((ciphSt 0 0).sa 3 ((ciphSt 0 0).saSel 3)).slot).life = 0)) ∧
    (Takes (((ciphSt 0 0).setBit (ciphReg Reg.Ciph.ALARM_STAT) 0 true).setBit (trngReg Reg.Trng.TRNG_STAT) 2 true) accA (ciphReg Reg.Ciph.ALARM_CLR) ∧ ((((ciphSt 0 0).setBit (ciphReg Reg.Ciph.ALARM_STAT) 0 true).setBit (trngReg Reg.Trng.TRNG_STAT) 2 true).asSent accA).secure = true ∧ bitOf 1 0 = true ∧ (((ciphSt 0 0).setBit (ciphReg Reg.Ciph.ALARM_STAT) 0 true).setBit (trngReg Reg.Trng.TRNG_STAT) 2 true).bit (ciphReg Reg.Ciph.ALARM_STAT) 0 = true) ∧
    (Takes (((ciphSt 0 0).setBit (ciphReg Reg.Ciph.ALARM_STAT) 0 true).setBit (trngReg Reg.Trng.TRNG_STAT) 2 true) accA (ciphReg Reg.Ciph.ALARM_CLR) ∧ ((((ciphSt 0 0).setBit (ciphReg Reg.Ciph.ALARM_STAT) 0 true).setBit (trngReg Reg.Trng.TRNG_STAT) 2 true).asSent accA).secure = true ∧ (bitOf 4294967294 0 = false ∨ (((ciphSt 0 0).setBit (ciphReg Reg.Ciph.ALARM_STAT) 0 true).setBit (trngReg Reg.Trng.TRNG_STAT) 2 true).bit (ciphReg Reg.Ciph.ALARM_STAT) 0 = false)) ∧
    (Takes (((ciphSt 0 0).setBit (ciphReg Reg.Ciph.ALARM_STAT) 0 true).setBit (trngReg Reg.Trng.TRNG_STAT) 2 true) accM (ciphReg Reg.Ciph.ALARM_CLR) ∧ ((((ciphSt 0 0).setBit (ciphReg Reg.Ciph.ALARM_STAT) 0 true).setBit (trngReg Reg.Trng.TRNG_STAT) 2 true).asSent accM).secure = false) :=
  ⟨by decide +kernel,
   by unfold Shows; decide +kernel,
   by unfold Takes; decide +kernel,
   by unfold Takes; decide +kernel⟩

end Cipher

namespace Service

/-- A session's request without its trailer: session 5, SEQ 4. -/
def isq (cmd : Nat) (pay : List Nat) : List Nat := [0x11, cmd, 0, 5, 0, 0, 0, 4, 0, 0] ++ bigEnd 2 pay.length ++ pay
/-- Shepherd with session 5 of a level, open, three requests executed; sessions' secrets in K254 and K255; SP's link up. -/
def spSes (lv : Nat) : Session :=
  { num := 5, level := lv, opened := true, ntool := [1], ndev := [2], unit := 9, boot := 1, digest := [3], seq := 3, resp := [0x12, 9], mac := [7] }
/-- Shepherd with the sessions given and nothing waiting. -/
def spSt (l : List Session) : State :=
  { rs with
    rst := []
    drsValid := true
    slots := [(254, { valid := true, alg := 4, usage := 0x40, world := true, key := [1, 2] }),
      (255, { valid := true, alg := 4, usage := 0x40, world := true, key := [3, 4] })]
    shep := { rs.shep with
      sessions := l } }.setBit (sportReg Reg.Sport.SP_STAT) 0 true
/-- The request with its trailer, its station and the session's MAC. -/
def spReq (lv cmd : Nat) (pay : List Nat) : IspReq :=
  let l := isq cmd pay ++ (spSt [spSes lv]).frameMac (spSes lv) (isq cmd pay)
  ⟨[1, 2, 3, 4, 5, 6], l ++ List.replicate (46 - l.length) 0⟩
/-- That request waiting, Shepherd as `f` changes it. -/
def spRun (lv cmd : Nat) (pay : List Nat) (f : ShepSt → ShepSt) : State :=
  let s := spSt [spSes lv]
  { s with
    shep := f { s.shep with
      reqs := [spReq lv cmd pay] } }
/-- An Ifeanan frame to the service port with its FCS. -/
def spFrm (l : List Nat) : List Nat := withFcs (ethFrame [0, 0, 0, 0, 0, 0] [1, 2, 3, 4, 5, 6] (l ++ List.replicate (46 - l.length) 0) ++ [0, 0, 0, 0])
/-- A frame of the protocol from a half's receive path. -/
def spRxI (l : List Nat) : RxItem := { ws := [], inseq := 0, octs := spFrm l }
def spId : ShepSt → ShepSt := fun s => s
/-- A session of a level that waits for its AUTH. -/
def auSes (lv : Nat) : Session := { num := 5, level := lv, ntool := [1], ndev := [2], unit := 9, boot := 1, digest := [3], mac := [7] }
/-- Its AUTH request with a proof. -/
def auReq (lv : Nat) (good : Bool) : IspReq :=
  let s := spSt [auSes lv]
  let x := auSes lv
  let p := if lv = 4 then List.replicate 96 1 else if good then s.proof x (x.chal [1]) else List.replicate 32 1
  let l := [0x11, 2, 0, 5, 0, 0, 0, 1, 0, 0] ++ bigEnd 2 p.length ++ p
  ⟨[1, 2, 3, 4, 5, 6], l ++ (if lv = 4 then [] else s.frameMac x l)⟩
def auSt (lv : Nat) (good : Bool) (n : Nat) : State :=
  let s := spSt [auSes lv]
  { s with
    shep := { s.shep with
      reqs := [auReq lv good]
      fails := n } }
/-- A Whistle body: ACT_ID, GROUP 7, FLAGS, an instant in seconds, the origin. -/
def whl (id flags sec : Nat) : List Nat := bigEnd 4 id ++ [0, 7] ++ bigEnd 2 flags ++ bigEnd 6 sec ++ bigEnd 4 5 ++ [1, 2] ++ List.replicate 96 1
/-- A member of group 7 with LAST_ACT_ID 0x10. -/
def mem (s : State) (act : Nat) : State :=
  (((s.wrN (shepReg Reg.Shep.ACT_GROUP + 28) 0x80000007).wrN (shepReg Reg.Shep.LAST_ACT_ID) 0x10).wrN (shepReg Reg.Shep.ACT_ID) 0x10).setActState act
/-- An armed module with TB0 at 3 s and the instant at n s; the device state, the target slot's state and the lock's holder given. -/
def armSt (n dev oth : Nat) (hold : Option Nat) : State :=
  let s := { rs with
    rst := []
    shep := { rs.shep with
      otherSt := oth
      holder := hold } }
  let s := ((s.setActState 1).setDevState dev).wrN (shepReg Reg.Shep.INSTANT_SEC_LO) n
  { s with
    time := { s.time with
      clk0 := { s.time.clk0 with
        now := { s.time.clk0.now with sec := 3 } } } }
/-- A state of these witnesses. -/
def st0 := { spSt [] with shep := { (spSt []).shep with reqs := List.replicate 16 ⟨[], []⟩, closing := none } }
/-- A state of these witnesses. -/
def st1 := { spSt [] with shep := { (spSt []).shep with reqs := List.replicate 15 ⟨[], []⟩, closing := some ⟨[], []⟩ } }
/-- A state of these witnesses. -/
def st2 := { spSt [] with shep := { (spSt []).shep with locked := true } }
/-- A state of these witnesses. -/
def st3 := { spSt [] with slots := [] }
/-- A state of these witnesses. -/
def st4 := { spSt [spSes 2] with slots := [] }
/-- A state of these witnesses. -/
def st5 := { spSes 2 with seq := 4 }
/-- A state of these witnesses. -/
def st6 := { spSes 2 with seq := 7 }
/-- A state of these witnesses. -/
def st7 := { rs with hostRxA := [spRxI [0x11]] }
/-- A state of these witnesses. -/
def st8 := { rs with hostRxA := [spRxI ([0x13] ++ List.replicate 9 0 ++ [0, 116] ++ List.replicate 116 9), spRxI [9]] }
/-- A state of these witnesses. -/
def st9 := { (spSt []) with shep := { ((spSt [])).shep with reqs := [⟨[1, 2, 3, 4, 5, 6], ([0x11, 1, 0, 0, 0, 0, 0, 0, 0, 0, 0, 33, 1] ++ List.replicate 32 7) ++ [0]⟩] } }
/-- A change of Shepherd. -/
def ch10 : ShepSt → ShepSt := fun h => { h with holder := some 9, nextOff := 77 }
/-- A change of Shepherd. -/
def ch11 : ShepSt → ShepSt := fun h => { h with holder := some 6 }
/-- A change of Shepherd. -/
def ch12 : ShepSt → ShepSt := fun h => { h with holder := some 5, imgLen := 1024, nextOff := 4, img := [1, 2, 3, 4], otherSt := 1 }
/-- A change of Shepherd. -/
def ch13 : ShepSt → ShepSt := fun h => { h with holder := some 5, imgLen := 512, nextOff := 512, img := List.replicate 512 1, otherSt := 1 }
/-- A change of Shepherd. -/
def ch14 : ShepSt → ShepSt := fun h => { h with holder := some 5, imgLen := 512, nextOff := 512, img := ([0x4D, 0x49, 0x55, 0x5A, 1, 0, 0, 0, 0, 0, 0, 0, 0, 2, 0, 0, 5, 0, 0, 0] ++ List.replicate 492 0), otherSt := 2, closing := some (spReq 2 0x22 []), reqs := [] }
/-- A change of Shepherd. -/
def ch15 : ShepSt → ShepSt := fun h => { h with locked := true, fails := 3 }
/-- A change of Shepherd. -/
def ch16 : ShepSt → ShepSt := fun h => { h with holder := some 9 }
/-- A state of these witnesses. -/
def st17 := { spSt [] with shep := { (spSt []).shep with sends := [⟨whl 1 0 5, 5⟩, ⟨[], 2⟩] } }
/-- A state of these witnesses. -/
def st18 := { spSt [] with shep := { (spSt []).shep with whistleIn := [(whl 0x12 0 30), [1]], acted := [(0x12, false)], otherSt := 0, holder := none } }
/-- A state of these witnesses. -/
def st19 := { spSt [] with shep := { (spSt []).shep with whistleIn := [(whl 0x12 0 30), [1]], acted := [], otherSt := 0, holder := none } }
/-- A state of these witnesses. -/
def st20 := { rs with shep := { rs.shep with ackIn := [[0,0,0,9,1,1,1]], lastOrigin := some 9 } }
/-- A state of these witnesses. -/
def st21 := { rs with shep := { rs.shep with ackIn := [[0,0,0,9,1,1,1]], lastOrigin := some 8 } }
/-- A state of these witnesses. -/
def st22 := { rs with rst := [] }
/-- A state of these witnesses. -/
def st23 := { rs with shep := { rs.shep with holder := none } }
/-- A state of these witnesses. -/
def st24 := { rs with shep := { rs.shep with winEnd := some 5, recovered := false, bootSt := 3, otherSt := 5, verBoot := 6 } }
/-- A state of these witnesses. -/
def st25 := { rs with shep := { rs.shep with winEnd := some 5, recovered := true, bootSt := 3, otherSt := 5, verBoot := 6 } }
/-- A state of these witnesses. -/
def st26 := { rs with shep := { rs.shep with winEnd := some 0, recovered := false, bootSt := 3, otherSt := 5, verBoot := 6 } }
/-- A state of these witnesses. -/
def st27 := { rs with supplied := false }
/-- A state of these witnesses. -/
def st28 := { spSt [spSes 2, auSes 1] with shep := { (spSt [spSes 2, auSes 1]).shep with holder := some 5, reqs := [⟨[], []⟩], fails := 3, locked := true, sends := [⟨[], 3⟩], whistleIn := [[]], ackIn := [[]], closing := some ⟨[], []⟩ } }
/-- The state Shepherd executes a request in. -/
def idle (s : State) : State := { s with shep := { s.shep with reqs := [] } }
/-- Octets of a list that begins with octets. -/
theorem octs_append (m p : List Nat) (n : Nat) (h : m.length = n) (hb : ∀ x ∈ m, x < 256) : octs (m ++ p) n = m := by
  subst h
  apply List.ext_getElem
  · simp [octs]
  · intro i h1 h2
    have h3 : i < m.length := by simpa [octs] using h1
    simp [octs, List.getElem?_append_left h3, List.getElem?_eq_getElem h3]
    exact hb _ (List.getElem_mem h3)

/-- A MAC is 16 octets. -/
theorem frameMac_shape (s : State) (x : Session) (l : List Nat) :
    (s.frameMac x l).length = 16 ∧ ∀ y ∈ s.frameMac x l, y < 256 := by
  have h : (s.proof x (x.chal l)).length = 32 ∧ ∀ y ∈ s.proof x (x.chal l), y < 256 := by
    unfold State.proof
    dsimp only
    split
    · constructor
      · simp [octs]
      · intro y hy; simp only [octs, List.mem_map] at hy; obtain ⟨i, -, rfl⟩ := hy; exact Nat.mod_lt _ (by decide)
    · constructor
      · simp
      · intro y hy; simp only [List.mem_map] at hy; obtain ⟨i, -, rfl⟩ := hy; exact Nat.mod_lt _ (by decide)
  constructor
  · simp [State.frameMac, h.1]
  · intro y hy; exact h.2 y (List.mem_of_mem_take hy)

/-- A request whose trailer is the MAC over what stands before it has a good trailer. -/
theorem trailer_good (s : State) (x : Session) (r : IspReq) (l p : List Nat) (hl : hmacLevel x.level = true)
    (hv : (s.slot (levelSlot x.level)).valid = true) (hn : 12 + r.len = l.length)
    (ho : r.octs = l ++ s.frameMac x l ++ p) : s.trailerOk x r = true := by
  have hm := frameMac_shape s x l
  have h1 : r.octs.take (12 + r.len) = l := by rw [ho, hn, List.append_assoc, List.take_left']; rfl
  have h2 : octs (r.octs.drop (12 + r.len)) 16 = s.frameMac x l := by
    rw [ho, hn, List.append_assoc, List.drop_left', octs_append _ _ _ hm.1 hm.2]; rfl
  simp [State.trailerOk, trailerLen, hl, hv, h1, h2]

/-- A MAC depends on the session and the level's slot alone. -/
theorem frameMac_of_slot (s u : State) (x y : Session) (l : List Nat)
    (hs : s.slot (levelSlot x.level) = u.slot (levelSlot y.level))
    (hx : x.ndev = y.ndev ∧ x.ntool = y.ntool ∧ x.unit = y.unit ∧ x.boot = y.boot ∧ x.digest = y.digest) :
    s.frameMac x l = u.frameMac y l := by
  simp [State.frameMac, State.proof, Session.chal, hs, hx]

/-- The helper's request has a good trailer in every state whose slot is the helper's. -/
theorem spReq_good (s : State) (x : Session) (lv cmd : Nat) (pay : List Nat) (hl : hmacLevel x.level = true)
    (hs : s.slot (levelSlot x.level) = (spSt [spSes lv]).slot (levelSlot lv))
    (hx : x.ndev = [2] ∧ x.ntool = [1] ∧ x.unit = 9 ∧ x.boot = 1 ∧ x.digest = [3])
    (hv : (s.slot (levelSlot x.level)).valid = true) (hn : (spReq lv cmd pay).len = pay.length) :
    s.trailerOk x (spReq lv cmd pay) = true := by
  refine trailer_good s x _ (isq cmd pay)
    (List.replicate (46 - (isq cmd pay ++ (spSt [spSes lv]).frameMac (spSes lv) (isq cmd pay)).length) 0) hl hv ?_ ?_
  · rw [hn]; simp [isq, bigEnd]; omega
  · rw [frameMac_of_slot s (spSt [spSes lv]) x (spSes lv) _ hs hx]; rfl

/-- The helper's request of the helper's session is executed next. -/
theorem serves (s : State) (x : Session) (lv cmd : Nat) (pay : List Nat) (hq : s.shep.reqs = [spReq lv cmd pay])
    (h : s.shep.closing = none ∧ (spReq lv cmd pay).cmd = cmd ∧ s.sessionOf (spReq lv cmd pay) = some x ∧
      lenFits (spReq lv cmd pay).octs (trailerLen x cmd) = true ∧ (spReq lv cmd pay).seq = (x.seq + 1) % 2 ^ 32 ∧
      (s.inDead = true → cmdInDead cmd = true))
    (g : hmacLevel x.level = true ∧ s.slot (levelSlot x.level) = (spSt [spSes lv]).slot (levelSlot lv) ∧
      (x.ndev = [2] ∧ x.ntool = [1] ∧ x.unit = 9 ∧ x.boot = 1 ∧ x.digest = [3]) ∧
      (s.slot (levelSlot x.level)).valid = true ∧ (spReq lv cmd pay).len = pay.length) :
    Serves s (spReq lv cmd pay) x cmd :=
  ⟨h.1, hq, h.2.1, h.2.2.1, h.2.2.2.1, spReq_good s x lv cmd pay g.1 g.2.1 g.2.2.1 g.2.2.2.1 g.2.2.2.2, h.2.2.2.2.1, h.2.2.2.2.2⟩

/-- A frame with its FCS has a good FCS. -/
theorem fcs_good (l : List Nat) : fcsGood (withFcs l) = true := by
  have e : (withFcs l).take ((withFcs l).length - 4) = l.take (l.length - 4) := by
    have : (withFcs l).length = l.length - 4 + 4 := by simp [withFcs, littleEnd]
    rw [this, Nat.add_sub_cancel]
    unfold withFcs
    rw [List.take_left']; simp
  simp only [fcsGood, beq_iff_eq]
  conv_rhs => rw [withFcs]
  simp only [e]
  rfl

/-- The request a frame to the service port carries. -/
def ofFrm (l : List Nat) : IspReq := ⟨octs (l.drop 6) 6, (l.drop 14).take (l.length - 18)⟩

/-- A frame of at least 46 octets of payload carries them. -/
theorem spFrm_body (l : List Nat) (h : 46 ≤ l.length) : ofFrm (spFrm l) = ⟨[1, 2, 3, 4, 5, 6], l⟩ := by
  have e : spFrm l = ([0, 0, 0, 0, 0, 0] ++ [1, 2, 3, 4, 5, 6] ++ [0x88, 0xB5]) ++ (l ++ littleEnd 4 (crc32 (([0, 0, 0, 0, 0, 0] ++ [1, 2, 3, 4, 5, 6] ++ [0x88, 0xB5]) ++ l))) := by
    have h1 : 46 - l.length = 0 := by omega
    have h2 : 60 - ([0, 0, 0, 0, 0, 0] ++ [1, 2, 3, 4, 5, 6] ++ [0x88, 0xB5] ++ l).length = 0 := by simp; omega
    simp only [spFrm, ethFrame, withFcs, h1, List.replicate_zero, List.append_nil, h2]
    rw [List.take_left' (by simp)]
    simp
  rw [ofFrm, e]
  congr 1
  rw [List.drop_left' (by simp), List.take_left']
  simp [littleEnd]

/-- The helper's AUTH request is executed next. -/
theorem serves_auth : Serves (auSt 1 true 0) (auReq 1 true) (auSes 1) 2 :=
  ⟨by decide +kernel, rfl, by decide +kernel, by decide +kernel, by decide +kernel,
    trailer_good _ _ _ ([0x11, 2, 0, 5, 0, 0, 0, 1, 0, 0] ++ bigEnd 2 32 ++ (spSt [auSes 1]).proof (auSes 1) ((auSes 1).chal [1])) []
      (by decide +kernel) (by decide +kernel) (by decide +kernel) rfl,
    by decide +kernel, by decide +kernel⟩
/-- A IspReq of these witnesses. -/
def lit0 : IspReq := { src := [1, 2, 3, 4, 5, 6], octs := [17, 1, 0, 0, 0, 0, 0, 0, 0, 0, 0, 33, 1] ++ List.replicate 32 7 ++ [0] : IspReq }
/-- A Access of these witnesses. -/
def lit1 : Access := { master := Master.shep, secure := decide (2 ≤ (spSes 2).level), vi := 0 : Access }
/-- A frame to the service port. -/
def frm0 : List Nat := spFrm [33, 1]
/-- A frame to the service port. -/
def frm1 : List Nat := spFrm [21, 1]
/-- A frame to the service port. -/
def frm2 : List Nat := spFrm [17, 1]
/-- A frame to the service port. -/
def frm3 : List Nat := spFrm ([19] ++ List.replicate 9 0 ++ [0, 116] ++ List.replicate 116 9)
/-- A frame to the service port. -/
def frm4 : List Nat := spFrm ([20] ++ List.replicate 9 0 ++ [0, 7, 1, 2, 3, 4, 5, 6, 7])
/-- A frame to the service port. -/
def frm5 : List Nat := spFrm ([17, 1, 0, 0, 0, 0, 0, 0, 0, 0, 0, 33, 0] ++ List.replicate 32 7)
/-- A frame to the service port. -/
def frm6 : List Nat := spFrm ([17, 1, 0, 0, 0, 0, 0, 0, 0, 0, 0, 33, 1] ++ List.replicate 32 7)
/-- A frame to the service port. -/
def frm7 : List Nat := spFrm ([17, 1, 0, 0, 0, 0, 0, 0, 0, 0, 0, 33, 3] ++ List.replicate 32 7)
/-- A frame to the service port. -/
def frm8 : List Nat := spFrm ([17, 1, 0, 0, 0, 0, 0, 0, 0, 0, 0, 33, 2] ++ List.replicate 32 7)
/-- A good frame of the protocol to this module or to the Whistle group. -/
abbrev toUs (s : State) (l : List Nat) : Prop :=
  fcsGood l = true ∧ isTagged l = false ∧ be l 12 2 = 34997 ∧ (be l 0 6 = s.spMac ∨ be l 0 6 = s.whistleMac)

/-- The hypotheses of `Obligations.ServiceProtocol` are met, clause by clause (part 1 of 7). -/
theorem wit_ServiceProtocol_1 :
    (Instr.hello ∈ [Instr.hello, Instr.auth, Instr.close, Instr.ping, Instr.regRead, Instr.regWrite, Instr.dmRead, Instr.dmWrite, Instr.ispMsgSend, Instr.msgPoll, Instr.stageOpen, Instr.stageData true, Instr.stageClose, Instr.stageAbort, Instr.stageStatus, Instr.armActivation, Instr.disarm, Instr.actStatus, Instr.recover] ∧ (rs.shep.reqs = [] ∨ rs.shep.closing ≠ none)) ∧
    (rs.spUp = false ∧
    ((spSt []).spUp = true ∧ ¬toUs (spSt []) []) ∧
    ((spSt []).spUp = true ∧ toUs (spSt []) frm0 ∧ ((ofFrm frm0).octs).getD 0 0 < 256 ∧ ((ofFrm frm0).octs).getD 0 0 / 16 ≠ 1) ∧
    ((spSt []).spUp = true ∧ toUs (spSt []) frm1 ∧ ((ofFrm frm1).octs).getD 0 0 < 256 ∧ ((ofFrm frm1).octs).getD 0 0 / 16 = 1 ∧ (((ofFrm frm1).octs).getD 0 0 % 16 = 0 ∨ 5 ≤ ((ofFrm frm1).octs).getD 0 0 % 16)) ∧
    (st0.spUp = true ∧ toUs st0 frm2 ∧ ((ofFrm frm2).octs).getD 0 0 < 256 ∧ ((ofFrm frm2).octs).getD 0 0 = 17 ∧ 16 ≤ st0.shep.reqs.length) ∧
    (st1.spUp = true ∧ toUs st1 frm2 ∧ ((ofFrm frm2).octs).getD 0 0 < 256 ∧ ((ofFrm frm2).octs).getD 0 0 = 17 ∧ st1.shep.reqs.length < 16 ∧ st1.shep.closing ≠ none) ∧
    ((spSt []).spUp = true ∧ toUs (spSt []) frm3 ∧ ((ofFrm frm3).octs).getD 0 0 < 256 ∧ ((ofFrm frm3).octs).getD 0 0 = 19 ∧ lenFits ((ofFrm frm3).octs) 0 = true ∧ be ((ofFrm frm3).octs) 10 2 = 116) ∧
    ((spSt []).spUp = true ∧ toUs (spSt []) frm4 ∧ ((ofFrm frm4).octs).getD 0 0 < 256 ∧ ((ofFrm frm4).octs).getD 0 0 = 20 ∧ lenFits ((ofFrm frm4).octs) 0 = true ∧ be ((ofFrm frm4).octs) 10 2 = 7)) ∧
    (((spSt []).spUp = true ∧ toUs (spSt []) frm5 ∧ ((ofFrm frm5).octs).getD 0 0 < 256 ∧ ((ofFrm frm5).octs).getD 0 0 = 17 ∧ (spSt []).shep.closing = none ∧ (spSt []).shep.reqs = [] ∧ (ofFrm frm5).cmd = 1 ∧ lenFits ((ofFrm frm5).octs) 0 = true ∧ ((ofFrm frm5).len ≠ 33 ∨ (ofFrm frm5).pay.getD 0 0 = 0 ∨ 4 < (ofFrm frm5).pay.getD 0 0)) ∧
    (st2.spUp = true ∧ toUs st2 frm6 ∧ ((ofFrm frm6).octs).getD 0 0 < 256 ∧ ((ofFrm frm6).octs).getD 0 0 = 17 ∧ st2.shep.closing = none ∧ st2.shep.reqs = [] ∧ (ofFrm frm6).cmd = 1 ∧ lenFits ((ofFrm frm6).octs) 0 = true ∧ (ofFrm frm6).len = 33 ∧ 1 ≤ (ofFrm frm6).pay.getD 0 0 ∧ (ofFrm frm6).pay.getD 0 0 ≤ 4 ∧ st2.shep.locked = true)) ∧
    ((spSt []).spUp = true ∧ toUs (spSt []) frm7 ∧ ((ofFrm frm7).octs).getD 0 0 < 256 ∧ ((ofFrm frm7).octs).getD 0 0 = 17 ∧ (spSt []).shep.closing = none ∧ (spSt []).shep.reqs = [] ∧ (ofFrm frm7).cmd = 1 ∧ lenFits ((ofFrm frm7).octs) 0 = true ∧ (ofFrm frm7).len = 33 ∧ 1 ≤ (ofFrm frm7).pay.getD 0 0 ∧ (ofFrm frm7).pay.getD 0 0 ≤ 4 ∧ (spSt []).shep.locked = false ∧ (¬if (ofFrm frm7).pay.getD 0 0 = 3 then (spSt []).inDead = true else if (ofFrm frm7).pay.getD 0 0 = 4 then (spSt []).drsValid = false ∨ (spSt []).recWin 1022 = none ∨ (spSt []).recWin 1023 = none else (spSt []).inDead = false)) ∧
    ((spSt [spSes 1, spSes 1, spSes 1, spSes 1]).spUp = true ∧ toUs (spSt [spSes 1, spSes 1, spSes 1, spSes 1]) frm8 ∧ ((ofFrm frm8).octs).getD 0 0 < 256 ∧ ((ofFrm frm8).octs).getD 0 0 = 17 ∧ (spSt [spSes 1, spSes 1, spSes 1, spSes 1]).shep.closing = none ∧ (spSt [spSes 1, spSes 1, spSes 1, spSes 1]).shep.reqs = [] ∧ (ofFrm frm8).cmd = 1 ∧ lenFits ((ofFrm frm8).octs) 0 = true ∧ (ofFrm frm8).len = 33 ∧ 1 ≤ (ofFrm frm8).pay.getD 0 0 ∧ (ofFrm frm8).pay.getD 0 0 ≤ 4 ∧ (spSt [spSes 1, spSes 1, spSes 1, spSes 1]).shep.locked = false ∧ (if (ofFrm frm8).pay.getD 0 0 = 3 then (spSt [spSes 1, spSes 1, spSes 1, spSes 1]).inDead = true else if (ofFrm frm8).pay.getD 0 0 = 4 then (spSt [spSes 1, spSes 1, spSes 1, spSes 1]).drsValid = false ∨ (spSt [spSes 1, spSes 1, spSes 1, spSes 1]).recWin 1022 = none ∨ (spSt [spSes 1, spSes 1, spSes 1, spSes 1]).recWin 1023 = none else (spSt [spSes 1, spSes 1, spSes 1, spSes 1]).inDead = false) ∧ 4 ≤ (spSt [spSes 1, spSes 1, spSes 1, spSes 1]).shep.sessions.length) :=
  ⟨⟨by simp, by decide +kernel⟩,
   by decide +kernel,
   by decide +kernel,
   by decide +kernel,
   by decide +kernel⟩

/-- The hypotheses of `Obligations.ServiceProtocol` are met, clause by clause (part 2 of 7). -/
theorem wit_ServiceProtocol_2 :
    (((if Half.a = Half.a then (st8.setGateSt 6 1).hostRxA else (st8.setGateSt 6 1).hostRxB) = [spRxI ([19] ++ List.replicate 9 0 ++ [0, 116] ++ List.replicate 116 9), spRxI [9]] ∧ etherType (spRxI ([19] ++ List.replicate 9 0 ++ [0, 116] ++ List.replicate 116 9)).octs = 34997 ∧ (st8.setGateSt 6 1).domainOn 6 = true ∧ (List.take ((spRxI ([19] ++ List.replicate 9 0 ++ [0, 116] ++ List.replicate 116 9)).octs.length - payloadAt (spRxI ([19] ++ List.replicate 9 0 ++ [0, 116] ++ List.replicate 116 9)).octs - 4) (List.drop (payloadAt (spRxI ([19] ++ List.replicate 9 0 ++ [0, 116] ++ List.replicate 116 9)).octs) (spRxI ([19] ++ List.replicate 9 0 ++ [0, 116] ++ List.replicate 116 9)).octs)).getD 0 0 = 19 ∧ lenFits (List.take ((spRxI ([19] ++ List.replicate 9 0 ++ [0, 116] ++ List.replicate 116 9)).octs.length - payloadAt (spRxI ([19] ++ List.replicate 9 0 ++ [0, 116] ++ List.replicate 116 9)).octs - 4) (List.drop (payloadAt (spRxI ([19] ++ List.replicate 9 0 ++ [0, 116] ++ List.replicate 116 9)).octs) (spRxI ([19] ++ List.replicate 9 0 ++ [0, 116] ++ List.replicate 116 9)).octs)) 0 = true) ∧ be (List.take ((spRxI ([19] ++ List.replicate 9 0 ++ [0, 116] ++ List.replicate 116 9)).octs.length - payloadAt (spRxI ([19] ++ List.replicate 9 0 ++ [0, 116] ++ List.replicate 116 9)).octs - 4) (List.drop (payloadAt (spRxI ([19] ++ List.replicate 9 0 ++ [0, 116] ++ List.replicate 116 9)).octs) (spRxI ([19] ++ List.replicate 9 0 ++ [0, 116] ++ List.replicate 116 9)).octs)) 10 2 = 116) ∧
    (toUs (spSt [st5]) (spFrm (spReq 2 4 [1]).octs) ∧ (spSt [st5]).trailerOk st5 (ofFrm (spFrm (spReq 2 4 [1]).octs)) = true ∧ (spSt [st5]).spUp = true ∧ ((ofFrm (spFrm (spReq 2 4 [1]).octs)).octs).getD 0 0 < 256 ∧ ((ofFrm (spFrm (spReq 2 4 [1]).octs)).octs).getD 0 0 = 17 ∧ (spSt [st5]).shep.closing = none ∧ (spSt [st5]).shep.reqs = [] ∧ (ofFrm (spFrm (spReq 2 4 [1]).octs)).cmd ≠ 1 ∧ (spSt [st5]).sessionOf (ofFrm (spFrm (spReq 2 4 [1]).octs)) = some st5 ∧ lenFits ((ofFrm (spFrm (spReq 2 4 [1]).octs)).octs) (trailerLen st5 (ofFrm (spFrm (spReq 2 4 [1]).octs)).cmd) = true ∧ st5.seq ≠ 0 ∧ (ofFrm (spFrm (spReq 2 4 [1]).octs)).seq = st5.seq) ∧
    (toUs (spSt [st6]) (spFrm (spReq 2 4 [1]).octs) ∧ (spSt [st6]).trailerOk st6 (ofFrm (spFrm (spReq 2 4 [1]).octs)) = true ∧ (spSt [st6]).spUp = true ∧ ((ofFrm (spFrm (spReq 2 4 [1]).octs)).octs).getD 0 0 < 256 ∧ ((ofFrm (spFrm (spReq 2 4 [1]).octs)).octs).getD 0 0 = 17 ∧ (spSt [st6]).shep.closing = none ∧ (spSt [st6]).shep.reqs = [] ∧ (ofFrm (spFrm (spReq 2 4 [1]).octs)).cmd ≠ 1 ∧ (spSt [st6]).sessionOf (ofFrm (spFrm (spReq 2 4 [1]).octs)) = some st6 ∧ lenFits ((ofFrm (spFrm (spReq 2 4 [1]).octs)).octs) (trailerLen st6 (ofFrm (spFrm (spReq 2 4 [1]).octs)).cmd) = true ∧ (ofFrm (spFrm (spReq 2 4 [1]).octs)).seq ≠ (st6.seq + 1) % 2 ^ 32 ∧ (st6.seq = 0 ∨ (ofFrm (spFrm (spReq 2 4 [1]).octs)).seq ≠ st6.seq)) ∧
    (toUs (spSt [spSes 2]) (spFrm (spReq 2 5 [1]).octs) ∧ (spSt [spSes 2]).trailerOk (spSes 2) (ofFrm (spFrm (spReq 2 5 [1]).octs)) = true ∧ (spSt [spSes 2]).spUp = true ∧ ((ofFrm (spFrm (spReq 2 5 [1]).octs)).octs).getD 0 0 < 256 ∧ ((ofFrm (spFrm (spReq 2 5 [1]).octs)).octs).getD 0 0 = 17 ∧ (spSt [spSes 2]).shep.closing = none ∧ (spSt [spSes 2]).shep.reqs = [] ∧ (ofFrm (spFrm (spReq 2 5 [1]).octs)).cmd ≠ 1 ∧ (spSt [spSes 2]).sessionOf (ofFrm (spFrm (spReq 2 5 [1]).octs)) = some (spSes 2) ∧ lenFits ((ofFrm (spFrm (spReq 2 5 [1]).octs)).octs) (trailerLen (spSes 2) (ofFrm (spFrm (spReq 2 5 [1]).octs)).cmd) = true ∧ (ofFrm (spFrm (spReq 2 5 [1]).octs)).seq = ((spSes 2).seq + 1) % 2 ^ 32 ∧ cmdKnown (ofFrm (spFrm (spReq 2 5 [1]).octs)).cmd = false) ∧
    (toUs ((spSt [spSes 3]).setActState 3) (spFrm (spReq 3 48 [1]).octs) ∧ ((spSt [spSes 3]).setActState 3).trailerOk (spSes 3) (ofFrm (spFrm (spReq 3 48 [1]).octs)) = true ∧ ((spSt [spSes 3]).setActState 3).spUp = true ∧ ((ofFrm (spFrm (spReq 3 48 [1]).octs)).octs).getD 0 0 < 256 ∧ ((ofFrm (spFrm (spReq 3 48 [1]).octs)).octs).getD 0 0 = 17 ∧ ((spSt [spSes 3]).setActState 3).shep.closing = none ∧ ((spSt [spSes 3]).setActState 3).shep.reqs = [] ∧ (ofFrm (spFrm (spReq 3 48 [1]).octs)).cmd ≠ 1 ∧ ((spSt [spSes 3]).setActState 3).sessionOf (ofFrm (spFrm (spReq 3 48 [1]).octs)) = some (spSes 3) ∧ lenFits ((ofFrm (spFrm (spReq 3 48 [1]).octs)).octs) (trailerLen (spSes 3) (ofFrm (spFrm (spReq 3 48 [1]).octs)).cmd) = true ∧ (ofFrm (spFrm (spReq 3 48 [1]).octs)).seq = ((spSes 3).seq + 1) % 2 ^ 32 ∧ cmdKnown (ofFrm (spFrm (spReq 3 48 [1]).octs)).cmd = true ∧ ((spSt [spSes 3]).setActState 3).inDead = true ∧ (ofFrm (spFrm (spReq 3 48 [1]).octs)).cmd ∈ [18, 19, 20, 21, 48, 49]) ∧
    (toUs (spSt [spSes 1]) (spFrm (spReq 1 32 [1]).octs) ∧ (spSt [spSes 1]).trailerOk (spSes 1) (ofFrm (spFrm (spReq 1 32 [1]).octs)) = true ∧ (spSt [spSes 1]).spUp = true ∧ ((ofFrm (spFrm (spReq 1 32 [1]).octs)).octs).getD 0 0 < 256 ∧ ((ofFrm (spFrm (spReq 1 32 [1]).octs)).octs).getD 0 0 = 17 ∧ (spSt [spSes 1]).shep.closing = none ∧ (spSt [spSes 1]).shep.reqs = [] ∧ (ofFrm (spFrm (spReq 1 32 [1]).octs)).cmd ≠ 1 ∧ (spSt [spSes 1]).sessionOf (ofFrm (spFrm (spReq 1 32 [1]).octs)) = some (spSes 1) ∧ lenFits ((ofFrm (spFrm (spReq 1 32 [1]).octs)).octs) (trailerLen (spSes 1) (ofFrm (spFrm (spReq 1 32 [1]).octs)).cmd) = true ∧ (ofFrm (spFrm (spReq 1 32 [1]).octs)).seq = ((spSes 1).seq + 1) % 2 ^ 32 ∧ (spSt [spSes 1]).inDead = false ∧ (ofFrm (spFrm (spReq 1 32 [1]).octs)).cmd ∈ [32, 33, 34, 35, 48, 49] ∧ ((spSes 1).level = 1 ∨ (spSes 1).level = 4)) ∧
    (toUs (spSt [spSes 2]) (spFrm (spReq 2 64 [1]).octs) ∧ (spSt [spSes 2]).trailerOk (spSes 2) (ofFrm (spFrm (spReq 2 64 [1]).octs)) = true ∧ (spSt [spSes 2]).spUp = true ∧ ((ofFrm (spFrm (spReq 2 64 [1]).octs)).octs).getD 0 0 < 256 ∧ ((ofFrm (spFrm (spReq 2 64 [1]).octs)).octs).getD 0 0 = 17 ∧ (spSt [spSes 2]).shep.closing = none ∧ (spSt [spSes 2]).shep.reqs = [] ∧ (ofFrm (spFrm (spReq 2 64 [1]).octs)).cmd ≠ 1 ∧ (spSt [spSes 2]).sessionOf (ofFrm (spFrm (spReq 2 64 [1]).octs)) = some (spSes 2) ∧ lenFits ((ofFrm (spFrm (spReq 2 64 [1]).octs)).octs) (trailerLen (spSes 2) (ofFrm (spFrm (spReq 2 64 [1]).octs)).cmd) = true ∧ (ofFrm (spFrm (spReq 2 64 [1]).octs)).seq = ((spSes 2).seq + 1) % 2 ^ 32 ∧ (spSt [spSes 2]).inDead = false ∧ (ofFrm (spFrm (spReq 2 64 [1]).octs)).cmd = 64 ∧ (spSes 2).level ≠ 3) ∧
    (toUs (spSt [spSes 2]) (spFrm (spReq 2 4 (List.replicate 65 1)).octs) ∧ (spSt [spSes 2]).trailerOk (spSes 2) (ofFrm (spFrm (spReq 2 4 (List.replicate 65 1)).octs)) = true ∧ (spSt [spSes 2]).spUp = true ∧ ((ofFrm (spFrm (spReq 2 4 (List.replicate 65 1)).octs)).octs).getD 0 0 < 256 ∧ ((ofFrm (spFrm (spReq 2 4 (List.replicate 65 1)).octs)).octs).getD 0 0 = 17 ∧ (spSt [spSes 2]).shep.closing = none ∧ (spSt [spSes 2]).shep.reqs = [] ∧ (ofFrm (spFrm (spReq 2 4 (List.replicate 65 1)).octs)).cmd ≠ 1 ∧ (spSt [spSes 2]).sessionOf (ofFrm (spFrm (spReq 2 4 (List.replicate 65 1)).octs)) = some (spSes 2) ∧ lenFits ((ofFrm (spFrm (spReq 2 4 (List.replicate 65 1)).octs)).octs) (trailerLen (spSes 2) (ofFrm (spFrm (spReq 2 4 (List.replicate 65 1)).octs)).cmd) = true ∧ (ofFrm (spFrm (spReq 2 4 (List.replicate 65 1)).octs)).seq = ((spSes 2).seq + 1) % 2 ^ 32 ∧ (ofFrm (spFrm (spReq 2 4 (List.replicate 65 1)).octs)).cmd = 4 ∧ 64 < (ofFrm (spFrm (spReq 2 4 (List.replicate 65 1)).octs)).len) :=
  ⟨⟨by decide +kernel, by decide +kernel⟩,
   ⟨⟨fcs_good _, by decide +kernel⟩, by rw [spFrm_body _ (by decide +kernel)]; exact spReq_good _ _ _ _ _ (by decide +kernel) (by decide +kernel) (by decide +kernel) (by decide +kernel) (by decide +kernel), by decide +kernel⟩,
   ⟨⟨fcs_good _, by decide +kernel⟩, by rw [spFrm_body _ (by decide +kernel)]; exact spReq_good _ _ _ _ _ (by decide +kernel) (by decide +kernel) (by decide +kernel) (by decide +kernel) (by decide +kernel), by decide +kernel⟩,
   ⟨⟨fcs_good _, by decide +kernel⟩, by rw [spFrm_body _ (by decide +kernel)]; exact spReq_good _ _ _ _ _ (by decide +kernel) (by decide +kernel) (by decide +kernel) (by decide +kernel) (by decide +kernel), by decide +kernel⟩,
   ⟨⟨fcs_good _, by decide +kernel⟩, by rw [spFrm_body _ (by decide +kernel)]; exact spReq_good _ _ _ _ _ (by decide +kernel) (by decide +kernel) (by decide +kernel) (by decide +kernel) (by decide +kernel), by decide +kernel⟩,
   ⟨⟨fcs_good _, by decide +kernel⟩, by rw [spFrm_body _ (by decide +kernel)]; exact spReq_good _ _ _ _ _ (by decide +kernel) (by decide +kernel) (by decide +kernel) (by decide +kernel) (by decide +kernel), by decide +kernel⟩,
   ⟨⟨fcs_good _, by decide +kernel⟩, by rw [spFrm_body _ (by decide +kernel)]; exact spReq_good _ _ _ _ _ (by decide +kernel) (by decide +kernel) (by decide +kernel) (by decide +kernel) (by decide +kernel), by decide +kernel⟩,
   ⟨⟨fcs_good _, by decide +kernel⟩, by rw [spFrm_body _ (by decide +kernel)]; exact spReq_good _ _ _ _ _ (by decide +kernel) (by decide +kernel) (by decide +kernel) (by decide +kernel) (by decide +kernel), by decide +kernel⟩⟩

/-- The hypotheses of `Obligations.ServiceProtocol` are met, clause by clause (part 3 of 7). -/
theorem wit_ServiceProtocol_3 :
    ((st3.spUp = true ∧ toUs st3 frm8 ∧ ((ofFrm frm8).octs).getD 0 0 < 256 ∧ ((ofFrm frm8).octs).getD 0 0 = 17 ∧ st3.shep.closing = none ∧ st3.shep.reqs = [] ∧ (ofFrm frm8).cmd = 1 ∧ lenFits ((ofFrm frm8).octs) 0 = true ∧ (ofFrm frm8).len = 33 ∧ 1 ≤ (ofFrm frm8).pay.getD 0 0 ∧ (ofFrm frm8).pay.getD 0 0 ≤ 4 ∧ st3.shep.locked = false ∧ (if (ofFrm frm8).pay.getD 0 0 = 3 then st3.inDead = true else if (ofFrm frm8).pay.getD 0 0 = 4 then st3.drsValid = false ∨ st3.recWin 1022 = none ∨ st3.recWin 1023 = none else st3.inDead = false) ∧ st3.shep.sessions.length < 4 ∧ (ofFrm frm8).pay.getD 0 0 ≠ 4 ∧ (st3.slot (if (ofFrm frm8).pay.getD 0 0 = 1 then 254 else 255)).valid = false) ∧
    ((spSt []).spUp = true ∧ toUs (spSt []) (spFrm (isq 4 [1])) ∧ ((ofFrm (spFrm (isq 4 [1]))).octs).getD 0 0 < 256 ∧ ((ofFrm (spFrm (isq 4 [1]))).octs).getD 0 0 = 17 ∧ (spSt []).shep.closing = none ∧ (spSt []).shep.reqs = [] ∧ (ofFrm (spFrm (isq 4 [1]))).cmd ≠ 1 ∧ (ofFrm (spFrm (isq 4 [1]))).len ≤ 1100 ∧ 12 + (ofFrm (spFrm (isq 4 [1]))).len ≤ ((ofFrm (spFrm (isq 4 [1]))).octs).length ∧ (∀ y ∈ (spSt []).shep.sessions, y.num ≠ (ofFrm (spFrm (isq 4 [1]))).session))) ∧
    ((st4.spUp = true ∧ toUs st4 (spFrm (isq 4 [1] ++ List.replicate 33 1)) ∧ ((ofFrm (spFrm (isq 4 [1] ++ List.replicate 33 1))).octs).getD 0 0 < 256 ∧ ((ofFrm (spFrm (isq 4 [1] ++ List.replicate 33 1))).octs).getD 0 0 = 17 ∧ st4.shep.closing = none ∧ st4.shep.reqs = [] ∧ (ofFrm (spFrm (isq 4 [1] ++ List.replicate 33 1))).cmd ≠ 1 ∧ st4.sessionOf (ofFrm (spFrm (isq 4 [1] ++ List.replicate 33 1))) = some (spSes 2) ∧ lenFits ((ofFrm (spFrm (isq 4 [1] ++ List.replicate 33 1))).octs) (trailerLen (spSes 2) (ofFrm (spFrm (isq 4 [1] ++ List.replicate 33 1))).cmd) = true ∧ st4.trailerOk (spSes 2) (ofFrm (spFrm (isq 4 [1] ++ List.replicate 33 1))) = false) ∧
    (∀ x ∈ if Half.a = Half.a then rs.hostRxA else rs.hostRxB, ¬etherType x.octs = 34997)) ∧
    ((if Half.a = Half.a then (st7.setGateSt 6 1).hostRxA else (st7.setGateSt 6 1).hostRxB) = [spRxI [17]] ∧ etherType (spRxI [17]).octs = 34997 ∧ (st7.setGateSt 6 1).domainOn 6 = true ∧ ((List.take ((spRxI [17]).octs.length - payloadAt (spRxI [17]).octs - 4) (List.drop (payloadAt (spRxI [17]).octs) (spRxI [17]).octs)).getD 0 0 = 17 ∨ (List.take ((spRxI [17]).octs.length - payloadAt (spRxI [17]).octs - 4) (List.drop (payloadAt (spRxI [17]).octs) (spRxI [17]).octs)).getD 0 0 = 18)) ∧
    (st9.shep.closing = none ∧ st9.shep.reqs = [lit0] ∧ lit0.cmd = 1 ∧ lenFits lit0.octs 0 = true ∧ lit0.len = 33 ∧ 1 ≤ lit0.pay.getD 0 0 ∧ lit0.pay.getD 0 0 ≤ 4 ∧ st9.shep.locked = false ∧ st9.shep.sessions.length < 4 ∧ (if lit0.pay.getD 0 0 = 3 then st9.inDead = true else if lit0.pay.getD 0 0 = 4 then st9.drsValid = false ∨ st9.recWin 1022 = none ∨ st9.recWin 1023 = none else st9.inDead = false) ∧ (lit0.pay.getD 0 0 ≠ 4 → (st9.slot (if lit0.pay.getD 0 0 = 1 then 254 else 255)).valid = true)) :=
  ⟨by decide +kernel,
   by decide +kernel,
   by decide +kernel⟩

/-- The hypotheses of `Obligations.ServiceProtocol` are met, clause by clause (part 4 of 7). -/
theorem wit_ServiceProtocol_4 :
    (Serves (spRun 1 3 [] spId) (spReq 1 3 []) (spSes 1) 3 ∧ (spReq 1 3 []).len = 0 ∧ (spRun 1 3 [] spId).shep.holder ≠ some (spSes 1).num ∧ (spRun 1 3 [] spId).inDead = false) ∧
    (Serves (spRun 1 4 [1, 2] spId) (spReq 1 4 [1, 2]) (spSes 1) 4 ∧ (spReq 1 4 [1, 2]).len ≤ 64) ∧
    (Serves ((spRun 2 4 (List.replicate 64 3) spId).setBit (sportReg Reg.Sport.SP_STAT) 0 false) (spReq 2 4 (List.replicate 64 3)) (spSes 2) 4 ∧ (spReq 2 4 (List.replicate 64 3)).len ≤ 64) ∧
    (Serves ((spRun 2 16 (bigEnd 4 1075855428 ++ [1]) spId).wr (Machine.mt 0 Reg.Tile.TILE_STAT) 1) (spReq 2 16 (bigEnd 4 1075855428 ++ [1])) (spSes 2) 16 ∧ (spReq 2 16 (bigEnd 4 1075855428 ++ [1])).len = 5 ∧ 1 ≤ (spReq 2 16 (bigEnd 4 1075855428 ++ [1])).pay.getD 4 0 ∧ (spReq 2 16 (bigEnd 4 1075855428 ++ [1])).pay.getD 4 0 ≤ 64 ∧ ((spRun 2 16 (bigEnd 4 1075855428 ++ [1]) spId).wr (Machine.mt 0 Reg.Tile.TILE_STAT) 1).shep.reading = none ∧ (regReadRun lit1 ((spReq 2 16 (bigEnd 4 1075855428 ++ [1])).pay.getD 4 0) (be (spReq 2 16 (bigEnd 4 1075855428 ++ [1])).pay 0 4) [] (idle ((spRun 2 16 (bigEnd 4 1075855428 ++ [1]) spId).wr (Machine.mt 0 Reg.Tile.TILE_STAT) 1))).2.2.shep = (idle ((spRun 2 16 (bigEnd 4 1075855428 ++ [1]) spId).wr (Machine.mt 0 Reg.Tile.TILE_STAT) 1)).shep ∧ (regReadRun lit1 ((spReq 2 16 (bigEnd 4 1075855428 ++ [1])).pay.getD 4 0) (be (spReq 2 16 (bigEnd 4 1075855428 ++ [1])).pay 0 4) [] (idle ((spRun 2 16 (bigEnd 4 1075855428 ++ [1]) spId).wr (Machine.mt 0 Reg.Tile.TILE_STAT) 1))).1 = none) ∧
    (Serves (spRun 1 16 (bigEnd 4 1073741824 ++ [3]) spId) (spReq 1 16 (bigEnd 4 1073741824 ++ [3])) (spSes 1) 16 ∧ (spReq 1 16 (bigEnd 4 1073741824 ++ [3])).len = 5 ∧ 1 ≤ (spReq 1 16 (bigEnd 4 1073741824 ++ [3])).pay.getD 4 0 ∧ (spReq 1 16 (bigEnd 4 1073741824 ++ [3])).pay.getD 4 0 ≤ 64 ∧ (spRun 1 16 (bigEnd 4 1073741824 ++ [3]) spId).shep.reading = none ∧ (regReadRun { master := Master.shep, secure := decide (2 ≤ (spSes 1).level), vi := 0 : Access } ((spReq 1 16 (bigEnd 4 1073741824 ++ [3])).pay.getD 4 0) (be (spReq 1 16 (bigEnd 4 1073741824 ++ [3])).pay 0 4) [] (idle (spRun 1 16 (bigEnd 4 1073741824 ++ [3]) spId))).2.2.shep = (idle (spRun 1 16 (bigEnd 4 1073741824 ++ [3]) spId)).shep ∧ (regReadRun { master := Master.shep, secure := decide (2 ≤ (spSes 1).level), vi := 0 : Access } ((spReq 1 16 (bigEnd 4 1073741824 ++ [3])).pay.getD 4 0) (be (spReq 1 16 (bigEnd 4 1073741824 ++ [3])).pay 0 4) [] (idle (spRun 1 16 (bigEnd 4 1073741824 ++ [3]) spId))).1 = some 0) ∧
    (Serves (spRun 2 17 (bigEnd 4 1073754240 ++ [1, 0, 0, 2, 0]) spId) (spReq 2 17 (bigEnd 4 1073754240 ++ [1, 0, 0, 2, 0])) (spSes 2) 17 ∧ 1 ≤ (spReq 2 17 (bigEnd 4 1073754240 ++ [1, 0, 0, 2, 0])).pay.getD 4 0 ∧ (spReq 2 17 (bigEnd 4 1073754240 ++ [1, 0, 0, 2, 0])).pay.getD 4 0 ≤ 64 ∧ (spReq 2 17 (bigEnd 4 1073754240 ++ [1, 0, 0, 2, 0])).len = 5 + 4 * (spReq 2 17 (bigEnd 4 1073754240 ++ [1, 0, 0, 2, 0])).pay.getD 4 0 ∧ ((regWriteRun lit1 (fun k => (spSes 2).level != 4 || [sysBase, keysBase, vaultBase, shepBase].contains (k / 4096 * 4096)) (List.map (fun i => word (be (spReq 2 17 (bigEnd 4 1073754240 ++ [1, 0, 0, 2, 0])).pay (5 + 4 * i) 4)) (List.range ((spReq 2 17 (bigEnd 4 1073754240 ++ [1, 0, 0, 2, 0])).pay.getD 4 0))) (be (spReq 2 17 (bigEnd 4 1073754240 ++ [1, 0, 0, 2, 0])).pay 0 4) 0 (idle (spRun 2 17 (bigEnd 4 1073754240 ++ [1, 0, 0, 2, 0]) spId))).2.2.shep = (idle (spRun 2 17 (bigEnd 4 1073754240 ++ [1, 0, 0, 2, 0]) spId)).shep)) ∧
    (Serves (spRun 1 18 [1, 17] spId) (spReq 1 18 [1, 17]) (spSes 1) 18 ∧ (spSes 1).level ≠ 4 ∧ (spReq 1 18 [1, 17]).pay.getD 0 0 ≤ 1 ∧ (spReq 1 18 [1, 17]).len = 2) ∧
    (Serves (spRun 1 19 [0, 23, 1, 2, 3, 4] spId) (spReq 1 19 [0, 23, 1, 2, 3, 4]) (spSes 1) 19 ∧ (spSes 1).level ≠ 4 ∧ (spReq 1 19 [0, 23, 1, 2, 3, 4]).pay.getD 0 0 ≤ 1 ∧ (spReq 1 19 [0, 23, 1, 2, 3, 4]).len = 6) :=
  ⟨⟨serves _ _ _ _ _ rfl (by decide +kernel) (by decide +kernel), by decide +kernel⟩,
   ⟨serves _ _ _ _ _ rfl (by decide +kernel) (by decide +kernel), by decide +kernel⟩,
   ⟨serves _ _ _ _ _ rfl (by decide +kernel) (by decide +kernel), by decide +kernel⟩,
   ⟨serves _ _ _ _ _ rfl (by decide +kernel) (by decide +kernel), by decide +kernel⟩,
   ⟨serves _ _ _ _ _ rfl (by decide +kernel) (by decide +kernel), by decide +kernel⟩,
   ⟨serves _ _ _ _ _ rfl (by decide +kernel) (by decide +kernel), by decide +kernel⟩,
   ⟨serves _ _ _ _ _ rfl (by decide +kernel) (by decide +kernel), by decide +kernel⟩,
   ⟨serves _ _ _ _ _ rfl (by decide +kernel) (by decide +kernel), by decide +kernel⟩⟩

/-- The hypotheses of `Obligations.ServiceProtocol` are met, clause by clause (part 5 of 7). -/
theorem wit_ServiceProtocol_5 :
    (Serves (((spRun 1 20 (List.range 32) spId).setGateSt 6 1).wrN (dirtabBase + 4 * 256) 3221225763) (spReq 1 20 (List.range 32)) (spSes 1) 20 ∧ (spSes 1).level ≠ 4 ∧ (spReq 1 20 (List.range 32)).len = 32 ∧ (((spRun 1 20 (List.range 32) spId).setGateSt 6 1).wrN (dirtabBase + 4 * 256) 3221225763).domainOn 6 = true ∧ bitOf ((((spRun 1 20 (List.range 32) spId).setGateSt 6 1).wrN (dirtabBase + 4 * 256) 3221225763).dirEntry (bitsOf (imgWord (spReq 1 20 (List.range 32)).pay (4 * 0)) 0 14)) 31 = true ∧ bitOf ((((spRun 1 20 (List.range 32) spId).setGateSt 6 1).wrN (dirtabBase + 4 * 256) 3221225763).dirEntry (bitsOf (imgWord (spReq 1 20 (List.range 32)).pay (4 * 0)) 0 14)) 30 = true) ∧
    (Serves ((spRun 1 21 [0] spId).setMrq Master.shep [[1, 2, 3, 4, 5, 6, 7, 8], [9]]) (spReq 1 21 [0]) (spSes 1) 21 ∧ (spSes 1).level ≠ 4 ∧ (spReq 1 21 [0]).len = 1) ∧
    (Serves (spRun 1 36 [] ch10) (spReq 1 36 []) (spSes 1) 36 ∧ (spSes 1).level ≠ 4 ∧ (spReq 1 36 []).len = 0) ∧
    (Serves (((spRun 2 33 (bigEnd 4 4 ++ [9]) ch11).setGateSt 3 1).setGateSt 5 1) (spReq 2 33 (bigEnd 4 4 ++ [9])) (spSes 2) 33 ∧ 2 ≤ (spSes 2).level ∧ (spSes 2).level ≠ 4 ∧ 5 ≤ (spReq 2 33 (bigEnd 4 4 ++ [9])).len ∧ (spReq 2 33 (bigEnd 4 4 ++ [9])).len ≤ 1028 ∧ (¬(((spRun 2 33 (bigEnd 4 4 ++ [9]) ch11).setGateSt 3 1).setGateSt 5 1).shep.holder = some (spSes 2).num)) ∧
    (Serves (((spRun 2 33 (bigEnd 4 5 ++ [9]) ch12).setGateSt 3 1).setGateSt 5 1) (spReq 2 33 (bigEnd 4 5 ++ [9])) (spSes 2) 33 ∧ 2 ≤ (spSes 2).level ∧ (spSes 2).level ≠ 4 ∧ 5 ≤ (spReq 2 33 (bigEnd 4 5 ++ [9])).len ∧ (spReq 2 33 (bigEnd 4 5 ++ [9])).len ≤ 1028 ∧ (((spRun 2 33 (bigEnd 4 5 ++ [9]) ch12).setGateSt 3 1).setGateSt 5 1).shep.holder = some (spSes 2).num ∧ (be (spReq 2 33 (bigEnd 4 5 ++ [9])).pay 0 4 ≠ (((spRun 2 33 (bigEnd 4 5 ++ [9]) ch12).setGateSt 3 1).setGateSt 5 1).shep.nextOff ∨ (((spRun 2 33 (bigEnd 4 5 ++ [9]) ch12).setGateSt 3 1).setGateSt 5 1).shep.imgLen < be (spReq 2 33 (bigEnd 4 5 ++ [9])).pay 0 4 + (List.drop 4 (spReq 2 33 (bigEnd 4 5 ++ [9])).pay).length)) ∧
    (Serves (auSt 1 true 0) (auReq 1 true) (auSes 1) 2 ∧ (auSes 1).opened = false ∧ (auSes 1).seq = 0 ∧ (auReq 1 true).len = if hmacLevel (auSes 1).level = true then 32 else 96) :=
  ⟨⟨serves _ _ _ _ _ rfl (by decide +kernel) (by decide +kernel), by decide +kernel⟩,
   ⟨serves _ _ _ _ _ rfl (by decide +kernel) (by decide +kernel), by decide +kernel⟩,
   ⟨serves _ _ _ _ _ rfl (by decide +kernel) (by decide +kernel), by decide +kernel⟩,
   ⟨serves _ _ _ _ _ rfl (by decide +kernel) (by decide +kernel), by decide +kernel⟩,
   ⟨serves _ _ _ _ _ rfl (by decide +kernel) (by decide +kernel), by decide +kernel⟩,
   ⟨serves_auth, by decide +kernel⟩⟩

/-- The hypotheses of `Obligations.ServiceProtocol` are met, clause by clause (part 6 of 7). -/
theorem wit_ServiceProtocol_6 :
    ((((spRun 2 34 [] ch14).wrN (shepReg Reg.Shep.MIN_VERSION) 0).wrN (sysBase + Reg.Sys.DEV_ID) 7).shep.closing = some (spReq 2 34 []) ∧ 2 ≤ (spSes 2).level ∧ (spSes 2).level ≠ 4 ∧ (((spRun 2 34 [] ch14).wrN (shepReg Reg.Shep.MIN_VERSION) 0).wrN (sysBase + Reg.Sys.DEV_ID) 7).shep.reqs = [] ∧ (((spRun 2 34 [] ch14).wrN (shepReg Reg.Shep.MIN_VERSION) 0).wrN (sysBase + Reg.Sys.DEV_ID) 7).sessionOf (spReq 2 34 []) = some (spSes 2) ∧ (((spRun 2 34 [] ch14).wrN (shepReg Reg.Shep.MIN_VERSION) 0).wrN (sysBase + Reg.Sys.DEV_ID) 7).shep.holder = some (spSes 2).num ∧ (((spRun 2 34 [] ch14).wrN (shepReg Reg.Shep.MIN_VERSION) 0).wrN (sysBase + Reg.Sys.DEV_ID) 7).inDead = false) ∧
    (Serves (((spRun 2 33 (bigEnd 4 4 ++ [9]) ch12).setGateSt 3 1).setGateSt 5 1) (spReq 2 33 (bigEnd 4 4 ++ [9])) (spSes 2) 33 ∧ 2 ≤ (spSes 2).level ∧ (spSes 2).level ≠ 4 ∧ 5 ≤ (spReq 2 33 (bigEnd 4 4 ++ [9])).len ∧ (spReq 2 33 (bigEnd 4 4 ++ [9])).len ≤ 1028 ∧ (((spRun 2 33 (bigEnd 4 4 ++ [9]) ch12).setGateSt 3 1).setGateSt 5 1).shep.holder = some (spSes 2).num ∧ be (spReq 2 33 (bigEnd 4 4 ++ [9])).pay 0 4 = (((spRun 2 33 (bigEnd 4 4 ++ [9]) ch12).setGateSt 3 1).setGateSt 5 1).shep.nextOff ∧ be (spReq 2 33 (bigEnd 4 4 ++ [9])).pay 0 4 + (List.drop 4 (spReq 2 33 (bigEnd 4 4 ++ [9])).pay).length ≤ (((spRun 2 33 (bigEnd 4 4 ++ [9]) ch12).setGateSt 3 1).setGateSt 5 1).shep.imgLen ∧ ((((spRun 2 33 (bigEnd 4 4 ++ [9]) ch12).setGateSt 3 1).setGateSt 5 1).domainOn 3 = false ∨ (((spRun 2 33 (bigEnd 4 4 ++ [9]) ch12).setGateSt 3 1).setGateSt 5 1).domainOn 5 = false ∨ false = false)) ∧
    (Serves (((spRun 2 33 (bigEnd 4 4 ++ List.replicate 1020 1) ch12).setGateSt 3 1).setGateSt 5 1) (spReq 2 33 (bigEnd 4 4 ++ List.replicate 1020 1)) (spSes 2) 33 ∧ 2 ≤ (spSes 2).level ∧ (spSes 2).level ≠ 4 ∧ 5 ≤ (spReq 2 33 (bigEnd 4 4 ++ List.replicate 1020 1)).len ∧ (spReq 2 33 (bigEnd 4 4 ++ List.replicate 1020 1)).len ≤ 1028 ∧ (((spRun 2 33 (bigEnd 4 4 ++ List.replicate 1020 1) ch12).setGateSt 3 1).setGateSt 5 1).shep.holder = some (spSes 2).num ∧ be (spReq 2 33 (bigEnd 4 4 ++ List.replicate 1020 1)).pay 0 4 = (((spRun 2 33 (bigEnd 4 4 ++ List.replicate 1020 1) ch12).setGateSt 3 1).setGateSt 5 1).shep.nextOff ∧ be (spReq 2 33 (bigEnd 4 4 ++ List.replicate 1020 1)).pay 0 4 + (List.drop 4 (spReq 2 33 (bigEnd 4 4 ++ List.replicate 1020 1)).pay).length ≤ (((spRun 2 33 (bigEnd 4 4 ++ List.replicate 1020 1) ch12).setGateSt 3 1).setGateSt 5 1).shep.imgLen ∧ (((spRun 2 33 (bigEnd 4 4 ++ List.replicate 1020 1) ch12).setGateSt 3 1).setGateSt 5 1).domainOn 3 = true ∧ (((spRun 2 33 (bigEnd 4 4 ++ List.replicate 1020 1) ch12).setGateSt 3 1).setGateSt 5 1).domainOn 5 = true ∧ true = true) ∧
    (Serves (spRun 2 34 [] ch11) (spReq 2 34 []) (spSes 2) 34 ∧ 2 ≤ (spSes 2).level ∧ (spSes 2).level ≠ 4 ∧ (spReq 2 34 []).len = 0 ∧ (¬(spRun 2 34 [] ch11).shep.holder = some (spSes 2).num)) ∧
    (Serves (spRun 2 34 [] ch12) (spReq 2 34 []) (spSes 2) 34 ∧ 2 ≤ (spSes 2).level ∧ (spSes 2).level ≠ 4 ∧ (spReq 2 34 []).len = 0 ∧ (spRun 2 34 [] ch12).shep.holder = some (spSes 2).num ∧ (spRun 2 34 [] ch12).inDead = false ∧ (spRun 2 34 [] ch12).shep.nextOff < (spRun 2 34 [] ch12).shep.imgLen) ∧
    (Serves (spRun 2 34 [] ch13) (spReq 2 34 []) (spSes 2) 34 ∧ 2 ≤ (spSes 2).level ∧ (spSes 2).level ≠ 4 ∧ (spReq 2 34 []).len = 0 ∧ (spRun 2 34 [] ch13).shep.holder = some (spSes 2).num ∧ (spRun 2 34 [] ch13).inDead = false ∧ (spRun 2 34 [] ch13).shep.imgLen ≤ (spRun 2 34 [] ch13).shep.nextOff) ∧
    (Serves (spRun 2 35 [] spId) (spReq 2 35 []) (spSes 2) 35 ∧ 2 ≤ (spSes 2).level ∧ (spSes 2).level ≠ 4 ∧ (spReq 2 35 []).len = 0 ∧ (¬(spRun 2 35 [] spId).shep.holder = some (spSes 2).num)) ∧
    (Serves (spRun 2 35 [] ch12) (spReq 2 35 []) (spSes 2) 35 ∧ 2 ≤ (spSes 2).level ∧ (spSes 2).level ≠ 4 ∧ (spReq 2 35 []).len = 0 ∧ (spRun 2 35 [] ch12).shep.holder = some (spSes 2).num ∧ (spRun 2 35 [] ch12).inDead = false) :=
  ⟨⟨rfl, by decide +kernel⟩,
   ⟨serves _ _ _ _ _ rfl (by decide +kernel) (by decide +kernel), by decide +kernel⟩,
   ⟨serves _ _ _ _ _ rfl (by decide +kernel) (by decide +kernel), by decide +kernel⟩,
   ⟨serves _ _ _ _ _ rfl (by decide +kernel) (by decide +kernel), by decide +kernel⟩,
   ⟨serves _ _ _ _ _ rfl (by decide +kernel) (by decide +kernel), by decide +kernel⟩,
   ⟨serves _ _ _ _ _ rfl (by decide +kernel) (by decide +kernel), by decide +kernel⟩,
   ⟨serves _ _ _ _ _ rfl (by decide +kernel) (by decide +kernel), by decide +kernel⟩,
   ⟨serves _ _ _ _ _ rfl (by decide +kernel) (by decide +kernel), by decide +kernel⟩⟩

/-- The hypotheses of `Obligations.ServiceProtocol` are met, clause by clause (part 7 of 7). -/
theorem wit_ServiceProtocol_7 :
    rs.shep.closing = none ∧
    ((rs.shep.closing ≠ none ∨ rs.shep.holder = none ∧ rs.inDead = false)) ∧
    ((spRun 2 4 [] ch12).shep.closing = none ∧ (spRun 2 4 [] ch12).shep.holder ≠ none ∧ (spRun 2 4 [] ch12).inDead = false) ∧
    (spRun 2 4 [] ch15).shep.locked = true ∧
    rs.shep.locked = false ∧
    ((spSt [spSes 2, auSes 1]).shep.reqs = [] ∧ (spSt [spSes 2, auSes 1]).inDead = false) :=
  by decide +kernel

/-- The hypotheses of `Obligations.StageOpening` are met, clause by clause. -/
theorem wit_StageOpening :
    (Serves (spRun 2 32 (bigEnd 4 1024) ch11) (spReq 2 32 (bigEnd 4 1024)) (spSes 2) 32 ∧ 2 ≤ (spSes 2).level ∧ (spSes 2).level ≠ 4 ∧ (spReq 2 32 (bigEnd 4 1024)).len = 4 ∧ (spRun 2 32 (bigEnd 4 1024) ch11).shep.holder = some 6 ∧ 6 ≠ (spSes 2).num) ∧
    (Serves ((spRun 2 32 (bigEnd 4 1024) spId).setActState 1) (spReq 2 32 (bigEnd 4 1024)) (spSes 2) 32 ∧ 2 ≤ (spSes 2).level ∧ (spSes 2).level ≠ 4 ∧ (spReq 2 32 (bigEnd 4 1024)).len = 4 ∧ (∀ (h : ℕ), ((spRun 2 32 (bigEnd 4 1024) spId).setActState 1).shep.holder = some h → h = (spSes 2).num) ∧ ((spRun 2 32 (bigEnd 4 1024) spId).setActState 1).actState = 1) ∧
    (Serves (spRun 2 32 (bigEnd 4 0) spId) (spReq 2 32 (bigEnd 4 0)) (spSes 2) 32 ∧ 2 ≤ (spSes 2).level ∧ (spSes 2).level ≠ 4 ∧ (spReq 2 32 (bigEnd 4 0)).len = 4 ∧ (∀ (h : ℕ), (spRun 2 32 (bigEnd 4 0) spId).shep.holder = some h → h = (spSes 2).num) ∧ (spRun 2 32 (bigEnd 4 0) spId).actState ≠ 1 ∧ (¬(512 ≤ be (spReq 2 32 (bigEnd 4 0)).pay 0 4 ∧ be (spReq 2 32 (bigEnd 4 0)).pay 0 4 ≤ 805306368 ∧ be (spReq 2 32 (bigEnd 4 0)).pay 0 4 % 512 = 0))) ∧
    (Serves (((spRun 2 32 (bigEnd 4 1024) spId).setGateSt 3 1).setGateSt 5 0) (spReq 2 32 (bigEnd 4 1024)) (spSes 2) 32 ∧ 2 ≤ (spSes 2).level ∧ (spSes 2).level ≠ 4 ∧ (spReq 2 32 (bigEnd 4 1024)).len = 4 ∧ (∀ (h : ℕ), (((spRun 2 32 (bigEnd 4 1024) spId).setGateSt 3 1).setGateSt 5 0).shep.holder = some h → h = (spSes 2).num) ∧ (((spRun 2 32 (bigEnd 4 1024) spId).setGateSt 3 1).setGateSt 5 0).actState ≠ 1 ∧ (((spRun 2 32 (bigEnd 4 1024) spId).setGateSt 3 1).setGateSt 5 0).actState ≠ 3 ∧ (512 ≤ be (spReq 2 32 (bigEnd 4 1024)).pay 0 4 ∧ be (spReq 2 32 (bigEnd 4 1024)).pay 0 4 ≤ 805306368 ∧ be (spReq 2 32 (bigEnd 4 1024)).pay 0 4 % 512 = 0) ∧ ((((spRun 2 32 (bigEnd 4 1024) spId).setGateSt 3 1).setGateSt 5 0).domainOn 3 = false ∨ (((spRun 2 32 (bigEnd 4 1024) spId).setGateSt 3 1).setGateSt 5 0).domainOn 5 = false)) ∧
    (Serves (((spRun 2 32 (bigEnd 4 512) spId).setGateSt 3 1).setGateSt 5 1) (spReq 2 32 (bigEnd 4 512)) (spSes 2) 32 ∧ 2 ≤ (spSes 2).level ∧ (spSes 2).level ≠ 4 ∧ (spReq 2 32 (bigEnd 4 512)).len = 4 ∧ (∀ (h : ℕ), (((spRun 2 32 (bigEnd 4 512) spId).setGateSt 3 1).setGateSt 5 1).shep.holder = some h → h = (spSes 2).num) ∧ (((spRun 2 32 (bigEnd 4 512) spId).setGateSt 3 1).setGateSt 5 1).actState ≠ 1 ∧ (((spRun 2 32 (bigEnd 4 512) spId).setGateSt 3 1).setGateSt 5 1).actState ≠ 3 ∧ (512 ≤ be (spReq 2 32 (bigEnd 4 512)).pay 0 4 ∧ be (spReq 2 32 (bigEnd 4 512)).pay 0 4 ≤ 805306368 ∧ be (spReq 2 32 (bigEnd 4 512)).pay 0 4 % 512 = 0) ∧ (((spRun 2 32 (bigEnd 4 512) spId).setGateSt 3 1).setGateSt 5 1).domainOn 3 = true ∧ (((spRun 2 32 (bigEnd 4 512) spId).setGateSt 3 1).setGateSt 5 1).domainOn 5 = true) ∧
    (Serves ((((spRun 3 32 (bigEnd 4 1024) spId).setActState 3).setDevState 5).setGateSt 3 0) (spReq 3 32 (bigEnd 4 1024)) (spSes 3) 32 ∧ 2 ≤ (spSes 3).level ∧ (spSes 3).level ≠ 4 ∧ (spReq 3 32 (bigEnd 4 1024)).len = 4 ∧ (∀ (h : ℕ), ((((spRun 3 32 (bigEnd 4 1024) spId).setActState 3).setDevState 5).setGateSt 3 0).shep.holder = some h → h = (spSes 3).num) ∧ ((((spRun 3 32 (bigEnd 4 1024) spId).setActState 3).setDevState 5).setGateSt 3 0).actState = 3 ∧ (512 ≤ be (spReq 3 32 (bigEnd 4 1024)).pay 0 4 ∧ be (spReq 3 32 (bigEnd 4 1024)).pay 0 4 ≤ 805306368 ∧ be (spReq 3 32 (bigEnd 4 1024)).pay 0 4 % 512 = 0)) :=
  ⟨⟨serves _ _ _ _ _ rfl (by decide +kernel) (by decide +kernel), by decide +kernel⟩,
   ⟨serves _ _ _ _ _ rfl (by decide +kernel) (by decide +kernel), by decide +kernel⟩,
   ⟨serves _ _ _ _ _ rfl (by decide +kernel) (by decide +kernel), by decide +kernel⟩,
   ⟨serves _ _ _ _ _ rfl (by decide +kernel) (by decide +kernel), by decide +kernel⟩,
   ⟨serves _ _ _ _ _ rfl (by decide +kernel) (by decide +kernel), by decide +kernel⟩,
   ⟨serves _ _ _ _ _ rfl (by decide +kernel) (by decide +kernel), by decide +kernel⟩⟩

/-- The hypotheses of `Obligations.Activation` are met, clause by clause (part 1 of 3). -/
theorem wit_Activation_1 :
    (Serves (mem (spRun 2 48 (whl 18 0 0) spId) 0) (spReq 2 48 (whl 18 0 0)) (spSes 2) 48 ∧ 2 ≤ (spSes 2).level ∧ (spSes 2).level ≠ 4 ∧ (∀ off ∈ [Reg.Shep.BOOT_SLOT, Reg.Shep.ACT_STAT, Reg.Shep.ACT_ID, Reg.Shep.LAST_ACT_ID, Reg.Shep.INSTANT_SEC_LO, Reg.Shep.INSTANT_SEC_HI, Reg.Shep.INSTANT_NS, Reg.Shep.RUN_VERSION, Reg.Shep.STAGE_STAT, Reg.Shep.STAGE_VERSION], (mem (spRun 2 48 (whl 18 0 0) spId) 0).wearOf (shepReg off) < 9999990) ∧ (spReq 2 48 (whl 18 0 0)).len = 116 ∧ be (spReq 2 48 (whl 18 0 0)).pay 6 2 % 2 = 0) ∧
    (Serves (mem (spRun 2 49 (whl 16 1 0) spId) 0) (spReq 2 49 (whl 16 1 0)) (spSes 2) 49 ∧ 2 ≤ (spSes 2).level ∧ (spSes 2).level ≠ 4 ∧ (∀ off ∈ [Reg.Shep.BOOT_SLOT, Reg.Shep.ACT_STAT, Reg.Shep.ACT_ID, Reg.Shep.LAST_ACT_ID, Reg.Shep.INSTANT_SEC_LO, Reg.Shep.INSTANT_SEC_HI, Reg.Shep.INSTANT_NS, Reg.Shep.RUN_VERSION, Reg.Shep.STAGE_STAT, Reg.Shep.STAGE_VERSION], (mem (spRun 2 49 (whl 16 1 0) spId) 0).wearOf (shepReg off) < 9999990) ∧ (spReq 2 49 (whl 16 1 0)).len = 116 ∧ be (spReq 2 49 (whl 16 1 0)).pay 6 2 % 2 = 1) ∧
    (Serves (mem (spRun 1 50 [] spId) 1) (spReq 1 50 []) (spSes 1) 50 ∧ (spSes 1).level ≠ 4 ∧ (spReq 1 50 []).len = 0) ∧
    (Serves (((spRun 3 64 [1] spId).setActState 0).setDevState 5) (spReq 3 64 [1]) (spSes 3) 64 ∧ (spSes 3).level = 3 ∧ (spReq 3 64 [1]).len = 1 ∧ (∀ off ∈ [Reg.Shep.BOOT_SLOT, Reg.Shep.ACT_STAT, Reg.Shep.ACT_ID, Reg.Shep.LAST_ACT_ID, Reg.Shep.INSTANT_SEC_LO, Reg.Shep.INSTANT_SEC_HI, Reg.Shep.INSTANT_NS, Reg.Shep.RUN_VERSION, Reg.Shep.STAGE_STAT, Reg.Shep.STAGE_VERSION], (((spRun 3 64 [1] spId).setActState 0).setDevState 5).wearOf (shepReg off) < 9999990) ∧ 1 ≤ (spReq 3 64 [1]).pay.getD 0 0 ∧ (spReq 3 64 [1]).pay.getD 0 0 ≤ 3 ∧ (((spRun 3 64 [1] spId).setActState 0).setDevState 5).actState ≠ 3) ∧
    (Serves (((spRun 3 64 [1] ch16).setActState 3).setDevState 5) (spReq 3 64 [1]) (spSes 3) 64 ∧ (spSes 3).level = 3 ∧ (spReq 3 64 [1]).len = 1 ∧ (∀ off ∈ [Reg.Shep.BOOT_SLOT, Reg.Shep.ACT_STAT, Reg.Shep.ACT_ID, Reg.Shep.LAST_ACT_ID, Reg.Shep.INSTANT_SEC_LO, Reg.Shep.INSTANT_SEC_HI, Reg.Shep.INSTANT_NS, Reg.Shep.RUN_VERSION, Reg.Shep.STAGE_STAT, Reg.Shep.STAGE_VERSION], (((spRun 3 64 [1] ch16).setActState 3).setDevState 5).wearOf (shepReg off) < 9999990) ∧ 1 ≤ (spReq 3 64 [1]).pay.getD 0 0 ∧ (spReq 3 64 [1]).pay.getD 0 0 ≤ 3 ∧ (((spRun 3 64 [1] ch16).setActState 3).setDevState 5).actState = 3 ∧ (((spRun 3 64 [1] ch16).setActState 3).setDevState 5).shep.holder = some 9) ∧
    (Serves (((spRun 3 64 [2] spId).setActState 3).setDevState 5) (spReq 3 64 [2]) (spSes 3) 64 ∧ (spSes 3).level = 3 ∧ (spReq 3 64 [2]).len = 1 ∧ (∀ off ∈ [Reg.Shep.BOOT_SLOT, Reg.Shep.ACT_STAT, Reg.Shep.ACT_ID, Reg.Shep.LAST_ACT_ID, Reg.Shep.INSTANT_SEC_LO, Reg.Shep.INSTANT_SEC_HI, Reg.Shep.INSTANT_NS, Reg.Shep.RUN_VERSION, Reg.Shep.STAGE_STAT, Reg.Shep.STAGE_VERSION], (((spRun 3 64 [2] spId).setActState 3).setDevState 5).wearOf (shepReg off) < 9999990) ∧ 1 ≤ (spReq 3 64 [2]).pay.getD 0 0 ∧ (spReq 3 64 [2]).pay.getD 0 0 ≤ 3 ∧ (((spRun 3 64 [2] spId).setActState 3).setDevState 5).actState = 3 ∧ (((spRun 3 64 [2] spId).setActState 3).setDevState 5).shep.holder = none ∧ (¬(((spReq 3 64 [2]).pay.getD 0 0 = 2 → (((spRun 3 64 [2] spId).setActState 3).setDevState 5).shep.otherSt = 5 ∨ (((spRun 3 64 [2] spId).setActState 3).setDevState 5).shep.otherSt = 3) ∧ ((spReq 3 64 [2]).pay.getD 0 0 = 3 → (((spRun 3 64 [2] spId).setActState 3).setDevState 5).shep.bootSt = 3)))) ∧
    (Serves (((spRun 3 64 [1] spId).setActState 3).setDevState 5) (spReq 3 64 [1]) (spSes 3) 64 ∧ (spSes 3).level = 3 ∧ (spReq 3 64 [1]).len = 1 ∧ (∀ off ∈ [Reg.Shep.BOOT_SLOT, Reg.Shep.ACT_STAT, Reg.Shep.ACT_ID, Reg.Shep.LAST_ACT_ID, Reg.Shep.INSTANT_SEC_LO, Reg.Shep.INSTANT_SEC_HI, Reg.Shep.INSTANT_NS, Reg.Shep.RUN_VERSION, Reg.Shep.STAGE_STAT, Reg.Shep.STAGE_VERSION], (((spRun 3 64 [1] spId).setActState 3).setDevState 5).wearOf (shepReg off) < 9999990) ∧ 1 ≤ (spReq 3 64 [1]).pay.getD 0 0 ∧ (spReq 3 64 [1]).pay.getD 0 0 ≤ 3 ∧ (((spRun 3 64 [1] spId).setActState 3).setDevState 5).actState = 3 ∧ (((spRun 3 64 [1] spId).setActState 3).setDevState 5).shep.holder = none ∧ (((spReq 3 64 [1]).pay.getD 0 0 = 2 → (((spRun 3 64 [1] spId).setActState 3).setDevState 5).shep.otherSt = 5 ∨ (((spRun 3 64 [1] spId).setActState 3).setDevState 5).shep.otherSt = 3) ∧ ((spReq 3 64 [1]).pay.getD 0 0 = 3 → (((spRun 3 64 [1] spId).setActState 3).setDevState 5).shep.bootSt = 3)) ∧ (((spRun 3 64 [1] spId).setActState 3).setDevState 5).supplied = true ∧ (((spRun 3 64 [1] spId).setActState 3).setDevState 5).parking = false ∧ (((spRun 3 64 [1] spId).setActState 3).setDevState 5).rst = []) ∧
    rs.shep.sends = [] ∧
    (st17.setGateSt 6 0).shep.sends = [{ body := whl 1 0 5, left := 5 : WhistleSend }, { body := [], left := 2 : WhistleSend }] ∧
    rs.shep.whistleIn = [] ∧
    ((mem (st18.setGateSt 6 1) 0).shep.whistleIn = [whl 18 0 30, [1]] ∧ (∀ b ∈ whl 18 0 30, b < 256) ∧ (∀ off ∈ [Reg.Shep.BOOT_SLOT, Reg.Shep.ACT_STAT, Reg.Shep.ACT_ID, Reg.Shep.LAST_ACT_ID, Reg.Shep.INSTANT_SEC_LO, Reg.Shep.INSTANT_SEC_HI, Reg.Shep.INSTANT_NS, Reg.Shep.RUN_VERSION, Reg.Shep.STAGE_STAT, Reg.Shep.STAGE_VERSION], (mem (st18.setGateSt 6 1) 0).wearOf (shepReg off) < 9999990) ∧ (be (whl 18 0 30) 0 4, be (whl 18 0 30) 6 2 % 2 == 1) ∈ (mem (st18.setGateSt 6 1) 0).shep.acted) :=
  ⟨⟨serves _ _ _ _ _ rfl (by decide +kernel) (by decide +kernel), by decide +kernel⟩,
   ⟨serves _ _ _ _ _ rfl (by decide +kernel) (by decide +kernel), by decide +kernel⟩,
   ⟨serves _ _ _ _ _ rfl (by decide +kernel) (by decide +kernel), by decide +kernel⟩,
   ⟨serves _ _ _ _ _ rfl (by decide +kernel) (by decide +kernel), by decide +kernel⟩,
   ⟨serves _ _ _ _ _ rfl (by decide +kernel) (by decide +kernel), by decide +kernel⟩,
   ⟨serves _ _ _ _ _ rfl (by decide +kernel) (by decide +kernel), by decide +kernel⟩,
   ⟨serves _ _ _ _ _ rfl (by decide +kernel) (by decide +kernel), by decide +kernel⟩,
   by decide +kernel⟩

/-- The hypotheses of `Obligations.Activation` are met, clause by clause (part 2 of 3). -/
theorem wit_Activation_2 :
    (((mem (st19.setGateSt 6 1) 0).shep.whistleIn = [whl 18 0 30, [1]] ∧ (∀ b ∈ whl 18 0 30, b < 256) ∧ (∀ off ∈ [Reg.Shep.BOOT_SLOT, Reg.Shep.ACT_STAT, Reg.Shep.ACT_ID, Reg.Shep.LAST_ACT_ID, Reg.Shep.INSTANT_SEC_LO, Reg.Shep.INSTANT_SEC_HI, Reg.Shep.INSTANT_NS, Reg.Shep.RUN_VERSION, Reg.Shep.STAGE_STAT, Reg.Shep.STAGE_VERSION], (mem (st19.setGateSt 6 1) 0).wearOf (shepReg off) < 9999990) ∧ (be (whl 18 0 30) 0 4, be (whl 18 0 30) 6 2 % 2 == 1) ∉ (mem (st19.setGateSt 6 1) 0).shep.acted) ∧
    rs.shep.ackIn = [] ∧
    ((st20.wrN (shepReg Reg.Shep.ACK_CNT) 0).shep.ackIn = [[0, 0, 0, 9, 1, 1, 1]] ∧ (st20.wrN (shepReg Reg.Shep.ACK_CNT) 0).shep.lastOrigin = some (be [0, 0, 0, 9, 1, 1, 1] 0 4)) ∧
    (st21.shep.ackIn = [[0, 0, 0, 9, 1, 1, 1]] ∧ st21.shep.lastOrigin ≠ some (be [0, 0, 0, 9, 1, 1, 1] 0 4)) ∧
    (rs.actState ≠ 1 ∨ rs.tb0Total < ((rs.rdN (shepReg Reg.Shep.INSTANT_SEC_LO) + rs.fld (shepReg Reg.Shep.INSTANT_SEC_HI) 0 16 * 2 ^ 32) * 10 ^ 9 + rs.fld (shepReg Reg.Shep.INSTANT_NS) 0 30) * 2 ^ 40)) ∧
    ((armSt 3 2 3 none).actState = 1 ∧ (((armSt 3 2 3 none).rdN (shepReg Reg.Shep.INSTANT_SEC_LO) + (armSt 3 2 3 none).fld (shepReg Reg.Shep.INSTANT_SEC_HI) 0 16 * 2 ^ 32) * 10 ^ 9 + (armSt 3 2 3 none).fld (shepReg Reg.Shep.INSTANT_NS) 0 30) * 2 ^ 40 ≤ (armSt 3 2 3 none).tb0Total ∧ (∀ off ∈ [Reg.Shep.BOOT_SLOT, Reg.Shep.ACT_STAT, Reg.Shep.ACT_ID, Reg.Shep.LAST_ACT_ID, Reg.Shep.INSTANT_SEC_LO, Reg.Shep.INSTANT_SEC_HI, Reg.Shep.INSTANT_NS, Reg.Shep.RUN_VERSION, Reg.Shep.STAGE_STAT, Reg.Shep.STAGE_VERSION], (armSt 3 2 3 none).wearOf (shepReg off) < 9999990) ∧ (armSt 3 2 3 none).devState ≠ 0 ∧ (armSt 3 2 3 none).devState ≠ 1) ∧
    ((armSt 3 0 1 none).actState = 1 ∧ (((armSt 3 0 1 none).rdN (shepReg Reg.Shep.INSTANT_SEC_LO) + (armSt 3 0 1 none).fld (shepReg Reg.Shep.INSTANT_SEC_HI) 0 16 * 2 ^ 32) * 10 ^ 9 + (armSt 3 0 1 none).fld (shepReg Reg.Shep.INSTANT_NS) 0 30) * 2 ^ 40 ≤ (armSt 3 0 1 none).tb0Total ∧ (∀ off ∈ [Reg.Shep.BOOT_SLOT, Reg.Shep.ACT_STAT, Reg.Shep.ACT_ID, Reg.Shep.LAST_ACT_ID, Reg.Shep.INSTANT_SEC_LO, Reg.Shep.INSTANT_SEC_HI, Reg.Shep.INSTANT_NS, Reg.Shep.RUN_VERSION, Reg.Shep.STAGE_STAT, Reg.Shep.STAGE_VERSION], (armSt 3 0 1 none).wearOf (shepReg off) < 9999990) ∧ ((armSt 3 0 1 none).devState = 0 ∨ (armSt 3 0 1 none).devState = 1) ∧ ((armSt 3 0 1 none).shep.otherSt ≠ 3 ∨ (armSt 3 0 1 none).shep.holder ≠ none)) ∧
    (((armSt 0 0 3 none).actState = 1 ∧ (((armSt 0 0 3 none).rdN (shepReg Reg.Shep.INSTANT_SEC_LO) + (armSt 0 0 3 none).fld (shepReg Reg.Shep.INSTANT_SEC_HI) 0 16 * 2 ^ 32) * 10 ^ 9 + (armSt 0 0 3 none).fld (shepReg Reg.Shep.INSTANT_NS) 0 30) * 2 ^ 40 ≤ (armSt 0 0 3 none).tb0Total ∧ (∀ off ∈ [Reg.Shep.BOOT_SLOT, Reg.Shep.ACT_STAT, Reg.Shep.ACT_ID, Reg.Shep.LAST_ACT_ID, Reg.Shep.INSTANT_SEC_LO, Reg.Shep.INSTANT_SEC_HI, Reg.Shep.INSTANT_NS, Reg.Shep.RUN_VERSION, Reg.Shep.STAGE_STAT, Reg.Shep.STAGE_VERSION], (armSt 0 0 3 none).wearOf (shepReg off) < 9999990) ∧ ((armSt 0 0 3 none).devState = 0 ∨ (armSt 0 0 3 none).devState = 1) ∧ (armSt 0 0 3 none).shep.otherSt = 3 ∧ (armSt 0 0 3 none).shep.holder = none ∧ (armSt 0 0 3 none).supplied = true ∧ (armSt 0 0 3 none).rst = []) ∧
    ((¬(st22.supplied = true ∧ st22.verified = false ∧ (Rst.por ∈ st22.rst ∨ Rst.srst ∈ st22.rst))))) ∧
    (((st23.setActState 3).supplied = true ∧ (st23.setActState 3).verified = false ∧ (Rst.por ∈ (st23.setActState 3).rst ∨ Rst.srst ∈ (st23.setActState 3).rst)) ∧ (∀ off ∈ [Reg.Shep.BOOT_SLOT, Reg.Shep.ACT_STAT, Reg.Shep.ACT_ID, Reg.Shep.LAST_ACT_ID, Reg.Shep.INSTANT_SEC_LO, Reg.Shep.INSTANT_SEC_HI, Reg.Shep.INSTANT_NS, Reg.Shep.RUN_VERSION, Reg.Shep.STAGE_STAT, Reg.Shep.STAGE_VERSION], (st23.setActState 3).wearOf (shepReg off) < 9999990) ∧ (st23.setActState 3).actState = 3) ∧
    (((st23.wrN (sysBase + Reg.Sys.DEV_ID) 7).supplied = true ∧ (st23.wrN (sysBase + Reg.Sys.DEV_ID) 7).verified = false ∧ (Rst.por ∈ (st23.wrN (sysBase + Reg.Sys.DEV_ID) 7).rst ∨ Rst.srst ∈ (st23.wrN (sysBase + Reg.Sys.DEV_ID) 7).rst)) ∧ (∀ off ∈ [Reg.Shep.BOOT_SLOT, Reg.Shep.ACT_STAT, Reg.Shep.ACT_ID, Reg.Shep.LAST_ACT_ID, Reg.Shep.INSTANT_SEC_LO, Reg.Shep.INSTANT_SEC_HI, Reg.Shep.INSTANT_NS, Reg.Shep.RUN_VERSION, Reg.Shep.STAGE_STAT, Reg.Shep.STAGE_VERSION], (st23.wrN (sysBase + Reg.Sys.DEV_ID) 7).wearOf (shepReg off) < 9999990) ∧ (st23.wrN (sysBase + Reg.Sys.DEV_ID) 7).actState ≠ 3) :=
  ⟨by decide +kernel,
   by decide +kernel,
   by decide +kernel,
   by decide +kernel,
   by decide +kernel⟩

/-- The hypotheses of `Obligations.Activation` are met, clause by clause (part 3 of 3). -/
theorem wit_Activation_3 :
    (((¬∀ (g : Half), g ≠ Half.a → ((st24.setActState 2).wrN (shepReg Reg.Shep.HEALTH_STAT) 0).bit (shepReg Reg.Shep.HEALTH_STAT) g.idx = true) ∨ ¬(((st24.setActState 2).wrN (shepReg Reg.Shep.HEALTH_STAT) 0).actState = 2 ∧ ((st24.setActState 2).wrN (shepReg Reg.Shep.HEALTH_STAT) 0).shep.winEnd ≠ none)) ∧ Takes ((st24.setActState 2).wrN (shepReg Reg.Shep.HEALTH_STAT) 0) accA (shepReg Reg.Shep.HEALTH_OK) ∧ accA.master = Master.half Half.a ∧ 1526595585 = 1526595585) ∧
    ((∀ (g : Half), g ≠ Half.a → ((st25.setActState 2).wrN (shepReg Reg.Shep.HEALTH_STAT) 2).bit (shepReg Reg.Shep.HEALTH_STAT) g.idx = true) ∧ Takes ((st25.setActState 2).wrN (shepReg Reg.Shep.HEALTH_STAT) 2) accA (shepReg Reg.Shep.HEALTH_OK) ∧ accA.master = Master.half Half.a ∧ 1526595585 = 1526595585 ∧ (((st25.setActState 2).wrN (shepReg Reg.Shep.HEALTH_STAT) 2).actState = 2 ∧ ((st25.setActState 2).wrN (shepReg Reg.Shep.HEALTH_STAT) 2).shep.winEnd ≠ none) ∧ (∀ off ∈ [Reg.Shep.BOOT_SLOT, Reg.Shep.ACT_STAT, Reg.Shep.ACT_ID, Reg.Shep.LAST_ACT_ID, Reg.Shep.INSTANT_SEC_LO, Reg.Shep.INSTANT_SEC_HI, Reg.Shep.INSTANT_NS, Reg.Shep.RUN_VERSION, Reg.Shep.STAGE_STAT, Reg.Shep.STAGE_VERSION], ((st25.setActState 2).wrN (shepReg Reg.Shep.HEALTH_STAT) 2).wearOf (shepReg off) < 9999990)) ∧
    ((rs.actState ≠ 2 ∨ rs.shep.winEnd = none) ∧
    (((st24.setActState 2).wrN (shepReg Reg.Shep.HEALTH_STAT) 0).actState = 2 ∧ ((st24.setActState 2).wrN (shepReg Reg.Shep.HEALTH_STAT) 0).shep.winEnd = some 5 ∧ ((st24.setActState 2).wrN (shepReg Reg.Shep.HEALTH_STAT) 0).tbfNs < 5) ∧
    (((st26.setActState 2).wrN (shepReg Reg.Shep.HEALTH_STAT) 0).actState = 2 ∧ ((st26.setActState 2).wrN (shepReg Reg.Shep.HEALTH_STAT) 0).shep.winEnd = some 0 ∧ 0 ≤ ((st26.setActState 2).wrN (shepReg Reg.Shep.HEALTH_STAT) 0).tbfNs ∧ (∀ off ∈ [Reg.Shep.BOOT_SLOT, Reg.Shep.ACT_STAT, Reg.Shep.ACT_ID, Reg.Shep.LAST_ACT_ID, Reg.Shep.INSTANT_SEC_LO, Reg.Shep.INSTANT_SEC_HI, Reg.Shep.INSTANT_NS, Reg.Shep.RUN_VERSION, Reg.Shep.STAGE_STAT, Reg.Shep.STAGE_VERSION], ((st26.setActState 2).wrN (shepReg Reg.Shep.HEALTH_STAT) 0).wearOf (shepReg off) < 9999990)) ∧
    st27.supplied = false ∧
    (st28.supplied = true ∧ st28.inDead = false ∧ st28.reaction 40 ≤ 1)) ∧
    (Takes (ssn rs) accS (shepReg Reg.Shep.HEALTH_OK) ∧ (accS.master = Master.shep ∨ 1526595585 ≠ 1526595585)) ∧
    (Takes (rs.wrN (shepReg Reg.Shep.MIN_VERSION) 9) accA (shepReg Reg.Shep.MIN_VERSION) ∧ (BitVec.toNat (8 : Word)) < (rs.wrN (shepReg Reg.Shep.MIN_VERSION) 9).rdN (shepReg Reg.Shep.MIN_VERSION)) ∧
    (Takes (rs.wrN (shepReg Reg.Shep.MIN_VERSION) 9) accA (shepReg Reg.Shep.MIN_VERSION) ∧ (rs.wrN (shepReg Reg.Shep.MIN_VERSION) 9).rdN (shepReg Reg.Shep.MIN_VERSION) ≤ (BitVec.toNat (9 : Word)) ∧ (rs.wrN (shepReg Reg.Shep.MIN_VERSION) 9).worn (shepReg Reg.Shep.MIN_VERSION) = false) ∧
    (Takes (rs.setActState 1) accA (shepReg Reg.Shep.ACT_GROUP + 4 * 0) ∧ (rs.setActState 1).actState = 1) ∧
    (Takes (rs.setActState 2) accA (shepReg Reg.Shep.ACT_GROUP + 4 * 0) ∧ (rs.setActState 2).actState ≠ 1 ∧ (rs.setActState 2).worn (shepReg Reg.Shep.ACT_GROUP + 4 * 0) = false) :=
  ⟨⟨.inl (fun h => absurd (h .b (by decide)) (by decide +kernel)), by unfold Takes; decide +kernel⟩,
   ⟨by intro h; cases h <;> decide +kernel, by unfold Takes; decide +kernel⟩,
   by decide +kernel,
   by unfold Takes; decide +kernel⟩

end Service

end Sys2Proof.Tests
end

section
/-! PROOFS. Every operation of the model keeps the register file in canonical form. One lemma per operation, `State.Inv.f` for
the operation `f`, in the order of the model's files: from the invariant of the state `f` is given follows that of the state
it leaves. The register file changes by `State.wr` and `State.loseRegs` alone; a proof names the operations `f` is made of,
in the order they run, and `update` where only other fields change. -/

namespace Sys2Proof.Machine

variable {s : State} {v : Word} {acc : Access} {h : Half} {p : Page} {m : Master} {l : List Nat}
  {n t k off i j d addr code cause prim inst base size b c x q lo hi : Nat}

/-! ### What the steps of a meaning are made of -/

theorem State.Inv.congr (hs : s.Inv) {t : State} (e : t.regs = s.regs) : t.Inv := State.regsWf_congr hs e

/-- Whatever else changes, the register file stays as it is. -/
theorem State.Inv.update (hs : s.Inv)
    {resp freeCtr pending out activeHalf fans mrqA mrqB mrqS wear time doms evtShadow placed gateActs lineLast
    toEnd lsLast inFlight tiles chans tcs adcs convAt fmonPrev fmonAt capGate fmonClrA fmonClrB membReqs slots
    ks drsValid lossCause drsGen tamperLatch tamperOff records pkWear sas scs csubs lanes ctxs halves cmpLink
    inseq distQ ringDue grant claimDue served yielded rst verified supplied parkStage wakes dozing dozeExit
    ceCount cycled mworld harts ecShadow ecLatch slotNo frames frameId credits fdb sfs mgs learnQ fetchSeq
    hostTxA hostTxB hostRxA hostRxB gwTx gwRx hqs anWait tdrVf plcaLast canQ linQ linData aggs aggSeq aiConv
    steer deficits dwrrs buckets txLast viFreeze viSnaps viImage spPosts spDts spIn spAns spTags tunGate spSeq
    spFail pwf dirIn dirBack laneOct shep codeStore imgKept} :
    State.Inv
      { s with
        resp, freeCtr, pending, out, activeHalf, fans, mrqA, mrqB, mrqS, wear, time, doms, evtShadow, placed,
        gateActs, lineLast, toEnd, lsLast, inFlight, tiles, chans, tcs, adcs, convAt, fmonPrev, fmonAt, capGate,
        fmonClrA, fmonClrB, membReqs, slots, ks, drsValid, lossCause, drsGen, tamperLatch, tamperOff, records,
        pkWear, sas, scs, csubs, lanes, ctxs, halves, cmpLink, inseq, distQ, ringDue, grant, claimDue, served,
        yielded, rst, verified, supplied, parkStage, wakes, dozing, dozeExit, ceCount, cycled, mworld, harts,
        ecShadow, ecLatch, slotNo, frames, frameId, credits, fdb, sfs, mgs, learnQ, fetchSeq, hostTxA, hostTxB,
        hostRxA, hostRxB, gwTx, gwRx, hqs, anWait, tdrVf, plcaLast, canQ, linQ, linData, aggs, aggSeq, aiConv,
        steer, deficits, dwrrs, buckets, txLast, viFreeze, viSnaps, viImage, spPosts, spDts, spIn, spAns,
        spTags, tunGate, spSeq, spFail, pwf, dirIn, dirBack, laneOct, shep, codeStore, imgKept } :=
  .congr hs rfl

theorem State.Inv.wr (hs : s.Inv) : (s.wr k v).Inv := State.wr_regsWf hs k v

theorem State.Inv.loseRegs (hs : s.Inv) {lose : Nat → Bool} : (s.loseRegs lose).Inv := State.loseRegs_regsWf hs lose

theorem State.Inv.ite {c : Prop} [Decidable c] {a b : State} (ha : a.Inv) (hb : b.Inv) : (if c then a else b).Inv := by
  split <;> assumption

theorem State.Inv.ite_fst {α : Type} {c : Prop} [Decidable c] {a b : State × α} (ha : a.1.Inv) (hb : b.1.Inv) :
    (if c then a else b).1.Inv := by
  split <;> assumption

theorem State.Inv.ite_snd {α : Type} {c : Prop} [Decidable c] {a b : α × State} (ha : a.2.Inv) (hb : b.2.Inv) :
    (if c then a else b).2.Inv := by
  split <;> assumption

theorem State.Inv.ite_app {c : Prop} [Decidable c] {f g : State → State} (hf : (f s).Inv) (hg : (g s).Inv) :
    ((if c then f else g) s).Inv := by
  split <;> assumption

theorem State.Inv.mk_fst {α : Type} {x : α} (hs : s.Inv) : (s, x).1.Inv := hs

theorem State.Inv.mk_snd {α : Type} {x : α} (hs : s.Inv) : (x, s).2.Inv := hs

theorem State.Inv.of_fst {α : Type} {r : State × α} (hr : r.1.Inv) {t : State} {x : α} (e : r = (t, x)) : t.Inv := by
  subst e
  exact hr

theorem State.Inv.of_snd {α : Type} {r : α × State} (hr : r.2.Inv) {t : State} {x : α} (e : r = (x, t)) : t.Inv := by
  subst e
  exact hr

theorem State.Inv.foldl {α : Type} {l : List α} {f : State → α → State} (hs : s.Inv)
    (hf : ∀ (u : State) (x : α), u.Inv → (f u x).Inv) : (l.foldl f s).Inv := by
  induction l generalizing s with
  | nil => exact hs
  | cons x l ih => exact ih (hf s x hs)

theorem State.Inv.foldl_fst {α β : Type} {l : List α} {f : State × β → α → State × β} {a : State × β} (ha : a.1.Inv)
    (hf : ∀ (a : State × β) (x : α), a.1.Inv → (f a x).1.Inv) : (l.foldl f a).1.Inv := by
  induction l generalizing a with
  | nil => exact ha
  | cons x l ih => exact ih (hf a x ha)

/-! ### Ops -/

theorem State.Inv.setFld {v : Nat} (hs : s.Inv) : (s.setFld k lo n v).Inv := hs.wr

theorem State.Inv.setBit {b : Bool} (hs : s.Inv) : (s.setBit k i b).Inv := hs.setFld

theorem State.Inv.wrN {v : Nat} (hs : s.Inv) : (s.wrN k v).Inv := hs.wr

theorem State.Inv.count (hs : s.Inv) : (s.count k).Inv := .ite hs hs.wrN

theorem State.Inv.countBy (hs : s.Inv) : (s.countBy k n).Inv := hs.wrN

theorem State.Inv.countFld (hs : s.Inv) : (s.countFld k lo n).Inv := .ite hs hs.setFld

theorem State.Inv.countWrap (hs : s.Inv) : (s.countWrap k).Inv := hs.wrN

theorem State.Inv.onlyIf {c : Bool} {f : State → State} (hs : s.Inv) (hf : ∀ u, u.Inv → (f u).Inv) :
    (s.onlyIf c f).Inv := .ite (hf _ hs) hs

theorem State.Inv.each {α : Type} {l : List α} {f : State → α → State} (hs : s.Inv) (hf : ∀ u x, u.Inv → (f u x).Inv)
    : (s.each l f).Inv := .foldl hs hf

theorem State.Inv.fresh (hs : s.Inv) : s.fresh.2.Inv := hs.update

theorem State.Inv.freshIn (hs : s.Inv) : (s.freshIn lo hi).2.Inv := hs.update

theorem State.Inv.freshInt {lo hi : Int} (hs : s.Inv) : (s.freshInt lo hi).2.Inv := hs.update

theorem State.Inv.roundOpen {num den : Int} (hs : s.Inv) : (s.roundOpen num den).2.Inv := .ite_snd hs hs.update

theorem State.Inv.freshBool (hs : s.Inv) : s.freshBool.2.Inv := hs.update

theorem State.Inv.reaches {thr tol : Nat} (hs : s.Inv) : (s.reaches x thr tol).2.Inv :=
  .ite_snd hs (.ite_snd hs hs.update)

theorem State.Inv.setClk {c : AdjClock} (hs : s.Inv) : (s.setClk k c).Inv := .ite hs.update hs.update

theorem State.Inv.stamp {c : Clock} (hs : s.Inv) : (s.stamp lo hi c).Inv := hs.wr.wr

theorem State.Inv.emit {e : Emit} (hs : s.Inv) : (s.emit e).Inv := hs.update

theorem State.Inv.answer {r : Resp} (hs : s.Inv) : (s.answer r).Inv := hs.update

/-! ### Flags -/

theorem State.Inv.raise (hs : s.Inv) : (s.raise base i).Inv := hs.setBit

theorem State.Inv.evirqRaise (hs : s.Inv) : s.evirqRaise.Inv := .onlyIf hs (fun _ hx => hx.raise)

theorem State.Inv.cmdResult {r : CmdResult} (hs : s.Inv) : (s.cmdResult base r).Inv := hs.setFld.raise

theorem State.Inv.setBusy {b : Bool} (hs : s.Inv) : (s.setBusy base b).Inv := hs.setBit

theorem State.Inv.lockViol (hs : s.Inv) : (s.lockViol prim).Inv := .onlyIf hs.setBit (fun _ hx => hx.raise)

theorem State.Inv.ownerViolFlag (hs : s.Inv) : (s.ownerViolFlag prim).Inv := hs.setBit

theorem State.Inv.ownerViol (hs : s.Inv) : (s.ownerViol prim addr).Inv := hs.ownerViolFlag.wrN.count

theorem State.Inv.setUnit {on partly fault : Bool} {prot : Nat} (hs : s.Inv) :
    (s.setUnit base on partly fault prot).Inv := by
  unfold State.setUnit
  exact .onlyIf (.onlyIf hs.setFld (fun _ hx => hx.raise)) (fun _ hx => hx.raise)

theorem State.Inv.setBlockStat {v : Nat} (hs : s.Inv) : (s.setBlockStat base v).Inv := hs.setFld

theorem State.Inv.bumpGen (hs : s.Inv) : (s.bumpGen base).Inv := hs.setFld

theorem State.Inv.deriveStat {l : Nat} (hs : s.Inv) : (s.deriveStat l).Inv := by
  unfold State.deriveStat
  exact hs.setUnit

theorem State.Inv.refreshUp (hs : s.Inv) : (s.refreshUp n).Inv := .each hs (fun _ _ hx => hx.deriveStat)

theorem State.Inv.sumUp {l : Nat} (hs : s.Inv) : (s.sumUp l).Inv := hs.wrN

/-! ### Count -/

theorem State.Inv.ecPut {v : Nat} (hs : s.Inv) : (s.ecPut b i v).Inv := hs.wrN.wrN

theorem State.Inv.ecOne {fuel : Nat} (hs : s.Inv) : (s.ecOne fuel b i).Inv := by
  induction fuel generalizing s i with
  | zero => exact hs
  | succ fuel ih => exact .ite hs.ecPut (.foldl hs.ecPut.setBit fun _ _ hx => ih hx)

theorem State.Inv.ecEvent (hs : s.Inv) : (s.ecEvent b code inst).Inv := .ite hs (.foldl hs (fun _ _ hx => hx.ecOne))

theorem State.Inv.ev (hs : s.Inv) : (s.ev code inst).Inv :=
  .ite hs (.ite hs.ecEvent (.ite hs.ecEvent hs.ecEvent.ecEvent.ecEvent.ecEvent))

theorem State.Inv.evHalf {h : Nat} (hs : s.Inv) : (s.evHalf h code inst).Inv := hs.ecEvent

theorem State.Inv.ecDrift (hs : s.Inv) : (s.ecDrift b i).Inv := .ite hs.update.ecPut hs

theorem State.Inv.ecDriftAll (hs : s.Inv) : (s.ecDriftAll b).Inv := .each hs (fun _ _ hx => hx.ecDrift)

theorem State.Inv.ecSnap (hs : s.Inv) : (s.ecSnap b).Inv := by
  unfold State.ecSnap
  exact .each hs.ecDriftAll.wrN.stamp (fun _ _ hx => hx.wr.wr)

theorem State.Inv.evirqSnap {line : Nat} (hs : s.Inv) : (s.evirqSnap line).Inv :=
  .each hs (fun _ _ hx => .onlyIf hx (fun _ hy => hy.ecSnap))

/-! ### Operands -/

theorem State.Inv.setGateSt {v : Nat} (hs : s.Inv) : (s.setGateSt k v).Inv := hs.setFld

theorem State.Inv.sbRefuse (hs : s.Inv) : (s.sbRefuse code).Inv := hs.count.answer

theorem State.Inv.setHalfSt {m : HalfSt} (hs : s.Inv) : (s.setHalfSt h m).Inv := hs.update

theorem State.Inv.cmpFold {a d : Word} (hs : s.Inv) : (s.cmpFold h a d).Inv := by
  unfold State.cmpFold
  exact hs.setHalfSt.countWrap

theorem State.Inv.cmpWrite (hs : s.Inv) : (s.cmpWrite acc size addr v).Inv := by
  unfold State.cmpWrite
  split
  exacts [.ite hs.cmpFold hs, hs]

theorem State.Inv.stbyDiscard (hs : s.Inv) : (s.stbyDiscard acc).Inv := by
  unfold State.stbyDiscard
  dsimp only
  split
  exacts [.onlyIf hs.count (fun _ hx => hx.evHalf), hs.count]

theorem State.Inv.settle {v : Verdict} {absent : Resp} {k : State → State} (hs : s.Inv) (hf : ∀ u, u.Inv → (k u).Inv)
    : (s.settle acc addr v absent k).Inv := by
  unfold State.settle
  split
  · exact hf _ hs
  · exact hs.answer
  · exact hs.stbyDiscard.answer
  · exact hs.answer
  · split
    exacts [hs.ownerViol.answer, hs.answer]
  · exact hs.sbRefuse

theorem State.Inv.rstRefused {v : Verdict} (hs : s.Inv) : (s.rstRefused addr v).Inv := by
  unfold State.rstRefused
  split
  exacts [.onlyIf hs (fun _ hx => hx.count), hs]

theorem State.Inv.write {eff : Access → State → State} (hs : s.Inv) (hf : ∀ a u, u.Inv → (eff a u).Inv) :
    (s.write acc size addr v eff).Inv := by
  unfold State.write
  exact .settle hs.cmpWrite.rstRefused (fun _ hx => hf _ _ hx.answer)

theorem State.Inv.read {eff : Access → State → State} (hs : s.Inv) (hf : ∀ a u, u.Inv → (eff a u).Inv) :
    (s.read acc size addr eff).Inv := .settle hs (fun _ hx => hf _ _ hx)

theorem State.Inv.failWrite (hs : s.Inv) : (s.failWrite acc prim addr code).Inv := by
  unfold State.failWrite
  split
  exacts [hs.ownerViol.answer, hs.sbRefuse]

theorem State.Inv.lockedWrite (hs : s.Inv) : (s.lockedWrite acc prim).Inv := by
  unfold State.lockedWrite
  split
  exacts [hs.lockViol, hs.lockViol.sbRefuse]

/-! ### Distrib -/

theorem State.Inv.dist {x : DistItem} (hs : s.Inv) : (s.dist x).Inv := .ite hs.update hs

theorem State.Inv.distNow {source id : Nat} {w5 w6 w7 : Word} (hs : s.Inv) : (s.distNow source id w5 w6 w7).Inv :=
  hs.dist

/-! ### Persist -/

theorem State.Inv.putP (hs : s.Inv) : (s.putP prim k v).Inv := by
  unfold State.putP
  exact .ite hs.wr.update (.onlyIf (.onlyIf hs.wr.update (fun _ hx => hx.setFld)) (fun _ hx => hx.setBit.raise))

theorem State.Inv.wornWrite (hs : s.Inv) : (s.wornWrite acc prim).Inv := hs.lockedWrite.count.raise

theorem State.Inv.writeP (hs : s.Inv) : (s.writeP acc prim k v).Inv := by
  unfold State.writeP
  exact have e1 : State.Inv _ := (by split; exacts [.onlyIf hs (fun _ hx => hx.evHalf), hs])
    .ite e1.wornWrite e1.putP

theorem State.Inv.hwP (hs : s.Inv) : (s.hwP prim k v).Inv := .ite hs hs.putP

theorem State.Inv.hwCountP (hs : s.Inv) : (s.hwCountP prim k).Inv := .ite hs hs.hwP

/-! ### TimeBase -/

theorem State.Inv.rangeErr (hs : s.Inv) : (s.rangeErr k i).Inv := hs.setBit.setBit.raise

theorem State.Inv.secWrap (hs : s.Inv) : s.secWrap.Inv := hs.setBit.raise

theorem State.Inv.tickClk (hs : s.Inv) : (s.tickClk k).Inv := by
  unfold State.tickClk
  exact .onlyIf (.onlyIf hs.setClk (fun _ hx => hx.secWrap)) (fun _ hx => hx.ev)

theorem State.Inv.tickTbf (hs : s.Inv) : s.tickTbf.Inv := by
  unfold State.tickTbf
  exact .onlyIf (.onlyIf hs.update (fun _ hx => hx.secWrap)) (fun _ hx => hx.ev)

theorem State.Inv.keepTick (hs : s.Inv) : s.keepTick.Inv := by
  unfold State.keepTick
  exact hs.update

theorem State.Inv.tickClocks (hs : s.Inv) : s.tickClocks.Inv := .ite hs hs.keepTick.tickClk.tickClk.tickTbf

theorem State.Inv.incLoWrite (hs : s.Inv) : (incLoWrite k v s).Inv := hs.setClk

theorem State.Inv.incHiWrite (hs : s.Inv) : (incHiWrite k v s).Inv := by
  unfold Machine.incHiWrite
  exact .ite hs.setClk hs.rangeErr

theorem State.Inv.incCommit (hs : s.Inv) : (incCommit k s).Inv := by
  unfold Machine.incCommit
  split
  exacts [hs.setClk, hs]

theorem State.Inv.slewGo (hs : s.Inv) : (slewGo k s).Inv := hs.setClk

theorem State.Inv.slewCancel (hs : s.Inv) : (slewCancel k s).Inv := hs.setClk

theorem State.Inv.slewDone (hs : s.Inv) : (slewDone k s).Inv := .ite hs.setClk.raise hs

theorem State.Inv.ofsGo (hs : s.Inv) : (ofsGo k s).Inv := by
  unfold Machine.ofsGo
  split
  exacts [hs.rangeErr, hs.setClk]

theorem State.Inv.offsetClock (hs : s.Inv) : (offsetClock k s).1.Inv := by
  unfold Machine.offsetClock
  split
  exacts [hs, .ite_fst (.onlyIf hs.setClk.setClk (fun _ hx => hx.secWrap)) hs.setClk.rangeErr]

theorem State.Inv.snapGo (hs : s.Inv) : (snapGo m s).Inv := by
  unfold Machine.snapGo
  exact .ite hs.wr hs.wr.update

theorem State.Inv.snapWords {key : Nat} {c : Clock} (hs : s.Inv) : (s.snapWords key c).Inv := hs.wrN.wrN.wrN.wrN

theorem State.Inv.snapLatch (hs : s.Inv) : (snapLatch m s).Inv := .ite hs.update.snapWords.snapWords.snapWords.wrN hs

theorem State.Inv.setCapFifo {l : List CapEntry} (hs : s.Inv) : (s.setCapFifo h l).Inv := by
  unfold State.setCapFifo
  split <;> exact hs.update

theorem State.Inv.capEnter {tag port clk : Nat} {c : Clock} (hs : s.Inv) : (s.capEnter h tag port clk c).Inv := by
  unfold State.capEnter
  exact .ite (.onlyIf hs.setCapFifo (fun _ hx => hx.raise)) hs.count.raise

theorem State.Inv.capPop (hs : s.Inv) : (capPop h s).Inv := hs.setCapFifo

/-! ### Domains -/

theorem State.Inv.setDom {m : Dom} (hs : s.Inv) : (s.setDom d m).Inv := hs.update

theorem State.Inv.enter {st : DomState} (hs : s.Inv) : (s.enter d st).Inv := by
  unfold State.enter
  exact .onlyIf (.onlyIf hs.setDom (fun _ hx => hx.raise)) (fun _ hx => hx.distNow)

theorem State.Inv.childStep {parent : Nat} {k : ChildStep} (hs : s.Inv) : (s.childStep parent k c).1.Inv := by
  unfold State.childStep
  dsimp only
  split <;> exact hs.setDom.enter

theorem State.Inv.carry {fuel : Nat} {j : ChildStep} (hs : s.Inv) : (s.carry fuel d j).Inv := by
  induction fuel generalizing s d j with
  | zero => exact hs
  | succ fuel ih => exact .foldl hs fun _ _ hx => ih hx.childStep

theorem State.Inv.tickInterp {inc0 : Nat} (hs : s.Inv) : (s.tickInterp d inc0).Inv := by
  unfold State.tickInterp
  dsimp only
  split
  exacts [.ite hs.setDom.carry hs.setDom.carry, hs.setDom.carry]

theorem State.Inv.tickLocked {inc inc0 : Nat} (hs : s.Inv) : (s.tickLocked d inc inc0).Inv := by
  unfold State.tickLocked
  exact hs.setDom.carry

theorem State.Inv.beforeEpoch (hs : s.Inv) : (s.beforeEpoch d).Inv := hs.setDom.enter.carry

theorem State.Inv.tickIdeal (hs : s.Inv) : (s.tickIdeal d).Inv := by
  unfold State.tickIdeal
  exact .ite hs.setDom.carry hs.beforeEpoch

theorem State.Inv.tickLag {inc0 : Nat} (hs : s.Inv) : (s.tickLag d inc0).Inv := by
  unfold State.tickLag
  dsimp only
  split
  exacts [.ite hs.setDom.carry hs.setDom, hs.tickInterp]

theorem State.Inv.tickDom {inc0 inc1 incF : Nat} (hs : s.Inv) : (s.tickDom inc0 inc1 incF d).Inv :=
  .ite hs (by split; exacts [.ite hs.tickIdeal (.ite hs.tickLocked hs.tickLocked), hs.tickInterp, hs.tickLag, hs])

theorem State.Inv.clockTick (hs : s.Inv) : (clockTick s).Inv :=
  .ite hs (.each hs.update.tickClocks (fun _ _ hx => hx.tickDom))

theorem State.Inv.phaseRead (hs : s.Inv) : (phaseRead d s).Inv := by
  unfold Machine.phaseRead
  exact hs.wrN.wrN.wrN.stamp.answer

/-! ### Events -/

theorem State.Inv.bind (hs : s.Inv) : (s.bind i).Inv := by
  unfold State.bind
  exact .ite hs hs.wrN

theorem State.Inv.setFlag {b : Bool} (hs : s.Inv) : (s.setFlag off i b).Inv := hs.setBit

theorem State.Inv.setArm {b : Bool} (hs : s.Inv) : (s.setArm i b).Inv := hs.setBit

theorem State.Inv.advance (hs : s.Inv) : (s.advance i).Inv := by
  unfold State.advance
  exact .ite hs.wrN hs.setArm

theorem State.Inv.afterAct {replaced : Bool} (hs : s.Inv) : (s.afterAct i replaced).Inv :=
  .ite (.onlyIf hs (fun _ hx => hx.bind)) hs.advance

theorem State.Inv.ownerFail (hs : s.Inv) : s.ownerFail.Inv := hs.count.raise.ev

theorem State.Inv.evtShadowWrite (hs : s.Inv) : (evtShadowWrite i j v s).Inv := .ite hs hs.update

theorem State.Inv.commitPlaced (hs : s.Inv) : (s.commitPlaced i).Inv := by
  unfold State.commitPlaced
  exact hs.update

theorem State.Inv.showPlaced (hs : s.Inv) : (s.showPlaced i).Inv := hs.setFlag

theorem State.Inv.evtCommit (hs : s.Inv) : (evtCommit i v s).Inv :=
  .ite hs
    (.ite hs.update.count.wrN.raise (.onlyIf hs.update.wr.wr.wr.wr.commitPlaced.showPlaced (fun _ hx => hx.bind)))

theorem State.Inv.lateWith {w1 w3 : Word} {replaced : Bool} {proj : Option Nat} (hs : s.Inv) :
    (s.lateWith i w1 w3 replaced proj).Inv := by
  unfold State.lateWith
  exact have e3 : State.Inv _ := .onlyIf hs.setFlag.count.ev.wrN.raise (fun _ hx => hx.setBit)
    .ite e3.count.raise.ev.afterAct e3.update.update

theorem State.Inv.goLate {proj : Option Nat} (hs : s.Inv) : (s.goLate i proj).Inv := hs.lateWith

theorem State.Inv.overtake {oldX newX : Nat} {rev : Bool} (hs : s.Inv) : (s.overtake d oldX newX rev).Inv := by
  unfold State.overtake
  exact .ev (.raise (.each hs (fun _ _ hx => hx.goLate)))

theorem State.Inv.overtakeSlots {oldX newX : Nat} (hs : s.Inv) : (s.overtakeSlots oldX newX).Inv :=
  .each hs (fun _ _ hx => hx.goLate)

theorem State.Inv.withdraw {rev : Option Bool} (hs : s.Inv) : (s.withdraw d rev).Inv := by
  unfold State.withdraw
  exact .each hs.update (fun _ _ hx => hx.showPlaced)

theorem State.Inv.evalEvent (hs : s.Inv) : (s.evalEvent i).Inv := by
  unfold State.evalEvent
  exact .ite hs (.ite hs (.ite (.ite hs.update.showPlaced.ev hs.setArm.ownerFail) hs.goLate))

theorem State.Inv.eventEvaluate (hs : s.Inv) : (eventEvaluate s).Inv :=
  .ite (.each hs (fun _ _ hx => hx.evalEvent)) hs

theorem State.Inv.stepPlaced {oldNs newNs : Nat} (hs : s.Inv) : (s.stepPlaced oldNs newNs).Inv := by
  unfold State.stepPlaced
  exact .each hs.update (fun _ _ hx => hx.showPlaced.lateWith)

/-! ### DomainCmds -/

theorem State.Inv.jump {oldX newX : Nat} {rev : Bool} (hs : s.Inv) : (s.jump d oldX newX rev).Inv := by
  unfold State.jump
  exact .each hs.overtake.carry (fun _ _ hx => .onlyIf hx (fun _ hy => hy.overtake))

theorem State.Inv.reversed {old : Bool} (hs : s.Inv) : (s.reversed d old).Inv := hs.withdraw.raise.ev

theorem State.Inv.reverse {old : Bool} (hs : s.Inv) : (s.reverse d old).Inv :=
  .each hs.reversed (fun _ _ hx => (by split; exacts [hx.reversed, hx]))

theorem State.Inv.anchorAt {pos tk : Nat} {first : Bool} (hs : s.Inv) : (s.anchorAt d pos tk first).Inv := by
  unfold State.anchorAt
  exact have e2 : State.Inv _ := (by split; exacts [.ite hs.setDom.setDom hs.setDom.setDom, hs.setDom.setDom])
    .ite e2.jump (.ite e2.carry e2.carry)

theorem State.Inv.angleEdge {rev : Bool} {pos tk : Nat} (hs : s.Inv) : (s.angleEdge d rev pos tk).Inv := by
  unfold State.angleEdge
  exact .anchorAt (.ev (.enter (.setDom (.onlyIf hs (fun _ hx => hx.reverse)))))

theorem State.Inv.stepEdge {rev : Bool} {tk : Nat} (hs : s.Inv) : (s.stepEdge d rev tk).Inv := hs.angleEdge

theorem State.Inv.goHold (hs : s.Inv) : (s.goHold d).Inv := by
  unfold State.goHold
  exact hs.setDom.enter.carry

theorem State.Inv.hallError {tk : Nat} (hs : s.Inv) : (s.hallError d j tk).Inv := by
  unfold State.hallError
  exact hs.setDom.count.raise.ev.angleEdge

theorem State.Inv.hallEdge {tk : Nat} (hs : s.Inv) : (s.hallEdge d tk).Inv := by
  unfold State.hallEdge
  dsimp only
  split
  exacts [.ite hs.setDom.anchorAt hs.hallError,
    .ite hs.setDom.angleEdge (.ite hs.setDom.angleEdge (.ite hs hs.hallError)), hs.setDom.count.raise.ev.goHold]

theorem State.Inv.indexEdge (hs : s.Inv) : (s.indexEdge d).Inv := by
  unfold State.indexEdge
  exact hs.setDom.jump

theorem State.Inv.encToDomain {pin : Nat} {rising : Bool} {tk : Nat} (hs : s.Inv) :
    (s.encToDomain pin rising tk d).Inv :=
  .ite hs <| by
    dsimp only
    split
    exacts [have e1 : State.Inv _ := .ite hs.stepEdge (.ite hs.stepEdge hs); .ite e1.indexEdge e1,
      .ite hs.hallEdge hs, .ite hs.stepEdge hs, hs]

theorem State.Inv.encEdge {pin : Nat} {rising : Bool} (hs : s.Inv) : (encEdge pin rising s).Inv :=
  .ite hs (.each hs.setBit.countWrap.dist (fun _ _ hx => hx.encToDomain))

theorem State.Inv.frameStart {period tk : Nat} {msg : Bool} (hs : s.Inv) : (s.frameStart d period tk msg).Inv := by
  unfold State.frameStart
  exact .ite hs.ev.setDom.anchorAt.goHold (.ite hs.ev.setDom.enter.carry hs.ev.setDom.enter.anchorAt)

theorem State.Inv.lsToDomain {pin : Nat} {rising : Bool} {tk : Nat} (hs : s.Inv) :
    (s.lsToDomain pin rising tk d).Inv := by
  unfold State.lsToDomain
  exact .ite hs hs.setDom.frameStart

theorem State.Inv.lsEdge {pin : Nat} {rising : Bool} (hs : s.Inv) : (lsEdge pin rising s).Inv :=
  .ite hs (.each (.update (.onlyIf hs.setBit.stamp.dist (fun _ hx => hx.wrN))) (fun _ _ hx => hx.lsToDomain))

theorem State.Inv.lineMsgGo (hs : s.Inv) : (lineMsgGo d s).Inv := by
  unfold Machine.lineMsgGo
  exact .ite hs hs.frameStart

theorem State.Inv.domainHold (hs : s.Inv) : (domainHold d s).Inv := .ite hs.goHold hs

theorem State.Inv.stallFlags (hs : s.Inv) : (s.stallFlags d).Inv := by
  unfold State.stallFlags
  split
  exacts [hs, .each hs (fun _ _ hx => .onlyIf hx.setFlag (fun _ hy => hy.setArm))]

theorem State.Inv.stalledNow (hs : s.Inv) : (s.stalledNow d).Inv := hs.count.raise.ev

theorem State.Inv.stallChildren {fuel : Nat} (hs : s.Inv) : (s.stallChildren fuel d).Inv := by
  induction fuel generalizing s d with
  | zero => exact hs
  | succ fuel ih => exact .foldl hs fun _ _ hx => ih hx.enter.stalledNow.stallFlags

theorem State.Inv.stallTimeout (hs : s.Inv) : (stallTimeout d s).Inv :=
  .ite hs.enter.stalledNow.stallFlags.stallChildren hs

theorem State.Inv.domainOn (hs : s.Inv) : (Machine.domainOn d s).Inv :=
  .ite hs.cmdResult
    (.cmdResult
       (.setUnit (.each (.carry (.onlyIf hs.setDom.enter (fun _ hx => hx.stalledNow))) (fun _ _ hx => hx.bind))))

theorem State.Inv.stopDom {fuel : Nat} (hs : s.Inv) : (s.stopDom fuel d).Inv := by
  induction fuel generalizing s d with
  | zero => exact hs
  | succ fuel ih => exact .foldl hs.setDom.enter.withdraw.setUnit fun _ _ hx => ih hx

theorem State.Inv.domainOff (hs : s.Inv) : (domainOff d s).Inv := hs.stopDom.cmdResult

theorem State.Inv.loseX (hs : s.Inv) : (s.loseX base).Inv := hs.loseRegs

theorem State.Inv.domainPrst (hs : s.Inv) : (domainPrst d s).Inv := hs.stopDom.setDom.loseX.cmdResult

theorem State.Inv.timeEpochReached (hs : s.Inv) : (timeEpochReached d s).Inv := .ite hs.setDom.enter.carry hs

theorem State.Inv.stepIdeal {forward : Bool} (hs : s.Inv) : (s.stepIdeal d forward).Inv := by
  unfold State.stepIdeal
  exact .ite hs (.ite hs.beforeEpoch (.ite hs.setDom.jump hs.setDom.carry))

theorem State.Inv.stepResid {amount : Int} (hs : s.Inv) : (s.stepResid amount d).Inv := .ite hs.setDom hs

theorem State.Inv.offsetApply (hs : s.Inv) : (offsetApply k s).Inv := by
  unfold Machine.offsetApply
  exact .ite hs.offsetClock
      (.ite (.each (.onlyIf hs.offsetClock (fun _ hx => hx.stepPlaced.overtakeSlots)) (fun _ _ hx => hx.stepIdeal))
         (.each hs.offsetClock (fun _ _ hx => hx.stepResid)))

/-! ### KeysCore -/

theorem State.Inv.setSlot {k : Slot} (hs : s.Inv) : (s.setSlot n k).Inv := hs.update

theorem State.Inv.setLane {o : Option CipherOp} (hs : s.Inv) : (s.setLane k o).Inv := hs.update

theorem State.Inv.setSa {p : Nat} {a : Sa} (hs : s.Inv) : (s.setSa p i a).Inv := hs.update

theorem State.Inv.saLost {key : Nat} (hs : s.Inv) : (s.saLost key).Inv := by
  unfold State.saLost
  exact hs.countBy.raise.update

theorem State.Inv.saDrop (hs : s.Inv) : (s.saDrop n).Inv := .each hs (fun _ _ hx => hx.saLost)

theorem State.Inv.eraseOne (hs : s.Inv) : (s.eraseOne n).Inv := .ite hs.setSlot.saDrop hs

theorem State.Inv.eraseSlot (hs : s.Inv) : (s.eraseSlot n).Inv := by
  unfold State.eraseSlot
  exact .each hs.eraseOne (fun _ _ hx => hx.eraseOne.count.raise)

theorem State.Inv.settleSlot (hs : s.Inv) : (s.settleSlot n).Inv := by
  unfold State.settleSlot
  exact .ite hs.eraseSlot hs

theorem State.Inv.useSlot (hs : s.Inv) : (s.useSlot n).Inv := by
  unfold State.useSlot
  exact .ite hs.setSlot hs

theorem State.Inv.expireSlots (hs : s.Inv) : (s.expireSlots h).Inv := .each hs (fun _ _ hx => .ite hx.eraseSlot hx)

theorem State.Inv.zeroSlots (hs : s.Inv) : s.zeroSlots.Inv := by
  unfold State.zeroSlots
  exact .update (.each hs (fun _ _ hx => hx.saLost))

theorem State.Inv.putRec {v : Nat} (hs : s.Inv) : (s.putRec k v).Inv := by
  unfold State.putRec
  exact .onlyIf (.onlyIf hs.update (fun _ hx => hx.setFld)) (fun _ hx => hx.setBit.raise)

theorem State.Inv.fillSlot {k : Slot} (hs : s.Inv) : (s.fillSlot n k).Inv := by
  unfold State.fillSlot
  exact .setSlot (.onlyIf hs (fun _ hx => hx.eraseSlot))

theorem State.Inv.fillService (hs : s.Inv) : s.fillService.Inv :=
  .each hs (fun _ _ hx => (by split; exacts [.ite hx hx.fillSlot, hx]))

theorem State.Inv.ksAbort (hs : s.Inv) : s.ksAbort.Inv := by
  unfold State.ksAbort
  split
  exacts [.ite (.each hs.update.update (fun _ _ hx => hx.putRec)) hs.update, hs]

/-! ### Roles -/

theorem State.Inv.setHalfState {st : Nat} (hs : s.Inv) : (s.setHalfState h st).Inv := hs.setFld

theorem State.Inv.setReady (hs : s.Inv) : (s.setReady h).Inv := hs.setBit

theorem State.Inv.setTc {c : TileCtl} (hs : s.Inv) : (s.setTc t c).Inv := hs.update

theorem State.Inv.stopAgent (hs : s.Inv) : (s.stopAgent h).Inv := .each hs (fun _ _ hx => hx.setTc)

theorem State.Inv.secureOnly {f : State → State} (hs : s.Inv) (hf : ∀ u, u.Inv → (f u).Inv) :
    (s.secureOnly acc prim f).Inv := .ite (hf _ hs) hs.ownerViolFlag

theorem State.Inv.sessionOnly {f : State → State} (hs : s.Inv) (hf : ∀ u, u.Inv → (f u).Inv) :
    (s.sessionOnly acc prim f).Inv := .ite (hf _ hs) (by split; exacts [hs.ownerViolFlag, hs.ownerViolFlag.sbRefuse])

theorem State.Inv.setCause (hs : s.Inv) : (s.setCause h cause).Inv := hs.setFld

theorem State.Inv.activeLost (hs : s.Inv) : (s.activeLost h).Inv := hs.setCause.raise

theorem State.Inv.failActive (hs : s.Inv) : (s.failActive cause).Inv := by
  unfold State.failActive
  exact .ite (.ite hs hs.update) hs.activeLost

theorem State.Inv.silentAt {role : Nat} (hs : s.Inv) : (s.silentAt h role).Inv :=
  .ite hs (.ite hs.raise (.ite hs.failActive hs))

theorem State.Inv.setRole {role : Nat} {cause : Option Nat} (hs : s.Inv) : (s.setRole h role cause).Inv :=
  .ite hs
    (have e3 : State.Inv _ :=
       .onlyIf (.raise (.setFld (.onlyIf hs (fun _ hx => hx.setHalfSt)))) (fun _ hx => hx.raise)
     .silentAt (.setReady (.onlyIf (by split; exacts [e3.setCause, e3]) (fun _ hx => hx.stopAgent))))

theorem State.Inv.yieldActive (hs : s.Inv) : (s.yieldActive cause).Inv := by
  unfold State.yieldActive
  exact hs.countFld.failActive.update

theorem State.Inv.halfDown {yields : Bool} (hs : s.Inv) : (s.halfDown h yields).Inv := by
  unfold State.halfDown
  exact .onlyIf hs.setRole (fun _ hx => hx.yieldActive)

theorem State.Inv.bumpRoles (hs : s.Inv) : s.bumpRoles.Inv := .each hs (fun _ _ hx => hx.bumpGen)

theorem State.Inv.grantTo (hs : s.Inv) : (s.grantTo h cause).Inv := by
  unfold State.grantTo
  exact hs.update.setRole.setRole.setCause.bumpRoles.raise.raise.countFld.stamp.wrN.ev

theorem State.Inv.startRoles (hs : s.Inv) : s.startRoles.Inv := by
  unfold State.startRoles
  exact hs.update.setRole.setRole.setCause.setCause.setHalfState.setHalfState

/-! ### Stage -/

theorem State.Inv.setActState {v : Nat} (hs : s.Inv) : (s.setActState v).Inv := hs.hwP

theorem State.Inv.actResult {v : Nat} (hs : s.Inv) : (s.actResult v).Inv := hs.hwP.raise

theorem State.Inv.showStage (hs : s.Inv) : s.showStage.Inv := by
  unfold State.showStage
  exact .ite hs hs.hwP.raise

theorem State.Inv.setTarget {v : Nat} (hs : s.Inv) : (s.setTarget v).Inv := .showStage (.ite hs.update hs.update)

theorem State.Inv.stageRelease (hs : s.Inv) : s.stageRelease.Inv := .ite hs hs.update.setTarget

theorem State.Inv.endSessions {gone : Session → Bool} (hs : s.Inv) : (s.endSessions gone).Inv := by
  unfold State.endSessions
  exact .onlyIf (.onlyIf hs.update (fun _ hx => hx.raise)) (fun _ hx => hx.stageRelease)

theorem State.Inv.shepRestart (hs : s.Inv) : s.shepRestart.Inv := by
  unfold State.shepRestart
  exact hs.endSessions.update

theorem State.Inv.shepPor (hs : s.Inv) : s.shepPor.Inv := by
  unfold State.shepPor
  exact .ite hs.shepRestart.update.setActState.actResult hs.shepRestart.update

theorem State.Inv.openWindow (hs : s.Inv) : s.openWindow.Inv := .ite hs.update hs

theorem State.Inv.commitTrial (hs : s.Inv) : s.commitTrial.Inv := by
  unfold State.commitTrial
  exact hs.setActState.actResult.hwP.update.showStage

theorem State.Inv.healthOk (hs : s.Inv) : (healthOk acc v s).Inv := by
  unfold Machine.healthOk
  dsimp only
  split
  exacts [hs, .ite hs (have e1 : State.Inv _ := .onlyIf hs.setBit (fun _ hx => hx.raise); .ite e1.commitTrial e1)]

theorem State.Inv.minVersion (hs : s.Inv) : (minVersion acc v s).Inv := by
  unfold Machine.minVersion
  exact .ite hs.lockViol hs.writeP

theorem State.Inv.actGroup (hs : s.Inv) : (actGroup acc k v s).Inv := .ite hs.lockViol hs.writeP

/-! ### Resets -/

theorem State.Inv.setDevState {v : Nat} (hs : s.Inv) : (s.setDevState v).Inv := hs.setFld

theorem State.Inv.losePages {page : Page → Bool} {cls : Cls → Bool} (hs : s.Inv) : (s.losePages page cls).Inv :=
  hs.loseRegs

theorem State.Inv.losePathStat (hs : s.Inv) : (s.losePathStat h).Inv := hs.setFld

theorem State.Inv.losePartly (hs : s.Inv) : s.losePartly.Inv := by
  unfold State.losePartly
  exact .setBit (.each hs (fun _ _ hx => hx.losePathStat.setHalfState.setReady))

theorem State.Inv.loseHart (hs : s.Inv) : (s.loseHart h c).Inv := hs.update

theorem State.Inv.loseEc (hs : s.Inv) : (s.loseEc b).Inv := hs.update

theorem State.Inv.loseHarts (hs : s.Inv) : (s.loseHarts h).Inv := .loseEc (.each hs (fun _ _ hx => hx.loseHart))

theorem State.Inv.loseSwitch (hs : s.Inv) : s.loseSwitch.Inv := by
  unfold State.loseSwitch
  exact hs.loseEc.update

theorem State.Inv.losePorts {mine : Nat → Bool} (hs : s.Inv) : (s.losePorts mine).Inv := hs.update

theorem State.Inv.loseLinks (hs : s.Inv) : (s.loseLinks lo hi).Inv := .each hs (fun _ _ hx => hx.setBit)

theorem State.Inv.loseBlocks (hs : s.Inv) : (s.loseBlocks k).Inv := by
  unfold State.loseBlocks
  split
  exacts [hs.setHalfSt.loseHarts.update, hs.setHalfSt.loseHarts.update, hs.loseSwitch, hs.losePorts.loseLinks.update,
    hs.losePorts.loseLinks, hs.update, hs.ksAbort.zeroSlots.update,
    .update (.loseEc (.sumUp (.deriveStat (.onlyIf hs (fun _ hx => hx.setBusy.cmdResult))))), hs]

theorem State.Inv.loseDomain (hs : s.Inv) : (s.loseDomain k).Inv := by
  unfold State.loseDomain
  exact .onlyIf hs.losePages.loseBlocks (fun _ hx => hx.stageRelease)

theorem State.Inv.loseAll (hs : s.Inv) : s.loseAll.Inv := by
  unfold State.loseAll
  exact .update (.each hs.losePages.losePartly (fun _ _ hx => hx.loseBlocks))

theorem State.Inv.halfCause (hs : s.Inv) : (s.halfCause h cause).Inv := hs.setFld

theorem State.Inv.devCause (hs : s.Inv) : (s.devCause cause).Inv := hs.wrN

theorem State.Inv.resetPair (hs : s.Inv) : (s.resetPair x).Inv := by
  unfold State.resetPair
  exact .setFld (.onlyIf hs (fun _ hx => hx.setFld))

theorem State.Inv.loseHost (hs : s.Inv) : (s.loseHost h).Inv := by
  unfold State.loseHost
  exact .update (.loseRegs (.onlyIf hs (fun _ hx => hx.countBy.raise)))

theorem State.Inv.hrstLoss (hs : s.Inv) : (s.hrstLoss h).Inv := by
  unfold State.hrstLoss
  exact .each hs.losePages.losePages.losePathStat.expireSlots.loseHost.loseBlocks (fun _ _ hx => hx.resetPair)

theorem State.Inv.doSrst (hs : s.Inv) : (s.doSrst cause).Inv := by
  unfold State.doSrst
  exact .update (.hwCountP (.each hs.loseAll.setDevState.devCause (fun _ _ hx => hx.setFld)))

theorem State.Inv.doHrst (hs : s.Inv) : (s.doHrst h cause).Inv := by
  unfold State.doHrst
  exact hs.hrstLoss.halfCause.setHalfState.halfDown

theorem State.Inv.doCrst {core : Nat} (hs : s.Inv) : (s.doCrst h core cause).Inv :=
  .onlyIf hs.halfCause.loseHart (fun _ hx => hx.resetPair)

theorem State.Inv.reset? {k : Rst} (hs : s.Inv) : (s.reset? k cause).Inv :=
  .ite hs (by dsimp only; split; exacts [hs, hs.update.doSrst, .ite hs.update.doHrst hs, .ite hs.update.doCrst hs])

theorem State.Inv.doPor {cell : Bool} (hs : s.Inv) : (s.doPor cause cell).Inv := by
  unfold State.doPor
  exact .shepPor
      (.onlyIf
         (.update
            (.each hs.loseAll.losePages.setBit.update.devCause.hwCountP.hwCountP.wrN (fun _ _ hx => hx.hwCountP)))
         (fun _ hx => hx.update))

/-! ### Interrupts -/

theorem State.Inv.mworldWrite {machine : Bool} (hs : s.Inv) : (mworldWrite h c machine v s).Inv :=
  .ite hs.answer.update hs.answer

theorem State.Inv.smrWrite {r : Nat} {lim : Bool} (hs : s.Inv) : (smrWrite acc h r lim v s).Inv :=
  .secureOnly hs (fun _ hx => hx.wr)

theorem State.Inv.syncSrc (hs : s.Inv) : (s.syncSrc h n).Inv := .ite hs hs.setBit

theorem State.Inv.signal {f : State → State} (hs : s.Inv) (hf : ∀ u, u.Inv → (f u).Inv) : (s.signal h f).Inv := by
  unfold State.signal
  exact .foldl (hf _ hs) (fun _ _ hx => .foldl hx (fun _ _ hy => .onlyIf hy (fun _ hz => hz.emit)))

theorem State.Inv.secRefuse (hs : s.Inv) : (s.secRefuse h).Inv := hs.count.raise

theorem State.Inv.srccfgWrite (hs : s.Inv) : (srccfgWrite acc h n v s).Inv := by
  unfold Machine.srccfgWrite
  exact .ite hs.secRefuse (.signal hs (fun _ hx => .ite hx.setFld.wrN hx.wr))

theorem State.Inv.irqLineChange (hs : s.Inv) : (irqLineChange h n s).Inv := by
  unfold Machine.irqLineChange
  exact .ite hs.syncSrc hs.syncSrc.emit

theorem State.Inv.claimRead {sec : Bool} (hs : s.Inv) : (claimRead acc h c sec s).Inv :=
  .ite hs.answer
    (.ite hs.answer (.answer (.onlyIf (.signal hs (fun _ hx => hx.setBit.setBit)) (fun _ hx => hx.evHalf))))

theorem State.Inv.completeWrite {sec : Bool} (hs : s.Inv) : (completeWrite acc h c sec v s).Inv := by
  unfold Machine.completeWrite
  exact .ite hs (.ite (.signal hs (fun _ hx => hx.setBit.syncSrc)) hs.count.raise)

theorem State.Inv.sgiWrite (hs : s.Inv) : (sgiWrite acc h v s).Inv := by
  unfold Machine.sgiWrite
  exact .ite hs (.ite hs.secRefuse (.signal hs (fun _ hx => hx.setBit)))

theorem State.Inv.hartWorld (hs : s.Inv) : (s.hartWorld h c).2.Inv := .ite_snd hs hs.update

theorem State.Inv.setHart {d : HartDbg} (hs : s.Inv) : (s.setHart k d).Inv := hs.update

theorem State.Inv.followDbg (hs : s.Inv) : (s.followDbg k).Inv := .ite hs hs.setHart

theorem State.Inv.dbgEnWrite (hs : s.Inv) : (dbgEnWrite acc v s).Inv :=
  .sessionOnly hs (fun _ hx => .each (.onlyIf hx.writeP (fun _ hy => hy.lockViol)) (fun _ _ hy => hy.followDbg))

theorem State.Inv.dbgLockWrite (hs : s.Inv) : (dbgLockWrite acc v s).Inv :=
  .sessionOnly hs (fun _ hx => .onlyIf hx.writeP (fun _ hy => hy.lockViol))

theorem State.Inv.haltRequest {sec : Bool} (hs : s.Inv) : (haltRequest h c sec s).Inv := by
  unfold Machine.haltRequest
  exact .ite hs hs.setHart.followDbg

theorem State.Inv.bankEnWrite (hs : s.Inv) : (bankEnWrite k v s).Inv := hs.ecDriftAll.wrN

theorem State.Inv.cntWrite {f : State → State} (hs : s.Inv) (hf : ∀ u, u.Inv → (f u).Inv) :
    (s.cntWrite acc k i f).Inv := .ite hs (.ite hs.lockedWrite (hf _ hs))

theorem State.Inv.cntHiWrite (hs : s.Inv) : (cntHiWrite acc k i v s).Inv := .cntWrite hs (fun _ hx => hx.update)

theorem State.Inv.cntLoWrite (hs : s.Inv) : (cntLoWrite acc k i v s).Inv := .cntWrite hs (fun _ hx => hx.ecPut)

theorem State.Inv.counterOverflow (hs : s.Inv) : (counterOverflow k i s).Inv := .ite hs.ecPut.ecOne hs

theorem State.Inv.readCntLo (hs : s.Inv) : (s.readCntLo k i).2.Inv := by
  unfold State.readCntLo
  exact hs.ecDrift.update

/-! ### CodeStore -/

theorem State.Inv.codePut (hs : s.Inv) : (s.codePut h off l).Inv := hs.update

theorem State.Inv.codeWrite {sec : Bool} (hs : s.Inv) : (codeWrite h sec addr off l s).Inv :=
  .ite hs.answer hs.codePut.answer

theorem State.Inv.codeRead {sec : Bool} (hs : s.Inv) : (codeRead h sec addr off size s).Inv :=
  .ite hs.answer hs.answer

theorem State.Inv.stagePut (hs : s.Inv) : (s.stagePut off l).Inv := hs.codePut.codePut

/-! ### Monitor -/

theorem State.Inv.monYield (hs : s.Inv) : (s.monYield h).Inv := by
  unfold State.monYield
  exact .ite hs.setHalfSt.stopAgent.yieldActive (.ite hs.setRole hs)

theorem State.Inv.react {src : Nat} {info : Word} {r : Nat} (hs : s.Inv) : (s.react src info r).Inv := by
  unfold State.react
  exact have e1 : State.Inv _ := .onlyIf hs (fun _ hx => hx.raise)
    .ite e1.reset? <| by
      split
      · exact e1
      · exact .onlyIf (.onlyIf (.ite (by split; exacts [e1.reset?, e1]) e1) (fun _ hx => hx.monYield)) fun _ hx => hx.reset?

theorem State.Inv.recordAs {src : Nat} {info : Word} {inj dry : Bool} (hs : s.Inv) :
    (s.recordAs src info inj dry).Inv :=
  .ite hs (.react (.onlyIf hs.setBit.count.ev.wrN.wr (fun _ hx => hx.wrN.wr.stamp)))

theorem State.Inv.record {src : Nat} {info : Word} (hs : s.Inv) : (s.record src info).Inv := hs.recordAs

theorem State.Inv.safeInject (hs : s.Inv) : (safeInject v s).Inv := .ite hs.update.recordAs hs

theorem State.Inv.pathPersist (hs : s.Inv) : (pathPersist h s).Inv := .ite hs.record hs

theorem State.Inv.ceWindow (hs : s.Inv) : (ceWindow h s).Inv := by
  unfold Machine.ceWindow
  exact .ite hs.update.record hs.update

theorem State.Inv.diverge {lane : Nat} (hs : s.Inv) : (s.diverge x lane).Inv := by
  unfold State.diverge
  exact hs.setBit.wrN.record

theorem State.Inv.lsDivergence {lane main checker : Nat} (hs : s.Inv) : (lsDivergence x lane main checker s).Inv := by
  unfold Machine.lsDivergence
  exact .ite hs (.ite (.onlyIf hs (fun _ hx => hx.emit)) (.diverge (.onlyIf hs (fun _ hx => hx.setBit.setFld))))

theorem State.Inv.lsUe {array : Nat} {checker : Bool} (hs : s.Inv) : (lsUe x array checker addr s).Inv :=
  .ite hs hs.setBit.record

theorem State.Inv.correctable (hs : s.Inv) : (correctable x s).Inv := by
  unfold Machine.correctable
  exact hs.count.update

theorem State.Inv.scrubStart (hs : s.Inv) : (scrubStart x s).Inv := .ite hs hs.setBit

theorem State.Inv.scrubGo (hs : s.Inv) : (scrubGo x v s).Inv := .ite hs.scrubStart hs

theorem State.Inv.scrubAuto (hs : s.Inv) : (scrubAuto x s).Inv := .ite hs hs.scrubStart

theorem State.Inv.scrubCompare {main checker : List Word} (hs : s.Inv) : (scrubCompare x main checker s).Inv := by
  unfold Machine.scrubCompare
  exact .ite hs (.ite hs.setBit.wr.count.setFld.raise.evHalf hs.setBit.setFld.diverge)

theorem State.Inv.lsInject (hs : s.Inv) : (lsInject x v s).Inv := by
  unfold Machine.lsInject
  exact .ite hs hs.wrN.wrN.raise

theorem State.Inv.lsInjectWrite (hs : s.Inv) : (lsInjectWrite acc x v s).Inv :=
  .secureOnly hs (fun _ hx => hx.lsInject)

/-! ### Frames -/

theorem State.Inv.setHostTx {l : List HostFrame} (hs : s.Inv) : (s.setHostTx h l).Inv := .ite hs.update hs.update

theorem State.Inv.spanSend {unit cls sender : Nat} {pay : List Nat} (hs : s.Inv) :
    (s.spanSend h unit cls sender pay).Inv := hs.setHostTx

theorem State.Inv.setHostRx {l : List RxItem} (hs : s.Inv) : (s.setHostRx h l).Inv := .ite hs.update hs.update

/-! ### Holds -/

theorem State.Inv.setAdc {a : Adc} (hs : s.Inv) : (s.setAdc t a).Inv := hs.update

theorem State.Inv.assign {h : Hold} (hs : s.Inv) : (s.assign t h).Inv := hs.setAdc

theorem State.Inv.slip (hs : s.Inv) : s.slip.Inv := hs.count.raise.ev

theorem State.Inv.sampleOn {sel ev : Nat} {late : Bool} {proj : Option Nat} (hs : s.Inv) :
    (s.sampleOn t sel ev inst late proj).Inv := by
  unfold State.sampleOn
  exact .assign (.onlyIf (.ite_snd hs (by split; exacts [hs, hs.update])) (fun _ hx => hx.slip))

theorem State.Inv.bgNext (hs : s.Inv) : (s.bgNext t).Inv := by
  unfold State.bgNext
  exact .ite hs (by split; exacts [hs.setAdc.setBit, .ite hs.setAdc.assign hs])

theorem State.Inv.capStart {t0 : Nat} (hs : s.Inv) : (s.capStart t t0).Inv := by
  unfold State.capStart
  exact .each hs.setFld.setBit.stamp.setAdc (fun _ _ hx => .assign (.onlyIf hx (fun _ hy => hy.slip)))

theorem State.Inv.capNow (hs : s.Inv) : (s.capNow t).Inv := by
  unfold State.capNow
  exact hs.capStart

theorem State.Inv.capClock {on : Bool} (hs : s.Inv) : (s.capClock on).Inv := by
  unfold State.capClock
  dsimp only
  split
  exacts [hs.update, .each hs.update (fun _ _ hx => .ite hx.setAdc (.ite hx.capNow hx)), hs]

theorem State.Inv.capEdge (hs : s.Inv) : (s.capEdge n inst).Inv := by
  unfold State.capEdge
  exact .ite hs.capStart hs

/-! ### Lines -/

theorem State.Inv.emitLine {lv : Bool} {t16 : Nat} (hs : s.Inv) : (s.emitLine n lv t16).Inv := by
  unfold State.emitLine
  exact .onlyIf hs.update.emit.ev (fun _ hx => hx.count.raise.ev)

theorem State.Inv.setLevel {lv : Bool} (hs : s.Inv) : (s.setLevel n lv inst).Inv :=
  .onlyIf hs.setBit (fun _ hx => hx.capEdge)

theorem State.Inv.putLine {lv : Bool} (hs : s.Inv) : (s.putLine n lv inst).Inv :=
  .ite hs (.ite hs.emitLine.slip hs.emitLine)

theorem State.Inv.driveLine {lv act : Bool} (hs : s.Inv) : (s.driveLine n lv inst act).Inv := by
  unfold State.driveLine
  exact .ite hs.setLevel.slip hs.setLevel.putLine

theorem State.Inv.lineWrite {w : Nat} {lv : Bool} (hs : s.Inv) : (lineWrite acc w lv v s).Inv :=
  .each hs (fun _ _ hx => .ite hx.driveLine hx.ownerFail)

theorem State.Inv.markOver (hs : s.Inv) : s.markOver.Inv := by
  unfold State.markOver
  exact hs.update

theorem State.Inv.gateWrite {w : Nat} (hs : s.Inv) : (gateWrite w v s).Inv := by
  unfold Machine.gateWrite
  exact hs.wr.markOver

theorem State.Inv.setGate {p : Nat} {b : Bool} (hs : s.Inv) : (s.setGate p q b).Inv := hs.update.setBit.markOver

theorem State.Inv.armSlot (hs : s.Inv) : (s.armSlot k j).Inv := by
  unfold State.armSlot
  exact hs.wrN.wr.wrN.wrN

theorem State.Inv.toArm (hs : s.Inv) : (toArm k v s).Inv :=
  .each hs (fun _ _ hx => hx.armSlot.commitPlaced.showPlaced)

theorem State.Inv.toDisarm (hs : s.Inv) : (toDisarm k v s).Inv :=
  .each hs (fun _ _ hx => hx.setArm.commitPlaced.showPlaced)

theorem State.Inv.toCtrlWrite (hs : s.Inv) : (toCtrlWrite k v s).Inv := hs.setBit.toDisarm.toArm

theorem State.Inv.slotDone {replaced : Bool} (hs : s.Inv) : (s.slotDone i replaced).Inv := by
  unfold State.slotDone
  exact have e1 : State.Inv _ := hs.setBit.raise.ev; .ite e1.wrN.wrN.armSlot e1

theorem State.Inv.toEdge {was : State} (hs : s.Inv) : (s.toEdge was k).Inv := .onlyIf hs (fun _ hx => hx.emit)

theorem State.Inv.setPulse {e : Option Nat} (hs : s.Inv) : (s.setPulse k e).Inv := hs.update.toEdge

theorem State.Inv.pulseEnd (hs : s.Inv) : (pulseEnd k s).Inv := by
  unfold Machine.pulseEnd
  split
  exacts [.ite hs.setPulse hs, hs]

theorem State.Inv.finishAct {q : Placed} (hs : s.Inv) : (s.finishAct q).Inv := by
  unfold State.finishAct
  exact .onlyIf hs.update.showPlaced.ev.afterAct (fun _ hx => hx.slotDone)

theorem State.Inv.runAct {a : Nat} {f : State → Placed → State} (hs : s.Inv) (hf : ∀ u x, u.Inv → (f u x).Inv) :
    (s.runAct i a f).Inv := by
  unfold State.runAct
  split
  exacts [hs, .ite hs.update.setArm.ownerFail (hf _ _ hs)]

theorem State.Inv.lineAct {a : Nat} (hs : s.Inv) : (lineAct a i s).Inv :=
  .runAct hs fun _ _ hx => have e2 : State.Inv _ := .each hx.update (fun _ _ hy => hy.driveLine); .ite e2.finishAct e2

theorem State.Inv.actGate {q : Placed} {b : Bool} (hs : s.Inv) : (s.actGate q b).Inv :=
  .onlyIf hs (fun _ hx => hx.setGate)

theorem State.Inv.openAct (hs : s.Inv) : (openAct i s).Inv := .runAct hs (fun _ _ hx => hx.actGate.ev.finishAct)

theorem State.Inv.pulseAct (hs : s.Inv) : (pulseAct i s).Inv := .runAct hs (fun _ _ hx => hx.setPulse.finishAct)

theorem State.Inv.irqAct (hs : s.Inv) : (irqAct i s).Inv :=
  .runAct hs (fun _ _ hx => .finishAct (.onlyIf hx.setBit.evirqRaise.ev (fun _ hy => hy.evirqSnap)))

theorem State.Inv.chainAct (hs : s.Inv) : (chainAct i s).Inv :=
  .runAct hs (fun _ _ hx => .finishAct (.onlyIf hx (fun _ hy => hy.setArm.bind)))

/-! ### Tile -/

theorem State.Inv.setTile {m : Tile} (hs : s.Inv) : (s.setTile t m).Inv := hs.update

theorem State.Inv.setChan {m : ChanT} (hs : s.Inv) : (s.setChan n m).Inv := hs.update

theorem State.Inv.setLeash {cur holder state : Nat} (hs : s.Inv) : (s.setLeash t cur holder state).Inv := hs.wrN

theorem State.Inv.setPs {b : Bool} (hs : s.Inv) : (s.setPs n i b).Inv := hs.setBit

theorem State.Inv.setDh {b : Bool} (hs : s.Inv) : (s.setDh n i b).Inv := hs.setBit

theorem State.Inv.seeFault (hs : s.Inv) : (s.seeFault t).Inv := by
  unfold State.seeFault
  exact .ite hs.setTile.ev.record hs.setTile

theorem State.Inv.regulate (hs : s.Inv) : (s.regulate n).Inv :=
  .ite (.onlyIf hs.update.setPs (fun _ hx => hx.emit)) hs.setPs

theorem State.Inv.settleChan (hs : s.Inv) : (s.settleChan n).Inv := by
  unfold State.settleChan
  exact .setFld
      (.regulate
         (.onlyIf (.ite hs.setChan.emit (.ite (.onlyIf hs.setChan.emit.update (fun _ hx => hx.count)) hs))
            (fun _ hx => hx.setChan)))

theorem State.Inv.settleTile (hs : s.Inv) : (s.settleTile t).Inv := .seeFault (.each hs (fun _ _ hx => hx.settleChan))

theorem State.Inv.settleOne (hs : s.Inv) : (s.settleOne n).Inv := hs.settleChan.seeFault

theorem State.Inv.restartRule (hs : s.Inv) : (s.restartRule n).Inv := by
  unfold State.restartRule
  exact .ite hs
      (.ite (.ite hs hs.setChan.countFld)
         (.ite hs.setChan.setPs.setPs hs.setChan.setFld.setDh.setPs.setChan.countFld))

theorem State.Inv.trip {thermal : Bool} (hs : s.Inv) : (s.trip n cause thermal).Inv := by
  unfold State.trip
  exact hs.setPs.setFld.countFld.setChan

theorem State.Inv.ocTrip {out : Nat} (hs : s.Inv) : (s.ocTrip n cause out).Inv := by
  unfold State.ocTrip
  exact .settleOne (.trip (.onlyIf hs.setDh.setPs (fun _ hx => hx.setDh)))

theorem State.Inv.fastTrip {ma out : Nat} (hs : s.Inv) : (fastTrip n ma out s).Inv :=
  .ite hs (.ite hs.reaches.ocTrip hs.reaches)

theorem State.Inv.digitalTrip {ma out : Nat} (hs : s.Inv) : (digitalTrip n ma out s).Inv :=
  .ite hs (.ite hs.reaches.ocTrip hs.reaches)

theorem State.Inv.inrushClose (hs : s.Inv) : (inrushClose n s).Inv := hs.setChan.settleOne

theorem State.Inv.junction {t : Int} (hs : s.Inv) : (s.junction t).2.Inv := hs.update

theorem State.Inv.judgeTemp {x : Int} (hs : s.Inv) : (s.judgeTemp n x).Inv := by
  unfold State.judgeTemp
  exact .ite hs.setPs.setPs.setDh (.ite hs.setPs.setPs hs.setPs)

theorem State.Inv.unrestart (hs : s.Inv) : (s.unrestart n).Inv := by
  unfold State.unrestart
  split
  exacts [.ite hs.setFld.setPs.setDh.wr hs, hs]

theorem State.Inv.thermalLatch {t : Int} (hs : s.Inv) : (thermalLatch n t s).Inv := by
  unfold Machine.thermalLatch
  exact .ite hs.update.unrestart.judgeTemp.setPs.trip.settleOne hs.update

theorem State.Inv.junctionThreshold {t : Int} (hs : s.Inv) : (junctionThreshold n t s).Inv := by
  unfold Machine.junctionThreshold
  exact .ite hs.update.judgeTemp.settleOne hs.update

theorem State.Inv.retryExpiry (hs : s.Inv) : (retryExpiry n s).Inv := .ite hs.setChan.restartRule.settleOne hs

theorem State.Inv.cleanExpiry (hs : s.Inv) : (cleanExpiry n s).Inv := .ite hs.setFld.setChan.settleOne hs

theorem State.Inv.clrTh (hs : s.Inv) : (s.clrTh n).Inv := .ite hs.setPs hs.setPs

theorem State.Inv.clrOc (hs : s.Inv) : (s.clrOc n).Inv := .onlyIf hs.setDh (fun _ hx => hx.setPs)

theorem State.Inv.clrRetry (hs : s.Inv) : (s.clrRetry n).Inv := hs.setPs.setDh.setPs.setFld

theorem State.Inv.clrDiag (hs : s.Inv) : (s.clrDiag n).Inv := hs.setFld.setFld.setPs

theorem State.Inv.protClr (hs : s.Inv) : (s.protClr n v).1.Inv := by
  unfold State.protClr
  exact .settleOne
      (.restartRule
         (.onlyIf
            (.onlyIf (.onlyIf (.onlyIf hs (fun _ hx => hx.clrTh)) (fun _ hx => hx.clrOc)) (fun _ hx => hx.clrRetry))
            (fun _ hx => hx.clrDiag)))

theorem State.Inv.protClrBit (hs : s.Inv) : (protClrBit n v s).Inv := .ite hs.protClr hs

theorem State.Inv.olOn {ua : Nat} (hs : s.Inv) : (olOn n ua s).Inv :=
  .ite hs (.settleOne (.ite hs.reaches.setPs hs.reaches.setPs.setDh))

theorem State.Inv.revDetect {ma : Nat} (hs : s.Inv) : (revDetect n ma s).Inv :=
  .ite hs (.ite hs.setPs.setDh.settleOne (.ite hs.setPs.settleOne hs))

theorem State.Inv.offDiagStart (hs : s.Inv) : (offDiagStart n s).Inv := .ite hs.setChan hs

theorem State.Inv.offDiagEnd1 {out : Nat} (hs : s.Inv) : (offDiagEnd1 n out s).Inv :=
  .ite hs (.ite hs.reaches.setPs.setDh.setChan.settleOne hs.reaches.setChan)

theorem State.Inv.offDiagEnd2 {out : Nat} (hs : s.Inv) : (offDiagEnd2 n out s).Inv :=
  .ite hs (.settleOne (.setChan (.onlyIf hs.reaches.setPs.setPs (fun _ hx => hx.setDh))))

theorem State.Inv.diagCfg (hs : s.Inv) : (s.diagCfg n v).Inv := by
  unfold State.diagCfg
  exact .onlyIf (.onlyIf hs.wr (fun _ hx => hx.setPs)) (fun _ hx => hx.setPs)

theorem State.Inv.tileWrite_some {unit : Nat} {r : State × Word} (hs : s.Inv) (e : s.tileWrite t unit off v = some r) :
    r.1.Inv := by
  have put (m j : Nat) (w : Word) : ((s.wr (tk m j) w).settleOne m).Inv := hs.wr.settleOne
  unfold State.tileWrite at e
  split_ifs at e <;> cases e
  exacts [hs.wrN, put .., put .., put .., put .., put .., hs.diagCfg.settleOne, put .., hs.protClr]

theorem State.Inv.tileReply {q : TclReq} {r : TclRep} (hs : s.Inv) : (s.tileReply t q r).Inv := by
  unfold State.tileReply
  exact hs.setTile.emit

theorem State.Inv.tileStatus {q : TclReq} (hs : s.Inv) : (s.tileStatus t q).Inv := hs.tileReply

theorem State.Inv.tileNack {q : TclReq} {reason : Nat} (hs : s.Inv) : (s.tileNack t q reason).Inv := hs.tileReply

theorem State.Inv.take {cur holder : Nat} {q : TclReq} (hs : s.Inv) : (s.take t cur holder q).Inv := by
  unfold State.take
  exact hs.setTile.setLeash.settleTile.tileStatus

theorem State.Inv.tileAct {q : TclReq} (hs : s.Inv) : (s.tileAct t q).Inv := by
  unfold State.tileAct
  exact .ite hs.tileNack
      (.ite hs.tileNack
         (by
           split
           · exact .ite hs.tileNack (.ev (.ite hs.take hs.tileStatus))
           · exact .ite hs.tileNack (.ite hs.take hs.tileNack)
           · exact .ite hs.take hs.tileNack
           · exact .ite hs.tileNack (by split; exacts [.tileReply (.tileWrite_some hs ‹_›), hs.tileNack])
           · split
             exacts [hs.tileReply, hs.tileNack]
           · exact .ite hs.setTile.setLeash.settleTile.tileStatus hs.tileNack
           · exact .ite hs.tileNack (.ite hs.tileNack hs.tileStatus.setTile)))

theorem State.Inv.tclFrame {q : TclReq} (hs : s.Inv) : (s.tclFrame t q).Inv := by
  unfold State.tclFrame
  exact .ite hs (.ite (by split; exacts [hs.emit, hs]) hs.tileAct)

theorem State.Inv.tclBadFrame {octs : List Nat} (hs : s.Inv) : (tclBadFrame t octs s).Inv :=
  .ite hs (by split; exacts [hs.tclFrame, hs.countFld])

theorem State.Inv.storedDiscard (hs : s.Inv) : (storedDiscard t s).Inv := hs.setTile

theorem State.Inv.stayEntry (hs : s.Inv) : (stayEntry t s).Inv := .ite hs.setTile.setLeash.settleTile hs

theorem State.Inv.lossEntry (hs : s.Inv) : (lossEntry t s).Inv := .ite hs.setLeash.settleTile hs

theorem State.Inv.takeNow (hs : s.Inv) : (s.takeNow t).Inv := by
  unfold State.takeNow
  split
  exacts [hs.setTile.settleTile, hs]

theorem State.Inv.tileReset (hs : s.Inv) : (s.tileReset t).Inv := by
  unfold State.tileReset
  exact .seeFault (.each hs.loseRegs.setTile.settleTile (fun _ _ hx => hx.setChan))

theorem State.Inv.trstEffect (hs : s.Inv) : (trstEffect t s).Inv := .ite hs.tileReset hs

theorem State.Inv.powerUp {mv : Nat} (hs : s.Inv) : (powerUp t mv s).Inv := .ite hs.setTile.seeFault hs

theorem State.Inv.brownout {mv : Nat} (hs : s.Inv) : (brownout t mv s).Inv := .ite hs.tileReset.setTile.seeFault hs

theorem State.Inv.bandChange {mv : Nat} (hs : s.Inv) : (bandChange t mv s).Inv := by
  unfold Machine.bandChange
  exact .ite hs.setTile.settleTile hs.setTile

theorem State.Inv.supplySample (hs : s.Inv) : (supplySample t i s).Inv := by
  unfold Machine.supplySample
  exact .ite hs.setTile hs

theorem State.Inv.lhAgree (hs : s.Inv) : s.lhAgree.Inv := .each hs (fun _ _ hx => .onlyIf hx (fun _ hy => hy.setBit))

theorem State.Inv.lhChange {lv : Bool} (hs : s.Inv) : (lhChange t i lv s).Inv :=
  .ite (.ite hs.setBit.lhAgree.distNow hs) (.ite hs.setTile.settleTile hs)

theorem State.Inv.inEdge (hs : s.Inv) : (inEdge n s).Inv := by
  unfold Machine.inEdge
  split
  exacts [hs, .ite hs.update.setTile.settleOne hs.update.setTile]

/-! ### TileCtl -/

theorem State.Inv.syncChan (hs : s.Inv) : (s.syncChan n).Inv := by
  unfold State.syncChan
  exact .onlyIf hs.setBit (fun _ hx => hx.raise)

theorem State.Inv.polSync (hs : s.Inv) : (s.polSync t).Inv := by
  unfold State.polSync
  exact .setBit (.each hs (fun _ _ hx => hx.syncChan))

theorem State.Inv.refreshChan (hs : s.Inv) : (s.refreshChan n).Inv := by
  unfold State.refreshChan
  exact hs.setUnit.setBlockStat.refreshUp

theorem State.Inv.putChStat (hs : s.Inv) : (s.putChStat n v).Inv := by
  unfold State.putChStat
  exact .refreshChan (.wr (.onlyIf hs (fun _ hx => hx.raise)))

theorem State.Inv.reSrc (hs : s.Inv) : (s.reSrc n).Inv := hs.putChStat

theorem State.Inv.ioChan (hs : s.Inv) : (s.ioChan n).Inv := by
  unfold State.ioChan
  exact hs.putChStat

theorem State.Inv.takeInstant (hs : s.Inv) : (takeInstant t s).Inv :=
  .ite (.onlyIf hs.takeNow (fun _ hx => .each hx (fun _ _ hy => hy.reSrc))) hs

theorem State.Inv.mirFaults (hs : s.Inv) : (s.mirFaults t).Inv := by
  unfold State.mirFaults
  exact hs.setFld.wrN

theorem State.Inv.tcSend {e : TcEntry} (hs : s.Inv) : (s.tcSend t e).Inv := by
  unfold State.tcSend
  exact hs.setTc.emit.ev

theorem State.Inv.tcPump {fuel : Nat} (hs : s.Inv) : (s.tcPump fuel t).Inv := by
  induction fuel generalizing s with
  | zero => exact hs
  | succ fuel ih => exact .ite hs (by split; exacts [ih hs.setTc.tcSend, hs])

theorem State.Inv.pump (hs : s.Inv) : (s.pump t).Inv := by
  unfold State.pump
  exact .tcPump (.onlyIf hs (fun _ hx => hx.setTc))

theorem State.Inv.ctlPush {q : TclReq} {why : TcWhy} (hs : s.Inv) : (s.ctlPush t q why).Inv := hs.setTc.pump

theorem State.Inv.rwPush {q : TclReq} {why : TcWhy} (hs : s.Inv) : (s.rwPush t q why).Inv := hs.setTc.pump

theorem State.Inv.rwOwn {q : TclReq} {why : TcWhy} (hs : s.Inv) : (s.rwOwn t q why).Inv := hs.setTc.pump

theorem State.Inv.rwAccess {q : TclReq} {why : TcWhy} (hs : s.Inv) : (s.rwAccess t q why).Inv :=
  .ite hs.answer hs.rwPush

theorem State.Inv.claimResult {src r : Nat} (hs : s.Inv) : (s.claimResult src t r).Inv := by
  unfold State.claimResult
  exact .ite (.onlyIf hs.setFld.setBit.raise (fun _ hx => hx.raise)) hs.setFld

theorem State.Inv.readEnds {r : Resp} (hs : s.Inv) : (s.readEnds acc r).Inv := by
  unfold State.readEnds
  split
  exacts [hs.sbRefuse, hs.answer]

theorem State.Inv.serveEnds {again : Bool} {r : Resp} (hs : s.Inv) : (s.serveEnds t acc addr again r).Inv :=
  .ite hs.readEnds (.ite hs hs.update)

theorem State.Inv.tcFail {e : TcEntry} {reason : Nat} (hs : s.Inv) : (s.tcFail t e reason).Inv := by
  unfold State.tcFail
  dsimp only
  split
  exacts [hs.wrN.count.raise.setBusy.cmdResult, hs.wrN.count.raise.serveEnds,
    .ite hs.wrN.count.raise.claimResult.rwOwn hs.wrN.count.raise.claimResult, hs.wrN.count.raise.claimResult,
    hs.wrN.count.raise]

theorem State.Inv.leashLost (hs : s.Inv) : (s.leashLost t h).Inv := hs.setTc.raise

theorem State.Inv.report {r : TclRep} (hs : s.Inv) : (s.report t r).Inv := by
  unfold State.report
  exact .each
      (.onlyIf
         (.onlyIf
            (.onlyIf (.onlyIf hs (fun _ hx => hx.setBit.setBit))
               (fun _ hx => .onlyIf hx.setBlockStat.ev (fun _ hy => hy.raise)))
            (fun _ hx => hx.setBit.raise))
         (fun _ hx => hx.setBit.raise.setFld))
      (fun _ _ hx => .onlyIf hx (fun _ hy => hy.leashLost))

theorem State.Inv.mirReply {r : TclRep} (hs : s.Inv) : (s.mirReply t r).Inv := by
  unfold State.mirReply
  exact .each (.onlyIf hs.wrN (fun _ hx => hx.setTc)) (fun _ _ hx => hx.putChStat)

theorem State.Inv.adoptImage {out : Nat} (hs : s.Inv) : (s.adoptImage t out).Inv := by
  unfold State.adoptImage
  exact .each (.onlyIf hs (fun _ hx => .setTc (.each hx (fun _ _ hy => hy.setLevel)))) (fun _ _ hx => hx.putLine)

theorem State.Inv.copyPolicies (hs : s.Inv) : (s.copyPolicies t m).Inv := by
  unfold State.copyPolicies
  exact .each hs.rwOwn (fun _ _ hx => hx.rwOwn)

theorem State.Inv.claimDone {e : TcEntry} {r : TclRep} (hs : s.Inv) : (s.claimDone t e r).Inv := by
  unfold State.claimDone
  exact have e2 : State.Inv _ := .onlyIf hs.setTc.raise.adoptImage (fun _ hx => hx.copyPolicies)
    (by dsimp only; split; exacts [e2.claimResult, e2])

theorem State.Inv.trstDone (hs : s.Inv) : (s.trstDone t).Inv := by
  unfold State.trstDone
  exact .polSync
      (.each (.onlyIf (.setTc (.each hs.losePages (fun _ _ hx => hx.setBit))) (fun _ hx => hx.setBlockStat.ev))
         (fun _ _ hx => hx.reSrc))

theorem State.Inv.tcReply {r : TclRep} {k : State → TcEntry → State} (hs : s.Inv) (hf : ∀ u x, u.Inv → (k u x).Inv) :
    (s.tcReply t r k).Inv := by
  unfold State.tcReply
  dsimp only
  split
  exacts [hs.report, .pump (hf _ _ (.mirReply (.onlyIf hs.report.setTc (fun _ hx => hx.leashLost))))]

theorem State.Inv.replyStatus {r : TclRep} (hs : s.Inv) : (replyStatus t r s).Inv :=
  .tcReply hs (fun _ _ hx => .ite hx.claimDone (.ite hx.trstDone hx))

theorem State.Inv.protIrqs {was : State} (hs : s.Inv) : (s.protIrqs n was).Inv := by
  unfold State.protIrqs
  exact .onlyIf
      (.onlyIf
         (.onlyIf
            (.onlyIf
               (.onlyIf (.onlyIf (.onlyIf hs (fun _ hx => hx.raise)) (fun _ hx => hx.raise)) (fun _ hx => hx.raise))
               (fun _ hx => hx.raise))
            (fun _ hx => hx.raise))
         (fun _ hx => hx.raise))
      (fun _ hx => hx.raise)

theorem State.Inv.enterChan (hs : s.Inv) : (s.enterChan n off v).Inv := hs.wr.protIrqs.reSrc.mirFaults

theorem State.Inv.enter? {unit : Nat} (hs : s.Inv) : (s.enter? t unit off v).Inv :=
  .ite (.ite hs.wr (.ite hs.setFld (.ite hs (.ite (.each hs.wr (fun _ _ hx => hx.ioChan)) hs.wr))))
    (.ite hs.setFld.ioChan (.ite hs (.ite hs.putChStat hs.enterChan)))

theorem State.Inv.replyAck {r : TclRep} (hs : s.Inv) : (replyAck t r s).Inv :=
  .tcReply hs (fun _ _ hx => (by dsimp only; split; exacts [hx.enter?.polSync.setBusy.cmdResult, hx.enter?.polSync]))

theorem State.Inv.replyData {r : TclRep} (hs : s.Inv) : (replyData t r s).Inv :=
  .tcReply hs fun _ _ hx =>
    (by dsimp only; split; exacts [hx.enter?.polSync.serveEnds, hx.enter?.polSync.tcSend, hx.enter?.polSync])

theorem State.Inv.replyNack {r : TclRep} (hs : s.Inv) : (replyNack t r s).Inv :=
  .tcReply hs (fun _ _ hx => .tcFail (.ev (.onlyIf hx (fun _ hy => hy.leashLost))))

theorem State.Inv.tcLinkDown (hs : s.Inv) : (s.tcLinkDown t).Inv := by
  unfold State.tcLinkDown
  exact hs.setBit.raise.record

theorem State.Inv.replyTimeout {seq : Nat} {began : Option (List Nat)} (hs : s.Inv) :
    (replyTimeout t seq began s).Inv := by
  unfold Machine.replyTimeout
  dsimp only
  split
  · exact hs
  · exact .ite hs
        (have e1 : State.Inv _ := .onlyIf hs (fun _ hx => hx.countFld)
         .ite e1.setTc.emit (.pump (.onlyIf e1.setTc.countFld.ev.tcFail (fun _ hx => hx.tcLinkDown))))

theorem State.Inv.leashCtrl (hs : s.Inv) : (leashCtrl m t v s).Inv := by
  unfold Machine.leashCtrl
  exact .onlyIf (.onlyIf (.onlyIf hs (fun _ hx => hx.ctlPush)) (fun _ hx => hx.ctlPush)) (fun _ hx => hx.ctlPush)

theorem State.Inv.trstReq (hs : s.Inv) : (trstReq m t v s).Inv := .ite hs.ctlPush hs

theorem State.Inv.rwtWrite (hs : s.Inv) : (rwtWrite m n off v s).Inv := by
  unfold Machine.rwtWrite
  dsimp only
  split
  exacts [hs.rwAccess, hs.rwAccess.sbRefuse]

theorem State.Inv.policyWrite {unit : Nat} (hs : s.Inv) : (policyWrite acc t unit v s).Inv := by
  unfold Machine.policyWrite
  exact .ite hs.writeP (.ite hs.writeP.polSync.rwAccess hs.writeP.polSync)

theorem State.Inv.keepaliveTimer (hs : s.Inv) : (keepaliveTimer h s).Inv :=
  .ite (.each hs (fun _ _ hx => hx.ctlPush)) hs

theorem State.Inv.startClaim (hs : s.Inv) : (s.startClaim h t).Inv := by
  unfold State.startClaim
  exact .ite hs.setTc.ctlPush hs.setTc.ctlPush

theorem State.Inv.startAgent (hs : s.Inv) : (s.startAgent h).Inv :=
  .each hs (fun _ _ hx => .ite hx.startClaim hx.setTc)

theorem State.Inv.reRegulate (hs : s.Inv) : (s.reRegulate n).Inv := .onlyIf hs (fun _ hx => hx.regulate.setFld)

theorem State.Inv.readProt (hs : s.Inv) : (s.readProt n).Inv := by
  unfold State.readProt
  exact .onlyIf (.refreshChan (.protIrqs (.each hs.reRegulate (fun _ _ hx => hx.wr)))) (fun _ hx => hx.distNow)

theorem State.Inv.readTile (hs : s.Inv) : (s.readTile t).Inv := by
  unfold State.readTile
  exact .each (.wrN (.wrN (.wrN (.setTile (.onlyIf (.onlyIf hs.setFld (fun _ hx => hx.raise)) (fun _ hx => hx.raise))))))
      (fun _ _ hx => hx.ioChan)

theorem State.Inv.mirrorRefresh (hs : s.Inv) : (mirrorRefresh t s).Inv :=
  .ite (.mirFaults (.readTile (.each hs (fun _ _ hx => hx.readProt)))) hs

theorem State.Inv.reloadChan (hs : s.Inv) : (s.reloadChan t n).Inv := by
  unfold State.reloadChan
  exact .putChStat (.protIrqs (.setFld (.each hs (fun _ _ hx => hx.wr))))

theorem State.Inv.mirrorReload (hs : s.Inv) : (mirrorReload t s).Inv := by
  have fin {u : State} (hu : u.Inv) (o : Option Half) : (match o with | some h => u.startClaim h t | none => u).Inv := by
    cases o
    exacts [hu, hu.startClaim]
  unfold Machine.mirrorReload
  exact .ite hs (fin (.update (.setTc (.polSync (.setFld (.mirFaults (.readTile
    (.each (.each hs.report fun _ _ hx => hx.wr) fun _ _ hx => hx.reloadChan))))))) _)

theorem State.Inv.tcAbort (hs : s.Inv) : (s.tcAbort t).Inv := by
  unfold State.tcAbort
  split
  exacts [hs, .ite hs.update.setTc.tcFail hs.update]

theorem State.Inv.takeoverClaim (hs : s.Inv) : (takeoverClaim s).Inv := by
  unfold Machine.takeoverClaim
  split
  exacts [hs, .each hs.update (fun _ _ hx => .ite hx.tcAbort.tcSend hx.ctlPush)]

theorem State.Inv.channelOn (hs : s.Inv) : (channelOn acc n s).Inv :=
  .ite hs.cmdResult (.ite hs.cmdResult hs.driveLine.cmdResult)

theorem State.Inv.channelOff (hs : s.Inv) : (channelOff acc n s).Inv :=
  .ite hs.cmdResult (.ite hs.cmdResult hs.driveLine.cmdResult)

theorem State.Inv.channelClear (hs : s.Inv) : (channelClear acc n s).Inv :=
  .ite hs.cmdResult (.ite hs.cmdResult (.ite hs.answer hs.setBusy.rwPush))

/-! ### Halves -/

theorem State.Inv.delivered {seq : Nat} (hs : s.Inv) : (s.delivered h seq).Inv := by
  unfold State.delivered
  exact .ite hs.wrN.wrN.wrN.wrN.setHalfSt hs.wrN.wrN

theorem State.Inv.nextInseq (hs : s.Inv) : s.nextInseq.2.Inv := by
  unfold State.nextInseq
  exact hs.update

theorem State.Inv.inputLost {frame : Bool} (hs : s.Inv) : (s.inputLost h frame).Inv := by
  unfold State.inputLost
  exact have e1 : State.Inv _ := hs.count.raise.evHalf; .ite e1.raise.setHalfSt.setRole e1.raise.setHalfSt

theorem State.Inv.ringRecord {seq : Nat} {x : DistItem} (hs : s.Inv) : (s.ringRecord h seq x).Inv := by
  unfold State.ringRecord
  exact .ite hs.inputLost (.delivered (.evHalf (.setHalfSt (.onlyIf hs.emit.wrN (fun _ hx => hx.raise)))))

theorem State.Inv.ringDrain (hs : s.Inv) : (s.ringDrain h).Inv := by
  unfold State.ringDrain
  exact .each hs.update (fun _ _ hx => .onlyIf hx (fun _ hy => hy.ringRecord))

theorem State.Inv.distItem (hs : s.Inv) : (distItem s).Inv := by
  unfold Machine.distItem
  exact .ringDrain (.ringDrain (by split; exacts [hs, hs.update.update.update]))

theorem State.Inv.setPath {net : Bool} {p : PathSt} (hs : s.Inv) : (s.setPath h net p).Inv :=
  .ite hs.setHalfSt hs.setHalfSt

theorem State.Inv.barkFeed (hs : s.Inv) : (barkFeed h s).Inv := hs.setHalfSt

theorem State.Inv.sendWord {net : Bool} {w : Nat} (hs : s.Inv) : (s.sendWord h net w).Inv :=
  .ite hs.emit (.onlyIf hs (fun _ hx => hx.spanSend))

theorem State.Inv.barkSend (hs : s.Inv) : (barkSend s).Inv := by
  unfold Machine.barkSend
  exact .ite (.each hs.update (fun _ _ hx => hx.sendWord.setPath.evHalf)) hs

theorem State.Inv.judgePaths (hs : s.Inv) : (s.judgePaths h).Inv := by
  unfold State.judgePaths
  exact .setFld
      (.ite (.ev (.raise (.countFld (.setPath (.ite hs.setPath.countFld.raise.ev hs)))))
         (.ite hs.setPath.countFld.raise.ev hs))

theorem State.Inv.peerSilent (hs : s.Inv) : (s.peerSilent h).Inv := by
  unfold State.peerSilent
  exact .ite (.ite hs.setBit.raise hs.setBit.failActive) hs.setBit

theorem State.Inv.wordArrived {net : Bool} {p : PathSt} (hs : s.Inv) : (s.wordArrived h net p).Inv := by
  unfold State.wordArrived
  exact hs.setPath.judgePaths.peerSilent

theorem State.Inv.barkBad (hs : s.Inv) : (s.barkBad h).Inv := hs.count.raise

theorem State.Inv.barkArrives {net : Bool} {w : BitVec 64} (hs : s.Inv) : (barkArrives h net w s).Inv :=
  .ite hs.barkBad
    (.ite (.onlyIf (.onlyIf hs.wordArrived.evHalf (fun _ hx => hx.sendWord)) (fun _ hx => hx.yieldActive))
       (.ite hs.evHalf.wordArrived hs.evHalf.setPath))

theorem State.Inv.echoReceive {net : Bool} {w : BitVec 64} (hs : s.Inv) : (echoReceive h net w s).Inv :=
  hs.barkArrives

theorem State.Inv.barkMiss {net : Bool} (hs : s.Inv) : (barkMiss h net s).Inv := by
  unfold Machine.barkMiss
  exact .ite hs hs.setPath.judgePaths.peerSilent

theorem State.Inv.takeoverGrant (hs : s.Inv) : (takeoverGrant s).Inv := by
  unfold Machine.takeoverGrant
  split
  exacts [hs, .ite hs.grantTo hs.update.activeLost]

theorem State.Inv.ctrlRefused (hs : s.Inv) : (s.ctrlRefused h).Inv := hs.setBit

theorem State.Inv.roleSwap (hs : s.Inv) : (roleSwap acc h s).Inv := .ite hs.grantTo hs.ctrlRefused

theorem State.Inv.roleAssume (hs : s.Inv) : (roleAssume h s).Inv := .ite hs.grantTo hs.ctrlRefused

theorem State.Inv.resyncReq (hs : s.Inv) : (resyncReq h s).Inv :=
  .ite hs.setRole.setHalfSt.setHalfSt.setFld.raise hs.ctrlRefused

theorem State.Inv.resyncAbort (hs : s.Inv) : (resyncAbort h s).Inv := .ite hs.setRole hs.ctrlRefused

theorem State.Inv.roleCtrl (hs : s.Inv) : (roleCtrl acc h v s).Inv := by
  unfold Machine.roleCtrl
  exact .onlyIf
      (.onlyIf
         (.onlyIf (.onlyIf (.onlyIf hs (fun _ hx => hx.takeoverGrant)) (fun _ hx => .ite hx.roleSwap hx.ctrlRefused))
            (fun _ hx => .ite hx.roleAssume hx.ctrlRefused))
         (fun _ hx => hx.resyncReq))
      (fun _ hx => hx.resyncAbort)

theorem State.Inv.halfHalt (hs : s.Inv) : (halfHalt h s).Inv :=
  .ite (.cmdResult (.onlyIf hs.setHalfState.stopAgent (fun _ hx => hx.yieldActive))) hs.cmdResult

theorem State.Inv.halfResume (hs : s.Inv) : (halfResume acc h s).Inv := by
  unfold Machine.halfResume
  exact .ite hs.cmdResult
      (.ite
         (.cmdResult (.onlyIf (.onlyIf hs.setHalfState (fun _ hx => hx.hwCountP.update)) (fun _ hx => hx.startAgent)))
         hs.cmdResult)

theorem State.Inv.halfClear (hs : s.Inv) : (halfClear h s).Inv := by
  unfold Machine.halfClear
  exact hs.setHalfSt.setBit.judgePaths.cmdResult

theorem State.Inv.cmpDrop (hs : s.Inv) : s.cmpDrop.Inv := by
  unfold State.cmpDrop
  exact .ite hs.setRole hs

theorem State.Inv.cmpMismatch {epoch : Nat} (hs : s.Inv) : (s.cmpMismatch h epoch).Inv := by
  unfold State.cmpMismatch
  exact hs.setHalfSt.wrN.count.raise.raise.record.cmpDrop

theorem State.Inv.cmpLate {epoch : Nat} (hs : s.Inv) : (s.cmpLate h epoch).Inv := by
  unfold State.cmpLate
  exact hs.setHalfSt.wrN.count.raise.raise.record.cmpDrop

theorem State.Inv.cmpMatch (hs : s.Inv) : (s.cmpMatch h).Inv := by
  unfold State.cmpMatch
  exact .ite hs.wrN.setHalfSt.setRole.raise.raise hs.wrN.setHalfSt

theorem State.Inv.compare {mine theirs : CmpRec} (hs : s.Inv) : (s.compare h mine theirs).Inv := by
  unfold State.compare
  exact have e3 : State.Inv _ := .onlyIf hs.wrN.wrN.wrN (fun _ hx => hx.wrN); .ite e3.cmpMatch e3.cmpMismatch

theorem State.Inv.tryCompare {epoch : Nat} (hs : s.Inv) : (s.tryCompare h epoch).Inv := by
  unfold State.tryCompare
  dsimp only
  split
  exacts [hs.setHalfSt.compare, hs]

theorem State.Inv.cmpEpoch (hs : s.Inv) : (cmpEpoch h v s).Inv := by
  unfold Machine.cmpEpoch
  exact hs.setHalfSt.wrN.evHalf.update.tryCompare

theorem State.Inv.cmpBase (hs : s.Inv) : (cmpBase h v s).Inv := hs.setHalfSt

theorem State.Inv.cmpRecordRx (hs : s.Inv) : (cmpRecordRx h s).Inv := by
  unfold Machine.cmpRecordRx
  split
  · exact hs
  · exact .tryCompare
        (.onlyIf (by split; exacts [hs.update.setHalfSt.cmpLate, hs.update.setHalfSt]) (fun _ hx => hx.cmpMismatch))

theorem State.Inv.cmpLateTimer (hs : s.Inv) : (cmpLateTimer h s).Inv := by
  unfold Machine.cmpLateTimer
  dsimp only
  split
  exacts [hs, .ite hs.setHalfSt.cmpLate hs]

/-! ### Power -/

theorem State.Inv.por {cell : Bool} (hs : s.Inv) : (por cell s).Inv := .ite hs hs.doPor

theorem State.Inv.bor {rail : Nat} (hs : s.Inv) : (bor rail s).Inv :=
  .ite hs (by split; exacts [hs.doPor, hs.reset?, hs.reset?, hs.reset?])

theorem State.Inv.rstReq (hs : s.Inv) : (rstReq acc v s).Inv := by
  unfold Machine.rstReq
  extract_lets go
  have hgo (r : Nat) : (go r).Inv := by
    unfold go
    split
    exacts [.ite hs.reset? hs, hs]
  clear_value go
  split
  exacts [.ite (hgo _) hs.count, hgo _]

theorem State.Inv.rstReqWrite (hs : s.Inv) : (rstReqWrite acc v s).Inv := .write hs (fun _ _ hx => hx.rstReq)

theorem State.Inv.srstRequest {key : Fin 65536} (hs : s.Inv) : (srstRequest acc key s).Inv := hs.rstReqWrite

theorem State.Inv.hrstARequest {key : Fin 65536} (hs : s.Inv) : (hrstARequest acc key s).Inv := hs.rstReqWrite

theorem State.Inv.hrstBRequest {key : Fin 65536} (hs : s.Inv) : (hrstBRequest acc key s).Inv := hs.rstReqWrite

theorem State.Inv.crstRequest {key : Fin 65536} {core : Fin 8} (hs : s.Inv) : (crstRequest acc key h core s).Inv :=
  hs.rstReqWrite

theorem State.Inv.resetRelease {r : Rst} (hs : s.Inv) : (resetRelease r s).Inv :=
  .ite hs <| by
    dsimp only
    split
    exacts [.ite hs.update.startRoles.fillService.openWindow.update hs,
      .ite hs.update.startRoles.fillService.openWindow.update hs, .ite hs.update.setHalfState hs.update, hs.update]

theorem State.Inv.reqResult {v : Nat} (hs : s.Inv) : (s.reqResult v).Inv := hs.setFld

theorem State.Inv.stateRefused {v : Nat} (hs : s.Inv) : (s.stateRefused v).Inv := hs.reqResult.raise

theorem State.Inv.reqDoze (hs : s.Inv) : (reqDoze s).Inv := .ite hs.stateRefused (.ite hs.update hs.stateRefused)

theorem State.Inv.reqRun (hs : s.Inv) : (reqRun s).Inv :=
  .ite hs.update (.ite hs.stateRefused (.ite hs.setDevState.reqResult hs.stateRefused))

theorem State.Inv.reqPark (hs : s.Inv) : (reqPark s).Inv := .ite hs.stateRefused (.ite hs.setDevState hs.stateRefused)

theorem State.Inv.stateReq (hs : s.Inv) : (stateReq acc v s).Inv :=
  .secureOnly hs (fun _ hx => (by split; exacts [hx.reqDoze, hx.reqRun, hx.reqPark, hx]))

theorem State.Inv.dozeEntered (hs : s.Inv) : (dozeEntered s).Inv := .ite hs.update.reqResult.setDevState hs

theorem State.Inv.dozeWake (hs : s.Inv) : (dozeWake s).Inv := .ite hs (.ite hs.update (.ite hs.setDevState hs))

theorem State.Inv.setPend {b : Bool} (hs : s.Inv) : (s.setPend k b).Inv := hs.setBit.setBit

theorem State.Inv.tunClock {on : Bool} (hs : s.Inv) : (s.tunClock on).Inv := by
  unfold State.tunClock
  dsimp only
  split
  exacts [hs.update, hs.update, hs]

theorem State.Inv.dropPending (hs : s.Inv) : s.dropPending.Inv := .each hs (fun _ _ hx => hx.setPend.setFld)

theorem State.Inv.parkEntry (hs : s.Inv) : (parkEntry s).Inv :=
  .ite (.each hs.update.dropPending (fun _ _ hx => hx.ctlPush)) hs

theorem State.Inv.takeDown {st : Nat} {yields : Bool} (hs : s.Inv) : (s.takeDown h st yields).Inv :=
  hs.halfDown.stopAgent.setHalfState

theorem State.Inv.offDomain (hs : s.Inv) : (s.offDomain k).Inv := by
  unfold State.offDomain
  exact .loseDomain (.ite hs.takeDown (.ite hs.takeDown hs))

theorem State.Inv.parkRest (hs : s.Inv) : (parkRest s).Inv :=
  .ite
    (.reqResult
       (.setDevState
          (.each (.update (.takeDown (.takeDown (.dropPending (.onlyIf hs.wrN (fun _ hx => hx.raise))))))
             (fun _ _ hx => hx.loseDomain.setGateSt))))
    hs

theorem State.Inv.wakeSource {kind rtc : Nat} (hs : s.Inv) : (wakeSource kind i rtc s).Inv :=
  .ite
    (have e2 : State.Inv _ := .onlyIf hs.update (fun _ hx => hx.setDevState)
     (by dsimp only; split; exacts [e2.wrN, e2]))
    hs

theorem State.Inv.parkExit {periods : Nat} (hs : s.Inv) : (parkExit periods s).Inv := by
  unfold Machine.parkExit
  split
  · exact .raise
        (.openWindow
           (.fillService
              (.startRoles
                 (.setDevState (.each hs.loseAll.update.setBit.raise.devCause.hwCountP (fun _ _ hx => hx.wr))))))
  · exact hs

theorem State.Inv.enterDead (hs : s.Inv) : s.enterDead.Inv := by
  unfold State.enterDead
  exact .update
      (.fillService
         (.setDevState
            (.showStage
               (.setActState
                  (.update
                     (.endSessions
                        (.zeroSlots
                           (.ksAbort
                              (.each hs.dropPending.takeDown.takeDown.stageRelease.loseAll.setHalfState.setHalfState
                                 (fun _ _ hx => .ite hx hx.setGateSt))))))))))

theorem State.Inv.stageOff (hs : s.Inv) : s.stageOff.Inv :=
  .ite (.each hs (fun _ _ hx => .ite hx hx.loseDomain.setGateSt)) hs

theorem State.Inv.dropSessions {gone : Session → Bool} (hs : s.Inv) : (s.dropSessions gone).Inv :=
  hs.endSessions.stageOff

theorem State.Inv.supplyLow (hs : s.Inv) : (supplyLow s).Inv := by
  unfold Machine.supplyLow
  exact .ite hs (.onlyIf hs.setBit.raise (fun _ hx => hx.record))

theorem State.Inv.supplyLoss (hs : s.Inv) : (supplyLoss s).Inv :=
  .ite hs (.update (.each hs.loseAll.losePages.setBit (fun _ _ hx => hx.tileReset)))

theorem State.Inv.supplySampleMv {mv : Nat} (hs : s.Inv) : (supplySampleMv mv s).Inv :=
  .ite hs (.onlyIf hs.wrN (fun _ hx => hx.setBit))

theorem State.Inv.pdResult {r : Nat} (hs : s.Inv) : (s.pdResult k r).Inv := hs.setFld.raise

theorem State.Inv.pdApply {on : Bool} (hs : s.Inv) : (s.pdApply k on).Inv :=
  .ite (.pdResult (.onlyIf (.onlyIf hs.setGateSt (fun _ hx => hx.tunClock)) (fun _ hx => hx.capClock)))
    (.ite hs.pdResult (.ite hs.setGateSt hs.offDomain.setGateSt))

theorem State.Inv.pdOn (hs : s.Inv) : (pdOn k s).Inv := by
  unfold Machine.pdOn
  split
  exacts [hs.pdResult, .ite hs.setPend.pdResult hs.pdApply]

theorem State.Inv.pdOff {secure : Bool} (hs : s.Inv) : (pdOff secure k s).Inv := by
  unfold Machine.pdOff
  split
  exacts [hs.pdResult, .ite (.ite hs hs.setPend.setFld.raise) hs.setPend.pdApply]

theorem State.Inv.setHold {b : Bool} (hs : s.Inv) : (setHold acc k b s).Inv :=
  .ite hs (.secureOnly hs (fun _ hx => .ite hx.setBit.setPend.pdOff hx.setBit))

theorem State.Inv.pdWrite (hs : s.Inv) : (pdWrite acc k v s).Inv := by
  unfold Machine.pdWrite
  dsimp only
  split
  exacts [hs.setHold.pdOn, hs.setHold.pdOff, hs.setHold]

theorem State.Inv.pdEnd (hs : s.Inv) : (pdEnd k s).Inv :=
  .ite (have e1 : State.Inv _ := hs.losePages.setGateSt.pdResult; .ite e1.reset? (.ite e1.reset? e1))
    (.ite hs.setGateSt.pdResult hs)

theorem State.Inv.lifeHour (hs : s.Inv) : (lifeHour s).Inv := .ite hs hs.hwCountP

/-! ### Macsec -/

theorem State.Inv.msProtect {p : Nat} (hs : s.Inv) : (s.msProtect p l).1.Inv :=
  .ite_fst hs (.ite_fst hs (.ite_fst hs.count (.count (.onlyIf hs.setSa (fun _ hx => hx.raise)))))

theorem State.Inv.msCheck {p : Nat} {f : Frame} {icv : Bool} (hs : s.Inv) : (s.msCheck p f l icv).1.Inv :=
  .ite_fst hs
    (.ite_fst hs
       (by
         dsimp only
         split
         · exact .onlyIf hs (fun _ hx => hx.countFld)
         · exact .ite_fst (.onlyIf hs (fun _ hx => hx.countFld)) <| by
               split
               exacts [.onlyIf hs (fun _ hx => hx.countFld),
                 .ite_fst hs (.ite_fst hs.countFld (.ite_fst hs.count hs.update.count))]))

/-! ### Fabric -/

theorem State.Inv.evN (hs : s.Inv) : (s.evN code inst n).Inv := .each hs (fun _ _ hx => hx.ev)

theorem State.Inv.bufNote {was : Nat} (hs : s.Inv) : (s.bufNote was).Inv := by
  unfold State.bufNote
  exact .onlyIf (.onlyIf hs (fun _ hx => hx.setFld)) (fun _ hx => hx.raise)

theorem State.Inv.modFrame {g : Frame → Bool} {f : Frame → Frame} (hs : s.Inv) : (s.modFrame g f).Inv := hs.update

theorem State.Inv.tidy (hs : s.Inv) : s.tidy.Inv := hs.update

theorem State.Inv.markHeads (hs : s.Inv) : s.markHeads.Inv := by
  unfold State.markHeads
  exact hs.update

theorem State.Inv.refuse {p : Nat} {a : Admit} (hs : s.Inv) : (s.refuse p q a).Inv :=
  .ite hs.count.ev (.ite hs.count.ev hs)

theorem State.Inv.enqueued {p : Nat} {launch : Bool} (hs : s.Inv) : (s.enqueued p q launch).Inv := by
  unfold State.enqueued
  exact .onlyIf hs.count.ev (fun _ hx => hx.count)

theorem State.Inv.ctAbort {f : Frame} {c : Copy} (hs : s.Inv) : (s.ctAbort f c).Inv := by
  unfold State.ctAbort
  exact .onlyIf hs.count.raise.ev (fun _ hx => hx.emit)

theorem State.Inv.dropCopies {g : Frame → Copy → Bool} (hs : s.Inv) : (s.dropCopies g).Inv := by
  unfold State.dropCopies
  exact .bufNote (.markHeads (.tidy (.each hs.update (fun _ _ hx => hx.ctAbort))))

theorem State.Inv.truncate {id : Nat} (hs : s.Inv) : (s.truncate id).Inv := by
  unfold State.truncate
  exact hs.dropCopies.count.raise.ev

theorem State.Inv.rsvStat {res : Nat} {pend : Bool} (hs : s.Inv) : (s.rsvStat res i t pend).Inv := hs.wrN

theorem State.Inv.rsvCommit (hs : s.Inv) : (rsvCommit s).Inv :=
  .ite hs.setFld.raise (by split; exacts [hs.rsvStat.raise, hs.rsvStat])

theorem State.Inv.rsvCopy {src dst : Nat} (hs : s.Inv) : (s.rsvCopy src dst).Inv := .each hs (fun _ _ hx => hx.wr)

theorem State.Inv.rsvRevert (hs : s.Inv) : (rsvRevert s).Inv := hs.rsvCopy

theorem State.Inv.rsvActivate (hs : s.Inv) : (rsvActivate s).Inv := .ite hs.rsvCopy.rsvStat.raise hs

theorem State.Inv.noteGuard {p : Nat} (hs : s.Inv) : (s.noteGuard p).Inv :=
  .each hs (fun _ _ hx => (by split; exacts [.ite hx.modFrame.count.ev hx, hx]))

theorem State.Inv.setCopy {f : Frame} {c c' : Copy} (hs : s.Inv) : (s.setCopy f c c').Inv := hs.modFrame

theorem State.Inv.dropCopy {f : Frame} {c : Copy} (hs : s.Inv) : (s.dropCopy f c).Inv := by
  unfold State.dropCopy
  exact hs.update.tidy.markHeads.bufNote

theorem State.Inv.begin {bin : Nat} {f : Frame} {c : Copy} (hs : s.Inv) : (s.begin bin f c).Inv := by
  unfold State.begin
  dsimp only
  split
  · exact .dropCopy (.of_fst hs.msProtect ‹_›)
  · exact .markHeads
        (.setCopy (.onlyIf (.onlyIf (.of_fst hs.msProtect ‹_›) (fun _ hx => hx.count)) (fun _ hx => hx.count.ev)))

theorem State.Inv.txSelect {p bin : Nat} (hs : s.Inv) : (txSelect p bin s).Inv := by
  unfold Machine.txSelect
  dsimp only
  split
  exacts [hs.noteGuard.begin, hs.noteGuard]

theorem State.Inv.stage1 (hs : s.Inv) : (s.stage1 i t).Inv := by
  unfold State.stage1
  dsimp only
  split
  exacts [.ite hs.truncate (.onlyIf hs.modFrame.bufNote.ev (fun _ hx => hx.ev)),
    .ite hs.truncate (.onlyIf hs.modFrame.bufNote.ev (fun _ hx => hx.ev)), hs]

theorem State.Inv.stage2 {o : Nat} (hs : s.Inv) : (s.stage2 o t).Inv := by
  unfold State.stage2
  dsimp only
  split
  · exact .ite hs.count.raise.ev (by split; exacts [hs.modFrame.bufNote, hs])
  · split
    exacts [hs.setCopy.bufNote, hs]

theorem State.Inv.sfdOut {f : Frame} {c : Copy} (hs : s.Inv) : (s.sfdOut f c).Inv := by
  unfold State.sfdOut
  exact have e2 : State.Inv _ := .onlyIf hs.setCopy.ev (fun _ hx => hx.ev)
    (by dsimp only; split; exacts [.onlyIf e2 (fun _ hx => hx.capEnter), e2])

theorem State.Inv.drainAll (hs : s.Inv) : s.drainAll.Inv := by
  unfold State.drainAll
  exact .bufNote
      (.onlyIf (.each (.each hs.update (fun _ _ hx => hx.sfdOut)) (fun _ _ hx => hx.count))
         (fun _ hx => hx.dropCopies))

theorem State.Inv.creditSlot (hs : s.Inv) : s.creditSlot.Inv := .each hs (fun _ _ hx => hx.update)

theorem State.Inv.arriveCell {p : Nat} {pre : Bool} (hs : s.Inv) : (s.arriveCell p pre l).Inv := by
  unfold State.arriveCell
  extract_lets mine
  split
  exacts [hs, .onlyIf hs.modFrame (fun _ hx => hx.count.ev)]

theorem State.Inv.fabricSlot {arr : List (Fin 29 × Bool × List Nat)} (hs : s.Inv) : (fabricSlot arr s).Inv :=
  .ite hs
    (.onlyIf
       (.update
          (.creditSlot
             (.drainAll
                (.each (.each (.each hs (fun _ _ hx => hx.arriveCell)) (fun _ _ hx => hx.stage2))
                   (fun _ _ hx => hx.stage1)))))
       (fun _ hx => .onlyIf hx.countWrap (fun _ hy => hy.ev)))

theorem State.Inv.handOver {f : Frame} {c : Copy} (hs : s.Inv) : (s.handOver f c).Inv := by
  unfold State.handOver
  exact .ite hs.update (.ite hs.update (.ite hs.update hs.emit))

theorem State.Inv.gateOverrun {p : Nat} (hs : s.Inv) : (s.gateOverrun p q).Inv := hs.count.raise.ev

theorem State.Inv.txComplete {p : Nat} (hs : s.Inv) : (txComplete p s).Inv := by
  unfold Machine.txComplete
  extract_lets done
  split
  · exact hs
  · extract_lets s1 s2 s3 s4
    have h1 : s1.Inv := .onlyIf hs fun _ hx => hx.gateOverrun
    have h4 : s4.Inv := .onlyIf h1.count.ev.evN fun _ hx => hx.count
    exact .ite h1.emit.dropCopy h4.handOver.dropCopy

theorem State.Inv.launchLate {p : Nat} (hs : s.Inv) : (launchLate p q s).Inv := by
  unfold Machine.launchLate
  split
  exacts [.ite (.ite hs.raise.setCopy.count.ev hs.raise.dropCopy.count.ev) hs, hs]

theorem State.Inv.macMerge {p : Nat} {ok : Bool} (hs : s.Inv) : (macMerge p ok s).Inv := by
  unfold Machine.macMerge
  exact .ite hs.setFld (.ite hs.setFld hs.setFld.setBit)

theorem State.Inv.closeAct (hs : s.Inv) : (closeAct i s).Inv := .runAct hs (fun _ _ hx => hx.actGate.finishAct)

/-! ### Forward -/

theorem State.Inv.setSf {x : SFilter} (hs : s.Inv) : (s.setSf i x).Inv := hs.update

theorem State.Inv.putWords {l : List Word} (hs : s.Inv) : (s.putWords k n l).Inv := .each hs (fun _ _ hx => hx.wr)

theorem State.Inv.cmtStat {res idx : Nat} (hs : s.Inv) : (s.cmtStat k res idx).Inv := hs.wrN

theorem State.Inv.fdbCommit (hs : s.Inv) : (fdbCommit v s).Inv := by
  unfold Machine.fdbCommit
  dsimp only
  split
  · exact .ite hs.cmtStat (by split; exacts [.ite hs.update.cmtStat hs.cmtStat, hs.update.cmtStat])
  · exact hs.update.cmtStat
  · exact hs.putWords.cmtStat
  · split <;> exact hs.cmtStat
  · exact hs.cmtStat

theorem State.Inv.sfCommit (hs : s.Inv) : (sfCommit v s).Inv := by
  unfold Machine.sfCommit
  dsimp only
  split
  exacts [.ite hs.cmtStat hs.setSf.cmtStat, hs.setSf.cmtStat,
    .cmtStat (.onlyIf hs.putWords.wrN.wrN.wrN (fun _ hx => hx.setSf)), hs.cmtStat]

theorem State.Inv.mgCommit (hs : s.Inv) : (mgCommit v s).Inv := by
  unfold Machine.mgCommit
  dsimp only
  split
  exacts [.ite hs.cmtStat hs.update.cmtStat, hs.update.cmtStat, hs.putWords.cmtStat, hs.cmtStat]

theorem State.Inv.tblCommit {tbl : Nat} (hs : s.Inv) : (tblCommit tbl v s).Inv :=
  .ite_app hs.fdbCommit (.ite_app hs.sfCommit hs.mgCommit)

theorem State.Inv.hostLost {p : Nat} {item : Bool} (hs : s.Inv) : (s.hostLost p item).Inv :=
  .onlyIf hs (fun _ hx => hx.inputLost)

theorem State.Inv.residueEval {g : Copy → Bool} (hs : s.Inv) : (s.residueEval g).Inv := by
  unfold State.residueEval
  exact .markHeads (.each hs (fun _ _ hx => .ite hx.setCopy.count.ev.enqueued hx))

theorem State.Inv.residueDrop {p : Nat} {item : Bool} (hs : s.Inv) : (s.residueDrop p q item).Inv :=
  hs.refuse.count.ev.hostLost

theorem State.Inv.residueTimeout (hs : s.Inv) : (residueTimeout s).Inv := by
  unfold Machine.residueTimeout
  exact .dropCopies (.each hs (fun _ _ hx => hx.residueDrop))

theorem State.Inv.search {p mac vid pcp : Nat} (hs : s.Inv) : (s.search p mac vid pcp).1.Inv := by
  unfold State.search
  split
  exacts [hs, .ite_fst hs.count (.ite_fst hs.count.ev hs.count.ev.count)]

theorem State.Inv.meterPass (hs : s.Inv) : (s.meterPass i).1.Inv := by
  unfold State.meterPass
  exact .ite_fst (.ite_fst hs.setSf hs.setSf.count.ev) hs

theorem State.Inv.admitCopy {p : Nat} {kind : CopyKind} {launch : Bool} {ready : Option Nat} {item : Bool}
    (hs : s.Inv) : (s.admitCopy p q kind launch ready item).1.Inv := by
  have hr (f : Copy → Bool) : (s.residueEval f).Inv := hs.residueEval
  unfold State.admitCopy
  dsimp only
  split
  · exact (hr _).enqueued
  · split
    exacts [.ite_fst (hr _).refuse.hostLost (.ite_fst (hr _) (hr _).residueDrop), (hr _).refuse.hostLost]
  · exact (hr _).refuse.hostLost

theorem State.Inv.admitAll {l : List (Nat × CopyKind)} {launch : Bool} {ready : Option Nat} {item : Bool} (hs : s.Inv)
    : (s.admitAll l q launch ready item).1.Inv := .foldl_fst hs (fun _ _ hx => hx.admitCopy)

theorem State.Inv.mirrorCopies {inp admitted mir : Nat} (hs : s.Inv) : (s.mirrorCopies inp admitted mir).1.Inv :=
  .ite_fst hs
    (.foldl_fst hs
       (fun _ _ hx =>
         .ite_fst (by split; exacts [.ev (.count (.of_fst hx.admitCopy ‹_›)), .count (.of_fst hx.admitCopy ‹_›)]) hx))

theorem State.Inv.fetchCount {p : Nat} (hs : s.Inv) : (s.fetchCount p).1.Inv := by
  unfold State.fetchCount
  exact .ite_fst hs (.ite_fst hs.setFld (.ite_fst hs.update.setFld hs.setFld))

theorem State.Inv.bindFrame {f : Frame} {ports : List Nat} {cls : Nat} {mc : Bool} {ready : Option Nat} {mir : Nat}
    {copyHost : Bool} (hs : s.Inv) : (s.bindFrame f ports cls mc ready mir copyHost).Inv := by
  unfold State.bindFrame
  exact .markHeads
      (.update
         (.onlyIf
            (.fetchCount
               (.mirrorCopies
                  (.admitAll
                     (.onlyIf
                        (.onlyIf (.admitAll (.ite_snd hs.update hs))
                           (fun _ hx => .each hx (fun _ _ hy => hy.count.ev)))
                        (fun _ hx => hx.count)))))
            (fun _ hx => hx.count.ev)))

theorem State.Inv.lookup {f0 : Frame} (hs : s.Inv) : (s.lookup f0).Inv := by
  unfold State.lookup
  extract_lets l p s1 vp vid pcp f r w fi sfw s2 mp fdrop byDrop s3 drop cls mir copyHost grp noGrp s4
  clear_value fi
  have h1 : s1.Inv := hs.count.ev
  have h2 : s2.Inv := by
    unfold s2
    split
    exacts [h1.search.setSf, h1.search]
  have hm : mp.1.Inv := by
    unfold mp
    split
    exacts [h2.meterPass, h2]
  exact .ite h1.count.ev.bindFrame (.bindFrame (.onlyIf (.onlyIf hm fun _ hx => hx.count.ev) fun _ hx => hx.count))

theorem State.Inv.setHq {x : HQueue} (hs : s.Inv) : (s.setHq h n q x).Inv := hs.update

theorem State.Inv.qPend (hs : s.Inv) : (s.qPend h n q).Inv := hs.setBit

theorem State.Inv.descDone (hs : s.Inv) : (s.descDone h n q).Inv := by
  unfold State.descDone
  exact hs.setHq.qPend

theorem State.Inv.bindBark {f : Frame} {o : Nat} (hs : s.Inv) : (s.bindBark f o).Inv := by
  unfold State.bindBark
  split
  exacts [.of_fst hs.admitCopy ‹_›, .markHeads (.update (.of_fst hs.admitCopy ‹_›))]

theorem State.Inv.hostAccept {p : Nat} {x : HostFrame} {stamped : State → Frame → State × Frame} (hs : s.Inv)
    (hf : ∀ u x, u.Inv → (stamped u x).1.Inv) : (s.hostAccept h p x stamped).Inv := by
  unfold State.hostAccept
  exact have e1 : State.Inv _ := .onlyIf hs (fun _ hx => hx.descDone.evHalf)
    .ite (.bindBark (hf _ _ e1)) (.ite (.bindFrame (hf _ _ e1)) (.lookup (hf _ _ e1)))

theorem State.Inv.frameLookup {p : Nat} {pre : Bool} {ago bin : Nat} {sec : Option SecTag} (hs : s.Inv) :
    (frameLookup p pre l ago bin sec s).Inv := by
  unfold Machine.frameLookup
  extract_lets busy stamped h
  have stamp {u : State} (f : Frame) (hu : u.Inv) : (stamped u f).1.Inv := hu.ev
  clear_value stamped
  refine .ite hs (.ite ?_ (.ite ?_ (stamp _ hs).lookup))
  · split
    exacts [hs, .ite hs.setHostTx.count.descDone (.hostAccept hs.setHostTx fun _ f hx => stamp f hx)]
  · split
    exacts [hs, (stamp _ hs.update).lookup]

theorem State.Inv.learnReq {f : Frame} (hs : s.Inv) : (s.learnReq f).Inv := by
  unfold State.learnReq
  exact .ite (.ite hs.update hs.count) hs

theorem State.Inv.takeSample {f : Frame} {bad : Bool} (hs : s.Inv) : (s.takeSample f bad).Inv := by
  unfold State.takeSample
  split
  exacts [hs, have e3 : State.Inv _ := .ite hs.update.admitAll.count.ev hs.update.admitAll.count; .ite e3 e3.update]

theorem State.Inv.ingressEnd {p : Nat} {pre err icv : Bool} (hs : s.Inv) : (ingressEnd p pre l err icv s).Inv := by
  unfold Machine.ingressEnd
  extract_lets mine
  split
  · exact hs
  · extract_lets all f s1 maxf badLen badFcs s2 bad ms sdu s3 s4 s5 s6
    have h2 : s2.Inv := .ite hs.modFrame.countFld.ev (.ite hs.modFrame.countFld.ev hs.modFrame.count.ev.evN)
    have hm : ms.1.Inv := .ite_fst h2 h2.msCheck
    have h3 : s3.Inv := by
      unfold s3
      split
      exacts [.onlyIf hm fun _ hx => hx.setSf.count.ev, hm]
    have h4 : s4.Inv := by
      unfold s4
      split
      exacts [.onlyIf h3 fun _ hx => hx.setSf, h3]
    exact .markHeads (.tidy (.takeSample (.onlyIf (.onlyIf h4 fun _ hx => hx.dropCopies) fun _ hx => hx.learnReq)))

theorem State.Inv.learnInsert (hs : s.Inv) : (learnInsert s).Inv := by
  unfold Machine.learnInsert
  split
  · exact hs
  · extract_lets s1 base
    have h1 : s1.Inv := hs.update
    split
    · exact .ite h1 h1.count
    · split
      exacts [h1.update.count.ev, h1.count]

/-! ### Ports -/

theorem State.Inv.linkUp {p sp : Nat} {master : Bool} {lo : Word} (hs : s.Inv) :
    (Machine.linkUp p sp master lo hi s).Inv := by
  unfold Machine.linkUp
  exact .ite hs (.raise (.onlyIf hs.wrN.wrN (fun _ hx => hx.wr.wrN.raise)))

theorem State.Inv.spLinkUp (hs : s.Inv) : (spLinkUp s).Inv := by
  unfold Machine.spLinkUp
  exact .ite hs hs.setBit.raise

theorem State.Inv.spLinkDown (hs : s.Inv) : (spLinkDown s).Inv := by
  unfold Machine.spLinkDown
  exact .ite hs.setBit.raise.dropSessions hs

theorem State.Inv.endBegun {p : Nat} (hs : s.Inv) : (s.endBegun p).Inv := by
  unfold State.endBegun
  exact .bufNote (.markHeads (.tidy (.each hs.update (fun _ _ hx => hx.emit.count))))

theorem State.Inv.linkDown {p : Nat} (hs : s.Inv) : (linkDown p s).Inv :=
  .ite hs hs.endBegun.wrN.setBit.count.raise.ev

theorem State.Inv.anFail {p : Nat} (hs : s.Inv) : (anFail p s).Inv := .ite hs hs.setBit.count.raise.update

theorem State.Inv.anRetry {p : Nat} (hs : s.Inv) : (anRetry p s).Inv := hs.update

theorem State.Inv.setAdmin {p : Nat} {b : Bool} (hs : s.Inv) : (s.setAdmin p b).Inv := by
  unfold State.setAdmin
  exact .ite hs.setBit hs.setBit.linkDown

theorem State.Inv.portCmd {p : Nat} {on : Bool} (hs : s.Inv) : (portCmd p on s).Inv :=
  .ite hs.cmdResult hs.setAdmin.setBit.cmdResult

theorem State.Inv.tdrGo {p : Nat} (hs : s.Inv) : (tdrGo p v s).Inv := by
  unfold Machine.tdrGo
  exact .ite hs (.ite hs.wrN.raise hs.setBit.update)

theorem State.Inv.tdrDone {p : Nat} {refl : List (Nat × Int)} {noise : Bool} (hs : s.Inv) :
    (tdrDone p refl noise s).Inv := by
  unfold Machine.tdrDone
  exact .ite hs (.ite hs.wrN.raise (.raise (.wrN (.each hs (fun _ _ hx => hx.wrN)))))

theorem State.Inv.plcaCycle {p seen : Nat} (hs : s.Inv) : (plcaCycle p seen s).Inv :=
  .ite hs
    (.ite hs.ev.setBit.setFld
       (.ite hs.ev.setBit.setFld.update.setBit.count.raise
          (.ite hs.ev.setBit.setFld.update.setBit hs.ev.setBit.setFld.update)))

theorem State.Inv.collision {p : Nat} {late : Bool} {node : Nat} (hs : s.Inv) : (collision p late node s).Inv :=
  .ite hs
    (.ite
       (by
         dsimp only
         split
         exacts [hs.ev.countFld.setBit.setFld.raise.setCopy, hs.ev.countFld.setBit.setFld.raise])
       (.ite (by dsimp only; split; exacts [hs.ev.countFld.dropCopy, hs.ev.countFld])
          (by
            dsimp only
            split
            exacts [.ite hs.ev.countFld.dropCopy.count.raise hs.ev.countFld.update.setCopy, hs.ev.countFld])))

theorem State.Inv.plcaObs {p : Nat} {mask : Word} (hs : s.Inv) : (plcaObs p mask s).Inv := .ite hs hs.wr

/-! ### FieldBus -/

theorem State.Inv.setCanQ {l : List CanTx} (hs : s.Inv) : (s.setCanQ k l).Inv := hs.update

theorem State.Inv.canDrop (hs : s.Inv) : (s.canDrop k).Inv := hs.count.raise

theorem State.Inv.gwDrop (hs : s.Inv) : s.gwDrop.Inv := hs.count.ev

theorem State.Inv.busQueue {m : BusMsg} (hs : s.Inv) : (s.busQueue m).Inv := by
  unfold State.busQueue
  exact .ite (.ite hs.count.update (.ite hs.count.update hs.count)) (.ite hs.count.canDrop hs.count.setCanQ)

theorem State.Inv.gwFrameRx (hs : s.Inv) : (gwFrameRx s).Inv := by
  unfold Machine.gwFrameRx
  split
  · exact hs
  · exact .ite hs.update.gwDrop <| by
        split
        · exact hs.update.gwDrop
        · exact .onlyIf (.each hs.update (fun _ _ hx => (by split; exacts [hx.busQueue, hx.gwDrop]))) fun _ hx => hx.gwDrop

theorem State.Inv.aggSend {bus : Nat} (hs : s.Inv) : (s.aggSend bus).Inv := by
  unfold State.aggSend
  exact .ite hs hs.update.countBy

theorem State.Inv.gather {bus : Nat} {m : List Nat} (hs : s.Inv) : (s.gather bus m).Inv :=
  .ite hs (.onlyIf (.update (.onlyIf hs (fun _ hx => hx.aggSend))) (fun _ hx => hx.aggSend))

theorem State.Inv.gwAggSend {bus : Nat} (hs : s.Inv) : (gwAggSend bus s).Inv := .ite hs.aggSend hs

theorem State.Inv.canRx {m : CanMsg} {ago : Nat} (hs : s.Inv) : (canRx k m ago s).Inv :=
  .ite hs (.ite hs.count.ev.gather hs.count.ev.count)

theorem State.Inv.canTxDone (hs : s.Inv) : (canTxDone k s).Inv := .ite hs.setCanQ.count hs

theorem State.Inv.canTxError {arb : Bool} (hs : s.Inv) : (canTxError k arb s).Inv :=
  .ite hs (.ite hs.count.ev.setCanQ.canDrop hs.count.ev.setCanQ)

theorem State.Inv.setErrState {v : Nat} (hs : s.Inv) : (s.setErrState k v).Inv := .ite hs hs.setFld.raise

theorem State.Inv.canBusOff (hs : s.Inv) : (canBusOff k s).Inv := .ite hs hs.setErrState.count.raise.setBit

theorem State.Inv.canErrState {passive : Bool} {tec rec errs : Nat} (hs : s.Inv) :
    (canErrState k passive tec rec errs s).Inv := .ite hs hs.countBy.evN.setFld.setFld.setErrState

theorem State.Inv.canRecovered (hs : s.Inv) : (canRecovered k s).Inv := .ite hs.setBit.setFld.setErrState hs

theorem State.Inv.canClear (hs : s.Inv) : (canClear k s).Inv := .ite hs.setBit.cmdResult hs.cmdResult

theorem State.Inv.linPop {id : Nat} (hs : s.Inv) : (s.linPop k id).Inv := by
  unfold State.linPop
  split
  exacts [.ite hs.update hs, hs]

theorem State.Inv.linHeader {id : Nat} {res : LinRes} {ago : Nat} (hs : s.Inv) : (linHeader k id res ago s).Inv :=
  .ite hs (by dsimp only; split; exacts [hs.linPop.gather, hs.linPop.count.raise, hs.linPop.count.raise])

theorem State.Inv.linNoResp {id : Nat} (hs : s.Inv) : (linNoResp k id s).Inv :=
  .ite hs hs.linPop.count.setBit.wrN.raise.ev

/-! ### Vi -/

theorem State.Inv.setVi {v : Nat} (hs : s.Inv) : (s.setVi n v).Inv := .ite hs hs.setFld.setFld.raise

theorem State.Inv.viEnd {res : Nat} (hs : s.Inv) : (s.viEnd n res).Inv := hs.setFld.raise

theorem State.Inv.qassignWrite (hs : s.Inv) : (qassignWrite n v s).Inv := .ite hs (.ite hs.wrN.raise hs.wrN)

theorem State.Inv.ctxViWrite {w : Nat} (hs : s.Inv) : (ctxViWrite w v s).Inv :=
  .each hs (fun _ _ hx => .ite hx (.ite hx.wrN hx.update.setFld))

theorem State.Inv.setBucket {v : Int} (hs : s.Inv) : (s.setBucket n v).Inv := hs.update

theorem State.Inv.tokenRefill (hs : s.Inv) : (tokenRefill s).Inv := .ite hs (.each hs (fun _ _ hx => hx.setBucket))

theorem State.Inv.setDeficit {e : Nat} {v : Int} (hs : s.Inv) : (s.setDeficit e n v).Inv := hs.update

theorem State.Inv.setDwrr {e : Nat} {d : Dwrr} (hs : s.Inv) : (s.setDwrr e d).Inv := hs.update

theorem State.Inv.dwrrRound {e : Nat} (hs : s.Inv) : (dwrrRound e s).Inv := by
  unfold Machine.dwrrRound
  exact .ite hs.setDwrr hs

theorem State.Inv.dwrrVisit {e : Nat} {elig : Nat → Bool} {todo : List (Nat × Nat)} (hs : s.Inv) :
    (s.dwrrVisit e elig todo).1.Inv := by
  induction todo generalizing s with
  | nil => exact hs.setDwrr
  | cons x todo ih =>
    unfold State.dwrrVisit
    exact .ite_fst (.ite_fst hs.setDeficit.setDwrr (ih hs.setDeficit)) (ih hs)

theorem State.Inv.dwrrPick {e : Nat} {elig : Nat → Bool} (hs : s.Inv) : (s.dwrrPick e elig).1.Inv := by
  unfold State.dwrrPick
  extract_lets d r vis
  have hr : r.1.Inv := by
    unfold r
    split
    exacts [.ite_fst hs (.dwrrVisit (.onlyIf hs fun _ hx => hx.setDeficit)), hs.dwrrVisit]
  clear_value r
  split
  · exact hr
  · exact .ite_fst hr hr

theorem State.Inv.dwrrCharge {e len : Nat} {more : Bool} (hs : s.Inv) : (s.dwrrCharge e n len more).Inv :=
  .ite hs hs.setDeficit

theorem State.Inv.cmpFrame (hs : s.Inv) : (s.cmpFrame h l).Inv := by
  unfold State.cmpFrame
  exact hs.cmpFold

theorem State.Inv.hostTxFetch {desc : List Word} (hs : s.Inv) : (hostTxFetch h desc l s).Inv :=
  .ite hs <| by
    split
    · exact .of_fst hs.dwrrPick ‹_›
    · split
      · exact .of_fst hs.dwrrPick ‹_›
      · exact have e4 : State.Inv _ := .onlyIf (.update (.of_fst hs.dwrrPick ‹_›)) (fun _ hx => hx.setBucket)
          .dwrrCharge
            (.ite e4.countFld.descDone
               (have e5 : State.Inv _ := .onlyIf e4 (fun _ hx => hx.cmpFrame)
                .ite e5.count.descDone (.ite e5.count.descDone e5.setHostTx)))

theorem State.Inv.ringWrite {len at_ : Nat} (hs : s.Inv) : (s.ringWrite h base len at_ l).Inv := by
  unfold State.ringWrite
  exact .onlyIf hs.emit (fun _ hx => hx.emit)

theorem State.Inv.ringFrame {x : RxItem} (hs : s.Inv) : (s.ringFrame h x).Inv := by
  unfold State.ringFrame
  dsimp only
  split
  exacts [hs.count.raise,
    .ite hs.count.raise (.ite hs.count (.ite hs.setHq.evHalf hs.ringWrite.setHq.qPend.setHalfSt.evHalf.delivered))]

theorem State.Inv.hostRxDeliver (hs : s.Inv) : (hostRxDeliver h s).Inv := by
  unfold Machine.hostRxDeliver
  dsimp only
  split
  exacts [hs.ringDrain, .ite hs.ringDrain (.ringDrain (.onlyIf hs.ringDrain.setHostRx (fun _ hx => hx.ringFrame)))]

theorem State.Inv.viQueueWrite {f : State → State} (hs : s.Inv) (hf : ∀ u, u.Inv → (f u).Inv) :
    (s.viQueueWrite acc n f).Inv := .ite hs.lockedWrite (hf _ hs)

theorem State.Inv.setIndex {v : Nat} (hs : s.Inv) : (s.setIndex h n q v).Inv := by
  unfold State.setIndex
  exact .ite hs (.ite hs.setHq hs.setHq)

theorem State.Inv.doorbell (hs : s.Inv) : (doorbell acc n v s).Inv := .viQueueWrite hs (fun _ hx => hx.setIndex)

theorem State.Inv.qIndexWrite {rx : Bool} (hs : s.Inv) : (qIndexWrite acc n rx v s).Inv :=
  .viQueueWrite hs (fun _ hx => .ite hx.setIndex hx)

theorem State.Inv.takeSnap (hs : s.Inv) : (s.takeSnap n).Inv := by
  unfold State.takeSnap
  exact hs.update.update

theorem State.Inv.quiesced (hs : s.Inv) : (s.quiesced n).Inv := .ite hs.update.takeSnap.setVi.viEnd hs.setVi.viEnd

theorem State.Inv.viCmdStat {res : Nat} (hs : s.Inv) : (s.viCmdStat n res).Inv := hs.wrN

theorem State.Inv.viAct {op mig : Nat} (hs : s.Inv) : (s.viAct op n mig).Inv := by
  unfold State.viAct
  exact .ite hs.viCmdStat
      (.ite hs.viCmdStat
         (by
           split
           · exact .ite hs.viCmdStat.setVi.viEnd hs.viCmdStat
           · exact .ite hs.viCmdStat (.ite hs.viCmdStat.setVi hs.viCmdStat.viEnd)
           · exact .ite hs.viCmdStat hs.viCmdStat.update.setVi.viEnd
           · exact .ite hs.viCmdStat
                 (.ite hs.viCmdStat.viEnd (.ite hs.viCmdStat.takeSnap.setVi.viEnd hs.viCmdStat.update.setVi))
           · exact .ite hs.viCmdStat (.ite hs.viCmdStat hs.viCmdStat.update.setVi)
           · exact .ite hs.viCmdStat (.ite hs.viCmdStat hs.viCmdStat.update.setVi)
           · exact .ite hs.viCmdStat hs.viCmdStat.setVi
           · exact hs.viCmdStat.update.setVi))

theorem State.Inv.viCmd (hs : s.Inv) : (viCmd v s).Inv := by
  unfold Machine.viCmd
  exact .ite hs.viAct hs

theorem State.Inv.quiesceComplete (hs : s.Inv) : (quiesceComplete n s).Inv := .ite hs.quiesced hs

theorem State.Inv.flushVi (hs : s.Inv) : (s.flushVi n).Inv := by
  unfold State.flushVi
  exact .each (.each hs.dropCopies.countBy (fun _ _ hx => .each hx.setCanQ (fun _ _ hy => hy.canDrop))) fun _ _ hx => hx.update

theorem State.Inv.vrstComplete (hs : s.Inv) : (vrstComplete n s).Inv :=
  .ite hs
    (.viEnd
       (.bumpGen
          (.setVi
             (.update
                (.flushVi
                   (.each
                      (.setBucket
                         (.each (.each hs.losePages (fun _ _ hx => .each hx (fun _ _ hy => hy.setHq)))
                            (fun _ _ hx => hx.setDeficit)))
                      (fun _ _ hx => hx.update)))))))

theorem State.Inv.saveComplete (hs : s.Inv) : (saveComplete s).Inv := by
  unfold Machine.saveComplete
  split
  · dsimp only
    split
    exacts [.viEnd (.setVi (.ite (.each hs.update (fun _ _ hx => hx.emit)) hs.update)), hs.update.setVi.viEnd]
  · exact hs

theorem State.Inv.loadImg {key : List Nat} (hs : s.Inv) : (s.loadImg n key l).Inv := by
  unfold State.loadImg
  exact .each
      (.each
         (.each
            (.each (.setBucket (.wr (.wr (.wr (.each hs (fun _ _ hx => hx.setHq.setHq))))))
               (fun _ _ hx => hx.setDeficit))
            (fun _ _ hx => hx.setDeficit))
         (fun _ _ hx => hx.update))
      (fun _ _ hx => hx.fillSlot)

theorem State.Inv.restoreComplete (hs : s.Inv) : (restoreComplete l s).Inv := by
  unfold Machine.restoreComplete
  split
  exacts [.ite hs.update.loadImg.takeSnap.bumpGen.setVi.viEnd hs.update.setVi.viEnd, hs]

/-! ### Keys -/

theorem State.Inv.cipherAlarm {causeBit : Nat} (hs : s.Inv) : (s.cipherAlarm causeBit code).Inv := by
  unfold State.cipherAlarm
  exact .record
      (.raise
         (.onlyIf
            (.count (.setBit (.zeroSlots (.each hs (fun _ _ hx => (by split; exacts [.ite hx.setLane hx, hx]))))))
            (fun _ hx => hx.setBit)))

theorem State.Inv.tamper {src : Nat} (hs : s.Inv) : (tamper src s).Inv :=
  .ite hs
    (.ite
       (.onlyIf (.record (.hwCountP (.setBit (.onlyIf hs.update (fun _ hx => hx.cipherAlarm)))))
          (fun _ hx => hx.raise))
       hs.update.update)

theorem State.Inv.cellMeasured {mv : Nat} (hs : s.Inv) : (cellMeasured mv s).Inv := hs.setFld.setBit

theorem State.Inv.eraseRec (hs : s.Inv) : (s.eraseRec n).Inv := by
  unfold State.eraseRec
  exact .ite (.onlyIf (.onlyIf hs (fun _ hx => hx.putRec)) (fun _ hx => hx.putRec))
      (.onlyIf (.onlyIf hs (fun _ hx => hx.putRec)) (fun _ hx => hx.putRec))

theorem State.Inv.provision (hs : s.Inv) : (provision acc s).Inv := by
  unfold Machine.provision
  exact .ite hs.setFld
      (.ite hs.setFld (.ite hs.setFld (.setFld (.wrN (.update (.each hs.update (fun _ _ hx => hx.eraseRec)))))))

theorem State.Inv.clearShKey (hs : s.Inv) : s.clearShKey.Inv := .each hs (fun _ _ hx => hx.wrN)

theorem State.Inv.ksCommand {op slot parent record : Nat} (hs : s.Inv) :
    (ksCommand acc op slot parent record s).Inv := by
  unfold Machine.ksCommand
  exact .ite hs.setFld.clearShKey.raise
      (.update (.setFld (.setBit (by split; exacts [.useSlot (.ite hs.update hs), .ite hs.update hs]))))

theorem State.Inv.ksWrite {op slot parent record : Nat} (hs : s.Inv) : (ksWrite acc op slot parent record s).Inv :=
  .write hs (fun _ _ hx => hx.ksCommand)

theorem State.Inv.fillHalf (hs : s.Inv) : (s.fillHalf acc).2.Inv := by
  unfold State.fillHalf
  split
  exacts [hs, hs.update]

theorem State.Inv.ksEffect {c : KsCmd} (hs : s.Inv) : (s.ksEffect c).Inv := by
  unfold State.ksEffect
  dsimp only
  split
  · exact hs.fillHalf.fillSlot
  · exact .onlyIf hs (fun _ hx => hx.eraseSlot)
  · exact hs.fillHalf.fillSlot
  · exact hs.wr.wrN.wr
  · exact .wr (.each hs (fun _ _ hx => hx.wrN))
  · exact .each hs (fun _ _ hx => hx.putRec)
  · split
    exacts [hs.fillHalf.fillSlot, hs]
  · exact hs.eraseRec
  · split
    exacts [hs.wrN.wrN.wrN, hs]
  · exact hs.fillHalf.fillSlot

theorem State.Inv.ksEnd (hs : s.Inv) : (ksEnd s).Inv := by
  unfold Machine.ksEnd
  split
  · exact hs
  · extract_lets k bad s1 s2 s3 s4
    clear_value bad
    have h1 : s1.Inv := by
      unfold s1
      split
      exacts [.onlyIf hs fun _ hx => hx.count, hs.ksEffect]
    have h4 : s4.Inv := h1.update.setFld.setBit.setFld.clearShKey.raise
    split
    exacts [h4.settleSlot, h4]

/-! ### Cipher -/

theorem State.Inv.csubmit (hs : s.Inv) : (csubmit acc n v s).Inv := by
  unfold Machine.csubmit
  dsimp only
  split
  exacts [hs.count.raise, .ite hs.count.raise hs.update]

theorem State.Inv.dmaWrite {vi : Nat} (hs : s.Inv) : (s.dmaWrite vi addr l).Inv :=
  .ite hs (.each hs (fun _ _ hx => hx.emit))

theorem State.Inv.cplTo (hs : s.Inv) : (s.cplTo h n q l).Inv := by
  unfold State.cplTo
  exact .ite hs.count.raise (.ite hs.setHq.evHalf.count.raise hs.ringWrite.setHq.qPend)

theorem State.Inv.opEnd {o : CipherOp} {status : Nat} {wbOk : Bool} (hs : s.Inv) : (s.opEnd k o status wbOk).Inv := by
  unfold State.opEnd
  exact .ev
      (.count
         (.count
            (.onlyIf
               (.onlyIf
                  (.onlyIf
                     (.onlyIf
                        (.onlyIf (.onlyIf hs (fun _ hx => hx.dmaWrite))
                           (fun _ hx => .each hx (fun _ _ hy => hy.cplTo)))
                        (fun _ hx => hx.count))
                     (fun _ hx => hx.count.raise))
                  (fun _ hx => hx.count.raise))
               (fun _ hx => hx.update))))

theorem State.Inv.lanePick {elig : Nat → Bool} (hs : s.Inv) : (s.lanePick k elig).1.Inv :=
  .ite_fst (.ite_fst hs.update hs.update.dwrrPick) hs.dwrrPick

theorem State.Inv.laneAccept {heads : List (Fin 128 × Option (List Word))} {iv aad tag : Option (List Nat)}
    {wbOk : Bool} (hs : s.Inv) : (laneAccept k heads iv aad tag wbOk s).Inv := by
  unfold Machine.laneAccept
  refine .ite hs ?_
  split
  · exact .of_fst hs.lanePick ‹_›
  · have hp : State.Inv _ := .of_fst hs.lanePick ‹_›
    split
    · split
      · exact hp.update.opEnd
      · extract_lets s0 ws len s1 own o ci c0 bus c o' s2 s3
        have h1 : s1.Inv := .onlyIf hp.update fun _ hx => hx.dwrrCharge
        split
        exacts [h1.opEnd.count, .setLane (.onlyIf (.onlyIf h1 fun _ hx => hx.useSlot) fun _ hx => hx.update)]
    · exact hp

theorem State.Inv.opWrite {o : CipherOp} {wrOk : Bool} (hs : s.Inv) : (s.opWrite o l wrOk).1.Inv :=
  .ite_fst hs hs.dmaWrite

theorem State.Inv.laneRead (hs : s.Inv) : (s.laneRead k n).Inv := by
  unfold State.laneRead
  exact hs.countBy.update

theorem State.Inv.opBlock {o : CipherOp} {wrOk : Bool} (hs : s.Inv) : (s.opBlock o l wrOk).1.Inv := by
  unfold State.opBlock
  exact .ite_fst hs.opWrite
      (.ite_fst hs (.ite_fst (.ite_fst hs hs) (.ite_fst hs (.ite_fst (.ite_fst hs.opWrite hs) hs.opWrite))))

theorem State.Inv.laneBlock {inp : Option (List Nat)} {wrOk : Bool} (hs : s.Inv) : (laneBlock k inp wrOk s).Inv := by
  unfold Machine.laneBlock
  split
  exacts [hs, .ite hs (.ite hs.setLane (by split; exacts [hs.setLane, hs.laneRead.opBlock.setLane]))]

theorem State.Inv.opFinish {o : CipherOp} {wrOk : Bool} (hs : s.Inv) : (s.opFinish o wrOk).1.Inv := by
  unfold State.opFinish
  exact .ite_fst hs
      (.ite_fst hs
         (.ite_fst (.ite_fst hs.opWrite hs)
            (.ite_fst (.ite_fst hs.opWrite hs)
               (.ite_fst (.ite_fst (.dmaWrite (.ite_fst hs.opWrite hs)) (.ite_fst hs.opWrite hs))
                  (.ite_fst hs.opWrite hs)))))

theorem State.Inv.opZero {o : CipherOp} (hs : s.Inv) : (s.opZero o).Inv := by
  unfold State.opZero
  exact .ite hs.dmaWrite hs

theorem State.Inv.laneOpEnd {wrOk wbOk : Bool} (hs : s.Inv) : (laneOpEnd k wrOk wbOk s).Inv := by
  unfold Machine.laneOpEnd
  split
  · exact hs
  · exact .ite hs
        (.onlyIf (.setLane (.opEnd (.laneRead (.onlyIf hs.opFinish.opZero (fun _ hx => hx.update)))))
           (fun _ hx => hx.settleSlot))

theorem State.Inv.saCtrl {p : Nat} (hs : s.Inv) : (saCtrl p v s).Inv := by
  unfold Machine.saCtrl
  exact .ite (.onlyIf hs.setSa (fun _ hx => hx.settleSlot))
      (.ite hs.setSa (.ite hs.setSa (.onlyIf hs.useSlot.setSa (fun _ hx => hx.settleSlot))))

theorem State.Inv.cipherAlarmed (hs : s.Inv) : (cipherAlarmed cause s).Inv :=
  .ite hs (.ite hs.cipherAlarm hs.count.setBit.setBit.cipherAlarm)

theorem State.Inv.alarmClr (hs : s.Inv) : (alarmClr s).Inv := .ite hs.setBit.setBit.setBit.setBit hs

theorem State.Inv.trngStarted (hs : s.Inv) : (trngStarted s).Inv := by
  unfold Machine.trngStarted
  exact .ite hs hs.setBit.setBit

/-! ### Sense -/

theorem State.Inv.rangeOf {pre : Nat} (hs : s.Inv) : (s.rangeOf n pre).2.Inv := by
  unfold State.rangeOf
  split
  exacts [hs, hs, hs.reaches]

theorem State.Inv.holdNow {h : Hold} {cap : Bool} {pre : Nat} (hs : s.Inv) : (s.holdNow t h cap pre).Inv := by
  unfold State.holdNow
  exact .setAdc (.onlyIf (.ite_snd hs.rangeOf hs) (fun _ hx => hx.setFld.setTile))

theorem State.Inv.conversionHold {pre : Nat} (hs : s.Inv) : (conversionHold t pre s).Inv := by
  unfold Machine.conversionHold
  exact .ite hs
      (have e1 : State.Inv _ := .onlyIf hs (fun _ hx => hx.bgNext)
       (by
         dsimp only
         split
         exacts [.ite (.ite e1.holdNow e1) (.ite e1.setAdc.holdNow e1), .ite e1.holdNow e1,
           .ite (.onlyIf e1.setAdc.holdNow (fun _ hx => hx.bgNext)) e1, e1]))

theorem State.Inv.calibrate {range : Nat} {tj : Int} (hs : s.Inv) : (s.calibrate n range code tj).2.Inv := by
  unfold State.calibrate
  exact hs.update

theorem State.Inv.setSpan {g : Nat} (hs : s.Inv) : (s.setSpan g).Inv := by
  unfold State.setSpan
  exact hs.wrN

theorem State.Inv.resum {l : Nat} (hs : s.Inv) : (s.resum l).Inv := by
  unfold State.resum
  exact .ite (.onlyIf hs.sumUp.setSpan (fun _ hx => hx.raise)) hs.sumUp

theorem State.Inv.distAt {source id hold flags : Nat} {w5 w6 w7 : Word} (hs : s.Inv) :
    (s.distAt source id hold flags w5 w6 w7).Inv := hs.dist

theorem State.Inv.currentResult {c : Conv} (hs : s.Inv) : (s.currentResult t c code).Inv := by
  unfold State.currentResult
  exact .onlyIf
      (.each
         (.setAdc
            (.update
               (.onlyIf (.raise (.wrN (.ite_snd hs.update.wrN.wrN.stamp hs.update.wrN.wrN.stamp.update)))
                  (fun _ hx => hx.count.raise.ev))))
         (fun _ _ hx => hx.resum))
      (fun _ hx => hx.distAt)

theorem State.Inv.millivolts (hs : s.Inv) : (s.millivolts code).2.Inv := hs.roundOpen

theorem State.Inv.voutResult {c : Conv} (hs : s.Inv) : (s.voutResult t c code).Inv := by
  unfold State.voutResult
  exact .distAt (.ite (.raise (.wrN (.ite_snd hs.millivolts.wrN hs.millivolts.wrN.update))) hs.millivolts.wrN)

theorem State.Inv.tempField (hs : s.Inv) : (s.tempField code).2.Inv := by
  unfold State.tempField
  exact .ite_snd hs hs.update

theorem State.Inv.tjResult {c : Conv} (hs : s.Inv) : (s.tjResult c code).Inv := by
  unfold State.tjResult
  exact hs.tempField.wrN.distAt

theorem State.Inv.tileResult {c : Conv} {v : Nat} (hs : s.Inv) : (s.tileResult t c code off v).Inv := hs.wrN.distAt

theorem State.Inv.conversionResult (hs : s.Inv) : (conversionResult t code s).Inv := by
  unfold Machine.conversionResult
  split
  · exact hs
  · exact .ite hs.setAdc.count.ev.setAdc.setFld <| by
        split
        exacts [hs.setAdc.count.ev.voutResult, hs.setAdc.count.ev.tjResult, hs.setAdc.count.ev.millivolts.tileResult,
          hs.setAdc.count.ev.tempField.tileResult, hs.setAdc.count.ev.wrN, hs.setAdc.count.ev.wrN,
          hs.setAdc.count.ev.roundOpen.tileResult, hs.setAdc.count.ev.currentResult]

theorem State.Inv.swConv (hs : s.Inv) : (swConv t v s).Inv := by
  unfold Machine.swConv
  exact .ite hs.assign hs

theorem State.Inv.bgScanStart (hs : s.Inv) : (bgScanStart t s).Inv := by
  unfold Machine.bgScanStart
  exact .ite hs (.ite hs.setAdc.setBit.setAdc.bgNext hs.setAdc)

theorem State.Inv.capAbort (hs : s.Inv) : (capAbort t s).Inv := by
  unfold Machine.capAbort
  exact .ite (.onlyIf hs.setFld.setBit.setBit.setAdc (fun _ hx => hx.bgNext)) hs

theorem State.Inv.capArm (hs : s.Inv) : (capArm t v s).Inv := by
  unfold Machine.capArm
  exact .ite hs (.onlyIf hs.wrN.setAdc (fun _ hx => hx.capNow))

theorem State.Inv.capCtrl (hs : s.Inv) : (capCtrl t v s).Inv := by
  unfold Machine.capCtrl
  exact .onlyIf (.onlyIf hs (fun _ hx => hx.capAbort)) (fun _ hx => hx.capArm)

theorem State.Inv.calibAll {tj : Int} {xs : List CapSample} (hs : s.Inv) : (s.calibAll n tj xs).2.Inv := by
  induction xs generalizing s with
  | nil => exact hs
  | cons x xs ih => exact ih hs.calibrate

theorem State.Inv.capDone (hs : s.Inv) : (capDone t s).Inv := by
  unfold Machine.capDone
  exact .ite (.onlyIf hs.calibAll.roundOpen.roundOpen.wrN.wrN.wrN.setFld.setBit.raise.ev (fun _ hx => hx.bgNext)) hs

theorem State.Inv.capData (hs : s.Inv) : (s.capData t).2.Inv := by
  unfold State.capData
  split
  exacts [hs, hs.update]

theorem State.Inv.capDataRead (hs : s.Inv) : (capDataRead acc t s).Inv := by
  unfold Machine.capDataRead
  exact .answer (.onlyIf hs.capData (fun _ hx => hx.setFld))

theorem State.Inv.fmonOne {now mn mx : Nat} {v : Int} {fresh : Bool} (hs : s.Inv) :
    (s.fmonOne now mn mx v fresh).Inv := by
  unfold State.fmonOne
  exact .onlyIf (.onlyIf hs.wrN (fun _ hx => hx.wrN)) (fun _ hx => hx.wrN)

theorem State.Inv.fmonSample {va vb : Int} (hs : s.Inv) : (fmonSample va vb s).Inv :=
  .ite hs (.distNow (.onlyIf (.onlyIf hs.fmonOne.fmonOne.update (fun _ hx => hx.raise)) (fun _ hx => hx.raise)))

theorem State.Inv.fmonClr (hs : s.Inv) : (fmonClr v s).Inv := hs.update

theorem State.Inv.membResult {g r : Nat} (hs : s.Inv) : (s.membResult g r).Inv := hs.setFld.raise

theorem State.Inv.membEffect {q : MembReq} (hs : s.Inv) : (s.membEffect q).Inv := by
  unfold State.membEffect
  exact .each (.bumpGen (.bumpGen (.each (.ite hs.setBit.setFld.wrN hs.setBit.setFld.wrN) (fun _ _ hx => hx.setFld))))
      (fun _ _ hx => hx.resum.deriveStat)

theorem State.Inv.membWrite {g : Nat} (hs : s.Inv) : (membWrite acc g v s).Inv := hs.update

theorem State.Inv.membApply (hs : s.Inv) : (membApply s).Inv := by
  unfold Machine.membApply
  split
  exacts [hs, .membResult (.onlyIf hs.update (fun _ hx => hx.membEffect))]

/-! ### Inputs -/

theorem State.Inv.diChange {lv : Bool} (hs : s.Inv) : (diChange i lv s).Inv := by
  unfold Machine.diChange
  exact .ite hs (.distNow (.onlyIf hs.setBit (fun _ hx => hx.setBit.raise)))

theorem State.Inv.setAi {m : Nat} {a : AiConv} (hs : s.Inv) : (s.setAi m a).Inv := hs.update

theorem State.Inv.aiNext {m : Nat} (hs : s.Inv) : (s.aiNext m inst).Inv := by
  unfold State.aiNext
  exact .ite hs (by split; exacts [hs.setAi, hs.setAi, (by split; exacts [.ite hs.setAi hs, hs])])

theorem State.Inv.aiConversion {m : Nat} (hs : s.Inv) : (aiConversion m code s).Inv := by
  unfold Machine.aiConversion
  split
  exacts [hs, hs.wrN.dist.setAi.ev.aiNext]

theorem State.Inv.aiScan (hs : s.Inv) : (aiScan s).Inv :=
  .ite hs (.each hs (fun _ _ hx => .aiNext (.ite hx.setAi hx)))

theorem State.Inv.aiRequest {origin : Nat} {slip : Bool} (hs : s.Inv) : (s.aiRequest i origin slip inst).Inv := by
  unfold State.aiRequest
  exact hs.setAi.aiNext

theorem State.Inv.aiSwConv (hs : s.Inv) : (aiSwConv v s).Inv := .ite hs.aiRequest hs

theorem State.Inv.sampleAct (hs : s.Inv) : (sampleAct i s).Inv :=
  .runAct hs (fun _ _ hx => .finishAct (.ite hx.sampleOn (.ite (.aiRequest (.onlyIf hx (fun _ hy => hy.slip))) hx)))

theorem State.Inv.lhDiff (hs : s.Inv) : (lhDiff i s).Inv := by
  unfold Machine.lhDiff
  exact .ite hs.lhAgree.setBit.raise hs.lhAgree

/-! ### Span -/

theorem State.Inv.setPwf {l : List (List Word)} (hs : s.Inv) : (s.setPwf l).Inv := by
  unfold State.setPwf
  exact .wrN (.each hs.update (fun _ _ hx => hx.wr))

theorem State.Inv.pwfEnter {p : SpPost} {reason : Nat} (hs : s.Inv) : (s.pwfEnter p reason).Inv :=
  .ite hs.count.raise hs.setPwf.raise

theorem State.Inv.postDone {p : SpPost} {failed : Bool} (hs : s.Inv) : (s.postDone p failed).Inv := by
  unfold State.postDone
  exact .onlyIf hs.update (fun _ hx => .ite hx.update hx.update)

theorem State.Inv.postFailed {p : SpPost} {reason : Nat} (hs : s.Inv) : (s.postFailed p reason).Inv :=
  hs.postDone.pwfEnter

theorem State.Inv.spPush {r : SpReq} (hs : s.Inv) : (s.spPush r).Inv := hs.update

theorem State.Inv.spReply {r : SpAns} (hs : s.Inv) : (s.spReply r).Inv := hs.update

theorem State.Inv.spTag {tun : Bool} (hs : s.Inv) : (s.spTag h tun).2.Inv := by
  unfold State.spTag
  exact hs.update

theorem State.Inv.dtResult {pick : SpDt → Bool} {reason : Nat} {data : List Nat} (hs : s.Inv) :
    (s.dtResult pick reason data).Inv := by
  unfold State.dtResult
  exact hs.update

theorem State.Inv.dtSend {d : SpDt} (hs : s.Inv) : (s.dtSend d).Inv := by
  unfold State.dtSend
  exact .ite (.onlyIf hs.update (fun _ hx => hx.spanSend)) hs.update.spPush

theorem State.Inv.dtSendLink (hs : s.Inv) : (s.dtSendLink h).Inv :=
  .each hs (fun _ _ hx => (by split; exacts [hx, .ite hx.dtSend hx]))

theorem State.Inv.spanErr {reason : Nat} (hs : s.Inv) : (s.spanErr h off reason).Inv := by
  unfold State.spanErr
  exact hs.count.wrN.wrN.wrN.raise.answer

theorem State.Inv.spanRetry (hs : s.Inv) : (s.spanRetry h).Inv := hs.answer.evHalf

theorem State.Inv.spanCheck {isWrite excl : Bool} {k : State → SpanHit → State} (hs : s.Inv)
    (hf : ∀ u x, u.Inv → (k u x).Inv) : (s.spanCheck acc h off size isWrite excl k).Inv := by
  unfold State.spanCheck
  split
  exacts [hs.spanErr, .ite hs.spanErr (.ite hs.spanErr (.ite hs.spanErr (.ite hs.count.answer (hf _ _ hs))))]

theorem State.Inv.spanPost {x : SpanHit} {backlog : Nat} (hs : s.Inv) : (s.spanPost h x size l backlog).Inv := by
  unfold State.spanPost
  exact .ite hs.spanRetry
      (.ite (.onlyIf hs.update.update.answer (fun _ hx => hx.spanSend))
         (.ite hs.update.update.answer.spPush hs.update.update.answer.postFailed))

theorem State.Inv.dtDiscard {late : Nat → Bool} (hs : s.Inv) : (s.dtDiscard late).Inv := by
  unfold State.dtDiscard
  exact .each hs (fun _ _ hx => hx.update.count.raise.evHalf)

theorem State.Inv.dtCollect {d : SpDt} (hs : s.Inv) : (s.dtCollect d).Inv := by
  unfold State.dtCollect
  dsimp only
  split
  · exact hs.update
  · exact .ite (.answer (.ite_snd hs.update.update hs.update))
        (.ite hs.update.answer (.ite hs.update.answer hs.update.answer))

theorem State.Inv.dtNew {alloc : State → State} (hs : s.Inv) (hf : ∀ u, u.Inv → (alloc u).Inv) :
    (s.dtNew h alloc).Inv := .ite hs.count.spanRetry (hf _ hs.spanRetry)

theorem State.Inv.dtAlloc {d : SpDt} {x : SpanHit} (hs : s.Inv) : (s.dtAlloc d x).Inv := by
  unfold State.dtAlloc
  exact .ite hs.update.update.dtSend (.ite hs.update.update.dtSendLink hs.update.update.dtResult)

theorem State.Inv.spanAccess {mst : Nat} {data : Option (List Nat)} {excl : Bool} {backlog : Nat} (hs : s.Inv) :
    (s.spanAccess acc mst off size data excl backlog).Inv := by
  unfold State.spanAccess
  split
  · exact hs.sbRefuse
  · exact .ite hs.answer <| by
        dsimp only
        split
        · exact .ite hs.dtDiscard.dtCollect hs.dtDiscard.spanRetry
        · exact .spanCheck hs.dtDiscard fun _ _ hx =>
              (by
                split
                exacts [.ite (.dtNew hx (fun _ hy => hy.dtAlloc)) hx.spanPost, .dtNew hx (fun _ hy => hy.dtAlloc)])

theorem State.Inv.fenceRead {mst : Nat} (hs : s.Inv) : (fenceRead acc mst s).Inv := by
  unfold Machine.fenceRead
  exact .read hs fun _ _ hx =>
      (by
        split
        · exact hx.update.answer
        · dsimp only
          split
          exacts [.ite hx.dtDiscard.dtCollect hx.dtDiscard.spanRetry,
            .dtNew hx.dtDiscard (fun _ hy => .update (.onlyIf hy (fun _ hz => hz.update)))])

theorem State.Inv.takeAns {r : SpAns} (hs : s.Inv) : (s.takeAns r).Inv := hs.update

theorem State.Inv.strayAns {tun : Bool} (hs : s.Inv) : (s.strayAns tun).Inv := .onlyIf hs (fun _ hx => hx.count)

theorem State.Inv.spanCplRx {tun : Bool} (hs : s.Inv) : (spanCplRx h tun s).Inv := by
  unfold Machine.spanCplRx
  split
  exacts [hs, .ite hs.takeAns.dtResult hs.takeAns.strayAns]

theorem State.Inv.spanAckRx {tun : Bool} (hs : s.Inv) : (spanAckRx h tun s).Inv := by
  unfold Machine.spanAckRx
  split
  exacts [hs, (by dsimp only; split; exacts [hs.takeAns.postDone, hs.takeAns.strayAns])]

theorem State.Inv.spanWfailRx {tun : Bool} (hs : s.Inv) : (spanWfailRx h tun s).Inv := by
  unfold Machine.spanWfailRx
  split
  exacts [hs, (by dsimp only; split; exacts [hs.takeAns.postFailed, hs.takeAns.strayAns])]

theorem State.Inv.tunnelTimeout (hs : s.Inv) : (tunnelTimeout s).Inv := by
  unfold Machine.tunnelTimeout
  exact .ite hs (.dtResult (.each hs (fun _ _ hx => hx.postFailed)))

theorem State.Inv.spanLinkDown (hs : s.Inv) : (spanLinkDown s).Inv :=
  .ite hs (.raise (.count (.dtResult (.each hs.update (fun _ _ hx => hx.postFailed)))))

theorem State.Inv.spanClass {cls sender src : Nat} {p : List Nat} (hs : s.Inv) :
    (s.spanClass h cls sender src p).Inv := by
  unfold State.spanClass
  exact .ite hs.update
      (.ite (.ite hs.count (.ite (.ite hs.count.spanSend hs.count.spanSend) hs.spPush))
         (.ite hs.spReply (.ite hs.spReply hs.spReply)))

theorem State.Inv.spanFrameRx (hs : s.Inv) : (spanFrameRx h s).Inv := by
  unfold Machine.spanFrameRx
  split
  exacts [hs, .ite hs (.ite hs.setHostRx.barkArrives (.ite hs.setHostRx.count hs.setHostRx.spanClass))]

/-! ### Msgs -/

theorem State.Inv.setMrq {q : List (List Word)} (hs : s.Inv) : (s.setMrq m q).Inv := by
  unfold State.setMrq
  exact .wrN (.each (by split <;> exact hs.update) (fun _ _ hx => hx.wr))

theorem State.Inv.dirCount (hs : s.Inv) : (s.dirCount off).Inv := .onlyIf hs (fun _ hx => hx.count)

theorem State.Inv.mrqPush {w : List Word} (hs : s.Inv) : (s.mrqPush w).Inv := by
  unfold State.mrqPush
  dsimp only
  split
  exacts [hs.dirCount, .ite hs.dirCount hs.setMrq]

theorem State.Inv.msgOut {w : List Word} (hs : s.Inv) : (s.msgOut m w).Inv := by
  unfold State.msgOut
  exact .ite hs.dirCount.mrqPush.wrN (.ite hs.update.wrN hs.spanSend.wrN)

theorem State.Inv.msgGo (hs : s.Inv) : (msgGo m v s).Inv := .onlyIf hs (fun _ hx => hx.msgOut)

theorem State.Inv.mrqPop (hs : s.Inv) : (mrqPop m v s).Inv := .onlyIf hs (fun _ hx => hx.setMrq)

theorem State.Inv.msgReturn (hs : s.Inv) : (msgReturn s).Inv := by
  unfold Machine.msgReturn
  split
  exacts [hs, hs.update.mrqPush]

theorem State.Inv.msgBack {w : List Word} {reason : Nat} (hs : s.Inv) : (s.msgBack w reason).Inv := by
  unfold State.msgBack
  exact .ite hs.update (.ite hs.dirCount hs.spanSend)

/-! ### UnitCmd -/

theorem State.Inv.prstRegs (hs : s.Inv) : (s.prstRegs p).Inv := by
  unfold State.prstRegs
  exact hs.loseRegs.wr

theorem State.Inv.prstHidden (hs : s.Inv) : (s.prstHidden p).Inv := by
  unfold State.prstHidden
  split
  exacts [.each hs.update.refreshChan (fun _ _ hx => hx.resum), hs.resum, .each hs (fun _ _ hx => hx.resum),
    hs.update.setBit, hs.losePathStat, hs.setAdc.setBit, hs.update, hs.loseEc, hs]

theorem State.Inv.prst (hs : s.Inv) : (s.prst p).Inv := hs.prstRegs.prstHidden.cmdResult

theorem State.Inv.setFan {l : Nat} {f : Fan} (hs : s.Inv) : (s.setFan l f).Inv := hs.update

theorem State.Inv.startFan {l cmd : Nat} (hs : s.Inv) : (s.startFan acc l cmd).Inv := by
  unfold State.startFan
  exact .ite hs.cmdResult (.ite hs.cmdResult hs.setBusy.setFan)

theorem State.Inv.deliver {m cmd : Nat} (hs : s.Inv) : (s.deliver acc m cmd).Inv :=
  .ite (.ite hs.channelOn (.ite hs.channelOff hs.channelClear)) hs.startFan

theorem State.Inv.endFan {l : Nat} {f : Fan} (hs : s.Inv) : (s.endFan l f).Inv := hs.update.setBusy.cmdResult

theorem State.Inv.fanOutStep {l : Nat} (hs : s.Inv) : (fanOutStep l s).Inv := by
  unfold Machine.fanOutStep
  split
  · exact hs
  · dsimp only
    split
    exacts [hs, hs.endFan, .ite hs.setFan (.ite hs.update.deliver.update.endFan hs.update.deliver.update.setFan)]

theorem State.Inv.unitEffect {cmd : Nat} {f : State → State} (hs : s.Inv) (e : unitEffect acc p cmd = some f) :
    (f s).Inv := by
  dsimp only [Machine.unitEffect] at e
  split at e
  case h_9 => cases e
  all_goals split_ifs at e <;> cases e
  exacts [hs.channelOn, hs.channelOff, hs.channelClear, hs.startFan, hs.startFan, hs.startFan, hs.domainOn, hs.domainOff,
    hs.halfClear, hs.halfHalt, hs.halfResume, hs.portCmd, hs.portCmd, hs.canClear]

theorem State.Inv.unitCmd {cmd : Nat} (hs : s.Inv) : (unitCmd acc p cmd s).Inv :=
  .ite hs
    (.ite hs.cmdResult
       (.ite (.ite hs.cmdResult (.ite hs.domainPrst hs.prst))
          (.ite hs.cmdResult (by split; exacts [.unitEffect hs ‹_›, hs.cmdResult]))))

theorem State.Inv.unitCtrl (hs : s.Inv) : (unitCtrl acc p v s).Inv := by
  unfold Machine.unitCtrl
  dsimp only
  split
  exacts [hs, hs, .ite hs (.ite hs.setFld.clearShKey.prst hs.cmdResult), .ite hs hs.cmdResult,
    .ite hs (.ite hs.prst hs.cmdResult), .ite hs.unitCmd hs]

/-! ### BusWrite -/

theorem State.Inv.plainWrite (hs : s.Inv) : (plainWrite acc p off v s).Inv := by
  unfold Machine.plainWrite
  split
  · exact hs
  · dsimp only
    split
    exacts [hs.writeP, .ite hs.lockedWrite hs.wr, hs.wr, hs.wr, hs.wr, hs.wr, hs, hs, hs]

theorem State.Inv.ownerWrite (hs : s.Inv) : (ownerWrite acc p addr v s).Inv := by
  unfold Machine.ownerWrite
  exact .ite hs.failWrite (.ite hs.lockedWrite (.onlyIf hs.wr (fun _ hx => hx.bumpGen)))

theorem State.Inv.irqClr (hs : s.Inv) : (irqClr p v s).Inv := .onlyIf hs.wr (fun _ hx => hx.evirqRaise)

theorem State.Inv.irqForce (hs : s.Inv) : (irqForce p v s).Inv := hs.wr

theorem State.Inv.headerWrite (hs : s.Inv) : (headerWrite acc p addr off v s).Inv :=
  .ite hs.unitCtrl
    (.ite hs.ownerWrite (.ite hs.wr (.ite hs (.ite hs.wr (.ite hs.wr (.ite hs.irqClr (.ite hs.irqForce hs)))))))

theorem State.Inv.sysWrite (hs : s.Inv) : (sysWrite acc p off v s).Inv :=
  .ite_app hs.dbgEnWrite (.ite_app hs.dbgLockWrite hs.plainWrite)

theorem State.Inv.msgWrite (hs : s.Inv) : (msgWrite acc p off v s).Inv :=
  .ite_app hs.msgGo (.ite_app hs.mrqPop hs.plainWrite)

theorem State.Inv.tbWrite (hs : s.Inv) : (tbWrite acc p off v s).Inv :=
  .ite_app (.onlyIf hs (fun _ hx => hx.snapGo)) hs.plainWrite

theorem State.Inv.clkWrite (hs : s.Inv) : (clkWrite acc p off v s).Inv :=
  .ite_app hs.incLoWrite
    (.ite_app hs.incHiWrite
       (.ite_app (.ite_app hs.slewCancel (.ite_app hs.slewGo hs)) (.ite_app (.ite_app hs.ofsGo hs) hs.plainWrite)))

theorem State.Inv.tbcapWrite (hs : s.Inv) : (tbcapWrite acc p off v s).Inv :=
  .ite_app (.onlyIf hs (fun _ hx => hx.capPop)) hs.plainWrite

theorem State.Inv.hrnWrite (hs : s.Inv) : (hrnWrite acc p off v s).Inv :=
  .ite_app hs.lineWrite
    (.ite_app hs.lineWrite (.ite_app hs.gateWrite (.ite_app hs.plainWrite.evirqRaise hs.plainWrite)))

theorem State.Inv.domWrite (hs : s.Inv) : (domWrite acc p off v s).Inv :=
  .ite (.onlyIf hs (fun _ hx => hx.lineMsgGo)) (.ite hs.setBit hs.plainWrite)

theorem State.Inv.evtWrite (hs : s.Inv) : (evtWrite acc p off v s).Inv :=
  .ite_app hs.plainWrite (.ite_app hs.evtCommit hs.evtShadowWrite)

theorem State.Inv.gcfgWrite (hs : s.Inv) : (gcfgWrite acc p v s).Inv := .each hs.plainWrite (fun _ _ hx => hx.toEdge)

theorem State.Inv.tpoWrite (hs : s.Inv) : (tpoWrite acc p off v s).Inv :=
  .ite_app hs.toCtrlWrite (.ite_app hs.gcfgWrite hs.plainWrite)

theorem State.Inv.tileWrite (hs : s.Inv) : (Machine.tileWrite acc p off v s).Inv :=
  .ite_app hs.leashCtrl (.ite_app hs.trstReq (.ite_app hs.policyWrite hs.plainWrite))

theorem State.Inv.chanWrite (hs : s.Inv) : (chanWrite acc p off v s).Inv :=
  .ite_app hs.rwtWrite (.ite_app hs.policyWrite hs.plainWrite)

theorem State.Inv.sadcWrite (hs : s.Inv) : (sadcWrite acc p off v s).Inv :=
  .ite_app hs.swConv (.ite_app hs.capCtrl (.ite_app hs.fmonClr hs.plainWrite))

theorem State.Inv.cgWrite (hs : s.Inv) : (cgWrite acc p off v s).Inv := .ite_app hs.membWrite hs.plainWrite

theorem State.Inv.foCfgWrite (hs : s.Inv) : (foCfgWrite h v s).Inv := by
  unfold Machine.foCfgWrite
  exact .onlyIf hs.wr.setReady (fun _ hx => hx.silentAt)

theorem State.Inv.halfWrite (hs : s.Inv) : (halfWrite acc p off v s).Inv :=
  .ite_app hs.roleCtrl (.ite_app hs.foCfgWrite (.ite_app hs.smrWrite hs.plainWrite))

theorem State.Inv.localWrite (hs : s.Inv) : (localWrite acc p off v s).Inv :=
  .ite_app hs.barkFeed (.ite_app hs.cmpEpoch (.ite_app hs.cmpBase hs.plainWrite))

theorem State.Inv.pwrWrite (hs : s.Inv) : (pwrWrite acc p off v s).Inv :=
  .ite_app hs.stateReq (.ite_app hs.rstReq hs.plainWrite)

theorem State.Inv.pdcWrite (hs : s.Inv) : (pdcWrite acc p off v s).Inv :=
  .ite_app (.ite_app hs.pdWrite hs) (.ite_app hs.pdWrite hs.plainWrite)

theorem State.Inv.safeWrite (hs : s.Inv) : (safeWrite acc p off v s).Inv :=
  .ite hs.safeInject (.ite (.ite hs.lockedWrite hs.wr) hs.plainWrite)

theorem State.Inv.lspWrite (hs : s.Inv) : (lspWrite acc p off v s).Inv :=
  .ite_app hs.scrubGo (.ite_app hs.lsInjectWrite hs.plainWrite)

theorem State.Inv.frsvWrite (hs : s.Inv) : (frsvWrite acc p off v s).Inv :=
  .ite (.onlyIf (.onlyIf hs (fun _ hx => hx.rsvRevert)) (fun _ hx => hx.rsvCommit)) (.ite hs.wr hs.plainWrite)

theorem State.Inv.fwdWrite (hs : s.Inv) : (fwdWrite acc p off v s).Inv :=
  .ite_app hs.fdbCommit (.ite_app hs.plainWrite hs.plainWrite)

theorem State.Inv.sfltWrite (hs : s.Inv) : (sfltWrite acc p off v s).Inv := .ite_app hs.sfCommit hs.plainWrite

theorem State.Inv.mcgWrite (hs : s.Inv) : (mcgWrite acc p off v s).Inv := .ite_app hs.mgCommit hs.plainWrite

theorem State.Inv.plcaNote {p : Nat} (hs : s.Inv) : (s.plcaNote p).Inv := by
  unfold State.plcaNote
  exact .ite hs.setBit (.ite hs.setFld hs)

theorem State.Inv.portCfgWrite (hs : s.Inv) : (portCfgWrite p v s).Inv := by
  unfold Machine.portCfgWrite
  exact .ite hs (have e2 : State.Inv _ := .onlyIf hs.wr (fun _ hx => hx.update); .ite e2 e2.setAdmin)

theorem State.Inv.portWrite (hs : s.Inv) : (portWrite acc p off v s).Inv :=
  .ite_app hs.portCfgWrite (.ite_app hs.wrN (.ite_app hs.plainWrite.plcaNote (.ite_app hs.tdrGo hs.plainWrite)))

theorem State.Inv.spCfgWrite (hs : s.Inv) : (spCfgWrite v s).Inv := by
  unfold Machine.spCfgWrite
  exact .ite hs.wr hs.wr.spLinkDown

theorem State.Inv.sportWrite (hs : s.Inv) : (sportWrite acc p off v s).Inv := .ite_app hs.spCfgWrite hs.plainWrite

theorem State.Inv.linWrite (hs : s.Inv) : (linWrite acc p off v s).Inv := .ite_app hs.plainWrite hs.plainWrite

theorem State.Inv.aiWrite (hs : s.Inv) : (aiWrite acc p off v s).Inv := .ite_app hs.aiSwConv hs.plainWrite

theorem State.Inv.shareWrite (hs : s.Inv) : (shareWrite acc p off v s).Inv :=
  .ite_app hs (.ite_app hs.wrN (.ite_app hs.wrN hs.plainWrite))

theorem State.Inv.vi0Write (hs : s.Inv) : (vi0Write acc p off v s).Inv :=
  .ite_app hs.viCmd
    (.ite_app hs.update (.ite_app hs.ctxViWrite (.ite_app hs.qassignWrite (.ite_app hs.shareWrite hs.plainWrite))))

theorem State.Inv.viQueueReg (hs : s.Inv) : (viQueueReg acc n off v s).Inv :=
  .viQueueWrite hs (fun _ hx => .ite hx (.ite hx.setHq (.ite hx.setHq hx.setHq)))

theorem State.Inv.viWrite (hs : s.Inv) : (viWrite acc p off v s).Inv :=
  .ite_app hs.viQueueReg
    (.ite_app hs.qIndexWrite
       (.ite_app hs.qIndexWrite
          (.ite_app hs.doorbell
             (.ite_app (.viQueueWrite hs (fun _ hx => hx.plainWrite))
                (.ite_app (.onlyIf hs (fun _ hx => hx.csubmit)) hs.plainWrite)))))

theorem State.Inv.spanWrite (hs : s.Inv) : (spanWrite acc p off v s).Inv :=
  .ite_app (.onlyIf hs (fun _ hx => hx.setPwf)) hs.plainWrite

theorem State.Inv.windowWrite (hs : s.Inv) : (windowWrite acc p off v s).Inv := .ite hs hs.plainWrite

theorem State.Inv.intcWrite (hs : s.Inv) : (intcWrite acc p off v s).Inv :=
  .ite_app hs.sgiWrite (.ite_app (.signal hs (fun _ hx => hx.wr)) hs.plainWrite)

theorem State.Inv.intcHartWrite (hs : s.Inv) : (intcHartWrite acc p off v s).Inv :=
  .ite_app hs
    (.ite_app (.signal hs (fun _ hx => hx.plainWrite))
       (.ite_app (.ite_app (.signal hs (fun _ hx => hx.plainWrite)) hs)
          (.ite_app hs.completeWrite (.ite_app hs.completeWrite hs))))

theorem State.Inv.intcSrcWrite (hs : s.Inv) : (intcSrcWrite acc p off v s).Inv := .ite_app hs.srccfgWrite hs

theorem State.Inv.ecWrite (hs : s.Inv) : (ecWrite acc p off v s).Inv :=
  .ite_app hs.bankEnWrite
    (.ite_app (.ite hs.wr hs)
       (.ite_app hs.wrN
          (.ite_app hs
             (.ite_app hs.ecDrift.plainWrite (.ite_app hs.cntLoWrite (.ite_app hs.cntHiWrite hs.plainWrite))))))

theorem State.Inv.ciphWrite (hs : s.Inv) : (ciphWrite acc p off v s).Inv :=
  .ite_app hs.csubmit (.ite_app (.secureOnly hs (fun _ hx => .onlyIf hx (fun _ hy => hy.alarmClr))) hs.plainWrite)

theorem State.Inv.saWrite (hs : s.Inv) : (saWrite n off v s).Inv := by
  unfold Machine.saWrite
  exact .ite hs.setSa (.ite hs.setSa (.ite hs.setSa (.ite hs.update (.ite hs.update (.ite hs.update hs.setSa)))))

theorem State.Inv.msecWrite (hs : s.Inv) : (msecWrite acc p off v s).Inv :=
  .ite_app hs.saCtrl (.ite_app hs.saWrite hs.plainWrite)

theorem State.Inv.keysWrite (hs : s.Inv) : (keysWrite acc p off v s).Inv :=
  .ite_app hs.ksCommand (.ite_app hs.wr hs.plainWrite)

theorem State.Inv.vaultWrite (hs : s.Inv) : (vaultWrite acc p off v s).Inv :=
  .ite_app (.onlyIf hs (fun _ hx => hx.provision)) hs.plainWrite

theorem State.Inv.shepWrite (hs : s.Inv) : (shepWrite acc p off v s).Inv :=
  .ite_app hs.healthOk
    (.ite_app hs.minVersion
       (.ite_app hs.actGroup (.ite_app hs.plainWrite (.ite_app hs.msgGo (.ite_app hs.mrqPop hs.plainWrite)))))

theorem State.Inv.blockWrite (hs : s.Inv) : (blockWrite acc p off v s).Inv := by
  unfold Machine.blockWrite
  cases p.kind
  exacts [hs.sysWrite, hs.plainWrite, hs.plainWrite, hs.msgWrite, hs.tbWrite, hs.clkWrite, hs.plainWrite,
    hs.tbcapWrite, hs.hrnWrite, hs.domWrite, hs.evtWrite, hs.tpoWrite, hs.tileWrite, hs.chanWrite, hs.sadcWrite,
    hs.cgWrite, hs.halfWrite, hs.localWrite, hs.pwrWrite, hs.pdcWrite, hs.safeWrite, hs.lspWrite, hs.plainWrite,
    hs.frsvWrite, hs.plainWrite, hs.fwdWrite, hs.sfltWrite, hs.mcgWrite, hs.plainWrite, hs.plainWrite, hs.portWrite,
    hs.sportWrite, hs.plainWrite, hs.plainWrite, hs.linWrite, hs.plainWrite, hs.aiWrite, hs.plainWrite,
    hs.plainWrite, hs.plainWrite, hs.vi0Write, hs.viWrite, hs.spanWrite, hs.windowWrite, hs.windowWrite,
    hs.intcWrite, hs.intcSrcWrite, hs.intcHartWrite, hs.plainWrite, hs.ecWrite, hs.ciphWrite, hs.plainWrite,
    hs.plainWrite, hs.plainWrite, hs.msecWrite, hs.keysWrite, hs.vaultWrite, hs.shepWrite, hs.plainWrite]

theorem State.Inv.pageWrite (hs : s.Inv) : (pageWrite acc addr v s).Inv := by
  unfold Machine.pageWrite
  split
  exacts [hs, .ite hs.headerWrite (.ite hs hs.blockWrite)]

theorem State.Inv.regWriteSized (hs : s.Inv) : (regWriteSized acc size addr v s).Inv :=
  .write hs (fun _ _ hx => hx.pageWrite)

theorem State.Inv.regWrite (hs : s.Inv) : (regWrite acc addr v s).Inv := hs.regWriteSized

theorem State.Inv.cmdWrite {page cmd : Nat} (hs : s.Inv) : (cmdWrite acc page cmd s).Inv := hs.regWrite

/-! ### BusRead -/

theorem State.Inv.readClear (hs : s.Inv) : (readClear acc p k s).Inv := by
  unfold Machine.readClear
  exact .answer (.onlyIf hs (fun _ hx => hx.wrN))

theorem State.Inv.readBufMin (hs : s.Inv) : (readBufMin acc p s).Inv := by
  unfold Machine.readBufMin
  exact .answer (.onlyIf hs (fun _ hx => hx.wrN))

theorem State.Inv.readQDrop (hs : s.Inv) : (readQDrop acc n s).Inv := by
  unfold Machine.readQDrop
  exact .ite hs.answer (.answer (.onlyIf hs (fun _ hx => hx.setHq)))

theorem State.Inv.healthStat (hs : s.Inv) : s.healthStat.2.Inv := by
  unfold State.healthStat
  split
  exacts [.mk_snd hs.roundOpen, .mk_snd hs]

theorem State.Inv.readEffect {f : State → State} (hs : s.Inv) (e : readEffect acc p off = some f) : (f s).Inv := by
  dsimp only [Machine.readEffect] at e
  split at e
  case h_9 => cases e
  all_goals split_ifs at e <;> cases e
  exacts [hs.phaseRead, hs.capDataRead, hs.readBufMin, hs.readQDrop, hs.claimRead, hs.claimRead, hs.hartWorld.answer,
    hs.readCntLo.answer, hs.answer, hs.answer, .ite hs.update.answer hs.setBit.answer,
    hs.healthStat.answer]

theorem State.Inv.tileServe {unit : Nat} (hs : s.Inv) : (tileServe acc t unit addr off s).Inv := by
  unfold Machine.tileServe
  split
  exacts [hs.update.readEnds, .ite hs.readEnds (.ite hs.answer hs.answer.rwAccess)]

theorem State.Inv.presentAgain (hs : s.Inv) : (s.presentAgain acc addr).Inv := by
  unfold State.presentAgain
  split
  exacts [hs, hs.setTc]

theorem State.Inv.pageRead (hs : s.Inv) : (pageRead acc addr s).Inv := by
  unfold Machine.pageRead
  split
  · exact hs.answer
  · dsimp only
    split
    · exact hs.answer
    · refine .ite hs.answer (.ite hs.answer (.ite hs.answer ?_))
      split
      · exact .readEffect hs ‹_›
      · split
        · exact hs.answer
        · refine .ite hs.answer (.ite hs.readClear ?_)
          split
          exacts [.ite hs.tileServe hs.answer, hs.answer]

theorem State.Inv.regReadSized (hs : s.Inv) : (regReadSized acc size addr s).Inv :=
  .ite hs.fenceRead (.read hs (fun _ _ hx => hx.pageRead))

theorem State.Inv.regRead (hs : s.Inv) : (regRead acc addr s).Inv := hs.regReadSized

/-! ### DirIn -/

theorem State.Inv.msgReply {w : List Word} (hs : s.Inv) : (s.msgReply w p).Inv := by
  unfold State.msgReply
  exact .ite hs.update.update (.ite hs.update.dirCount.mrqPush hs.update.spanSend)

theorem State.Inv.msgExecute {w : List Word} (hs : s.Inv) : (s.msgExecute w p).Inv := by
  unfold State.msgExecute
  dsimp only
  split
  exacts [.onlyIf (.update (.ite hs.ev.unitCtrl hs.ev)) (fun _ hx => hx.msgReply), hs.ev.msgReply, hs.ev]

theorem State.Inv.msgArrive (hs : s.Inv) : (msgArrive s).Inv := by
  unfold Machine.msgArrive
  split
  · exact hs
  · exact .ite (.ite hs.update.update hs.update.dirCount)
        (.ite hs.update.dirCount.msgBack
           (by
             split
             exacts [hs.update.dirCount.msgBack,
               .ite hs.update.msgExecute (.msgBack (.onlyIf hs.update.dirCount.ev (fun _ hx => hx.raise)))]))

/-! ### SpanIn -/

theorem State.Inv.spReg {r : SpReq} (hs : s.Inv) : (s.spReg r acc addr).1.Inv := by
  unfold State.spReg
  extract_lets back w t
  have hb {u : State} (hu : u.Inv) : (back u).Inv := hu.update
  have ht : t.Inv := .ite hs.regReadSized hs.regWriteSized
  clear_value back t
  split
  · exact hs
  · refine .ite_fst (.mk_fst hs.ownerViol) ?_
    cases t.resp
    case stalled => exact .mk_fst (.ite (hb ht.presentAgain) hs)
    all_goals exact .mk_fst (hb ht)

theorem State.Inv.spMem {r : SpReq} {sec : Bool} {target : Nat} {ok : Bool} {data : List Nat} (hs : s.Inv) :
    (s.spMem r sec target addr ok data).1.Inv := by
  unfold State.spMem
  exact .ite_fst hs <| by
      split
      exacts [.ite_fst hs (.each hs (fun _ _ hx => hx.codePut)), .ite_fst hs (.each hs (fun _ _ hx => hx.emit))]

theorem State.Inv.spPerform {r : SpReq} {ok : Bool} {data : List Nat} (hs : s.Inv) :
    (s.spPerform r ok data).1.Inv := by
  unfold State.spPerform
  split
  exacts [hs.count, .ite_fst hs.count (.ite_fst hs.spReg hs.spMem)]

theorem State.Inv.spAnswer {r : SpReq} {reason : Nat} {data : List Nat} (hs : s.Inv) :
    (s.spAnswer r reason data).Inv := by
  unfold State.spAnswer
  exact .ite (.ite hs.spanSend (.ite hs.spanSend hs.spanSend)) hs.spReply

theorem State.Inv.spanRequestRx {buf : Nat} {ok : Bool} {data : List Nat} (hs : s.Inv) :
    (spanRequestRx buf ok data s).Inv := by
  unfold Machine.spanRequestRx
  dsimp only
  split
  · exact hs
  · exact .ite hs <| by
        split
        · exact .of_fst hs.spPerform ‹_›
        · exact .ite (.spAnswer (.update (.of_fst hs.spPerform ‹_›)))
              (.dtSendLink (.spAnswer (.update (.of_fst hs.spPerform ‹_›))))

/-! ### Isp -/

theorem State.Inv.spSend {da pay : List Nat} (hs : s.Inv) : (s.spSend da pay).Inv := .onlyIf hs (fun _ hx => hx.emit)

theorem State.Inv.fabricSend {da : Nat} {pay : List Nat} (hs : s.Inv) : (s.fabricSend da pay).Inv := by
  unfold State.fabricSend
  exact .onlyIf hs (fun _ hx => hx.setHostTx)

theorem State.Inv.ispDrop (hs : s.Inv) : s.ispDrop.Inv := hs.count

theorem State.Inv.setSession {num : Nat} {f : Session → Session} (hs : s.Inv) : (s.setSession num f).Inv := hs.update

theorem State.Inv.plainReply {r : IspReq} {session status : Nat} {pay : List Nat} (hs : s.Inv) :
    (s.plainReply r session status pay).Inv := hs.spSend

theorem State.Inv.sessionReply {r : IspReq} {x : Session} {status : Nat} {pay : List Nat} (hs : s.Inv) :
    (s.sessionReply r x status pay).Inv := hs.spSend

theorem State.Inv.ispReply {r : IspReq} {x : Session} {status : Nat} {pay : List Nat} (hs : s.Inv) :
    (s.ispReply r x status pay).Inv := by
  unfold State.ispReply
  exact hs.setSession.spSend.count

theorem State.Inv.ispRefuse {u : State} {r : IspReq} {f : State → State} (hs : s.Inv) (e : u.ispRefuse r = some f) :
    (f s).Inv := by
  unfold State.ispRefuse at e
  split at e
  · dsimp only at e
    split_ifs at e <;> cases e
    exacts [hs.ispDrop, hs.plainReply.count, hs.plainReply.count, hs.plainReply.count, hs.plainReply.count,
      hs.plainReply.count]
  · split at e
    · split_ifs at e <;> cases e
      exacts [hs.plainReply, hs.ispDrop]
    · dsimp only at e
      split_ifs at e <;> cases e
      exacts [hs.ispDrop, hs.spSend, hs.sessionReply, hs.ispReply, hs.ispReply, hs.ispReply, hs.sessionReply, hs.ispReply]

theorem State.Inv.ispAdvance {fuel : Nat} (hs : s.Inv) : (s.ispAdvance fuel).Inv := by
  induction fuel generalizing s with
  | zero => exact hs
  | succ fuel ih =>
    unfold State.ispAdvance
    split
    · split
      · exact ih (State.Inv.ispRefuse hs.update ‹_›)
      · exact hs
    · exact hs

theorem State.Inv.ispDispose (hs : s.Inv) : s.ispDispose.Inv := hs.ispAdvance

theorem State.Inv.ispServe {f : State → IspReq → State} (hs : s.Inv) (hf : ∀ u x, u.Inv → (f u x).Inv) :
    (s.ispServe c f).Inv := by
  unfold State.ispServe
  dsimp only
  split
  exacts [.ite (.ispDispose (hf _ _ hs.ispDispose.update)) hs.ispDispose, hs.ispDispose]

theorem State.Inv.ispExec {f : State → IspReq → Session → State} (hs : s.Inv) (hf : ∀ u r x, u.Inv → (f u r x).Inv) :
    (s.ispExec c f).Inv := .ispServe hs (fun _ _ hx => (by split; exacts [hf _ _ _ hx, hx]))

theorem State.Inv.ispTake {fabric : Bool} {src : List Nat} (hs : s.Inv) : (s.ispTake fabric src l).Inv := by
  unfold State.ispTake
  exact .ite hs
      (.ite (.ite hs (.ite hs.ispDrop hs.update.ispDispose))
         (.ite hs (.ite (.ite hs.update hs.ispDrop) (.ite (.ite hs.update hs.ispDrop) hs.ispDrop))))

theorem State.Inv.spFrameRx (hs : s.Inv) : (spFrameRx l s).Inv := .ite hs (.ite hs.ispDrop hs.ispTake)

theorem State.Inv.fabricIspRx (hs : s.Inv) : (fabricIspRx h s).Inv := by
  unfold Machine.fabricIspRx
  dsimp only
  split
  exacts [hs, .ite hs (.ispTake (.ite hs.update hs.update))]

theorem State.Inv.hello (hs : s.Inv) : (hello s).Inv :=
  .ispServe hs (fun _ _ hx => hx.update.update.update.plainReply.count)

theorem State.Inv.auth (hs : s.Inv) : (auth s).Inv :=
  .ispExec hs (fun _ _ _ hx => .ite hx.setSession.update.raise.ispReply hx.update.count.raise.sessionReply)

theorem State.Inv.close (hs : s.Inv) : (close s).Inv := .ispExec hs (fun _ _ _ hx => hx.ispReply.dropSessions)

theorem State.Inv.ping (hs : s.Inv) : (ping s).Inv := .ispExec hs (fun _ _ _ hx => hx.ispReply)

theorem State.Inv.authTimeout {num : Nat} (hs : s.Inv) : (authTimeout num s).Inv := hs.dropSessions.ispDispose

theorem State.Inv.authLockExpiry (hs : s.Inv) : (authLockExpiry s).Inv := .ite hs.update hs

theorem State.Inv.sessionTimeout {num : Nat} (hs : s.Inv) : (sessionTimeout num s).Inv := hs.dropSessions.ispDispose

theorem State.Inv.shepRestartNow (hs : s.Inv) : (shepRestartNow s).Inv := .ite hs.shepRestart.stageOff.record hs

/-! ### Service -/

theorem State.Inv.regReadRun {l : List Word} (hs : s.Inv) : (regReadRun acc n addr l s).2.2.Inv := by
  induction n generalizing s addr l with
  | zero => exact hs
  | succ n ih =>
    unfold Machine.regReadRun
    extract_lets s1
    have h1 : s1.Inv := hs.regRead
    split
    · exact h1.presentAgain
    · split
      exacts [ih h1, h1]

theorem State.Inv.regWriteRun {reach : Nat → Bool} {ws : List Word} (hs : s.Inv) :
    (regWriteRun acc reach ws addr n s).2.2.Inv := by
  induction ws generalizing s addr n with
  | nil => exact hs
  | cons w ws ih =>
    unfold Machine.regWriteRun
    extract_lets s1
    have h1 : s1.Inv := .ite hs.regWrite hs.sbRefuse
    split
    exacts [ih h1, h1]

theorem State.Inv.ispRegRead (hs : s.Inv) : (ispRegRead s).Inv :=
  .ispExec hs fun _ _ _ hx => (by dsimp only; split; exacts [hx.regReadRun.update.update, hx.regReadRun.update.update.ispReply])

theorem State.Inv.ispRegWrite (hs : s.Inv) : (ispRegWrite s).Inv :=
  .ispExec hs (fun _ _ _ hx => hx.regWriteRun.update.ispReply)

theorem State.Inv.dmRead (hs : s.Inv) : (dmRead s).Inv := .ispExec hs (fun _ _ _ hx => hx.update.ispReply)

theorem State.Inv.dmWrite (hs : s.Inv) : (dmWrite s).Inv :=
  .ispExec hs (fun _ _ _ hx => .ispReply (.onlyIf hx (fun _ hy => hy.emit)))

theorem State.Inv.ispMsgSend (hs : s.Inv) : (ispMsgSend s).Inv :=
  .ispExec hs (fun _ _ _ hx => .ispReply (.msgGo (.each hx (fun _ _ hy => hy.wr))))

theorem State.Inv.msgPoll (hs : s.Inv) : (msgPoll s).Inv := .ispExec hs (fun _ _ _ hx => hx.mrqPop.ispReply)

theorem State.Inv.storesUp (hs : s.Inv) : s.storesUp.Inv := .each hs (fun _ _ hx => .ite hx hx.setGateSt)

theorem State.Inv.stageOpen (hs : s.Inv) : (stageOpen s).Inv :=
  .ispExec hs fun _ _ _ hx =>
    (by
      dsimp only
      split
      · exact hx.ispReply
      · exact .ite hx.ispReply
            (.ite hx.ispReply
               (.ite hx.ispReply (.ispReply (.setTarget (.update (.onlyIf hx (fun _ hy => hy.storesUp))))))))

theorem State.Inv.stageData {ok : Bool} (hs : s.Inv) : (stageData ok s).Inv :=
  .ispExec hs (fun _ _ _ hx => .ite hx.ispReply (.ite hx.ispReply (.ite hx.ispReply hx.update.stagePut.ispReply)))

theorem State.Inv.stageClose (hs : s.Inv) : (stageClose s).Inv :=
  .ispExec hs (fun _ _ _ hx => .ite hx.ispReply (.ite hx.stageRelease.stageOff.ispReply hx.update.setTarget))

theorem State.Inv.stagedVersion (hs : s.Inv) : (s.stagedVersion v).Inv := .ite hs.update hs.update.hwP

theorem State.Inv.stageFree (hs : s.Inv) : s.stageFree.Inv := hs.update.stageOff

theorem State.Inv.stageVerifyDone {same : Bool} (hs : s.Inv) : (stageVerifyDone same s).Inv := by
  unfold Machine.stageVerifyDone
  split
  · exact hs
  · dsimp only
    split
    · exact hs.update.ispDispose
    · exact .ispDispose
          (.ite hs.update.ispReply
             (.ite hs.update.stageRelease.stageOff.ispReply
                (.ite hs.update.stageRelease.stageOff.ispReply hs.update.setTarget.stagedVersion.stageFree.ispReply)))

theorem State.Inv.stageAbort (hs : s.Inv) : (stageAbort s).Inv :=
  .ispExec hs (fun _ _ _ hx => .ite hx.ispReply hx.stageRelease.stageOff.ispReply)

theorem State.Inv.stageStatus (hs : s.Inv) : (stageStatus s).Inv := .ispExec hs (fun _ _ _ hx => hx.ispReply)

theorem State.Inv.stageLockTimeout (hs : s.Inv) : (stageLockTimeout s).Inv := .ite hs hs.stageRelease.stageOff

/-! ### Activation -/

theorem State.Inv.whistleAck {own : Bool} {result : Nat} (hs : s.Inv) : (s.whistleAck own l result).Inv :=
  .onlyIf hs (fun _ hx => hx.fabricSend)

theorem State.Inv.arm (hs : s.Inv) : (s.arm l).Inv := by
  unfold State.arm
  exact hs.hwP.hwP.hwP.hwP.hwP.setActState.raise

theorem State.Inv.whistleAct {own : Bool} (hs : s.Inv) : (s.whistleAct own l).Inv := by
  unfold State.whistleAct
  exact .ite hs
      (.ite hs.count
         (.ite hs.raise
            (.ite (.ite hs.raise.setActState.actResult.update.whistleAck hs.raise)
               (.ite hs.raise.update.whistleAck (.ite hs.raise.update.whistleAck hs.raise.update.arm.whistleAck)))))

theorem State.Inv.originate {r : IspReq} {x : Session} (hs : s.Inv) : (s.originate r x l).Inv := by
  unfold State.originate
  exact hs.ispReply.update.whistleAct

theorem State.Inv.armActivation (hs : s.Inv) : (armActivation s).Inv :=
  .ispExec hs (fun _ _ _ hx => .ite hx.ispReply (.ite hx.ispReply (.ite hx.ispReply (.ite hx.ispReply hx.originate))))

theorem State.Inv.disarm (hs : s.Inv) : (disarm s).Inv :=
  .ispExec hs (fun _ _ _ hx => .ite hx.ispReply (.ite hx.ispReply hx.originate))

theorem State.Inv.actStatus (hs : s.Inv) : (actStatus s).Inv := .ispExec hs (fun _ _ _ hx => hx.ispReply)

theorem State.Inv.switchSlot {left : Nat} (hs : s.Inv) : (s.switchSlot left).Inv := by
  unfold State.switchSlot
  exact hs.hwP.update.hwP

theorem State.Inv.recover (hs : s.Inv) : (recover s).Inv :=
  .ispExec hs fun _ _ _ hx =>
    .ite hx.ispReply
      (.ite hx.ispReply
         (.ite hx.ispReply
            (.reset? (.showStage (.update (.onlyIf hx.ispReply.dropSessions.setActState (fun _ hy => hy.switchSlot)))))))

theorem State.Inv.whistleSend (hs : s.Inv) : (whistleSend s).Inv := by
  unfold Machine.whistleSend
  split
  exacts [hs, hs.update.spSend.fabricSend]

theorem State.Inv.whistleRx (hs : s.Inv) : (whistleRx s).Inv := by
  unfold Machine.whistleRx
  split
  exacts [hs, hs.update.whistleAct]

theorem State.Inv.whistleAckRx (hs : s.Inv) : (whistleAckRx s).Inv := by
  unfold Machine.whistleAckRx
  split
  exacts [hs, .ite hs.update.countFld hs.update]

theorem State.Inv.activationInstant (hs : s.Inv) : (activationInstant s).Inv :=
  .ite hs
    (.ite hs.setActState.actResult
       (.ite hs.setActState.actResult hs.setActState.setActState.switchSlot.update.showStage.reset?))

theorem State.Inv.bootVerify {head digest : List Nat} {same : Bool} (hs : s.Inv) :
    (bootVerify head digest same s).Inv :=
  .ite hs (.ite hs.enterDead (.ite (.update (.each hs (fun _ _ hx => hx.wr))) hs.actResult.enterDead))

theorem State.Inv.healthWindowExpiry (hs : s.Inv) : (healthWindowExpiry s).Inv := by
  unfold Machine.healthWindowExpiry
  split
  exacts [.ite hs.actResult.enterDead hs, hs]

end Sys2Proof.Machine
end

section
/-! PROOFS. Every command runs and keeps the canonical form; so does every step. -/

namespace Sys2Proof.Machine

/-- Every command runs, and keeps the register file in canonical form. -/
theorem exec_keeps (i : Instr) (s : State) : ∃ t, Runs i s t ∧ (s.Inv → t.Inv) := by
  cases i with
  | registerWrite => exact ⟨_, rfl, fun hs => by split; exacts [hs.codeWrite, hs.regWriteSized]⟩
  | rcRead => exact ⟨_, rfl, fun hs => by split; exacts [hs.codeRead, hs.regReadSized]⟩
  | ownerWrite => exact ⟨_, rfl, fun hs => hs.regWrite⟩
  | lockWrite => exact ⟨_, rfl, fun hs => hs.regWrite⟩
  | irqClr => exact ⟨_, rfl, fun hs => hs.regWrite⟩
  | irqForce => exact ⟨_, rfl, fun hs => hs.regWrite⟩
  | unitNop => exact ⟨_, rfl, fun hs => hs.cmdWrite⟩
  | unitCmdReserved => exact ⟨_, rfl, fun hs => hs.cmdWrite⟩
  | unitPrst => exact ⟨_, rfl, fun hs => hs.cmdWrite⟩
  | unitUnsupported => exact ⟨_, rfl, fun hs => hs.cmdWrite⟩
  | compositeCmd => exact ⟨_, rfl, fun hs => hs.cmdWrite⟩
  | fanOutStep => exact ⟨_, rfl, fun hs => hs.fanOutStep⟩
  | channelOn => exact ⟨_, rfl, fun hs => .write hs (fun _ _ hx => hx.channelOn)⟩
  | channelOff => exact ⟨_, rfl, fun hs => .write hs (fun _ _ hx => hx.channelOff)⟩
  | channelClear => exact ⟨_, rfl, fun hs => .write hs (fun _ _ hx => hx.channelClear)⟩
  | domainOn => exact ⟨_, rfl, fun hs => .write hs (fun _ _ hx => hx.domainOn)⟩
  | domainOff => exact ⟨_, rfl, fun hs => .write hs (fun _ _ hx => hx.domainOff)⟩
  | domainPrst => exact ⟨_, rfl, fun hs => .write hs (fun _ _ hx => hx.domainPrst)⟩
  | halfHalt => exact ⟨_, rfl, fun hs => .write hs (fun _ _ hx => hx.halfHalt)⟩
  | halfResume => exact ⟨_, rfl, fun hs => .write hs (fun _ _ hx => hx.halfResume)⟩
  | halfClear => exact ⟨_, rfl, fun hs => .write hs (fun _ _ hx => hx.halfClear)⟩
  | portOn => exact ⟨_, rfl, fun hs => .write hs (fun _ _ hx => hx.portCmd)⟩
  | portOff => exact ⟨_, rfl, fun hs => .write hs (fun _ _ hx => hx.portCmd)⟩
  | canClear => exact ⟨_, rfl, fun hs => .write hs (fun _ _ hx => hx.canClear)⟩
  | msgSend => exact ⟨_, rfl, fun hs => .write hs (fun _ _ hx => hx.msgGo)⟩
  | mrqPop => exact ⟨_, rfl, fun hs => .write hs (fun _ _ hx => hx.mrqPop)⟩
  | msgArrive => exact ⟨_, rfl, fun hs => hs.msgArrive⟩
  | msgReturn => exact ⟨_, rfl, fun hs => hs.msgReturn⟩
  | clockTick => exact ⟨_, rfl, fun hs => hs.clockTick⟩
  | incLoWrite => exact ⟨_, rfl, fun hs => .write hs (fun _ _ hx => hx.incLoWrite)⟩
  | incHiWrite => exact ⟨_, rfl, fun hs => .write hs (fun _ _ hx => hx.incHiWrite)⟩
  | incCommit => exact ⟨_, rfl, fun hs => hs.incCommit⟩
  | slewGo => exact ⟨_, rfl, fun hs => .write hs (fun _ _ hx => hx.slewGo)⟩
  | slewCancel => exact ⟨_, rfl, fun hs => .write hs (fun _ _ hx => hx.slewCancel)⟩
  | slewDone => exact ⟨_, rfl, fun hs => hs.slewDone⟩
  | ofsGo => exact ⟨_, rfl, fun hs => .write hs (fun _ _ hx => hx.ofsGo)⟩
  | offsetApply => exact ⟨_, rfl, fun hs => hs.offsetApply⟩
  | snapGo => exact ⟨_, rfl, fun hs => .write hs (fun _ _ hx => hx.snapGo)⟩
  | snapLatch => exact ⟨_, rfl, fun hs => hs.snapLatch⟩
  | capPop => exact ⟨_, rfl, fun hs => .write hs (fun _ _ hx => hx.capPop)⟩
  | timeEpochReached => exact ⟨_, rfl, fun hs => hs.timeEpochReached⟩
  | encEdge => exact ⟨_, rfl, fun hs => hs.encEdge⟩
  | lsEdge => exact ⟨_, rfl, fun hs => hs.lsEdge⟩
  | lineMsgGo => exact ⟨_, rfl, fun hs => .write hs (fun _ _ hx => .onlyIf hx (fun _ hy => hy.lineMsgGo))⟩
  | domainHold => exact ⟨_, rfl, fun hs => hs.domainHold⟩
  | stallTimeout => exact ⟨_, rfl, fun hs => hs.stallTimeout⟩
  | evtShadowWrite => exact ⟨_, rfl, fun hs => .write hs (fun _ _ hx => hx.evtShadowWrite)⟩
  | evtCommit => exact ⟨_, rfl, fun hs => .write hs (fun _ _ hx => hx.evtCommit)⟩
  | eventEvaluate => exact ⟨_, rfl, fun hs => hs.eventEvaluate⟩
  | actionSet => exact ⟨_, rfl, fun hs => hs.lineAct⟩
  | actionClear => exact ⟨_, rfl, fun hs => hs.lineAct⟩
  | actionToggle => exact ⟨_, rfl, fun hs => hs.lineAct⟩
  | actionOpen => exact ⟨_, rfl, fun hs => hs.openAct⟩
  | actionClose => exact ⟨_, rfl, fun hs => hs.closeAct⟩
  | actionPulse => exact ⟨_, rfl, fun hs => hs.pulseAct⟩
  | pulseEnd => exact ⟨_, rfl, fun hs => hs.pulseEnd⟩
  | actionSample => exact ⟨_, rfl, fun hs => hs.sampleAct⟩
  | actionIrq => exact ⟨_, rfl, fun hs => hs.irqAct⟩
  | actionChain => exact ⟨_, rfl, fun hs => hs.chainAct⟩
  | lineSet => exact ⟨_, rfl, fun hs => .write hs (fun _ _ hx => hx.lineWrite)⟩
  | lineClr => exact ⟨_, rfl, fun hs => .write hs (fun _ _ hx => hx.lineWrite)⟩
  | gateStateWrite => exact ⟨_, rfl, fun hs => .write hs (fun _ _ hx => hx.gateWrite)⟩
  | toArm => exact ⟨_, rfl, fun hs => .write hs (fun _ _ hx => hx.toCtrlWrite)⟩
  | toDisarm => exact ⟨_, rfl, fun hs => .write hs (fun _ _ hx => hx.toCtrlWrite)⟩
  | phaseRead => exact ⟨_, rfl, fun hs => .read hs (fun _ _ hx => hx.phaseRead)⟩
  | tclKeepalive => exact ⟨_, rfl, fun hs => hs.tclFrame⟩
  | tclClaim => exact ⟨_, rfl, fun hs => hs.tclFrame⟩
  | tclRenew => exact ⟨_, rfl, fun hs => hs.tclFrame⟩
  | tclWrite => exact ⟨_, rfl, fun hs => hs.tclFrame⟩
  | tclRead => exact ⟨_, rfl, fun hs => hs.tclFrame⟩
  | tclPark => exact ⟨_, rfl, fun hs => hs.tclFrame⟩
  | tclTrst => exact ⟨_, rfl, fun hs => hs.tclFrame⟩
  | tclBadFrame => exact ⟨_, rfl, fun hs => hs.tclBadFrame⟩
  | storedReplyDiscard => exact ⟨_, rfl, fun hs => hs.storedDiscard⟩
  | replyStatus => exact ⟨_, rfl, fun hs => hs.replyStatus⟩
  | replyAck => exact ⟨_, rfl, fun hs => hs.replyAck⟩
  | replyData => exact ⟨_, rfl, fun hs => hs.replyData⟩
  | replyNack => exact ⟨_, rfl, fun hs => hs.replyNack⟩
  | replyTimeout => exact ⟨_, rfl, fun hs => hs.replyTimeout⟩
  | leashStayEntry => exact ⟨_, rfl, fun hs => hs.stayEntry⟩
  | leashLossEntry => exact ⟨_, rfl, fun hs => hs.lossEntry⟩
  | takeInstant => exact ⟨_, rfl, fun hs => hs.takeInstant⟩
  | trstTakeEffect => exact ⟨_, rfl, fun hs => hs.trstEffect⟩
  | tilePowerUp => exact ⟨_, rfl, fun hs => hs.powerUp⟩
  | tileBrownout => exact ⟨_, rfl, fun hs => hs.brownout⟩
  | feedBandChange => exact ⟨_, rfl, fun hs => hs.bandChange⟩
  | supplySample => exact ⟨_, rfl, fun hs => hs.supplySample⟩
  | lhInputChange => exact ⟨_, rfl, fun hs => hs.lhChange⟩
  | inEdge => exact ⟨_, rfl, fun hs => hs.inEdge⟩
  | leashCtrlClaim => exact ⟨_, rfl, fun hs => .write hs (fun _ _ hx => hx.leashCtrl)⟩
  | leashCtrlRenew => exact ⟨_, rfl, fun hs => .write hs (fun _ _ hx => hx.leashCtrl)⟩
  | leashCtrlPark => exact ⟨_, rfl, fun hs => .write hs (fun _ _ hx => hx.leashCtrl)⟩
  | trstReq => exact ⟨_, rfl, fun hs => .write hs (fun _ _ hx => hx.trstReq)⟩
  | rwtWrite => exact ⟨_, rfl, fun hs => .write hs (fun _ _ hx => hx.rwtWrite)⟩
  | policyWrite => exact ⟨_, rfl, fun hs => .write hs (fun _ _ hx => hx.policyWrite)⟩
  | keepaliveTimer => exact ⟨_, rfl, fun hs => hs.keepaliveTimer⟩
  | mirrorReload => exact ⟨_, rfl, fun hs => hs.mirrorReload⟩
  | leashPoll => exact ⟨_, rfl, fun hs => hs.rwOwn⟩
  | mirrorRefresh => exact ⟨_, rfl, fun hs => hs.mirrorRefresh⟩
  | fastTrip => exact ⟨_, rfl, fun hs => hs.fastTrip⟩
  | digitalTrip => exact ⟨_, rfl, fun hs => hs.digitalTrip⟩
  | inrushWindowClose => exact ⟨_, rfl, fun hs => hs.inrushClose⟩
  | thermalLatch => exact ⟨_, rfl, fun hs => hs.thermalLatch⟩
  | junctionThreshold => exact ⟨_, rfl, fun hs => hs.junctionThreshold⟩
  | retryTimerExpiry => exact ⟨_, rfl, fun hs => hs.retryExpiry⟩
  | cleanTimeExpiry => exact ⟨_, rfl, fun hs => hs.cleanExpiry⟩
  | protClrTh => exact ⟨_, rfl, fun hs => hs.protClrBit⟩
  | protClrOc => exact ⟨_, rfl, fun hs => hs.protClrBit⟩
  | protClrRetry => exact ⟨_, rfl, fun hs => hs.protClrBit⟩
  | protClrDiag => exact ⟨_, rfl, fun hs => hs.protClrBit⟩
  | olOnDetect => exact ⟨_, rfl, fun hs => hs.olOn⟩
  | revDetect => exact ⟨_, rfl, fun hs => hs.revDetect⟩
  | offDiagStart => exact ⟨_, rfl, fun hs => hs.offDiagStart⟩
  | offDiagPhase1End => exact ⟨_, rfl, fun hs => hs.offDiagEnd1⟩
  | offDiagPhase2End => exact ⟨_, rfl, fun hs => hs.offDiagEnd2⟩
  | conversionHold => exact ⟨_, rfl, fun hs => hs.conversionHold⟩
  | conversionResult => exact ⟨_, rfl, fun hs => hs.conversionResult⟩
  | swConv => exact ⟨_, rfl, fun hs => .write hs (fun _ _ hx => hx.swConv)⟩
  | bgScanStart => exact ⟨_, rfl, fun hs => hs.bgScanStart⟩
  | capArm => exact ⟨_, rfl, fun hs => .write hs (fun _ _ hx => hx.capCtrl)⟩
  | capAbort => exact ⟨_, rfl, fun hs => .write hs (fun _ _ hx => hx.capCtrl)⟩
  | capDone => exact ⟨_, rfl, fun hs => hs.capDone⟩
  | capDataRead => exact ⟨_, rfl, fun hs => .read hs (fun _ _ hx => hx.capDataRead)⟩
  | fmonSample => exact ⟨_, rfl, fun hs => hs.fmonSample⟩
  | fmonClr => exact ⟨_, rfl, fun hs => .write hs (fun _ _ hx => hx.fmonClr)⟩
  | membAdd => exact ⟨_, rfl, fun hs => .write hs (fun _ _ hx => hx.membWrite)⟩
  | membRemove => exact ⟨_, rfl, fun hs => .write hs (fun _ _ hx => hx.membWrite)⟩
  | membApply => exact ⟨_, rfl, fun hs => hs.membApply⟩
  | distItem => exact ⟨_, rfl, fun hs => hs.distItem⟩
  | barkFeed => exact ⟨_, rfl, fun hs => .write hs (fun _ _ hx => (by split; exacts [hx.barkFeed, hx]))⟩
  | barkSend => exact ⟨_, rfl, fun hs => hs.barkSend⟩
  | barkReceive => exact ⟨_, rfl, fun hs => hs.barkArrives⟩
  | echoReceive => exact ⟨_, rfl, fun hs => hs.echoReceive⟩
  | barkMissTimer => exact ⟨_, rfl, fun hs => hs.barkMiss⟩
  | takeoverGrant => exact ⟨_, rfl, fun hs => hs.takeoverGrant⟩
  | takeoverClaim => exact ⟨_, rfl, fun hs => hs.takeoverClaim⟩
  | roleSwap => exact ⟨_, rfl, fun hs => .write hs (fun _ _ hx => hx.roleCtrl)⟩
  | roleAssume => exact ⟨_, rfl, fun hs => .write hs (fun _ _ hx => hx.roleCtrl)⟩
  | resyncReq => exact ⟨_, rfl, fun hs => .write hs (fun _ _ hx => hx.roleCtrl)⟩
  | resyncAbort => exact ⟨_, rfl, fun hs => .write hs (fun _ _ hx => hx.roleCtrl)⟩
  | cmpEpoch => exact ⟨_, rfl, fun hs => .write hs (fun _ _ hx => (by split; exacts [hx.cmpEpoch, hx]))⟩
  | cmpBase => exact ⟨_, rfl, fun hs => .write hs (fun _ _ hx => (by split; exacts [hx.cmpBase, hx]))⟩
  | cmpRecordRx => exact ⟨_, rfl, fun hs => hs.cmpRecordRx⟩
  | cmpLateTimer => exact ⟨_, rfl, fun hs => hs.cmpLateTimer⟩
  | por => exact ⟨_, rfl, fun hs => hs.por⟩
  | bor => exact ⟨_, rfl, fun hs => hs.bor⟩
  | srstRequest => exact ⟨_, rfl, fun hs => hs.srstRequest⟩
  | hrstARequest => exact ⟨_, rfl, fun hs => hs.hrstARequest⟩
  | hrstBRequest => exact ⟨_, rfl, fun hs => hs.hrstBRequest⟩
  | crstRequest => exact ⟨_, rfl, fun hs => hs.crstRequest⟩
  | resetRelease => exact ⟨_, rfl, fun hs => hs.resetRelease⟩
  | stateReqDoze => exact ⟨_, rfl, fun hs => .write hs (fun _ _ hx => hx.stateReq)⟩
  | stateReqRun => exact ⟨_, rfl, fun hs => .write hs (fun _ _ hx => hx.stateReq)⟩
  | stateReqPark => exact ⟨_, rfl, fun hs => .write hs (fun _ _ hx => hx.stateReq)⟩
  | dozeWake => exact ⟨_, rfl, fun hs => hs.dozeWake⟩
  | parkEntry => exact ⟨_, rfl, fun hs => hs.parkEntry⟩
  | parkTileWaitEnd => exact ⟨_, rfl, fun hs => hs.parkRest⟩
  | wakeSource => exact ⟨_, rfl, fun hs => hs.wakeSource⟩
  | parkExit => exact ⟨_, rfl, fun hs => hs.parkExit⟩
  | supplyLow => exact ⟨_, rfl, fun hs => hs.supplyLow⟩
  | supplyLoss => exact ⟨_, rfl, fun hs => hs.supplyLoss⟩
  | pdReqOn => exact ⟨_, rfl, fun hs => .write hs (fun _ _ hx => hx.pdWrite)⟩
  | pdReqOff => exact ⟨_, rfl, fun hs => .write hs (fun _ _ hx => hx.pdWrite)⟩
  | pdTransitionEnd => exact ⟨_, rfl, fun hs => hs.pdEnd⟩
  | secureHoldWrite => exact ⟨_, rfl, fun hs => .write hs (fun _ _ hx => hx.pdWrite)⟩
  | ckgReqOn => exact ⟨_, rfl, fun hs => .write hs (fun _ _ hx => hx.pdWrite)⟩
  | ckgReqOff => exact ⟨_, rfl, fun hs => .write hs (fun _ _ hx => hx.pdWrite)⟩
  | rwpWrite => exact ⟨_, rfl, fun hs => hs.regWrite⟩
  | lifeHour => exact ⟨_, rfl, fun hs => hs.lifeHour⟩
  | lsDivergence => exact ⟨_, rfl, fun hs => hs.lsDivergence⟩
  | lsUe => exact ⟨_, rfl, fun hs => hs.lsUe⟩
  | correctableError => exact ⟨_, rfl, fun hs => hs.correctable⟩
  | scrubGo => exact ⟨_, rfl, fun hs => .write hs (fun _ _ hx => hx.scrubGo)⟩
  | scrubAuto => exact ⟨_, rfl, fun hs => hs.scrubAuto⟩
  | scrubCompare => exact ⟨_, rfl, fun hs => hs.scrubCompare⟩
  | lsInject => exact ⟨_, rfl, fun hs => .write hs (fun _ _ hx => hx.lsInjectWrite)⟩
  | monitorRecord => exact ⟨_, rfl, fun hs => hs.record⟩
  | safeInject => exact ⟨_, rfl, fun hs => .write hs (fun _ _ hx => hx.safeInject)⟩
  | pathPersistExpiry => exact ⟨_, rfl, fun hs => hs.pathPersist⟩
  | ceWindowExpiry => exact ⟨_, rfl, fun hs => hs.ceWindow⟩
  | busStallTimer => exact ⟨_, rfl, fun hs => hs.record⟩
  | frameLookup => exact ⟨_, rfl, fun hs => hs.frameLookup⟩
  | fabricSlot => exact ⟨_, rfl, fun hs => hs.fabricSlot⟩
  | ingressFrameEnd => exact ⟨_, rfl, fun hs => hs.ingressEnd⟩
  | txSelect => exact ⟨_, rfl, fun hs => hs.txSelect⟩
  | txComplete => exact ⟨_, rfl, fun hs => hs.txComplete⟩
  | launchLate => exact ⟨_, rfl, fun hs => hs.launchLate⟩
  | rsvCommit => exact ⟨_, rfl, fun hs => .write hs (fun _ _ hx => hx.rsvCommit)⟩
  | rsvRevert => exact ⟨_, rfl, fun hs => .write hs (fun _ _ hx => hx.rsvRevert)⟩
  | rsvActivate => exact ⟨_, rfl, fun hs => hs.rsvActivate⟩
  | fdbWrite => exact ⟨_, rfl, fun hs => .write hs (fun _ _ hx => hx.fdbCommit)⟩
  | fdbClear => exact ⟨_, rfl, fun hs => .write hs (fun _ _ hx => hx.fdbCommit)⟩
  | fdbRead => exact ⟨_, rfl, fun hs => .write hs (fun _ _ hx => hx.fdbCommit)⟩
  | fdbFind => exact ⟨_, rfl, fun hs => .write hs (fun _ _ hx => hx.fdbCommit)⟩
  | sfWrite => exact ⟨_, rfl, fun hs => .write hs (fun _ _ hx => hx.sfCommit)⟩
  | sfClear => exact ⟨_, rfl, fun hs => .write hs (fun _ _ hx => hx.sfCommit)⟩
  | sfRead => exact ⟨_, rfl, fun hs => .write hs (fun _ _ hx => hx.sfCommit)⟩
  | mgWrite => exact ⟨_, rfl, fun hs => .write hs (fun _ _ hx => hx.mgCommit)⟩
  | mgClear => exact ⟨_, rfl, fun hs => .write hs (fun _ _ hx => hx.mgCommit)⟩
  | mgRead => exact ⟨_, rfl, fun hs => .write hs (fun _ _ hx => hx.mgCommit)⟩
  | cmtBadOp => exact ⟨_, rfl, fun hs => .write hs (fun _ _ hx => hx.tblCommit)⟩
  | learnInsert => exact ⟨_, rfl, fun hs => hs.learnInsert⟩
  | residueEvaluate => exact ⟨_, rfl, fun hs => hs.residueEval⟩
  | residueTimeout => exact ⟨_, rfl, fun hs => hs.residueTimeout⟩
  | linkUp => exact ⟨_, rfl, fun hs => .ite hs.spLinkUp hs.linkUp⟩
  | linkDown => exact ⟨_, rfl, fun hs => .ite hs.spLinkDown hs.linkDown⟩
  | anFail => exact ⟨_, rfl, fun hs => hs.anFail⟩
  | anRetry => exact ⟨_, rfl, fun hs => hs.anRetry⟩
  | tdrGo => exact ⟨_, rfl, fun hs => .write hs (fun _ _ hx => hx.tdrGo)⟩
  | tdrDone => exact ⟨_, rfl, fun hs => hs.tdrDone⟩
  | plcaCycle => exact ⟨_, rfl, fun hs => hs.plcaCycle⟩
  | collision => exact ⟨_, rfl, fun hs => hs.collision⟩
  | plcaObsExpiry => exact ⟨_, rfl, fun hs => hs.plcaObs⟩
  | gwFrameRx => exact ⟨_, rfl, fun hs => hs.gwFrameRx⟩
  | gwAggSend => exact ⟨_, rfl, fun hs => hs.gwAggSend⟩
  | canRx => exact ⟨_, rfl, fun hs => hs.canRx⟩
  | canTxDone => exact ⟨_, rfl, fun hs => hs.canTxDone⟩
  | canTxError => exact ⟨_, rfl, fun hs => hs.canTxError⟩
  | canBusOff => exact ⟨_, rfl, fun hs => hs.canBusOff⟩
  | canErrState => exact ⟨_, rfl, fun hs => hs.canErrState⟩
  | canRecoveryDone => exact ⟨_, rfl, fun hs => hs.canRecovered⟩
  | linHeader => exact ⟨_, rfl, fun hs => hs.linHeader⟩
  | linNoResp => exact ⟨_, rfl, fun hs => hs.linNoResp⟩
  | diChange => exact ⟨_, rfl, fun hs => hs.diChange⟩
  | aiConversion => exact ⟨_, rfl, fun hs => hs.aiConversion⟩
  | aiScan => exact ⟨_, rfl, fun hs => hs.aiScan⟩
  | aiSwConv => exact ⟨_, rfl, fun hs => .write hs (fun _ _ hx => hx.aiSwConv)⟩
  | lhDiffTimer => exact ⟨_, rfl, fun hs => hs.lhDiff⟩
  | qassignWrite => exact ⟨_, rfl, fun hs => .write hs (fun _ _ hx => hx.qassignWrite)⟩
  | ctxViWrite => exact ⟨_, rfl, fun hs => .write hs (fun _ _ hx => hx.ctxViWrite)⟩
  | viEnable => exact ⟨_, rfl, fun hs => .write hs (fun _ _ hx => hx.viCmd)⟩
  | viQuiesce => exact ⟨_, rfl, fun hs => .write hs (fun _ _ hx => hx.viCmd)⟩
  | viResume => exact ⟨_, rfl, fun hs => .write hs (fun _ _ hx => hx.viCmd)⟩
  | viFreeze => exact ⟨_, rfl, fun hs => .write hs (fun _ _ hx => hx.viCmd)⟩
  | viSave => exact ⟨_, rfl, fun hs => .write hs (fun _ _ hx => hx.viCmd)⟩
  | viRestore => exact ⟨_, rfl, fun hs => .write hs (fun _ _ hx => hx.viCmd)⟩
  | viVrst => exact ⟨_, rfl, fun hs => .write hs (fun _ _ hx => hx.viCmd)⟩
  | viVrstForce => exact ⟨_, rfl, fun hs => .write hs (fun _ _ hx => hx.viCmd)⟩
  | quiesceComplete => exact ⟨_, rfl, fun hs => hs.quiesceComplete⟩
  | vrstComplete => exact ⟨_, rfl, fun hs => hs.vrstComplete⟩
  | saveComplete => exact ⟨_, rfl, fun hs => hs.saveComplete⟩
  | restoreComplete => exact ⟨_, rfl, fun hs => hs.restoreComplete⟩
  | doorbell => exact ⟨_, rfl, fun hs => .write hs (fun _ _ hx => hx.doorbell)⟩
  | qWrWrite => exact ⟨_, rfl, fun hs => .write hs (fun _ _ hx => hx.qIndexWrite)⟩
  | qRdWrite => exact ⟨_, rfl, fun hs => .write hs (fun _ _ hx => hx.qIndexWrite)⟩
  | hostTxFetch => exact ⟨_, rfl, fun hs => hs.hostTxFetch⟩
  | hostRxDeliver => exact ⟨_, rfl, fun hs => hs.hostRxDeliver⟩
  | tokenRefill => exact ⟨_, rfl, fun hs => hs.tokenRefill⟩
  | dwrrRound => exact ⟨_, rfl, fun hs => hs.dwrrRound⟩
  | outboundPostedWrite => exact ⟨_, rfl, fun hs => hs.spanAccess⟩
  | delayedTransaction => exact ⟨_, rfl, fun hs => hs.spanAccess⟩
  | fenceRead => exact ⟨_, rfl, fun hs => hs.fenceRead⟩
  | spanRequestRx => exact ⟨_, rfl, fun hs => hs.spanRequestRx⟩
  | spanCplRx => exact ⟨_, rfl, fun hs => hs.spanCplRx⟩
  | spanAckRx => exact ⟨_, rfl, fun hs => hs.spanAckRx⟩
  | spanWfailRx => exact ⟨_, rfl, fun hs => hs.spanWfailRx⟩
  | dtDiscardTimer => exact ⟨_, rfl, fun hs => hs.dtDiscard⟩
  | tunnelTimeout => exact ⟨_, rfl, fun hs => hs.tunnelTimeout⟩
  | spanLinkDown => exact ⟨_, rfl, fun hs => hs.spanLinkDown⟩
  | spanFrameRx => exact ⟨_, rfl, fun hs => hs.spanFrameRx⟩
  | pwfPop => exact ⟨_, rfl, fun hs => .write hs (fun _ _ hx => .onlyIf hx (fun _ hy => hy.setPwf))⟩
  | mworldWrite => exact ⟨_, rfl, fun hs => hs.mworldWrite⟩
  | smrWrite => exact ⟨_, rfl, fun hs => .write hs (fun _ _ hx => hx.smrWrite)⟩
  | srccfgWrite => exact ⟨_, rfl, fun hs => .write hs (fun _ _ hx => hx.srccfgWrite)⟩
  | irqLineChange => exact ⟨_, rfl, fun hs => .ite hs.irqLineChange hs⟩
  | claimRead => exact ⟨_, rfl, fun hs => .read hs (fun _ _ hx => hx.claimRead)⟩
  | completeWrite => exact ⟨_, rfl, fun hs => .write hs (fun _ _ hx => hx.completeWrite)⟩
  | sgiWrite => exact ⟨_, rfl, fun hs => .write hs (fun _ _ hx => hx.sgiWrite)⟩
  | dbgEnWrite => exact ⟨_, rfl, fun hs => .write hs (fun _ _ hx => hx.dbgEnWrite)⟩
  | dbgLockWrite => exact ⟨_, rfl, fun hs => .write hs (fun _ _ hx => hx.dbgLockWrite)⟩
  | haltRequest => exact ⟨_, rfl, fun hs => .ite hs.haltRequest hs⟩
  | bankEnWrite => exact ⟨_, rfl, fun hs => .write hs (fun _ _ hx => hx.bankEnWrite)⟩
  | cntHiWrite => exact ⟨_, rfl, fun hs => .write hs (fun _ _ hx => hx.cntHiWrite)⟩
  | cntLoWrite => exact ⟨_, rfl, fun hs => .write hs (fun _ _ hx => hx.cntLoWrite)⟩
  | counterOverflow => exact ⟨_, rfl, fun hs => hs.counterOverflow⟩
  | tamper => exact ⟨_, rfl, fun hs => hs.tamper⟩
  | provision => exact ⟨_, rfl, fun hs => .write hs (fun _ _ hx => .onlyIf hx (fun _ hy => hy.provision))⟩
  | ksWrite => exact ⟨_, rfl, fun hs => hs.ksWrite⟩
  | ksErase => exact ⟨_, rfl, fun hs => hs.ksWrite⟩
  | ksDerive => exact ⟨_, rfl, fun hs => hs.ksWrite⟩
  | ksRead => exact ⟨_, rfl, fun hs => hs.ksWrite⟩
  | ksAttest => exact ⟨_, rfl, fun hs => hs.ksWrite⟩
  | ksStoreP => exact ⟨_, rfl, fun hs => hs.ksWrite⟩
  | ksLoadP => exact ⟨_, rfl, fun hs => hs.ksWrite⟩
  | ksEraseP => exact ⟨_, rfl, fun hs => hs.ksWrite⟩
  | ksReadP => exact ⟨_, rfl, fun hs => hs.ksWrite⟩
  | ksDeriveRoot => exact ⟨_, rfl, fun hs => hs.ksWrite⟩
  | ksCmdReserved => exact ⟨_, rfl, fun hs => hs.ksWrite⟩
  | ksCmdEnd => exact ⟨_, rfl, fun hs => hs.ksEnd⟩
  | csubmit => exact ⟨_, rfl, fun hs => .write hs (fun _ _ hx => .onlyIf hx (fun _ hy => hy.csubmit))⟩
  | ciphSubmit => exact ⟨_, rfl, fun hs => .write hs (fun _ _ hx => hx.csubmit)⟩
  | laneAccept => exact ⟨_, rfl, fun hs => hs.laneAccept⟩
  | laneBlock => exact ⟨_, rfl, fun hs => hs.laneBlock⟩
  | laneOpEnd => exact ⟨_, rfl, fun hs => hs.laneOpEnd⟩
  | saEnable => exact ⟨_, rfl, fun hs => .write hs (fun _ _ hx => hx.saCtrl)⟩
  | cipherAlarm => exact ⟨_, rfl, fun hs => hs.cipherAlarmed⟩
  | alarmClr => exact ⟨_, rfl, fun hs => .write hs (fun _ _ hx => .secureOnly hx (fun _ hy => .onlyIf hy (fun _ hz => hz.alarmClr)))⟩
  | trngStartupDone => exact ⟨_, rfl, fun hs => hs.trngStarted⟩
  | randDataRead => exact ⟨_, rfl, fun hs => .read hs (fun _ _ hx => .ite hx.answer (.ite hx.update.answer hx.setBit.answer))⟩
  | spFrameRx => exact ⟨_, rfl, fun hs => hs.spFrameRx⟩
  | fabricIspRx => exact ⟨_, rfl, fun hs => hs.fabricIspRx⟩
  | hello => exact ⟨_, rfl, fun hs => hs.hello⟩
  | auth => exact ⟨_, rfl, fun hs => hs.auth⟩
  | close => exact ⟨_, rfl, fun hs => hs.close⟩
  | ping => exact ⟨_, rfl, fun hs => hs.ping⟩
  | regRead => exact ⟨_, rfl, fun hs => hs.ispRegRead⟩
  | regWrite => exact ⟨_, rfl, fun hs => hs.ispRegWrite⟩
  | dmRead => exact ⟨_, rfl, fun hs => hs.dmRead⟩
  | dmWrite => exact ⟨_, rfl, fun hs => hs.dmWrite⟩
  | ispMsgSend => exact ⟨_, rfl, fun hs => hs.ispMsgSend⟩
  | msgPoll => exact ⟨_, rfl, fun hs => hs.msgPoll⟩
  | stageOpen => exact ⟨_, rfl, fun hs => hs.stageOpen⟩
  | stageData => exact ⟨_, rfl, fun hs => hs.stageData⟩
  | stageClose => exact ⟨_, rfl, fun hs => hs.stageClose⟩
  | stageVerifyDone => exact ⟨_, rfl, fun hs => hs.stageVerifyDone⟩
  | stageAbort => exact ⟨_, rfl, fun hs => hs.stageAbort⟩
  | stageStatus => exact ⟨_, rfl, fun hs => hs.stageStatus⟩
  | armActivation => exact ⟨_, rfl, fun hs => hs.armActivation⟩
  | disarm => exact ⟨_, rfl, fun hs => hs.disarm⟩
  | actStatus => exact ⟨_, rfl, fun hs => hs.actStatus⟩
  | recover => exact ⟨_, rfl, fun hs => hs.recover⟩
  | authTimeout => exact ⟨_, rfl, fun hs => hs.authTimeout⟩
  | authLockExpiry => exact ⟨_, rfl, fun hs => hs.authLockExpiry⟩
  | sessionTimeout => exact ⟨_, rfl, fun hs => hs.sessionTimeout⟩
  | stageLockTimeout => exact ⟨_, rfl, fun hs => hs.stageLockTimeout⟩
  | whistleSend => exact ⟨_, rfl, fun hs => hs.whistleSend⟩
  | whistleRx => exact ⟨_, rfl, fun hs => hs.whistleRx⟩
  | whistleAckRx => exact ⟨_, rfl, fun hs => hs.whistleAckRx⟩
  | activationInstant => exact ⟨_, rfl, fun hs => hs.activationInstant⟩
  | bootVerify => exact ⟨_, rfl, fun hs => hs.bootVerify⟩
  | healthOk => exact ⟨_, rfl, fun hs => .write hs (fun _ _ hx => hx.healthOk)⟩
  | healthWindowExpiry => exact ⟨_, rfl, fun hs => hs.healthWindowExpiry⟩
  | shepRestart => exact ⟨_, rfl, fun hs => hs.shepRestartNow⟩
  | minVersionWrite => exact ⟨_, rfl, fun hs => .write hs (fun _ _ hx => hx.minVersion)⟩
  | actGroupWrite => exact ⟨_, rfl, fun hs => .write hs (fun _ _ hx => hx.actGroup)⟩
  | dozeEntryComplete => exact ⟨_, rfl, fun hs => hs.dozeEntered⟩
  | macMergeVerification => exact ⟨_, rfl, fun hs => hs.macMerge⟩
  | cellMeasurement => exact ⟨_, rfl, fun hs => hs.cellMeasured⟩
  | supplyMvSample => exact ⟨_, rfl, fun hs => hs.supplySampleMv⟩

/-- A step keeps the register file in canonical form. -/
theorem step_inv {s t : State} (hs : s.Inv) (e : step s = .next t) : t.Inv := by
  unfold step at e
  split at e
  · cases e
    exact hs
  · next c rest _ =>
    obtain ⟨u, run, keeps⟩ := exec_keeps c (s.withPending rest)
    cases run.symm.trans e
    exact keeps hs.update

theorem goes (s : State) : Goes s := by
  unfold Goes step
  split
  · exact ⟨s, rfl⟩
  · next c rest _ =>
    obtain ⟨u, run, -⟩ := exec_keeps c (s.withPending rest)
    exact ⟨u, run⟩

/-- At reset no register is listed, so each reads its Reset value. -/
theorem reset_rd (k : Nat) : State.reset.rd k = regReset k := rfl

theorem regReset_roleGen_chan : ∀ n < 128, regReset (chanBase n + Reg.Hdr.ROLE_GEN) = 1 := by decide +kernel
end Sys2Proof.Machine

open Sys2Proof Sys2Proof.Machine

/-- Settles O5: every command keeps the canonical form (`exec_keeps`), and so does an idle step. -/
theorem stepKeepsInv : Obligations.StepKeepsInv := fun _ _ hs e => step_inv hs e

/-- Settles O2: the meaning of every command answers a next state. -/
theorem everyCommandRuns : Obligations.EveryCommandRuns :=
  ⟨fun c s => (exec_keeps c s).imp fun _ h => h.1, goes⟩

/-- Settles O4: after reset no register is listed. -/
theorem resetInv : Obligations.ResetInv := rfl

/-- Settles O3: at reset every register reads its Reset value, which the map gives by evaluation. -/
theorem resetLeaves : Obligations.ResetLeaves := by
  unfold Obligations.ResetLeaves
  exact ⟨reset_rd, rfl, rfl, by decide +kernel, by decide +kernel, by decide +kernel, by decide +kernel,
    regReset_roleGen_chan, by decide +kernel, by decide +kernel, by decide +kernel⟩
end


section
/-! PROOFS. An access and its page: where the register space lies, what the attributes of R41 leave alone, the verdicts of
R4, R5 and R8, and what each verdict makes of a write and of a read. -/

namespace Sys2Proof.Machine

/-! ## The access -/

theorem State.asSent_half {acc : Access} {h : Half} (hm : acc.master = .half h) (s : State) : s.asSent acc = acc := by
  simp [State.asSent, hm]

@[simp] theorem State.asSent_master (s : State) (acc : Access) : (s.asSent acc).master = acc.master := by
  unfold State.asSent
  split <;> rfl

@[simp] theorem State.asSent_page (s : State) (acc : Access) (addr : Nat) : (s.asSent acc).page addr = acc.page addr := by
  simp [Access.page]

/-- Which half keeps a page's counts is no matter of the world an access carries. -/
@[simp] theorem State.readClears_asSent (s : State) (acc : Access) (p : Page) :
    s.readClears (s.asSent acc) p = s.readClears acc p := by
  simp [State.readClears]

/-! ## The register space -/

theorem pageOf_range {view addr : Nat} {p : Page} (hp : pageOf view addr = some p) :
    0x40000000 ≤ addr ∧ addr < 0x41000000 := by
  unfold pageOf at hp
  dsimp only at hp
  by_contra hc
  rw [if_pos (by omega)] at hp
  cases hp

/-- A page an access reaches is one of the map Half A or Half B sees. -/
theorem Access.page_pageOf {acc : Access} {addr : Nat} {p : Page} (hp : acc.page addr = some p) :
    ∃ view ≤ 1, pageOf view addr = some p := by
  unfold Access.page at hp
  split at hp
  · next h _ => exact ⟨h.idx, by cases h <;> decide, hp⟩
  · split at hp
    · exact ⟨0, by omega, hp⟩
    · cases hp

theorem Access.page_baseOk {acc : Access} {addr : Nat} {p : Page} (hp : acc.page addr = some p) : baseOk p = true := by
  obtain ⟨view, hv, hp⟩ := Access.page_pageOf hp
  exact pageOf_baseOk hv hp

/-- A unit's primary page begins at the beginning of a page. -/
theorem Access.page_prim {acc : Access} {addr : Nat} {p : Page} (hp : acc.page addr = some p) : p.prim % 0x1000 = 0 := by
  obtain ⟨view, hv, hp⟩ := Access.page_pageOf hp
  have : (p.prim % 0x1000 == 0) = true := by
    obtain rfl | rfl : view = 0 ∨ view = 1 := by omega
    · exact pageOf_all (P := fun p => p.prim % 0x1000 == 0) (by decide +kernel) hp
    · exact pageOf_all (P := fun p => p.prim % 0x1000 == 0) (by decide +kernel) hp
  simpa using this

/-- The comparison's write counters are registers of the half-local pages. -/
theorem base_add_ne_cmpKey {p : Page} (hb : baseOk p = true) (hk : p.kind ≠ .local) {off : Nat} (ho : off < 0x1000)
    (h : Half) : p.base + off ≠ cmpKey h := by
  simp only [baseOk, Bool.and_eq_true, Bool.or_eq_true, beq_iff_eq, bne_iff_ne, hk, or_false] at hb
  obtain ⟨hb0, hb1⟩ := hb
  cases h <;> simp only [cmpKey, localBase, bank, Half.idx, Reg.Local.CMP_WRITES] <;> omega

/-- An address both halves and Shepherd see alike. -/
theorem Access.page_shared {addr : Nat} {p : Page} (hs : shepSees addr = true) (ha : pageOf 0 addr = some p)
    (hb : pageOf 1 addr = some p) (acc : Access) : acc.page addr = some p := by
  unfold Access.page
  split
  · next h _ =>
    cases h with
    | a => exact ha
    | b => exact hb
  · rw [if_pos hs, ha]

/-- The register space is no part of a code store. -/
theorem Access.code_of_range (acc : Access) {addr : Nat} (lo : 0x40000000 ≤ addr) (hi : addr < 0x41000000) :
    acc.code addr = none := by
  unfold Access.code
  split
  · simp [codeOff, lo, hi]
  · rfl

theorem Access.code_of_page {acc : Access} {addr : Nat} {p : Page} (hp : acc.page addr = some p) : acc.code addr = none := by
  obtain ⟨view, -, hv⟩ := Access.page_pageOf hp
  exact acc.code_of_range (pageOf_range hv).1 (pageOf_range hv).2

theorem Access.code_shep {acc : Access} (hm : acc.master = .shep) (addr : Nat) : acc.code addr = none := by
  simp [Access.code, hm]

/-! ## The comparison (R284) -/

/-- Only a half's write of an aligned word to a page that is there is a contribution. -/
theorem State.cmpWrite_shep {acc : Access} (hm : acc.master = .shep) (s : State) (size addr : Nat) (v : Word) :
    s.cmpWrite acc size addr v = s := by
  simp [State.cmpWrite, hm]

theorem State.cmpWrite_unaligned {size addr : Nat} (h : size ≠ 4 ∨ addr % 4 ≠ 0) (s : State) (acc : Access) (v : Word) :
    s.cmpWrite acc size addr v = s := by
  unfold State.cmpWrite
  split
  · rcases h with h | h <;> simp [h]
  · rfl

theorem State.cmpWrite_noPage {acc : Access} {addr : Nat} (hp : acc.page addr = none) (s : State) (size : Nat) (v : Word) :
    s.cmpWrite acc size addr v = s := by
  simp [State.cmpWrite, hp]

theorem State.cmpWrite_absent {acc : Access} {addr : Nat} {p : Page} (hp : acc.page addr = some p) (hk : p.kind = .absent)
    (s : State) (size : Nat) (v : Word) : s.cmpWrite acc size addr v = s := by
  unfold State.cmpWrite
  split
  · next h q _ hq =>
    cases hp.symm.trans hq
    simp [hk]
  · rfl

/-! ## The verdicts of R4, R5 and R8 -/

section Verdicts
variable {s : State} {acc : Access} {size addr : Nat} {p : Page} (hs : s.supplied = true)
include hs

theorem State.judge_unaligned (h : size ≠ 4 ∨ addr % 4 ≠ 0) (w : Bool) :
    s.judge acc w size addr = if acc.master = .shep then .refuse sbAlignment else .busError := by
  simp [State.judge, hs, h]

theorem State.judge_noPage (h4 : size = 4) (ha : addr % 4 = 0) (hp : acc.page addr = none) (w : Bool) :
    s.judge acc w size addr = if acc.master = .shep then .refuse sbNoPage else .busError := by
  simp [State.judge, hs, h4, ha, hp]

theorem State.judge_absent (h4 : size = 4) (ha : addr % 4 = 0) (hp : acc.page addr = some p) (hk : p.kind = .absent)
    (w : Bool) : s.judge acc w size addr = .absent := by
  simp [State.judge, hs, h4, ha, hp, hk]

end Verdicts

/-- Codes of R45 are answered to the side band only. -/
theorem State.judge_refuse {s : State} {acc : Access} {w : Bool} {size addr c : Nat}
    (hj : s.judge acc w size addr = .refuse c) : acc.master = .shep := by
  by_contra hm
  obtain ⟨h, hm⟩ : ∃ h, acc.master = .half h := by
    cases e : acc.master with
    | half h => exact ⟨h, rfl⟩
    | shep => exact absurd e hm
  simp only [State.judge, State.judgePage, hm, reduceCtorEq, ↓reduceIte] at hj
  repeat' (split at hj)
  all_goals cases hj

/-- A standby write is discarded at a page. -/
theorem State.judge_discard_page {s : State} {acc : Access} {w : Bool} {size addr : Nat}
    (hj : s.judge acc w size addr = .discard) : ∃ p, acc.page addr = some p := by
  cases hp : acc.page addr with
  | some p => exact ⟨p, rfl⟩
  | none =>
    simp only [State.judge, hp] at hj
    repeat' (split at hj)
    all_goals cases hj

/-! ## What a verdict makes of a write and of a read -/

theorem leads_registerWrite {s : State} {acc : Access} {size addr : Nat} {v : Word} {P : State → Prop}
    (hc : acc.code addr = none) (hP : P (regWriteSized acc size addr v s)) : Leads (.registerWrite acc size addr v) s P := by
  refine ⟨_, ?_, hP⟩
  change execRegisterWrite acc size addr v s = _
  simp only [execRegisterWrite, hc]

theorem leads_rcRead {s : State} {acc : Access} {size addr : Nat} {P : State → Prop}
    (hc : acc.code addr = none) (hP : P (regReadSized acc size addr s)) : Leads (.rcRead acc size addr) s P := by
  refine ⟨_, ?_, hP⟩
  change execRcRead acc size addr s = _
  simp only [execRcRead, hc]

/-- But for FENCE's word, which the bridge answers (R504), a read of the register space is a read access. -/
theorem regReadSized_eq_read {acc : Access} {size addr : Nat} (hf : ¬ (addr = spanReg Reg.Span.FENCE ∧ size = 4)) (s : State) :
    regReadSized acc size addr s = s.read acc size addr (fun acc => pageRead acc addr) := if_neg hf

section Outcomes
variable {s : State} {acc : Access} {size addr c : Nat} {v : Word} {p : Page}

theorem regWriteSized_busError (hj : s.judge acc true size addr = .busError) (hc : s.cmpWrite acc size addr v = s) :
    regWriteSized acc size addr v s = s.answer .busError := by
  simp [regWriteSized, State.write, hj, hc, State.rstRefused, State.settle]

theorem regWriteSized_absent (hj : s.judge acc true size addr = .absent) (hc : s.cmpWrite acc size addr v = s) :
    regWriteSized acc size addr v s = s.answer .ok := by
  simp [regWriteSized, State.write, hj, hc, State.rstRefused, State.settle]

theorem regWriteSized_refuse (hj : s.judge acc true size addr = .refuse c) :
    regWriteSized acc size addr v s = (s.rstRefused addr (.refuse c)).sbRefuse c := by
  simp [regWriteSized, State.write, hj, State.cmpWrite_shep (State.judge_refuse hj), State.settle]

theorem regWriteSized_violation (hj : s.judge acc true size addr = .violation) (hp : acc.page addr = some p) :
    regWriteSized acc size addr v s = ((s.cmpWrite acc size addr v).ownerViol p.prim addr).answer .busError := by
  simp [regWriteSized, State.write, hj, hp, State.rstRefused, State.settle]

theorem regWriteSized_discard (hj : s.judge acc true size addr = .discard) :
    regWriteSized acc size addr v s = ((s.cmpWrite acc size addr v).stbyDiscard acc).answer .ok := by
  simp [regWriteSized, State.write, hj, State.rstRefused, State.settle]

theorem State.read_eq_settle {eff : Access → State → State} {j : Verdict} (hj : s.judge acc false size addr = j) :
    s.read acc size addr eff = s.settle acc addr j (.data 0) (eff (s.asSent acc)) := by
  simp [State.read, hj]

end Outcomes

/-! ## Counters -/

/-- A saturating counter counts (R40). -/
theorem State.rdN_count (s : State) (k : Nat) : (s.count k).rdN k = min 0xFFFFFFFF (s.rdN k + 1) := by
  have h := s.count_same k
  have := (s.rd k).isLt
  unfold State.rdN
  split at h <;> omega

theorem State.rdN_count_ne (s : State) {k j : Nat} (h : j ≠ k) : (s.count k).rdN j = s.rdN j := by
  simp [State.rdN, s.count_ne k j h]

/-- SYS is no half-local page: its registers stand through a contribution to the comparison. -/
theorem State.cmpWrite_rd_sys (s : State) (acc : Access) (size addr : Nat) (v : Word) {off : Nat} (ho : off < 0x1000) :
    (s.cmpWrite acc size addr v).rd (sysBase + off) = s.rd (sysBase + off) := by
  apply State.cmpWrite_rd <;> simp only [sysBase, localBase, bank, Reg.Local.CMP_WRITES] <;> omega

end Sys2Proof.Machine
end


section
/-! PROOFS. O7: accesses that reach no register (R4, R5, R8). -/

namespace Sys2Proof.Machine

/-- FENCE is a register of SPAN's page. -/
theorem Access.page_fence (acc : Access) : acc.page (spanReg Reg.Span.FENCE) = some (.own .span 0 spanBase) :=
  acc.page_shared (by decide) (by decide +kernel) (by decide +kernel)

/-- RST_REQ is a register of PWR's page. -/
theorem Access.page_rstReq (acc : Access) : acc.page (pwrBase + Reg.Pwr.RST_REQ) = some (.own .pwr 0 pwrBase) :=
  acc.page_shared (by decide) (by decide +kernel) (by decide +kernel)

theorem State.sbRefuse_spec (s : State) (c : Nat) :
    (s.sbRefuse c).resp = .code c ∧ Keeps (· == sysBase + Reg.Sys.SB_REFUSE_CNT) s (s.sbRefuse c) :=
  ⟨rfl, ((Keeps.refl _ s).count (by simp)).answer _⟩

/-- A write and a read of the register space that both end with a bus error. -/
theorem leads_both_busError {s : State} {acc : Access} {size addr : Nat} {v : Word} (hc : acc.code addr = none)
    (hf : ¬ (addr = spanReg Reg.Span.FENCE ∧ size = 4)) (hj : ∀ w, s.judge acc w size addr = .busError)
    (hw : s.cmpWrite acc size addr v = s) :
    (Leads (.registerWrite acc size addr v) s fun t => t = s.answer .busError) ∧
      Leads (.rcRead acc size addr) s fun t => t = s.answer .busError :=
  ⟨leads_registerWrite hc (regWriteSized_busError (hj true) hw),
    leads_rcRead hc (by rw [regReadSized_eq_read hf, State.read_eq_settle (hj false)]; rfl)⟩

/-- A write and a read over the side band that are both refused with one code, at no register whose refusal counts twice
(R298). -/
theorem leads_both_refuse {s : State} {acc : Access} {size addr c : Nat} {v : Word} (hc : acc.code addr = none)
    (hf : ¬ (addr = spanReg Reg.Span.FENCE ∧ size = 4)) (hj : ∀ w, s.judge acc w size addr = .refuse c)
    (hr : s.rstRefused addr (.refuse c) = s) :
    (Leads (.registerWrite acc size addr v) s fun t =>
        t.resp = .code c ∧ Keeps (· == sysBase + Reg.Sys.SB_REFUSE_CNT) s t) ∧
      Leads (.rcRead acc size addr) s fun t => t.resp = .code c ∧ Keeps (· == sysBase + Reg.Sys.SB_REFUSE_CNT) s t :=
  ⟨leads_registerWrite hc (by rw [regWriteSized_refuse (hj true), hr]; exact s.sbRefuse_spec c),
    leads_rcRead hc (by
      rw [regReadSized_eq_read hf, State.read_eq_settle (hj false)]
      exact s.sbRefuse_spec c)⟩

end Sys2Proof.Machine

open Sys2Proof Sys2Proof.Machine

/-- Settles O7: the verdicts of R8, R5 and R4 in this order, which hold of a write and of a read alike. -/
theorem accessesWithoutARegister : Obligations.AccessesWithoutARegister := by
  unfold Obligations.AccessesWithoutARegister
  intro s acc size addr v hs lo hi
  have hc := acc.code_of_range lo hi
  refine ⟨fun h => ?unaligned, fun h4 ha hp => ?noPage, fun p h4 ha hp hk => ?absent⟩
  case unaligned =>
    have hf : ¬ (addr = spanReg Reg.Span.FENCE ∧ size = 4) := by
      rintro ⟨rfl, rfl⟩
      exact absurd h (by decide)
    refine ⟨fun _ hm => ?_, fun hm => ?_⟩
    · exact leads_both_busError hc hf (fun w => by simp [State.judge_unaligned hs h, hm]) (s.cmpWrite_unaligned h acc v)
    · refine leads_both_refuse hc hf (fun w => by simp [State.judge_unaligned hs h, hm, sbAlignment]) ?_
      simp [State.rstRefused, State.onlyIf, sbAlignment]
  case noPage =>
    have hf : ¬ (addr = spanReg Reg.Span.FENCE ∧ size = 4) := by
      rintro ⟨rfl, -⟩
      simp [Access.page_fence] at hp
    refine ⟨fun _ hm => ?_, fun hm => ?_⟩
    · exact leads_both_busError hc hf (fun w => by simp [State.judge_noPage hs h4 ha hp, hm]) (State.cmpWrite_noPage hp s size v)
    · refine leads_both_refuse hc hf (fun w => by simp [State.judge_noPage hs h4 ha hp, hm, sbNoPage]) ?_
      have hr : addr ≠ pwrBase + Reg.Pwr.RST_REQ := by
        rintro rfl
        simp [Access.page_rstReq] at hp
      simp [State.rstRefused, State.onlyIf, hr]
  case absent =>
    have hf : ¬ (addr = spanReg Reg.Span.FENCE ∧ size = 4) := by
      rintro ⟨rfl, -⟩
      cases acc.page_fence.symm.trans hp
      simp [Page.own] at hk
    have hj := State.judge_absent hs h4 ha hp hk
    refine ⟨leads_registerWrite hc ?_, leads_rcRead hc ?_⟩
    · rw [regWriteSized_absent (hj true) (State.cmpWrite_absent hp hk s size v)]
      exact ⟨rfl, (Keeps.refl _ s).answer _⟩
    · rw [regReadSized_eq_read hf, State.read_eq_settle (hj false)]
      rfl
end


section
/-! PROOFS. O6: a write that the field kinds of R10 decide. -/

namespace Sys2Proof.Machine

/-- The page kinds whose block registers have no effect of their own. -/
def plainKinds : List PageKind :=
  [.dir, .dirtab, .tbcor, .sw, .eq, .mir, .fetch, .fbio, .can, .di, .enc, .ls, .lh, .intcPend, .lane, .trng, .ctxp]

theorem blockWrite_of_plainKinds {p : Page} (hk : p.kind ∈ plainKinds) (acc : Access) (off : Nat) (v : Word) (s : State) :
    blockWrite acc p off v s = plainWrite acc p off v s := by
  obtain ⟨kind, i, b, prim⟩ := p
  simp only [plainKinds, List.mem_cons, List.not_mem_nil, or_false] at hk
  rcases hk with rfl | rfl | rfl | rfl | rfl | rfl | rfl | rfl | rfl | rfl | rfl | rfl | rfl | rfl | rfl | rfl | rfl <;> rfl

/-- The registers of these pages are banked for no master. -/
theorem State.regKey_of_plainKinds {p : Page} (hk : p.kind ∈ plainKinds) (s : State) (acc : Access) (off : Nat) :
    s.regKey acc p off = p.base + off := by
  unfold State.regKey
  split
  · next h => simp [h, plainKinds] at hk
  · next h => simp [h, plainKinds] at hk
  · rfl

theorem ne_local_of_plainKinds {p : Page} (hk : p.kind ∈ plainKinds) : p.kind ≠ .local := by
  rintro h
  simp [h, plainKinds] at hk

section
variable {s : State} {acc : Access} {addr : Nat} {v : Word} {p : Page} {r : RegRow} {j : Nat}
  (hp : acc.page addr = some p) (hr : p.row (addr % 0x1000) = some (r, j))
  (hh : p.hasHeader = true → 0x40 ≤ addr % 0x1000) (hk : p.kind ∈ plainKinds)

include hp hr hh hk in
/-- A write of such a register, past the page header, is a write by its field kind. -/
theorem pageWrite_of_plainKinds (s : State) : pageWrite acc addr v s = plainWrite acc p (addr % 0x1000) v s := by
  have hn : (p.hasHeader && decide (addr % 0x1000 < 0x40)) = false := by
    cases e : p.hasHeader with
    | false => rfl
    | true => simpa using hh e
  simp [pageWrite, hp, hr, hn, blockWrite_of_plainKinds hk]

include hr hk in
/-- A stored kind, and a lockable field that is not locked, takes the word of its row. -/
theorem plainWrite_stores (hf : r.acc = .rw ∨ r.acc = .rwt ∨ r.acc = .w1c ∨ r.acc = .w1s ∨ (r.acc = .rwl ∧ s.fieldLocked p = false)) :
    plainWrite acc p (addr % 0x1000) v s =
      s.wr (p.base + addr % 0x1000) (r.store (s.rd (p.base + addr % 0x1000)) v) := by
  rcases hf with h | h | h | h | ⟨h, hl⟩
  case inr.inr.inr.inr => simp [plainWrite, hr, h, hl, State.regKey_of_plainKinds hk]
  all_goals simp [plainWrite, hr, h, State.regKey_of_plainKinds hk]

include hr in
/-- A kind that no write reaches ignores it. -/
theorem plainWrite_ignores (hf : r.acc = .ro ∨ r.acc = .wo ∨ r.acc = .rc) : plainWrite acc p (addr % 0x1000) v s = s := by
  rcases hf with h | h | h <;> simp [plainWrite, hr, h]

variable (ht : Takes s acc addr)

include hp hr hh hk ht in
/-- An accepted write that its field kind lets through stores the word of its row, and nothing else. -/
theorem leads_stores (hf : r.acc = .rw ∨ r.acc = .rwt ∨ r.acc = .w1c ∨ r.acc = .w1s ∨ (r.acc = .rwl ∧ s.fieldLocked p = false)) :
    Leads (.registerWrite acc 4 addr v) s fun t =>
      t.resp = .ok ∧ t.rd (p.base + addr % 0x1000) = r.store (s.rd (p.base + addr % 0x1000)) v ∧
        Keeps (· == p.base + addr % 0x1000) s t := by
  let u := (s.cmpWrite acc 4 addr v).answer .ok
  have hu : ∀ off < 0x1000, u.rd (p.base + off) = s.rd (p.base + off) := fun off ho =>
    have hne := base_add_ne_cmpKey (Access.page_baseOk hp) (ne_local_of_plainKinds hk) ho
    s.cmpWrite_rd acc 4 addr v _ (hne .a) (hne .b)
  have hl : u.fieldLocked p = s.fieldLocked p := by
    simp only [State.fieldLocked, State.bit, hu Reg.Hdr.LOCK (by decide)]
  have hw : regWriteSized acc 4 addr v s =
      u.wr (p.base + addr % 0x1000) (r.store (s.rd (p.base + addr % 0x1000)) v) := by
    rw [← hu _ (Nat.mod_lt _ (by decide))]
    calc regWriteSized acc 4 addr v s
      _ = pageWrite (s.asSent acc) addr v u := State.regWrite_accept s acc addr v ht
      _ = plainWrite (s.asSent acc) p (addr % 0x1000) v u := pageWrite_of_plainKinds (by simpa using hp) hr hh hk u
      _ = _ := plainWrite_stores hr hk (by rwa [hl])
  refine leads_registerWrite (Access.code_of_page hp) ?_
  rw [hw]
  exact ⟨rfl, by simp, (s.taken_keeps _ acc addr v).wr _ (by simp)⟩

include hp hr hh hk ht in
/-- An accepted write that its field kind ignores changes nothing. -/
theorem leads_ignores (hf : r.acc = .ro ∨ r.acc = .wo ∨ r.acc = .rc) :
    Leads (.registerWrite acc 4 addr v) s fun t => t.resp = .ok ∧ Keeps (fun _ => false) s t := by
  let u := (s.cmpWrite acc 4 addr v).answer .ok
  have hw : regWriteSized acc 4 addr v s = u :=
    calc regWriteSized acc 4 addr v s
      _ = pageWrite (s.asSent acc) addr v u := State.regWrite_accept s acc addr v ht
      _ = plainWrite (s.asSent acc) p (addr % 0x1000) v u := pageWrite_of_plainKinds (by simpa using hp) hr hh hk u
      _ = u := plainWrite_ignores hr hf
  refine leads_registerWrite (Access.code_of_page hp) ?_
  rw [hw]
  exact ⟨rfl, s.taken_keeps _ acc addr v⟩

end

end Sys2Proof.Machine

open Sys2Proof Sys2Proof.Machine

/-- Settles O6: one lemma for the kinds that store the word of their row (`leads_stores`), one for those that ignore a write. -/
theorem writesByFieldKind : Obligations.WritesByFieldKind := by
  unfold Obligations.WritesByFieldKind
  intro s acc addr v p r j ht hp hr hh hk
  refine ⟨fun hf => ?rw, fun hf => ?w1c, fun hf => ?w1s, fun hf => leads_ignores hp hr hh hk ht hf⟩
  case rw =>
    have hm : r.store (s.rd (p.base + addr % 0x1000)) v =
        (s.rd (p.base + addr % 0x1000) &&& ~~~word r.mask) ||| (v &&& word r.mask) := by
      rcases hf with h | h | ⟨h, -⟩ <;> simp [RegRow.store, h]
    rw [← hm]
    exact leads_stores hp hr hh hk ht (by tauto)
  case w1c =>
    have hm : r.store (s.rd (p.base + addr % 0x1000)) v = s.rd (p.base + addr % 0x1000) &&& ~~~(v &&& word r.mask) := by
      simp only [RegRow.store, hf]
    rw [← hm]
    exact leads_stores hp hr hh hk ht (by tauto)
  case w1s =>
    have hm : r.store (s.rd (p.base + addr % 0x1000)) v = s.rd (p.base + addr % 0x1000) ||| (v &&& word r.mask) := by
      simp only [RegRow.store, hf]
    rw [← hm]
    exact leads_stores hp hr hh hk ht (by tauto)
end


section
/-! PROOFS. O8: refused writes (R8, R34, R35, R45, R298) and a half's writes to its code store (R610). -/

namespace Sys2Proof.Machine

/-! ## The code store -/

theorem octets_length (v : Word) : (octets v).length = 4 := by simp [octets]

theorem octets_getD_lt (v : Word) (i : Nat) : (octets v).getD i 0 < 256 := by
  rw [List.getD_eq_getElem?_getD]
  cases e : (octets v)[i]? with
  | none => decide
  | some x =>
    obtain ⟨j, -, rfl⟩ := List.mem_map.1 (List.mem_of_getElem? e)
    exact Nat.mod_lt _ (by decide)

/-- The table after octets are put from an offset up, wrapping at the end of half h's code store. -/
def putOctets (h : Half) (off : Nat) (l : List Nat) (t : Tbl (Option Nat)) : Tbl (Option Nat) :=
  (l.zipIdx off).foldl (fun t e => Tbl.set none t (2 ^ 31 * h.idx + e.2 % 2 ^ 31) (some (e.1 % 256))) t

theorem State.codePut_eq (s : State) (h : Half) (off : Nat) (l : List Nat) :
    s.codePut h off l = { s with codeStore := putOctets h off l s.codeStore } := rfl

/-- Octets put behind an offset leave it alone. -/
theorem putOctets_get_below (h : Half) {l : List Nat} {off k : Nat} (hk : k < off) (hl : off + l.length ≤ k + 2 ^ 31)
    (t : Tbl (Option Nat)) :
    Tbl.get none (putOctets h off l t) (2 ^ 31 * h.idx + k) = Tbl.get none t (2 ^ 31 * h.idx + k) := by
  induction l generalizing off t with
  | nil => rfl
  | cons x l ih =>
    simp only [List.length_cons] at hl
    have hne : 2 ^ 31 * h.idx + k ≠ 2 ^ 31 * h.idx + off % 2 ^ 31 := by omega
    calc Tbl.get none (putOctets h off (x :: l) t) (2 ^ 31 * h.idx + k)
      _ = Tbl.get none (Tbl.set none t (2 ^ 31 * h.idx + off % 2 ^ 31) (some (x % 256))) (2 ^ 31 * h.idx + k) :=
        ih (off := off + 1) (by omega) (by omega) _
      _ = Tbl.get none t (2 ^ 31 * h.idx + k) := Tbl.get_set_ne _ _ _ _ _ _ hne

/-- An octet put is read back. -/
theorem putOctets_get (h : Half) {l : List Nat} {off i : Nat} (hi : i < l.length) (hl : l.length ≤ 4)
    (hoff : off + i < 2 ^ 31) (t : Tbl (Option Nat)) :
    Tbl.get none (putOctets h off l t) (2 ^ 31 * h.idx + (off + i)) = some (l.getD i 0 % 256) := by
  induction l generalizing off i t with
  | nil => cases hi
  | cons x l ih =>
    simp only [List.length_cons] at hi hl
    cases i with
    | zero =>
      have hm : off % 2 ^ 31 = off := Nat.mod_eq_of_lt (by omega)
      calc Tbl.get none (putOctets h off (x :: l) t) (2 ^ 31 * h.idx + off)
        _ = Tbl.get none (Tbl.set none t (2 ^ 31 * h.idx + off % 2 ^ 31) (some (x % 256))) (2 ^ 31 * h.idx + off) :=
          putOctets_get_below h (off := off + 1) (by omega) (by omega) _
        _ = some (x % 256) := by rw [hm, Tbl.get_set_same]
    | succ i =>
      have := ih (off := off + 1) (i := i) (by omega) (by omega) (by omega)
        (Tbl.set none t (2 ^ 31 * h.idx + off % 2 ^ 31) (some (x % 256)))
      rw [show off + (i + 1) = off + 1 + i by omega]
      simpa [putOctets] using this

theorem State.codeOct_codePut (s : State) (h : Half) {l : List Nat} {off i : Nat} (hi : i < l.length) (hl : l.length ≤ 4)
    (hoff : off + i < 2 ^ 31) : (s.codePut h off l).codeOct h (off + i) = l.getD i 0 % 256 := by
  simp only [State.codeOct, State.codePut_eq, putOctets_get h hi hl hoff]

/-- A half's write where its code store lies. -/
theorem exec_registerWrite_code {acc : Access} {h : Half} {addr off : Nat} (hm : acc.master = .half h)
    (ho : codeOff addr = some off) (s : State) (size : Nat) (v : Word) :
    exec (.registerWrite acc size addr v) s = .next (codeWrite h acc.secure addr off ((octets v).take size) s) := by
  change execRegisterWrite acc size addr v s = _
  simp [execRegisterWrite, Access.code, hm, ho]

theorem codeWrite_slot {off : Nat} (hi : inSlot off = true) (h : Half) (sec : Bool) (addr : Nat) (l : List Nat) (s : State) :
    codeWrite h sec addr off l s = s.answer .busError := by
  simp [codeWrite, hi]

theorem codeWrite_data {s : State} {h : Half} {sec : Bool} {addr off : Nat} {l : List Nat} (hi : inSlot off = false)
    (hm : s.memTakes h sec addr l.length = true) : codeWrite h sec addr off l s = (s.codePut h off l).answer .ok := by
  simp [codeWrite, hi, hm]

/-- The data region takes a write of one to four octets. -/
theorem codeWrite_data_spec {s : State} {h : Half} {sec : Bool} {addr off size : Nat} {v : Word} (hi : inSlot off = false)
    (h4 : size ≤ 4) (hm : s.memTakes h sec addr size = true) :
    let t := codeWrite h sec addr off ((octets v).take size) s
    t.resp = .ok ∧ t.regs = s.regs ∧ ∀ i < size, off + i < 2 ^ 31 → t.codeOct h (off + i) = (octets v).getD i 0 := by
  have hl : ((octets v).take size).length = size := by simp [octets_length, h4]
  intro t
  have ht : t = (s.codePut h off ((octets v).take size)).answer .ok := codeWrite_data hi (by rwa [hl])
  refine ⟨by rw [ht]; rfl, by rw [ht]; rfl, fun i hi ho => ?_⟩
  calc t.codeOct h (off + i)
    _ = (s.codePut h off ((octets v).take size)).codeOct h (off + i) := by rw [ht]; rfl
    _ = ((octets v).take size).getD i 0 % 256 := s.codeOct_codePut h (by omega) (by omega) ho
    _ = (octets v).getD i 0 % 256 := by simp [List.getD_eq_getElem?_getD, hi]
    _ = (octets v).getD i 0 := Nat.mod_eq_of_lt (octets_getD_lt v i)

/-! ## Ownership failures (R35, R40) -/

/-- OWNER_VIOL stands in UNIT_STAT once it is set. -/
theorem State.bit_ownerViolFlag (s : State) (prim : Nat) :
    (s.ownerViolFlag prim).bit (prim + Reg.Hdr.UNIT_STAT) 10 = true := by
  have hw := (s.rd (prim + Reg.Hdr.UNIT_STAT)).isLt
  simp only [State.ownerViolFlag, State.setBit, State.setFld_eq, State.bit, State.rd_wr_same, bitOf, bitsOf, setBits, b2n,
    BitVec.toNat_ofNat, ↓reduceIte, beq_iff_eq]
  omega

/-- What an ownership failure leaves: OWNER_VIOL on the page, the address and one more failure counted in SYS. -/
theorem State.ownerViol_spec (s : State) {prim : Nat} (hp : prim % 0x1000 = 0) (addr : Nat) :
    (s.ownerViol prim addr).bit (prim + Reg.Hdr.UNIT_STAT) 10 = true ∧
      (s.ownerViol prim addr).rd (sysBase + Reg.Sys.ACC_VIOL_ADDR) = word addr ∧
      (s.ownerViol prim addr).rdN (sysBase + Reg.Sys.ACC_VIOL_CNT) =
        min 0xFFFFFFFF (s.rdN (sysBase + Reg.Sys.ACC_VIOL_CNT) + 1) ∧
      Keeps (fun k => k == prim + Reg.Hdr.UNIT_STAT || k == sysBase + Reg.Sys.ACC_VIOL_ADDR ||
        k == sysBase + Reg.Sys.ACC_VIOL_CNT) s (s.ownerViol prim addr) := by
  have hsa : prim + Reg.Hdr.UNIT_STAT ≠ sysBase + Reg.Sys.ACC_VIOL_ADDR := by
    simp only [sysBase, Reg.Hdr.UNIT_STAT, Reg.Sys.ACC_VIOL_ADDR]; omega
  have hsc : prim + Reg.Hdr.UNIT_STAT ≠ sysBase + Reg.Sys.ACC_VIOL_CNT := by
    simp only [sysBase, Reg.Hdr.UNIT_STAT, Reg.Sys.ACC_VIOL_CNT]; omega
  have hac : sysBase + Reg.Sys.ACC_VIOL_ADDR ≠ sysBase + Reg.Sys.ACC_VIOL_CNT := by decide
  refine ⟨?flag, ?address, ?counted, ?keeps⟩
  case flag =>
    have := s.bit_ownerViolFlag prim
    simp only [State.bit, State.ownerViol, State.wrN, State.count_ne _ _ _ hsc, State.rd_wr_ne _ _ _ _ hsa] at this ⊢
    exact this
  case address => simp [State.ownerViol, State.count_ne _ _ _ hac, State.wrN]
  case counted =>
    rw [State.ownerViol, State.rdN_count]
    simp [State.rdN, State.ownerViolFlag, State.rd_wr_ne _ _ _ _ hac.symm, State.rd_wr_ne _ _ _ _ hsc.symm]
  case keeps => exact (((Keeps.refl _ s).setBit 10 true (by simp)).wrN addr (by simp)).count (by simp)

theorem Keeps.trans {p : Nat → Bool} {s t u : State} (h : Keeps p s t) (h' : Keeps p t u) : Keeps p s u := by
  obtain ⟨hr, ho, hh⟩ := h
  obtain ⟨hr', ho', hh'⟩ := h'
  refine ⟨fun k hk ha hb => (hr' k hk ha hb).trans (hr k hk ha hb), ?_, fun x => ?_⟩
  · rw [ho', ho]
  · rw [hh' x, hh x]

section
variable {s : State} {acc : Access} {size addr c : Nat} {v : Word} {p : Page}

theorem leads_violation (hj : s.judge acc true size addr = .violation) (hp : acc.page addr = some p) :
    Leads (.registerWrite acc size addr v) s fun t =>
      t.resp = .busError ∧ t.bit (p.prim + Reg.Hdr.UNIT_STAT) 10 = true ∧
      t.rd (sysBase + Reg.Sys.ACC_VIOL_ADDR) = word addr ∧
      t.rdN (sysBase + Reg.Sys.ACC_VIOL_CNT) = min 0xFFFFFFFF (s.rdN (sysBase + Reg.Sys.ACC_VIOL_CNT) + 1) ∧
      Keeps (fun k => k == p.prim + Reg.Hdr.UNIT_STAT || k == sysBase + Reg.Sys.ACC_VIOL_ADDR ||
        k == sysBase + Reg.Sys.ACC_VIOL_CNT) s t := by
  refine leads_registerWrite (Access.code_of_page hp) ?_
  rw [regWriteSized_violation hj hp]
  obtain ⟨flag, address, counted, keeps⟩ := (s.cmpWrite acc size addr v).ownerViol_spec (Access.page_prim hp) addr
  have hc : (s.cmpWrite acc size addr v).rdN (sysBase + Reg.Sys.ACC_VIOL_CNT) = s.rdN (sysBase + Reg.Sys.ACC_VIOL_CNT) :=
    congrArg _ (s.cmpWrite_rd_sys acc size addr v (by decide))
  exact ⟨rfl, flag, address, hc ▸ counted, ((s.cmpWrite_keeps _ acc size addr v).trans keeps).answer _⟩

/-- With the event counters muzzled (R534) a discarded write counts in STBY_DISCARD alone. -/
theorem State.stbyDiscard_muzzled (hu : s.unmuzzled acc.secure = false) :
    s.stbyDiscard acc = s.count (sysBase + Reg.Sys.STBY_DISCARD) := by
  have hd : (s.count (sysBase + Reg.Sys.STBY_DISCARD)).unmuzzled acc.secure = false := by
    rw [← hu]
    simp only [State.unmuzzled, State.bit, State.count_ne s (sysBase + Reg.Sys.STBY_DISCARD) (sysBase + Reg.Sys.DBG_EN) (by decide)]
  unfold State.stbyDiscard
  split <;> simp [State.onlyIf, hd]

theorem leads_discard (hj : s.judge acc true size addr = .discard) (hu : s.unmuzzled acc.secure = false) :
    Leads (.registerWrite acc size addr v) s fun t =>
      t.resp = .ok ∧
      t.rdN (sysBase + Reg.Sys.STBY_DISCARD) = min 0xFFFFFFFF (s.rdN (sysBase + Reg.Sys.STBY_DISCARD) + 1) ∧
      Keeps (· == sysBase + Reg.Sys.STBY_DISCARD) s t := by
  obtain ⟨p, hp⟩ := State.judge_discard_page hj
  refine leads_registerWrite (Access.code_of_page hp) ?_
  have hrd : ∀ off < 0x1000, (s.cmpWrite acc size addr v).rd (sysBase + off) = s.rd (sysBase + off) :=
    fun off ho => s.cmpWrite_rd_sys acc size addr v ho
  have hu' : (s.cmpWrite acc size addr v).unmuzzled acc.secure = false := by
    rw [← hu]
    simp only [State.unmuzzled, State.bit, hrd Reg.Sys.DBG_EN (by decide)]
  rw [regWriteSized_discard hj, State.stbyDiscard_muzzled hu']
  refine ⟨rfl, ?_, ((s.cmpWrite_keeps _ acc size addr v).count (by simp)).answer _⟩
  have hc : (s.cmpWrite acc size addr v).rdN (sysBase + Reg.Sys.STBY_DISCARD) = s.rdN (sysBase + Reg.Sys.STBY_DISCARD) :=
    congrArg _ (hrd Reg.Sys.STBY_DISCARD (by decide))
  rw [← hc]
  exact State.rdN_count _ _

/-! ## The side band (R45, R298) -/

theorem State.rstRefused_spec (s : State) (addr c : Nat) :
    let t := s.rstRefused addr (.refuse c)
    t.rdN (sysBase + Reg.Sys.SB_REFUSE_CNT) = s.rdN (sysBase + Reg.Sys.SB_REFUSE_CNT) ∧
      (addr = pwrBase + Reg.Pwr.RST_REQ → c ≠ sbAlignment →
        t.rdN (sysBase + Reg.Sys.ACC_VIOL_CNT) = min 0xFFFFFFFF (s.rdN (sysBase + Reg.Sys.ACC_VIOL_CNT) + 1)) ∧
      Keeps (fun k => k == sysBase + Reg.Sys.SB_REFUSE_CNT ||
        (addr == pwrBase + Reg.Pwr.RST_REQ && k == sysBase + Reg.Sys.ACC_VIOL_CNT)) s t := by
  intro t
  by_cases hc : addr = pwrBase + Reg.Pwr.RST_REQ ∧ c ≠ sbAlignment
  · obtain ⟨ha, hc⟩ := hc
    have ht : t = s.count (sysBase + Reg.Sys.ACC_VIOL_CNT) := by simp [t, State.rstRefused, State.onlyIf, ha, hc]
    rw [ht]
    exact ⟨s.rdN_count_ne (by decide), fun _ _ => s.rdN_count _, (Keeps.refl _ s).count (by simp [ha])⟩
  · have ht : t = s := by
      unfold t State.rstRefused State.onlyIf
      exact if_neg (by simpa using hc)
    rw [ht]
    exact ⟨rfl, fun ha hne => absurd ⟨ha, hne⟩ hc, Keeps.refl _ s⟩

theorem leads_refuse (hj : s.judge acc true size addr = .refuse c) :
    Leads (.registerWrite acc size addr v) s fun t =>
      t.resp = .code c ∧
      t.rdN (sysBase + Reg.Sys.SB_REFUSE_CNT) = min 0xFFFFFFFF (s.rdN (sysBase + Reg.Sys.SB_REFUSE_CNT) + 1) ∧
      (addr = pwrBase + Reg.Pwr.RST_REQ → c ≠ sbAlignment →
        t.rdN (sysBase + Reg.Sys.ACC_VIOL_CNT) = min 0xFFFFFFFF (s.rdN (sysBase + Reg.Sys.ACC_VIOL_CNT) + 1)) ∧
      Keeps (fun k => k == sysBase + Reg.Sys.SB_REFUSE_CNT ||
        (addr == pwrBase + Reg.Pwr.RST_REQ && k == sysBase + Reg.Sys.ACC_VIOL_CNT)) s t := by
  refine leads_registerWrite (Access.code_shep (State.judge_refuse hj) addr) ?_
  rw [regWriteSized_refuse hj]
  obtain ⟨hsb, hrst, keeps⟩ := s.rstRefused_spec addr c
  refine ⟨rfl, ?_, fun ha hc => ?_, (keeps.count (by simp)).answer _⟩
  · rw [← hsb]
    exact State.rdN_count _ _
  · rw [← hrst ha hc]
    exact State.rdN_count_ne _ (by decide)

end

end Sys2Proof.Machine

open Sys2Proof Sys2Proof.Machine

/-- Settles O8: one lemma per verdict, and for the code store one per region. -/
theorem refusedWrites : Obligations.RefusedWrites := by
  unfold Obligations.RefusedWrites
  intro s acc size addr v
  refine ⟨fun hs hu hc h hm => ?unaligned, fun h hm => ?code, fun p hj hp => leads_violation hj hp,
    fun h hj _ hu => leads_discard hj hu, fun c hj => leads_refuse hj⟩
  case unaligned =>
    have hj : s.judge acc true size addr = .busError := by simp [State.judge_unaligned hs hu, hm]
    exact leads_registerWrite hc (regWriteSized_busError hj (s.cmpWrite_unaligned hu acc v))
  case code =>
    cases ho : codeOff addr with
    | none => exact leads_registerWrite (by simp [Access.code, hm, ho]) (fun off ho' => by cases ho')
    | some off =>
      refine ⟨_, exec_registerWrite_code hm ho s size v, fun off' ho' => ?_⟩
      cases ho'
      exact ⟨fun hi => codeWrite_slot hi h acc.secure addr _ s,
        fun hi _ h4 hmem => codeWrite_data_spec hi h4 hmem⟩
end


section
/-! PROOFS. O9: reads that clear (R12, R391). -/

namespace Sys2Proof.Machine

theorem findRow_mem {rows : List RegRow} {off j : Nat} {r : RegRow} (h : findRow rows off = some (r, j)) : r ∈ rows := by
  induction rows with
  | nil => cases h
  | cons x rows ih =>
    unfold findRow at h
    split at h
    · cases h
      exact List.mem_cons_self
    · exact List.mem_cons_of_mem x (ih h)

/-- No header register is read-to-clear. -/
theorem rowsHdr_ne_rc : ∀ r ∈ rowsHdr, r.acc ≠ .rc := by decide

/-- A read-to-clear register lies past the page header. -/
theorem Page.row_rc_past_header {p : Page} {off j : Nat} {r : RegRow} (hr : p.row off = some (r, j)) (hc : r.acc = .rc) :
    (p.hasHeader && decide (off < 0x40)) = false := by
  by_contra hh
  unfold Page.row at hr
  split at hr
  · cases hr
  · rw [if_pos (by simpa using hh)] at hr
    exact rowsHdr_ne_rc r (findRow_mem hr) hc

theorem Page.not_header_reg {p : Page} {off : Nat} (h : (p.hasHeader && decide (off < 0x40)) = false) {reg : Nat}
    (hreg : reg < 0x40) : (p.hasHeader && off == reg) = false := by
  cases hp : p.hasHeader with
  | false => rfl
  | true =>
    have ho : ¬ off < 0x40 := by simpa [hp] using h
    have hne : off ≠ reg := by omega
    simpa using hne

section
variable {s : State} {acc : Access} {addr j : Nat} {p : Page} {r : RegRow}
  (hp : acc.page addr = some p) (hr : p.row (addr % 0x1000) = some (r, j)) (hc : r.acc = .rc)
include hp hr hc

/-- A read-to-clear register with a read of its own. -/
theorem pageRead_rc_effect {f : State → State} (he : readEffect acc p (addr % 0x1000) = some f) :
    pageRead acc addr s = f s := by
  have hh := Page.row_rc_past_header hr hc
  have hreg : ∀ reg < 0x40, (p.hasHeader && addr % 0x1000 == reg) = false := fun _ => Page.not_header_reg hh
  simp [pageRead, hp, hr, hh, hreg Reg.Hdr.OWNER (by decide), hreg Reg.Hdr.UNIT_STAT (by decide), he]

/-- A read-to-clear register that shows what it holds. -/
theorem pageRead_rc_counter (he : readEffect acc p (addr % 0x1000) = none) (hl : s.live acc p (addr % 0x1000) = none) :
    pageRead acc addr s = readClear acc p (s.regKey acc p (addr % 0x1000)) s := by
  have hh := Page.row_rc_past_header hr hc
  have hreg : ∀ reg < 0x40, (p.hasHeader && addr % 0x1000 == reg) = false := fun _ => Page.not_header_reg hh
  simp [pageRead, hp, hr, hh, hreg Reg.Hdr.OWNER (by decide), hreg Reg.Hdr.UNIT_STAT (by decide), he, hl, hc]

/-- FENCE is no read-to-clear register, so a read of one is a read of its page. -/
theorem leads_rcRead_rc (ht : Shows s acc addr) {P : State → Prop} (hP : P (pageRead (s.asSent acc) addr s)) :
    Leads (.rcRead acc 4 addr) s P := by
  refine leads_rcRead (Access.code_of_page hp) ?_
  have hf : ¬ (addr = spanReg Reg.Span.FENCE ∧ 4 = 4) := by
    rintro ⟨rfl, -⟩
    cases acc.page_fence.symm.trans hp
    cases (show (Page.own .span 0 spanBase).row (spanReg Reg.Span.FENCE % 0x1000) =
      some (⟨0x50, .ro, 0x0, .x, 0x0, 1, 0x4⟩, 0) by decide +kernel).symm.trans hr
    cases hc
  rw [regReadSized_eq_read hf, State.read_accept s acc addr _ ht]
  exact hP

end

/-- A register answers its value and is reloaded where the reader keeps the page's counts. -/
theorem reload_spec (s : State) (k : Nat) (b : Bool) (n : Nat) :
    let t := (s.onlyIf b (·.wrN k n)).answer (.data (s.rd k))
    t.resp = .data (s.rd k) ∧ t.rd k = (if b then word n else s.rd k) ∧ Keeps (· == k) s t := by
  refine ⟨rfl, ?_, (Keeps.onlyIf (Keeps.refl _ s) ((Keeps.refl _ s).wrN n (by simp))).answer _⟩
  cases b <;> simp

/-! ## Q_DROP -/

/-- The VI pages follow each other behind VI0's. -/
theorem Access.page_qDrop {n : Nat} (h0 : 0 < n) (hn : n < 128) (acc : Access) :
    acc.page (viBase n + Reg.Vi.Q_DROP) = some (.own .vi n (viBase n)) := by
  have ha : ∀ n < 128, 0 < n → pageOf 0 (viBase n + Reg.Vi.Q_DROP) = some (.own .vi n (viBase n)) := by decide +kernel
  have hb : ∀ n < 128, 0 < n → pageOf 1 (viBase n + Reg.Vi.Q_DROP) = some (.own .vi n (viBase n)) := by decide +kernel
  refine acc.page_shared ?_ (ha n hn h0) (hb n hn h0)
  simp [shepSees, viBase, Reg.Vi.Q_DROP]
  omega

theorem State.hq_setHq (s : State) (h : Half) (n q : Nat) (x : HQueue) : (s.setHq h n q x).hq h n q = x :=
  Tbl.get_set_same _ _ _ _

/-- A half's read of Q_DROP of a selected queue it has. -/
theorem readQDrop_half {s : State} {acc : Access} {h : Half} {n : Nat} (hm : acc.master = .half h)
    (hq : s.qSel h n < s.qCount n) :
    readQDrop acc n s =
      (s.setHq h n (s.qSel h n) { s.hq h n (s.qSel h n) with drop := 0 }).answer
        (.data (word (s.hq h n (s.qSel h n)).drop)) := by
  have hv : s.viBank acc = h := by simp [State.viBank, hm]
  have hn : ¬ s.qCount n ≤ s.qSel h n := by omega
  simp [readQDrop, hv, hn, hm, State.onlyIf]

end Sys2Proof.Machine

open Sys2Proof Sys2Proof.Machine

/-- Settles O9: the read-to-clear registers in general, then the two with a read of their own. -/
theorem readClears : Obligations.ReadClears := by
  unfold Obligations.ReadClears
  refine ⟨fun s acc addr p r j ht hp hr hc hl he => ?counter, fun s acc ht => ?bufMin,
    fun s acc h n h0 hn hm ht hq => ?qDrop⟩
  case counter =>
    have hp' : (s.asSent acc).page addr = some p := by simpa using hp
    refine leads_rcRead_rc hp hr hc ht ?_
    rw [pageRead_rc_counter hp' hr hc (Option.isNone_iff_eq_none.1 he) hl]
    unfold readClear
    rw [State.readClears_asSent]
    exact reload_spec s (s.regKey (s.asSent acc) p (addr % 0x1000)) (s.readClears acc p) 0
  case bufMin =>
    have hp : ∀ acc : Access, acc.page (swBase + Reg.Sw.BUF_MIN) = some (.own .sw 0 swBase) :=
      Access.page_shared (by decide) (by decide +kernel) (by decide +kernel)
    have hr : (Page.own .sw 0 swBase).row ((swBase + Reg.Sw.BUF_MIN) % 0x1000) =
        some (⟨0x48, .rc, 0x20000, .s, 0x0, 1, 0x4⟩, 0) := by decide +kernel
    refine leads_rcRead_rc (hp acc) hr rfl ht ?_
    rw [pageRead_rc_effect (hp _) hr rfl (f := readBufMin (s.asSent acc) (.own .sw 0 swBase)) rfl]
    unfold readBufMin
    rw [State.readClears_asSent]
    exact reload_spec s (swBase + Reg.Sw.BUF_MIN) (s.readClears acc (.own .sw 0 swBase)) s.bufFree
  case qDrop =>
    have hp : acc.page (viBase n + Reg.Vi.Q_DROP) = some (.own .vi n (viBase n)) := acc.page_qDrop h0 hn
    have ho : (viBase n + Reg.Vi.Q_DROP) % 0x1000 = Reg.Vi.Q_DROP := by
      simp only [viBase, Reg.Vi.Q_DROP]; omega
    have hr : (Page.own .vi n (viBase n)).row ((viBase n + Reg.Vi.Q_DROP) % 0x1000) =
        some (⟨0x78, .rc, 0x0, .x, 0x0, 1, 0x4⟩, 0) := by rw [ho]; rfl
    refine leads_rcRead_rc hp hr rfl ht ?_
    rw [State.asSent_half hm, pageRead_rc_effect hp hr rfl (f := readQDrop acc n) (by rw [ho]; rfl), readQDrop_half hm hq]
    exact ⟨rfl, State.hq_setHq .., rfl⟩
end


section
/-! PROOFS. Fields of a register, changes that write registers only, and an accepted write of a page header's register. -/

namespace Sys2Proof.Machine

/-! ## Bit fields -/

theorem add_mul_lt_mul {a A q R : Nat} (ha : a < A) (hq : q < R) : a + A * q < A * R :=
  calc a + A * q < A + A * q := by omega
    _ = A * (q + 1) := by ring
    _ ≤ A * R := Nat.mul_le_mul_left A hq

/-- A field replaced lies between what is below it and what is above it. -/
theorem toNat_setBits (w : Word) {lo n : Nat} (v : Nat) (h : lo + n ≤ 32) :
    (setBits w lo n v).toNat = w.toNat % 2 ^ lo + 2 ^ lo * (v % 2 ^ n + 2 ^ n * (w.toNat / 2 ^ (lo + n))) := by
  obtain ⟨r, hr⟩ : ∃ r, 32 = lo + n + r := ⟨32 - (lo + n), by omega⟩
  have htop : w.toNat / 2 ^ (lo + n) < 2 ^ r := by
    rw [Nat.div_lt_iff_lt_mul (by positivity), ← pow_add, add_comm r, ← hr]
    exact w.isLt
  have hlt : w.toNat % 2 ^ lo + 2 ^ lo * (v % 2 ^ n + 2 ^ n * (w.toNat / 2 ^ (lo + n))) < 2 ^ 32 :=
    calc _ < 2 ^ lo * (2 ^ n * 2 ^ r) :=
          add_mul_lt_mul (Nat.mod_lt _ (by positivity)) (add_mul_lt_mul (Nat.mod_lt _ (by positivity)) htop)
      _ = 2 ^ 32 := by rw [← mul_assoc, ← pow_add, ← pow_add, ← hr]
  rw [setBits, BitVec.toNat_ofNat, ← Nat.mod_eq_of_lt hlt]
  congr 1
  ring

theorem bitsOf_lt (w : Word) (lo n : Nat) : bitsOf w lo n < 2 ^ n := Nat.mod_lt _ (by positivity)

theorem bitsOf_setBits_same (w : Word) {lo n : Nat} (v : Nat) (h : lo + n ≤ 32) : bitsOf (setBits w lo n v) lo n = v % 2 ^ n := by
  rw [bitsOf, toNat_setBits w v h, Nat.add_mul_div_left _ _ (by positivity), Nat.div_eq_of_lt (Nat.mod_lt _ (by positivity)),
    zero_add, Nat.add_mul_mod_self_left, Nat.mod_mod]

/-- A field below the one replaced. -/
theorem bitsOf_setBits_below (w : Word) {lo n lo' n' : Nat} (v : Nat) (h : lo + n ≤ 32) (hb : lo' + n' ≤ lo) :
    bitsOf (setBits w lo n v) lo' n' = bitsOf w lo' n' := by
  have low (x : Nat) : x / 2 ^ lo' % 2 ^ n' = x % 2 ^ lo / 2 ^ lo' % 2 ^ n' := by
    obtain ⟨r, rfl⟩ : ∃ r, lo = lo' + (n' + r) := ⟨lo - (lo' + n'), by omega⟩
    rw [pow_add 2 lo', Nat.mod_mul_right_div_self, pow_add 2 n', Nat.mod_mul_right_mod]
  rw [bitsOf, bitsOf, toNat_setBits w v h, low, Nat.add_mul_mod_self_left, Nat.mod_mod, ← low]

/-- A field above the one replaced. -/
theorem bitsOf_setBits_above (w : Word) {lo n lo' n' : Nat} (v : Nat) (h : lo + n ≤ 32) (ha : lo + n ≤ lo') :
    bitsOf (setBits w lo n v) lo' n' = bitsOf w lo' n' := by
  obtain ⟨r, rfl⟩ : ∃ r, lo' = lo + n + r := ⟨lo' - (lo + n), by omega⟩
  have top : (setBits w lo n v).toNat / 2 ^ (lo + n) = w.toNat / 2 ^ (lo + n) := by
    rw [toNat_setBits w v h, pow_add, ← Nat.div_div_eq_div_mul, Nat.add_mul_div_left _ _ (by positivity),
      Nat.div_eq_of_lt (Nat.mod_lt _ (by positivity)), zero_add, Nat.add_mul_div_left _ _ (by positivity),
      Nat.div_eq_of_lt (Nat.mod_lt _ (by positivity)), zero_add]
  rw [bitsOf, bitsOf, pow_add 2 (lo + n) r, ← Nat.div_div_eq_div_mul, top, Nat.div_div_eq_div_mul]

theorem bitOf_setBits_same (w : Word) {i : Nat} (b : Bool) (h : i < 32) : bitOf (setBits w i 1 (b2n b)) i = b := by
  rw [bitOf, bitsOf_setBits_same w _ h]
  cases b <;> rfl

/-- The number a short enough field of a word made from a number shows. -/
theorem bitsOf_word {n lo k : Nat} (h : lo + k ≤ 32) : bitsOf (word n) lo k = n / 2 ^ lo % 2 ^ k := by
  obtain ⟨r, hr⟩ : ∃ r, 32 = lo + (k + r) := ⟨32 - (lo + k), by omega⟩
  rw [bitsOf, word, BitVec.toNat_ofNat, hr, pow_add, Nat.mod_mul_right_div_self, pow_add, Nat.mod_mul_right_mod]

/-! ## Changes that write registers only -/

/-- Nothing but registers `p` names is written from `s` to `t`. -/
def Writes (p : Nat → Bool) (s t : State) : Prop :=
  (∀ k, p k = false → t.rd k = s.rd k) ∧ t = { s with regs := t.regs }

section
variable {p q : Nat → Bool} {s t u : State}

theorem Writes.refl (p : Nat → Bool) (s : State) : Writes p s s := ⟨fun _ _ => rfl, rfl⟩

theorem Writes.trans (h : Writes p s t) (h' : Writes p t u) : Writes p s u :=
  ⟨fun k hk => (h'.1 k hk).trans (h.1 k hk), by rw [h'.2, h.2]⟩

theorem Writes.mono (h : Writes p s t) (hq : ∀ k, p k = true → q k = true) : Writes q s t :=
  ⟨fun k hk => h.1 k (by by_contra hc; simp [hq k (by simpa using hc)] at hk), h.2⟩

theorem Writes.wr (h : Writes p s t) {k : Nat} (hk : p k = true) (v : Word) : Writes p s (t.wr k v) :=
  h.trans ⟨fun j hj => State.rd_wr_ne t k j v (by rintro rfl; simp [hk] at hj), rfl⟩

theorem Writes.onlyIf (h : Writes p s t) {c : Bool} {f : State → State} (hf : c = true → Writes p t (f t)) :
    Writes p s (t.onlyIf c f) := State.onlyIf_ind h fun hc => h.trans (hf hc)

theorem Writes.each (h : Writes p s t) {α : Type} {l : List α} {f : State → α → State}
    (hf : ∀ x ∈ l, ∀ u, Writes p s u → Writes p u (f u x)) : Writes p s (t.each l f) :=
  State.each_ind h fun x hx u hu => hu.trans (hf x hx u hu)

theorem Writes.resp (h : Writes p s t) : t.resp = s.resp := by rw [h.2]

/-- After an access, registers `p` names are written. -/
theorem Keeps.writes (h : Keeps p s t) (h' : Writes p t u) : Keeps p s u := by
  obtain ⟨hr, ho, hh⟩ := h
  have hu : u.halves = t.halves := by rw [h'.2]
  refine ⟨fun k hk ha hb => (h'.1 k hk).trans (hr k hk ha hb), ?_, fun x => ?_⟩
  · rw [h'.2, ho]
  · simpa only [State.halfSt, hu] using hh x

end

theorem State.count_writes (s : State) (k : Nat) : Writes (· == k) s (s.count k) := by
  unfold State.count
  split
  · exact Writes.refl _ s
  · exact (Writes.refl _ s).wr (by simp) _

/-- A register of a page stands through a write of another of that page. -/
theorem State.rd_wr_off (s : State) (b : Nat) {x y : Nat} (h : x ≠ y) (v : Word) : (s.wr (b + y) v).rd (b + x) = s.rd (b + x) :=
  State.rd_wr_ne _ _ _ _ (by omega)

/-! ## Flags -/

section
variable (s : State) (base i k : Nat)

theorem State.raise_writes : Writes (· == base + Reg.Hdr.IRQ_RAW) s (s.raise base i) := (Writes.refl _ s).wr (by simp) _

theorem State.bit_setBit_same {i : Nat} (hi : i < 32) (b : Bool) : (s.setBit k i b).bit k i = b := by
  simp [State.bit, bitOf_setBits_same _ _ hi]

theorem State.bit_raise {i : Nat} (hi : i < 32) : (s.raise base i).bit (base + Reg.Hdr.IRQ_RAW) i = true :=
  s.bit_setBit_same _ hi true

end

/-! ## The keys of a page -/

/-- Registers at different places of pages are different registers. -/
theorem base_add_ne {b c x y : Nat} (hb : b % 0x1000 = 0) (hc : c % 0x1000 = 0) (hx : x < 0x1000) (hy : y < 0x1000)
    (h : x ≠ y) : b + x ≠ c + y := by omega

theorem cmpKey_mod (h : Half) : cmpKey h % 0x1000 = Reg.Local.CMP_WRITES := by cases h <;> rfl

/-- A register at another place of its page than CMP_WRITES is no write counter of the comparison. -/
theorem ne_cmpKey {k : Nat} (hk : k % 0x1000 ≠ Reg.Local.CMP_WRITES) (h : Half) : k ≠ cmpKey h := by
  rintro rfl
  exact hk (cmpKey_mod h)

/-- A register an access does not name reads as before. -/
theorem Keeps.rd {f : Nat → Bool} {s t : State} (h : Keeps f s t) {k : Nat} (hf : f k = false)
    (hk : k % 0x1000 ≠ Reg.Local.CMP_WRITES) : t.rd k = s.rd k := h.1 k hf (ne_cmpKey hk .a) (ne_cmpKey hk .b)

theorem Access.page_base {acc : Access} {addr : Nat} {p : Page} (hp : acc.page addr = some p) : p.base % 0x1000 = 0 := by
  have := Access.page_baseOk hp
  simp only [baseOk, Bool.and_eq_true, beq_iff_eq] at this
  exact this.1

/-! ## An accepted write -/

/-- The state an accepted write hands to the effect on its register: the write counts for the comparison and is answered. -/
def State.taken (s : State) (acc : Access) (addr : Nat) (v : Word) : State := (s.cmpWrite acc 4 addr v).answer .ok

section
variable {s : State} {acc : Access} {addr : Nat} {v : Word}

theorem write_taken (ht : Takes s acc addr) (eff : Access → State → State) :
    s.write acc 4 addr v eff = eff (s.asSent acc) (s.taken acc addr v) := State.write_accept s acc addr v eff ht

@[simp] theorem State.asSent_vi (s : State) (acc : Access) : (s.asSent acc).vi = acc.vi := by
  unfold State.asSent
  split <;> rfl

theorem State.taken_frame (p : Nat → Bool) (s : State) (acc : Access) (addr : Nat) (v : Word) :
    Keeps p s (s.taken acc addr v) := s.taken_keeps p acc addr v

theorem State.taken_rd {k : Nat} (hk : k % 0x1000 ≠ Reg.Local.CMP_WRITES) : (s.taken acc addr v).rd k = s.rd k :=
  s.cmpWrite_rd acc 4 addr v k (ne_cmpKey hk .a) (ne_cmpKey hk .b)

theorem State.taken_resp : (s.taken acc addr v).resp = .ok := rfl

/-- What is outside the registers, the answer and the comparison, an accepted write hands on as it was. -/
theorem State.taken_eq {α : Type} (f : State → α)
    (hf : ∀ (s : State) r a h, f { s with regs := r, resp := a, halves := h } = f s) :
    f (s.taken acc addr v) = f s := by
  rw [(s.taken_frame (fun _ => false) acc addr v).2.1]
  exact hf s _ _ _

end

/-! ## The page header -/

section
variable {s : State} {acc : Access} {page off : Nat} {v : Word} {p : Page}

theorem pageAddr_mod (page : Nat) (ho : off < 0x1000) : pageAddr page off % 0x1000 = off := by
  unfold pageAddr
  omega

/-- An accepted write of a register of a page header. -/
theorem regWrite_header (ht : Takes s acc (pageAddr page off)) (hp : acc.page (pageAddr page off) = some p)
    (hh : p.hasHeader = true) (ho : off < 0x40) :
    regWrite acc (pageAddr page off) v s =
      headerWrite (s.asSent acc) p (pageAddr page off) off v (s.taken acc (pageAddr page off) v) := by
  have hp' : (s.asSent acc).page (pageAddr page off) = some p := by simpa using hp
  rw [State.regWrite_accept s acc _ v ht]
  simp [pageWrite, hp', pageAddr_mod page (show off < 0x1000 by omega), hh, ho, State.taken]

/-- The header of a page stands through what a write hands on. -/
theorem State.taken_rd_header {acc' : Access} {addr addr' : Nat} (hp : acc'.page addr' = some p) (ho : off < 0x40) :
    (s.taken acc addr v).rd (p.base + off) = s.rd (p.base + off) := by
  have := Access.page_base hp
  refine State.taken_rd ?_
  simp only [Reg.Local.CMP_WRITES]
  omega

end

end Sys2Proof.Machine
end


section
/-! PROOFS. O10: OWNER, LOCK, IRQ_CLR and IRQ_FORCE (R29, R36, R38, R39, R55). -/

namespace Sys2Proof.Machine

/-! ## OWNER -/

/-- A field of the bits OWNER stores. -/
theorem bitsOf_and_owner (v : Word) {lo n : Nat} (h : lo + n ≤ 11) : bitsOf (v &&& 0x7FF) lo n = bitsOf v lo n := by
  obtain ⟨r, hr⟩ : ∃ r, 11 = lo + (n + r) := ⟨11 - (lo + n), by omega⟩
  have hm : (v &&& 0x7FF).toNat = v.toNat % 2 ^ 11 := by
    rw [BitVec.toNat_and]
    exact Nat.and_two_pow_sub_one_eq_mod v.toNat 11
  rw [bitsOf, hm, hr, pow_add, Nat.mod_mul_right_div_self, pow_add, Nat.mod_mul_right_mod, bitsOf]

/-- The unit whose generation a page's OWNER counts (R55). -/
def Page.genUnit (p : Page) : Nat := match p.kind with | .local | .msg => halfBase p.idx | _ => p.prim

theorem Page.genUnit_eq (p : Page) : p.genUnit = if p.kind = .local ∨ p.kind = .msg then halfBase p.idx else p.prim := by
  unfold Page.genUnit
  split <;> simp_all

theorem Page.genUnit_mod {acc : Access} {addr : Nat} {p : Page} (hp : acc.page addr = some p) : p.genUnit % 0x1000 = 0 := by
  rw [p.genUnit_eq]
  split
  · unfold halfBase
    omega
  · exact Access.page_prim hp


theorem State.gen_bumpGen (s : State) (b : Nat) : (s.bumpGen b).gen b = if s.gen b = 0xFFFF then 1 else s.gen b + 1 := by
  have hg : s.gen b < 2 ^ 16 := bitsOf_lt _ _ _
  have hs : (s.bumpGen b).gen b = (if s.gen b = 0xFFFF then 1 else s.gen b + 1) % 2 ^ 16 := by
    simp only [State.bumpGen, State.gen, State.fld, State.setFld_eq, State.rd_wr_same,
      bitsOf_setBits_same _ _ (show 0 + 16 ≤ 32 by decide)]
    rfl
  rw [hs, Nat.mod_eq_of_lt]
  split <;> omega

theorem State.bumpGen_writes (s : State) (b : Nat) : Writes (· == b + Reg.Hdr.ROLE_GEN) s (s.bumpGen b) :=
  (Writes.refl _ s).wr (by simp) _

section
variable {s : State} {acc : Access} {p : Page} {addr : Nat} {v : Word}

/-- A secure write of VI0 to an OWNER that is not locked is taken. -/
theorem ownerWrite_takes (hs : acc.secure = true) (hv : acc.vi = 0) (hl : s.ownerLocked p = false) :
    ownerWrite acc p addr v s =
      (s.wr (p.base + Reg.Hdr.OWNER) (v &&& 0x7FF)).onlyIf
        (bitsOf (s.rd (p.base + Reg.Hdr.OWNER)) 1 7 != bitsOf v 1 7 || bitsOf (s.rd (p.base + Reg.Hdr.OWNER)) 8 2 != bitsOf v 8 2)
        (·.bumpGen p.genUnit) := by
  have h1 := bitsOf_and_owner v (show 1 + 7 ≤ 11 by decide)
  have h8 := bitsOf_and_owner v (show 8 + 2 ≤ 11 by decide)
  simp only [ownerWrite, h1, h8]
  rw [if_neg (by simp [hs, hv]), if_neg (by simp [hl])]
  rfl

/-- What a write that is taken leaves: the stored bits, and a generation counted where VI or HALF changes (R39, R55). -/
theorem ownerWrite_takes_spec (hs : acc.secure = true) (hv : acc.vi = 0) (hl : s.ownerLocked p = false)
    (hb : p.base % 0x1000 = 0) (hg : p.genUnit % 0x1000 = 0) :
    let k := p.base + Reg.Hdr.OWNER
    let chg := bitsOf (s.rd k) 1 7 ≠ bitsOf v 1 7 ∨ bitsOf (s.rd k) 8 2 ≠ bitsOf v 8 2
    let t := ownerWrite acc p addr v s
    t.rd k = v &&& 0x7FF ∧ (¬chg → t.gen p.genUnit = s.gen p.genUnit) ∧
      (chg → t.gen p.genUnit = if s.gen p.genUnit = 0xFFFF then 1 else s.gen p.genUnit + 1) ∧
      Writes (fun j => j == k || j == p.genUnit + Reg.Hdr.ROLE_GEN) s t := by
  intro k chg t
  let x := s.wr k (v &&& 0x7FF)
  have hne : k ≠ p.genUnit + Reg.Hdr.ROLE_GEN := base_add_ne hb hg (by decide) (by decide) (by decide)
  have hx : x.gen p.genUnit = s.gen p.genUnit := by
    simp only [State.gen, State.fld, x, State.rd_wr_ne s k _ _ hne.symm]
  have hw : Writes (fun j => j == k || j == p.genUnit + Reg.Hdr.ROLE_GEN) s x := (Writes.refl _ s).wr (by simp) _
  by_cases hc : chg
  · have ht : t = x.bumpGen p.genUnit := by
      rw [show t = _ from ownerWrite_takes hs hv hl]
      exact if_pos (by simpa [chg] using hc)
    rw [ht]
    refine ⟨?_, fun hn => absurd hc hn, fun _ => by rw [x.gen_bumpGen, hx], hw.trans ((x.bumpGen_writes _).mono (by simp))⟩
    rw [(x.bumpGen_writes _).1 k (by simpa using hne), State.rd_wr_same]
  · have ht : t = x := by
      rw [show t = _ from ownerWrite_takes hs hv hl]
      exact if_neg (by simpa [chg] using hc)
    rw [ht]
    exact ⟨State.rd_wr_same .., fun _ => hx, fun h => absurd h hc, hw⟩

/-- A normal-world write that R36 stops. -/
theorem ownerWrite_insecure {h : Half} (hm : acc.master = .half h) (hs : acc.secure = false)
    (hn : bitOf (s.rd (p.base + Reg.Hdr.OWNER)) 0 = true ∨ bitOf v 0 = true ∨
      bitsOf (s.rd (p.base + Reg.Hdr.OWNER)) 8 2 ≠ bitsOf v 8 2) :
    ownerWrite acc p addr v s = (s.ownerViol p.prim addr).answer .busError := by
  have h0 : bitOf (v &&& 0x7FF) 0 = bitOf v 0 := by rw [bitOf, bitsOf_and_owner v (by decide), bitOf]
  simp only [ownerWrite, hs, h0, bitsOf_and_owner v (show 8 + 2 ≤ 11 by decide)]
  rw [if_pos]
  · simp [State.failWrite, hm]
  · cases ho : bitOf (s.rd (p.base + Reg.Hdr.OWNER)) 0 <;> simp_all

/-- A write that meets OWNER_LOCK. -/
theorem ownerWrite_locked {h : Half} (hm : acc.master = .half h) (hs : acc.secure = true) (hv : acc.vi = 0)
    (hl : s.ownerLocked p = true) : ownerWrite acc p addr v s = s.lockViol p.prim := by
  simp [ownerWrite, hs, hv, hl, State.lockedWrite, hm]

theorem State.lockViol_writes (s : State) (prim : Nat) :
    Writes (fun j => j == prim + Reg.Hdr.UNIT_STAT || j == prim + Reg.Hdr.IRQ_RAW) s (s.lockViol prim) :=
  .onlyIf ((Writes.refl _ s).wr (by simp) _) fun _ => ((State.raise_writes _ prim 4).mono (by simp))

theorem State.bit_lockViol (s : State) (prim : Nat) : (s.lockViol prim).bit (prim + Reg.Hdr.UNIT_STAT) 11 = true := by
  have hne : prim + Reg.Hdr.UNIT_STAT ≠ prim + Reg.Hdr.IRQ_RAW := by simp [Reg.Hdr.UNIT_STAT, Reg.Hdr.IRQ_RAW]
  have hb := s.bit_setBit_same (prim + Reg.Hdr.UNIT_STAT) (i := 11) (by decide) true
  refine State.onlyIf_ind (P := fun t => t.bit (prim + Reg.Hdr.UNIT_STAT) 11 = true) hb fun _ => ?_
  rw [State.bit, (State.raise_writes _ prim 4).1 _ (by simpa using hne)]
  exact hb

end

/-! ## IRQ_CLR and IRQ_FORCE -/

/-- EVIRQ is set beside what IRQ_RAW of HRN holds while an enabled line is set (R146). -/
theorem State.rd_evirqRaise (s : State) :
    s.evirqRaise.rd (hrnBase + Reg.Hdr.IRQ_RAW) =
      if (s.rd (hrnBase + Reg.Hrn.EVIRQ_RAW) &&& s.rd (hrnBase + Reg.Hrn.EVIRQ_EN)) ≠ 0 then
        setBits (s.rd (hrnBase + Reg.Hdr.IRQ_RAW)) 21 1 1
      else s.rd (hrnBase + Reg.Hdr.IRQ_RAW) := by
  unfold State.evirqRaise State.onlyIf State.raise
  split <;> simp_all [b2n]

theorem irqClr_rd (s : State) (p : Page) (v : Word) :
    let w := s.rd (p.base + Reg.Hdr.IRQ_RAW) &&& ~~~(v &&& word p.irqMask)
    (irqClr p v s).rd (p.base + Reg.Hdr.IRQ_RAW) =
      if p.base = hrnBase ∧ (s.rd (hrnBase + Reg.Hrn.EVIRQ_RAW) &&& s.rd (hrnBase + Reg.Hrn.EVIRQ_EN)) ≠ 0 then setBits w 21 1 1
      else w := by
  intro w
  by_cases hb : p.base = hrnBase
  · rw [irqClr, hb, beq_self_eq_true, State.onlyIf_true, State.rd_evirqRaise, State.rd_wr_off _ _ (by decide),
      State.rd_wr_off _ _ (by decide), State.rd_wr_same]
    simp only [true_and, w, hb]
  · rw [irqClr, beq_false_of_ne hb, State.onlyIf_false, State.rd_wr_same, if_neg (fun h => hb h.1)]

theorem irqClr_writes (s : State) (p : Page) (v : Word) : Writes (· == p.base + Reg.Hdr.IRQ_RAW) s (irqClr p v s) := by
  refine .onlyIf ((Writes.refl _ s).wr (by simp) _) fun hb => ?_
  rw [beq_iff_eq.1 hb]
  exact .onlyIf (Writes.refl _ _) fun _ => State.raise_writes _ hrnBase 21

/-- IRQ_FORCE sets what the page defines (R29). -/
theorem irqForce_writes (s : State) (p : Page) (v : Word) : Writes (· == p.base + Reg.Hdr.IRQ_RAW) s (irqForce p v s) :=
  (Writes.refl _ s).wr (by simp) _

/-! ## The commands -/

theorem headerWrite_irqClr {p : Page} (hp : p.isPrimary = true) (acc : Access) (addr : Nat) (v : Word) (s : State) :
    headerWrite acc p addr Reg.Hdr.IRQ_CLR v s = irqClr p v s := by
  unfold headerWrite
  rw [hp]
  rfl

theorem headerWrite_irqForce {p : Page} (hp : p.isPrimary = true) (acc : Access) (addr : Nat) (v : Word) (s : State) :
    headerWrite acc p addr Reg.Hdr.IRQ_FORCE v s = irqForce p v s := by
  unfold headerWrite
  rw [hp]
  rfl

/-- A write of a header register that reaches its page. -/
theorem leads_headerWrite {c : Instr} {s : State} {acc : Access} {page off : Nat} {v : Word} {p : Page} {P : State → Prop}
    (hc : exec c s = .next (regWrite acc (pageAddr page off) v s)) (ht : Takes s acc (pageAddr page off))
    (hp : acc.page (pageAddr page off) = some p) (hh : p.hasHeader = true) (ho : off < 0x40)
    (hP : P (headerWrite (s.asSent acc) p (pageAddr page off) off v (s.taken acc (pageAddr page off) v))) : Leads c s P :=
  ⟨_, hc, by rwa [regWrite_header ht hp hh ho]⟩

theorem State.taken_ownerLocked {s : State} {acc acc' : Access} {addr addr' : Nat} {v : Word} {p : Page}
    (hp : acc'.page addr' = some p) : (s.taken acc addr v).ownerLocked p = s.ownerLocked p := by
  rw [State.ownerLocked, State.ownerLocked, State.bit, State.bit, State.taken_rd_header hp (by decide)]

/-- OWNER lies at another place of its page than the comparison's write counter. -/
theorem Page.owner_ne_writes {acc : Access} {addr : Nat} {p : Page} (hp : acc.page addr = some p) :
    (p.base + Reg.Hdr.OWNER) % 0x1000 ≠ Reg.Local.CMP_WRITES := by
  have := Access.page_base hp
  simp only [Reg.Hdr.OWNER, Reg.Local.CMP_WRITES]
  omega

section Owner
variable {s : State} {acc : Access} {page : Nat} {v : Word} {p : Page}
  (ht : Takes s acc (pageAddr page Reg.Hdr.OWNER))
  (hp : acc.page (pageAddr page Reg.Hdr.OWNER) = some p)
  (hh : p.hasHeader = true)

include ht hp hh

theorem leads_ownerWrite {P : State → Prop}
    (hP : P (ownerWrite (s.asSent acc) p (pageAddr page Reg.Hdr.OWNER) v (s.taken acc (pageAddr page Reg.Hdr.OWNER) v))) :
    Leads (.ownerWrite acc page v) s P := leads_headerWrite rfl ht hp hh (by decide) hP

theorem leads_ownerWrite_takes (hs : (s.asSent acc).secure = true) (hv : acc.vi = 0) (hl : s.ownerLocked p = false) :
    Leads (.ownerWrite acc page v) s fun t =>
      let k := p.base + Reg.Hdr.OWNER
      let chg := bitsOf (s.rd k) 1 7 ≠ bitsOf v 1 7 ∨ bitsOf (s.rd k) 8 2 ≠ bitsOf v 8 2
      t.resp = .ok ∧ t.rd k = v &&& 0x7FF ∧ (¬chg → t.gen p.genUnit = s.gen p.genUnit) ∧
        (chg → t.gen p.genUnit = if s.gen p.genUnit = 0xFFFF then 1 else s.gen p.genUnit + 1) ∧
        Keeps (fun j => j == k || j == p.genUnit + Reg.Hdr.ROLE_GEN) s t := by
  refine leads_ownerWrite ht hp hh ?_
  let u := s.taken acc (pageAddr page Reg.Hdr.OWNER) v
  have hk : u.rd (p.base + Reg.Hdr.OWNER) = s.rd (p.base + Reg.Hdr.OWNER) := State.taken_rd_header hp (by decide)
  have hg : u.gen p.genUnit = s.gen p.genUnit := by
    have := Page.genUnit_mod hp
    rw [State.gen, State.gen, State.fld, State.fld,
      State.taken_rd (by simp only [Reg.Local.CMP_WRITES, Reg.Hdr.ROLE_GEN]; omega)]
  obtain ⟨stored, kept, counted, writes⟩ := ownerWrite_takes_spec (addr := pageAddr page Reg.Hdr.OWNER) (v := v) hs
    ((s.asSent_vi acc).trans hv) ((State.taken_ownerLocked hp).trans hl) (Access.page_base hp) (Page.genUnit_mod hp)
  rw [hk, hg] at kept counted
  exact ⟨writes.resp.trans State.taken_resp, stored, kept, counted, (s.taken_frame _ acc _ v).writes writes⟩

theorem leads_ownerWrite_insecure {h : Half} (hm : acc.master = .half h) (hs : acc.secure = false)
    (hn : bitOf (s.rd (p.base + Reg.Hdr.OWNER)) 0 = true ∨ bitOf v 0 = true ∨
      bitsOf (s.rd (p.base + Reg.Hdr.OWNER)) 8 2 ≠ bitsOf v 8 2) :
    Leads (.ownerWrite acc page v) s fun t =>
      t.resp = .busError ∧ t.rd (p.base + Reg.Hdr.OWNER) = s.rd (p.base + Reg.Hdr.OWNER) ∧
        t.bit (p.prim + Reg.Hdr.UNIT_STAT) 10 = true ∧
        t.rd (sysBase + Reg.Sys.ACC_VIOL_ADDR) = word (pageAddr page Reg.Hdr.OWNER) ∧
        Keeps (fun j => j == p.prim + Reg.Hdr.UNIT_STAT || j == sysBase + Reg.Sys.ACC_VIOL_ADDR ||
          j == sysBase + Reg.Sys.ACC_VIOL_CNT) s t := by
  refine leads_ownerWrite ht hp hh ?_
  let u := s.taken acc (pageAddr page Reg.Hdr.OWNER) v
  have hk : u.rd (p.base + Reg.Hdr.OWNER) = s.rd (p.base + Reg.Hdr.OWNER) := State.taken_rd_header hp (by decide)
  rw [State.asSent_half hm, ownerWrite_insecure hm hs (by rwa [hk])]
  obtain ⟨flag, address, -, keeps⟩ := u.ownerViol_spec (Access.page_prim hp) (pageAddr page Reg.Hdr.OWNER)
  have hkeeps := ((s.taken_frame _ acc _ v).trans keeps).answer .busError
  refine ⟨rfl, hkeeps.rd ?_ (Page.owner_ne_writes hp), ?_, (State.rd_answer ..).trans address, hkeeps⟩
  case refine_2 =>
    rw [State.bit, State.rd_answer]
    exact flag
  have hb := Access.page_base hp
  have sys : sysBase % 0x1000 = 0 := rfl
  simp only [Bool.or_eq_false_iff, beq_eq_false_iff_ne]
  exact ⟨⟨base_add_ne hb (Access.page_prim hp) (by decide) (by decide) (by decide),
    base_add_ne hb sys (by decide) (by decide) (by decide)⟩, base_add_ne hb sys (by decide) (by decide) (by decide)⟩

theorem leads_ownerWrite_locked {h : Half} (hm : acc.master = .half h) (hs : acc.secure = true) (hv : acc.vi = 0)
    (hl : s.ownerLocked p = true) :
    Leads (.ownerWrite acc page v) s fun t =>
      t.resp = .ok ∧ t.rd (p.base + Reg.Hdr.OWNER) = s.rd (p.base + Reg.Hdr.OWNER) ∧
        t.bit (p.prim + Reg.Hdr.UNIT_STAT) 11 = true ∧
        Keeps (fun j => j == p.prim + Reg.Hdr.UNIT_STAT || j == p.prim + Reg.Hdr.IRQ_RAW) s t := by
  refine leads_ownerWrite ht hp hh ?_
  let u := s.taken acc (pageAddr page Reg.Hdr.OWNER) v
  rw [State.asSent_half hm, ownerWrite_locked hm hs hv ((State.taken_ownerLocked hp).trans hl)]
  have writes := u.lockViol_writes p.prim
  have hkeeps := (s.taken_frame _ acc _ v).writes writes
  refine ⟨writes.resp.trans State.taken_resp, hkeeps.rd ?_ (Page.owner_ne_writes hp), u.bit_lockViol p.prim, hkeeps⟩
  simp only [Bool.or_eq_false_iff, beq_eq_false_iff_ne]
  exact ⟨base_add_ne (Access.page_base hp) (Access.page_prim hp) (by decide) (by decide) (by decide),
    base_add_ne (Access.page_base hp) (Access.page_prim hp) (by decide) (by decide) (by decide)⟩

end Owner

section Others
variable {s : State} {acc : Access} {page : Nat} {v : Word} {p : Page} (hh : p.hasHeader = true)
include hh

theorem leads_lockWrite (ht : Takes s acc (pageAddr page Reg.Hdr.LOCK)) (hp : acc.page (pageAddr page Reg.Hdr.LOCK) = some p) :
    Leads (.lockWrite acc page v) s fun t =>
      t.resp = .ok ∧ t.rd (p.base + Reg.Hdr.LOCK) = s.rd (p.base + Reg.Hdr.LOCK) ||| (v &&& 3) ∧
        Keeps (· == p.base + Reg.Hdr.LOCK) s t := by
  refine leads_headerWrite rfl ht hp hh (by decide) ?_
  let u := s.taken acc (pageAddr page Reg.Hdr.LOCK) v
  have hw : headerWrite (s.asSent acc) p (pageAddr page Reg.Hdr.LOCK) Reg.Hdr.LOCK v u =
    u.wr (p.base + Reg.Hdr.LOCK) (u.rd (p.base + Reg.Hdr.LOCK) ||| (v &&& 3)) := rfl
  rw [hw, State.taken_rd_header hp (by decide)]
  exact ⟨rfl, State.rd_wr_same .., (s.taken_frame _ acc _ v).wr _ (by simp)⟩

theorem leads_irqClr (ht : Takes s acc (pageAddr page Reg.Hdr.IRQ_CLR)) (hp : acc.page (pageAddr page Reg.Hdr.IRQ_CLR) = some p)
    (hpr : p.isPrimary = true) :
    Leads (.irqClr acc page v) s fun t =>
      t.resp = .ok ∧
        (let w := s.rd (p.base + Reg.Hdr.IRQ_RAW) &&& ~~~(v &&& word p.irqMask)
         t.rd (p.base + Reg.Hdr.IRQ_RAW) =
           if p.base = hrnBase ∧ (s.rd (hrnBase + Reg.Hrn.EVIRQ_RAW) &&& s.rd (hrnBase + Reg.Hrn.EVIRQ_EN)) ≠ 0 then
             setBits w 21 1 1
           else w) ∧
        Keeps (· == p.base + Reg.Hdr.IRQ_RAW) s t := by
  refine leads_headerWrite rfl ht hp hh (by decide) ?_
  rw [headerWrite_irqClr hpr]
  let u := s.taken acc (pageAddr page Reg.Hdr.IRQ_CLR) v
  have writes := irqClr_writes u p v
  have hrn {off : Nat} (ho : off < 0x80) : u.rd (hrnBase + off) = s.rd (hrnBase + off) :=
    State.taken_rd (by simp only [hrnBase, Reg.Local.CMP_WRITES]; omega)
  refine ⟨writes.resp.trans State.taken_resp, ?_, (s.taken_frame _ acc _ v).writes writes⟩
  rw [irqClr_rd, State.taken_rd_header hp (by decide), hrn (by decide), hrn (by decide)]

theorem leads_irqForce (ht : Takes s acc (pageAddr page Reg.Hdr.IRQ_FORCE))
    (hp : acc.page (pageAddr page Reg.Hdr.IRQ_FORCE) = some p) (hpr : p.isPrimary = true) :
    Leads (.irqForce acc page v) s fun t =>
      t.resp = .ok ∧ t.rd (p.base + Reg.Hdr.IRQ_RAW) = s.rd (p.base + Reg.Hdr.IRQ_RAW) ||| (v &&& word p.irqMask) ∧
        Keeps (· == p.base + Reg.Hdr.IRQ_RAW) s t := by
  refine leads_headerWrite rfl ht hp hh (by decide) ?_
  rw [headerWrite_irqForce hpr, irqForce, State.taken_rd_header hp (by decide)]
  exact ⟨rfl, State.rd_wr_same .., (s.taken_frame _ acc _ v).wr _ (by simp)⟩

end Others

end Sys2Proof.Machine

open Sys2Proof Sys2Proof.Machine

/-- Settles O10: what each of the four registers of the header does with a write that reaches it. -/
theorem headerWrites : Obligations.HeaderWrites := by
  unfold Obligations.HeaderWrites
  refine ⟨fun s acc page v p => ?owner, fun s acc page v p hh => ⟨fun ht hp => leads_lockWrite hh ht hp,
    fun ht hp hpr => leads_irqClr hh ht hp hpr, fun ht hp hpr => leads_irqForce hh ht hp hpr⟩⟩
  case owner =>
    rw [← p.genUnit_eq]
    intro addr k unit old chg ht hp hh
    exact ⟨fun hs hv hl => leads_ownerWrite_takes ht hp hh hs hv hl,
      fun h hm hs hn => leads_ownerWrite_insecure ht hp hh hm hs hn,
      fun h hm hs hv hl => leads_ownerWrite_locked ht hp hh hm hs hv hl⟩
end


section
/-! PROOFS. O11 is refuted: the statement ranges over states in which a channel group is its own parent. PRST then sums the
group's own I_SUM afresh over its members (R48), where the statement has it at its Reset value. -/

namespace Sys2Proof.Machine

/-- Group 0 with PARENT naming Group 0 itself, Channel 0 as its only member, and 5 in that channel's I_SUM. No membership
write brings this state about (R247 refuses a loop). -/
def selfParent : State :=
  ((State.reset.wr (cgBase 0 + Reg.Cg.PARENT) 0x80000000).wr (cgBase 0 + Reg.Cg.CH_MEMB) 1).wr (isumKey 0x100) 5

/-- A secure access of Half A from VI0. -/
def secureA : Access := ⟨.half .a, true, 0⟩

theorem selfParent_takes : Takes selfParent secureA (pageAddr (cgBase 0) Reg.Hdr.UNIT_CTRL) := by
  unfold Takes
  decide +kernel

/-- After PRST the group's I_SUM is its member's, not its Reset value. -/
theorem prst_selfParent_isum : (cmdWrite secureA (cgBase 0) 4 selfParent).rd (isumKey 0xC0) = 5 := by decide +kernel

theorem exec_unitPrst (acc : Access) (page : Nat) (s : State) : exec (.unitPrst acc page) s = .next (cmdWrite acc page 4 s) := rfl

theorem regReset_isum : regReset (isumKey 0xC0) = 0 := by decide +kernel

end Sys2Proof.Machine

open Sys2Proof Sys2Proof.Machine

/-- Refutes O11: in `selfParent`, PRST of Group 0 leaves the class-X register I_SUM of its page at 5, where the statement
has it at its Reset value 0. -/
theorem not_unitCommands : ¬ Obligations.UnitCommands := by
  unfold Obligations.UnitCommands
  intro h
  obtain ⟨-, -, -, -, -, prst, -⟩ := h selfParent secureA (cgBase 0) 4 (.own .cg 0 (cgBase 0)) selfParent_takes
    (by decide +kernel) rfl
  obtain ⟨t, run, -, -, -, -, lost, -⟩ := prst rfl (by decide) (by decide) (by decide) (by decide) (by decide) (by decide)
    (by decide) (by decide +kernel)
  have ht : t = cmdWrite secureA (cgBase 0) 4 selfParent := Host.Outcome.next.inj (run.symm.trans (exec_unitPrst ..))
  have hr : t.rd (isumKey 0xC0) = regReset (isumKey 0xC0) := lost _ (by decide +kernel)
  rw [ht, prst_selfParent_isum, regReset_isum] at hr
  exact absurd hr (by decide)
end


section
/-! PROOFS. O12: commands of a composite and their fan-out (R49, R50). -/

namespace Sys2Proof.Machine

/-! ## The result of a command -/

section
variable (s : State) (b : Nat) (r : CmdResult)

theorem CmdResult.code_lt (r : CmdResult) : r.code < 2 ^ 3 := by cases r <;> decide

theorem State.cmdResult_writes :
    Writes (fun j => j == b + Reg.Hdr.UNIT_STAT || j == b + Reg.Hdr.IRQ_RAW) s (s.cmdResult b r) :=
  ((Writes.refl _ s).wr (by simp) _).trans ((State.raise_writes _ b 2).mono (by simp))

theorem State.cmdResult_stat :
    (s.cmdResult b r).rd (b + Reg.Hdr.UNIT_STAT) = setBits (s.rd (b + Reg.Hdr.UNIT_STAT)) 7 3 r.code := by
  rw [State.cmdResult, (State.raise_writes _ b 2).1 _ (by simp [Reg.Hdr.UNIT_STAT, Reg.Hdr.IRQ_RAW]), State.setFld_eq,
    State.rd_wr_same]

theorem State.cmdResult_code : (s.cmdResult b r).fld (b + Reg.Hdr.UNIT_STAT) 7 3 = r.code := by
  rw [State.fld, s.cmdResult_stat, bitsOf_setBits_same _ _ (by decide), Nat.mod_eq_of_lt r.code_lt]

theorem State.cmdResult_done : (s.cmdResult b r).bit (b + Reg.Hdr.IRQ_RAW) 2 = true := State.bit_raise _ b (by decide)

/-- BUSY stands when a result is written. -/
theorem State.cmdResult_busy : (s.cmdResult b r).busy b = s.busy b := by
  rw [State.busy, State.bit, s.cmdResult_stat, bitOf, bitsOf_setBits_below _ _ (by decide) (by decide)]
  rfl

theorem State.setBusy_busy (c : Bool) : (s.setBusy b c).busy b = c := s.bit_setBit_same _ (by decide) c

theorem State.setBusy_code (c : Bool) :
    (s.setBusy b c).fld (b + Reg.Hdr.UNIT_STAT) 7 3 = s.fld (b + Reg.Hdr.UNIT_STAT) 7 3 := by
  rw [State.fld, State.setBusy, State.setBit_eq, State.rd_wr_same, bitsOf_setBits_above _ _ (by decide) (by decide)]
  rfl

end

/-! ## Composites and their members -/

/-- The page of a composite is the primary page of its unit, where its local number has it. -/
def compPageOk (p : Page) : Bool :=
  match p.kind with
  | .sys | .tile | .cg => p.base == compBase p.localNum && p.isPrimary && p.hasHeader
  | _ => true

theorem Access.page_compPageOk {acc : Access} {addr : Nat} {p : Page} (hp : acc.page addr = some p) : compPageOk p = true := by
  obtain ⟨view, hv, hp⟩ := Access.page_pageOf hp
  obtain rfl | rfl : view = 0 ∨ view = 1 := by omega
  · exact pageOf_all (by decide +kernel) hp
  · exact pageOf_all (by decide +kernel) hp

/-- States whose registers read alike show the same members. -/
theorem State.bitList_congr {s t : State} {key n : Nat} (h : ∀ i < n, t.rd (key + 4 * (i / 32)) = s.rd (key + 4 * (i / 32))) :
    t.bitList key n = s.bitList key n :=
  List.filter_congr fun i hi => by rw [State.bit, State.bit, h i (List.mem_range.1 hi)]

theorem State.taken_members (s : State) (acc : Access) (addr : Nat) (v : Word) (l : Nat) :
    (s.taken acc addr v).members l = s.members l := by
  have hg (g : Nat) : (s.taken acc addr v).bitList (cgBase g + Reg.Cg.GRP_MEMB) 64 = s.bitList (cgBase g + Reg.Cg.GRP_MEMB) 64 :=
    State.bitList_congr fun i hi => State.taken_rd (by unfold cgBase Reg.Cg.GRP_MEMB Reg.Local.CMP_WRITES; omega)
  have hc (g : Nat) : (s.taken acc addr v).bitList (cgBase g + Reg.Cg.CH_MEMB) 128 = s.bitList (cgBase g + Reg.Cg.CH_MEMB) 128 :=
    State.bitList_congr fun i hi => State.taken_rd (by unfold cgBase Reg.Cg.CH_MEMB Reg.Local.CMP_WRITES; omega)
  simp only [State.members, hg, hc]

/-- A fan-out set is the fan-out of its composite. -/
theorem State.fan_setFan (s : State) (l : Nat) (f : Fan) : (s.setFan l f).fan l = some f := by
  have put (t : Tbl Fan) : (t.put l f).find? (fun e => e.1 == l) = some (l, f) := by
    induction t with
    | nil => simp [Tbl.put]
    | cons e t ih =>
      unfold Tbl.put
      split
      · simp
      split
      · simp
      · next h => rw [List.find?_cons_of_neg (by simpa using Ne.symm h), ih]
  simp [State.fan, State.setFan, put]

/-! ## A command of a composite -/

section
variable {s : State} {acc : Access} {page cmd : Nat} {p : Page}

theorem unitCtrl_eq_unitCmd (hk : p.kind ∈ ([.sys, .tile, .cg] : List PageKind)) (hpr : p.isPrimary = true) (v : Word) (s : State) :
    unitCtrl acc p v s = unitCmd acc p (bitsOf v 0 4) s := by
  simp only [List.mem_cons, List.not_mem_nil, or_false] at hk
  rcases hk with hk | hk | hk <;> simp [unitCtrl, hk, hpr]

theorem unitEffect_composite (hk : p.kind ∈ ([.sys, .tile, .cg] : List PageKind)) {c : Nat} (hc : c ≤ 3) :
    unitEffect acc p c = some (·.startFan acc p.localNum c) := by
  simp only [List.mem_cons, List.not_mem_nil, or_false] at hk
  rcases hk with hk | hk | hk <;> simp [unitEffect, hk, hc, Page.localNum]

/-- ON, OFF or CLEAR of a composite begins a fan-out or ends at once. -/
theorem unitCmd_composite (hk : p.kind ∈ ([.sys, .tile, .cg] : List PageKind)) (hb : p.base = compBase p.localNum) {c : Nat}
    (h0 : 0 < c) (h3 : c ≤ 3) : unitCmd acc p c s = s.startFan acc p.localNum c := by
  have hne : c ≠ 0 := by omega
  have h4 : c ≠ 4 := by omega
  have h7 : ¬ 7 ≤ c := by omega
  cases hbusy : s.busy (compBase p.localNum) with
  | true => simp [unitCmd, State.startFan, hne, hb, hbusy]
  | false => simp [unitCmd, hne, hb, hbusy, h4, h7, unitEffect_composite hk h3]

theorem Page.composite_base (hk : p.kind ∈ ([.sys, .tile, .cg] : List PageKind)) (hp : acc.page addr = some p) :
    p.base = compBase p.localNum ∧ p.isPrimary = true ∧ p.hasHeader = true := by
  have hc := Access.page_compPageOk hp
  simp only [List.mem_cons, List.not_mem_nil, or_false] at hk
  rcases hk with hk | hk | hk <;> simpa [compPageOk, hk, and_assoc] using hc

/-- A command of a composite that reaches its page. -/
theorem leads_compositeCmd (ht : Takes s acc (pageAddr page Reg.Hdr.UNIT_CTRL))
    (hp : acc.page (pageAddr page Reg.Hdr.UNIT_CTRL) = some p) (hk : p.kind ∈ ([.sys, .tile, .cg] : List PageKind))
    {P : State → Prop}
    (hP : ∀ v, P ((s.taken acc (pageAddr page Reg.Hdr.UNIT_CTRL) v).startFan (s.asSent acc) p.localNum (1 + cmd % 3))) :
    Leads (.compositeCmd acc page cmd) s P := by
  obtain ⟨hb, hpr, hh⟩ := Page.composite_base hk hp
  refine leads_headerWrite rfl ht hp hh (by decide) ?_
  have hw : bitsOf (word ((1 + cmd % 3) % 16)) 0 4 = 1 + cmd % 3 := by
    rw [bitsOf_word (by decide)]
    omega
  have hu (v : Word) (t : State) : headerWrite (s.asSent acc) p (pageAddr page Reg.Hdr.UNIT_CTRL) Reg.Hdr.UNIT_CTRL v t =
    unitCtrl (s.asSent acc) p v t := rfl
  rw [hu, unitCtrl_eq_unitCmd hk hpr, hw, unitCmd_composite hk hb (by omega) (by omega)]
  exact hP _

end

/-! ## What begins and what ends a fan-out -/

section
variable {s : State} {acc : Access} {l cmd : Nat}

theorem startFan_busy (hb : s.busy (compBase l) = true) : s.startFan acc l cmd = s.cmdResult (compBase l) .busy := by
  simp [State.startFan, hb]

theorem startFan_empty (hb : s.busy (compBase l) = false) (hm : s.members l = []) :
    s.startFan acc l cmd = s.cmdResult (compBase l) .done := by
  simp [State.startFan, hb, hm]

theorem startFan_begins (hb : s.busy (compBase l) = false) (hm : s.members l ≠ []) :
    s.startFan acc l cmd = (s.setBusy (compBase l) true).setFan l { cmd := cmd, acc := acc, rest := s.members l } := by
  simp [State.startFan, hb, hm]

/-- What the end of a fan-out leaves. -/
theorem State.endFan_spec (s : State) (l : Nat) (f : Fan) :
    (s.endFan l f).fld (compBase l + Reg.Hdr.UNIT_STAT) 7 3 =
        (if f.allDone then CmdResult.done.code else CmdResult.partly.code) ∧
      (s.endFan l f).busy (compBase l) = false ∧ (s.endFan l f).bit (compBase l + Reg.Hdr.IRQ_RAW) 2 = true ∧
      (s.endFan l f).fans = s.fans.del l ∧
      ∀ k, (k == compBase l + Reg.Hdr.UNIT_STAT || k == compBase l + Reg.Hdr.IRQ_RAW) = false →
        (s.endFan l f).rd k = s.rd k := by
  let u := { s with fans := s.fans.del l }.setBusy (compBase l) false
  let r : CmdResult := if f.allDone then .done else .partly
  have hu : Writes (fun k => k == compBase l + Reg.Hdr.UNIT_STAT || k == compBase l + Reg.Hdr.IRQ_RAW)
      { s with fans := s.fans.del l } (u.cmdResult (compBase l) r) :=
    ((Writes.refl _ _).wr (by simp) _).trans (u.cmdResult_writes _ r)
  rw [show s.endFan l f = u.cmdResult (compBase l) r from rfl]
  exact ⟨(u.cmdResult_code _ r).trans (apply_ite _ _ _ _), (u.cmdResult_busy _ r).trans (State.setBusy_busy _ _ _),
    u.cmdResult_done _ r, by rw [hu.2], hu.1⟩

/-! ## A step of a fan-out -/

/-- The pages of the device and of the tiles are no channel's. -/
theorem compBase_ne_chanBase {m : Nat} (hm : m < 128) (hl : 0x20 ≤ l ∧ l < 0x28 ∨ l = 1) : compBase l + 0x1000 ≤ chanBase m ∨ chanBase m + 0x1000 ≤ compBase l := by
  unfold compBase chanBase tileBase sysBase
  split
  · omega
  · rw [if_pos (by omega)]
    omega

/-- The step waits while the awaited member is busy. -/
theorem fanOutStep_waits {f : Fan} {m : Nat} (hf : s.fan l = some f) (hc : f.cur = some m) (hb : s.busy (compBase m) = true) :
    fanOutStep l s = s := by
  have ht : s.fanTake f = f := by simp [State.fanTake, hc, hb]
  simp [fanOutStep, hf, ht, hc]

/-- After the last member's result the fan-out ends. -/
theorem fanOutStep_ends {f : Fan} (hf : s.fan l = some f) (hr : f.rest = [])
    (hb : ∀ m, f.cur = some m → s.busy (compBase m) = false) :
    fanOutStep l s = s.endFan l (s.fanTake f) := by
  have hr' : (s.fanTake f).rest = [] := by
    unfold State.fanTake
    split
    · split <;> exact hr
    · exact hr
  have hc : (s.fanTake f).cur = none := by
    unfold State.fanTake
    split
    · next m hm => simp [hb m hm]
    · next hm => exact hm
  simp [fanOutStep, hf, hr', hc]

theorem State.fanTake_allDone {f : Fan} (hb : ∀ m, f.cur = some m → s.busy (compBase m) = false) :
    (s.fanTake f).allDone = (f.allDone && (match f.cur with | some m => s.memberDone m | none => true)) := by
  unfold State.fanTake
  cases hm : f.cur with
  | none => simp
  | some m => simp [hb m hm]

/-- A channel busy with a command of its own answers BUSY; where it was the last member, the fan-out ends. -/
theorem fanOutStep_busyChannel {f : Fan} {m : Nat} (hf : s.fan l = some f) (hc : f.cur = none) (hr : f.rest = [0x100 + m])
    (ho : f.cmd = cmdOn) (hb : s.busy (chanBase m) = true) :
    fanOutStep l s = (s.cmdResult (chanBase m) .busy).endFan l { f with rest := [], allDone := false } := by
  have ht : s.fanTake f = f := by simp [State.fanTake, hc]
  have hm : compBase (0x100 + m) = chanBase m := by
    unfold compBase
    rw [if_neg (by omega), if_neg (by omega), if_neg (by omega), Nat.add_sub_cancel_left]
  have hd : { s with resp := .none }.deliver f.acc (0x100 + m) f.cmd = { s with resp := .none }.cmdResult (chanBase m) .busy := by
    have hb' : { s with resp := .none }.busy (chanBase m) = true := hb
    simp [State.deliver, ho, channelOn, hb']
  have hn : ({ s with resp := .none }.cmdResult (chanBase m) .busy).resp = .none := rfl
  simp only [fanOutStep, hf, ht, hc, hr, hm, hb, hd, hn, reduceCtorEq, ↓reduceIte]
  rfl

end

end Sys2Proof.Machine

open Sys2Proof Sys2Proof.Machine

/-- Settles O12: what `startFan` does with a command, and what a step of the fan-out does in each of its cases. -/
theorem composites : Obligations.Composites := by
  unfold Obligations.Composites
  refine ⟨fun s acc page cmd p => ?command, fun s l hf => ?none, fun s l m f hf hc hb => ?waits,
    fun s l m f hf hc hr hm ho hb hl => ?busyChannel, fun s l f hf hr hb => ?ends⟩
  case command =>
    intro addr st raw ht hp hk
    have hbase := (Page.composite_base hk hp).1
    have hb (v : Word) : (s.taken acc addr v).busy (compBase p.localNum) = s.busy p.base := by
      rw [← hbase, State.busy, State.busy, State.bit, State.bit, State.taken_rd_header hp (by decide)]
    refine ⟨fun hbusy => ?busy, fun hbusy hm => ?empty, fun hbusy hm => ?begins⟩
    case busy =>
      refine leads_compositeCmd ht hp hk fun v => ?_
      rw [startFan_busy ((hb v).trans hbusy), ← hbase]
      exact ⟨State.cmdResult_code .., State.cmdResult_done .., (s.taken_frame _ acc addr v).writes (State.cmdResult_writes ..)⟩
    case empty =>
      refine leads_compositeCmd ht hp hk fun v => ?_
      rw [startFan_empty ((hb v).trans hbusy) ((s.taken_members ..).trans hm), ← hbase]
      refine ⟨State.cmdResult_code .., ?_, State.cmdResult_done .., (s.taken_frame _ acc addr v).writes (State.cmdResult_writes ..)⟩
      rw [State.cmdResult_busy, hbase, hb, hbusy]
    case begins =>
      refine leads_compositeCmd ht hp hk fun v => ?_
      rw [startFan_begins ((hb v).trans hbusy) (by rwa [s.taken_members]), ← hbase, s.taken_members]
      have hst : (s.taken acc addr v).rd st = s.rd st := State.taken_rd_header hp (by decide)
      have set : Keeps (· == st) s ((s.taken acc addr v).setBusy p.base true) :=
        (s.taken_frame _ acc addr v).wr _ (beq_self_eq_true _)
      refine ⟨State.setBusy_busy _ _ _, ?_, set.1, State.fan_setFan ..⟩
      exact (State.setBusy_code _ _ _).trans (by rw [State.fld, hst]; rfl)
  case none => exact ⟨_, rfl, by simp [fanOutStep, hf]⟩
  case waits => exact ⟨_, rfl, fanOutStep_waits hf hc hb⟩
  case busyChannel =>
    refine ⟨_, rfl, ?_⟩
    rw [fanOutStep_busyChannel hf hc hr ho hb]
    obtain ⟨code, idle, -, -, regs⟩ := (s.cmdResult (chanBase m) .busy).endFan_spec l { f with rest := [], allDone := false }
    refine ⟨?_, code, idle⟩
    have := compBase_ne_chanBase hm hl
    rw [State.fld, regs _ (by simp only [Reg.Hdr.UNIT_STAT, Reg.Hdr.IRQ_RAW, Bool.or_eq_false_iff, beq_eq_false_iff_ne]; omega)]
    exact State.cmdResult_code ..
  case ends =>
    intro all
    refine ⟨_, rfl, ?_⟩
    rw [fanOutStep_ends hf hr hb]
    obtain ⟨code, idle, done, fans, regs⟩ := s.endFan_spec l (s.fanTake f)
    rw [State.fanTake_allDone hb] at code
    exact ⟨code, idle, done, fans, fun k hk _ _ => regs k hk⟩
end


section
/-! PROOFS. What an event leaves alone: it counts in the banks of the event counters and nowhere else (R530 to R532). -/

namespace Sys2Proof.Machine

/-- A register of an event counter bank behind its page header. -/
def counterReg (k : Nat) : Bool := decide (ecBase 0 ≤ k ∧ k < ecBase 4 ∧ 0x40 ≤ k % 0x1000)

theorem ecLen_le (b : Nat) : ecLen b ≤ 32 := by
  unfold ecLen
  split
  · omega
  · split <;> omega

theorem counterReg_ecReg {b i off : Nat} (hb : b < 4) (hi : i < 32) (hl : 0x40 ≤ off) (ho : off < 0x200) :
    counterReg (ecReg b i off) = true := by
  rw [counterReg, decide_eq_true_eq]
  unfold ecReg ecBase
  omega

theorem State.ecPut_writes (s : State) {b i : Nat} (hb : b < 4) (hi : i < 32) (v : Nat) :
    Writes counterReg s (s.ecPut b i v) :=
  ((Writes.refl _ s).wr (counterReg_ecReg hb hi (by decide) (by decide)) _).wr
    (counterReg_ecReg hb hi (by decide) (by decide)) _

theorem State.ecOne_writes {fuel b i : Nat} (hb : b < 4) (hi : i < 32) (s : State) : Writes counterReg s (State.ecOne fuel s b i) := by
  induction fuel generalizing s i with
  | zero => exact Writes.refl _ s
  | succ fuel ih =>
    unfold State.ecOne
    split
    · exact s.ecPut_writes hb hi _
    · have ovf : counterReg (ecBase b + Reg.Ec.OVF_STAT) = true :=
        counterReg_ecReg (i := 0) (off := Reg.Ec.OVF_STAT) hb (by decide) (by decide) (by decide)
      have wrapped := (s.ecPut_writes hb hi 0).wr ovf (setBits ((s.ecPut b i 0).rd (ecBase b + Reg.Ec.OVF_STAT)) i 1 1)
      refine wrapped.each fun j hj u _ => ih ?_ u
      have := ecLen_le b
      have := List.mem_range.1 (List.mem_of_mem_filter hj)
      omega

theorem State.ecEvent_writes (s : State) {b : Nat} (hb : b < 4) (code inst : Nat) : Writes counterReg s (s.ecEvent b code inst) := by
  unfold State.ecEvent
  split
  · exact Writes.refl _ s
  · refine (Writes.refl _ s).each fun i hi u _ => State.ecOne_writes hb ?_ u
    have := ecLen_le b
    have := List.mem_range.1 (List.mem_of_mem_filter hi)
    omega

/-- An event is counted in the banks only. -/
theorem State.ev_writes (s : State) (code inst : Nat) : Writes counterReg s (s.ev code inst) := by
  unfold State.ev
  split
  · exact Writes.refl _ s
  split
  · exact s.ecEvent_writes (by decide) code inst
  split
  · exact s.ecEvent_writes (by decide) code inst
  · exact (((s.ecEvent_writes (by decide) _ _).trans (State.ecEvent_writes _ (by decide) _ _)).trans
      (State.ecEvent_writes _ (by decide) _ _)).trans (State.ecEvent_writes _ (by decide) _ _)

end Sys2Proof.Machine
end


section
/-! PROOFS. O31: side-band writes of tile-held fields (R44). -/

namespace Sys2Proof.Machine

/-! ## Requests to a tile leave the registers alone -/

/-- No register but the event counters' is written from `s` to `t`. -/
def RegsStand (s t : State) : Prop := ∀ k, counterReg k = false → t.rd k = s.rd k

theorem State.tcSend_regsStand (s : State) (t : Nat) (e : TcEntry) : RegsStand s (s.tcSend t e) :=
  (State.ev_writes _ 0xD1 t).1

theorem State.tcPump_regsStand (fuel : Nat) (s : State) (t : Nat) : RegsStand s (s.tcPump fuel t) := by
  induction fuel generalizing s with
  | zero => exact fun _ _ => rfl
  | succ fuel ih =>
    unfold State.tcPump
    dsimp only
    split
    · exact fun _ _ => rfl
    split
    · exact fun k hk => (ih _ k hk).trans (State.tcSend_regsStand _ _ _ k hk)
    · exact fun _ _ => rfl

theorem State.pump_regsStand (s : State) (t : Nat) : RegsStand s (s.pump t) := fun k hk =>
  (State.tcPump_regsStand 4 _ t k hk).trans (State.onlyIf_ind (P := fun u => u.rd k = s.rd k) rfl fun _ => rfl)

theorem State.rwAccess_regsStand (s : State) (t : Nat) (q : TclReq) (why : TcWhy) : RegsStand s (s.rwAccess t q why) := by
  unfold State.rwAccess
  split
  · exact fun _ _ => rfl
  · exact State.pump_regsStand _ t

/-! ## The registers the statement names -/

theorem rwtOffs_bounds : ∀ r < 7, rwtOffs.getD r 0 % 4 = 0 ∧ rwtOffs.getD r 0 < 0x1000 := by decide

/-- The channel pages lie below the event counters' and hold no register of SYS or PWR. -/
theorem mc_bounds {n off : Nat} (hn : n < 128) (ho : off < 0x1000) : 0x40200000 < mc n off ∧ mc n off < 0x40300000 := by
  unfold mc chanBase
  omega

theorem counterReg_of_lt {k : Nat} (h : k < ecBase 0) : counterReg k = false := by
  rw [counterReg, decide_eq_false_iff_not]
  omega

theorem counterReg_sys : counterReg (sysBase + Reg.Sys.SB_REFUSE_CNT) = false := counterReg_of_lt (by decide)

/-! ## The two verdicts -/

/-- A side-band write refused at a register whose refusal counts once (R45, R298). -/
theorem write_refused {s : State} {acc : Access} {addr c : Nat} {v : Word} {eff : Access → State → State}
    (hj : s.judge acc true 4 addr = .refuse c) (hne : addr ≠ pwrBase + Reg.Pwr.RST_REQ) :
    s.write acc 4 addr v eff = s.sbRefuse c := by
  simp [State.write, hj, State.cmpWrite_shep (State.judge_refuse hj), State.settle, State.rstRefused, beq_false_of_ne hne]

section
variable {s : State} {acc : Access} {n : Fin 128} {r : Fin 7} {v : Word}

/-- A write that passes R43 is posted, and ends with NOT_CLAIMED. -/
theorem rwtWrite_shep_takes (hm : acc.master = .shep) (ht : Takes s acc (mc n.val (rwtOffs.getD r.val 0))) :
    ∃ u, exec (.rwtWrite acc n r v) s = .next (u.sbRefuse sbNotClaimed) ∧ RegsStand s u := by
  let u := s.taken acc (mc n.val (rwtOffs.getD r.val 0)) v
  have hu : u = s.answer .ok := by rw [← State.cmpWrite_shep hm s 4 (mc n.val (rwtOffs.getD r.val 0)) v]; rfl
  refine ⟨u.rwAccess (n.val / 16) (u.tcWrite .shep (n.val / 16) (n.val % 16) (rwtOffs.getD r.val 0) v) .master, ?_, ?_⟩
  · change Host.Outcome.next (s.write acc 4 _ v _) = _
    rw [write_taken ht, State.asSent_master, hm]
    rfl
  · intro k hk
    rw [State.rwAccess_regsStand u _ _ _ k hk, hu, State.rd_answer]

/-- A write that does not pass R43 reaches no tile. -/
theorem rwtWrite_shep_refused {c : Nat} (hj : s.judge acc true 4 (mc n.val (rwtOffs.getD r.val 0)) = .refuse c) :
    exec (.rwtWrite acc n r v) s = .next (s.sbRefuse c) := by
  have hne : mc n.val (rwtOffs.getD r.val 0) ≠ pwrBase + Reg.Pwr.RST_REQ := by
    have := mc_bounds n.isLt (rwtOffs_bounds r r.isLt).2
    have : pwrBase + Reg.Pwr.RST_REQ = 0x40B00048 := rfl
    omega
  exact congrArg Host.Outcome.next (write_refused hj hne)

end

end Sys2Proof.Machine

open Sys2Proof Sys2Proof.Machine

/-- Settles O31: a forwarded write leaves the mirror's registers as they are, and so does one that is not forwarded; either is
counted as refused. -/
theorem tileHeldSideBandWrites : Obligations.TileHeldSideBandWrites := by
  unfold Obligations.TileHeldSideBandWrites
  intro s acc n r v hm k cnt ends
  obtain ⟨hlo, hhi⟩ : 0x40200000 < k ∧ k < 0x40300000 := mc_bounds n.isLt (rwtOffs_bounds r r.isLt).2
  have hkc : k ≠ cnt := by
    have : cnt = 0x40000054 := rfl
    omega
  have hk : counterReg k = false := counterReg_of_lt (by unfold ecBase; omega)
  have refused (u : State) (c : Nat) (hu : RegsStand s u) : ends (u.sbRefuse c) c := by
    refine ⟨rfl, ?_, (u.count_ne cnt k hkc).trans (hu k hk)⟩
    have hc : u.rdN cnt = s.rdN cnt := congrArg BitVec.toNat (hu cnt counterReg_sys)
    exact hc ▸ u.rdN_count cnt
  refine ⟨fun ht => ?forwarded, fun hj => ?stopped⟩
  case forwarded =>
    obtain ⟨u, run, stand⟩ := rwtWrite_shep_takes (v := v) hm ht
    exact ⟨_, run, refused u _ stand⟩
  case stopped =>
    have keeps := (s.sbRefuse_spec 2).2
    exact ⟨_, rwtWrite_shep_refused hj, refused s 2 fun _ _ => rfl, by rw [keeps.2.1], by rw [keeps.2.1], keeps⟩
end


section
/-! PROOFS. O13: sending a directory message and taking a returned one (R58, R59, R62, R63). -/

namespace Sys2Proof.Machine

/-! ## Counting -/

theorem State.dirCount_on {s : State} (h : s.domainOn 6 = true) (off : Nat) : s.dirCount off = s.count (dirReg off) := by
  rw [State.dirCount, h, State.onlyIf_true]

/-! ## The misroute queues -/

theorem Writes.mrq {p : Nat → Bool} {s t : State} (h : Writes p s t) (m : Master) : t.mrq m = s.mrq m := by
  rw [h.2]
  obtain ⟨_ | _⟩ | _ := m <;> rfl

theorem Writes.dirIn {p : Nat → Bool} {s t : State} (h : Writes p s t) : t.dirIn = s.dirIn := by rw [h.2]

theorem Writes.dirBack {p : Nat → Bool} {s t : State} (h : Writes p s t) : t.dirBack = s.dirBack := by rw [h.2]

/-- A misroute queue put, before the registers show it. -/
def State.putMrq (s : State) (q : List (List Word)) : Master → State
  | .half .a => { s with mrqA := q }
  | .half .b => { s with mrqB := q }
  | .shep => { s with mrqS := q }

section
variable (s : State) (q : List (List Word)) (m : Master)

theorem State.mrq_putMrq : (s.putMrq q m).mrq m = q := by obtain ⟨_ | _⟩ | _ := m <;> rfl
theorem State.putMrq_rd (k : Nat) : (s.putMrq q m).rd k = s.rd k := by obtain ⟨_ | _⟩ | _ := m <;> rfl
theorem State.putMrq_resp : (s.putMrq q m).resp = s.resp := by obtain ⟨_ | _⟩ | _ := m <;> rfl
theorem State.putMrq_dirIn : (s.putMrq q m).dirIn = s.dirIn := by obtain ⟨_ | _⟩ | _ := m <;> rfl
theorem State.putMrq_dirBack : (s.putMrq q m).dirBack = s.dirBack := by obtain ⟨_ | _⟩ | _ := m <;> rfl

/-- The registers a queue is shown in. -/
def Master.mrqRegs (m : Master) (k : Nat) : Bool :=
  decide (m.msgRegs + mHead ≤ k ∧ k < m.msgRegs + mHead + 32) || k == m.msgRegs + mCount

theorem State.setMrq_eq :
    s.setMrq m q = ((s.putMrq q m).each (List.range 8) fun s i => s.wr (m.msgRegs + mHead + 4 * i) ((q.headD []).getD i 0)).wr
      (m.msgRegs + mCount) (word q.length) := by
  obtain ⟨_ | _⟩ | _ := m <;> rfl

theorem State.setMrq_writes : Writes m.mrqRegs (s.putMrq q m) (s.setMrq m q) := by
  rw [s.setMrq_eq]
  refine ((Writes.refl _ _).each fun i hi u _ => (Writes.refl _ u).wr ?_ _).wr (by simp [Master.mrqRegs]) _
  have := List.mem_range.1 hi
  rw [Master.mrqRegs, Bool.or_eq_true, decide_eq_true_eq]
  omega

/-- Words written one after another are read back. -/
theorem State.rd_each_wr (b n : Nat) (f : Nat → Word) {j : Nat} (hj : j < n) (s : State) :
    (s.each (List.range n) fun s i => s.wr (b + 4 * i) (f i)).rd (b + 4 * j) = f j := by
  induction n with
  | zero => omega
  | succ n ih =>
    have step : (s.each (List.range (n + 1)) fun s i => s.wr (b + 4 * i) (f i)) =
        (s.each (List.range n) fun s i => s.wr (b + 4 * i) (f i)).wr (b + 4 * n) (f n) := by
      simp [State.each, List.range_succ]
    rw [step, State.rd_wr]
    split
    · rw [show j = n by omega]
    · exact ih (by omega)

theorem State.setMrq_head {i : Nat} (hi : i < 8) : (s.setMrq m q).rd (m.msgRegs + mHead + 4 * i) = (q.headD []).getD i 0 := by
  rw [s.setMrq_eq, State.rd_wr_ne _ _ _ _ (by unfold mHead mCount; omega)]
  exact State.rd_each_wr _ 8 (fun i => (q.headD []).getD i 0) hi _

theorem State.setMrq_count : (s.setMrq m q).rd (m.msgRegs + mCount) = word q.length := by rw [s.setMrq_eq, State.rd_wr_same]

theorem State.setMrq_mrq : (s.setMrq m q).mrq m = q := ((s.setMrq_writes q m).mrq m).trans (s.mrq_putMrq q m)

theorem State.setMrq_rd {k : Nat} (hk : m.mrqRegs k = false) : (s.setMrq m q).rd k = s.rd k :=
  ((s.setMrq_writes q m).1 k hk).trans (s.putMrq_rd q m k)

theorem State.setMrq_resp : (s.setMrq m q).resp = s.resp := (s.setMrq_writes q m).resp.trans (s.putMrq_resp q m)

end

section
variable {s : State} {w : List Word} {m : Master} (hs : bitsOf (w.getD 1 0) 14 2 = m.sender)
include hs

/-- A returned message joins the queue of its SENDER. -/
theorem State.mrqPush_queues (hd : ∀ h, m = .half h → s.domainOn h.pd = true) (hl : (s.mrq m).length < 64) :
    s.mrqPush w = s.setMrq m (s.mrq m ++ [w]) := by
  have hl' : ¬ 64 ≤ (s.mrq m).length := by omega
  obtain ⟨_ | _⟩ | _ := m <;> simp only [State.mrqPush, hs, Master.sender, Half.idx] <;> simp [hd, hl']

/-- What a returned message that joins its queue leaves. -/
theorem State.mrqPush_queues_spec (hd : ∀ h, m = .half h → s.domainOn h.pd = true) (hl : (s.mrq m).length < 64) :
    (s.mrqPush w).resp = s.resp ∧ (s.mrqPush w).mrq m = s.mrq m ++ [w] ∧
      (s.mrqPush w).rdN (m.msgRegs + mCount) = (s.mrq m).length + 1 ∧ (s.mrqPush w).dirIn = s.dirIn ∧
      (s.mrqPush w).dirBack = s.dirBack ∧ ∀ k, m.mrqRegs k = false → (s.mrqPush w).rd k = s.rd k := by
  rw [State.mrqPush_queues hs hd hl]
  refine ⟨State.setMrq_resp .., State.setMrq_mrq .., ?_, ?_, ?_, fun k hk => State.setMrq_rd _ _ _ hk⟩
  · rw [State.rdN, State.setMrq_count, word, BitVec.toNat_ofNat, List.length_append, List.length_singleton]
    omega
  · exact (State.setMrq_writes _ _ _).dirIn.trans (State.putMrq_dirIn ..)
  · exact (State.setMrq_writes _ _ _).dirBack.trans (State.putMrq_dirBack ..)

/-- A returned message that finds its queue full is lost, and counted. -/
theorem State.mrqPush_lost (hl : 64 ≤ (s.mrq m).length) : s.mrqPush w = s.dirCount Reg.Dir.LOST_CNT := by
  obtain ⟨_ | _⟩ | _ := m <;> simp only [State.mrqPush, hs, Master.sender, Half.idx] <;> simp [hl]

end

/-! ## A message sent -/

/-- The words of a message as the hardware sends it: SENDER, SRC_UNIT and REASON filled in (R59). -/
def State.sentWords (s : State) (m : Master) : List Word :=
  let x (i : Nat) : Word := s.rd (m.msgRegs + 4 * i)
  [x 0, setBits (setBits (x 1) 14 2 m.sender) 0 14 s.selfUnit, setBits (x 2) 16 4 0, x 3, x 4, x 5, x 6, x 7]

/-- The directory's entry for the unit a message names. -/
def State.sentEntry (s : State) (m : Master) : Word := s.dirEntry (bitsOf (s.rd m.msgRegs) 0 14)

section
variable {s : State} {m : Master} {v : Word}

theorem State.sentWords_sender (s : State) (m : Master) (r : Nat) :
    bitsOf ((withReason (s.sentWords m) r).getD 1 0) 14 2 = m.sender := by
  have hs : m.sender < 2 ^ 2 := by obtain ⟨_ | _⟩ | _ := m <;> decide
  change bitsOf (setBits (setBits (s.rd (m.msgRegs + 4 * 1)) 14 2 m.sender) 0 14 s.selfUnit) 14 2 = _
  rw [bitsOf_setBits_above _ _ (by decide) (by decide), bitsOf_setBits_same _ _ (by decide), Nat.mod_eq_of_lt hs]

/-- GO reads the words of the message, and the directory's entry decides where it goes. -/
theorem msgGo_eq (hg : bitOf v 0 = true) :
    msgGo m v s =
      if !s.domainOn 6 || !bitOf (s.sentEntry m) 31 ||
          (!bitOf (s.sentEntry m) 30 && s.noRoute (s.msgPort m) (bitsOf (s.sentEntry m) 16 14)) then
        ((s.dirCount Reg.Dir.NO_ROUTE_CNT).mrqPush (withReason (s.sentWords m) msgNoRoute)).wr (m.msgRegs + mStat) 2
      else if bitOf (s.sentEntry m) 30 then
        ({ s with dirIn := s.dirIn ++ [(true, s.sentWords m)] } : State).wr (m.msgRegs + mStat) 0
      else
        (s.spanSend (s.msgPort m) (bitsOf (s.sentEntry m) 16 14) 2 m.sender (msgOctets (s.sentWords m))).wr
          (m.msgRegs + mStat) 0 := by
  rw [msgGo, hg, State.onlyIf_true]
  rfl

/-- A message whose entry is LOCAL joins the messages of this module. -/
theorem msgGo_local (hg : bitOf v 0 = true) (h6 : s.domainOn 6 = true) (hv : bitOf (s.sentEntry m) 31 = true)
    (hl : bitOf (s.sentEntry m) 30 = true) :
    msgGo m v s = ({ s with dirIn := s.dirIn ++ [(true, s.sentWords m)] } : State).wr (m.msgRegs + mStat) 0 := by
  rw [msgGo_eq hg, if_neg (by simp [h6, hv, hl]), if_pos hl]

/-- A message without a VALID entry comes back to its sender. -/
theorem msgGo_noRoute (hg : bitOf v 0 = true) (h6 : s.domainOn 6 = true) (hv : bitOf (s.sentEntry m) 31 = false) :
    msgGo m v s = ((s.count (dirReg Reg.Dir.NO_ROUTE_CNT)).mrqPush (withReason (s.sentWords m) msgNoRoute)).wr
      (m.msgRegs + mStat) 2 := by
  rw [msgGo_eq hg, if_pos (by simp [hv]), State.dirCount_on h6]

end

/-! ## What a sender's registers are not -/

/-- The message registers lie on the halves' MSG pages and on Shepherd's page. -/
theorem Master.msgRegs_cases (m : Master) :
    m.msgRegs = 0x40E01040 ∨ m.msgRegs = 0x140E01040 ∨ m.msgRegs = 0x40003200 := by
  obtain ⟨_ | _⟩ | _ := m
  · exact .inl rfl
  · exact .inr (.inl rfl)
  · exact .inr (.inr rfl)

theorem dirReg_ne_msgRegs (m : Master) {off i : Nat} (ho : off < 0x1000) (hi : i < 0x100) : dirReg off ≠ m.msgRegs + i := by
  have := m.msgRegs_cases
  unfold dirReg dirBase
  omega

theorem dirReg_outside_mrq (m : Master) {off : Nat} (ho : off < 0x1000) :
    dirReg off < m.msgRegs + mHead ∨ m.msgRegs + mHead + 32 ≤ dirReg off := by
  have := m.msgRegs_cases
  unfold dirReg dirBase mHead
  omega

theorem dirReg_ne_domain {off k : Nat} (hk : k ≤ 11) (ho : off < 0x1000) : pdcBase + Reg.Pdc.PD_CTRL + 4 * k ≠ dirReg off := by
  unfold dirReg dirBase pdcBase Reg.Pdc.PD_CTRL
  omega

theorem mrqRegs_false {m : Master} {k : Nat} (hk : k < m.msgRegs + mHead ∨ m.msgRegs + mHead + 32 ≤ k)
    (hc : k ≠ m.msgRegs + mCount) : m.mrqRegs k = false := by
  rw [Master.mrqRegs, Bool.or_eq_false_iff, decide_eq_false_iff_not, beq_eq_false_iff_ne]
  exact ⟨by omega, hc⟩

theorem cmpKey_eq (h : Half) : cmpKey h = 0x40E00080 ∨ cmpKey h = 0x140E00080 := by
  cases h
  · exact .inl rfl
  · exact .inr rfl

/-- What `k` reads stands through what a write hands on, but for the write counters. -/
theorem State.taken_rd_of_ne {s : State} {acc : Access} {addr : Nat} {v : Word} {k : Nat} (hk : k ≠ 0x40E00080)
    (hk' : k ≠ 0x140E00080) : (s.taken acc addr v).rd k = s.rd k :=
  s.cmpWrite_rd acc 4 addr v k hk hk'

section
variable {s : State} {acc : Access} {addr : Nat} {v : Word}

theorem State.taken_msgRegs (m : Master) {i : Nat} (hi : i < 0x100) :
    (s.taken acc addr v).rd (m.msgRegs + i) = s.rd (m.msgRegs + i) := by
  have := m.msgRegs_cases
  exact State.taken_rd_of_ne (by omega) (by omega)

theorem State.taken_selfUnit : (s.taken acc addr v).selfUnit = s.selfUnit := by
  rw [State.selfUnit, State.fld, State.taken_rd (by decide), ← State.fld, ← State.selfUnit]

theorem State.taken_domainOn {k : Nat} (hk : k ≤ 11) : (s.taken acc addr v).domainOn k = s.domainOn k := by
  have hne : pdcBase + Reg.Pdc.PD_CTRL + 4 * k < 0x40E00080 := by
    unfold pdcBase Reg.Pdc.PD_CTRL
    omega
  rw [State.domainOn, State.domainOn, State.fld, State.fld, State.taken_rd_of_ne (by omega) (by omega)]

theorem State.taken_sentWords (m : Master) : (s.taken acc addr v).sentWords m = s.sentWords m := by
  have hx {i : Nat} (hi : i < 8) := State.taken_msgRegs (s := s) (acc := acc) (addr := addr) (v := v) m (show 4 * i < 0x100 by omega)
  simp only [State.sentWords, hx (show 0 < 8 by decide), hx (show 1 < 8 by decide), hx (show 2 < 8 by decide),
    hx (show 3 < 8 by decide), hx (show 4 < 8 by decide), hx (show 5 < 8 by decide), hx (show 6 < 8 by decide),
    hx (show 7 < 8 by decide), State.taken_selfUnit]

theorem State.taken_sentEntry (m : Master) : (s.taken acc addr v).sentEntry m = s.sentEntry m := by
  have hd (u : Nat) : dirtabBase + 4 * (u % 16384) ≥ 0x40F10000 ∧ dirtabBase + 4 * (u % 16384) < 0x40F20000 := by
    unfold dirtabBase
    omega
  have hw : (s.taken acc addr v).rd m.msgRegs = s.rd m.msgRegs := State.taken_msgRegs m (i := 0) (by decide)
  rw [State.sentEntry, State.sentEntry, hw, State.dirEntry, State.dirEntry]
  have := hd (bitsOf (s.rd m.msgRegs) 0 14)
  exact State.taken_rd_of_ne (by omega) (by omega)

theorem State.taken_mrq (m : Master) : (s.taken acc addr v).mrq m = s.mrq m :=
  State.taken_eq (fun s => s.mrq m) fun _ _ _ _ => by obtain ⟨_ | _⟩ | _ := m <;> rfl

end

/-! ## The commands -/

section
variable {s : State} {acc : Access} {v : Word} {P : State → Prop}

theorem leads_msgSend (ht : Takes s acc (acc.master.msgAddr + mSend))
    (hP : P (msgGo acc.master v (s.taken acc (acc.master.msgAddr + mSend) v))) : Leads (.msgSend acc v) s P := by
  refine ⟨_, rfl, ?_⟩
  rw [write_taken ht, State.asSent_master]
  exact hP

theorem leads_mrqPop (ht : Takes s acc (acc.master.msgAddr + mPop))
    (hP : P (mrqPop acc.master v (s.taken acc (acc.master.msgAddr + mPop) v))) : Leads (.mrqPop acc v) s P := by
  refine ⟨_, rfl, ?_⟩
  rw [write_taken ht, State.asSent_master]
  exact hP

/-- GO with a LOCAL entry. -/
theorem leads_msgSend_local (ht : Takes s acc (acc.master.msgAddr + mSend)) (hg : bitOf v 0 = true) (h6 : s.domainOn 6 = true)
    (hv : bitOf (s.sentEntry acc.master) 31 = true) (hl : bitOf (s.sentEntry acc.master) 30 = true) :
    Leads (.msgSend acc v) s fun t =>
      t.resp = .ok ∧ t.dirIn = s.dirIn ++ [(true, s.sentWords acc.master)] ∧ t.rd (acc.master.msgRegs + mStat) = 0 ∧
        SameBut (· == acc.master.msgRegs + mStat) s t := by
  refine leads_msgSend ht ?_
  let u := s.taken acc (acc.master.msgAddr + mSend) v
  rw [msgGo_local hg ((State.taken_domainOn (by decide)).trans h6) (by rwa [State.taken_sentEntry]) (by rwa [State.taken_sentEntry]),
    State.taken_sentWords]
  have hd : u.dirIn = s.dirIn := State.taken_eq State.dirIn fun _ _ _ _ => rfl
  refine ⟨rfl, ?_, State.rd_wr_same .., fun k hk ha hb => ?_⟩
  · rw [State.wr_dirIn]
    exact congrArg (· ++ _) hd
  · rw [State.rd_wr_ne _ _ _ _ (by simpa using hk)]
    exact (s.taken_frame (fun _ => false) acc _ v).1 k rfl ha hb

/-- GO without a VALID entry. -/
theorem leads_msgSend_noRoute (ht : Takes s acc (acc.master.msgAddr + mSend)) (hg : bitOf v 0 = true)
    (h6 : s.domainOn 6 = true) (hv : bitOf (s.sentEntry acc.master) 31 = false) (hl : (s.mrq acc.master).length < 64)
    (hd : ∀ h, acc.master = .half h → s.domainOn h.pd = true) :
    Leads (.msgSend acc v) s fun t =>
      t.resp = .ok ∧ t.mrq acc.master = s.mrq acc.master ++ [withReason (s.sentWords acc.master) msgNoRoute] ∧
        t.rdN (acc.master.msgRegs + mStat) = 2 ∧ t.rdN (acc.master.msgRegs + mCount) = (s.mrq acc.master).length + 1 ∧
        t.dirIn = s.dirIn ∧
        t.rdN (dirReg Reg.Dir.NO_ROUTE_CNT) = min 0xFFFFFFFF (s.rdN (dirReg Reg.Dir.NO_ROUTE_CNT) + 1) := by
  refine leads_msgSend ht ?_
  let u := s.taken acc (acc.master.msgAddr + mSend) v
  let c := u.count (dirReg Reg.Dir.NO_ROUTE_CNT)
  have hc := u.count_writes (dirReg Reg.Dir.NO_ROUTE_CNT)
  have hq : c.mrq acc.master = s.mrq acc.master := (hc.mrq _).trans (State.taken_mrq _)
  have hon (k : Nat) (hk : k ≤ 11) : c.domainOn k = s.domainOn k := by
    rw [State.domainOn, State.fld, hc.1 _ (beq_false_of_ne (dirReg_ne_domain hk (by decide))), ← State.fld, ← State.domainOn,
      State.taken_domainOn hk]
  obtain ⟨hresp, hmrq, hcount, hin, -, hregs⟩ := State.mrqPush_queues_spec (s := c) (m := acc.master)
    (s.sentWords_sender acc.master msgNoRoute) (fun h hm => (hon _ (by cases h <;> decide)).trans (hd h hm)) (by rwa [hq])
  rw [msgGo_noRoute hg ((State.taken_domainOn (by decide)).trans h6) (by rwa [State.taken_sentEntry]), State.taken_sentWords]
  rw [hq] at hmrq hcount
  have hstat (x : State) : Writes (· == acc.master.msgRegs + mStat) x (x.wr (acc.master.msgRegs + mStat) 2) :=
    (Writes.refl _ x).wr (by simp) _
  have hcnt : dirReg Reg.Dir.NO_ROUTE_CNT ≠ acc.master.msgRegs + mStat := dirReg_ne_msgRegs _ (by decide) (by decide)
  refine ⟨(hstat _).resp.trans (hresp.trans hc.resp), ((hstat _).mrq _).trans hmrq, ?stat, ?count, ?dirIn, ?counted⟩
  case stat => rw [State.rdN, State.rd_wr_same]; rfl
  case count => rwa [State.rdN, State.rd_wr_off _ _ (by decide)]
  case dirIn => exact (hstat _).dirIn.trans (hin.trans (hc.dirIn.trans (State.taken_eq State.dirIn fun _ _ _ _ => rfl)))
  case counted =>
    have hm : acc.master.mrqRegs (dirReg Reg.Dir.NO_ROUTE_CNT) = false :=
      mrqRegs_false (dirReg_outside_mrq _ (by decide)) (dirReg_ne_msgRegs _ (by decide) (by decide))
    have hu : u.rdN (dirReg Reg.Dir.NO_ROUTE_CNT) = s.rdN (dirReg Reg.Dir.NO_ROUTE_CNT) :=
      congrArg BitVec.toNat (State.taken_rd (by decide))
    rw [State.rdN, State.rd_wr_ne _ _ _ _ hcnt, hregs _ hm, ← hu]
    exact u.rdN_count _

end

end Sys2Proof.Machine

open Sys2Proof Sys2Proof.Machine

/-- Settles O13: GO by the directory's entry, and POP by what is left of the queue. -/
theorem messages : Obligations.Messages := by
  unfold Obligations.Messages
  refine ⟨fun s acc v => ?send, fun s acc v => ?pop⟩
  case send =>
    intro m x w e ht
    refine ⟨fun hg => leads_msgSend ht ?_, fun hg h6 hv hl => leads_msgSend_local ht hg h6 hv hl,
      fun hg h6 hv hl hd => leads_msgSend_noRoute ht hg h6 hv hl hd⟩
    rw [msgGo, hg, State.onlyIf_false]
    exact ⟨rfl, s.taken_frame _ acc _ v⟩
  case pop =>
    intro m ht
    refine ⟨fun hg => leads_mrqPop ht ?_, fun hg => leads_mrqPop ht ?_⟩
    · rw [mrqPop, hg, State.onlyIf_false]
      exact ⟨rfl, s.taken_frame _ acc _ v⟩
    · rw [mrqPop, hg, State.onlyIf_true, State.taken_mrq]
      refine ⟨State.setMrq_resp .., State.setMrq_mrq .., State.setMrq_count .., fun i hi => State.setMrq_head _ _ _ hi,
        fun k hk ha hb => ?_⟩
      exact (State.setMrq_rd _ _ _ hk).trans ((s.taken_frame (fun _ => false) acc _ v).1 k rfl ha hb)
end


section
/-! PROOFS. O14: messages that arrive and messages that come back (R59 to R62). -/

namespace Sys2Proof.Machine

/-! ## What an event and a count leave -/

theorem counterReg_of_high {k : Nat} (h : ecBase 4 ≤ k) : counterReg k = false := by
  rw [counterReg, decide_eq_false_iff_not]
  omega

theorem counterReg_of_header {k : Nat} (h : k % 0x1000 < 0x40) : counterReg k = false := by
  rw [counterReg, decide_eq_false_iff_not]
  omega

theorem counterReg_header {b off : Nat} (hb : b % 0x1000 = 0) (ho : off < 0x40) : counterReg (b + off) = false :=
  counterReg_of_header (by omega)

theorem counterReg_dirReg (off : Nat) : counterReg (dirReg off) = false :=
  counterReg_of_high (by unfold ecBase dirReg dirBase; omega)

theorem Page.domain_le (p : Page) : p.domain ≤ 11 := by
  unfold Page.domain
  repeat' split
  all_goals omega

theorem counterReg_domain {k : Nat} (hk : k ≤ 11) : counterReg (pdcBase + Reg.Pdc.PD_CTRL + 4 * k) = false :=
  counterReg_of_lt (by unfold ecBase pdcBase Reg.Pdc.PD_CTRL; omega)

/-- A domain's state stands where its register is not written. -/
theorem Writes.domainOn {p : Nat → Bool} {s t : State} (h : Writes p s t) {k : Nat}
    (hk : p (pdcBase + Reg.Pdc.PD_CTRL + 4 * k) = false) : t.domainOn k = s.domainOn k := by
  rw [State.domainOn, State.domainOn, State.fld, State.fld, h.1 _ hk]

theorem Writes.selfUnit {p : Nat → Bool} {s t : State} (h : Writes p s t) (hk : p (dirReg Reg.Dir.SELF_UNIT) = false) :
    t.selfUnit = s.selfUnit := by
  unfold State.selfUnit State.fld
  rw [show dirBase + Reg.Dir.SELF_UNIT = dirReg Reg.Dir.SELF_UNIT from rfl, h.1 _ hk]

theorem some_of_ite {α : Type} {c q : Prop} [Decidable c] {x y : Option α} {a : α} (h : (if c then x else y) = some a)
    (hx : x = some a → q) (hy : y = some a → q) : q := by
  split at h
  · exact hx h
  · exact hy h

/-- What an event counts does not show in a unit's UNIT_STAT. -/
theorem Writes.unitStat {s t : State} (h : Writes counterReg s t) {p : Page} (hb : p.base % 0x1000 = 0) :
    t.unitStat p = s.unitStat p := by
  have hrole (h : Half) : counterReg (halfBase h.idx + Reg.Half.ROLE_STAT) = false := by cases h <;> exact counterReg_of_lt (by decide)
  unfold State.unitStat State.role State.fld
  rw [h.1 _ (counterReg_header hb (by decide)), h.1 _ (hrole _)]

/-- A unit's primary page begins at the beginning of a page. -/
theorem unitPage_base {l : Nat} {p : Page} (h : unitPage l = some p) : p.base % 0x1000 = 0 := by
  have key : ∃ a, pageOf 0 a = some p := by
    unfold unitPage at h
    repeat refine some_of_ite h (fun h => ⟨_, h⟩) fun h => ?_
    cases h
  obtain ⟨a, ha⟩ := key
  have := pageOf_baseOk (by decide) ha
  simp only [baseOk, Bool.and_eq_true, beq_iff_eq] at this
  exact this.1

/-! ## An arriving message -/

section
variable {s : State} {w : List Word}

/-- A message of this module's own unit goes back to this module. -/
theorem State.msgBack_self (hs : msgSrc w = s.selfUnit) (r : Nat) :
    (s.msgBack w r).dirIn = s.dirIn ∧ (s.msgBack w r).dirBack = s.dirBack ++ [withReason w r] ∧
      ∀ k, (s.msgBack w r).rd k = s.rd k := by
  have hb : s.msgBack w r = { s with dirBack := s.dirBack ++ [withReason w r] } := if_pos hs
  rw [hb]
  exact ⟨rfl, rfl, fun _ => rfl⟩

/-- The state once the first message is taken. -/
def State.tookMsg (s : State) (rest : List (Bool × List Word)) : State := { s with dirIn := rest }

/-- Whether a message addresses no unit of this module by its entry or its TYPE (R60, R61). -/
def State.noUnitFor (s : State) (w : List Word) : Bool :=
  !s.bit (dirReg Reg.Dir.DIR_CTRL) 0 || !bitOf (s.dirEntry (msgDst w)) 31 || !bitOf (s.dirEntry (msgDst w)) 30 ||
    msgType w == 0 || decide (3 < msgType w)

/-- The words of a REPLY from a unit whose domain is on. -/
def State.replyWords (s : State) (w : List Word) (p : Page) : List Word :=
  [word ((s.freshIn 0 0xFFFF).1 * 2 ^ 16 + msgSrc w), word (3 * 2 ^ 16 + msgSender w * 2 ^ 14 + s.selfUnit),
    word (bitsOf (w.getD 2 0) 0 16), s.unitStat p, s.rd (p.base + Reg.Hdr.ROLE_GEN), 0, 0, 0]

theorem State.replyWords_zero (p : Page) :
    (s.replyWords w p).getD 0 0 = word ((s.freshIn 0 0xFFFF).1 * 2 ^ 16 + msgSrc w) := rfl

theorem State.replyWords_one (p : Page) :
    (s.replyWords w p).getD 1 0 = word (3 * 2 ^ 16 + msgSender w * 2 ^ 14 + s.selfUnit) := rfl

/-- The state once a message of another generation is told to its unit. -/
def State.misroled (s : State) (p : Page) : State :=
  (s.ev 0xF4 0).onlyIf ((s.ev 0xF4 0).domainOn p.domain) (·.raise p.base 3)

/-- The reply to a message of this module's own unit, from a unit whose domain is on. -/
theorem State.msgReply_self {p : Page} (hs : msgSrc w = s.selfUnit) (hd : s.domainOn p.domain = true) :
    (s.msgReply w p).dirBack = s.dirBack ∧ ∃ r, (s.msgReply w p).dirIn = s.dirIn ++ [(true, r)] ∧ msgType r = 3 ∧
      msgSrc r = s.selfUnit ∧ msgDst r = s.selfUnit ∧ msgSender r = msgSender w ∧ r.getD 3 0 = s.unitStat p ∧
      r.getD 4 0 = s.rd (p.base + Reg.Hdr.ROLE_GEN) := by
  have hsrc : msgSrc w < 2 ^ 14 := bitsOf_lt _ _ _
  have hself : s.selfUnit < 2 ^ 14 := bitsOf_lt _ _ _
  have hsender : msgSender w < 2 ^ 2 := bitsOf_lt _ _ _
  have heq : s.msgReply w p = { (s.freshIn 0 0xFFFF).2 with dirIn := s.dirIn ++ [(true, s.replyWords w p)] } := by
    refine (if_pos hs).trans ?_
    rw [show (s.freshIn 0 0xFFFF).2.domainOn p.domain = true from hd]
    rfl
  rw [heq]
  refine ⟨rfl, s.replyWords w p, rfl, ?_, ?_, ?_, ?_, rfl, rfl⟩
  · rw [msgType, State.replyWords_one, bitsOf_word (by decide)]
    omega
  · rw [msgSrc, State.replyWords_one, bitsOf_word (by decide)]
    omega
  · rw [msgDst, State.replyWords_zero, bitsOf_word (by decide)]
    omega
  · rw [msgSender, State.replyWords_one, bitsOf_word (by decide)]
    omega

variable {b : Bool} {rest : List (Bool × List Word)} (hq : s.dirIn = (b, w) :: rest) (hr : msgReason w = 0)
include hq hr

theorem msgArrive_noUnit (hn : s.noUnitFor w = true) :
    msgArrive s = ((s.tookMsg rest).dirCount Reg.Dir.NO_UNIT_CNT).msgBack w msgNoUnit := by
  simp only [msgArrive, hq]
  rw [if_neg (not_not.2 hr)]
  exact if_pos hn

theorem msgArrive_unit (hn : s.noUnitFor w = false) {p : Page}
    (hp : unitPage (bitsOf (s.dirEntry (msgDst w)) 0 12) = some p) :
    msgArrive s =
      if s.msgGenOk w p then (s.tookMsg rest).msgExecute w p
      else (((s.tookMsg rest).dirCount Reg.Dir.MISROLE_CNT).misroled p).msgBack w msgMisrole := by
  have hp' : unitPage (bitsOf (({ s with dirIn := rest } : State).dirEntry (msgDst w)) 0 12) = some p := hp
  simp only [msgArrive, hq]
  rw [if_neg (not_not.2 hr)]
  refine (if_neg (Bool.eq_false_iff.1 hn)).trans ?_
  rw [hp']
  rfl

variable (hs : msgSrc w = s.selfUnit) (h6 : s.domainOn 6 = true)
include hs h6

/-- A message that addresses no unit of this module. -/
theorem leads_msgArrive_noUnit (hn : s.noUnitFor w = true) :
    Leads .msgArrive s fun t =>
      t.dirIn = rest ∧ t.dirBack = s.dirBack ++ [withReason w msgNoUnit] ∧
        t.rdN (dirReg Reg.Dir.NO_UNIT_CNT) = min 0xFFFFFFFF (s.rdN (dirReg Reg.Dir.NO_UNIT_CNT) + 1) ∧
        SameBut (· == dirReg Reg.Dir.NO_UNIT_CNT) s t := by
  let x := (s.tookMsg rest).count (dirReg Reg.Dir.NO_UNIT_CNT)
  have hx : Writes (· == dirReg Reg.Dir.NO_UNIT_CNT) (s.tookMsg rest) x := State.count_writes _ _
  refine ⟨_, rfl, ?_⟩
  rw [msgArrive_noUnit hq hr hn, State.dirCount_on (show (s.tookMsg rest).domainOn 6 = true from h6)]
  obtain ⟨hin, hback, hrd⟩ := x.msgBack_self (hs.trans (hx.selfUnit (by decide)).symm) msgNoUnit
  refine ⟨hin.trans hx.dirIn, by rw [hback, hx.dirBack]; rfl, ?_, fun k hk _ _ => (hrd k).trans (hx.1 k hk)⟩
  rw [State.rdN, hrd]
  exact (s.tookMsg rest).rdN_count _

/-- A message of another generation. -/
theorem leads_msgArrive_misrole (hn : s.noUnitFor w = false) {p : Page}
    (hp : unitPage (bitsOf (s.dirEntry (msgDst w)) 0 12) = some p) (hd : s.domainOn p.domain = true)
    (hg : s.msgGenOk w p = false) :
    Leads .msgArrive s fun t =>
      t.dirIn = rest ∧ t.dirBack = s.dirBack ++ [withReason w msgMisrole] ∧ t.bit (p.base + Reg.Hdr.IRQ_RAW) 3 = true ∧
        t.rdN (dirReg Reg.Dir.MISROLE_CNT) = min 0xFFFFFFFF (s.rdN (dirReg Reg.Dir.MISROLE_CNT) + 1) := by
  let c := (s.tookMsg rest).count (dirReg Reg.Dir.MISROLE_CNT)
  let x := c.ev 0xF4 0
  have hc : Writes (· == dirReg Reg.Dir.MISROLE_CNT) (s.tookMsg rest) c := State.count_writes _ _
  have hx : Writes (fun k => k == dirReg Reg.Dir.MISROLE_CNT || counterReg k) (s.tookMsg rest) x :=
    (hc.mono (by simp +contextual)).trans ((c.ev_writes 0xF4 0).mono (by simp +contextual))
  have hon : x.domainOn p.domain = true := by
    rw [hx.domainOn]
    · exact hd
    · rw [counterReg_domain p.domain_le, beq_false_of_ne (dirReg_ne_domain p.domain_le (by decide))]
      rfl
  have hy : Writes (· == p.base + Reg.Hdr.IRQ_RAW) x (x.raise p.base 3) := x.raise_writes p.base 3
  have hne (off : Nat) (ho : off < 0x1000) (h : off ≠ Reg.Hdr.IRQ_RAW) : (dirReg off == p.base + Reg.Hdr.IRQ_RAW) = false :=
    beq_false_of_ne (base_add_ne (show dirBase % 0x1000 = 0 from rfl) (unitPage_base hp) ho (by decide) h)
  have hself : (x.raise p.base 3).selfUnit = s.selfUnit :=
    (hy.selfUnit (hne _ (by decide) (by decide))).trans (hx.selfUnit (by rw [counterReg_dirReg]; decide))
  have hmis : c.misroled p = x.raise p.base 3 := (congrArg (x.onlyIf · (·.raise p.base 3)) hon).trans (State.onlyIf_true _ _)
  refine ⟨_, rfl, ?_⟩
  rw [msgArrive_unit hq hr hn hp, if_neg (Bool.eq_false_iff.1 hg),
    State.dirCount_on (show (s.tookMsg rest).domainOn 6 = true from h6), hmis]
  obtain ⟨hin, hback, hrd⟩ := (x.raise p.base 3).msgBack_self (hs.trans hself.symm) msgMisrole
  refine ⟨hin.trans (hy.dirIn.trans hx.dirIn), by rw [hback, hy.dirBack, hx.dirBack]; rfl, ?_, ?_⟩
  · rw [State.bit, hrd]
    exact x.bit_raise p.base (by decide)
  · rw [State.rdN, hrd, hy.1 _ (hne _ (by decide) (by decide)), (c.ev_writes 0xF4 0).1 _ (counterReg_dirReg _)]
    exact (s.tookMsg rest).rdN_count _

omit h6 in
/-- A QUERY of the present generation is answered. -/
theorem leads_msgArrive_query (hn : s.noUnitFor w = false) {p : Page}
    (hp : unitPage (bitsOf (s.dirEntry (msgDst w)) 0 12) = some p) (hd : s.domainOn p.domain = true)
    (hg : s.msgGenOk w p = true) (ht : msgType w = 2) :
    Leads .msgArrive s fun t =>
      t.dirBack = s.dirBack ∧ ∃ r, t.dirIn = rest ++ [(true, r)] ∧ msgType r = 3 ∧ msgSrc r = s.selfUnit ∧
        msgDst r = s.selfUnit ∧ msgSender r = msgSender w ∧ r.getD 3 0 = s.unitStat p ∧
        r.getD 4 0 = s.rd (p.base + Reg.Hdr.ROLE_GEN) := by
  let x := (s.tookMsg rest).ev 0xF3 0
  have hx : Writes counterReg (s.tookMsg rest) x := State.ev_writes _ _ _
  have hself : x.selfUnit = s.selfUnit := hx.selfUnit (counterReg_dirReg _)
  have hon : x.domainOn p.domain = true := (hx.domainOn (counterReg_domain p.domain_le)).trans hd
  have hreply : msgArrive s = x.msgReply w p := by
    rw [msgArrive_unit hq hr hn hp, if_pos hg, State.msgExecute, ht]
    rfl
  obtain ⟨hback, r, hin, htype, hsrc, hdst, hsender, hstat, hgen⟩ := State.msgReply_self (hs.trans hself.symm) hon
  have hunit : x.unitStat p = s.unitStat p := hx.unitStat (unitPage_base hp)
  refine ⟨_, rfl, ?_⟩
  rw [hreply]
  exact ⟨hback.trans hx.dirBack, r, by rw [hin, hx.dirIn]; rfl, htype, hsrc.trans hself, hdst.trans hself, hsender,
    hstat.trans hunit, hgen.trans (hx.1 _ (counterReg_header (unitPage_base hp) (by decide)))⟩

end

/-! ## A returned message -/

section
variable {s : State} {w : List Word} {ws : List (List Word)} {m : Master} (hq : s.dirBack = w :: ws)
  (hs : bitsOf (w.getD 1 0) 14 2 = m.sender)
include hq hs

/-- The state once the first returned message is taken. -/
def State.tookBack (s : State) (ws : List (List Word)) : State := { s with dirBack := ws }

omit hq hs in
theorem State.tookBack_mrq (s : State) (ws : List (List Word)) (m : Master) : (s.tookBack ws).mrq m = s.mrq m := by
  obtain ⟨_ | _⟩ | _ := m <;> rfl

omit hs in
theorem msgReturn_cons : msgReturn s = (s.tookBack ws).mrqPush w := by simp only [msgReturn, hq]; rfl

theorem leads_msgReturn_queues (hd : ∀ h, m = .half h → s.domainOn h.pd = true) (hl : (s.mrq m).length < 64) :
    Leads .msgReturn s fun t =>
      t.dirBack = ws ∧ t.mrq m = s.mrq m ++ [w] ∧ t.rdN (m.msgRegs + mCount) = (s.mrq m).length + 1 := by
  refine ⟨_, rfl, ?_⟩
  have hm := s.tookBack_mrq ws m
  obtain ⟨-, hmrq, hcount, -, hback, -⟩ := State.mrqPush_queues_spec (s := s.tookBack ws) hs hd (by rwa [hm])
  rw [hm] at hmrq hcount
  rw [msgReturn_cons hq]
  exact ⟨hback, hmrq, hcount⟩

theorem leads_msgReturn_lost (h6 : s.domainOn 6 = true) (hl : 64 ≤ (s.mrq m).length) :
    Leads .msgReturn s fun t =>
      t.dirBack = ws ∧ t.mrq m = s.mrq m ∧
        t.rdN (dirReg Reg.Dir.LOST_CNT) = min 0xFFFFFFFF (s.rdN (dirReg Reg.Dir.LOST_CNT) + 1) ∧
        SameBut (· == dirReg Reg.Dir.LOST_CNT) s t := by
  refine ⟨_, rfl, ?_⟩
  have hm := s.tookBack_mrq ws m
  rw [msgReturn_cons hq, State.mrqPush_lost hs (by rwa [hm]), State.dirCount_on (show (s.tookBack ws).domainOn 6 = true from h6)]
  have hc := (s.tookBack ws).count_writes (dirReg Reg.Dir.LOST_CNT)
  exact ⟨hc.dirBack, (hc.mrq m).trans hm, (s.tookBack ws).rdN_count _, fun k hk _ _ => hc.1 k hk⟩

end

end Sys2Proof.Machine

open Sys2Proof Sys2Proof.Machine

/-- Settles O14: one lemma per way an arriving message ends, and two for a returned one. -/
theorem directoryMessages : Obligations.DirectoryMessages := by
  unfold Obligations.DirectoryMessages
  refine ⟨fun s hq => ?idle, fun s b w rest hq hr hs h6 hc => ?arrives, fun s hq => ?noneBack, fun s w ws m hq hs h6 hd => ?returns⟩
  case idle => exact ⟨_, rfl, by simp only [msgArrive, hq]⟩
  case arrives =>
    intro e
    refine ⟨fun he => ?noUnit, fun p h31 h30 ht0 ht3 hp hd => ?unit⟩
    case noUnit =>
      refine leads_msgArrive_noUnit hq hr hs h6 ?_
      rcases he with he | he <;> simp [State.noUnitFor, show bitOf (s.dirEntry (msgDst w)) _ = false from he]
    case unit =>
      have hn : s.noUnitFor w = false := by
        have : ¬ 3 < msgType w := by omega
        have : msgType w ≠ 0 := by omega
        simp_all [State.noUnitFor, e]
      exact ⟨fun hg => leads_msgArrive_misrole hq hr hs h6 hn hp hd hg,
        fun hg ht => leads_msgArrive_query hq hr hs hn hp hd hg ht⟩
  case noneBack => exact ⟨_, rfl, by simp only [msgReturn, hq]⟩
  case returns => exact ⟨fun hl => leads_msgReturn_queues hq hs hd hl, fun hl => leads_msgReturn_lost hq hs h6 hl⟩
end


section
/-! PROOFS. O39: membership of the channel groups (R247, R248, R55). -/

namespace Sys2Proof.Machine

/-! ## The write of MEMB_CTRL -/

/-- A write of MEMB_CTRL that is taken waits, with the member and OP of its word. -/
theorem membWrite_waits {s : State} {acc : Access} {g : Fin 64} {m : Fin 4096} {op : Nat}
    (ht : Takes s acc (cgBase g.val + Reg.Cg.MEMB_CTRL)) (hop : op < 4) :
    ∃ t, s.write acc 4 (cgBase g.val + Reg.Cg.MEMB_CTRL) (membWord m.val op) (fun acc => membWrite acc g.val (membWord m.val op)) = t ∧
      t.resp = .ok ∧ t.membReqs = s.membReqs ++ [⟨g.val, m.val, op, s.asSent acc⟩] ∧ SameBut (fun _ => false) s t := by
  have hm : bitsOf (membWord m.val op) 0 12 = m.val := by
    rw [membWord, bitsOf_word (by decide)]
    omega
  have ho : bitsOf (membWord m.val op) 12 2 = op := by
    rw [membWord, bitsOf_word (by decide)]
    omega
  refine ⟨_, write_taken ht _, rfl, ?_, (s.taken_frame _ acc _ (membWord m.val op)).1⟩
  rw [membWrite, hm, ho]
  exact congrArg (· ++ _) (State.taken_eq (·.membReqs) fun _ _ _ _ => rfl)

/-! ## The checks of R247 -/

section
variable (s : State) (q : MembReq)

/-- The member is a channel, or a channel group. -/
def MembReq.isCh : Prop := 0x100 ≤ q.member ∧ q.member < 0x180
def MembReq.isGrp : Prop := 0xC0 ≤ q.member ∧ q.member < 0x100

/-- OP is defined and the member can stand in a group other than itself. -/
def MembReq.Fits : Prop := (q.op = 1 ∨ q.op = 2) ∧ (q.isCh ∨ q.isGrp ∧ q.member ≠ 0xC0 + q.group)

/-- A group concerned is busy. -/
def State.MembBusy : Prop :=
  (∃ x ∈ s.groupChain 6 (some q.group), s.busy (cgBase x) = true) ∨ q.isGrp ∧ s.busy (compBase q.member) = true

/-- The member is the group itself or a group above it. -/
def State.MembLoop : Prop := q.isGrp ∧ q.member - 0xC0 ∈ s.groupChain 6 (some q.group)

/-- With the member, a group would be of a level above the sixth (R52). -/
def State.MembDeep : Prop :=
  q.isGrp ∧ ∃ p ∈ (s.groupChain 6 (some q.group)).zipIdx, 6 < max (s.grpLevel p.1) (s.grpLevel (q.member - 0xC0) + 1 + p.2)

/-- The result of the check of a request. -/
def State.membCode : Nat := s.membCheck q.acc q.group q.member q.op

open Classical in
/-- The checks of R247 in their order. -/
theorem State.membCode_eq (hg : q.group < 64) : s.membCode q =
    if ¬q.Fits then 2 else if s.r34 q.acc (compBase q.member) = false then 3 else if s.MembBusy q then 4
    else if q.op = 2 ∧ s.isMember q.group q.member = false then 5 else if q.op = 1 ∧ (s.holderOf q.member).isSome = true then 6
    else if q.op = 1 ∧ s.MembLoop q then 7 else if q.op = 1 ∧ s.MembDeep q then 8 else 1 := by
  unfold State.membCode State.membCheck
  refine ite_congr (propext ?_) (fun _ => rfl) fun _ => ite_congr (propext ?_) (fun _ => rfl) fun _ =>
    ite_congr (propext ?_) (fun _ => rfl) fun _ => ite_congr (propext ?_) (fun _ => rfl) fun _ =>
    ite_congr (propext ?_) (fun _ => rfl) fun _ => ite_congr (propext ?_) (fun _ => rfl) fun _ =>
    ite_congr (propext ?_) (fun _ => rfl) fun _ => rfl
  · simp only [MembReq.Fits, MembReq.isCh, MembReq.isGrp, Bool.or_eq_true, Bool.not_eq_true', Bool.or_eq_false_iff, decide_eq_true_eq,
      decide_eq_false_iff_not, beq_iff_eq]
    omega
  · simp
  · simp [State.MembBusy, MembReq.isGrp]
  · simp
  · simp
  · simp [State.MembLoop, MembReq.isGrp, and_assoc]
  · simp [State.MembDeep, MembReq.isGrp, and_assoc]

variable {s q} (hg : q.group < 64)
include hg

theorem State.membCode_unfit (h : ¬q.Fits) : s.membCode q = 2 := by rw [s.membCode_eq q hg, if_pos h]

theorem State.membCode_ownership (hf : q.Fits) (h : s.r34 q.acc (compBase q.member) = false) : s.membCode q = 3 := by
  rw [s.membCode_eq q hg, if_neg (not_not.2 hf), if_pos h]

section
variable (hf : q.Fits) (ho : s.r34 q.acc (compBase q.member) = true)
include hf ho

theorem State.membCode_busy (h : s.MembBusy q) : s.membCode q = 4 := by
  rw [s.membCode_eq q hg, if_neg (not_not.2 hf), if_neg (by simp [ho]), if_pos h]

variable (hb : ¬s.MembBusy q)
include hb

theorem State.membCode_notMember (hop : q.op = 2) (h : s.isMember q.group q.member = false) : s.membCode q = 5 := by
  rw [s.membCode_eq q hg, if_neg (not_not.2 hf), if_neg (by simp [ho]), if_neg hb, if_pos ⟨hop, h⟩]

theorem State.membCode_held (hop : q.op = 1) (h : (s.holderOf q.member).isSome = true) : s.membCode q = 6 := by
  rw [s.membCode_eq q hg, if_neg (not_not.2 hf), if_neg (by simp [ho]), if_neg hb, if_neg (by simp [hop]), if_pos ⟨hop, h⟩]

theorem State.membCode_loop (hop : q.op = 1) (hn : s.holderOf q.member = none) (h : s.MembLoop q) : s.membCode q = 7 := by
  rw [s.membCode_eq q hg, if_neg (not_not.2 hf), if_neg (by simp [ho]), if_neg hb, if_neg (by simp [hop]), if_neg (by simp [hn]),
    if_pos ⟨hop, h⟩]

theorem State.membCode_deep (hop : q.op = 1) (hn : s.holderOf q.member = none) (hl : ¬s.MembLoop q) (h : s.MembDeep q) :
    s.membCode q = 8 := by
  rw [s.membCode_eq q hg, if_neg (not_not.2 hf), if_neg (by simp [ho]), if_neg hb, if_neg (by simp [hop]), if_neg (by simp [hn]),
    if_neg (by simp [hl]), if_pos ⟨hop, h⟩]

theorem State.membCode_remove (hop : q.op = 2) (h : s.isMember q.group q.member = true) : s.membCode q = 1 := by
  rw [s.membCode_eq q hg, if_neg (not_not.2 hf), if_neg (by simp [ho]), if_neg hb, if_neg (by simp [h]), if_neg (by simp [hop]),
    if_neg (by simp [hop]), if_neg (by simp [hop])]

theorem State.membCode_add (hop : q.op = 1) (hn : s.holderOf q.member = none) (hl : ¬s.MembLoop q) (hd : ¬s.MembDeep q) :
    s.membCode q = 1 := by
  rw [s.membCode_eq q hg, if_neg (not_not.2 hf), if_neg (by simp [ho]), if_neg hb, if_neg (by simp [hop]), if_neg (by simp [hn]),
    if_neg (by simp [hl]), if_neg (by simp [hd])]

end
end

/-! ## The result of a request -/

section
variable (s : State) (g r : Nat)

theorem State.membResult_writes :
    Writes (fun k => k == cgBase g + Reg.Cg.MEMB_STAT || k == cgBase g + Reg.Hdr.IRQ_RAW) s (s.membResult g r) :=
  ((Writes.refl _ s).wr (by simp) _).trans ((State.raise_writes _ (cgBase g) 17).mono (by simp))

theorem State.membResult_stat : (s.membResult g r).rd (cgBase g + Reg.Cg.MEMB_STAT) =
    setBits (s.rd (cgBase g + Reg.Cg.MEMB_STAT)) 28 4 r := by
  rw [State.membResult, (State.raise_writes _ (cgBase g) 17).1 _ (by simp [Reg.Cg.MEMB_STAT, Reg.Hdr.IRQ_RAW]), State.setFld_eq,
    State.rd_wr_same]

theorem State.membResult_result (hr : r < 16) : (s.membResult g r).fld (cgBase g + Reg.Cg.MEMB_STAT) 28 4 = r := by
  rw [State.fld, s.membResult_stat, bitsOf_setBits_same _ _ (by decide)]
  exact Nat.mod_eq_of_lt hr

theorem State.membResult_done : (s.membResult g r).bit (cgBase g + Reg.Hdr.IRQ_RAW) 17 = true := State.bit_raise _ _ (by decide)

/-- The count of channels stands when a result is written. -/
theorem State.membResult_channels :
    (s.membResult g r).fld (cgBase g + Reg.Cg.MEMB_STAT) 0 8 = s.fld (cgBase g + Reg.Cg.MEMB_STAT) 0 8 := by
  rw [State.fld, s.membResult_stat, bitsOf_setBits_below _ _ (by decide) (by decide)]
  rfl

end

/-! ## Registers by their place in a page -/

/-- A register at one of some places of its page. -/
def atPlaces (l : List Nat) (k : Nat) : Bool := l.contains (k % 0x1000)

theorem atPlaces_add {l : List Nat} {b off : Nat} (hb : b % 0x1000 = 0) (ho : off < 0x1000) : atPlaces l (b + off) = l.contains off := by
  rw [atPlaces, show (b + off) % 0x1000 = off by omega]

theorem atPlaces_of_subset {k : Nat} {l l' : List Nat} (hk : k % 0x1000 ∈ l') (h : l' ⊆ l) : atPlaces l k = true := by
  simpa [atPlaces] using h hk

theorem atPlaces_of_disjoint {k : Nat} {l l' : List Nat} (hk : k % 0x1000 ∈ l') (h : ∀ x ∈ l', x ∉ l) : atPlaces l k = false := by
  simpa [atPlaces] using h _ hk

theorem cgBase_mod (g : Nat) : cgBase g % 0x1000 = 0 := by unfold cgBase; omega

theorem chanBase_mod (n : Nat) : chanBase n % 0x1000 = 0 := by unfold chanBase; omega

theorem compBase_group {g : Nat} (hg : g < 64) : compBase (0xC0 + g) = cgBase g := by
  rw [compBase, if_neg (by omega), if_neg (by omega), if_pos (by omega), Nat.add_sub_cancel_left]

theorem MembReq.Fits.base {q : MembReq} (hf : q.Fits) :
    compBase q.member % 0x1000 = 0 ∧ (q.group < 64 → compBase q.member ≠ cgBase q.group) := by
  obtain ⟨-, ⟨h, h'⟩ | ⟨⟨h, h'⟩, hne⟩⟩ := hf
  · rw [compBase, if_neg (by omega), if_neg (by omega), if_neg (by omega)]
    refine ⟨chanBase_mod _, fun _ => ?_⟩
    unfold chanBase cgBase
    omega
  · rw [compBase, if_neg (by omega), if_neg (by omega), if_pos ⟨h, h'⟩]
    refine ⟨cgBase_mod _, fun _ => ?_⟩
    unfold cgBase
    omega

/-- The groups of a chain are groups of the device. -/
theorem State.groupChain_lt {s : State} {fuel g x : Nat} (hg : g < 64) (hx : x ∈ s.groupChain fuel (some g)) : x < 64 := by
  induction fuel generalizing g with
  | zero => simp [State.groupChain] at hx
  | succ fuel ih =>
    rw [State.groupChain, List.mem_cons] at hx
    obtain rfl | hx := hx
    · exact hg
    · cases hp : s.parentOf g with
      | none => cases fuel <;> simp [hp, State.groupChain] at hx
      | some y =>
        rw [hp] at hx
        refine ih ?_ hx
        unfold State.parentOf at hp
        split at hp
        · cases hp
          exact bitsOf_lt _ _ _
        · cases hp

/-! ## The effect of a change -/

section
variable (s : State) (q : MembReq)

/-- The word of the group's bitmaps that holds the member, and the member's bit in it. -/
def MembReq.bitmap : Nat :=
  if 0x100 ≤ q.member then cgBase q.group + Reg.Cg.CH_MEMB + 4 * ((q.member - 0x100) / 32)
  else cgBase q.group + Reg.Cg.GRP_MEMB + 4 * ((q.member - 0xC0) / 32)
def MembReq.bitIx : Nat := if 0x100 ≤ q.member then (q.member - 0x100) % 32 else (q.member - 0xC0) % 32

/-- The register that names the member's holder. -/
def MembReq.link : Nat :=
  if 0x100 ≤ q.member then chanBase (q.member - 0x100) + Reg.Chan.GROUP else cgBase (q.member - 0xC0) + Reg.Cg.PARENT

theorem State.isMember_eq : s.isMember q.group q.member = s.bit q.bitmap q.bitIx := by
  unfold State.isMember MembReq.bitmap MembReq.bitIx
  split <;> rfl

/-- The count of the group's members of the member's sort goes up or down. -/
def State.membCounted : State :=
  let st := cgBase q.group + Reg.Cg.MEMB_STAT
  if 0x100 ≤ q.member then s.setFld st 0 8 (if q.op == 1 then s.fld st 0 8 + 1 else s.fld st 0 8 - 1)
  else s.setFld st 8 6 (if q.op == 1 then s.fld st 8 6 + 1 else s.fld st 8 6 - 1)

/-- The bitmap, the count and the link of a change. -/
def State.membLinked : State :=
  ((s.setBit q.bitmap q.bitIx (q.op == 1)).membCounted q).wrN q.link (if q.op == 1 then q.group + 2 ^ 31 else 0)

/-- The levels of groups, from the lowest up. -/
def State.relevel (ups : List Nat) : State :=
  s.each ups fun s x => s.setFld (cgBase x + Reg.Cg.MEMB_STAT) 16 3 (s.levelOf x)

/-- The sums and the status of groups, from the lowest up. -/
def State.resumAll (ups : List Nat) : State := s.each ups fun s x => (s.resum (0xC0 + x)).deriveStat (0xC0 + x)

/-- The group of a request and those above it, once the link is made. -/
def State.membUps : List Nat := (s.membLinked q).groupChain 6 (some q.group)

/-- The state once the link is made and the levels are right. -/
def State.membLevelled : State := (s.membLinked q).relevel (s.membUps q)

/-- A change is its link, the levels, both generations, and the sums and status above. -/
theorem State.membEffect_eq : s.membEffect q =
    (((s.membLevelled q).bumpGen (compBase q.member)).bumpGen (cgBase q.group)).resumAll (s.membUps q) := by
  unfold State.membLevelled State.membUps State.membLinked State.membCounted MembReq.bitmap MembReq.bitIx MembReq.link State.membEffect
  by_cases h : 0x100 ≤ q.member
  · simp only [if_pos h]
    rfl
  · simp only [if_neg h]
    rfl

/-! ## What each part writes -/

/-- The places of a change's bitmaps, count and link. -/
def linkPlaces : List Nat := [0x48, 0x4C, 0x50, 0x54, 0x58, 0x5C, 0x60, 0x64, 0xF0]

/-- The places of the sums and the status of a group. -/
def sumPlaces : List Nat := [Reg.Hdr.UNIT_STAT, Reg.Hdr.IRQ_RAW, Reg.Cg.I_SUM, Reg.Cg.I_SPAN]

theorem State.membCounted_writes : Writes (· == cgBase q.group + Reg.Cg.MEMB_STAT) s (s.membCounted q) := by
  unfold State.membCounted
  dsimp only
  split <;> exact (Writes.refl _ s).wr (by simp) _

theorem State.relevel_writes (ups : List Nat) : Writes (atPlaces [Reg.Cg.MEMB_STAT]) s (s.relevel ups) :=
  (Writes.refl _ s).each fun _ _ u _ => (Writes.refl _ u).wr (atPlaces_add (cgBase_mod _) (by decide)) _

/-- The levels lie above the counts of channels. -/
theorem State.relevel_channels (ups : List Nat) (g : Nat) :
    (s.relevel ups).fld (cgBase g + Reg.Cg.MEMB_STAT) 0 8 = s.fld (cgBase g + Reg.Cg.MEMB_STAT) 0 8 := by
  refine State.each_ind (P := fun u => u.fld _ 0 8 = s.fld _ 0 8) rfl fun x _ u hu => ?_
  rw [State.fld, State.setFld_eq, State.rd_wr, ← hu]
  split
  · next h => rw [bitsOf_setBits_below _ _ (by decide) (by decide), h]; rfl
  · rfl

theorem State.resum_writes {g : Nat} (hg : g < 64) : Writes (atPlaces sumPlaces) s (s.resum (0xC0 + g)) := by
  have place {off : Nat} (ho : off < 0x1000) (h : off ∈ sumPlaces) : atPlaces sumPlaces (cgBase g + off) = true := by
    rw [atPlaces_add (cgBase_mod g) ho]
    simpa using h
  have hsum : Writes (atPlaces sumPlaces) s (s.sumUp (0xC0 + g)) := by
    refine (Writes.refl _ s).wr ?_ _
    rw [isumKey, if_neg (by omega), compBase_group hg]
    exact place (by decide) (by decide)
  unfold State.resum
  dsimp only
  rw [if_pos (by omega), Nat.add_sub_cancel_left]
  refine (hsum.wr (place (by decide) (by decide)) _).onlyIf fun _ => (Writes.refl _ _).wr (place (by decide) (by decide)) _

theorem State.setUnit_writes (b : Nat) (on partly fault : Bool) (prot : Nat) :
    Writes (fun k => k == b + Reg.Hdr.UNIT_STAT || k == b + Reg.Hdr.IRQ_RAW) s (s.setUnit b on partly fault prot) :=
  (((Writes.refl _ s).wr (by simp) _).onlyIf fun _ => (Writes.refl _ _).wr (by simp) _).onlyIf fun _ =>
    (Writes.refl _ _).wr (by simp) _

theorem State.deriveStat_writes {g : Nat} (hg : g < 64) : Writes (atPlaces sumPlaces) s (s.deriveStat (0xC0 + g)) := by
  refine (s.setUnit_writes _ _ _ _ _).mono fun k hk => ?_
  rw [compBase_group hg, Bool.or_eq_true, beq_iff_eq, beq_iff_eq] at hk
  rcases hk with rfl | rfl <;> rw [atPlaces_add (cgBase_mod g) (by decide)] <;> decide

theorem State.resumAll_writes {ups : List Nat} (h : ∀ x ∈ ups, x < 64) : Writes (atPlaces sumPlaces) s (s.resumAll ups) :=
  (Writes.refl _ s).each fun x hx u _ => (u.resum_writes (h x hx)).trans (State.deriveStat_writes _ (h x hx))

end

/-! ## The registers of a change -/

section
variable (s : State) {q : MembReq}

theorem MembReq.bitIx_lt (q : MembReq) : q.bitIx < 32 := by
  unfold MembReq.bitIx
  split <;> exact Nat.mod_lt _ (by decide)

/-- A member's bit lies in one of the six words of the bitmaps. -/
theorem MembReq.Fits.bitmap_eq (hf : q.Fits) : ∃ i < 6, q.bitmap = cgBase q.group + (Reg.Cg.CH_MEMB + 4 * i) := by
  unfold MembReq.bitmap Reg.Cg.CH_MEMB Reg.Cg.GRP_MEMB
  obtain ⟨-, ⟨h, h'⟩ | ⟨⟨h, h'⟩, -⟩⟩ := hf
  · exact ⟨(q.member - 0x100) / 32, by omega, by rw [if_pos h]; omega⟩
  · exact ⟨4 + (q.member - 0xC0) / 32, by omega, by rw [if_neg (by omega)]; omega⟩

theorem MembReq.Fits.bitmap_mod (hf : q.Fits) : q.bitmap % 0x1000 ∈ [0x50, 0x54, 0x58, 0x5C, 0x60, 0x64] := by
  obtain ⟨i, hi, h⟩ := hf.bitmap_eq
  have := cgBase_mod q.group
  have hmod : q.bitmap % 0x1000 = 0x50 + 4 * i := by
    rw [h, Reg.Cg.CH_MEMB]
    omega
  rw [hmod]
  interval_cases i <;> decide

/-- The member's holder stands in a GROUP or a PARENT. -/
theorem MembReq.link_mod (q : MembReq) : q.link % 0x1000 ∈ [0x4C, 0xF0] := by
  unfold MembReq.link
  split
  · simp [Nat.add_mod, chanBase_mod, Reg.Chan.GROUP]
  · simp [Nat.add_mod, cgBase_mod, Reg.Cg.PARENT]

theorem stat_mod (g : Nat) : (cgBase g + Reg.Cg.MEMB_STAT) % 0x1000 = 0x48 := by simp [Nat.add_mod, cgBase_mod, Reg.Cg.MEMB_STAT]

/-- Registers at places of disjoint lists are different. -/
theorem ne_of_places {j k : Nat} {l l' : List Nat} (hj : j % 0x1000 ∈ l) (hk : k % 0x1000 ∈ l')
    (h : ∀ x ∈ l, x ∉ l') : j ≠ k := by
  rintro rfl
  exact h _ hj hk

section
variable (hf : q.Fits)
include hf

theorem State.membLinked_writes : Writes (atPlaces linkPlaces) s (s.membLinked q) := by
  have hbit : atPlaces linkPlaces q.bitmap = true := atPlaces_of_subset hf.bitmap_mod (by decide)
  have hlink : atPlaces linkPlaces q.link = true := atPlaces_of_subset q.link_mod (by decide)
  have hcount := (s.setBit q.bitmap q.bitIx (q.op == 1)).membCounted_writes q
  refine (((Writes.refl _ s).wr hbit _).trans (hcount.mono fun k hk => ?_)).wr hlink _
  rw [beq_iff_eq.1 hk, atPlaces, stat_mod]
  decide

theorem State.membLinked_bit : (s.membLinked q).bit q.bitmap q.bitIx = (q.op == 1) := by
  have hne : q.bitmap ≠ q.link := ne_of_places hf.bitmap_mod q.link_mod (by decide)
  have hst : q.bitmap ≠ cgBase q.group + Reg.Cg.MEMB_STAT :=
    ne_of_places hf.bitmap_mod (List.mem_singleton.2 (stat_mod _)) (by decide)
  rw [State.bit, State.membLinked, State.wrN_eq, State.rd_wr_ne _ _ _ _ hne, (State.membCounted_writes _ q).1 _ (by simpa using hst)]
  exact s.bit_setBit_same _ q.bitIx_lt _

/-- A channel added is counted, up to 128 of them. -/
theorem State.membLinked_channels (hop : q.op = 1) (hc : q.isCh) (hn : s.fld (cgBase q.group + Reg.Cg.MEMB_STAT) 0 8 < 128) :
    (s.membLinked q).fld (cgBase q.group + Reg.Cg.MEMB_STAT) 0 8 = s.fld (cgBase q.group + Reg.Cg.MEMB_STAT) 0 8 + 1 := by
  have hne : cgBase q.group + Reg.Cg.MEMB_STAT ≠ q.link :=
    ne_of_places (List.mem_singleton.2 (stat_mod _)) q.link_mod (by decide)
  have hst : cgBase q.group + Reg.Cg.MEMB_STAT ≠ q.bitmap :=
    ne_of_places (List.mem_singleton.2 (stat_mod _)) hf.bitmap_mod (by decide)
  have hbit : (s.setBit q.bitmap q.bitIx (q.op == 1)).fld (cgBase q.group + Reg.Cg.MEMB_STAT) 0 8 =
      s.fld (cgBase q.group + Reg.Cg.MEMB_STAT) 0 8 := congrArg (bitsOf · 0 8) (State.rd_wr_ne _ _ _ _ hst)
  rw [State.fld, State.membLinked, State.wrN_eq, State.rd_wr_ne _ _ _ _ hne, State.membCounted, if_pos hc.1, State.setFld_eq,
    State.rd_wr_same, bitsOf_setBits_same _ _ (by decide), hbit, hop]
  exact Nat.mod_eq_of_lt (by simp; omega)

end

theorem State.membLinked_link (q : MembReq) :
    (s.membLinked q).rd q.link = if q.op = 1 then word (q.group + 2 ^ 31) else 0 := by
  rw [State.membLinked, State.wrN_eq, State.rd_wr_same]
  by_cases h : q.op = 1 <;> simp [h, word]

/-! ## The effect as a whole -/

/-- The generation of a unit stands where its register is not written. -/
theorem Writes.gen {p : Nat → Bool} {s t : State} (h : Writes p s t) {b : Nat} (hb : p (b + Reg.Hdr.ROLE_GEN) = false) :
    t.gen b = s.gen b := congrArg (bitsOf · 0 16) (h.1 _ hb)

variable (hg : q.group < 64)
include hg

theorem State.resumAll_membUps_writes (t : State) : Writes (atPlaces sumPlaces) t (t.resumAll (s.membUps q)) :=
  t.resumAll_writes fun _ hx => State.groupChain_lt hg hx

variable (hf : q.Fits)
include hf

/-- What follows the link leaves it and the bitmaps alone. -/
theorem State.membEffect_writes :
    Writes (atPlaces (Reg.Hdr.ROLE_GEN :: Reg.Cg.MEMB_STAT :: sumPlaces)) (s.membLinked q) (s.membEffect q) := by
  have widen {l : List Nat} (h : l ⊆ Reg.Hdr.ROLE_GEN :: Reg.Cg.MEMB_STAT :: sumPlaces) (k : Nat) (hk : atPlaces l k = true) :
      atPlaces (Reg.Hdr.ROLE_GEN :: Reg.Cg.MEMB_STAT :: sumPlaces) k = true := by
    simp only [atPlaces, List.contains_eq_mem, decide_eq_true_eq] at hk ⊢
    exact h hk
  have bump {b : Nat} (hb : b % 0x1000 = 0) (t : State) :
      Writes (atPlaces (Reg.Hdr.ROLE_GEN :: Reg.Cg.MEMB_STAT :: sumPlaces)) t (t.bumpGen b) := by
    refine (t.bumpGen_writes b).mono fun k hk => ?_
    rw [beq_iff_eq.1 hk, atPlaces_add hb (by decide)]
    decide
  rw [State.membEffect_eq]
  exact ((((s.membLinked q).relevel_writes _).mono (widen (by simp))).trans (bump hf.base.1 _)).trans
    ((bump (cgBase_mod _) _).trans ((s.resumAll_membUps_writes hg _).mono (widen (by simp))))

theorem State.membEffect_isMember : (s.membEffect q).isMember q.group q.member = (q.op == 1) := by
  rw [State.isMember_eq, State.bit, (s.membEffect_writes hg hf).1]
  · exact s.membLinked_bit hf
  · exact atPlaces_of_disjoint hf.bitmap_mod (by decide)

theorem State.membEffect_link : (s.membEffect q).rd q.link = if q.op = 1 then word (q.group + 2 ^ 31) else 0 := by
  rw [(s.membEffect_writes hg hf).1]
  · exact s.membLinked_link q
  · exact atPlaces_of_disjoint q.link_mod (by decide)

theorem State.membEffect_gen : ∀ k ∈ [compBase q.member, cgBase q.group],
    (s.membEffect q).gen k = if s.gen k = 0xFFFF then 1 else s.gen k + 1 := by
  obtain ⟨hm, hne⟩ := hf.base
  have hgm := cgBase_mod q.group
  have ne {b c : Nat} (h : b ≠ c) : (b + Reg.Hdr.ROLE_GEN == c + Reg.Hdr.ROLE_GEN) = false := beq_false_of_ne (by omega)
  have link {b : Nat} (hb : b % 0x1000 = 0) : (s.membLevelled q).gen b = s.gen b :=
    ((State.relevel_writes _ _).gen (by rw [atPlaces_add hb (by decide)]; decide)).trans
      ((s.membLinked_writes hf).gen (by rw [atPlaces_add hb (by decide)]; decide))
  have sums {b : Nat} (hb : b % 0x1000 = 0) (t : State) : (t.resumAll (s.membUps q)).gen b = t.gen b :=
    (s.resumAll_membUps_writes hg t).gen (by rw [atPlaces_add hb (by decide)]; decide)
  rw [State.membEffect_eq]
  simp only [List.mem_cons, List.not_mem_nil, or_false]
  rintro k (rfl | rfl)
  · rw [sums hm, (State.bumpGen_writes _ _).gen (ne (hne hg)), State.gen_bumpGen, link hm]
  · rw [sums hgm, State.gen_bumpGen, (State.bumpGen_writes _ _).gen (ne (hne hg).symm), link hgm]

theorem State.membEffect_channels (hop : q.op = 1) (hc : q.isCh) (hn : s.fld (cgBase q.group + Reg.Cg.MEMB_STAT) 0 8 < 128) :
    (s.membEffect q).fld (cgBase q.group + Reg.Cg.MEMB_STAT) 0 8 = s.fld (cgBase q.group + Reg.Cg.MEMB_STAT) 0 8 + 1 := by
  have bump (b : Nat) (hb : b % 0x1000 = 0) (t : State) :
      (t.bumpGen b).rd (cgBase q.group + Reg.Cg.MEMB_STAT) = t.rd (cgBase q.group + Reg.Cg.MEMB_STAT) :=
    (t.bumpGen_writes b).1 _ (beq_false_of_ne (base_add_ne (cgBase_mod _) hb (by decide) (by decide) (by decide)))
  rw [State.membEffect_eq, State.fld, (s.resumAll_membUps_writes hg _).1 _ (atPlaces_of_disjoint (List.mem_singleton.2 (stat_mod _)) (by decide)),
    bump _ (cgBase_mod _), bump _ hf.base.1]
  exact ((s.membLinked q).relevel_channels _ _).trans (s.membLinked_channels hf hop hc hn)

end

/-! ## The oldest request -/

section
variable {s : State} {q : MembReq} {rest : List MembReq} (hq : s.membReqs = q :: rest)

/-- The state once the oldest request is taken. -/
def State.tookMemb (s : State) (rest : List MembReq) : State := { s with membReqs := rest }

omit hq in
theorem State.tookMemb_groupChain (fuel : Nat) (g : Option Nat) : (s.tookMemb rest).groupChain fuel g = s.groupChain fuel g := by
  induction fuel generalizing g with
  | zero => rfl
  | succ fuel ih =>
    cases g with
    | none => rfl
    | some g => exact congrArg (g :: ·) (ih _)

omit hq in
/-- The check looks at no request. -/
theorem State.tookMemb_membCode : (s.tookMemb rest).membCode q = s.membCode q := by
  unfold State.membCode State.membCheck
  rw [State.tookMemb_groupChain]
  rfl

include hq

theorem membApply_cons : membApply s =
    ((s.tookMemb rest).onlyIf (s.membCode q == 1) (·.membEffect q)).membResult q.group (s.membCode q) := by
  rw [← State.tookMemb_membCode (rest := rest)]
  simp only [membApply, hq]
  rfl

/-- A request that fails a check ends with its code, and the membership stays. -/
theorem leads_membApply_fails {r : Nat} (hr : s.membCode q = r) (h1 : r ≠ 1) (h16 : r < 16) :
    Leads .membApply s fun t =>
      t.fld (cgBase q.group + Reg.Cg.MEMB_STAT) 28 4 = r ∧ t.bit (cgBase q.group + Reg.Hdr.IRQ_RAW) 17 = true ∧
        Keeps (fun k => k == cgBase q.group + Reg.Cg.MEMB_STAT || k == cgBase q.group + Reg.Hdr.IRQ_RAW)
          { s with membReqs := rest } t := by
  refine ⟨_, rfl, ?_⟩
  rw [membApply_cons hq, hr, beq_false_of_ne h1, State.onlyIf_false]
  exact ⟨State.membResult_result _ _ _ h16, State.membResult_done _ _ _, (Keeps.refl _ _).writes (State.membResult_writes _ _ _)⟩

/-- A request that passes takes effect. -/
theorem leads_membApply_done (hf : q.Fits) (hg : q.group < 64) (hr : s.membCode q = 1) :
    Leads .membApply s fun t =>
      t.membReqs = rest ∧ t.isMember q.group q.member = decide (q.op = 1) ∧
        t.fld (cgBase q.group + Reg.Cg.MEMB_STAT) 28 4 = 1 ∧ t.bit (cgBase q.group + Reg.Hdr.IRQ_RAW) 17 = true ∧
        t.rd q.link = (if q.op = 1 then word (q.group + 2 ^ 31) else 0) ∧
        (∀ k ∈ [compBase q.member, cgBase q.group], t.gen k = if s.gen k = 0xFFFF then 1 else s.gen k + 1) ∧
        (q.op = 1 → q.isCh → s.fld (cgBase q.group + Reg.Cg.MEMB_STAT) 0 8 < 128 →
          t.fld (cgBase q.group + Reg.Cg.MEMB_STAT) 0 8 = s.fld (cgBase q.group + Reg.Cg.MEMB_STAT) 0 8 + 1) := by
  let x := s.tookMemb rest
  have hw := (x.membEffect q).membResult_writes q.group 1
  have hx : Writes (fun _ => true) x (x.membEffect q) :=
    ((x.membLinked_writes hf).mono (by simp)).trans ((x.membEffect_writes hg hf).mono (by simp))
  have off {k : Nat} {l : List Nat} (hk : k % 0x1000 ∈ l) (h : ∀ x ∈ l, x ∉ [0x48, 0x10]) :
      (k == cgBase q.group + Reg.Cg.MEMB_STAT || k == cgBase q.group + Reg.Hdr.IRQ_RAW) = false := by
    have hraw : (cgBase q.group + Reg.Hdr.IRQ_RAW) % 0x1000 ∈ [0x48, 0x10] := by simp [Nat.add_mod, cgBase_mod, Reg.Hdr.IRQ_RAW]
    have hst : (cgBase q.group + Reg.Cg.MEMB_STAT) % 0x1000 ∈ [0x48, 0x10] := by simp [stat_mod]
    rw [beq_false_of_ne (ne_of_places hk hst h), beq_false_of_ne (ne_of_places hk hraw h)]
    rfl
  refine ⟨_, rfl, ?_⟩
  rw [membApply_cons hq, hr, beq_self_eq_true, State.onlyIf_true]
  refine ⟨?_, ?_, State.membResult_result _ _ _ (by decide), State.membResult_done _ _ _, ?_, fun k hk => ?_, fun hop hc hn => ?_⟩
  · rw [hw.2, hx.2]
    rfl
  · rw [State.isMember_eq, State.bit, hw.1 _ (off hf.bitmap_mod (by decide))]
    exact ((x.membEffect q).isMember_eq q).symm.trans (x.membEffect_isMember hg hf)
  · rw [hw.1 _ (off q.link_mod (by decide))]
    exact x.membEffect_link hg hf
  · have hb : k % 0x1000 = 0 := by
      simp only [List.mem_cons, List.not_mem_nil, or_false] at hk
      rcases hk with rfl | rfl
      · exact hf.base.1
      · exact cgBase_mod _
    have hgen : (k + Reg.Hdr.ROLE_GEN) % 0x1000 ∈ [Reg.Hdr.ROLE_GEN] := by simp [Nat.add_mod, hb, Reg.Hdr.ROLE_GEN]
    rw [hw.gen (off hgen (by decide))]
    exact x.membEffect_gen hg hf k hk
  · rw [State.membResult_channels]
    exact x.membEffect_channels hg hf hop hc hn

end

end Sys2Proof.Machine

open Sys2Proof Sys2Proof.Machine

/-- Settles O39: `State.membCode_eq` gives the checks of R247 in their order, `State.membEffect_eq` the parts of a change. -/
theorem membership : Obligations.Membership := by
  unfold Obligations.Membership
  refine ⟨fun s acc n m ht c op hc => ?writes, fun s hq => ?idle, fun s q rest hq hg => ?applies⟩
  case writes =>
    simp only [List.mem_cons, Prod.mk.injEq, List.not_mem_nil, or_false] at hc
    rcases hc with ⟨rfl, rfl⟩ | ⟨rfl, rfl⟩
    · obtain ⟨t, ht, hP⟩ := membWrite_waits ht (op := 1) (by decide)
      exact ⟨t, congrArg _ ht, hP⟩
    · obtain ⟨t, ht, hP⟩ := membWrite_waits ht (op := 2) (by decide)
      exact ⟨t, congrArg _ ht, hP⟩
  case idle => exact ⟨_, rfl, by simp only [membApply, hq]⟩
  case applies =>
    intro g m b st raw fails ups isCh isGrp fits busy loop deep
    have hfails {r : Nat} (hr : s.membCode q = r) (h1 : r ≠ 1) (h16 : r < 16) : fails r := leads_membApply_fails hq hr h1 h16
    refine ⟨fun hf => hfails (State.membCode_unfit hg hf) (by decide) (by decide),
      fun hf ho => hfails (State.membCode_ownership hg hf ho) (by decide) (by decide),
      fun hf ho hb => hfails (State.membCode_busy hg hf ho hb) (by decide) (by decide),
      fun hf ho hb => ⟨fun hop h => hfails (State.membCode_notMember hg hf ho hb hop h) (by decide) (by decide),
        fun hop h => hfails (State.membCode_held hg hf ho hb hop h) (by decide) (by decide),
        fun hop hn h => hfails (State.membCode_loop hg hf ho hb hop hn h) (by decide) (by decide),
        fun hop hn hl h => hfails (State.membCode_deep hg hf ho hb hop hn hl h) (by decide) (by decide), fun h => ?done⟩⟩
    case done =>
      have hcode : s.membCode q = 1 := by
        rcases h with ⟨hop, h⟩ | ⟨hop, hn, hl, hd⟩
        · exact State.membCode_remove hg hf ho hb hop h
        · exact State.membCode_add hg hf ho hb hop hn hl hd
      have hlink : (if isCh then chanBase (m - 0x100) + Reg.Chan.GROUP else cgBase (m - 0xC0) + Reg.Cg.PARENT) = q.link := by
        obtain ⟨-, h | ⟨h, -⟩⟩ := hf
        · exact (if_pos h).trans (if_pos h.1).symm
        · have hn : ¬ 0x100 ≤ m := Nat.not_le.2 h.2
          exact (if_neg fun hc => hn hc.1).trans (if_neg hn).symm
      rw [hlink]
      exact leads_membApply_done hq hf hg hcode
end


section
/-! PROOFS. The time base: what reads and leaves an adjustable clock, the flags of TB_STAT, and an accepted write whose effect
is on the time base alone. -/

namespace Sys2Proof.Machine

/-! ## The adjustable clocks -/

section
variable (s : State) (c c' : AdjClock)

@[simp] theorem State.clk_setClk_same (k : Nat) : (s.setClk k c).clk k = c := by
  unfold State.setClk State.clk
  split <;> rfl

theorem State.clk_setClk_other (k : Fin 2) : (s.setClk k.val c).clk (1 - k.val) = s.clk (1 - k.val) :=
  match k with
  | 0 | 1 => rfl

@[simp] theorem State.setClk_setClk (k : Nat) : (s.setClk k c).setClk k c' = s.setClk k c' := by
  unfold State.setClk
  split <;> rfl

/-- Setting a clock changes the time base only. -/
theorem State.setClk_eq (k : Nat) : s.setClk k c = { s with time := (s.setClk k c).time } := by
  unfold State.setClk
  split <;> rfl

@[simp] theorem State.rd_setClk (k j : Nat) : (s.setClk k c).rd j = s.rd j := by rw [s.setClk_eq c k]; rfl

end

/-- The clocks are part of the time base. -/
theorem State.clk_congr {s t : State} (h : t.time = s.time) (k : Nat) : t.clk k = s.clk k := by simp only [State.clk, h]

section
variable {p : Nat → Bool} {s t u : State}

theorem Writes.time (h : Writes p s t) : t.time = s.time := by rw [h.2]

/-- A change of the time base after an access. -/
theorem Keeps.retime (h : Keeps p s t) (e : u = { t with time := u.time }) : Keeps p { s with time := u.time } u := by
  obtain ⟨hr, ho, hh⟩ := h
  rw [e]
  exact ⟨hr, by rw [ho], hh⟩

theorem Keeps.setClk (h : Keeps p s t) (k : Nat) (c : AdjClock) :
    Keeps p { s with time := (t.setClk k c).time } (t.setClk k c) := h.retime (t.setClk_eq c k)

end

/-! ## Flags -/

/-- A bit below one that is written stands. -/
theorem State.bit_setBit_below (s : State) (k : Nat) {i j : Nat} (h : i < j) (hj : j < 32) (b : Bool) :
    (s.setBit k j b).bit k i = s.bit k i := by
  rw [State.bit, State.setBit_eq, State.rd_wr_same, bitOf, bitsOf_setBits_below _ _ (by omega) (by omega)]
  rfl

/-- TB_STAT and the interrupt flags of the time base. -/
def tbFlags (j : Nat) : Bool := j == tbBase + Reg.Tb.TB_STAT || j == tbBase + Reg.Hdr.IRQ_RAW

/-- An error of a clock's range is flagged with the clock's number, and raised. -/
theorem State.rangeErr_spec (s : State) (k : Fin 2) {i : Nat} (hi : i < 8) :
    (s.rangeErr k.val i).bit (tbBase + Reg.Tb.TB_STAT) i = true ∧
      (s.rangeErr k.val i).bit (tbBase + Reg.Tb.TB_STAT) 8 = decide (k = 1) ∧
      (s.rangeErr k.val i).bit (tbBase + Reg.Hdr.IRQ_RAW) 20 = true ∧ Writes tbFlags s (s.rangeErr k.val i) := by
  have hstat (u : State) (j : Nat) : (u.raise tbBase 20).bit (tbBase + Reg.Tb.TB_STAT) j = u.bit (tbBase + Reg.Tb.TB_STAT) j :=
    congrArg (bitOf · j) ((u.raise_writes tbBase 20).1 _ (by decide))
  refine ⟨?flag, ?clock, State.bit_raise _ _ (by decide), ?writes⟩
  case flag =>
    rw [State.rangeErr, hstat, State.bit_setBit_below _ _ hi (by decide)]
    exact s.bit_setBit_same _ (by omega) _
  case clock =>
    rw [State.rangeErr, hstat, State.bit_setBit_same _ _ (by decide)]
    match k with
    | 0 | 1 => rfl
  case writes =>
    exact (((Writes.refl _ s).wr (by simp [tbFlags]) _).wr (by simp [tbFlags]) _).trans
      ((State.raise_writes _ _ _).mono (by simp [tbFlags]))

/-! ## An accepted write -/

section
variable {s : State} {acc : Access} {addr : Nat} {v : Word} {eff : Access → State → State} {i : Instr} {P : State → Prop}

@[simp] theorem State.taken_time : (s.taken acc addr v).time = s.time := State.taken_eq (·.time) fun _ _ _ _ => rfl

@[simp] theorem State.taken_clk (k : Nat) : (s.taken acc addr v).clk k = s.clk k := State.clk_congr State.taken_time k

/-- An instruction that writes a word which is taken. -/
theorem leads_taken (ht : Takes s acc addr) (hi : exec i s = .next (s.write acc 4 addr v eff))
    (hP : P (eff (s.asSent acc) (s.taken acc addr v))) : Leads i s P :=
  ⟨_, hi, by rwa [write_taken ht]⟩

/-- A write whose effect is to set an adjustable clock. -/
theorem leads_setClk {k : Fin 2} {c : AdjClock} (ht : Takes s acc addr) (hi : exec i s = .next (s.write acc 4 addr v eff))
    (he : eff (s.asSent acc) (s.taken acc addr v) = (s.taken acc addr v).setClk k.val c) :
    Leads i s fun t => t.clk k.val = c ∧ t.clk (1 - k.val) = s.clk (1 - k.val) ∧
      Keeps (fun _ => false) { s with time := t.time } t := by
  refine leads_taken ht hi ?_
  rw [he]
  exact ⟨State.clk_setClk_same _ _ _, by rw [State.clk_setClk_other, State.taken_clk], (s.taken_frame _ _ _ _).setClk _ _⟩

/-- A write whose effect is an error of a clock's range. -/
theorem leads_rangeErr {k : Fin 2} {n : Nat} (hn : n < 8) (ht : Takes s acc addr)
    (hi : exec i s = .next (s.write acc 4 addr v eff))
    (he : eff (s.asSent acc) (s.taken acc addr v) = (s.taken acc addr v).rangeErr k.val n) :
    Leads i s fun t => t.bit (tbBase + Reg.Tb.TB_STAT) n = true ∧ t.bit (tbBase + Reg.Tb.TB_STAT) 8 = decide (k = 1) ∧
      t.bit (tbBase + Reg.Hdr.IRQ_RAW) 20 = true ∧ t.time = s.time ∧ Keeps tbFlags s t := by
  refine leads_taken ht hi ?_
  rw [he]
  obtain ⟨flag, clock, raised, writes⟩ := (s.taken acc addr v).rangeErr_spec k hn
  exact ⟨flag, clock, raised, writes.time.trans State.taken_time, (s.taken_frame _ _ _ _).writes writes⟩

end

end Sys2Proof.Machine
end


section
/-! PROOFS. O16: the INCREMENT of a clock (R68). -/

namespace Sys2Proof.Machine

section
variable {s : State} {k : Nat} {v : Word}

/-- INC_HI with the shadowed INC_LO, as INC_HI is written. -/
def State.incAsked (s : State) (k : Nat) (v : Word) : Nat := bitsOf v 0 12 * 2 ^ 32 + (s.clk k).shadow.toNat

theorem incHiWrite_requests (h : incOk (s.incAsked k v) = true) :
    incHiWrite k v s = s.setClk k { s.clk k with incReq := some (s.incAsked k v) } := if_pos h

theorem incHiWrite_refused (h : incOk (s.incAsked k v) = false) : incHiWrite k v s = s.rangeErr k 0 :=
  if_neg (by simpa [State.incAsked] using h)

theorem State.taken_incAsked {acc : Access} {addr : Nat} {w : Word} : (s.taken acc addr w).incAsked k v = s.incAsked k v := by
  simp only [State.incAsked, State.taken_clk]

theorem incCommit_some {inc : Nat} (h : (s.clk k).incReq = some inc) :
    incCommit k s = s.setClk k { s.clk k with inc := inc, incReq := none } := by
  simp only [incCommit, h]

theorem incCommit_none (h : (s.clk k).incReq = none) : incCommit k s = s := by
  simp only [incCommit, h]

end

end Sys2Proof.Machine

open Sys2Proof Sys2Proof.Machine

/-- Settles O16: INC_LO and INC_HI by what their write makes of the clock, the commit by whether one is requested. -/
theorem increments : Obligations.Increments := by
  unfold Obligations.Increments
  intro s acc k v
  refine ⟨fun ht => ?low, fun ht => ⟨fun hok => ?requested, fun hno => ?refused⟩, fun inc hreq => ?commit, fun hreq => ?idle⟩
  case low =>
    exact leads_setClk ht rfl (by simp only [incLoWrite, State.taken_clk])
  case requested =>
    have hok : incOk (s.incAsked k.val v) = true := decide_eq_true hok
    refine leads_setClk ht rfl ?_
    rw [incHiWrite_requests (by rwa [State.taken_incAsked]), State.taken_incAsked, State.taken_clk]
    rfl
  case refused =>
    have hno : incOk (s.incAsked k.val v) = false := decide_eq_false hno
    obtain ⟨t, run, flag, clock, raised, -, keeps⟩ :=
      leads_rangeErr (i := .incHiWrite acc k v) (k := k) (n := 0) (by decide) ht rfl
        (incHiWrite_refused (by rwa [State.taken_incAsked]))
    exact ⟨t, run, flag, clock, raised, keeps⟩
  case commit =>
    refine ⟨_, rfl, ?_⟩
    rw [incCommit_some hreq]
    exact ⟨State.clk_setClk_same _ _ _, State.clk_setClk_other _ _ _, State.setClk_eq _ _ _⟩
  case idle => exact ⟨_, rfl, incCommit_none hreq⟩
end


section
/-! PROOFS. O18: snapshots of the three clocks, and the capture FIFOs (R75, R90, R93). -/

namespace Sys2Proof.Machine

/-! ## The words of a snapshot -/

/-- A clock stands in four snapshot words (R90). -/
def State.holdsClock (s : State) (key : Nat) (c : Clock) : Prop :=
  s.rd key = word (c.sec / 2 ^ 32) ∧ s.rd (key + 4) = word c.sec ∧ s.rd (key + 8) = word c.ns ∧ s.rd (key + 12) = word c.frac

/-- The words of a clock that begin at a key. -/
def clockWords (key j : Nat) : Bool := decide (key ≤ j ∧ j < key + 16)

theorem State.wr_writes (s : State) (k : Nat) (v : Word) : Writes (· == k) s (s.wr k v) := (Writes.refl _ s).wr (by simp) v

section
variable (s : State) (key : Nat) (c : Clock)

theorem State.snapWords_holds : (s.snapWords key c).holdsClock key c := by
  refine ⟨?_, ?_, ?_, ?_⟩ <;> simp [State.snapWords, State.rd_wr]

theorem State.snapWords_writes : Writes (clockWords key) s (s.snapWords key c) := by
  have hk {d : Nat} (hd : d < 16) : clockWords key (key + d) = true := decide_eq_true ⟨by omega, by omega⟩
  exact ((((Writes.refl _ s).wr (hk (d := 0) (by decide)) _).wr (hk (by decide)) _).wr (hk (by decide)) _).wr (hk (by decide)) _

end

/-- Words that no change writes still hold their clock. -/
theorem Writes.holdsClock {p : Nat → Bool} {s t : State} (h : Writes p s t) {key : Nat} {c : Clock}
    (hp : ∀ d < 16, p (key + d) = false) (hs : s.holdsClock key c) : t.holdsClock key c := by
  unfold State.holdsClock
  rw [h.1 key (hp 0 (by decide)), h.1 _ (hp 4 (by decide)), h.1 _ (hp 8 (by decide)), h.1 _ (hp 12 (by decide))]
  exact hs

/-! ## The latch -/

/-- The three clocks entered in a bank, VALID set. -/
def State.snapBank (s : State) (b : Nat) : State :=
  (((s.snapWords (b + Reg.Tb.SNAP0) s.tb0).snapWords (b + Reg.Tb.SNAP1) s.tb1).snapWords (b + Reg.Tb.SNAPF) s.time.tbf).wrN
    (b + Reg.Tb.SNAP_STAT) 1

/-- The registers of a snapshot in a bank. -/
def snapRegs (b j : Nat) : Bool := decide (b + Reg.Tb.SNAP_STAT ≤ j ∧ j < b + Reg.Tb.SNAPF + 16)

theorem State.snapBank_writes (s : State) (b : Nat) : Writes (snapRegs b) s (s.snapBank b) := by
  have widen {off : Nat} (hlo : 0x4C ≤ off) (hhi : off ≤ 0x70) (j : Nat) (hj : clockWords (b + off) j = true) :
      snapRegs b j = true := by
    rw [clockWords, decide_eq_true_eq] at hj
    rw [snapRegs, decide_eq_true_eq, Reg.Tb.SNAP_STAT, Reg.Tb.SNAPF]
    omega
  exact ((((s.snapWords_writes _ _).mono (widen (by decide) (by decide))).trans
    ((State.snapWords_writes _ _ _).mono (widen (by decide) (by decide)))).trans
    ((State.snapWords_writes _ _ _).mono (widen (by decide) (by decide)))).wr (by simp [snapRegs, Reg.Tb.SNAP_STAT, Reg.Tb.SNAPF]) _

theorem State.snapBank_holds (s : State) (b : Nat) :
    (s.snapBank b).holdsClock (b + Reg.Tb.SNAP0) s.tb0 ∧ (s.snapBank b).holdsClock (b + Reg.Tb.SNAP1) s.tb1 ∧
      (s.snapBank b).holdsClock (b + Reg.Tb.SNAPF) s.time.tbf ∧ (s.snapBank b).rd (b + Reg.Tb.SNAP_STAT) = 1 := by
  have apart {x y d : Nat} (h : x + 16 ≤ y) (hd : d < 16) : clockWords (b + y) (b + x + d) = false :=
    decide_eq_false (by omega)
  have valid (u : State) : Writes (· == b + Reg.Tb.SNAP_STAT) u (u.wrN (b + Reg.Tb.SNAP_STAT) 1) := u.wr_writes _ _
  have notValid {x d : Nat} (h : 0x50 ≤ x) : (b + x + d == b + Reg.Tb.SNAP_STAT) = false :=
    beq_false_of_ne (by unfold Reg.Tb.SNAP_STAT; omega)
  refine ⟨(valid _).holdsClock (fun d _ => notValid (by decide)) ?tb0, (valid _).holdsClock (fun d _ => notValid (by decide)) ?tb1,
    (valid _).holdsClock (fun d _ => notValid (by decide)) (State.snapWords_holds _ _ _), State.rd_wr_same _ _ _⟩
  case tb0 =>
    exact (State.snapWords_writes _ _ _).holdsClock (fun d => apart (by decide))
      ((State.snapWords_writes _ _ _).holdsClock (fun d => apart (by decide)) (State.snapWords_holds _ _ _))
  case tb1 =>
    exact (State.snapWords_writes _ _ _).holdsClock (fun d => apart (by decide)) (State.snapWords_holds _ _ _)

/-! ## Requests -/

/-- The requests of the masters other than `m`. -/
def State.snapOthers (s : State) (m : Master) : List Master := s.time.snapReq.filter (· != m)

/-- The state with the requests for snapshots set. -/
def State.setSnapReq (s : State) (l : List Master) : State := { s with time := { s.time with snapReq := l } }

section
variable {s : State} {m : Master}

/-- VALID falls and the request joins the others, in either order. -/
theorem State.setSnapReq_wr (k : Nat) (v : Word) (l : List Master) : (s.wr k v).setSnapReq l = (s.setSnapReq l).wr k v := rfl

theorem State.snapOthers_wr (k : Nat) (v : Word) : (s.wr k v).snapOthers m = s.snapOthers m := rfl

theorem snapGo_eq (h : s.time.stopped = false) :
    snapGo m s = (s.setSnapReq (m :: s.snapOthers m)).wr (bank m.bankNo (tbBase + Reg.Tb.SNAP_STAT)) 0 := by
  rw [← State.setSnapReq_wr, ← State.snapOthers_wr (bank m.bankNo (tbBase + Reg.Tb.SNAP_STAT)) 0]
  exact if_neg (by rw [State.wr_time, h]; decide)

/-- What GO leaves: the bank's VALID fallen and the request made. -/
theorem snapGo_spec (h : s.time.stopped = false) :
    (snapGo m s).rd (bank m.bankNo (tbBase + Reg.Tb.SNAP_STAT)) = 0 ∧
      (snapGo m s).time = { s.time with snapReq := m :: s.snapOthers m } ∧
      Writes (· == bank m.bankNo (tbBase + Reg.Tb.SNAP_STAT)) (s.setSnapReq (m :: s.snapOthers m)) (snapGo m s) := by
  rw [snapGo_eq h]
  exact ⟨State.rd_wr_same _ _ _, State.wr_time _ _ _, State.wr_writes _ _ _⟩

theorem mem_cons_snapOthers {x : Master} : x ∈ m :: s.snapOthers m ↔ x = m ∨ x ∈ s.time.snapReq := by
  by_cases e : x = m <;> simp [State.snapOthers, e]

theorem snapLatch_requested (hm : m ∈ s.time.snapReq) (h : s.time.stopped = false) :
    snapLatch m s = (s.setSnapReq (s.snapOthers m)).snapBank (bank m.bankNo tbBase) :=
  if_pos (by simp [hm, h])

theorem snapLatch_idle (hm : m ∉ s.time.snapReq) : snapLatch m s = s := if_neg (by simp [hm])

end

/-! ## The capture FIFOs -/

section
variable (s : State) (h : Half) (l : List CapEntry)

theorem State.capFifo_setCapFifo_same : (s.setCapFifo h l).capFifo h = l := by cases h <;> rfl

theorem State.capFifo_setCapFifo_other : (s.setCapFifo h l).capFifo h.other = s.capFifo h.other := by cases h <;> rfl

theorem State.setCapFifo_eq : s.setCapFifo h l = { s with time := (s.setCapFifo h l).time } := by cases h <;> rfl

end

theorem State.capFifo_congr {s t : State} (e : t.time = s.time) (h : Half) : t.capFifo h = s.capFifo h := by
  simp only [State.capFifo, e]

end Sys2Proof.Machine

open Sys2Proof Sys2Proof.Machine

/-- Settles O18: what GO and the latch make of the bank and of the requests, and what POP leaves of either FIFO. -/
theorem snapshots : Obligations.Snapshots := by
  unfold Obligations.Snapshots
  refine ⟨fun s acc ht hrun => ?go, fun s m hm hrun => ?latch, fun s m hm => ⟨_, rfl, snapLatch_idle hm⟩, fun s acc h ht => ?pop⟩
  case go =>
    refine leads_taken ht rfl ?_
    rw [State.asSent_master]
    obtain ⟨invalid, time, writes⟩ := snapGo_spec (s := s.taken acc (tbBase + Reg.Tb.SNAP) 1) (m := acc.master)
      (by rwa [State.taken_time])
    have req : ∀ m, m ∈ (snapGo acc.master (s.taken acc (tbBase + Reg.Tb.SNAP) 1)).time.snapReq ↔
        m = acc.master ∨ m ∈ s.time.snapReq := fun m => by rw [time, mem_cons_snapOthers, State.taken_time]
    refine ⟨invalid, (req _).2 (.inl rfl), fun m hm => (req m).2 (.inr hm), ?_, ?_, ?_⟩
    · rw [State.tb0, time, State.taken_time, State.tb0]
    · rw [State.tb1, time, State.taken_time, State.tb1]
    · rw [writes.time]
      exact ((s.taken_frame _ _ _ _).retime rfl).writes writes
  case latch =>
    intro b word4
    refine ⟨_, rfl, ?_⟩
    rw [snapLatch_requested hm hrun]
    have writes := (s.setSnapReq (s.snapOthers m)).snapBank_writes b
    obtain ⟨tb0, tb1, tbf, valid⟩ := (s.setSnapReq (s.snapOthers m)).snapBank_holds b
    refine ⟨tb0, tb1, tbf, valid, ?_, congrArg (·.clk0.now) writes.time, congrArg (·.clk1.now) writes.time, ?_⟩
    · rw [writes.time]
      simp [State.setSnapReq, State.snapOthers]
    · rw [writes.time]
      exact (Keeps.refl _ _).writes writes
  case pop =>
    refine leads_taken ht rfl ⟨?_, ?_, (s.taken_frame _ acc _ 1).retime (State.setCapFifo_eq _ _ _)⟩
    · rw [capPop, State.capFifo_setCapFifo_same, State.capFifo_congr State.taken_time]
    · rw [capPop, State.capFifo_setCapFifo_other, State.capFifo_congr State.taken_time]
end


section
/-! PROOFS. A change of the phase domains leaves the clocks as they are, and so does what it makes of the events (R95, R99, R109,
R114, R126, R128). -/

namespace Sys2Proof.Machine

/-! ## Moving a domain and its children -/

/-- From `s` to `t` the clocks stand, and of the registers only interrupt flags change. -/
def DomainsMove (s t : State) : Prop := t.time = s.time ∧ ∀ k, k % 0x1000 ≠ Reg.Hdr.IRQ_RAW → t.rd k = s.rd k

section
variable {s t u : State}

theorem DomainsMove.refl (s : State) : DomainsMove s s := ⟨rfl, fun _ _ => rfl⟩

theorem DomainsMove.trans (h : DomainsMove s t) (h' : DomainsMove t u) : DomainsMove s u :=
  ⟨h'.1.trans h.1, fun k hk => (h'.2 k hk).trans (h.2 k hk)⟩

theorem DomainsMove.onlyIf {c : Bool} {f : State → State} (h : DomainsMove s t) (hf : DomainsMove t (f t)) :
    DomainsMove s (t.onlyIf c f) := State.onlyIf_ind h fun _ => h.trans hf

theorem DomainsMove.ite {c : Prop} [Decidable c] (ht : DomainsMove s t) (hu : DomainsMove s u) :
    DomainsMove s (if c then t else u) := by
  split <;> assumption

theorem DomainsMove.foldl {α : Type} {l : List α} {f : State → α → State} (h : ∀ u x, DomainsMove u (f u x)) (s : State) :
    DomainsMove s (l.foldl f s) := by
  induction l generalizing s with
  | nil => exact .refl s
  | cons x l ih => exact (h s x).trans (ih (f s x))

end

theorem domBase_mod (d : Nat) : domBase d % 0x1000 = 0 := by unfold domBase; omega

section
variable (s : State) (d : Nat)

theorem State.setDom_moves (m : Dom) : DomainsMove s (s.setDom d m) := ⟨rfl, fun _ _ => rfl⟩

theorem State.raise_moves (i : Nat) : DomainsMove s (s.raise (domBase d) i) := by
  have writes := s.raise_writes (domBase d) i
  refine ⟨writes.time, fun k hk => writes.1 k (beq_false_of_ne ?_)⟩
  rintro rfl
  exact hk (by rw [Nat.add_mod, domBase_mod]; rfl)

theorem State.distNow_moves (source id : Nat) (w5 w6 w7 : Word) : DomainsMove s (s.distNow source id w5 w6 w7) :=
  .ite ⟨rfl, fun _ _ => rfl⟩ (.refl s)

theorem State.enter_moves (st : DomState) : DomainsMove s (s.enter d st) := by
  unfold State.enter
  exact ((s.setDom_moves _ _).onlyIf (State.raise_moves _ _ _)).onlyIf (State.distNow_moves _ _ _ _ _ _)

theorem State.childStep_moves (parent : Nat) (k : ChildStep) : DomainsMove s (s.childStep parent k d).1 := by
  unfold State.childStep
  cases k <;> exact (State.setDom_moves _ _ _).trans (State.enter_moves _ _ _)

theorem State.carry_moves (fuel : Nat) (k : ChildStep) : DomainsMove s (s.carry fuel d k) := by
  induction fuel generalizing s d k with
  | zero => exact .refl s
  | succ fuel ih => exact .foldl (fun u c => (u.childStep_moves c d k).trans (ih _ _ _)) s

/-- A domain's record set, and the change carried to its children. -/
theorem State.setDom_carry_moves (m : Dom) (fuel : Nat) (k : ChildStep) : DomainsMove s ((s.setDom d m).carry fuel d k) :=
  (s.setDom_moves d m).trans (State.carry_moves _ _ _ _)

theorem State.beforeEpoch_moves : DomainsMove s (s.beforeEpoch d) :=
  ((s.setDom_moves _ _).trans (State.enter_moves _ _ _)).trans (State.carry_moves _ _ _ _)

/-! ## The tick of a domain -/

theorem State.tickIdeal_moves : DomainsMove s (s.tickIdeal d) := by
  unfold State.tickIdeal
  exact .ite (s.setDom_carry_moves _ _ _ _) (s.beforeEpoch_moves d)

theorem State.tickInterp_moves (inc0 : Nat) : DomainsMove s (s.tickInterp d inc0) := by
  unfold State.tickInterp
  dsimp only
  split
  · exact .ite (s.setDom_carry_moves _ _ _ _) (s.setDom_carry_moves _ _ _ _)
  · exact s.setDom_carry_moves _ _ _ _

theorem State.tickLag_moves (inc0 : Nat) : DomainsMove s (s.tickLag d inc0) := by
  unfold State.tickLag
  dsimp only
  split
  · exact .ite (s.setDom_carry_moves _ _ _ _) (s.setDom_moves _ _)
  · exact s.tickInterp_moves d inc0

theorem State.tickLocked_moves (inc inc0 : Nat) : DomainsMove s (s.tickLocked d inc inc0) := s.setDom_carry_moves _ _ _ _

theorem State.tickDom_moves (inc0 inc1 incF : Nat) : DomainsMove s (s.tickDom inc0 inc1 incF d) := by
  unfold State.tickDom
  refine .ite (.refl s) ?_
  split
  · exact .ite (s.tickIdeal_moves d) (.ite (s.tickLocked_moves _ _ _) (s.tickLocked_moves _ _ _))
  · exact s.tickInterp_moves d inc0
  · exact s.tickLag_moves d inc0
  · exact .refl s

end

/-! ## What re-anchoring makes of the events -/

/-- From `s` to `t` the time base stands. -/
def TimeStands (s t : State) : Prop := t.time = s.time

section
variable {s t u : State} {c : Bool} {f : State → State} {k v i d : Nat} {b : Bool}

theorem TimeStands.refl (s : State) : TimeStands s s := rfl

theorem TimeStands.trans (h : TimeStands s t) (h' : TimeStands t u) : TimeStands s u := Eq.trans h' h

theorem Writes.timeStands {p : Nat → Bool} (h : Writes p s t) : TimeStands s t := h.time

theorem TimeStands.onlyIf (h : TimeStands s t) (hf : ∀ u, TimeStands u (f u)) : TimeStands s (t.onlyIf c f) :=
  State.onlyIf_ind h fun _ => h.trans (hf t)

theorem TimeStands.ite {c : Prop} [Decidable c] (ht : TimeStands s t) (hu : TimeStands s u) :
    TimeStands s (if c then t else u) := by
  split <;> assumption

theorem TimeStands.each {α : Type} {l : List α} {f : State → α → State} (h : TimeStands s t) (hf : ∀ u x, TimeStands u (f u x)) :
    TimeStands s (t.each l f) := State.each_ind h fun x _ u hu => hu.trans (hf u x)

variable (h : TimeStands s t)
include h

theorem TimeStands.wr {v : Word} : TimeStands s (t.wr k v) := h

theorem TimeStands.count : TimeStands s (t.count k) := h.trans (t.count_writes k).timeStands

theorem TimeStands.raise {base : Nat} : TimeStands s (t.raise base i) := h.trans (t.raise_writes base i).timeStands

theorem TimeStands.ev {code inst : Nat} : TimeStands s (t.ev code inst) := h.trans (t.ev_writes code inst).timeStands

theorem TimeStands.setDom {m : Dom} : TimeStands s (t.setDom d m) := h

theorem TimeStands.carry {fuel : Nat} {k : ChildStep} : TimeStands s (t.carry fuel d k) := h.trans (t.carry_moves d fuel k).1

theorem TimeStands.bind : TimeStands s (t.bind i) := by
  unfold State.bind
  exact .ite h h.wr

theorem TimeStands.setFlag {off : Nat} : TimeStands s (t.setFlag off i b) := h.wr

theorem TimeStands.advance : TimeStands s (t.advance i) := by
  unfold State.advance
  exact .ite h.wr h.wr

theorem TimeStands.afterAct : TimeStands s (t.afterAct i b) := by
  unfold State.afterAct
  exact .ite (h.onlyIf fun u => (TimeStands.refl u).bind) h.advance

/-- An occurrence handed over for execution after a free instant is taken. -/
theorem TimeStands.freshPlaced {lo hi : Nat} {l : List Placed} :
    TimeStands s { (t.freshIn lo hi).2 with placed := l } := h

theorem TimeStands.lateWith {w1 w3 : Word} {proj : Option Nat} : TimeStands s (t.lateWith i w1 w3 b proj) := by
  unfold State.lateWith
  exact have flagged : TimeStands s _ := h.setFlag.count.ev.wr.raise.onlyIf fun u => (TimeStands.refl u).wr
    .ite flagged.count.raise.ev.afterAct flagged.freshPlaced

theorem TimeStands.goLate {proj : Option Nat} : TimeStands s (t.goLate i proj) := h.lateWith

theorem TimeStands.overtake {oldX newX : Nat} : TimeStands s (t.overtake d oldX newX b) := by
  unfold State.overtake
  exact (h.each fun u _ => (TimeStands.refl u).goLate).raise.ev

theorem TimeStands.overtakeSlots {oldX newX : Nat} : TimeStands s (t.overtakeSlots oldX newX) :=
  h.each fun u _ => (TimeStands.refl u).goLate

theorem TimeStands.placed {l : List Placed} : TimeStands s { t with placed := l } := h

theorem TimeStands.stepPlaced {oldNs newNs : Nat} : TimeStands s (t.stepPlaced oldNs newNs) := by
  unfold State.stepPlaced
  exact h.placed.each fun u _ => (TimeStands.refl u).setFlag.lateWith

theorem TimeStands.jump {oldX newX : Nat} : TimeStands s (t.jump d oldX newX b) := by
  unfold State.jump
  exact h.overtake.carry.each fun u _ => (TimeStands.refl u).onlyIf fun u => (TimeStands.refl u).overtake

theorem TimeStands.stepIdeal : TimeStands s (t.stepIdeal d b) := by
  unfold State.stepIdeal
  exact .ite h (.ite (h.trans (t.beforeEpoch_moves d).1) (.ite h.setDom.jump h.setDom.carry))

theorem TimeStands.stepResid {amount : Int} : TimeStands s (t.stepResid amount d) := by
  unfold State.stepResid
  exact .ite h.setDom h

end

end Sys2Proof.Machine
end


section
/-! PROOFS. O17: slews and one-shot offsets of a clock (R69, R70). -/

namespace Sys2Proof.Machine

/-! ## Slews -/

section
variable {s : State} {k : Nat}

/-- The slew of a clock is over: nothing remains, and neither a GO nor a CANCEL waits for the next tick (R69). -/
def AdjClock.slewOver (c : AdjClock) : Bool := c.slewing && !c.slews && !c.slewOff

theorem AdjClock.slewOver_iff {c : AdjClock} :
    c.slewOver = true ↔ c.slewing = true ∧ c.slew = 0 ∧ c.slewNew = false ∧ c.slewOff = false := by
  obtain ⟨_, _, _, _, slew, _ | _, _ | _, _ | _, _, _⟩ := c <;> simp [AdjClock.slewOver, AdjClock.slews]

theorem slewDone_over (h : (s.clk k).slewOver = true) :
    slewDone k s = (s.setClk k { s.clk k with slewing := false }).raise tbBase (16 + k) := if_pos h

theorem slewDone_idle (h : (s.clk k).slewOver = false) : slewDone k s = s := if_neg (by simpa [AdjClock.slewOver] using h)

end

/-! ## One-shot offsets -/

section
variable {s : State} {k : Nat} {o : OfsReq}

/-- The offset the registers of a clock name. -/
def State.ofsNamed (s : State) (k : Nat) : OfsReq :=
  ⟨signedOf 48 (s.fld (clkReg k Reg.Clk.OFS_SEC_HI) 0 16 * 2 ^ 32 + s.rdN (clkReg k Reg.Clk.OFS_SEC_LO)),
    s.fld (clkReg k Reg.Clk.OFS_NS) 0 30, s.fld (clkReg k Reg.Clk.OFS_FRAC) 0 16⟩

theorem ofsGo_none (h : (s.clk k).ofsReq = none) : ofsGo k s = s.setClk k { s.clk k with ofsReq := some (s.ofsNamed k) } := by
  simp only [ofsGo, h]
  rfl

theorem ofsGo_some (h : (s.clk k).ofsReq = some o) : ofsGo k s = s.rangeErr k 2 := by simp only [ofsGo, h]

theorem clkReg_mod {off : Nat} (ho : off < 0x1000) : clkReg k off % 0x1000 = off := by
  unfold clkReg clkBase
  omega

/-- The registers of a clock stand through what a write hands on. -/
theorem State.taken_rd_clk {acc : Access} {addr off : Nat} {v : Word} (ho : off < 0x80) :
    (s.taken acc addr v).rd (clkReg k off) = s.rd (clkReg k off) :=
  State.taken_rd (by rw [clkReg_mod (by omega)]; unfold Reg.Local.CMP_WRITES; omega)

theorem State.taken_ofsNamed {acc : Access} {addr : Nat} {v : Word} : (s.taken acc addr v).ofsNamed k = s.ofsNamed k := by
  simp only [State.ofsNamed, State.fld, State.rdN, State.taken_rd_clk (off := Reg.Clk.OFS_SEC_HI) (by decide),
    State.taken_rd_clk (off := Reg.Clk.OFS_SEC_LO) (by decide), State.taken_rd_clk (off := Reg.Clk.OFS_NS) (by decide),
    State.taken_rd_clk (off := Reg.Clk.OFS_FRAC) (by decide)]

/-- A clock without the offset that was due. -/
def AdjClock.offsetDropped (c : AdjClock) : AdjClock := { c with ofsReq := none }

/-- A clock stepped by the offset that was due (R70). -/
def AdjClock.stepped (c : AdjClock) (o : OfsReq) : AdjClock :=
  { c with ofsReq := none, now := Clock.ofTotal ((c.now.total : Int) + o.amount).toNat }

theorem OfsReq.ok_iff {c : Clock} : o.ok c = true ↔ o.ns < 1000000000 ∧ 0 ≤ (c.total : Int) + o.amount := decide_eq_true_iff

theorem offsetClock_refused (h : (s.clk k).ofsReq = some o) (hok : o.ok (s.clk k).now = false) :
    offsetClock k s = ((s.setClk k (s.clk k).offsetDropped).rangeErr k 1, 0) := by
  simp only [offsetClock, h, hok]
  rfl

theorem State.secWrap_writes (s : State) : Writes tbFlags s s.secWrap :=
  ((Writes.refl _ s).wr (by simp [tbFlags]) _).trans ((State.raise_writes _ _ _).mono (by simp [tbFlags]))

theorem offsetClock_applied (h : (s.clk k).ofsReq = some o) (hok : o.ok (s.clk k).now = true) :
    TimeStands (s.setClk k ((s.clk k).stepped o)) (offsetClock k s).1 := by
  simp only [offsetClock, h, hok, if_true, State.setClk_setClk]
  exact (TimeStands.refl _).onlyIf fun u => u.secWrap_writes.timeStands

/-- What follows the step of a clock is the domains' and the events' only. -/
theorem offsetApply_stands : TimeStands (offsetClock k s).1 (offsetApply k s) := by
  have h := TimeStands.refl (offsetClock k s).1
  unfold offsetApply
  exact .ite h (.ite ((h.onlyIf fun u => (TimeStands.refl u).stepPlaced.overtakeSlots).each fun u _ => (TimeStands.refl u).stepIdeal)
    (h.each fun u _ => (TimeStands.refl u).stepResid))

theorem offsetApply_of_no_step (h : (offsetClock k s).2 = 0) : offsetApply k s = (offsetClock k s).1 := if_pos h

end

end Sys2Proof.Machine

open Sys2Proof Sys2Proof.Machine

/-- Settles O17: GO and CANCEL by what their write makes of the clock, the end of a slew and an offset due by what the clock
holds; the domains and events an offset acts on leave the clocks as it stepped them (`offsetApply_stands`). -/
theorem slewsAndOffsets : Obligations.SlewsAndOffsets := by
  unfold Obligations.SlewsAndOffsets
  refine ⟨fun s acc k => ⟨fun ht => ⟨?go, ?cancel⟩, fun hs h0 hn ho => ?ends, fun h => ?goesOn⟩,
    fun s acc k => ⟨fun ht => ⟨fun hreq => ?taken, fun o hreq => ?busy⟩, fun o hreq => ?due⟩⟩
  case go =>
    refine leads_setClk ht rfl ?_
    rw [slewGo, State.taken_clk, State.rdI, State.rdN, State.taken_rd_clk (by decide)]
    rfl
  case cancel => exact leads_setClk ht rfl (by rw [slewCancel, State.taken_clk])
  case ends =>
    refine ⟨_, rfl, ?_⟩
    rw [slewDone_over (AdjClock.slewOver_iff.2 ⟨hs, h0, hn, ho⟩)]
    have writes := (s.setClk k.val { s.clk k.val with slewing := false }).raise_writes tbBase (16 + k.val)
    refine ⟨?_, ?_, State.bit_raise _ _ (by omega), ?_⟩
    · exact (State.clk_congr writes.time _).trans (State.clk_setClk_same _ _ _)
    · exact (State.clk_congr writes.time _).trans (State.clk_setClk_other _ _ _)
    · rw [writes.time]
      exact ((Keeps.refl _ s).setClk _ _).writes writes
  case goesOn =>
    refine ⟨_, rfl, slewDone_idle (Bool.eq_false_iff.2 fun hc => ?_)⟩
    obtain ⟨hs, h0, hn, ho⟩ := AdjClock.slewOver_iff.1 hc
    simp [hs, h0, hn, ho] at h
  case taken =>
    obtain ⟨t, run, clock, -, keeps⟩ := leads_setClk (i := .ofsGo acc k) (k := k) ht rfl (ofsGo_none (by rwa [State.taken_clk]))
    rw [State.taken_ofsNamed, State.taken_clk] at clock
    exact ⟨t, run, ⟨s.ofsNamed k.val, by rw [clock], rfl, rfl, rfl⟩, by rw [clock], keeps⟩
  case busy =>
    obtain ⟨t, run, flag, -, -, time, keeps⟩ :=
      leads_rangeErr (i := .ofsGo acc k) (k := k) (by decide) ht rfl (ofsGo_some (by rwa [State.taken_clk]))
    exact ⟨t, run, flag, time, keeps⟩
  case due =>
    intro c offset
    refine ⟨fun hns hpos => ⟨_, rfl, ?_⟩, fun hno => ⟨_, rfl, ?_⟩⟩
    · have time := (offsetClock_applied hreq (OfsReq.ok_iff.2 ⟨hns, hpos⟩)).trans offsetApply_stands
      exact ⟨(State.clk_congr time _).trans (State.clk_setClk_same _ _ _),
        (State.clk_congr time _).trans (State.clk_setClk_other _ _ _)⟩
    · have hok : o.ok (s.clk k.val).now = false := Bool.eq_false_iff.2 fun h => by
        obtain ⟨hns, hpos⟩ := OfsReq.ok_iff.1 h
        exact hno.elim (Nat.not_le.2 hns) (Int.not_lt.2 hpos)
      have refused := offsetClock_refused hreq hok
      obtain ⟨flag, -, raised, writes⟩ := (s.setClk k.val (s.clk k.val).offsetDropped).rangeErr_spec k (i := 1) (by decide)
      rw [offsetApply_of_no_step (by rw [refused]), refused]
      refine ⟨?_, flag, raised, ?_⟩
      · exact (State.clk_congr writes.time _).trans (State.clk_setClk_same _ _ _)
      · rw [writes.time]
        exact ((Keeps.refl _ s).setClk _ _).writes writes
end


section
/-! PROOFS. O15: a tick of the clocks (R66, R67, R69, R74, R76). -/

namespace Sys2Proof.Machine

/-! ## What a tick adds -/

/-- What a tick moves of a clock's slew: at most one SLEW_STEP, towards nothing left (R67). -/
def AdjClock.slewBy (c : AdjClock) (step : Nat) : Int :=
  if 0 < c.slewNow then min (step : Int) c.slewNow else if c.slewNow < 0 then -min (step : Int) (-c.slewNow) else 0

theorem AdjClock.tickBy_eq (c : AdjClock) (step : Nat) :
    c.tickBy step = (((c.inc : Int) + c.slewBy step).toNat, c.slewNow - c.slewBy step) := by
  unfold AdjClock.tickBy AdjClock.slewBy
  dsimp only
  split
  · ext <;> dsimp only
    omega
  split
  · ext <;> dsimp only <;> omega
  · have : c.slewNow = 0 := by omega
    simp [this]

/-- A clock's whole count after a tick. -/
def State.clkTotal (s : State) (k : Nat) : Nat := (s.clk k).now.total + ((s.clk k).tickBy (s.slewStep k)).1

/-- A clock after a tick. -/
def State.clkNext (s : State) (k : Nat) : AdjClock :=
  let c := s.clk k
  let left := (c.tickBy (s.slewStep k)).2
  { c with
    now := Clock.ofTotal (s.clkTotal k)
    slew := left
    slewing := c.slewing && !c.slewOff
    slewNew := false
    slewOff := false
    slewOn := c.slewing && !c.slewOff && left != 0 }

theorem State.clkTotal_eq (s : State) (k : Nat) :
    s.clkTotal k = (s.clk k).now.total + (((s.clk k).inc : Int) + (s.clk k).slewBy (s.slewStep k)).toNat := by
  rw [State.clkTotal, AdjClock.tickBy_eq]

theorem State.clkNext_eq (s : State) (k : Nat) :
    s.clkNext k =
      { s.clk k with
        now := Clock.ofTotal (s.clkTotal k)
        slew := (s.clk k).slewNow - (s.clk k).slewBy (s.slewStep k)
        slewing := (s.clk k).slewing && !(s.clk k).slewOff
        slewNew := false
        slewOff := false
        slewOn := (s.clk k).slewing && !(s.clk k).slewOff &&
          (s.clk k).slewNow - (s.clk k).slewBy (s.slewStep k) != 0 } := by
  rw [State.clkNext, AdjClock.tickBy_eq]

/-- TBF's whole count after a tick, by the nominal INCREMENT (R66). -/
def State.tbfTotal (s : State) : Nat := s.time.tbf.total + 0x1999999999A

theorem Clock.ofTotal_ns_lt (t : Nat) : (Clock.ofTotal t).ns < 1000000000 := Nat.mod_lt _ (by decide)

/-! ## SEC_WRAP and the counted events -/

/-- SEC_WRAP of TB_STAT. -/
def State.wrapped (s : State) : Prop := s.bit (tbBase + Reg.Tb.TB_STAT) 3 = true

/-- From `s` to `t` flags of the time base and event counters change, and SEC_WRAP does not fall. -/
def TimeFlags (s t : State) : Prop := Writes (fun j => tbFlags j || counterReg j) s t ∧ (s.wrapped → t.wrapped)

section
variable {s t u : State}

theorem TimeFlags.refl (s : State) : TimeFlags s s := ⟨Writes.refl _ s, id⟩

theorem TimeFlags.trans (h : TimeFlags s t) (h' : TimeFlags t u) : TimeFlags s u := ⟨h.1.trans h'.1, h'.2 ∘ h.2⟩

theorem TimeFlags.onlyIf (h : TimeFlags s t) {c : Bool} {f : State → State} (hf : TimeFlags t (f t)) : TimeFlags s (t.onlyIf c f) :=
  State.onlyIf_ind h fun _ => h.trans hf

/-- Registers of a clock's page stand. -/
theorem TimeFlags.slewStep (h : TimeFlags s t) {k : Nat} (hk : k < 2) : t.slewStep k = s.slewStep k := by
  have hrd : t.rd (clkReg k Reg.Clk.SLEW_STEP) = s.rd (clkReg k Reg.Clk.SLEW_STEP) := by
    refine h.1.1 _ ?_
    obtain rfl | rfl : k = 0 ∨ k = 1 := by omega
    all_goals decide
  rw [State.slewStep, State.slewStep, State.fld, State.fld, hrd]

end

theorem State.secWrap_wrapped (s : State) : s.secWrap.wrapped := by
  have hraise := ((s.setBit (tbBase + Reg.Tb.TB_STAT) 3 true).raise_writes tbBase 19).1 (tbBase + Reg.Tb.TB_STAT) (by decide)
  rw [State.wrapped, State.secWrap, State.bit, hraise]
  exact s.bit_setBit_same _ (by decide) _

theorem State.secWrap_flags (s : State) : TimeFlags s s.secWrap :=
  ⟨s.secWrap_writes.mono fun _ hj => by rw [hj, Bool.true_or], fun _ => s.secWrap_wrapped⟩

theorem State.ev_flags (s : State) (code inst : Nat) : TimeFlags s (s.ev code inst) := by
  have writes := s.ev_writes code inst
  refine ⟨writes.mono fun _ hj => by rw [hj, Bool.or_true], fun h => ?_⟩
  rw [State.wrapped, State.bit, writes.1 _ (by decide)]
  exact h

/-- A clock that comes to `t` sets SEC_WRAP past its range; then an event may be counted. -/
def State.passed (s : State) (t : Nat) (c : Bool) (code : Nat) : State :=
  (s.onlyIf (decide (clockRange ≤ t)) (·.secWrap)).onlyIf c (·.ev code 0)

section
variable (s : State) (t : Nat) (c : Bool) (code : Nat)

theorem State.passed_flags : TimeFlags s (s.passed t c code) := ((TimeFlags.refl s).onlyIf s.secWrap_flags).onlyIf (State.ev_flags _ _ _)

theorem State.passed_wrapped (h : clockRange ≤ t) : (s.passed t c code).wrapped := by
  unfold State.passed
  rw [decide_eq_true h, State.onlyIf_true]
  exact ((TimeFlags.refl _).onlyIf (State.ev_flags _ _ _)).2 s.secWrap_wrapped

end

/-! ## The clocks one after another -/

section
variable (s : State)

/-- A clock's tick is its step, and what passing the ends of a second and of its range leaves. -/
theorem State.tickClk_eq (k : Nat) : ∃ c, s.tickClk k = (s.setClk k (s.clkNext k)).passed (s.clkTotal k) c 0xF1 :=
  ⟨_, rfl⟩

theorem State.tickTbf_eq : ∃ c, s.tickTbf =
    { s with time := { s.time with tbf := Clock.ofTotal s.tbfTotal } }.passed s.tbfTotal c 0xF0 := ⟨_, rfl⟩

theorem State.tickClk_flags (k : Nat) : TimeFlags (s.setClk k (s.clkNext k)) (s.tickClk k) := by
  obtain ⟨c, h⟩ := s.tickClk_eq k
  rw [h]
  exact State.passed_flags _ _ _ _

theorem State.tickClk_wraps {k : Nat} (h : clockRange ≤ s.clkTotal k) : (s.tickClk k).wrapped := by
  obtain ⟨c, e⟩ := s.tickClk_eq k
  rw [e]
  exact State.passed_wrapped _ _ _ _ h

theorem State.tickTbf_flags : TimeFlags { s with time := { s.time with tbf := Clock.ofTotal s.tbfTotal } } s.tickTbf := by
  obtain ⟨c, h⟩ := s.tickTbf_eq
  rw [h]
  exact State.passed_flags _ _ _ _

theorem State.wrapped_retime {τ : TimeSt} (h : s.wrapped) : State.wrapped { s with time := τ } := h

theorem State.wrapped_setClk {k : Nat} {c : AdjClock} (h : s.wrapped) : (s.setClk k c).wrapped := by
  rw [s.setClk_eq]
  exact s.wrapped_retime h

/-- A clock's tick reads the clock and its SLEW_STEP only. -/
theorem State.clkNext_congr {s t : State} {k : Nat} (hc : t.clk k = s.clk k) (hs : t.slewStep k = s.slewStep k) :
    t.clkNext k = s.clkNext k ∧ t.clkTotal k = s.clkTotal k := by
  simp only [State.clkNext, State.clkTotal, hc, hs, and_self]

/-- TB1 ticks as it would alone. -/
theorem State.clkNext_tickClk : (s.tickClk 0).clkNext 1 = s.clkNext 1 ∧ (s.tickClk 0).clkTotal 1 = s.clkTotal 1 := by
  refine State.clkNext_congr ?_ ?_
  · exact (State.clk_congr (s.tickClk_flags 0).1.time 1).trans (State.clk_setClk_other _ _ 0)
  · rw [(s.tickClk_flags 0).slewStep (by decide)]
    simp [State.slewStep, State.fld]

theorem State.clkNext_keepTick (k : Nat) : s.keepTick.clkNext k = s.clkNext k ∧ s.keepTick.clkTotal k = s.clkTotal k :=
  State.clkNext_congr rfl rfl

theorem State.time_setClk_zero (c : AdjClock) : (s.setClk 0 c).time = { s.time with clk0 := c } := rfl

theorem State.time_setClk_one (c : AdjClock) : (s.setClk 1 c).time = { s.time with clk1 := c } := rfl

theorem State.keepTick_time : s.keepTick.time =
    { s.time with hist := (⟨s.tb0, (s.clk 0).inc, s.tb1, (s.clk 1).inc⟩ :: s.time.hist).take histLen } := rfl

theorem State.tickTbf_time : s.tickTbf.time = { s.time with tbf := Clock.ofTotal s.tbfTotal } := s.tickTbf_flags.1.time

/-- The time base after a tick. -/
def State.timeNext (s : State) : TimeSt :=
  { s.time with
    clk0 := s.clkNext 0
    clk1 := s.clkNext 1
    tbf := Clock.ofTotal s.tbfTotal
    hist := (⟨s.tb0, (s.clk 0).inc, s.tb1, (s.clk 1).inc⟩ :: s.time.hist).take histLen }

variable {s} (h : s.time.stopped = false)
include h

theorem State.tickClocks_running : s.tickClocks = ((s.keepTick.tickClk 0).tickClk 1).tickTbf := if_neg (by simp [h])

theorem State.tickClocks_time : s.tickClocks.time = s.timeNext := by
  rw [State.tickClocks_running h, State.tickTbf_time, State.tbfTotal, (State.tickClk_flags _ 1).1.time, State.time_setClk_one,
    (State.clkNext_tickClk _).1, (State.clkNext_keepTick _ _).1, (State.tickClk_flags _ 0).1.time, State.time_setClk_zero,
    (State.clkNext_keepTick _ _).1, State.keepTick_time]
  rfl

theorem State.tickClocks_wraps {k : Nat} (hk : k = 0 ∨ k = 1) (ht : clockRange ≤ s.clkTotal k) : s.tickClocks.wrapped := by
  rw [State.tickClocks_running h]
  refine (State.tickTbf_flags _).2 (State.wrapped_retime _ ?_)
  rcases hk with rfl | rfl
  · exact (State.tickClk_flags _ _).2 (State.wrapped_setClk _ (State.tickClk_wraps _ (by rwa [(State.clkNext_keepTick _ _).2])))
  · exact State.tickClk_wraps _ (by rwa [(State.clkNext_tickClk _).2, (State.clkNext_keepTick _ _).2])

end

/-! ## The tick of the block -/

section
variable {s : State} (h : s.time.stopped = false)
include h

/-- After the clocks the domains move. -/
theorem clockTick_moves : DomainsMove { s with gateActs := [] }.tickClocks (clockTick s) := by
  unfold clockTick
  rw [if_neg (by simp [h])]
  exact .foldl (fun u d => u.tickDom_moves d _ _ _) _

theorem clockTick_time : (clockTick s).time = s.timeNext := (clockTick_moves h).1.trans (State.tickClocks_time h)

theorem clockTick_wraps {k : Nat} (hk : k = 0 ∨ k = 1) (ht : clockRange ≤ s.clkTotal k) :
    (clockTick s).bit (tbBase + Reg.Tb.TB_STAT) 3 = true := by
  rw [State.bit, (clockTick_moves h).2 _ (by decide)]
  exact State.tickClocks_wraps (s := { s with gateActs := [] }) h hk ht

end

end Sys2Proof.Machine

open Sys2Proof Sys2Proof.Machine

/-- Settles O15: the time base after a tick is `State.timeNext`, which the domains' tick leaves alone, and so is SEC_WRAP. -/
theorem tickAdvancesClocks : Obligations.TickAdvancesClocks := by
  unfold Obligations.TickAdvancesClocks
  refine fun s => ⟨fun hstop => ⟨_, rfl, if_pos hstop⟩, fun hrun => ⟨_, rfl, fun k hk => ?clock, ?edge, ?tbf⟩⟩
  case clock =>
    intro c step r d total
    have hk : k = 0 ∨ k = 1 := by simpa using hk
    have hclk : (clockTick s).clk k = s.clkNext k := by
      rw [State.clk, clockTick_time hrun]
      rcases hk with rfl | rfl <;> rfl
    refine ⟨?_, ?_, fun ht => clockTick_wraps hrun hk (by rwa [State.clkTotal_eq])⟩
    · rw [hclk, State.clkNext_eq, State.clkTotal_eq]
      rfl
    rw [hclk]
    exact Clock.ofTotal_ns_lt _
  case edge =>
    rw [clockTick_time hrun]
    rfl
  case tbf =>
    rw [clockTick_time hrun]
    rfl
end

section
/-! PROOFS. The entries of the event table: their keys, and what arming, binding, flagging and finding an event LATE write (R115,
R121 to R126, R150). -/

namespace Sys2Proof.Machine

/-! ## Keys -/

/-- A register of the event table's pages. -/
def evtReg (k : Nat) : Bool := decide (evtBase 0 ≤ k ∧ k < evtBase 32)

theorem evtReg_page {i off : Nat} (hi : i < 4096) (ho : off < 0x1000) : evtReg (evtBase (i / 128) + off) = true := by
  rw [evtReg, decide_eq_true_eq]
  unfold evtBase
  omega

theorem evtReg_word {i j : Nat} (hi : i < 4096) (hj : j < 4) : evtReg (evtWord i j) = true := by
  unfold evtWord
  rw [Nat.add_assoc, Nat.add_assoc]
  exact evtReg_page hi (by unfold Reg.Evt.ENTRY; omega)

/-- Key of the word of a flag array that holds an event's bit. -/
def flagKey (off i : Nat) : Nat := evtBase (i / 128) + off + 4 * (i % 128 / 32)

theorem evtReg_flag {i off : Nat} (hi : i < 4096) (ho : off < 0x800) : evtReg (flagKey off i) = true := by
  unfold flagKey
  rw [Nat.add_assoc]
  exact evtReg_page hi (by omega)

theorem evtWord_ne {i i' j j' : Nat} (hj : j < 4) (hj' : j' < 4) (h : i ≠ i' ∨ j ≠ j') : evtWord i j ≠ evtWord i' j' := by
  unfold evtWord evtBase
  omega

/-- The flag arrays of a page lie before its entries. -/
theorem evtWord_ne_flagKey {i i' j off : Nat} (hj : j < 4) (ho : off < 0x7F0) : evtWord i j ≠ flagKey off i' := by
  unfold evtWord flagKey evtBase Reg.Evt.ENTRY
  omega

theorem evtWord_mod {i j : Nat} (hj : j < 4) : 0x800 ≤ evtWord i j % 0x1000 := by
  unfold evtWord evtBase Reg.Evt.ENTRY
  omega

/-- The events counters' banks hold no register of the event table, nor of HRN, TPO or the domains. -/
theorem counterReg_low {k : Nat} (h : k < 0x40D00000) : counterReg k = false := by
  rw [counterReg, decide_eq_false_iff_not]
  unfold ecBase
  omega

theorem counterReg_evtReg {k : Nat} (h : evtReg k = true) : counterReg k = false := by
  rw [evtReg, decide_eq_true_eq] at h
  unfold evtBase at h
  exact counterReg_low (by omega)

theorem counterReg_hrn {off : Nat} (ho : off < 0x1000) : counterReg (hrnBase + off) = false :=
  counterReg_low (by unfold hrnBase; omega)

theorem evtReg_hrn {off : Nat} (ho : off < 0x1000) : evtReg (hrnBase + off) = false := by
  rw [evtReg, decide_eq_false_iff_not]
  unfold evtBase hrnBase
  omega

/-- HRN's registers are none of the event table's. -/
theorem hrn_ne_evtReg {k off : Nat} (hk : evtReg k = true) (ho : off < 0x1000) : hrnBase + off ≠ k := by
  rintro rfl
  simp [evtReg_hrn ho] at hk

/-- An event the table lists as armed has an entry. -/
theorem State.mem_armed_lt {s : State} {i : Nat} (h : i ∈ s.armed) : i < 4096 := by
  unfold State.armed at h
  obtain ⟨e, -, he⟩ := List.mem_filterMap.1 h
  dsimp only at he
  split at he
  · next hk =>
    obtain ⟨hlo, hhi, -⟩ := hk
    cases he
    unfold evtBase at *
    omega
  · cases he

theorem State.mem_armedIn_lt {s : State} {d i : Nat} {rev : Bool} (h : i ∈ s.armedIn d rev) : i < 4096 :=
  State.mem_armed_lt (List.mem_of_mem_filter h)

theorem lt_of_not_isCompat {i : Nat} (h : isCompat i = false) : i < 4096 := by
  rw [isCompat, decide_eq_false_iff_not] at h
  omega

/-! ## What is written -/

section
variable (s : State) (i : Nat)

theorem State.bind_writes : Writes (· == evtWord i 2) s (s.bind i) := by
  unfold State.bind
  dsimp only
  split
  · exact Writes.refl _ s
  · exact s.wr_writes _ _

theorem State.setFlag_writes (off : Nat) (b : Bool) : Writes (· == flagKey off i) s (s.setFlag off i b) := s.wr_writes _ _

theorem State.showPlaced_writes : Writes (· == flagKey Reg.Evt.PLACED i) s (s.showPlaced i) := s.wr_writes _ _

theorem State.setArm_writes (b : Bool) : Writes (· == evtWord i 1) s (s.setArm i b) := s.wr_writes _ _

theorem State.evArm_setArm (b : Bool) : evArm ((s.setArm i b).rd (evtWord i 1)) = b := s.bit_setBit_same _ (by decide) b

/-- The words of an event that R122 changes. -/
def advanceWords (i k : Nat) : Bool := k == evtWord i 1 || k == evtWord i 2

theorem State.advance_writes : Writes (advanceWords i) s (s.advance i) := by
  unfold State.advance
  dsimp only
  split
  · exact (s.wr_writes _ _).mono fun k hk => by rw [advanceWords, hk, Bool.or_true]
  · exact (s.setArm_writes i false).mono fun k hk => by rw [advanceWords, hk, Bool.true_or]

/-- An event that is not PERIODIC is disarmed (R122). -/
theorem State.evArm_advance (h : evRepeat (s.rd (evtWord i 1)) ≠ 1) :
    evArm ((s.advance i).rd (evtWord i 1)) = false := by
  have he : s.advance i = s.setArm i false := if_neg h
  rw [he, State.evArm_setArm]

theorem State.afterAct_writes (replaced : Bool) : Writes (advanceWords i) s (s.afterAct i replaced) := by
  unfold State.afterAct
  split
  · exact (Writes.refl _ s).onlyIf fun _ => (s.bind_writes i).mono fun k hk => by rw [advanceWords, hk, Bool.or_true]
  · exact s.advance_writes i

theorem evtReg_advanceWords {i k : Nat} (hi : i < 4096) (hk : advanceWords i k = true) : evtReg k = true := by
  rw [advanceWords, Bool.or_eq_true, beq_iff_eq, beq_iff_eq] at hk
  rcases hk with rfl | rfl
  · exact evtReg_word hi (by decide)
  · exact evtReg_word hi (by decide)

end

end Sys2Proof.Machine
end

section
/-! PROOFS. What a change of one phase domain leaves alone: of the domains' records only its own and those of CHILD domains
move, and of the registers only flags of these domains and what the events write (R95 to R114, R126). -/

namespace Sys2Proof.Machine

/-! ## Registers -/

/-- A register of the event counters, of HRN, of TPO or of the event table. -/
def schedReg (k : Nat) : Bool :=
  counterReg k || decide (hrnBase ≤ k ∧ k < domBase 0) || decide (tpoBase ≤ k ∧ k < evtBase 32)

/-- The flags and counts a domain's changes leave on its page. -/
def domFlags (d k : Nat) : Bool :=
  k == domReg d Reg.Hdr.IRQ_RAW || k == domReg d Reg.Dom.STALL_CNT || k == domReg d Reg.Dom.EDGE_ERR_CNT

theorem schedReg_counter {k : Nat} (h : counterReg k = true) : schedReg k = true := by simp [schedReg, h]

theorem schedReg_hrn {off : Nat} (ho : off < 0x1000) : schedReg (hrnBase + off) = true := by
  have : hrnBase ≤ hrnBase + off ∧ hrnBase + off < domBase 0 := by
    unfold hrnBase domBase
    omega
  simp [schedReg, this]

theorem schedReg_tpo {off : Nat} (ho : off < 0x1000) : schedReg (tpoBase + off) = true := by
  have : tpoBase ≤ tpoBase + off ∧ tpoBase + off < evtBase 32 := by
    unfold tpoBase evtBase
    omega
  simp [schedReg, this]

theorem schedReg_evt {k : Nat} (h : evtReg k = true) : schedReg k = true := by
  have : tpoBase ≤ k ∧ k < evtBase 32 := by
    rw [evtReg, decide_eq_true_eq] at h
    unfold tpoBase
    unfold evtBase at *
    omega
  simp [schedReg, this]

theorem schedReg_domReg {d off : Nat} (hd : d < 16) (ho : off < 0x1000) : schedReg (domReg d off) = false := by
  have hc : counterReg (domReg d off) = false := counterReg_low (by unfold domReg domBase; omega)
  rw [schedReg, hc, Bool.false_or, Bool.or_eq_false_iff, decide_eq_false_iff_not, decide_eq_false_iff_not]
  unfold domReg domBase hrnBase tpoBase evtBase
  omega

/-- Registers of the units beyond Huarneel and below the counter banks. -/
theorem schedReg_beyond {k : Nat} (h : evtBase 32 ≤ k) (h' : k < ecBase 0) : schedReg k = false := by
  rw [schedReg, counterReg_of_lt h', Bool.false_or, Bool.or_eq_false_iff, decide_eq_false_iff_not, decide_eq_false_iff_not]
  unfold hrnBase domBase tpoBase
  unfold evtBase at *
  omega

theorem domFlags_domReg_ne {c d off : Nat} (h : c ≠ d) (ho : off < 0x1000) : domFlags c (domReg d off) = false := by
  simp only [domFlags, Bool.or_eq_false_iff, beq_eq_false_iff_ne]
  unfold domReg domBase Reg.Hdr.IRQ_RAW Reg.Dom.STALL_CNT Reg.Dom.EDGE_ERR_CNT
  omega

theorem domFlags_place {c d off : Nat} (ho : off < 0x1000) (h1 : off ≠ Reg.Hdr.IRQ_RAW) (h2 : off ≠ Reg.Dom.STALL_CNT)
    (h3 : off ≠ Reg.Dom.EDGE_ERR_CNT) : domFlags c (domReg d off) = false := by
  simp only [domFlags, Bool.or_eq_false_iff, beq_eq_false_iff_ne]
  unfold domReg domBase Reg.Hdr.IRQ_RAW Reg.Dom.STALL_CNT Reg.Dom.EDGE_ERR_CNT
  unfold Reg.Hdr.IRQ_RAW at h1
  unfold Reg.Dom.STALL_CNT at h2
  unfold Reg.Dom.EDGE_ERR_CNT at h3
  omega

theorem domFlags_beyond {c k : Nat} (hc : c < 16) (h : evtBase 32 ≤ k) : domFlags c k = false := by
  simp only [domFlags, Bool.or_eq_false_iff, beq_eq_false_iff_ne]
  unfold evtBase at h
  unfold domReg domBase Reg.Hdr.IRQ_RAW Reg.Dom.STALL_CNT Reg.Dom.EDGE_ERR_CNT
  omega

/-! ## The relation -/

/-- A domain is a CHILD or among those listed. -/
def State.Names (s : State) (l : List Nat) (d : Nat) : Prop := d < 16 ∧ (s.domSrc d = 3 ∨ d ∈ l)

/-- A register neither the events nor the domains that are named write. -/
def State.Apart (s : State) (l : List Nat) (k : Nat) : Prop :=
  schedReg k = false ∧ ∀ d, s.Names l d → domFlags d k = false

/-- From `s` to `t` only CHILD domains and those of `r` flag something, and only the records of CHILD domains and those of `m`
change; of the other registers only those of the events are written, and the clocks stand. -/
structure Moves (r m : List Nat) (s t : State) : Prop where
  time : t.time = s.time
  rd : ∀ k, s.Apart r k → t.rd k = s.rd k
  dom : ∀ d < 16, s.domSrc d ≠ 3 → d ∉ m → t.dom d = s.dom d

/-- A domain's configuration is apart from every flag. -/
theorem State.apart_domReg (s : State) (l : List Nat) {d off : Nat} (hd : d < 16) (ho : off < 0x1000) (h1 : off ≠ Reg.Hdr.IRQ_RAW)
    (h2 : off ≠ Reg.Dom.STALL_CNT) (h3 : off ≠ Reg.Dom.EDGE_ERR_CNT) : s.Apart l (domReg d off) :=
  ⟨schedReg_domReg hd ho, fun _ _ => domFlags_place ho h1 h2 h3⟩

/-- The page of a domain that is not named. -/
theorem State.apart_unnamed {s : State} {l : List Nat} {d off : Nat} (hd : d < 16) (hc : s.domSrc d ≠ 3) (hl : d ∉ l)
    (ho : off < 0x1000) : s.Apart l (domReg d off) := by
  refine ⟨schedReg_domReg hd ho, fun c ⟨_, hn⟩ => domFlags_domReg_ne ?_ ho⟩
  rintro rfl
  exact hn.elim hc hl

theorem State.apart_beyond (s : State) (l : List Nat) {k : Nat} (h : evtBase 32 ≤ k) (h' : k < ecBase 0) : s.Apart l k :=
  ⟨schedReg_beyond h h', fun _ hn => domFlags_beyond hn.1 h⟩

section
variable {r m : List Nat} {s t u : State}

theorem Moves.refl (r m : List Nat) (s : State) : Moves r m s s := ⟨rfl, fun _ _ => rfl, fun _ _ _ _ => rfl⟩

/-- A register of a domain's configuration stands. -/
theorem Moves.rd_config (h : Moves r m s t) {d off : Nat} (hd : d < 16) (ho : off < 0x1000) (h1 : off ≠ Reg.Hdr.IRQ_RAW)
    (h2 : off ≠ Reg.Dom.STALL_CNT) (h3 : off ≠ Reg.Dom.EDGE_ERR_CNT) : t.rd (domReg d off) = s.rd (domReg d off) :=
  h.rd _ (s.apart_domReg r hd ho h1 h2 h3)

theorem Moves.domSrc (h : Moves r m s t) {d : Nat} (hd : d < 16) : t.domSrc d = s.domSrc d := by
  rw [State.domSrc, State.fld, h.rd_config hd (by decide) (by decide) (by decide) (by decide)]
  rfl

theorem Moves.names (h : Moves r m s t) (l : List Nat) (d : Nat) : t.Names l d ↔ s.Names l d :=
  and_congr_right fun hd => by rw [h.domSrc hd]

theorem Moves.apart (h : Moves r m s t) {l : List Nat} {k : Nat} (hk : s.Apart l k) : t.Apart l k :=
  ⟨hk.1, fun d hd => hk.2 d ((h.names l d).1 hd)⟩

theorem Moves.trans (h : Moves r m s t) (h' : Moves r m t u) : Moves r m s u where
  time := h'.time.trans h.time
  rd k hk := (h'.rd k (h.apart hk)).trans (h.rd k hk)
  dom d hd hc hm := (h'.dom d hd (by rwa [h.domSrc hd]) hm).trans (h.dom d hd hc hm)

theorem Moves.mono {r' m' : List Nat} (h : Moves r m s t) (hr : r ⊆ r') (hm : m ⊆ m') : Moves r' m' s t where
  time := h.time
  rd k hk := h.rd k ⟨hk.1, fun d ⟨hd, hn⟩ => hk.2 d ⟨hd, hn.imp_right (hr ·)⟩⟩
  dom d hd hc hd' := h.dom d hd hc fun hx => hd' (hm hx)

theorem Moves.congr (ht : t.time = s.time) (hr : t.regs = s.regs) (hd : t.doms = s.doms) : Moves r m s t :=
  ⟨ht, fun k _ => State.rd_congr hr k, fun d _ _ _ => by rw [State.dom, State.dom, hd]⟩

theorem Writes.moves {p : Nat → Bool} (h : Writes p s t) (hp : ∀ k, p k = true → schedReg k = true) : Moves r m s t where
  time := h.time
  rd k hk := h.1 k (Bool.eq_false_iff.2 fun hc => by simpa [hp k hc] using hk.1)
  dom d _ _ _ := by rw [State.dom, State.dom, h.2]

theorem Moves.onlyIf (h : Moves r m s t) {c : Bool} {f : State → State} (hf : c = true → Moves r m s (f t)) :
    Moves r m s (t.onlyIf c f) := State.onlyIf_ind h hf

theorem Moves.ite {c : Prop} [Decidable c] (ht : Moves r m s t) (hu : Moves r m s u) : Moves r m s (if c then t else u) := by
  split <;> assumption

theorem Moves.each (h : Moves r m s t) {α : Type} {l : List α} {f : State → α → State}
    (hf : ∀ x ∈ l, ∀ u, Moves r m s u → Moves r m s (f u x)) : Moves r m s (t.each l f) := State.each_ind h hf

end

/-! ## What a change of a domain is made of -/

theorem State.mem_children {s : State} {c d : Nat} (h : c ∈ s.children d) : c < 16 ∧ c ≠ d ∧ s.domSrc c = 3 := by
  obtain ⟨hr, hc⟩ := List.mem_filter.1 h
  simp only [Bool.and_eq_true, bne_iff_ne, beq_iff_eq] at hc
  obtain ⟨⟨⟨hne, hsrc⟩, -⟩, -⟩ := hc
  exact ⟨List.mem_range.1 hr, hne, hsrc⟩

theorem State.mem_kids {fuel : Nat} {s : State} {c d : Nat} (h : c ∈ s.kids fuel d) : c < 16 ∧ s.domSrc c = 3 := by
  induction fuel generalizing d with
  | zero => cases h
  | succ fuel ih =>
    obtain ⟨e, he, hc⟩ := List.mem_flatMap.1 h
    rcases List.mem_cons.1 hc with rfl | hc
    · obtain ⟨hlt, -, hsrc⟩ := State.mem_children he
      exact ⟨hlt, hsrc⟩
    · exact ih hc

theorem State.dom_setDom_same (s : State) (d : Nat) (x : Dom) : (s.setDom d x).dom d = x := Tbl.get_set_same _ _ _ _

theorem State.dom_setDom_ne (s : State) {c d : Nat} (x : Dom) (h : c ≠ d) : (s.setDom d x).dom c = s.dom c :=
  Tbl.get_set_ne _ _ _ _ _ _ h

section
variable {r m : List Nat} {s t : State} {d c i x y : Nat} (h : Moves r m s t)

include h

theorem Moves.child (hx : t.domSrc c = 3) (hc : c < 16) (l : List Nat) : s.Names l c :=
  (h.names l c).1 ⟨hc, .inl hx⟩

theorem Moves.record {t' : State} (ht : t'.time = t.time) (hr : t'.regs = t.regs) (hd : t'.doms = t.doms) : Moves r m s t' :=
  h.trans (.congr ht hr hd)

theorem Moves.writes {t' : State} {p : Nat → Bool} (hw : Writes p t t') (hp : ∀ k, p k = true → schedReg k = true) :
    Moves r m s t' := h.trans (hw.moves hp)

/-- A write of a flag of a domain that is named. -/
theorem Moves.flag {t' : State} {k : Nat} (hw : Writes (· == k) t t') (hk : domFlags d k = true) (hr : s.Names r d) :
    Moves r m s t' := by
  refine h.trans ⟨hw.time, fun j hj => hw.1 j (beq_false_of_ne ?_), fun e _ _ _ => by rw [State.dom, State.dom, hw.2]⟩
  rintro rfl
  exact absurd hk (by rw [hj.2 d ((h.names r d).2 hr)]; decide)

theorem Moves.raise (hr : s.Names r d) : Moves r m s (t.raise (domBase d) i) :=
  h.flag (t.raise_writes _ _) (by simp [domFlags, domReg]) hr

theorem Moves.count {off : Nat} (ho : off = Reg.Dom.STALL_CNT ∨ off = Reg.Dom.EDGE_ERR_CNT) (hr : s.Names r d) :
    Moves r m s (t.count (domReg d off)) :=
  h.flag (t.count_writes _) (by rcases ho with rfl | rfl <;> simp [domFlags]) hr

theorem Moves.setDom {n : Dom} (hm : s.Names m d) : Moves r m s (t.setDom d n) := by
  refine h.trans ⟨rfl, fun _ _ => rfl, fun e he hc hem => t.dom_setDom_ne n ?_⟩
  rintro rfl
  exact (((h.names m e).2 hm).2).elim hc hem

theorem Moves.ev {code inst : Nat} : Moves r m s (t.ev code inst) := h.writes (t.ev_writes _ _) fun _ => schedReg_counter

theorem Moves.dist {q : DistItem} : Moves r m s (t.dist q) := .ite (h.record rfl rfl rfl) h

theorem Moves.enter {st : DomState} (hr : s.Names r d) (hm : s.Names m d) : Moves r m s (t.enter d st) := by
  unfold State.enter
  have entered : Moves r m s ((t.setDom d { t.dom d with st := st }).onlyIf
      (st == .run && ((t.dom d).st == .wait || (t.dom d).st == .hold || (t.dom d).st == .stalled)) (·.raise (domBase d) 20)) :=
    (h.setDom hm).onlyIf fun _ => (h.setDom hm).raise hr
  exact entered.onlyIf fun _ => entered.dist

theorem Moves.childStep {k : ChildStep} (hx : t.domSrc c = 3) (hc : c < 16) : Moves r m s (t.childStep d k c).1 := by
  have hr := h.child hx hc r
  have hm := h.child hx hc m
  unfold State.childStep
  cases k with
  | anchor => exact (h.setDom hm).enter hr hm
  | advance dx => exact (h.setDom hm).enter hr hm
  | follow => exact (h.setDom hm).enter hr hm

omit h in
theorem State.carry_keeps (fuel : Nat) (s : State) (d : Nat) (k : ChildStep) : Moves [] [] s (s.carry fuel d k) := by
  induction fuel generalizing s d k with
  | zero => exact .refl _ _ s
  | succ fuel ih =>
    refine (Moves.refl [] [] s).each fun c hc u hu => ?_
    obtain ⟨hlt, -, hsrc⟩ := State.mem_children hc
    exact (hu.childStep (by rwa [hu.domSrc hlt]) hlt).trans (ih _ _ _)

theorem Moves.carry {fuel : Nat} {k : ChildStep} : Moves r m s (t.carry fuel d k) :=
  h.trans ((State.carry_keeps fuel t d k).mono (List.nil_subset _) (List.nil_subset _))

/-! ## What becomes of the events -/

theorem Moves.setFlag {off : Nat} {b : Bool} (hi : i < 4096) (ho : off < 0x800) : Moves r m s (t.setFlag off i b) :=
  h.writes (t.setFlag_writes i off b) fun k hk => by
    rw [beq_iff_eq] at hk
    exact hk ▸ schedReg_evt (evtReg_flag hi ho)

theorem Moves.hrn {t' : State} {off : Nat} (hw : Writes (· == hrnBase + off) t t') (ho : off < 0x1000) : Moves r m s t' :=
  h.writes hw fun k hk => by
    rw [beq_iff_eq] at hk
    exact hk ▸ schedReg_hrn ho

theorem Moves.setArm {b : Bool} (hi : i < 4096) : Moves r m s (t.setArm i b) :=
  h.writes (t.setArm_writes i b) fun k hk => by
    rw [beq_iff_eq] at hk
    exact hk ▸ schedReg_evt (evtReg_word hi (by decide))

theorem Moves.bind (hi : i < 4096) : Moves r m s (t.bind i) :=
  h.writes (t.bind_writes i) fun k hk => by
    rw [beq_iff_eq] at hk
    exact hk ▸ schedReg_evt (evtReg_word hi (by decide))

theorem Moves.afterAct {b : Bool} (hi : i < 4096) : Moves r m s (t.afterAct i b) :=
  h.writes (t.afterAct_writes i b) fun _ hk => schedReg_evt (evtReg_advanceWords hi hk)

theorem Moves.toLate (hi : i < 4096) {b : Bool} :
    Moves r m s (t.setBit (tpoBase + Reg.Tpo.TO_STAT + 0x40 * ((i - 4064) / 4)) (4 + i % 4) b) :=
  h.writes (t.wr_writes _ _) fun k hk => by
    rw [beq_iff_eq] at hk
    rw [hk, Nat.add_assoc]
    exact schedReg_tpo (by unfold Reg.Tpo.TO_STAT; omega)

theorem Moves.lateWith {w1 w3 : Word} {b : Bool} {proj : Option Nat} (hi : i < 4096) :
    Moves r m s (t.lateWith i w1 w3 b proj) := by
  unfold State.lateWith
  extract_lets f1 f2 f3 r0 at_ lines q
  have h1 : Moves r m s f1 := ((h.setFlag hi (by decide)).hrn (State.count_writes _ _) (by decide)).ev
  have h2 : Moves r m s f2 :=
    (h1.hrn (State.wr_writes _ _ _) (by decide)).hrn (State.raise_writes _ _ _) (by decide)
  have h3 : Moves r m s f3 := h2.onlyIf fun _ => h2.toLate hi
  refine .ite ?skip (h3.record rfl rfl rfl)
  exact ((h3.hrn (State.count_writes _ _) (by decide)).hrn (State.raise_writes _ _ _) (by decide)).ev.afterAct hi

theorem Moves.goLate {proj : Option Nat} (hi : i < 4096) : Moves r m s (t.goLate i proj) := h.lateWith hi

theorem Moves.overtake {rev : Bool} (hr : s.Names r d) : Moves r m s (t.overtake d x y rev) := by
  unfold State.overtake
  refine ((h.each fun i hi u hu => hu.goLate ?_).raise hr).ev
  split at hi
  · cases hi
  · exact State.mem_armedIn_lt (List.mem_of_mem_filter hi)

theorem Moves.withdraw {rev : Option Bool} : Moves r m s (t.withdraw d rev) := by
  unfold State.withdraw
  extract_lets mine gone
  have kept : Moves r m s { t with placed := t.placed.filter (fun q => !mine q) } := h.record rfl rfl rfl
  refine kept.each fun i hi u hu => hu.setFlag ?_ (by decide)
  obtain ⟨q, hq, rfl⟩ := List.mem_map.1 hi
  obtain ⟨-, hq⟩ := List.mem_filter.1 hq
  have hq : isCompat q.idx = false := by
    simp only [mine, Bool.and_eq_true, Bool.not_eq_true'] at hq
    exact hq.1.1.2
  exact lt_of_not_isCompat hq

theorem Moves.reversed {old : Bool} (hr : s.Names r d) : Moves r m s (t.reversed d old) := (h.withdraw.raise hr).ev

theorem Moves.reverse {old : Bool} (hr : s.Names r d) : Moves r m s (t.reverse d old) := by
  unfold State.reverse
  refine (h.reversed hr).each fun c hc u hu => ?_
  obtain ⟨hlt, hsrc⟩ := State.mem_kids hc
  split
  · exact hu.reversed (h.child hsrc hlt r)
  · exact hu

theorem Moves.jump {rev : Bool} (hr : s.Names r d) : Moves r m s (t.jump d x y rev) := by
  unfold State.jump
  have overtaken := h.overtake (x := x) (y := y) (rev := rev) hr
  refine overtaken.carry.each fun e he u hu => hu.onlyIf fun _ => hu.overtake ?_
  obtain ⟨c, hc, rfl⟩ := List.mem_map.1 he
  obtain ⟨hlt, hsrc⟩ := State.mem_kids hc
  exact overtaken.child hsrc hlt r

end

end Sys2Proof.Machine
end

section
/-! PROOFS. A phase domain that takes a position from its source: its record after an edge or a frame start, and what else
moves (R101 to R112). -/

namespace Sys2Proof.Machine

/-! ## The record of the domain itself -/

theorem Writes.dom {p : Nat → Bool} {s t : State} (h : Writes p s t) (d : Nat) : t.dom d = s.dom d := by
  rw [State.dom, State.dom, h.2]

theorem State.dom_wr (s : State) (k : Nat) (v : Word) (d : Nat) : (s.wr k v).dom d = s.dom d := (s.wr_writes k v).dom d

theorem State.dist_dom (s : State) (q : DistItem) (d : Nat) : (s.dist q).dom d = s.dom d := by
  unfold State.dist
  split
  · rw [State.dom, State.dom]
  · rfl

theorem State.rd_dist (s : State) (q : DistItem) (k : Nat) : (s.dist q).rd k = s.rd k := by
  unfold State.dist
  split
  · rw [State.rd, State.rd]
  · rfl

theorem State.onlyIf_dom {s : State} {b : Bool} {f : State → State} {d : Nat} (h : ∀ u : State, (f u).dom d = u.dom d) :
    (s.onlyIf b f).dom d = s.dom d := by
  cases b
  · rfl
  · exact h s

theorem State.enter_dom (s : State) (d : Nat) (st : DomState) : (s.enter d st).dom d = { s.dom d with st := st } := by
  unfold State.enter
  extract_lets m s1
  have h1 : s1.dom d = { m with st := st } := by
    rw [← s.dom_setDom_same d { m with st := st }]
    exact State.onlyIf_dom fun u => (u.raise_writes (domBase d) 20).dom d
  rw [← h1]
  exact State.onlyIf_dom fun u => u.dist_dom _ d

section
variable {s : State} {d : Nat} (hd : d < 16) (hc : s.domSrc d ≠ 3)
include hd hc

/-- A change carried to the children leaves a domain that is none alone. -/
theorem State.carry_dom {e fuel : Nat} {k : ChildStep} : (s.carry fuel e k).dom d = s.dom d :=
  (State.carry_keeps fuel s e k).dom d hd hc (by simp)

/-- A source sets a domain's position, and nothing else of its record. -/
theorem State.anchorAt_dom (pos tk : Nat) (first : Bool) : ∃ p, (s.anchorAt d pos tk first).dom d = { s.dom d with p := p } := by
  unfold State.anchorAt
  extract_lets m oldP dx s1 s2 newX rev moved
  obtain ⟨p, hp⟩ : ∃ p, s2 = s1.setDom d { m with p := p } := by
    simp only [s2]
    split
    · split
      · exact ⟨_, rfl⟩
      · exact ⟨_, rfl⟩
    · exact ⟨_, rfl⟩
  have h2 : s2.dom d = { m with p := p } := by rw [hp, State.dom_setDom_same]
  have hc2 : s2.domSrc d ≠ 3 := by rw [hp]; exact hc
  refine ⟨p, ?_⟩
  rw [← h2]
  have h := Moves.refl [d] [] s2
  exact Moves.dom (.ite (h.jump ⟨hd, .inr (by simp)⟩) (.ite h.carry h.carry)) d hd hc2 (by simp)

theorem State.goHold_dom : ((s.goHold d).dom d).st = .hold ∧ ((s.goHold d).dom d).rate = 0 ∧ ((s.goHold d).dom d).p = (s.dom d).p := by
  unfold State.goHold
  extract_lets m dir
  have moves : Moves [d] [d] s ((s.setDom d { m with rate := 0, dir := dir }).enter d .hold) :=
    ((Moves.refl _ _ s).setDom ⟨hd, .inr (by simp)⟩).enter ⟨hd, .inr (by simp)⟩ ⟨hd, .inr (by simp)⟩
  rw [State.carry_dom hd (by rwa [moves.domSrc hd]), State.enter_dom, State.dom_setDom_same]
  exact ⟨rfl, rfl, rfl⟩

end

/-! ## What else moves -/

section
variable {r m : List Nat} {s t : State} {d pos tk : Nat} (h : Moves r m s t) (hr : s.Names r d) (hm : s.Names m d)
include h hr hm

theorem Moves.anchorAt {first : Bool} : Moves r m s (t.anchorAt d pos tk first) := by
  unfold State.anchorAt
  extract_lets n oldP dx s1 s2 newX rev moved
  have h2 : Moves r m s s2 := by
    simp only [s2]
    split
    · exact .ite ((h.setDom hm).setDom hm) ((h.setDom hm).setDom hm)
    · exact (h.setDom hm).setDom hm
  exact .ite (h2.jump hr) (.ite h2.carry h2.carry)

theorem Moves.angleEdge {rev : Bool} : Moves r m s (t.angleEdge d rev pos tk) := by
  unfold State.angleEdge
  extract_lets n reversal _ known mag rk k lin same st rate n' s1 s2
  have h1 : Moves r m s s1 := h.onlyIf fun _ => h.reverse hr
  have h2 : Moves r m s s2 := ((h1.setDom hm).enter hr hm).ev
  exact h2.anchorAt hr hm

theorem Moves.stepEdge {rev : Bool} : Moves r m s (t.stepEdge d rev tk) := h.angleEdge hr hm

theorem Moves.goHold : Moves r m s (t.goHold d) := ((h.setDom hm).enter hr hm).carry

theorem Moves.hallError {j : Nat} : Moves r m s (t.hallError d j tk) := by
  unfold State.hallError
  exact (((h.setDom hm).count (.inr rfl) hr).raise hr).ev.angleEdge hr hm

theorem Moves.hallEdge : Moves r m s (t.hallEdge d tk) := by
  unfold State.hallEdge
  extract_lets n inv
  split
  · exact .ite ((h.setDom hm).anchorAt hr hm) (h.hallError hr hm)
  · exact .ite ((h.setDom hm).angleEdge hr hm) (.ite ((h.setDom hm).angleEdge hr hm) (.ite h (h.hallError hr hm)))
  · exact ((((h.setDom hm).count (.inr rfl) hr).raise hr).ev).goHold hr hm

theorem Moves.indexEdge : Moves r m s (t.indexEdge d) := by
  unfold State.indexEdge
  exact (h.setDom hm).jump hr

theorem Moves.encToDomain {pin : Nat} {rising : Bool} : Moves r m s (t.encToDomain pin rising tk d) := by
  unfold State.encToDomain
  refine .ite h ?_
  extract_lets cfg p inv lv
  split
  · next s1 _ _ =>
    have h1 : Moves r m s s1 := .ite (h.stepEdge hr hm) (.ite (h.stepEdge hr hm) h)
    exact .ite (h1.indexEdge hr hm) h1
  · exact .ite (h.hallEdge hr hm) h
  · exact .ite (h.stepEdge hr hm) h
  · exact h

theorem Moves.frameStart {period : Nat} {msg : Bool} : Moves r m s (t.frameStart d period tk msg) := by
  unfold State.frameStart
  extract_lets n s1 first x q proj
  have h1 : Moves r m s s1 := h.ev
  refine .ite (((h1.setDom hm).anchorAt hr hm).goHold hr hm) (.ite ?lagging ?running)
  case lagging => exact ((h1.setDom hm).enter hr hm).carry
  case running => exact ((h1.setDom hm).enter hr hm).anchorAt hr hm

theorem Moves.lsToDomain {pin : Nat} {rising : Bool} : Moves r m s (t.lsToDomain pin rising tk d) := by
  unfold State.lsToDomain
  exact .ite h ((h.setDom hm).frameStart hr hm)

end

/-! ## An edge of an ANGLE domain -/

section
variable {s : State} {d : Nat} (hd : d < 16) (hc : s.domSrc d ≠ 3)
include hd hc

/-- An edge sets the position of the last edge, the direction and the instant (R104, R105). -/
theorem State.angleEdge_dom (rev : Bool) (pos tk : Nat) :
    ((s.angleEdge d rev pos tk).dom d).xe = pos ∧ ((s.angleEdge d rev pos tk).dom d).dir = some rev ∧
      ((s.angleEdge d rev pos tk).dom d).lastT = some tk := by
  unfold State.angleEdge
  extract_lets n reversal _ known mag rk k lin same st rate n' s1 s2
  have hn : s.Names [d] d := ⟨hd, .inr (by simp)⟩
  have h1 : Moves [d] [d] s s1 := (Moves.refl _ _ s).onlyIf fun _ => (Moves.refl _ _ s).reverse hn
  have h2 : Moves [d] [d] s s2 := ((h1.setDom hn).enter hn hn).ev
  have entered : s2.dom d = { n' with st := st } := by
    rw [(State.ev_writes _ _ _).dom d, State.enter_dom, State.dom_setDom_same]
  obtain ⟨p, hp⟩ := s2.anchorAt_dom hd (by rwa [h2.domSrc hd]) pos tk false
  rw [hp, entered]
  exact ⟨rfl, rfl, rfl⟩

/-- A frame that starts with a period runs, but for a MSG projection that lies behind at the rate of the period (R108). -/
theorem State.frameStart_run {period : Nat} (hp : period ≠ 0) (tk : Nat) (msg : Bool) :
    ((s.frameStart d period tk msg).dom d).st = .run ∧ ((s.frameStart d period tk msg).dom d).frameStart = (s.dom d).frameStart ∧
      (msg = false → ((s.frameStart d period tk msg).dom d).rate = rate48 (2 ^ 64 / period : Nat)) := by
  unfold State.frameStart
  extract_lets n s1 first x q proj
  have hn : s.Names [d] d := ⟨hd, .inr (by simp)⟩
  have h1 : Moves [d] [d] s s1 := (Moves.refl _ _ s).ev
  rw [if_neg hp]
  split
  · next hlag =>
    have h2 := (h1.setDom (n := { n with rate := 0, dir := some false, xe := n.x, lag := some (proj, q) }) hn).enter
      (st := .run) hn hn
    rw [State.carry_dom hd (by rwa [h2.domSrc hd]), State.enter_dom, State.dom_setDom_same]
    refine ⟨rfl, rfl, fun hm => ?_⟩
    simp [hm] at hlag
  · have h2 := (h1.setDom (n := { n with rate := q, dir := some false, xe := x, lag := none }) hn).enter (st := .run) hn hn
    obtain ⟨p, hp⟩ := State.anchorAt_dom hd (s := (s1.setDom d { n with rate := q, dir := some false, xe := x, lag := none }).enter
      d .run) (by rwa [h2.domSrc hd]) x tk first
    rw [hp, State.enter_dom, State.dom_setDom_same]
    exact ⟨rfl, rfl, fun _ => rfl⟩

/-- A frame that starts with no period holds (R108). -/
theorem State.frameStart_hold (tk : Nat) (msg : Bool) :
    ((s.frameStart d 0 tk msg).dom d).st = .hold ∧ ((s.frameStart d 0 tk msg).dom d).rate = 0 := by
  unfold State.frameStart
  extract_lets n s1 first x
  rw [if_pos rfl]
  have hn : s.Names [d] d := ⟨hd, .inr (by simp)⟩
  have h2 := (((Moves.refl _ _ s).ev (code := 0xC8) (inst := d)).setDom (n := { n with rate := 0, dir := some false, xe := x, lag := none })
    hn).anchorAt (pos := x) (tk := tk) (first := first) hn hn
  obtain ⟨hst, hrate, -⟩ := State.goHold_dom hd (s := (s1.setDom d { n with rate := 0, dir := some false, xe := x, lag := none
    }).anchorAt d x tk first) (by rwa [h2.domSrc hd])
  exact ⟨hst, hrate⟩

end

/-! ## Every domain in turn -/

theorem range_split_at {n d : Nat} (hd : d < n) : ∃ l₁ l₂, List.range n = l₁ ++ d :: l₂ ∧ d ∉ l₁ ∧ d ∉ l₂ := by
  obtain ⟨l₁, l₂, hl⟩ := List.append_of_mem (List.mem_range.2 hd)
  have hnd : (l₁ ++ d :: l₂).Nodup := hl ▸ List.nodup_range
  obtain ⟨-, h2, h12⟩ := List.nodup_append.1 hnd
  exact ⟨l₁, l₂, hl, fun h => h12 d h d (by simp) rfl, (List.nodup_cons.1 h2).1⟩

section
variable {s : State} {f : State → Nat → State} (hf : ∀ u e, e < 16 → Moves [e] [e] u (f u e))
include hf

theorem State.each_domains_moves : Moves (List.range 16) (List.range 16) s (s.each (List.range 16) f) :=
  (Moves.refl _ _ s).each fun e he u hu => by
    have hsub : [e] ⊆ List.range 16 := by simpa using he
    exact hu.trans ((hf u e (List.mem_range.1 he)).mono hsub hsub)

/-- What a domain that is no CHILD becomes in its turn, the turns of the others leave alone. -/
theorem State.each_domains_at {d : Nat} (hd : d < 16) (hc : s.domSrc d ≠ 3) :
    ∃ l, d ∉ l ∧ ∃ u, Moves l l s u ∧ (s.each (List.range 16) f).dom d = (f u d).dom d := by
  obtain ⟨l₁, l₂, hl, h1, h2⟩ := range_split_at hd
  have turns (l : List Nat) (hl : ∀ e ∈ l, e < 16) (u : State) : Moves l l u (u.each l f) :=
    (Moves.refl l l u).each fun e he v hv => hv.trans ((hf v e (hl e he)).mono (by simpa using he) (by simpa using he))
  have lt {e : Nat} (he : e ∈ l₁ ++ d :: l₂) : e < 16 := List.mem_range.1 (hl ▸ he)
  have before := turns l₁ (fun e he => lt (by simp [he])) s
  have own := hf (s.each l₁ f) d hd
  have after := turns l₂ (fun e he => lt (by simp [he])) (f (s.each l₁ f) d)
  refine ⟨l₁, h1, s.each l₁ f, before, ?_⟩
  have he : s.each (List.range 16) f = (f (s.each l₁ f) d).each l₂ f := by
    rw [hl, State.each, State.each, State.each, List.foldl_append, List.foldl_cons]
  rw [he]
  exact after.dom d hd (by rwa [own.domSrc hd, before.domSrc hd]) h2

end

end Sys2Proof.Machine
end

section
/-! PROOFS. A domain that stands: its record and its configuration, and what is read from them (R97, R149). -/

namespace Sys2Proof.Machine

/-- From `s` to `t` the record of domain `d` and its configuration stand. -/
structure Stands (d : Nat) (s t : State) : Prop where
  dom : t.dom d = s.dom d
  rd : ∀ off < 0x1000, off ≠ Reg.Hdr.IRQ_RAW → off ≠ Reg.Dom.STALL_CNT → off ≠ Reg.Dom.EDGE_ERR_CNT →
    t.rd (domReg d off) = s.rd (domReg d off)

theorem Moves.stands {r m : List Nat} {s t : State} (h : Moves r m s t) {d : Nat} (hd : d < 16) (hc : s.domSrc d ≠ 3)
    (hm : d ∉ m) : Stands d s t :=
  ⟨h.dom d hd hc hm, fun _ ho h1 h2 h3 => h.rd_config hd ho h1 h2 h3⟩

/-- An accepted write hands every domain on as it was. -/
theorem State.taken_stands (s : State) (acc : Access) (addr : Nat) (v : Word) {d : Nat} (hd : d < 16) :
    Stands d s (s.taken acc addr v) := by
  refine ⟨State.taken_eq (·.dom d) fun _ _ _ _ => rfl, fun off ho _ _ _ => State.taken_rd_of_ne ?_ ?_⟩
  · unfold domReg domBase
    omega
  · unfold domReg domBase
    omega

section
variable {d : Nat} {s t u : State}

theorem Stands.trans (h : Stands d s t) (h' : Stands d t u) : Stands d s u :=
  ⟨h'.dom.trans h.dom, fun off ho h1 h2 h3 => (h'.rd off ho h1 h2 h3).trans (h.rd off ho h1 h2 h3)⟩

variable (h : Stands d s t)
include h

theorem Stands.domSrc : t.domSrc d = s.domSrc d := by
  simp only [State.domSrc, State.fld, h.rd Reg.Dom.SRC_CFG (by decide) (by decide) (by decide) (by decide)]

theorem Stands.angCfg : t.rd (domReg d Reg.Dom.ANG_CFG) = s.rd (domReg d Reg.Dom.ANG_CFG) :=
  h.rd _ (by decide) (by decide) (by decide) (by decide)

theorem Stands.lineCfg : t.rd (domReg d Reg.Dom.LINE_CFG) = s.rd (domReg d Reg.Dom.LINE_CFG) :=
  h.rd _ (by decide) (by decide) (by decide) (by decide)

theorem Stands.angMode : t.angMode d = s.angMode d := by simp only [State.angMode, State.fld, h.angCfg]

theorem Stands.hallAng (j : Nat) : t.hallAng d j = s.hallAng d j := by
  have hj := Nat.mod_lt j (show 6 > 0 by decide)
  have e : domReg d Reg.Dom.HALL_ANG + 4 * (j % 6) = domReg d (Reg.Dom.HALL_ANG + 4 * (j % 6)) := Nat.add_assoc _ _ _
  unfold State.hallAng State.rdN
  rw [e, h.rd _ (by unfold Reg.Dom.HALL_ANG; omega) (by unfold Reg.Dom.HALL_ANG Reg.Hdr.IRQ_RAW; omega)
    (by unfold Reg.Dom.HALL_ANG Reg.Dom.STALL_CNT; omega) (by unfold Reg.Dom.HALL_ANG Reg.Dom.EDGE_ERR_CNT; omega)]

theorem Stands.epc : t.epc d = s.epc d := by
  simp only [State.epc, State.fld, h.rd Reg.Dom.ANG_EPC (by decide) (by decide) (by decide) (by decide)]

theorem Stands.nextSrc (rev : Bool) : t.nextSrc d rev = s.nextSrc d rev := by
  have inv : t.bit (domReg d Reg.Dom.ANG_CFG) 17 = s.bit (domReg d Reg.Dom.ANG_CFG) 17 := congrArg (bitOf · 17) h.angCfg
  unfold State.nextSrc
  rw [h.angMode, h.dom, h.epc, inv]
  dsimp only
  split
  · cases (s.dom d).hall with
    | none => exact congrArg (nextOcc _ · rev) (h.hallAng _)
    | some j => exact congrArg (nextOcc _ · rev) (h.hallAng _)
  · rfl

theorem Stands.lineFrame : t.lineFrame d = s.lineFrame d := by
  simp only [State.lineFrame, State.rdN, State.fld, h.rd Reg.Dom.LINE_FRAME_NS (by decide) (by decide) (by decide) (by decide),
    h.rd Reg.Dom.LINE_FRAME_FRAC (by decide) (by decide) (by decide) (by decide)]

end

end Sys2Proof.Machine
end

section
/-! PROOFS. O21: source edges and LINE_MSG frames (R102, R104, R107, R108, R456). -/

namespace Sys2Proof.Machine

/-! ## Encoder edges -/

section
variable (s : State) (pin : Nat) (rising : Bool)

/-- The instant an encoder edge is stamped with: the first sample of the new level (R456). -/
def State.encInstant : Nat := s.tb0.t16 - s.fld (encBase + Reg.Enc.ENC_CFG + 4 * pin) 4 4 * 100 * 2 ^ 16

/-- An encoder edge before it reaches the domains: level and count. -/
def State.encIn : State :=
  let c := Clock.ofT16 (s.encInstant pin)
  ((s.setBit (encBase + Reg.Enc.ENC_LEVEL) pin rising).countWrap (encBase + Reg.Enc.ENC_CNT + 4 * pin)).dist
    { source := 7, tsLo := c.tsLo, tsHi := c.tsHi, id := pin, w5 := word (b2n rising) }

variable {s pin rising}

theorem encEdge_on (h : s.domainOn 9 = true) :
    encEdge pin rising s =
      (s.encIn pin rising).each (List.range 16) (fun u d => u.encToDomain pin rising (s.encInstant pin) d) :=
  if_neg (by simp [h])

theorem State.encIn_rd (k : Nat) : (s.encIn pin rising).rd k =
    ((s.setBit (encBase + Reg.Enc.ENC_LEVEL) pin rising).countWrap (encBase + Reg.Enc.ENC_CNT + 4 * pin)).rd k :=
  State.rd_dist _ _ k

theorem State.encIn_level (hp : pin < 16) : (s.encIn pin rising).bit (encBase + Reg.Enc.ENC_LEVEL) pin = rising := by
  have hne : encBase + Reg.Enc.ENC_LEVEL ≠ encBase + Reg.Enc.ENC_CNT + 4 * pin := by
    unfold encBase Reg.Enc.ENC_LEVEL Reg.Enc.ENC_CNT
    omega
  have := s.bit_setBit_same (encBase + Reg.Enc.ENC_LEVEL) (i := pin) (by omega) rising
  rwa [State.bit, State.encIn_rd, State.countWrap, State.wrN_eq, State.rd_wr_ne _ _ _ _ hne]

theorem State.encIn_count (s : State) (pin : Nat) (rising : Bool) : (s.encIn pin rising).rd (encBase + Reg.Enc.ENC_CNT + 4 * pin) =
    s.rd (encBase + Reg.Enc.ENC_CNT + 4 * pin) + 1 := by
  have hne : encBase + Reg.Enc.ENC_CNT + 4 * pin ≠ encBase + Reg.Enc.ENC_LEVEL := by
    unfold encBase Reg.Enc.ENC_LEVEL Reg.Enc.ENC_CNT
    omega
  rw [State.encIn_rd, State.countWrap, State.wrN_eq, State.rd_wr_same, State.rdN, State.setBit_eq, State.rd_wr_ne _ _ _ _ hne]
  exact BitVec.eq_of_toNat_eq (by simp [word])

/-- ENC's page is none of the domains'. -/
theorem State.encIn_stands (hp : pin < 16) {d : Nat} (hd : d < 16) : Stands d s (s.encIn pin rising) := by
  refine ⟨by rw [State.encIn, State.dist_dom, State.countWrap, State.wrN_eq, State.dom_wr, State.setBit_eq, State.dom_wr],
    fun off ho _ _ _ => ?_⟩
  rw [State.encIn_rd, State.countWrap, State.wrN_eq, State.rd_wr_ne, State.setBit_eq, State.rd_wr_ne]
  · unfold domReg domBase encBase Reg.Enc.ENC_LEVEL
    omega
  · unfold domReg domBase encBase Reg.Enc.ENC_CNT
    omega

/-- An edge of the right polarity moves a SINGLE domain on its pin to the next edge position (R102, R105). -/
theorem State.encToDomain_single {u : State} {d tk : Nat} (hsrc : u.domSrc d = 1) (hon : (u.dom d).st ≠ .off)
    (hmode : u.angMode d = 2) (hpin : u.fld (domReg d Reg.Dom.ANG_CFG) 4 4 = pin) :
    u.encToDomain pin true tk d =
      u.angleEdge d (u.bit (domReg d Reg.Dom.ANG_CFG) 17) (u.nextSrc d (u.bit (domReg d Reg.Dom.ANG_CFG) 17)) tk := by
  unfold State.encToDomain
  rw [if_neg (by simp [hsrc, hon])]
  simp only [hmode]
  exact if_pos ⟨hpin.symm, trivial⟩

end

/-! ## Line-sync edges -/

section
variable (s : State) (pin : Nat) (rising : Bool)

/-- The instant a line-sync edge is stamped with (R456). -/
def State.lsInstant : Nat := s.tb0.t16 - s.fld (lsBase + Reg.Ls.LS_CFG + 4 * pin) 4 4 * 100 * 2 ^ 16

/-- A line-sync edge's level and timestamp. -/
def State.lsStamped : State :=
  (s.setBit (lsBase + Reg.Ls.LS_LEVEL) pin rising).stamp (lsBase + Reg.Ls.LS_TS_LO + 8 * pin)
    (lsBase + Reg.Ls.LS_TS_HI + 8 * pin) (Clock.ofT16 (s.lsInstant pin))

/-- A line-sync edge before it reaches the domains: level, timestamp and the period measured. -/
def State.lsIn : State :=
  let tk := s.lsInstant pin
  let c := Clock.ofT16 tk
  let s := (s.lsStamped pin rising).dist { source := 8, tsLo := c.tsLo, tsHi := c.tsHi, id := pin, w5 := word (b2n rising) }
  let last := Tbl.get 0 s.lsLast (2 * pin + b2n (!rising))
  let s := s.onlyIf (last != 0 && rising == s.lsPolarity pin) (fun s =>
    s.wrN (lsBase + Reg.Ls.LS_PERIOD + 4 * pin) (min 0xFFFFFFFF ((tk + 1 - last) / 2 ^ 16)))
  { s with lsLast := Tbl.set 0 s.lsLast (2 * pin + b2n (!rising)) (tk + 1) }

variable {s pin rising}

theorem lsEdge_on (h : s.domainOn 9 = true) :
    lsEdge pin rising s =
      (s.lsIn pin rising).each (List.range 16) (fun u d => u.lsToDomain pin rising (s.lsInstant pin) d) := by
  unfold lsEdge State.lsIn State.lsStamped State.lsInstant
  rw [if_neg (by simp [h])]

theorem State.rd_setLsLast (s : State) (l : Tbl Nat) (k : Nat) : { s with lsLast := l }.rd k = s.rd k := State.rd_congr rfl k

theorem State.dom_setLsLast (s : State) (l : Tbl Nat) (d : Nat) : { s with lsLast := l }.dom d = s.dom d := by
  rw [State.dom, State.dom]

theorem State.lsIn_rd {k : Nat} (hk : k ≠ lsBase + Reg.Ls.LS_PERIOD + 4 * pin) :
    (s.lsIn pin rising).rd k = (s.lsStamped pin rising).rd k := by
  unfold State.lsIn
  extract_lets tk c s1 last s2
  have h2 : Writes (· == lsBase + Reg.Ls.LS_PERIOD + 4 * pin) s1 s2 := (Writes.refl _ s1).onlyIf fun _ => s1.wr_writes _ _
  have h1 : s1.rd k = (s.lsStamped pin rising).rd k := State.rd_dist _ _ k
  exact (State.rd_setLsLast s2 _ k).trans ((h2.1 k (beq_false_of_ne hk)).trans h1)

theorem State.lsStamped_other {k : Nat} (h1 : k ≠ lsBase + Reg.Ls.LS_LEVEL) (h2 : k ≠ lsBase + Reg.Ls.LS_TS_LO + 8 * pin)
    (h3 : k ≠ lsBase + Reg.Ls.LS_TS_HI + 8 * pin) : (s.lsStamped pin rising).rd k = s.rd k := by
  rw [State.lsStamped, State.stamp, State.rd_wr_ne _ _ _ _ h3, State.rd_wr_ne _ _ _ _ h2, State.setBit_eq, State.rd_wr_ne _ _ _ _ h1]

theorem State.lsIn_level (hp : pin < 4) : (s.lsIn pin rising).bit (lsBase + Reg.Ls.LS_LEVEL) pin = rising := by
  have := s.bit_setBit_same (lsBase + Reg.Ls.LS_LEVEL) (i := pin) (by omega) rising
  rwa [State.bit, State.lsIn_rd, State.lsStamped, State.stamp, State.rd_wr_ne, State.rd_wr_ne]
  all_goals
    simp only [lsBase, Reg.Ls.LS_LEVEL, Reg.Ls.LS_TS_LO, Reg.Ls.LS_TS_HI, Reg.Ls.LS_PERIOD]
    omega

theorem State.lsIn_stamps (hp : pin < 4) :
    (s.lsIn pin rising).rd (lsBase + Reg.Ls.LS_TS_LO + 8 * pin) = (Clock.ofT16 (s.lsInstant pin)).tsLo ∧
      (s.lsIn pin rising).rd (lsBase + Reg.Ls.LS_TS_HI + 8 * pin) = (Clock.ofT16 (s.lsInstant pin)).tsHi := by
  have apart : lsBase + Reg.Ls.LS_TS_LO + 8 * pin ≠ lsBase + Reg.Ls.LS_PERIOD + 4 * pin ∧
      lsBase + Reg.Ls.LS_TS_HI + 8 * pin ≠ lsBase + Reg.Ls.LS_PERIOD + 4 * pin ∧
      lsBase + Reg.Ls.LS_TS_LO + 8 * pin ≠ lsBase + Reg.Ls.LS_TS_HI + 8 * pin := by
    simp only [lsBase, Reg.Ls.LS_TS_LO, Reg.Ls.LS_TS_HI, Reg.Ls.LS_PERIOD]
    omega
  obtain ⟨hlo, hhi, hne⟩ := apart
  rw [State.lsIn_rd hlo, State.lsIn_rd hhi, State.lsStamped, State.stamp, State.rd_wr_same, State.rd_wr_ne _ _ _ _ hne,
    State.rd_wr_same]
  exact ⟨rfl, rfl⟩

theorem State.lsIn_dom (d : Nat) : (s.lsIn pin rising).dom d = s.dom d := by
  unfold State.lsIn
  extract_lets tk c s1 last s2
  have h0 : (s.lsStamped pin rising).dom d = s.dom d := by
    rw [State.lsStamped, State.stamp, State.dom_wr, State.dom_wr, State.setBit_eq, State.dom_wr]
  have h1 : s1.dom d = s.dom d := (State.dist_dom (s.lsStamped pin rising) _ d).trans h0
  have h2 : s2.dom d = s1.dom d := State.onlyIf_dom fun u => u.dom_wr _ _ d
  exact (State.dom_setLsLast s2 _ d).trans (h2.trans h1)

/-- LS's page is none of the domains'. -/
theorem State.lsIn_stands (hp : pin < 4) {d : Nat} (hd : d < 16) : Stands d s (s.lsIn pin rising) := by
  refine ⟨State.lsIn_dom d, fun off ho _ _ _ => ?_⟩
  rw [State.lsIn_rd, State.lsStamped_other]
  all_goals
    simp only [domReg, domBase, lsBase, Reg.Ls.LS_LEVEL, Reg.Ls.LS_TS_LO, Reg.Ls.LS_TS_HI, Reg.Ls.LS_PERIOD]
    omega

/-- A frame starts at an edge of the right polarity on the pin of a LINE domain in WAIT, at the rate of LINE_FRAME while no
interval is known (R107). -/
theorem State.lsToDomain_first {u : State} {d tk : Nat} (hsrc : u.domSrc d = 2) (hst : (u.dom d).st = .wait)
    (hmsg : u.bit (domReg d Reg.Dom.LINE_CFG) 0 = false) (hpin : u.fld (domReg d Reg.Dom.LINE_CFG) 1 2 = pin)
    (hpol : u.bit (domReg d Reg.Dom.LINE_CFG) 3 ≠ rising) (hfs : (u.dom d).frameStart = none) (hfr : (u.dom d).frames = []) :
    u.lsToDomain pin rising tk d =
      (u.setDom d { u.dom d with frames := [], frameStart := some tk }).frameStart d (u.lineFrame d) tk false := by
  unfold State.lsToDomain
  rw [State.bit] at hmsg hpol
  rw [State.fld] at hpin
  rw [if_neg (by simp [hsrc, hst, hmsg, hpin, hpol])]
  dsimp only
  rw [hfs, hfr]
  rfl

end

/-! ## Frames by message -/

section
variable {s : State} {d : Nat}

/-- The frame period of a MSG source (R107). -/
def State.msgPeriod (s : State) (d : Nat) : Nat :=
  s.fld (domReg d Reg.Dom.LINE_LINES) 0 16 *
    (s.rdN (domReg d Reg.Dom.LINE_PERIOD_NS) * 2 ^ 16 + s.fld (domReg d Reg.Dom.LINE_PERIOD_FRAC) 0 16)

/-- A domain takes frames by message. -/
def State.takesMsg (s : State) (d : Nat) : Prop :=
  s.domSrc d = 2 ∧ (s.dom d).st ≠ .off ∧ s.bit (domReg d Reg.Dom.LINE_CFG) 0 = true

theorem lineMsgGo_idle (h : ¬s.takesMsg d) : lineMsgGo d s = s := by
  refine if_pos ?_
  rw [State.takesMsg, State.bit] at h
  by_cases h2 : s.domSrc d = 2
  · by_cases hoff : (s.dom d).st = .off
    · simp [hoff]
    · have hb := Bool.eq_false_iff.2 fun hb => h ⟨h2, hoff, hb⟩
      simp [hb]
  · simp [h2]

theorem lineMsgGo_starts (h : s.takesMsg d) : ∃ tk, lineMsgGo d s = s.frameStart d (s.msgPeriod d) tk true := by
  obtain ⟨hsrc, hst, hmsg⟩ := h
  rw [State.bit] at hmsg
  exact ⟨_, if_neg (by simp [hsrc, hst, hmsg])⟩

theorem Stands.msgPeriod {t : State} (h : Stands d s t) : t.msgPeriod d = s.msgPeriod d := by
  simp only [State.msgPeriod, State.fld, State.rdN,
    h.rd Reg.Dom.LINE_LINES (by decide) (by decide) (by decide) (by decide),
    h.rd Reg.Dom.LINE_PERIOD_NS (by decide) (by decide) (by decide) (by decide),
    h.rd Reg.Dom.LINE_PERIOD_FRAC (by decide) (by decide) (by decide) (by decide)]

theorem Stands.takesMsg {t : State} (h : Stands d s t) : t.takesMsg d ↔ s.takesMsg d := by
  simp only [State.takesMsg, h.domSrc, h.dom, State.bit, h.lineCfg]

end

end Sys2Proof.Machine

open Sys2Proof Sys2Proof.Machine

/-- Settles O21: an edge sets the registers of its pin, then each domain takes its turn, which a domain that is no CHILD has to
itself (`State.each_domains_at`). -/
theorem sourceEdges : Obligations.SourceEdges := by
  unfold Obligations.SourceEdges
  refine ⟨fun s pin rising => ⟨fun hoff => ⟨_, rfl, if_pos (by simp [hoff])⟩, fun hon => ⟨_, rfl, ?enc⟩⟩,
    fun s pin rising => ⟨fun hoff => ⟨_, rfl, if_pos (by simp [hoff])⟩, fun hon => ⟨_, rfl, ?ls⟩⟩,
    fun s acc d v ht => ?msg⟩
  case enc =>
    rw [encEdge_on hon]
    have turn (u : State) (e : Nat) (he : e < 16) : Moves [e] [e] u (u.encToDomain pin.val rising (s.encInstant pin.val) e) :=
      (Moves.refl _ _ u).encToDomain ⟨he, .inr (by simp)⟩ ⟨he, .inr (by simp)⟩
    have moved := State.each_domains_moves (s := s.encIn pin.val rising) turn
    have apart {off : Nat} (ho : off < 0x1000) : (s.encIn pin.val rising).Apart (List.range 16) (encBase + off) :=
      State.apart_beyond _ _ (by unfold evtBase encBase; omega) (by unfold ecBase encBase; omega)
    refine ⟨?level, ?count, fun d hd hsrc hst hmode hpin hr => ?single⟩
    case level =>
      rw [State.bit, moved.rd _ (apart (by decide))]
      exact State.encIn_level pin.isLt
    case count =>
      rw [Nat.add_assoc, moved.rd _ (apart (by unfold Reg.Enc.ENC_CNT; omega)), ← Nat.add_assoc]
      exact State.encIn_count s pin.val rising
    case single =>
      subst hr
      have hin : Stands d s (s.encIn pin.val true) := State.encIn_stands pin.isLt hd
      obtain ⟨l, hl, u, hu, he⟩ := State.each_domains_at turn hd (by rw [hin.domSrc, hsrc]; decide)
      have hs := hin.trans (hu.stands hd (by rw [hin.domSrc, hsrc]; decide) hl)
      have inv : u.bit (domReg d Reg.Dom.ANG_CFG) 17 = s.bit (domReg d Reg.Dom.ANG_CFG) 17 := congrArg (bitOf · 17) hs.angCfg
      have hpin : u.fld (domReg d Reg.Dom.ANG_CFG) 4 4 = pin.val := by rw [State.fld, hs.angCfg]; exact hpin
      intro rev
      rw [he, State.encToDomain_single (by rw [hs.domSrc, hsrc]) (by rwa [hs.dom]) (by rw [hs.angMode, hmode]) hpin, inv, hs.nextSrc]
      exact State.angleEdge_dom hd (by rw [hs.domSrc, hsrc]; decide) _ _ _
  case ls =>
    rw [lsEdge_on hon]
    have turn (u : State) (e : Nat) (he : e < 16) : Moves [e] [e] u (u.lsToDomain pin.val rising (s.lsInstant pin.val) e) :=
      (Moves.refl _ _ u).lsToDomain ⟨he, .inr (by simp)⟩ ⟨he, .inr (by simp)⟩
    have moved := State.each_domains_moves (s := s.lsIn pin.val rising) turn
    have apart {off : Nat} (ho : off < 0x1000) : (s.lsIn pin.val rising).Apart (List.range 16) (lsBase + off) :=
      State.apart_beyond _ _ (by unfold evtBase lsBase; omega) (by unfold ecBase lsBase; omega)
    obtain ⟨lo, hi⟩ := State.lsIn_stamps (s := s) (rising := rising) pin.isLt
    refine ⟨?level, ?low, ?high, fun d hd hsrc hst hmsg hpin hpol hfs hfr hlf => ?first⟩
    case level =>
      rw [State.bit, moved.rd _ (apart (by decide))]
      exact State.lsIn_level pin.isLt
    case low =>
      rw [Nat.add_assoc, moved.rd _ (apart (by unfold Reg.Ls.LS_TS_LO; omega)), ← Nat.add_assoc]
      exact lo
    case high =>
      rw [Nat.add_assoc, moved.rd _ (apart (by unfold Reg.Ls.LS_TS_HI; omega)), ← Nat.add_assoc]
      exact hi
    case first =>
      have hin : Stands d s (s.lsIn pin.val rising) := State.lsIn_stands pin.isLt hd
      obtain ⟨l, hl, u, hu, he⟩ := State.each_domains_at turn hd (by rw [hin.domSrc, hsrc]; decide)
      have hs := hin.trans (hu.stands hd (by rw [hin.domSrc, hsrc]; decide) hl)
      rw [he, State.lsToDomain_first (by rw [hs.domSrc, hsrc]) (by rw [hs.dom, hst]) (by rw [State.bit, hs.lineCfg]; exact hmsg)
        (by rw [State.fld, hs.lineCfg]; exact hpin) (by rw [State.bit, hs.lineCfg]; exact hpol) (by rw [hs.dom, hfs])
        (by rw [hs.dom, hfr]), hs.lineFrame]
      have hc : (u.setDom d { u.dom d with frames := [], frameStart := some (s.lsInstant pin.val) }).domSrc d ≠ 3 := by
        change u.domSrc d ≠ 3
        rw [hs.domSrc, hsrc]
        decide
      obtain ⟨run, start, rate⟩ := State.frameStart_run hd hc hlf (s.lsInstant pin.val) false
      exact ⟨run, by rw [start, State.dom_setDom_same]; rfl, rate rfl⟩
  case msg =>
    intro period msg
    have hs := s.taken_stands acc (domReg d.val Reg.Dom.LINE_MSG_GO) v d.isLt
    refine ⟨fun hno => leads_taken ht rfl ?idle, fun hgo hmsg hp => leads_taken ht rfl ?runs,
      fun hgo hmsg hp => leads_taken ht rfl ?holds⟩
    case idle =>
      have same : (s.taken acc (domReg d.val Reg.Dom.LINE_MSG_GO) v).onlyIf (bitOf v 0) (lineMsgGo d.val) =
          s.taken acc (domReg d.val Reg.Dom.LINE_MSG_GO) v := by
        rcases hno with h | h
        · rw [h, State.onlyIf_false]
        · exact State.onlyIf_ind (P := fun u => u = _) rfl fun _ => lineMsgGo_idle (fun hm => h (hs.takesMsg.1 hm))
      rw [same]
      exact ⟨rfl, s.taken_frame _ _ _ _⟩
    all_goals
      have hc : (s.taken acc (domReg d.val Reg.Dom.LINE_MSG_GO) v).domSrc d.val ≠ 3 := by
        rw [hs.domSrc, hmsg.1]
        decide
      obtain ⟨tk, he⟩ := lineMsgGo_starts (hs.takesMsg.2 hmsg)
      rw [hgo, State.onlyIf_true, he, hs.msgPeriod]
    case runs => exact (State.frameStart_run d.isLt hc hp tk true).1
    case holds =>
      rw [show s.msgPeriod d.val = 0 from hp]
      exact State.frameStart_hold d.isLt hc tk true
end

section
/-! PROOFS. O20: what moves a phase domain from state to state, and PHASE_READ (R99, R112, R113, R149). -/

namespace Sys2Proof.Machine

/-! ## Flags -/

/-- A flag raised on entering RUN (R148). -/
theorem State.enter_run_raises {s : State} {d : Nat} (h : (s.dom d).st = .wait) :
    (s.enter d .run).bit (domBase d + Reg.Hdr.IRQ_RAW) 20 = true := by
  unfold State.enter
  extract_lets m s1
  have h1 : s1.bit (domBase d + Reg.Hdr.IRQ_RAW) 20 = true := by
    have hm : m.st = .wait := h
    simp only [s1, hm]
    exact State.bit_raise _ _ (by decide)
  refine State.onlyIf_ind (P := fun u => u.bit _ _ = true) h1 fun _ => ?_
  rw [State.bit, State.distNow, State.rd_dist]
  exact h1

/-! ## HOLD -/

/-- A domain that does not enter RUN raises nothing: the register file stands. -/
theorem State.enter_regs (s : State) (d : Nat) {st : DomState} (h : st ≠ .run) : (s.enter d st).regs = s.regs := by
  unfold State.enter
  extract_lets m s1
  have h1 : s1 = s.setDom d { m with st := st } := by
    simp only [s1, beq_eq_false_iff_ne.2 h, Bool.false_and, State.onlyIf_false]
  rw [h1]
  refine State.onlyIf_ind (P := fun u => u.regs = s.regs) (by rw [State.setDom]) fun _ => ?_
  unfold State.distNow State.dist
  split <;> rw [State.setDom]

/-- From `s` to `t` the register file stands, and a domain in HOLD remains there. -/
def StaysHeld (s t : State) : Prop := t.regs = s.regs ∧ ∀ d, (s.dom d).st = .hold → (t.dom d).st = .hold

theorem StaysHeld.trans {s t u : State} (h : StaysHeld s t) (h' : StaysHeld t u) : StaysHeld s u :=
  ⟨h'.1.trans h.1, fun d hd => h'.2 d (h.2 d hd)⟩

theorem State.enter_dom_ne (s : State) {c d : Nat} (st : DomState) (h : c ≠ d) : (s.enter d st).dom c = s.dom c := by
  unfold State.enter
  extract_lets m s1
  have h1 : s1.dom c = s.dom c :=
    (State.onlyIf_dom fun u => (u.raise_writes (domBase d) 20).dom c).trans (s.dom_setDom_ne _ h)
  exact (State.onlyIf_dom fun u => u.dist_dom _ c).trans h1

/-- A child follows its parent into HOLD (R110). -/
theorem State.childStep_follow_holds {s : State} {d c : Nat} (h : (s.dom d).st = .hold) :
    StaysHeld s (s.childStep d .follow c).1 ∧ ((s.childStep d .follow c).1.dom c).st = .hold := by
  unfold State.childStep
  extract_lets m r dir
  have entered := State.enter_dom (s.setDom c { m with rate := r, dir := dir }) c (s.dom d).st
  refine ⟨⟨?_, fun e he => ?_⟩, by rw [entered, h]⟩
  · rw [State.enter_regs _ _ (by rw [h]; decide), State.setDom]
  · by_cases hec : e = c
    · rw [hec, entered, h]
    · rw [State.enter_dom_ne _ _ hec, State.dom_setDom_ne _ _ hec, he]

theorem State.carry_follow_holds (fuel : Nat) {s : State} {d : Nat} (h : (s.dom d).st = .hold) :
    StaysHeld s (s.carry fuel d .follow) := by
  induction fuel generalizing s d with
  | zero => exact ⟨rfl, fun _ hd => hd⟩
  | succ fuel ih =>
    refine State.each_ind (P := StaysHeld s) ⟨rfl, fun _ hd => hd⟩ fun c _ u hu => ?_
    obtain ⟨stays, held⟩ := State.childStep_follow_holds (c := c) (hu.2 d h)
    exact (hu.trans stays).trans (ih held)

/-- A domain that enters HOLD writes no register, nor do its children (R112). -/
theorem State.goHold_regs (s : State) (d : Nat) : (s.goHold d).regs = s.regs := by
  unfold State.goHold
  extract_lets m dir
  have held := State.enter_dom (s.setDom d { m with rate := 0, dir := dir }) d .hold
  rw [(State.carry_follow_holds 8 (by rw [held])).1, State.enter_regs _ _ (by decide), State.setDom]

/-! ## STALLED -/

section
variable {r m : List Nat} {s t : State} {d : Nat} (h : Moves r m s t)
include h

theorem Moves.stalledNow (hr : s.Names r d) : Moves r m s (t.stalledNow d) :=
  ((h.count (.inl rfl) hr).raise hr).ev

theorem Moves.stallFlags : Moves r m s (t.stallFlags d) := by
  unfold State.stallFlags
  split
  · exact h
  · refine h.each fun i hi u hu => ?_
    have flagged := hu.setFlag (off := Reg.Evt.STALL_FLAG) (b := true) (State.mem_armedIn_lt hi) (by decide)
    exact flagged.onlyIf fun _ => flagged.setArm (State.mem_armedIn_lt hi)

omit h in
theorem State.stallChildren_keeps (fuel : Nat) (s : State) (d : Nat) : Moves [] [] s (s.stallChildren fuel d) := by
  induction fuel generalizing s d with
  | zero => exact .refl _ _ s
  | succ fuel ih =>
    refine (Moves.refl [] [] s).each fun c hc u hu => ?_
    obtain ⟨hlt, -, hsrc⟩ := State.mem_children hc
    have hn : s.Names [] c := ⟨hlt, .inl hsrc⟩
    exact (((hu.enter hn hn).stalledNow hn).stallFlags).trans (ih _ _)

end

/-- A domain's STATE became STALLED: its count and its flag (R113). -/
theorem State.stalledNow_spec (s : State) {d : Nat} (hd : d < 16) :
    (s.stalledNow d).bit (domReg d Reg.Hdr.IRQ_RAW) 16 = true ∧
      (s.stalledNow d).rdN (domReg d Reg.Dom.STALL_CNT) = min 0xFFFFFFFF (s.rdN (domReg d Reg.Dom.STALL_CNT) + 1) := by
  have stands {off : Nat} (ho : off < 0x1000) : (s.stalledNow d).rd (domReg d off) =
      ((s.count (domReg d Reg.Dom.STALL_CNT)).raise (domBase d) 16).rd (domReg d off) :=
    (State.ev_writes _ _ _).1 _ (counterReg_low (by unfold domReg domBase; omega))
  refine ⟨?flag, ?count⟩
  case flag =>
    rw [State.bit, stands (by decide)]
    exact State.bit_raise _ _ (by decide)
  case count =>
    rw [State.rdN, stands (by decide), (State.raise_writes _ _ _).1 _ (by simp [domReg, Reg.Dom.STALL_CNT, Reg.Hdr.IRQ_RAW])]
    exact State.rdN_count _ _

theorem stallTimeout_stalls {s : State} {d : Nat} (hst : (s.dom d).st = .hold)
    (hto : s.fld (domReg d Reg.Dom.STALL_TIMEOUT) 0 24 ≠ 0) (hsrc : s.domSrc d = 1 ∨ s.domSrc d = 2) :
    stallTimeout d s = (((s.enter d .stalled).stalledNow d).stallFlags d).stallChildren 8 d :=
  if_pos (by simp [hst, hto, hsrc])

/-! ## PHASE_READ -/

/-- The registers that a read of PHASE latches. -/
def latchRegs (d k : Nat) : Bool := decide (domReg d Reg.Dom.CYCLE ≤ k ∧ k ≤ domReg d Reg.Dom.DOM_TS_HI)

theorem latchRegs_off {d off : Nat} (h : Reg.Dom.CYCLE ≤ off) (h' : off ≤ Reg.Dom.DOM_TS_HI) : latchRegs d (domReg d off) = true := by
  rw [latchRegs, decide_eq_true_eq]
  unfold domReg
  omega

theorem phaseRead_keeps (d : Nat) (s : State) : Keeps (latchRegs d) s (phaseRead d s) :=
  (((((Keeps.refl _ s).wrN _ (latchRegs_off (by decide) (by decide))).wrN _ (latchRegs_off (by decide) (by decide))).wrN _
    (latchRegs_off (by decide) (by decide))).wr _ (latchRegs_off (by decide) (by decide))).wr _
    (latchRegs_off (by decide) (by decide)) |>.answer _

theorem phaseRead_rd (d : Nat) (s : State) :
    (phaseRead d s).rd (domReg d Reg.Dom.CYCLE) = word ((s.dom d).x / 2 ^ 32) ∧
      (phaseRead d s).rd (domReg d Reg.Dom.RATE_LO) = word (unsignedOf 32 (s.dom d).rate) ∧
      (phaseRead d s).rd (domReg d Reg.Dom.DOM_TS_LO) = s.tb0.tsLo ∧
      (phaseRead d s).rd (domReg d Reg.Dom.DOM_TS_HI) = s.tb0.tsHi := by
  simp only [phaseRead, State.stamp, State.rd_answer, State.wrN_eq, State.rd_wr, domReg, Nat.add_left_cancel_iff, Reg.Dom.CYCLE,
    Reg.Dom.RATE_LO, Reg.Dom.RATE_HI, Reg.Dom.DOM_TS_LO, Reg.Dom.DOM_TS_HI]
  exact ⟨rfl, rfl, rfl, rfl⟩

end Sys2Proof.Machine

open Sys2Proof Sys2Proof.Machine

/-- Settles O20: what follows the domain's own step is its children's and its events' (`State.carry_keeps`,
`State.stallChildren_keeps`), and HOLD writes no register. -/
theorem domainEvents : Obligations.DomainEvents := by
  unfold Obligations.DomainEvents
  intro s d
  refine ⟨fun hsrc hst hep => ⟨_, rfl, ?starts⟩, fun hep => ⟨_, rfl, if_neg (by simp [hep])⟩,
    fun hst hrate hcl => ⟨_, rfl, ?holds⟩, fun hst => ⟨_, rfl, if_neg (by simp [hst])⟩,
    fun hst hto hsrc => ⟨_, rfl, ?stalls⟩, fun hto => ⟨_, rfl, if_neg (by simp [hto])⟩, fun acc hs => ?read⟩
  case starts =>
    let u := (s.setDom d.val { s.dom d.val with p := s.idealPos d.val, rate := s.timeRate d.val, dir := some false }).enter d.val .run
    have he : timeEpochReached d.val s = u.carry 8 d.val .anchor := if_pos (by simp [hsrc, hst, hep])
    have hn : s.Names [d.val] d.val := ⟨d.isLt, .inr (by simp)⟩
    have moved : Moves [d.val] [d.val] s u := ((Moves.refl _ _ s).setDom hn).enter hn hn
    have hc : u.domSrc d.val ≠ 3 := by rw [moved.domSrc d.isLt, hsrc]; decide
    have carried := u.carry_keeps 8 d.val .anchor
    have entered : u.dom d.val =
        { s.dom d.val with st := .run, p := s.idealPos d.val, rate := s.timeRate d.val, dir := some false } := by
      rw [State.enter_dom, State.dom_setDom_same]
    have own : (u.carry 8 d.val .anchor).dom d.val = _ := (carried.dom _ d.isLt hc (by simp)).trans entered
    rw [he]
    refine ⟨by rw [own], by rw [own], by rw [own], ?_⟩
    have regs := carried.rd _ (State.apart_unnamed d.isLt hc (by simp) (off := Reg.Hdr.IRQ_RAW) (by decide))
    refine (congrArg (bitOf · 20) regs).trans ?_
    exact State.enter_run_raises (by rw [State.dom_setDom_same]; exact hst)
  case holds =>
    have he : domainHold d.val s = s.goHold d.val := if_pos (by simp [hst, hrate, hcl])
    have hc : s.domSrc d.val ≠ 3 := by
      intro h
      simp [State.clampOf, h] at hcl
    obtain ⟨hold, rate, pos⟩ := State.goHold_dom d.isLt hc
    rw [he]
    exact ⟨hold, rate, pos, s.goHold_regs _⟩
  case stalls =>
    rw [stallTimeout_stalls hst hto hsrc]
    have hn : s.Names [d.val] d.val := ⟨d.isLt, .inr (by simp)⟩
    have hc : s.domSrc d.val ≠ 3 := by omega
    have entered : Moves [d.val] [d.val] s (s.enter d.val .stalled) := (Moves.refl _ _ s).enter hn hn
    have stalled := entered.stalledNow hn
    have flagged := (Moves.refl [] [] ((s.enter d.val .stalled).stalledNow d.val)).stallFlags (d := d.val)
    have after := flagged.trans (State.stallChildren_keeps 8 _ d.val)
    have hc' : ((s.enter d.val .stalled).stalledNow d.val).domSrc d.val ≠ 3 := by rwa [stalled.domSrc d.isLt]
    have stands {off : Nat} (ho : off < 0x1000) := after.rd _ (State.apart_unnamed d.isLt hc' (by simp) ho)
    obtain ⟨flag, count⟩ := (s.enter d.val .stalled).stalledNow_spec d.isLt
    refine ⟨?_, ?_, ?_⟩
    · have own : ((s.enter d.val .stalled).stalledNow d.val).dom d.val = (s.enter d.val .stalled).dom d.val :=
        ((Moves.refl [d.val] [] _).stalledNow ⟨d.isLt, .inr (by simp)⟩).dom _ d.isLt (by rwa [entered.domSrc d.isLt]) (by simp)
      rw [after.dom _ d.isLt hc' (by simp), own, State.enter_dom]
    · rw [State.bit, stands (by decide)]
      exact flag
    · rw [State.rdN, stands (by decide), ← State.rdN, count, State.rdN, State.rd_congr (s.enter_regs _ (by decide))]
      rfl
  case read =>
    refine ⟨_, congrArg Host.Outcome.next (State.read_accept s acc _ _ hs), rfl, ?_⟩
    obtain ⟨cycle, rate, lo, hi⟩ := phaseRead_rd d.val s
    exact ⟨cycle, rate, lo, hi, phaseRead_keeps d.val s⟩
end

section
/-! PROOFS. O22: the event table's shadow, commits and their refusal (R118, R119, R144). -/

namespace Sys2Proof.Machine

/-! ## Why a commit is refused -/

/-- Two states whose registers read alike, the comparison's write counters aside, with the same active half. -/
def Alike (s t : State) : Prop :=
  t.activeHalf = s.activeHalf ∧ ∀ k, k % 0x1000 ≠ Reg.Local.CMP_WRITES → t.rd k = s.rd k

theorem State.taken_alike (s : State) (acc : Access) (addr : Nat) (v : Word) : Alike s (s.taken acc addr v) :=
  ⟨State.taken_eq (·.activeHalf) fun _ _ _ _ => rfl, fun _ => State.taken_rd⟩

section
variable {s t : State} (h : Alike s t)
include h

theorem Alike.groupChans (fuel g : Nat) : t.groupChans fuel g = s.groupChans fuel g := by
  obtain ⟨-, hr⟩ := h
  induction fuel generalizing g with
  | zero => rfl
  | succ fuel ih =>
    have hc : t.bitList (cgBase g + Reg.Cg.CH_MEMB) 128 = s.bitList (cgBase g + Reg.Cg.CH_MEMB) 128 :=
      State.bitList_congr fun i hi => hr _ (by unfold cgBase Reg.Cg.CH_MEMB Reg.Local.CMP_WRITES; omega)
    have hg : t.bitList (cgBase g + Reg.Cg.GRP_MEMB) 64 = s.bitList (cgBase g + Reg.Cg.GRP_MEMB) 64 :=
      State.bitList_congr fun i hi => hr _ (by unfold cgBase Reg.Cg.GRP_MEMB Reg.Local.CMP_WRITES; omega)
    rw [State.groupChans, State.groupChans, hc, hg, funext ih]

theorem Alike.targetPages (a n : Nat) : t.targetPages a n = s.targetPages a n := by
  simp only [State.targetPages, State.targetChans, h.groupChans]

omit h in
/-- The pages of targets are pages. -/
theorem State.targetPages_mod {a n b : Nat} (hb : b ∈ s.targetPages a n) : b % 0x1000 = 0 := by
  have pages (k : Nat) : chanBase k % 0x1000 = 0 ∧ cgBase k % 0x1000 = 0 ∧ portBase k % 0x1000 = 0 := by
    unfold chanBase cgBase portBase
    omega
  unfold State.targetPages at hb
  split at hb
  · rcases List.mem_append.1 hb with hb | hb
    · obtain ⟨k, -, rfl⟩ := List.mem_map.1 hb
      exact (pages k).1
    · split at hb
      · exact List.mem_singleton.1 hb ▸ (pages _).2.1
      · cases hb
  · split at hb
    · exact List.mem_singleton.1 hb ▸ (pages _).2.2
    · split at hb
      · exact List.mem_singleton.1 hb ▸ rfl
      · cases hb

theorem Alike.evOwnerOk (i : Nat) (w1 : Word) : t.evOwnerOk i w1 = s.evOwnerOk i w1 := by
  have owner {b : Nat} (hb : b % 0x1000 = 0) : t.rd (b + Reg.Hdr.OWNER) = s.rd (b + Reg.Hdr.OWNER) :=
    h.2 _ (by unfold Reg.Hdr.OWNER Reg.Local.CMP_WRITES; omega)
  unfold State.evOwnerOk
  rw [h.targetPages, owner (by unfold evtBase; omega)]
  refine Bool.eq_iff_iff.2 ?_
  rw [List.all_eq_true, List.all_eq_true]
  refine forall₂_congr fun b hb => ?_
  rw [owner (State.targetPages_mod hb), h.1]
  simp only [State.halfOk, h.1]

/-- R119 judges a commit by the registers and the active half. -/
theorem Alike.commitReason (i : Nat) (w1 w3 : Word) : t.commitReason i w1 w3 = s.commitReason i w1 w3 := by
  simp only [State.commitReason, h.evOwnerOk]

end

/-! ## The shadow -/

/-- The shadow of an EVT page set. -/
def State.setShadow (s : State) (k : Nat) (sh : EvtShadow) : State := { s with evtShadow := Tbl.set {} s.evtShadow k sh }

section
variable (s : State) (k : Nat) (sh : EvtShadow)

theorem State.setShadow_shadow : (s.setShadow k sh).shadow k = sh := by
  unfold State.shadow State.setShadow
  exact Tbl.get_set_same {} s.evtShadow k sh

theorem State.setShadow_resp : (s.setShadow k sh).resp = s.resp := rfl

theorem State.setShadow_rd (j : Nat) : (s.setShadow k sh).rd j = s.rd j := State.rd_congr rfl j

variable {s}

/-- A shadow set after an access. -/
theorem Keeps.setShadow {p : Nat → Bool} {t : State} (h : Keeps p s t) :
    Keeps p { s with evtShadow := (t.setShadow k sh).evtShadow } (t.setShadow k sh) := by
  obtain ⟨hr, ho, hh⟩ := h
  exact ⟨hr, by rw [State.setShadow, ho], hh⟩

theorem Writes.shadow {p : Nat → Bool} {t : State} (h : Writes p s t) (k : Nat) : t.shadow k = s.shadow k := by
  rw [State.shadow, State.shadow, h.2]

/-- What is written besides the shadows is written to registers. -/
theorem Keeps.reshadow {p : Nat → Bool} {t u : State} (h : Keeps p { s with evtShadow := t.evtShadow } t) (hw : Writes p t u) :
    Keeps p { s with evtShadow := u.evtShadow } u := by
  have he : u.evtShadow = t.evtShadow := by rw [hw.2]
  rw [he]
  exact h.writes hw

end

theorem evtShadowWrite_compat {i j : Nat} {v : Word} {s : State} (h : isCompat i = true) : evtShadowWrite i j v s = s := if_pos h

/-- The shadow of an event's page as a write of one word leaves it (R118). -/
def EvtShadow.put (sh : EvtShadow) (i j : Nat) (v : Word) : EvtShadow :=
  let sh : EvtShadow := if sh.idx = some i then sh else { idx := some i }
  if j = 0 then { sh with w0 := some v } else if j = 2 then { sh with w2 := some v }
    else if j = 3 then { sh with w3 := some v } else sh

theorem evtShadowWrite_entry {i j : Nat} {v : Word} {s : State} (h : isCompat i = false) :
    evtShadowWrite i j v s = s.setShadow (i / 128) ((s.shadow (i / 128)).put i j v) :=
  if_neg (by simp [h])

theorem EvtShadow.put_spec (sh : EvtShadow) (i : Nat) (j : Fin 4) (v : Word) :
    (sh.put i j.val v).idx = some i ∧
      (sh.put i j.val v).w0 = (if j = 0 then some v else if sh.idx = some i then sh.w0 else none) ∧
      (sh.put i j.val v).w2 = (if j = 2 then some v else if sh.idx = some i then sh.w2 else none) ∧
      (sh.put i j.val v).w3 = (if j = 3 then some v else if sh.idx = some i then sh.w3 else none) := by
  unfold EvtShadow.put
  by_cases hs : sh.idx = some i
  all_goals
    match j with
    | 0 | 1 | 2 | 3 => simp [hs]

/-! ## A commit -/

/-- The shadow of event i's page emptied. -/
def State.unshadow (s : State) (i : Nat) : State := s.setShadow (i / 128) {}

theorem State.unshadow_alike (s : State) (i : Nat) : Alike s (s.unshadow i) := ⟨rfl, fun _ _ => rfl⟩

/-- The word a commit enters: the shadowed one, if the shadow is the entry's and holds it. -/
def State.committed (s : State) (i : Nat) (w : EvtShadow → Option Word) (j : Nat) : Word :=
  if (s.shadow (i / 128)).idx = some i then (w (s.shadow (i / 128))).getD (s.rd (evtWord i j)) else s.rd (evtWord i j)

/-- The content of a commit, without the reserved bits (R115). -/
def commitWord1 (v : Word) : Word := setBit v 30 false

def State.commitWord3 (s : State) (i : Nat) (v : Word) : Word :=
  if evAction (commitWord1 v) = 6 then s.committed i (·.w3) 3 else s.committed i (·.w3) 3 &&& 0xFFFF

/-- A refused commit: counted, shown and raised (R119). -/
def State.refuseCommit (s : State) (i r : Nat) : State :=
  ((s.count (hrnBase + Reg.Hrn.COMMIT_REFUSED)).wrN (hrnBase + Reg.Hrn.LAST_REFUSED) (2 ^ 31 + r * 2 ^ 16 + i)).raise hrnBase 20

/-- The words of an entry as a commit enters them. -/
def State.enterWords (s : State) (i : Nat) (w0 w2 w3 w1 : Word) : State :=
  (((s.wr (evtWord i 0) w0).wr (evtWord i 2) w2).wr (evtWord i 3) w3).wr (evtWord i 1) w1

/-- What a commit does once the words are entered: its occurrence and its binding (R121, R123). -/
def State.settleCommit (s : State) (i : Nat) (arm : Bool) : State :=
  let s := (s.commitPlaced i).showPlaced i
  s.onlyIf (arm && !s.placed.any (·.idx == i)) (·.bind i)

section
variable {s : State} {i : Nat} {v : Word}

theorem EvtShadow.committed_eq (sh : EvtShadow) (w : EvtShadow → Option Word) (x : Word) (hw : w {} = none) :
    (w (if sh.idx = some i then sh else {})).getD x = if sh.idx = some i then (w sh).getD x else x := by
  split
  · rfl
  · rw [hw, Option.getD_none]

theorem evtCommit_eq (h : isCompat i = false) :
    evtCommit i v s =
      let r := s.commitReason i (commitWord1 v) (s.commitWord3 i v)
      if r ≠ 0 then (s.unshadow i).refuseCommit i r
      else ((s.unshadow i).enterWords i (s.committed i (·.w0) 0) (s.committed i (·.w2) 2) (s.commitWord3 i v) (commitWord1 v)).settleCommit
        i (evArm (commitWord1 v)) := by
  unfold evtCommit
  rw [if_neg (by simp [h])]
  extract_lets sh0 sh w1 w3 w3' s1 r s2 s3 s4 s5 s6 r'
  have hw (w : EvtShadow → Option Word) (hn : w {} = none) (j : Nat) : (w sh).getD (s.rd (evtWord i j)) = s.committed i w j :=
    sh0.committed_eq w _ hn
  have h3 : w3' = s.commitWord3 i v := by
    have hw3 : w3 = s.committed i (·.w3) 3 := hw (·.w3) rfl 3
    simp only [w3', hw3]
    rfl
  have hr : r = r' := by
    simp only [r, h3]
    exact (s.unshadow_alike i).commitReason _ _ _
  have h0 : sh.w0.getD (s1.rd (evtWord i 0)) = s.committed i (·.w0) 0 := hw (·.w0) rfl 0
  have h2 : sh.w2.getD (s2.rd (evtWord i 2)) = s.committed i (·.w2) 2 := by
    rw [← hw (·.w2) rfl, State.rd_wr_ne _ _ _ _ (evtWord_ne (by decide) (by decide) (.inr (by decide)))]
    rfl
  have entered : s5 = (s.unshadow i).enterWords i (s.committed i (·.w0) 0) (s.committed i (·.w2) 2) (s.commitWord3 i v)
      (commitWord1 v) := by
    rw [← h0, ← h2, ← h3]
    rfl
  by_cases hz : r' = 0
  · rw [if_neg (by simp [hr, hz]), if_neg (by simp [hz]), ← entered]
    rfl
  · rw [if_pos (by simpa [hr] using hz), if_pos hz, hr]
    rfl

end

section
variable {s : State} {acc : Access} {addr : Nat} {w v : Word} {i : Nat}

theorem State.taken_shadow (k : Nat) : (s.taken acc addr w).shadow k = s.shadow k := State.taken_eq (·.shadow k) fun _ _ _ _ => rfl

/-- A commit enters what the access found. -/
theorem State.taken_committed (f : EvtShadow → Option Word) {j : Nat} (hj : j < 4) :
    (s.taken acc addr w).committed i f j = s.committed i f j := by
  have hr : (s.taken acc addr w).rd (evtWord i j) = s.rd (evtWord i j) := by
    refine State.taken_rd ?_
    have := evtWord_mod (i := i) hj
    unfold Reg.Local.CMP_WRITES
    omega
  simp only [State.committed, State.taken_shadow, hr]

theorem State.taken_commitWord3 : (s.taken acc addr w).commitWord3 i v = s.commitWord3 i v := by
  simp only [State.commitWord3, State.taken_committed _ (show 3 < 4 by decide)]

theorem evtCommit_entered (h : isCompat i = false) (hr : s.commitReason i (commitWord1 v) (s.commitWord3 i v) = 0) :
    evtCommit i v (s.taken acc addr w) =
      (((s.taken acc addr w).unshadow i).enterWords i (s.committed i (·.w0) 0) (s.committed i (·.w2) 2) (s.commitWord3 i v)
        (commitWord1 v)).settleCommit i (evArm (commitWord1 v)) := by
  rw [evtCommit_eq h, (s.taken_alike _ _ _).commitReason, State.taken_commitWord3, State.taken_committed _ (by decide),
    State.taken_committed _ (by decide)]
  exact if_neg (not_not_intro hr)

theorem evtCommit_refused (h : isCompat i = false) (hr : s.commitReason i (commitWord1 v) (s.commitWord3 i v) ≠ 0) :
    evtCommit i v (s.taken acc addr w) =
      ((s.taken acc addr w).unshadow i).refuseCommit i (s.commitReason i (commitWord1 v) (s.commitWord3 i v)) := by
  rw [evtCommit_eq h, (s.taken_alike _ _ _).commitReason, State.taken_commitWord3]
  exact if_pos hr

end

/-! ## A refused commit -/

/-- The registers of HRN a refused commit writes. -/
def refuseRegs (k : Nat) : Bool :=
  k == hrnBase + Reg.Hrn.LAST_REFUSED || k == hrnBase + Reg.Hrn.COMMIT_REFUSED || k == hrnBase + Reg.Hdr.IRQ_RAW

theorem State.refuseCommit_writes (s : State) (i r : Nat) : Writes refuseRegs s (s.refuseCommit i r) :=
  (((s.count_writes _).mono (by simp [refuseRegs])).wr (by simp [refuseRegs]) _).trans
    ((State.raise_writes _ _ _).mono (by simp [refuseRegs]))

theorem State.refuseCommit_spec (s : State) (i r : Nat) :
    (s.refuseCommit i r).rd (hrnBase + Reg.Hrn.LAST_REFUSED) = word (2 ^ 31 + r * 2 ^ 16 + i) ∧
      (s.refuseCommit i r).rdN (hrnBase + Reg.Hrn.COMMIT_REFUSED) =
        min 0xFFFFFFFF (s.rdN (hrnBase + Reg.Hrn.COMMIT_REFUSED) + 1) ∧
      (s.refuseCommit i r).bit (hrnBase + Reg.Hdr.IRQ_RAW) 20 = true := by
  refine ⟨?last, ?count, State.bit_raise _ _ (by decide)⟩
  case last =>
    rw [State.refuseCommit, (State.raise_writes _ _ _).1 _ (by decide), State.wrN_eq, State.rd_wr_same]
  case count =>
    rw [State.rdN, State.refuseCommit, (State.raise_writes _ _ _).1 _ (by decide), State.wrN_eq,
      State.rd_wr_ne _ _ _ _ (by decide)]
    exact s.rdN_count _

/-! ## A commit that is taken -/

section
variable (s : State) (i : Nat) (w0 w1 w2 w3 : Word) (arm : Bool)

theorem State.enterWords_rd :
    (s.enterWords i w0 w2 w3 w1).rd (evtWord i 0) = w0 ∧ (s.enterWords i w0 w2 w3 w1).rd (evtWord i 1) = w1 ∧
      (s.enterWords i w0 w2 w3 w1).rd (evtWord i 2) = w2 ∧ (s.enterWords i w0 w2 w3 w1).rd (evtWord i 3) = w3 := by
  simp [State.enterWords, State.rd_wr, evtWord]

theorem State.commitPlaced_rd (k : Nat) : (s.commitPlaced i).rd k = s.rd k := State.rd_congr rfl k

/-- A commit's occurrence writes its flag, and binding it the word CYCLE of a NEXT entry that is armed. -/
theorem State.settleCommit_rd {j : Nat} (hj : j < 4) (h : j ≠ 2 ∨ arm = false ∨ evAt (s.rd (evtWord i 1)) = true) :
    (s.settleCommit i arm).rd (evtWord i j) = s.rd (evtWord i j) := by
  have entry {j : Nat} (hj : j < 4) : ((s.commitPlaced i).showPlaced i).rd (evtWord i j) = s.rd (evtWord i j) := by
    rw [(State.showPlaced_writes _ i).1 _ (beq_false_of_ne (evtWord_ne_flagKey hj (by decide))), State.commitPlaced_rd]
  rw [← entry hj]
  unfold State.settleCommit
  refine State.onlyIf_ind (P := fun u => u.rd (evtWord i j) = _) rfl fun harm => ?_
  rcases h with h | h | h
  · exact (State.bind_writes _ i).1 _ (beq_false_of_ne (evtWord_ne hj (by decide) (.inr h)))
  · simp [h] at harm
  · exact State.rd_congr (congrArg _ (if_pos (by rw [entry (by decide), h]))) _

/-- An answer and the shadows stand through what a commit does. -/
theorem State.settleCommit_rest : (s.settleCommit i arm).resp = s.resp ∧ (s.settleCommit i arm).evtShadow = s.evtShadow := by
  unfold State.settleCommit
  have shown : Writes (· == flagKey Reg.Evt.PLACED i) (s.commitPlaced i) ((s.commitPlaced i).showPlaced i) :=
    State.showPlaced_writes _ i
  refine State.onlyIf_ind (P := fun u => u.resp = s.resp ∧ u.evtShadow = s.evtShadow) ?shown fun _ => ?bound
  case shown =>
    rw [shown.2]
    exact ⟨rfl, rfl⟩
  case bound =>
    rw [(State.bind_writes _ i).2, shown.2]
    exact ⟨rfl, rfl⟩

theorem State.enterWords_rest : (s.enterWords i w0 w2 w3 w1).resp = s.resp ∧ (s.enterWords i w0 w2 w3 w1).evtShadow = s.evtShadow :=
  ⟨rfl, rfl⟩

/-- An entry after a commit (R118, R121). -/
theorem State.entered_spec :
    let t := (s.enterWords i w0 w2 w3 w1).settleCommit i (evArm w1)
    t.resp = s.resp ∧ t.rd (evtWord i 0) = w0 ∧ t.rd (evtWord i 1) = w1 ∧ t.rd (evtWord i 3) = w3 ∧
      (∀ k, t.shadow k = s.shadow k) ∧ (evArm w1 = false ∨ evAt w1 = true → t.rd (evtWord i 2) = w2) := by
  obtain ⟨r0, r1, r2, r3⟩ := s.enterWords_rd i w0 w1 w2 w3
  obtain ⟨resp, shadow⟩ := (s.enterWords i w0 w2 w3 w1).settleCommit_rest i (evArm w1)
  obtain ⟨resp', shadow'⟩ := s.enterWords_rest i w0 w1 w2 w3
  exact ⟨resp.trans resp', (State.settleCommit_rd _ _ _ (by decide) (.inl (by decide))).trans r0,
    (State.settleCommit_rd _ _ _ (by decide) (.inl (by decide))).trans r1,
    (State.settleCommit_rd _ _ _ (by decide) (.inl (by decide))).trans r3,
    fun k => by rw [State.shadow, State.shadow, shadow, shadow'],
    fun h => (State.settleCommit_rd _ _ _ (by decide) (.inr (by rwa [r1]))).trans r2⟩

end

end Sys2Proof.Machine

open Sys2Proof Sys2Proof.Machine

/-- Settles O22: what a commit enters and what R119 judges it by is what the access found (`Alike.commitReason`). -/
theorem eventTable : Obligations.EventTable := by
  unfold Obligations.EventTable
  refine ⟨fun s acc i j v ht => ⟨fun hc => leads_taken ht rfl ?ignored, fun hc hj => leads_taken ht rfl ?shadow⟩,
    fun s acc i v ht hc => ⟨fun hr => leads_taken ht rfl ?entered, fun hr => leads_taken ht rfl ?refused⟩⟩
  case ignored =>
    rw [evtShadowWrite_compat hc]
    exact ⟨rfl, s.taken_frame _ _ _ _⟩
  case shadow =>
    rw [evtShadowWrite_entry hc, State.taken_shadow]
    obtain ⟨idx, w0, w2, w3⟩ := (s.shadow (i.val / 128)).put_spec i.val j v
    rw [State.setShadow_shadow]
    exact ⟨idx, w0, w2, w3, (s.taken_frame _ _ _ _).setShadow _ _⟩
  case entered =>
    rw [evtCommit_entered hc hr]
    obtain ⟨resp, r0, r1, r3, shadow, r2⟩ := ((s.taken acc (evtWord i.val 1) v).unshadow i.val).entered_spec i.val
      (s.committed i.val (·.w0) 0) (commitWord1 v) (s.committed i.val (·.w2) 2) (s.commitWord3 i.val v)
    exact ⟨resp.trans (State.setShadow_resp _ _ _), r0, r1, r3, (shadow _).trans (State.setShadow_shadow _ _ _), r2⟩
  case refused =>
    rw [evtCommit_refused hc hr]
    let u := (s.taken acc (evtWord i.val 1) v).unshadow i.val
    let r := s.commitReason i.val (commitWord1 v) (s.commitWord3 i.val v)
    obtain ⟨last, count, flag⟩ := u.refuseCommit_spec i.val r
    have writes := u.refuseCommit_writes i.val r
    have kept : Keeps refuseRegs { s with evtShadow := u.evtShadow } u := (s.taken_frame _ acc _ v).setShadow _ _
    have counted : u.rdN (hrnBase + Reg.Hrn.COMMIT_REFUSED) = s.rdN (hrnBase + Reg.Hrn.COMMIT_REFUSED) :=
      congrArg BitVec.toNat ((State.setShadow_rd _ _ _ _).trans (State.taken_rd (by decide)))
    rw [counted] at count
    refine ⟨writes.resp.trans (State.setShadow_resp _ _ _), ?_, last, count, flag, kept.reshadow writes⟩
    exact (writes.shadow _).trans (State.setShadow_shadow _ _ _)
end

section
/-! PROOFS. O19: ON, OFF and PRST of a phase domain (R97, R98, R99, R105, R111). -/

namespace Sys2Proof.Machine

/-! ## What an accepted write hands ON -/

section
variable {d : Nat} {s t : State}

theorem Stands.cfgField (h : Stands d s t) {off : Nat} (lo n : Nat) (ho : off < 0x1000) (h1 : off ≠ Reg.Hdr.IRQ_RAW)
    (h2 : off ≠ Reg.Dom.STALL_CNT) (h3 : off ≠ Reg.Dom.EDGE_ERR_CNT) : t.fld (domReg d off) lo n = s.fld (domReg d off) lo n := by
  rw [State.fld, State.fld, h.rd off ho h1 h2 h3]

theorem Stands.initPhase (h : Stands d s t) : t.rdN (domReg d Reg.Dom.INIT_PHASE) = s.rdN (domReg d Reg.Dom.INIT_PHASE) := by
  rw [State.rdN, State.rdN, h.rd _ (by decide) (by decide) (by decide) (by decide)]

theorem Stands.domClock (h : Stands d s t) : t.domClock d = s.domClock d :=
  h.cfgField _ _ (by decide) (by decide) (by decide) (by decide)

theorem Stands.domParent (h : Stands d s t) : t.domParent d = s.domParent d :=
  h.cfgField _ _ (by decide) (by decide) (by decide) (by decide)

theorem Stands.timeEpoch (h : Stands d s t) : t.timeEpoch d = s.timeEpoch d := by
  rw [State.timeEpoch, State.timeEpoch, State.rdN, State.rdN,
    h.rd Reg.Dom.TIME_EPOCH_SEC_LO (by decide) (by decide) (by decide) (by decide),
    h.cfgField _ _ (by decide) (by decide) (by decide) (by decide), h.cfgField _ _ (by decide) (by decide) (by decide) (by decide)]

theorem Stands.timePeriod (h : Stands d s t) : t.timePeriod d = s.timePeriod d := by
  rw [State.timePeriod, State.timePeriod, State.rdN, State.rdN,
    h.rd Reg.Dom.TIME_PERIOD_NS (by decide) (by decide) (by decide) (by decide),
    h.cfgField _ _ (by decide) (by decide) (by decide) (by decide)]

theorem State.clockOf_congr (ht : t.time = s.time) (c : Nat) : t.clockOf c = s.clockOf c := by
  simp only [State.clockOf, State.tb0, State.tb1, ht]

/-- Where a TIME domain stands (R99). -/
theorem Stands.ideal (h : Stands d s t) (ht : t.time = s.time) :
    t.epochPassed d = s.epochPassed d ∧ t.idealPos d = s.idealPos d ∧ t.timeRate d = s.timeRate d := by
  simp only [State.epochPassed, State.idealPos, State.timeRate, h.timeEpoch, h.timePeriod, h.domClock, State.clockOf_congr ht,
    and_self]

end

theorem State.domParent_lt (s : State) (d : Nat) : s.domParent d < 16 := Nat.mod_lt _ (by decide)

/-- Every domain stands. -/
def AllStand (s t : State) : Prop := ∀ d < 16, Stands d s t

section
variable {s t : State} (h : AllStand s t)
include h

theorem AllStand.parent (d : Nat) : Stands (s.domParent d) s t := h _ (State.domParent_lt s d)

theorem AllStand.chainLen (fuel top : Nat) {d : Nat} (hd : d < 16) : t.chainLen fuel top d = s.chainLen fuel top d := by
  induction fuel generalizing d with
  | zero => rfl
  | succ fuel ih =>
    rw [State.chainLen, State.chainLen, (h d hd).domSrc, (h d hd).domParent, ih (State.domParent_lt s d)]

/-- R111 judges ON by what the domains are. -/
theorem AllStand.onRefused {d : Nat} (hd : d < 16) : t.onRefused d = s.onRefused d := by
  have num : t.childNum d = s.childNum d :=
    congrArg (signedOf 16) ((h d hd).cfgField _ _ (by decide) (by decide) (by decide) (by decide))
  have den : t.childDen d = s.childDen d := (h d hd).cfgField _ _ (by decide) (by decide) (by decide) (by decide)
  simp only [State.onRefused, (h d hd).domSrc, (h d hd).domClock, (h d hd).angMode, h.chainLen 9 d hd, (h d hd).domParent,
    (h.parent d).dom, num, den]

theorem AllStand.children (d : Nat) : t.children d = s.children d :=
  List.filter_congr fun c hc => by
    have hc := h c (List.mem_range.1 hc)
    rw [hc.domSrc, hc.domParent, hc.dom]

end

/-! ## The status of a unit -/

theorem bitsOf_low (w : Word) : bitsOf w 0 1 = bitsOf w 0 6 % 2 := (Nat.mod_mod_of_dvd _ (by decide)).symm

theorem State.setUnit_on (s : State) (b : Nat) (on : Bool) : (s.setUnit b on false false 0).bit (b + Reg.Hdr.UNIT_STAT) 0 = on := by
  let u := s.setFld (b + Reg.Hdr.UNIT_STAT) 0 6 (b2n on + 2 * b2n false + 4 * b2n false + 8 * (0 % 8))
  have hw : Writes (· == b + Reg.Hdr.IRQ_RAW) u (s.setUnit b on false false 0) :=
    Writes.onlyIf ((Writes.refl _ u).onlyIf fun _ => State.raise_writes _ _ _) fun _ => State.raise_writes _ _ _
  have stat : u.rd (b + Reg.Hdr.UNIT_STAT) = setBits (s.rd (b + Reg.Hdr.UNIT_STAT)) 0 6 _ := State.rd_wr_same _ _ _
  rw [State.bit, hw.1 _ (by simp [Reg.Hdr.UNIT_STAT, Reg.Hdr.IRQ_RAW]), stat, bitOf, bitsOf_low, bitsOf_setBits_same _ _ (by decide)]
  cases on <;> rfl

/-- A command that ends: its result, and the unit on or off. -/
def State.Ends (t : State) (b : Nat) (on : Bool) : Prop :=
  t.fld (b + Reg.Hdr.UNIT_STAT) 7 3 = CmdResult.done.code ∧ t.bit (b + Reg.Hdr.UNIT_STAT) 0 = on ∧ t.bit (b + Reg.Hdr.IRQ_RAW) 2 = true

theorem State.cmdResult_ends {s : State} {b : Nat} {on : Bool} (h : s.bit (b + Reg.Hdr.UNIT_STAT) 0 = on) :
    (s.cmdResult b .done).Ends b on := by
  refine ⟨s.cmdResult_code b _, ?_, s.cmdResult_done b _⟩
  rw [State.bit, s.cmdResult_stat, bitOf, bitsOf_setBits_below _ _ (by decide) (by decide)]
  exact h

/-! ## ON -/

section
variable {s : State} {d : Nat}

/-- The record of a domain that starts, and its children's and its events' part in it. -/
def State.turnedOn (s : State) (d : Nat) : State :=
  let was := (s.dom d).st
  let m := s.startDom d
  let s := (s.setDom d { m with st := was }).enter d m.st
  let s := (s.onlyIf (m.st == .stalled && was != .stalled) (·.stalledNow d)).carry 8 d .anchor
  s.each (s.armed.filter (fun i => !isCompat i && evDomain (s.rd (evtWord i 1)) == d)) (fun s i => s.bind i)

theorem domainOn_refused (h : s.onRefused d = true) : domainOn d s = s.cmdResult (domBase d) .refused := if_pos h

theorem domainOn_starts (h : s.onRefused d = false) :
    domainOn d s = ((s.turnedOn d).setUnit (domBase d) true false false 0).cmdResult (domBase d) .done :=
  if_neg (by simp [h])

theorem State.turnedOn_dom (hd : d < 16) (hc : s.domSrc d ≠ 3) : (s.turnedOn d).dom d = s.startDom d := by
  unfold State.turnedOn
  extract_lets was m s1 s2
  have hn : s.Names [d] d := ⟨hd, .inr (by simp)⟩
  have h1 : Moves [d] [d] s s1 := ((Moves.refl _ _ s).setDom hn).enter hn hn
  have hc1 : s1.domSrc d ≠ 3 := by rwa [h1.domSrc hd]
  have entered : s1.dom d = m := by
    simp only [s1]
    rw [State.enter_dom, State.dom_setDom_same]
  have after : Moves [d] [] s1 s2 :=
    ((Moves.refl [d] [] s1).onlyIf fun _ => (Moves.refl [d] [] s1).stalledNow ⟨hd, .inr (by simp)⟩).carry
  refine ((after.each fun i hi u hu => hu.bind ?_).dom d hd hc1 (by simp)).trans entered
  exact State.mem_armed_lt (List.mem_of_mem_filter hi)

/-- ON of a domain that is no CHILD ends with the record it starts with (R98). -/
theorem domainOn_spec (hr : s.onRefused d = false) (hd : d < 16) (hc : s.domSrc d ≠ 3) :
    (domainOn d s).Ends (domBase d) true ∧ (domainOn d s).dom d = s.startDom d := by
  rw [domainOn_starts hr]
  refine ⟨State.cmdResult_ends (State.setUnit_on _ _ _), ?_⟩
  rw [(State.cmdResult_writes _ _ _).dom, (State.setUnit_writes _ _ _ _ _ _).dom, State.turnedOn_dom hd hc]

theorem State.startDom_time (h : s.domSrc d = 0) :
    s.startDom d = if s.epochPassed d then { st := .run, p := s.idealPos d, rate := s.timeRate d, dir := some false }
      else { st := .wait } := by
  simp only [State.startDom, h]

/-- A QUAD or SINGLE domain starts at INIT_PHASE (R105). -/
theorem State.startDom_angle (h : s.domSrc d = 1) (hm : s.angMode d ≠ 1) :
    (s.startDom d).st = .wait ∧ (s.startDom d).x = s.rdN (domReg d Reg.Dom.INIT_PHASE) ∧ (s.startDom d).rate = 0 := by
  simp only [State.startDom, h, if_neg hm, Dom.x]
  exact ⟨trivial, Nat.mul_div_cancel _ (by decide), trivial⟩

end

/-! ## OFF -/

/-- A domain goes OFF, its children apart (R97). -/
def State.haltDom (s : State) (d : Nat) : State :=
  (((s.setDom d { s.dom d with rate := 0, lag := none }).enter d .off).withdraw d none).setUnit (domBase d) false false false 0

theorem State.stopDom_succ (s : State) (fuel d : Nat) :
    s.stopDom (fuel + 1) d = (s.haltDom d).each (s.children d) (fun u c => u.stopDom fuel c) := rfl

/-- What each domain that goes OFF keeps, OFF of a domain keeps. -/
theorem State.stopDom_ind {P : State → Prop} (hP : ∀ u e, e < 16 → P u → P (u.haltDom e)) (fuel : Nat) {s : State} {d : Nat}
    (hd : d < 16) (h : P s) : P (s.stopDom fuel d) := by
  induction fuel generalizing s d with
  | zero => exact h
  | succ fuel ih =>
    rw [State.stopDom_succ]
    exact State.each_ind (hP s d hd h) fun c hc u hu => ih (State.mem_children hc).1 hu

/-- A domain that has gone OFF. -/
def State.Stopped (s : State) (d : Nat) : Prop :=
  (s.dom d).st = .off ∧ (s.dom d).rate = 0 ∧ s.bit (domBase d + Reg.Hdr.UNIT_STAT) 0 = false

theorem State.withdraw_dom (s : State) (d : Nat) (rev : Option Bool) (e : Nat) : (s.withdraw d rev).dom e = s.dom e := by
  unfold State.withdraw
  extract_lets mine gone
  refine State.each_ind (P := fun u => u.dom e = s.dom e) (by rw [State.dom, State.dom]) fun i _ u hu => ?_
  rw [(u.showPlaced_writes i).dom, hu]

theorem State.haltDom_stopped (s : State) (d : Nat) : (s.haltDom d).Stopped d := by
  unfold State.Stopped
  rw [State.haltDom, (State.setUnit_writes _ _ _ _ _ _).dom, State.withdraw_dom, State.enter_dom, State.dom_setDom_same]
  exact ⟨rfl, rfl, State.setUnit_on _ _ _⟩

theorem State.Stopped.haltDom {s : State} {d e : Nat} (h : s.Stopped d) (hd : d < 16) (he : e < 16) : (s.haltDom e).Stopped d := by
  by_cases hde : d = e
  · exact hde ▸ s.haltDom_stopped d
  · obtain ⟨off, rate, stat⟩ := h
    let u := ((s.setDom e { s.dom e with rate := 0, lag := none }).enter e .off).withdraw e none
    have hn : s.Names [e] e := ⟨he, .inr (by simp)⟩
    have moved : Moves [e] [e] s u := (((Moves.refl _ _ s).setDom hn).enter hn hn).withdraw
    have own : (s.haltDom e).dom d = s.dom d := by
      rw [State.haltDom, (State.setUnit_writes _ _ _ _ _ _).dom, State.withdraw_dom, State.enter_dom_ne _ _ hde,
        State.dom_setDom_ne _ _ hde]
    have regs : (s.haltDom e).rd (domReg d Reg.Hdr.UNIT_STAT) = s.rd (domReg d Reg.Hdr.UNIT_STAT) := by
      refine ((State.setUnit_writes u (domBase e) false false false 0).1 _ ?_).trans
        (moved.rd_config hd (by decide) (by decide) (by decide) (by decide))
      simp only [Bool.or_eq_false_iff, beq_eq_false_iff_ne]
      unfold domReg domBase Reg.Hdr.UNIT_STAT Reg.Hdr.IRQ_RAW
      omega
    exact ⟨by rw [own, off], by rw [own, rate], (congrArg (bitOf · 0) regs).trans stat⟩

theorem State.Stopped.stopDom {s : State} {d e : Nat} (h : s.Stopped d) (fuel : Nat) (hd : d < 16) (he : e < 16) :
    (s.stopDom fuel e).Stopped d :=
  State.stopDom_ind (P := (·.Stopped d)) (fun _ _ he hu => hu.haltDom hd he) fuel he h

/-- OFF of a domain stops it and its running children (R97, R111). -/
theorem State.stopDom_stopped (s : State) (fuel : Nat) {d : Nat} (hd : d < 16) :
    (s.stopDom (fuel + 2) d).Stopped d ∧ ∀ c ∈ s.children d, (s.stopDom (fuel + 2) d).Stopped c := by
  rw [State.stopDom_succ]
  have lt {c : Nat} (hc : c ∈ s.children d) : c < 16 := (State.mem_children hc).1
  refine ⟨State.each_ind (P := (·.Stopped d)) (s.haltDom_stopped d) fun c hc u hu => hu.stopDom _ hd (lt hc), fun c hc => ?_⟩
  obtain ⟨l₁, l₂, hl⟩ := List.append_of_mem hc
  rw [hl, State.each, List.foldl_append, List.foldl_cons]
  have own (u : State) : (u.stopDom (fuel + 1) c).Stopped c := by
    rw [State.stopDom_succ]
    exact State.each_ind (P := (·.Stopped c)) (u.haltDom_stopped c) fun e he v hv => hv.stopDom _ (lt hc) (State.mem_children he).1
  exact State.each_ind (P := (·.Stopped c)) (own _) fun e he u hu => hu.stopDom _ (lt hc) (lt (by simp [hl, he]))

/-! ## The placed occurrences of a domain that goes OFF -/

/-- No occurrence of a domain is placed, but for those found LATE. -/
def State.Withdrawn (s : State) (d : Nat) : Prop := ∀ q ∈ s.placed, q.late = true ∨ isCompat q.idx = true ∨ evDomain q.w1 ≠ d

theorem Writes.doms {p : Nat → Bool} {s t : State} (h : Writes p s t) : t.doms = s.doms := by rw [h.2]

theorem Writes.placed {p : Nat → Bool} {s t : State} (h : Writes p s t) : t.placed = s.placed := by rw [h.2]

theorem State.enter_placed (s : State) (d : Nat) (st : DomState) : (s.enter d st).placed = s.placed := by
  unfold State.enter
  extract_lets m s1
  have h1 : s1.placed = s.placed :=
    State.onlyIf_ind (P := fun u => u.placed = s.placed) (by rw [State.setDom]) fun _ => by
      rw [(State.raise_writes _ _ _).placed, State.setDom]
  refine State.onlyIf_ind (P := fun u => u.placed = s.placed) h1 fun _ => ?_
  unfold State.distNow State.dist
  split
  · exact h1
  · exact h1

theorem State.withdraw_placed (s : State) (d : Nat) :
    (s.withdraw d none).placed = s.placed.filter (fun q => !(!q.late && !isCompat q.idx && evDomain q.w1 == d)) := by
  unfold State.withdraw
  extract_lets mine gone
  have he : (fun q => !(!q.late && !isCompat q.idx && evDomain q.w1 == d)) = fun q => !mine q :=
    funext fun q => congrArg (!·) (Bool.and_true _).symm
  rw [he]
  refine State.each_ind (P := fun u => u.placed = _) rfl fun i _ u hu => ?_
  rw [(u.showPlaced_writes i).placed, hu]

theorem State.haltDom_placed (s : State) (d : Nat) :
    (s.haltDom d).placed = s.placed.filter (fun q => !(!q.late && !isCompat q.idx && evDomain q.w1 == d)) := by
  rw [State.haltDom, (State.setUnit_writes _ _ _ _ _ _).placed, State.withdraw_placed, State.enter_placed]
  rfl

theorem State.stopDom_withdrawn (s : State) (fuel : Nat) {d : Nat} : (s.stopDom (fuel + 1) d).Withdrawn d := by
  rw [State.stopDom_succ]
  refine State.each_ind (P := (·.Withdrawn d)) (fun q hq => ?_) fun c hc u hu =>
    State.stopDom_ind (P := (·.Withdrawn d)) (fun v e _ hv q hq => ?_) fuel (State.mem_children hc).1 hu
  · rw [State.haltDom_placed] at hq
    have := (List.mem_filter.1 hq).2
    simp only [Bool.not_eq_true', Bool.and_eq_false_iff, Bool.not_eq_false', beq_eq_false_iff_ne] at this
    exact or_assoc.1 this
  · rw [State.haltDom_placed] at hq
    exact hv q (List.mem_filter.1 hq).1

/-- OFF of a domain (R97). -/
theorem domainOff_spec (s : State) {d : Nat} (hd : d < 16) :
    (domainOff d s).Ends (domBase d) false ∧ ((domainOff d s).dom d).st = .off ∧ ((domainOff d s).dom d).rate = 0 ∧
      (∀ c ∈ s.children d, ((domainOff d s).dom c).st = .off) ∧ (domainOff d s).Withdrawn d := by
  have writes := (s.stopDom 9 d).cmdResult_writes (domBase d) .done
  obtain ⟨⟨off, rate, stat⟩, children⟩ := s.stopDom_stopped 7 hd
  have withdrawn := s.stopDom_withdrawn 8 (d := d)
  rw [domainOff, writes.dom]
  refine ⟨State.cmdResult_ends stat, off, rate, fun c hc => ?_, fun q hq => withdrawn q (writes.placed ▸ hq)⟩
  rw [writes.dom]
  exact (children c hc).1

/-! ## PRST -/

/-- A register that is lost reads its Reset value (R15). -/
theorem State.loseRegs_rd (s : State) {lose : Nat → Bool} {k : Nat} (h : lose k = true) : (s.loseRegs lose).rd k = regReset k := by
  have gone (l : Tbl Word) : Tbl.get (regReset k) (l.filter (fun e => !lose e.1)) k = regReset k := by
    induction l with
    | nil => rfl
    | cons e l ih =>
      rw [List.filter_cons]
      split
      · next he =>
        rw [Tbl.get, if_neg (by rintro rfl; simp [h] at he), ih]
      · exact ih
  exact gone s.regs

theorem domain_loses : ∀ d < 16,
    (keyIs (fun p => p.base == domBase d) (· == .x) (domBase d + Reg.Hdr.UNIT_STAT) = true ∧ regReset (domBase d + Reg.Hdr.UNIT_STAT) = 0) ∧
      keyIs (fun p => p.base == domBase d) (· == .x) (domBase d + Reg.Hdr.IRQ_RAW) = true ∧ regReset (domBase d + Reg.Hdr.IRQ_RAW) = 0 := by
  decide +kernel

/-- The flags of a domain after PRST (R97). -/
theorem domainPrst_flags (s : State) {d : Nat} (hd : d < 16) :
    (domainPrst d s).rd (domBase d + Reg.Hdr.IRQ_RAW) = 4 ∧
      (domainPrst d s).rdN (domBase d + Reg.Hdr.UNIT_STAT) = CmdResult.done.code * 128 := by
  let u := ((s.stopDom 9 d).setDom d {}).loseX (domBase d)
  obtain ⟨⟨statX, stat0⟩, rawX, raw0⟩ := domain_loses d hd
  have stat : u.rd (domBase d + Reg.Hdr.UNIT_STAT) = 0 := (State.loseRegs_rd _ statX).trans stat0
  have raw : u.rd (domBase d + Reg.Hdr.IRQ_RAW) = 0 := (State.loseRegs_rd _ rawX).trans raw0
  have he : domainPrst d s = u.cmdResult (domBase d) .done := rfl
  rw [he]
  refine ⟨?_, ?_⟩
  · rw [State.cmdResult, State.raise, State.setBit_eq, State.rd_wr_same, State.setFld_eq,
      State.rd_wr_ne _ _ _ _ (by simp [Reg.Hdr.UNIT_STAT, Reg.Hdr.IRQ_RAW]), raw]
    rfl
  · rw [State.rdN, State.cmdResult_stat, stat]
    rfl

theorem domainPrst_dom (s : State) (d : Nat) :
    (domainPrst d s).dom d = {} ∧ ∀ c ≠ d, (domainPrst d s).dom c = (s.stopDom 9 d).dom c := by
  have reset (c : Nat) : (domainPrst d s).dom c = ((s.stopDom 9 d).setDom d {}).dom c :=
    (State.cmdResult_writes _ _ _).dom c
  exact ⟨(reset d).trans (State.dom_setDom_same _ _ _), fun c hc => (reset c).trans (State.dom_setDom_ne _ _ hc)⟩

end Sys2Proof.Machine

open Sys2Proof Sys2Proof.Machine

/-- Settles O19: ON judges and starts the domain by what an accepted write leaves standing (`AllStand.onRefused`,
`Stands.ideal`); what a domain that goes OFF has lost, the others' going OFF leaves lost (`State.Stopped.haltDom`). -/
theorem domainCommands : Obligations.DomainCommands := by
  unfold Obligations.DomainCommands
  intro s acc d ht
  let u := s.taken acc (domReg d.val Reg.Hdr.UNIT_CTRL) 1
  have stand (v : Word) : AllStand s (s.taken acc (domReg d.val Reg.Hdr.UNIT_CTRL) v) := fun e he => s.taken_stands _ _ _ he
  have own := stand 1 d.val d.isLt
  obtain ⟨passed, ideal, rate⟩ := own.ideal State.taken_time
  have starts (hr : s.onRefused d.val = false) (hc : s.domSrc d.val ≠ 3) :=
    domainOn_spec (s := u) ((stand 1).onRefused d.isLt ▸ hr) d.isLt (by rwa [own.domSrc])
  refine ⟨fun hr => leads_taken ht rfl ?refused, fun hr hs he => leads_taken ht rfl ?passed,
    fun hr hs he => leads_taken ht rfl ?waits, fun hr hs hm => leads_taken ht rfl ?angle,
    leads_taken ht rfl ?off, leads_taken ht rfl ?prst⟩
  case refused =>
    rw [domainOn_refused ((stand 1).onRefused d.isLt ▸ hr)]
    have writes := u.cmdResult_writes (domBase d.val) .refused
    exact ⟨writes.resp, u.cmdResult_code _ _, u.cmdResult_done _ _, writes.doms.trans (State.taken_eq (·.doms) fun _ _ _ _ => rfl),
      (s.taken_frame _ _ _ _).writes writes⟩
  case passed =>
    obtain ⟨ends, dom⟩ := starts hr (by rw [hs]; decide)
    refine ⟨ends, dom.trans ?_⟩
    rw [State.startDom_time (own.domSrc.trans hs), passed, ideal, rate, if_pos he]
  case waits =>
    obtain ⟨ends, dom⟩ := starts hr (by rw [hs]; decide)
    refine ⟨ends, dom.trans ?_⟩
    rw [State.startDom_time (own.domSrc.trans hs), passed, if_neg (by simp [he])]
  case angle =>
    obtain ⟨ends, dom⟩ := starts hr (by rw [hs]; decide)
    obtain ⟨st, x, rate⟩ := State.startDom_angle (own.domSrc.trans hs) (by rwa [own.angMode])
    rw [dom]
    exact ⟨ends, st, x.trans own.initPhase, rate⟩
  case off =>
    obtain ⟨ends, off, rate, children, withdrawn⟩ := domainOff_spec (s.taken acc (domReg d.val Reg.Hdr.UNIT_CTRL) 2) d.isLt
    exact ⟨ends, off, rate, fun c hc => children c ((stand 2).children d.val ▸ hc), withdrawn⟩
  case prst =>
    let u := s.taken acc (domReg d.val Reg.Hdr.UNIT_CTRL) 4
    obtain ⟨own, others⟩ := domainPrst_dom u d.val
    obtain ⟨raw, stat⟩ := domainPrst_flags u d.isLt
    obtain ⟨-, children⟩ := u.stopDom_stopped 7 d.isLt
    refine ⟨own, raw, stat, fun c hc => ?_⟩
    rw [others c (State.mem_children hc).2.1]
    exact (children c ((stand 4).children d.val ▸ hc)).1
end

section
/-! PROOFS. O23: EVENT_EVALUATE places an occurrence, leaves it or finds it LATE; actions whose occurrence is not due or may no
longer act (R120, R124 to R126, R129, R304). -/

namespace Sys2Proof.Machine

/-! ## One armed event -/

/-- The projected instant of a forward event that drives no line (R124), and how far ahead it lies, in 2^-16 ns. -/
def State.evInstant (s : State) (i : Nat) : Nat :=
  roundNs (projectT16 s.tb0.t16 (s.evPos i (s.rd (evtWord i 1))).1 (s.evPos i (s.rd (evtWord i 1))).2 (s.boundPos i)) 0

def State.evAhead (s : State) (i : Nat) : Int := (s.evInstant i * 2 ^ 16 : Nat) - (s.tb0.t16 : Nat)

/-- An event that is evaluated: it runs forward to a position ahead, drives no line and has no occurrence placed. -/
structure State.Evaluable (s : State) (i : Nat) : Prop where
  runs : s.evRuns i (s.rd (evtWord i 1)) = true
  action : evAction (s.rd (evtWord i 1)) ≠ 0
  noLine : isLineAct (evAction (s.rd (evtWord i 1))) = false
  forward : evReverse (s.rd (evtWord i 1)) = false
  rate : 0 < (s.evPos i (s.rd (evtWord i 1))).2
  ahead : 0 < posDist ((s.evPos i (s.rd (evtWord i 1))).1 / subUnit) (s.boundPos i)
  free : s.placed.any (·.idx == i) = false

/-- The occurrence of event i for its projected instant. -/
def State.occurrence (s : State) (i : Nat) : Placed :=
  ⟨i, s.rd (evtWord i 1), s.rd (evtWord i 3), s.evInstant i, [], false, false, none⟩

section
variable {s : State} {i : Nat}

theorem State.Evaluable.evalEvent (h : s.Evaluable i) :
    s.evalEvent i =
      if 36864 * 2 ^ 16 ≤ s.evAhead i * 10 then s
      else if 2000 * 2 ^ 16 ≤ s.evAhead i then
        if s.evOwnerOk i (s.rd (evtWord i 1)) then
          ({ s with placed := s.placed ++ [s.occurrence i] }.showPlaced i).ev 0xC6 0
        else (s.setArm i false).ownerFail
      else s.goLate i (some (s.evInstant i)) := by
  obtain ⟨runs, action, noLine, forward, rate, ahead, free⟩ := h
  unfold State.evalEvent
  rw [if_neg (by simp [runs, action, forward, rate, ahead, free])]
  simp only [noLine, Bool.false_and, Bool.false_eq_true, if_false]
  rfl

theorem eventEvaluate_one (hp : s.parkStage = 0) (ha : s.armed = [i]) : eventEvaluate s = s.evalEvent i := by
  rw [eventEvaluate, if_pos hp, ha]
  rfl

theorem eventEvaluate_idle (h : s.parkStage ≠ 0 ∨ s.armed = []) : eventEvaluate s = s := by
  unfold eventEvaluate
  split
  · next hp => rw [h.resolve_left (not_not_intro hp), State.each, List.foldl_nil]
  · rfl

/-! ## LATE, with SKIP -/

/-- An occurrence found LATE: its flag and the counts of HRN, before its policy (R126). -/
def State.lateFound (s : State) (i : Nat) : State :=
  let s := ((s.setFlag Reg.Evt.LATE_FLAG i true).count (hrnBase + Reg.Hrn.LATE_CNT)).ev 0xC1 0
  let s := (s.wrN (hrnBase + Reg.Hrn.LAST_LATE) (2 ^ 31 + i)).raise hrnBase 16
  s.onlyIf (isCompat i) (·.setBit (tpoBase + Reg.Tpo.TO_STAT + 0x40 * ((i - 4064) / 4)) (4 + i % 4) true)

/-- A LATE occurrence skipped. -/
def State.skipLate (s : State) (i : Nat) : State :=
  (((s.count (hrnBase + Reg.Hrn.SKIP_CNT)).raise hrnBase 17).ev 0xC2 0).afterAct i false

theorem State.goLate_skip (h : evSkip (s.rd (evtWord i 1)) = true) (proj : Option Nat) :
    s.goLate i proj = (s.lateFound i).skipLate i := if_pos h

end

theorem Writes.any {p : Nat → Bool} {s t : State} (h : Writes p s t) : Writes (fun _ => true) s t := h.mono fun _ _ => rfl

section
variable (s : State) {i : Nat}

/-- Once it is flagged and counted, an occurrence found LATE writes LAST_LATE, the flag of HRN, the counters of the events and,
of a slot, TO_STAT. -/
theorem State.lateFound_rd {k : Nat} (hc : counterReg k = false) (hl : k ≠ hrnBase + Reg.Hrn.LAST_LATE)
    (hr : k ≠ hrnBase + Reg.Hdr.IRQ_RAW) (ht : ¬(tpoBase ≤ k ∧ k < evtBase 0)) (hi : i < 4096) :
    (s.lateFound i).rd k = ((s.setFlag Reg.Evt.LATE_FLAG i true).count (hrnBase + Reg.Hrn.LATE_CNT)).rd k := by
  unfold State.lateFound
  refine State.onlyIf_ind (P := fun u => u.rd k = _) ?shown fun _ => (State.rd_wr_ne _ _ _ _ ?slot).trans ?shown
  case shown =>
    rw [(State.raise_writes _ _ _).1 _ (beq_false_of_ne hr), State.wrN_eq, State.rd_wr_ne _ _ _ _ hl, (State.ev_writes _ _ _).1 _ hc]
  case slot =>
    unfold tpoBase evtBase at ht
    unfold tpoBase Reg.Tpo.TO_STAT
    omega

theorem State.lateFound_rd_hrn {off : Nat} (ho : off < 0x1000) (hl : off ≠ Reg.Hrn.LAST_LATE) (hr : off ≠ Reg.Hdr.IRQ_RAW) (hi : i < 4096) :
    (s.lateFound i).rd (hrnBase + off) = ((s.setFlag Reg.Evt.LATE_FLAG i true).count (hrnBase + Reg.Hrn.LATE_CNT)).rd (hrnBase + off) := by
  refine s.lateFound_rd (counterReg_hrn ho) (by omega) (by omega) ?_ hi
  unfold tpoBase hrnBase
  omega

theorem State.setFlag_rd_hrn {off f : Nat} (ho : off < 0x1000) (hf : f < 0x800) (b : Bool) (hi : i < 4096) :
    (s.setFlag f i b).rd (hrnBase + off) = s.rd (hrnBase + off) :=
  (s.setFlag_writes i f b).1 _ (beq_false_of_ne (hrn_ne_evtReg (evtReg_flag hi hf) ho))

theorem State.lateFound_any : Writes (fun _ => true) s (s.lateFound i) := by
  unfold State.lateFound
  have counted : Writes (fun _ => true) s (((s.setFlag Reg.Evt.LATE_FLAG i true).count (hrnBase + Reg.Hrn.LATE_CNT)).ev 0xC1 0) :=
    ((s.setFlag_writes _ _ _).any.trans (State.count_writes _ _).any).trans (State.ev_writes _ _ _).any
  exact ((counted.wr rfl _).trans (State.raise_writes _ _ _).any).onlyIf fun _ => (State.wr_writes _ _ _).any

/-- An occurrence found LATE (R126). -/
theorem State.lateFound_spec (hi : i < 4096) :
    (s.lateFound i).bit (flagKey Reg.Evt.LATE_FLAG i) (i % 32) = true ∧
      (s.lateFound i).rdN (hrnBase + Reg.Hrn.LATE_CNT) = min 0xFFFFFFFF (s.rdN (hrnBase + Reg.Hrn.LATE_CNT) + 1) ∧
      (s.lateFound i).rdN (hrnBase + Reg.Hrn.SKIP_CNT) = s.rdN (hrnBase + Reg.Hrn.SKIP_CNT) ∧
      (s.lateFound i).rdN (hrnBase + Reg.Hrn.LAST_LATE) = 2 ^ 31 + i := by
  refine ⟨?flag, ?late, ?skip, ?last⟩
  case flag =>
    have hk := evtReg_flag (off := Reg.Evt.LATE_FLAG) hi (by decide)
    have apart {off : Nat} (ho : off < 0x1000) := (hrn_ne_evtReg hk ho).symm
    have hb := hk
    rw [evtReg, decide_eq_true_eq] at hb
    rw [State.bit, s.lateFound_rd (counterReg_evtReg hk) (apart (by decide)) (apart (by decide)) (by omega) hi,
      (State.count_writes _ _).1 _ (beq_false_of_ne (apart (by decide)))]
    exact s.bit_setBit_same _ (Nat.mod_lt _ (by decide)) true
  case late =>
    rw [State.rdN, s.lateFound_rd_hrn (by decide) (by decide) (by decide) hi]
    refine (State.rdN_count _ _).trans ?_
    rw [State.rdN, s.setFlag_rd_hrn (by decide) (by decide) _ hi]
    rfl
  case skip =>
    rw [State.rdN, s.lateFound_rd_hrn (by decide) (by decide) (by decide) hi, (State.count_writes _ _).1 _ (by decide),
      s.setFlag_rd_hrn (by decide) (by decide) _ hi]
    rfl
  case last =>
    have last (u : State) : ((u.wrN (hrnBase + Reg.Hrn.LAST_LATE) (2 ^ 31 + i)).raise hrnBase 16).rd (hrnBase + Reg.Hrn.LAST_LATE) =
        word (2 ^ 31 + i) := by
      rw [(State.raise_writes _ _ _).1 _ (by decide), State.wrN_eq, State.rd_wr_same]
    have found : (s.lateFound i).rd (hrnBase + Reg.Hrn.LAST_LATE) = word (2 ^ 31 + i) := by
      unfold State.lateFound
      refine State.onlyIf_ind (P := fun u => u.rd _ = _) (last _) fun _ => (State.rd_wr_ne _ _ _ _ ?_).trans (last _)
      unfold hrnBase tpoBase Reg.Hrn.LAST_LATE Reg.Tpo.TO_STAT
      omega
    rw [State.rdN, found, word, BitVec.toNat_ofNat]
    omega

/-- What skipping writes besides SKIP_CNT. -/
theorem State.skipLate_rd {k : Nat} (hc : counterReg k = false) (hr : k ≠ hrnBase + Reg.Hdr.IRQ_RAW) (ha : advanceWords i k = false) :
    (s.skipLate i).rd k = (s.count (hrnBase + Reg.Hrn.SKIP_CNT)).rd k := by
  rw [State.skipLate, (State.afterAct_writes _ _ _).1 _ ha, (State.ev_writes _ _ _).1 _ hc,
    (State.raise_writes _ _ _).1 _ (beq_false_of_ne hr)]

theorem State.skipLate_any : Writes (fun _ => true) s (s.skipLate i) :=
  (((State.count_writes _ _).any.trans (State.raise_writes _ _ _).any).trans (State.ev_writes _ _ _).any).trans
    (State.afterAct_writes _ _ _).any

theorem advanceWords_hrn {off : Nat} (hi : i < 4096) (ho : off < 0x1000) : advanceWords i (hrnBase + off) = false := by
  refine Bool.eq_false_iff.2 fun h => ?_
  have := evtReg_advanceWords hi h
  rw [evtReg_hrn ho] at this
  cases this

theorem advanceWords_flag {off j : Nat} (ho : off < 0x7F0) : advanceWords i (flagKey off j) = false := by
  have h1 := evtWord_ne_flagKey (i := i) (i' := j) (j := 1) (by decide) ho
  have h2 := evtWord_ne_flagKey (i := i) (i' := j) (j := 2) (by decide) ho
  simp [advanceWords, h1.symm, h2.symm]

/-- An occurrence found LATE and skipped (R126). -/
theorem State.goLate_skip_spec (h : evSkip (s.rd (evtWord i 1)) = true) (hi : i < 4096) (proj : Option Nat) :
    (s.goLate i proj).placed = s.placed ∧ (s.goLate i proj).bit (flagKey Reg.Evt.LATE_FLAG i) (i % 32) = true ∧
      (s.goLate i proj).rdN (hrnBase + Reg.Hrn.LATE_CNT) = min 0xFFFFFFFF (s.rdN (hrnBase + Reg.Hrn.LATE_CNT) + 1) ∧
      (s.goLate i proj).rdN (hrnBase + Reg.Hrn.SKIP_CNT) = min 0xFFFFFFFF (s.rdN (hrnBase + Reg.Hrn.SKIP_CNT) + 1) ∧
      (s.goLate i proj).rdN (hrnBase + Reg.Hrn.LAST_LATE) = 2 ^ 31 + i := by
  rw [State.goLate_skip h]
  obtain ⟨flag, late, skip, last⟩ := s.lateFound_spec hi
  have hrn {off : Nat} (ho : off < 0x1000) (hr : off ≠ Reg.Hdr.IRQ_RAW) : ((s.lateFound i).skipLate i).rd (hrnBase + off) =
      ((s.lateFound i).count (hrnBase + Reg.Hrn.SKIP_CNT)).rd (hrnBase + off) :=
    State.skipLate_rd _ (counterReg_hrn ho) (by omega) (advanceWords_hrn hi ho)
  have hk := evtReg_flag (off := Reg.Evt.LATE_FLAG) hi (by decide)
  refine ⟨(s.lateFound_any.trans (State.skipLate_any _)).placed, ?_, ?_, ?_, ?_⟩
  · rw [State.bit, State.skipLate_rd _ (counterReg_evtReg hk) (hrn_ne_evtReg hk (by decide)).symm (advanceWords_flag (by decide)),
      (State.count_writes _ _).1 _ (beq_false_of_ne (hrn_ne_evtReg hk (by decide)).symm)]
    exact flag
  · rw [State.rdN, hrn (by decide) (by decide), (State.count_writes _ _).1 _ (by decide)]
    exact late
  · rw [State.rdN, hrn (by decide) (by decide)]
    exact (State.rdN_count _ _).trans (by rw [skip])
  · rw [State.rdN, hrn (by decide) (by decide), (State.count_writes _ _).1 _ (by decide)]
    exact last

end

/-! ## Actions that do not act -/

section
variable {s : State} {i a : Nat} {q : Placed} {f : State → Placed → State}

theorem State.runAct_none (h : s.dueAct i a = none) : s.runAct i a f = s := by
  unfold State.runAct
  rw [h]

/-- What an ownership failure counts. -/
def failRegs (k : Nat) : Bool := counterReg k || k == hrnBase + Reg.Hrn.OWNER_FAIL || k == hrnBase + Reg.Hdr.IRQ_RAW

theorem State.ownerFail_writes (s : State) : Writes failRegs s s.ownerFail :=
  (((State.count_writes _ _).mono fun k hk => by simp [failRegs, hk]).trans
    ((State.raise_writes _ _ _).mono fun k hk => by simp [failRegs, hk])).trans
    ((State.ev_writes _ _ _).mono fun k hk => by simp [failRegs, hk])

theorem failRegs_evt {k : Nat} (hk : evtReg k = true) : failRegs k = false := by
  simp [failRegs, counterReg_evtReg hk, (hrn_ne_evtReg hk (off := Reg.Hrn.OWNER_FAIL) (by decide)).symm,
    (hrn_ne_evtReg hk (off := Reg.Hdr.IRQ_RAW) (by decide)).symm]

theorem State.ownerFail_count (s : State) :
    s.ownerFail.rdN (hrnBase + Reg.Hrn.OWNER_FAIL) = min 0xFFFFFFFF (s.rdN (hrnBase + Reg.Hrn.OWNER_FAIL) + 1) := by
  rw [State.rdN, State.ownerFail, (State.ev_writes _ _ _).1 _ (counterReg_hrn (by decide)), (State.raise_writes _ _ _).1 _ (by decide)]
  exact State.rdN_count _ _

/-- An occurrence whose event R34 no longer lets act (R120). -/
def State.dropLate (s : State) (i : Nat) : State :=
  ({ s with placed := s.placed.filter (fun (p : Placed) => !(p.idx == i && p.late)) }.setArm i false).ownerFail

theorem State.runAct_dropped (h : s.dueAct i a = some q) (hl : q.late = true) (ho : s.evOwnerOk i q.w1 = false) :
    s.runAct i a f = s.dropLate i := by
  unfold State.runAct
  rw [h]
  exact if_pos (by simp [hl, ho])

theorem State.runAct_acts (h : s.dueAct i a = some q) (hq : q.late = false ∨ s.evOwnerOk i q.w1 = true) :
    s.runAct i a f = f s q := by
  unfold State.runAct
  rw [h]
  exact if_neg (by rcases hq with hq | hq <;> simp [hq])

theorem State.dropLate_spec (s : State) (hi : i < 4096) :
    evArm ((s.dropLate i).rd (evtWord i 1)) = false ∧
      (s.dropLate i).rdN (hrnBase + Reg.Hrn.OWNER_FAIL) = min 0xFFFFFFFF (s.rdN (hrnBase + Reg.Hrn.OWNER_FAIL) + 1) ∧
      ∀ p ∈ (s.dropLate i).placed, p ∈ s.placed ∧ ¬(p.idx = i ∧ p.late = true) := by
  let kept : State := { s with placed := s.placed.filter (fun (p : Placed) => !(p.idx == i && p.late)) }
  have writes := (kept.setArm i false).ownerFail_writes
  have hk := evtReg_word hi (show 1 < 4 by decide)
  refine ⟨?arm, ?count, fun p hp => ?placed⟩
  case arm =>
    have stands := writes.1 (evtWord i 1) (failRegs_evt hk)
    rw [State.dropLate, stands]
    exact kept.evArm_setArm i false
  case count =>
    refine (State.ownerFail_count _).trans ?_
    rw [State.rdN, (kept.setArm_writes i false).1 _ (beq_false_of_ne (hrn_ne_evtReg hk (by decide)))]
    rfl
  case placed =>
    rw [State.dropLate, writes.placed.trans (kept.setArm_writes i false).placed] at hp
    obtain ⟨hp, hne⟩ := List.mem_filter.1 hp
    exact ⟨hp, fun ⟨hidx, hl⟩ => by simp [hidx, hl] at hne⟩

end

end Sys2Proof.Machine

open Sys2Proof Sys2Proof.Machine

/-- Settles O23: the one armed event is evaluated by its distance (`State.Evaluable.evalEvent`); an action of any kind goes through
`State.runAct`. -/
theorem eventEvaluation : Obligations.EventEvaluation := by
  unfold Obligations.EventEvaluation
  refine ⟨⟨fun s h => ⟨_, rfl, eventEvaluate_idle h⟩, fun s i => ?one⟩, fun s i a c hc => ?action⟩
  case one =>
    intro w1 p xe inst ahead hpark harmed hrun hact hline hrev hrate hahead hfree
    have hi : i < 4096 := State.mem_armed_lt (harmed ▸ List.mem_singleton_self i)
    have he : eventEvaluate s = _ :=
      (eventEvaluate_one hpark harmed).trans (State.Evaluable.evalEvent ⟨hrun, hact, hline, hrev, hrate, hahead, hfree⟩)
    refine ⟨fun hfar => ⟨_, rfl, he.trans (if_pos hfar)⟩, fun hnear hfar ho => ⟨_, rfl, ?placed⟩, fun hnear hskip => ⟨_, rfl, ?late⟩⟩
    case placed =>
      change 2000 * 2 ^ 16 ≤ s.evAhead i at hnear
      change s.evAhead i * 10 < 36864 * 2 ^ 16 at hfar
      rw [he, if_neg (by omega), if_pos hnear, if_pos ho, (State.ev_writes _ _ _).placed, (State.showPlaced_writes _ _).placed]
      rfl
    case late =>
      change s.evAhead i < 2000 * 2 ^ 16 at hnear
      rw [he, if_neg (by omega), if_neg (by omega)]
      exact s.goLate_skip_spec hskip hi _
  case action =>
    have ⟨f, hf⟩ : ∃ f, exec c s = .next (s.runAct i.val a f) := by
      simp only [List.mem_cons, Prod.mk.injEq, List.not_mem_nil, or_false] at hc
      rcases hc with ⟨rfl, rfl⟩ | ⟨rfl, rfl⟩ | ⟨rfl, rfl⟩ | ⟨rfl, rfl⟩ | ⟨rfl, rfl⟩ | ⟨rfl, rfl⟩ | ⟨rfl, rfl⟩ | ⟨rfl, rfl⟩ | ⟨rfl, rfl⟩
      all_goals exact ⟨_, rfl⟩
    exact ⟨fun hd => ⟨_, hf, State.runAct_none hd⟩, fun q hd hl ho => ⟨_, hf, State.runAct_dropped hd hl ho ▸ s.dropLate_spec i.isLt⟩⟩
end

section
/-! PROOFS. O24: what each action does at an occurrence that is due (R117, R122, R129, R132, R136, R138 to R141). -/

namespace Sys2Proof.Machine

/-! ## An occurrence that has executed -/

theorem State.dueAct_idx {s : State} {i a : Nat} {q : Placed} (h : s.dueAct i a = some q) : q.idx = i := by
  have := List.find?_some h
  simp only [Bool.and_eq_true, beq_iff_eq] at this
  exact this.1.1

/-- An occurrence taken off the path. -/
def State.unplace (s : State) (q : Placed) : State :=
  { s with placed := s.placed.filter (fun (p : Placed) => !(p.idx == q.idx && p.inst == q.inst && p.late == q.late)) }

/-- What the end of an occurrence writes: PLACED, the counters of the events, and its entry (R122). -/
def finishRegs (i k : Nat) : Bool := k == flagKey Reg.Evt.PLACED i || counterReg k || advanceWords i k

theorem finishRegs_hrn {i off : Nat} (hi : i < 4096) (ho : off < 0x1000) : finishRegs i (hrnBase + off) = false := by
  simp [finishRegs, counterReg_hrn ho, advanceWords_hrn hi ho, hrn_ne_evtReg (evtReg_flag hi (off := Reg.Evt.PLACED) (by decide)) ho]

/-- The end of an occurrence leaves word 1 of the other entries alone. -/
theorem finishRegs_other {i j : Nat} (hj : j < 4096) (h : j ≠ i) : finishRegs i (evtWord j 1) = false := by
  simp [finishRegs, advanceWords, counterReg_evtReg (evtReg_word hj (show 1 < 4 by decide)),
    evtWord_ne_flagKey (i := j) (i' := i) (j := 1) (off := Reg.Evt.PLACED) (by decide) (by decide),
    evtWord_ne (i := j) (i' := i) (j := 1) (j' := 1) (by decide) (by decide) (.inl h),
    evtWord_ne (i := j) (i' := i) (j := 1) (j' := 2) (by decide) (by decide) (.inr (by decide))]

theorem State.afterAct_current (u : State) (i : Nat) : u.afterAct i false = u.advance i := if_neg Bool.false_ne_true

section
variable {u : State} {q : Placed} (hc : isCompat q.idx = false) (hr : q.replaced = false)
include hc hr

theorem State.finishAct_eq : u.finishAct q = (((u.unplace q).showPlaced q.idx).ev 0xC0 0).advance q.idx := by
  rw [State.finishAct, hc, hr, State.onlyIf_false, State.afterAct_current, State.unplace]

theorem State.finishAct_writes : Writes (finishRegs q.idx) (u.unplace q) (u.finishAct q) := by
  rw [State.finishAct_eq hc hr]
  exact (((State.showPlaced_writes _ _).mono fun k hk => by simp [finishRegs, hk]).trans
    ((State.ev_writes _ _ _).mono fun k hk => by simp [finishRegs, hk])).trans
    ((State.advance_writes _ _).mono fun k hk => by simp [finishRegs, hk])

theorem State.finishAct_rd {k : Nat} (hk : finishRegs q.idx k = false) : (u.finishAct q).rd k = u.rd k :=
  (State.finishAct_writes hc hr).1 k hk

/-- The timed outputs and the converters stand at the end of an occurrence. -/
theorem State.finishAct_rest : (u.finishAct q).toEnd = u.toEnd ∧ (u.finishAct q).adcs = u.adcs := by
  rw [(State.finishAct_writes hc hr).2]
  exact ⟨rfl, rfl⟩

/-- The occurrence is over, and a ONCE event disarmed (R122). -/
theorem State.finishAct_ended :
    (∀ p ∈ (u.finishAct q).placed, ¬(p.idx = q.idx ∧ p.inst = q.inst ∧ p.late = q.late)) ∧
      (evRepeat (u.rd (evtWord q.idx 1)) ≠ 1 → evArm ((u.finishAct q).rd (evtWord q.idx 1)) = false) := by
  refine ⟨fun p hp => ?gone, fun h => ?disarmed⟩
  case gone =>
    rw [(State.finishAct_writes hc hr).placed] at hp
    have hne := (List.mem_filter.1 hp).2
    rintro ⟨h1, h2, h3⟩
    simp [h1, h2, h3] at hne
  case disarmed =>
    have hk := evtReg_word (lt_of_not_isCompat hc) (show 1 < 4 by decide)
    have shown : (((u.unplace q).showPlaced q.idx).ev 0xC0 0).rd (evtWord q.idx 1) = u.rd (evtWord q.idx 1) :=
      ((State.ev_writes _ _ _).1 _ (counterReg_evtReg hk)).trans
        ((State.showPlaced_writes _ _).1 _ (beq_false_of_ne (evtWord_ne_flagKey (by decide) (by decide))))
    rw [State.finishAct_eq hc hr]
    exact State.evArm_advance _ _ (by rwa [shown])

end

/-- The end of an action of `s` that reached `t`: what O24 says of every kind. -/
def State.Ended (s : State) (q : Placed) (t : State) : Prop :=
  (∀ p ∈ t.placed, ¬(p.idx = q.idx ∧ p.inst = q.inst ∧ p.late = q.late)) ∧
    (evRepeat (s.rd (evtWord q.idx 1)) ≠ 1 → evArm (t.rd (evtWord q.idx 1)) = false)

/-- An action that leaves word 1 of its own entry alone ends. -/
theorem State.finishAct_ends {s u : State} {q : Placed} (hc : isCompat q.idx = false) (hr : q.replaced = false)
    (hw : u.rd (evtWord q.idx 1) = s.rd (evtWord q.idx 1)) : s.Ended q (u.finishAct q) := by
  have := State.finishAct_ended (u := u) hc hr
  rwa [hw] at this

/-! ## What actions write -/

/-- Registers the lines, the converters and the event lines count and flag in. -/
def drivenReg (k : Nat) : Bool :=
  counterReg k || k == hrnBase + Reg.Hdr.IRQ_RAW || k == hrnBase + Reg.Hrn.SLIP_CNT || k == hrnBase + Reg.Hrn.STAY_EDGES ||
    decide (sadcBase 0 ≤ k ∧ k < sadcBase 8)

theorem drivenReg_counter {k : Nat} (h : counterReg k = true) : drivenReg k = true := by simp [drivenReg, h]

theorem drivenReg_evt {k : Nat} (h : evtReg k = true) : drivenReg k = false := by
  have hs : ¬(sadcBase 0 ≤ k ∧ k < sadcBase 8) := by
    rw [evtReg, decide_eq_true_eq] at h
    unfold evtBase at h
    unfold sadcBase
    omega
  simp [drivenReg, counterReg_evtReg h, hs, (hrn_ne_evtReg h (off := Reg.Hdr.IRQ_RAW) (by decide)).symm,
    (hrn_ne_evtReg h (off := Reg.Hrn.SLIP_CNT) (by decide)).symm, (hrn_ne_evtReg h (off := Reg.Hrn.STAY_EDGES) (by decide)).symm]

theorem drivenReg_hrn {off : Nat} (h : 0x50 ≤ off) (ho : off < 0x1000) : drivenReg (hrnBase + off) = false := by
  have hs : ¬(sadcBase 0 ≤ hrnBase + off ∧ hrnBase + off < sadcBase 8) := by
    unfold sadcBase hrnBase
    omega
  have hne : off ≠ Reg.Hdr.IRQ_RAW ∧ off ≠ Reg.Hrn.SLIP_CNT ∧ off ≠ Reg.Hrn.STAY_EDGES := by
    unfold Reg.Hdr.IRQ_RAW Reg.Hrn.SLIP_CNT Reg.Hrn.STAY_EDGES
    omega
  simp [drivenReg, counterReg_hrn ho, hs, hne]

/-- From `s` to `t` the registers stand, but for those of `drivenReg`. -/
def Drives (s t : State) : Prop := ∀ k, drivenReg k = false → t.rd k = s.rd k

section
variable {s t u : State}

theorem Drives.refl (s : State) : Drives s s := fun _ _ => rfl

theorem Drives.trans (h : Drives s t) (h' : Drives t u) : Drives s u := fun k hk => (h' k hk).trans (h k hk)

theorem Writes.drives {p : Nat → Bool} (h : Writes p s t) (hp : ∀ k, p k = true → drivenReg k = true) : Drives s t :=
  fun k hk => h.1 k (Bool.eq_false_iff.2 fun hc => by simp [hp k hc] at hk)

theorem Drives.regs (h : t.regs = s.regs) : Drives s t := fun k _ => State.rd_congr h k

theorem Drives.wr (h : Drives s t) {k : Nat} (hk : drivenReg k = true) (v : Word) : Drives s (t.wr k v) :=
  h.trans ((t.wr_writes k v).drives fun j hj => by rwa [beq_iff_eq.1 hj])

theorem Drives.ev (h : Drives s t) (code inst : Nat) : Drives s (t.ev code inst) :=
  h.trans ((t.ev_writes code inst).drives fun _ => drivenReg_counter)

theorem State.slip_drives (s : State) : Drives s s.slip :=
  (((s.count_writes _).drives fun k hk => by simp [drivenReg, beq_iff_eq.1 hk]).trans
    ((State.raise_writes _ _ _).drives fun k hk => by simp [drivenReg, beq_iff_eq.1 hk])).ev _ _

theorem State.setAdc_drives (s : State) (c : Nat) (a : Adc) : Drives s (s.setAdc c a) := .regs rfl

/-! ## IN lines -/

theorem State.capStart_drives (s : State) {c : Nat} (hc : c < 8) (t0 : Nat) : Drives s (s.capStart c t0) := by
  have hk {off : Nat} (ho : off < 0x1000) : drivenReg (sadcBase c + off) = true := by
    have : sadcBase 0 ≤ sadcBase c + off ∧ sadcBase c + off < sadcBase 8 := by
      unfold sadcBase
      omega
    simp [drivenReg, this]
  unfold State.capStart
  extract_lets a st s1 s2 s3
  have h2 : Drives s s2 := ((((Drives.refl s).wr (hk (by decide)) _).wr (hk (by decide)) _).wr (hk (by decide)) _).wr (hk (by decide)) _
  have h3 : Drives s s3 := h2.trans (s2.setAdc_drives c _)
  refine State.each_ind h3 fun h _ u hu => ?_
  have slipped (b : Bool) : Drives u (u.onlyIf b State.slip) := State.onlyIf_ind (.refl u) fun _ => u.slip_drives
  exact (hu.trans (slipped _)).trans (State.setAdc_drives _ c _)

theorem State.capEdge_drives (s : State) {n : Nat} (hn : n < 128) (inst : Nat) : Drives s (s.capEdge n inst) := by
  unfold State.capEdge
  extract_lets c
  split
  · exact s.capStart_drives (by omega) inst
  · exact .refl s

theorem State.emitLine_drives (s : State) (n : Nat) (lv : Bool) (t16 : Nat) : Drives s (s.emitLine n lv t16) := by
  unfold State.emitLine
  extract_lets s1 s2
  have h2 : Drives s s2 := Drives.ev (.regs rfl) _ _
  refine State.onlyIf_ind h2 fun _ => Drives.ev (h2.trans ?_) _ _
  exact ((State.count_writes _ _).drives fun k hk => by simp [drivenReg, beq_iff_eq.1 hk]).trans
    ((State.raise_writes _ _ _).drives fun k hk => by simp [drivenReg, beq_iff_eq.1 hk])

theorem State.putLine_drives (s : State) (n : Nat) (lv : Bool) (inst : Nat) : Drives s (s.putLine n lv inst) := by
  unfold State.putLine
  split
  · exact .refl s
  · extract_lets last x
    split
    · exact (State.emitLine_drives _ _ _ _).trans (State.slip_drives _)
    · exact State.emitLine_drives _ _ _ _

/-- Besides the level image, driving a line counts and flags. -/
theorem State.driveLine_drives (s : State) {n : Nat} (hn : n < 128) (lv : Bool) (inst : Nat) (act : Bool) :
    Drives (s.setBit (hrnBase + Reg.Hrn.LEVEL + 4 * (n / 32)) (n % 32) lv) (s.driveLine n lv inst act) := by
  unfold State.driveLine State.setLevel
  extract_lets was u
  have hu : Drives (s.setBit (hrnBase + Reg.Hrn.LEVEL + 4 * (n / 32)) (n % 32) lv) u :=
    State.onlyIf_ind (.refl _) fun _ => State.capEdge_drives _ hn inst
  split
  · exact hu.trans (State.slip_drives _)
  · exact hu.trans (State.putLine_drives _ _ _ _)

end

section
variable {s : State} {n : Nat} (hn : n < 128)
include hn

theorem State.driveLine_level (lv : Bool) (inst : Nat) (act : Bool) : (s.driveLine n lv inst act).level n = lv := by
  have h := s.driveLine_drives hn lv inst act (hrnBase + Reg.Hrn.LEVEL + 4 * (n / 32)) (by
    rw [Nat.add_assoc]
    exact drivenReg_hrn (by unfold Reg.Hrn.LEVEL; omega) (by unfold Reg.Hrn.LEVEL; omega))
  rw [State.level, State.bit, h]
  exact s.bit_setBit_same _ (Nat.mod_lt _ (by decide)) lv

theorem State.driveLine_evt (lv : Bool) (inst : Nat) (act : Bool) {k : Nat} (hk : evtReg k = true) :
    (s.driveLine n lv inst act).rd k = s.rd k := by
  have hne : k ≠ hrnBase + Reg.Hrn.LEVEL + 4 * (n / 32) := by
    rw [Nat.add_assoc]
    exact (hrn_ne_evtReg hk (by unfold Reg.Hrn.LEVEL; omega)).symm
  rw [s.driveLine_drives hn lv inst act k (drivenReg_evt hk), State.setBit_eq, State.rd_wr_ne _ _ _ _ hne]

end

/-- An occurrence with one line, whose instant has come, drives it and is over. -/
theorem lineAct_single {s : State} {i a n x : Nat} {q : Placed} (hd : s.dueAct i a = some q)
    (hq : q.late = false ∨ s.evOwnerOk i q.w1 = true) (hx : x ≤ s.tb0.nsTotal) (hl : q.lines = [(n, x)]) :
    ∃ (u : State) (inst : Nat), u.regs = s.regs ∧ lineAct a i s = (u.driveLine n (s.actLevel a n) inst true).finishAct q := by
  have same (u : State) (lines : List (Nat × Nat)) : u.finishAct { q with lines := lines } = u.finishAct q := rfl
  have level (l : List Placed) : { s with placed := l }.actLevel a n = s.actLevel a n := rfl
  have found (v : State) (inst : Nat) (hv : v.regs = s.regs) : ∃ (u : State) (y : Nat), u.regs = s.regs ∧
      (v.driveLine n (s.actLevel a n) inst true).finishAct q = (u.driveLine n (s.actLevel a n) y true).finishAct q := ⟨v, inst, hv, rfl⟩
  rw [lineAct, State.runAct_acts hd hq]
  simp only [hl, List.filter_cons, List.filter_nil, hx, decide_true, Bool.not_true, if_true, Bool.false_eq_true, if_false,
    List.isEmpty_nil, State.each, List.foldl_cons, List.foldl_nil, same, level]
  exact found _ _ rfl

/-! ## Gates -/

section
variable {s : State} {q : Placed} {b : Bool}

theorem State.markOver_rd (s : State) (k : Nat) : s.markOver.rd k = s.rd k := State.rd_congr rfl k

theorem State.setGate_rd (s : State) (p g : Nat) (b : Bool) (k : Nat) : (s.setGate p g b).rd k =
    (s.setBit (hrnBase + Reg.Hrn.GATE_STATE + 4 * (p / 4)) (8 * (p % 4) + g) b).rd k := by
  have acts (u : State) (l : List Nat) (k' i : Nat) : ({ u with gateActs := l }.setBit k' i b).rd k = (u.setBit k' i b).rd k :=
    State.rd_congr rfl k
  rw [State.setGate, State.markOver_rd, acts]

theorem State.actGate_over (h : s.gateOver q = true) : s.actGate q b = s := by rw [State.actGate, h, Bool.not_true, State.onlyIf_false]

theorem State.actGate_rd (h : s.gateOver q = false) (k : Nat) : (s.actGate q b).rd k =
    (s.setBit (hrnBase + Reg.Hrn.GATE_STATE + 4 * (bitsOf q.w1 8 5 / 4)) (8 * (bitsOf q.w1 8 5 % 4) + bitsOf q.w1 0 3) b).rd k := by
  rw [State.actGate, h, Bool.not_false, State.onlyIf_true, State.setGate_rd]

/-- A gate an action sets, unless another at the same instant determines it (R129, R136). -/
theorem State.actGate_gate : (s.actGate q b).gateOpen (bitsOf q.w1 8 5) (bitsOf q.w1 0 3) =
    if s.gateOver q then s.gateOpen (bitsOf q.w1 8 5) (bitsOf q.w1 0 3) else b := by
  split
  · next h => rw [State.actGate_over h]
  · next h =>
    have := bitsOf_lt q.w1 0 3
    rw [State.gateOpen, State.bit, State.actGate_rd (by simpa using h)]
    exact s.bit_setBit_same _ (by omega) b

theorem State.actGate_evt {k : Nat} (hk : evtReg k = true) : (s.actGate q b).rd k = s.rd k := by
  have := bitsOf_lt q.w1 8 5
  cases h : s.gateOver q with
  | true => rw [State.actGate_over h]
  | false =>
    have hne : k ≠ hrnBase + Reg.Hrn.GATE_STATE + 4 * (bitsOf q.w1 8 5 / 4) := by
      rw [Nat.add_assoc]
      exact (hrn_ne_evtReg hk (by unfold Reg.Hrn.GATE_STATE; omega)).symm
    rw [State.actGate_rd h, State.setBit_eq, State.rd_wr_ne _ _ _ _ hne]

end

/-! ## Timed outputs -/

theorem State.setPulse_rest (s : State) (c : Nat) (e : Option Nat) :
    (s.setPulse c e).regs = s.regs ∧ Tbl.get none (s.setPulse c e).toEnd c = e := by
  unfold State.setPulse
  refine State.onlyIf_ind (P := fun u => u.regs = s.regs ∧ Tbl.get none u.toEnd c = e) ?_ fun _ => ?_
  all_goals exact ⟨rfl, Tbl.get_set_same _ _ _ _⟩

/-! ## Conversions -/

/-- A hold found from an instant on lies no earlier (R235). -/
theorem le_earliestHold (taken : List Nat) (cap : Option Nat) (fuel x : Nat) : x ≤ earliestHold taken cap fuel x := by
  induction fuel generalizing x with
  | zero => exact Nat.le_refl x
  | succ fuel ih =>
    unfold earliestHold
    extract_lets y
    have hy : x ≤ y := by
      simp only [y]
      split
      · split <;> omega
      · exact Nat.le_refl x
    split
    · next h hf =>
      have hh := List.find?_some hf
      rw [decide_eq_true_eq] at hh
      exact Nat.le_trans (by omega) (ih (h + 500))
    · exact hy

theorem mem_insertHold (h : Hold) (l : List Hold) : h ∈ insertHold h l := by
  induction l with
  | nil => exact List.mem_singleton_self h
  | cons x l ih =>
    unfold insertHold
    split
    · exact List.mem_cons_self
    · exact List.mem_cons_of_mem _ ih

theorem State.mem_assign (s : State) (c : Nat) (h : Hold) : h ∈ ((s.assign c h).adc c).holds := by
  have set (a : Adc) : (s.setAdc c a).adc c = a := by
    unfold State.adc State.setAdc
    exact Tbl.get_set_same {} s.adcs c a
  rw [State.assign, set]
  exact mem_insertHold h _

/-- A SAMPLE holds on its converter, no sooner than its instant (R138). -/
theorem State.sampleOn_holds (s : State) (c sel ev inst : Nat) (late : Bool) (proj : Option Nat) :
    ∃ h ∈ ((s.sampleOn c sel ev inst late proj).adc c).holds, h.ev = ev ∧ h.sel = sel ∧ h.origin = 0 ∧ inst ≤ h.t := by
  unfold State.sampleOn
  extract_lets h r s1
  refine ⟨_, State.mem_assign s1 c _, rfl, rfl, rfl, ?_⟩
  refine Nat.le_trans ?_ (le_earliestHold _ _ _ _)
  split <;> omega

theorem State.sampleOn_drives (s : State) (c sel ev inst : Nat) (late : Bool) (proj : Option Nat) :
    Drives s (s.sampleOn c sel ev inst late proj) := by
  unfold State.sampleOn
  extract_lets h r s1
  have hr : Drives s r.2 := by
    simp only [r]
    split
    · exact .refl s
    · split
      · exact .refl s
      · exact .regs rfl
  have h1 : Drives s s1 := State.onlyIf_ind hr fun _ => hr.trans (State.slip_drives _)
  exact h1.trans (State.setAdc_drives _ _ _)

/-! ## Event lines -/

theorem bitOf_eq_testBit (w : Word) (i : Nat) : bitOf w i = w.toNat.testBit i := by
  rw [Nat.testBit_eq_decide_div_mod_eq]
  rfl

theorem bitOf_and (v w : Word) (i : Nat) : bitOf (v &&& w) i = (bitOf v i && bitOf w i) := by
  simp only [bitOf_eq_testBit, BitVec.toNat_and, Nat.testBit_and]

/-- An event line that is set and enabled raises EVIRQ (R140). -/
theorem State.evirqRaise_flag {s : State} {c : Nat} (hr : s.bit (hrnBase + Reg.Hrn.EVIRQ_RAW) c = true)
    (he : s.bit (hrnBase + Reg.Hrn.EVIRQ_EN) c = true) : s.evirqRaise.bit (hrnBase + Reg.Hdr.IRQ_RAW) 21 = true := by
  have hne : s.rd (hrnBase + Reg.Hrn.EVIRQ_RAW) &&& s.rd (hrnBase + Reg.Hrn.EVIRQ_EN) ≠ 0 := by
    intro h0
    have hand := bitOf_and (s.rd (hrnBase + Reg.Hrn.EVIRQ_RAW)) (s.rd (hrnBase + Reg.Hrn.EVIRQ_EN)) c
    rw [State.bit] at hr he
    rw [h0, hr, he, bitOf_eq_testBit] at hand
    simp at hand
  rw [State.evirqRaise, bne_iff_ne.2 hne, State.onlyIf_true]
  exact State.bit_raise _ _ (by decide)

theorem State.evirqRaise_writes (s : State) : Writes (· == hrnBase + Reg.Hdr.IRQ_RAW) s s.evirqRaise :=
  (Writes.refl _ s).onlyIf fun _ => State.raise_writes _ _ _

section
variable {s t : State} {b i : Nat} (hb : b < 4)
include hb

theorem State.ecDrift_stands (s : State) (hi : i < 32) : RegsStand s (s.ecDrift b i) := by
  unfold State.ecDrift
  split
  · extract_lets r
    exact fun k hk => ((State.ecPut_writes r.2 hb hi r.1).1 k hk).trans (State.rd_congr rfl k)
  · exact fun _ _ => rfl

/-- A snapshot writes its bank (R535). -/
theorem State.ecSnap_stands (s : State) : RegsStand s (s.ecSnap b) := by
  have len := ecLen_le b
  have bank {off : Nat} (hl : 0x40 ≤ off) (ho : off < 0x200) : counterReg (ecBase b + off) = true :=
    counterReg_ecReg (i := 0) hb (by decide) hl ho
  unfold State.ecSnap
  extract_lets st s1 s2
  have drifted : RegsStand s (s.ecDriftAll b) :=
    State.each_ind (P := RegsStand s) (fun _ _ => rfl) fun j hj u hu k hk =>
      (State.ecDrift_stands hb u (by have := List.mem_range.1 hj; omega) k hk).trans (hu k hk)
  have w2 : Writes counterReg (s.ecDriftAll b) s2 :=
    ((State.wr_writes _ _ _).mono fun k hk => by rw [beq_iff_eq.1 hk]; exact bank (by decide) (by decide)).trans
      (((Writes.refl _ _).wr (bank (by decide) (by decide)) _).wr (bank (by decide) (by decide)) _)
  have w3 : Writes counterReg s2 (s2.each (List.range (ecLen b)) fun s i =>
      (s.wr (ecReg b i Reg.Ec.SNAP_LO) (s.rd (ecReg b i Reg.Ec.CNT_LO))).wr (ecReg b i Reg.Ec.SNAP_HI)
        (s.rd (ecReg b i Reg.Ec.CNT_HI))) := by
    refine (Writes.refl _ s2).each fun j hj u _ => ?_
    have hj : j < 32 := by have := List.mem_range.1 hj; omega
    exact ((Writes.refl _ u).wr (counterReg_ecReg hb hj (by decide) (by decide)) _).wr
      (counterReg_ecReg hb hj (by decide) (by decide)) _
  exact fun k hk => ((w2.trans w3).1 k hk).trans (drifted k hk)

end

theorem State.evirqSnap_stands (s : State) (line : Nat) : RegsStand s (s.evirqSnap line) :=
  State.each_ind (P := RegsStand s) (fun _ _ => rfl) fun _ hb u hu =>
    State.onlyIf_ind hu fun _ k hk => (State.ecSnap_stands (List.mem_range.1 hb) u k hk).trans (hu k hk)

/-- An event line raised (R140, R535). -/
def State.raiseLine (s : State) (c : Nat) : State :=
  let was := s.bit (hrnBase + Reg.Hrn.EVIRQ_RAW) c
  let s := (s.setBit (hrnBase + Reg.Hrn.EVIRQ_RAW) c true).evirqRaise
  (s.ev 0xC7 c).onlyIf (!was) (·.evirqSnap c)

section
variable (s : State) {c : Nat}

theorem State.raiseLine_stands : RegsStand (s.setBit (hrnBase + Reg.Hrn.EVIRQ_RAW) c true).evirqRaise (s.raiseLine c) := by
  unfold State.raiseLine
  extract_lets was u
  have counted : RegsStand u (u.ev 0xC7 c) := (u.ev_writes _ _).1
  exact State.onlyIf_ind counted fun _ k hk => (State.evirqSnap_stands _ c k hk).trans (counted k hk)

theorem State.raiseLine_spec (hc : c < 32) :
    (s.raiseLine c).bit (hrnBase + Reg.Hrn.EVIRQ_RAW) c = true ∧
      (s.bit (hrnBase + Reg.Hrn.EVIRQ_EN) c = true → (s.raiseLine c).bit (hrnBase + Reg.Hdr.IRQ_RAW) 21 = true) := by
  have line := s.bit_setBit_same (hrnBase + Reg.Hrn.EVIRQ_RAW) hc true
  refine ⟨?_, fun he => ?_⟩
  · rw [State.bit, s.raiseLine_stands _ (counterReg_hrn (by decide)), (State.evirqRaise_writes _).1 _ (by decide)]
    exact line
  · rw [State.bit, s.raiseLine_stands _ (counterReg_hrn (by decide))]
    refine State.evirqRaise_flag line ?_
    rw [State.bit, State.setBit_eq, State.rd_wr_ne _ _ _ _ (by decide)]
    exact he

theorem State.raiseLine_evt {k : Nat} (hk : evtReg k = true) : (s.raiseLine c).rd k = s.rd k := by
  rw [s.raiseLine_stands k (counterReg_evtReg hk),
    (State.evirqRaise_writes _).1 _ (beq_false_of_ne (hrn_ne_evtReg hk (by decide)).symm), State.setBit_eq,
    State.rd_wr_ne _ _ _ _ (hrn_ne_evtReg hk (by decide)).symm]

end

/-! ## CHAIN -/

/-- An event armed by CHAIN, if it is not (R141). -/
def State.chainTo (s : State) (j : Nat) : State :=
  s.onlyIf (!evArm (s.rd (evtWord j 1))) (fun s => (s.setArm j true).bind j)

theorem State.chainTo_arms (s : State) (j : Nat) : evArm ((s.chainTo j).rd (evtWord j 1)) = true := by
  cases h : evArm (s.rd (evtWord j 1)) with
  | true => rw [State.chainTo, h, Bool.not_true, State.onlyIf_false, h]
  | false =>
    rw [State.chainTo, h, Bool.not_false, State.onlyIf_true,
      (State.bind_writes _ j).1 _ (beq_false_of_ne (evtWord_ne (by decide) (by decide) (.inr (by decide)))), State.evArm_setArm]

theorem State.chainTo_other (s : State) {i j : Nat} (h : i ≠ j) : (s.chainTo j).rd (evtWord i 1) = s.rd (evtWord i 1) := by
  refine State.onlyIf_ind (P := fun u => u.rd (evtWord i 1) = _) rfl fun _ => ?_
  rw [(State.bind_writes _ j).1 _ (beq_false_of_ne (evtWord_ne (by decide) (by decide) (.inl h))),
    (State.setArm_writes _ _ _).1 _ (beq_false_of_ne (evtWord_ne (by decide) (by decide) (.inl h)))]

end Sys2Proof.Machine

open Sys2Proof Sys2Proof.Machine

/-- Settles O24: an action acts (`State.runAct_acts`), and the end of its occurrence leaves alone what it acted on
(`State.finishAct_rd`). -/
theorem actionsAct : Obligations.ActionsAct := by
  unfold Obligations.ActionsAct
  intro s i a q hdue hq hc hr ended tgt
  have hidx : q.idx = i.val := State.dueAct_idx hdue
  have hc' : isCompat q.idx = false := by rwa [hidx]
  have hk : evtReg (evtWord q.idx 1) = true := evtReg_word (lt_of_not_isCompat hc') (by decide)
  have ends {u : State} (hw : u.rd (evtWord q.idx 1) = s.rd (evtWord q.idx 1)) : ended (u.finishAct q) := by
    have := State.finishAct_ends hc' hr hw
    rw [State.Ended, hidx] at this
    refine ⟨by rw [hidx]; exact this.1, fun h _ => this.2 h⟩
  have hrn {u : State} {off : Nat} (ho : off < 0x1000) : (u.finishAct q).rd (hrnBase + off) = u.rd (hrnBase + off) :=
    State.finishAct_rd hc' hr (finishRegs_hrn (lt_of_not_isCompat hc') ho)
  have acts (f : State → Placed → State) : s.runAct i.val a f = f s q := State.runAct_acts hdue (hidx ▸ hq)
  refine ⟨fun n hn x hx hl => ?lines, fun b c hbc => ?gate, fun ha => ?pulse, fun ha ht => ?sample, fun ha => ?irq,
    fun ha ht => ?chain⟩
  case lines =>
    have ⟨u, inst, hu, he⟩ := lineAct_single hdue (hidx ▸ hq) hx hl
    have driven : ended (lineAct a i.val s) ∧ (lineAct a i.val s).level n = s.actLevel a n := by
      rw [he]
      refine ⟨ends ((State.driveLine_evt hn _ _ _ hk).trans (State.rd_congr hu _)), ?_⟩
      rw [State.level, State.bit, Nat.add_assoc, hrn (by unfold Reg.Hrn.LEVEL; omega), ← Nat.add_assoc]
      exact State.driveLine_level hn _ _ _
    refine ⟨?set, ?clear, ?toggle⟩
    all_goals
      rintro rfl
      exact ⟨_, rfl, driven⟩
  case gate =>
    have gate {u : State} (hu : RegsStand (s.actGate q b) u) :
        ended (u.finishAct q) ∧ (u.finishAct q).gateOpen (bitsOf q.w1 8 5) (bitsOf q.w1 0 3) =
          (if s.gateOver q then s.gateOpen (bitsOf q.w1 8 5) (bitsOf q.w1 0 3) else b) := by
      have := bitsOf_lt q.w1 8 5
      have hg : hrnBase + (Reg.Hrn.GATE_STATE + 4 * (bitsOf q.w1 8 5 / 4)) = hrnBase + Reg.Hrn.GATE_STATE + 4 * (bitsOf q.w1 8 5 / 4) :=
        (Nat.add_assoc _ _ _).symm
      have ho : Reg.Hrn.GATE_STATE + 4 * (bitsOf q.w1 8 5 / 4) < 0x1000 := by
        unfold Reg.Hrn.GATE_STATE
        omega
      refine ⟨ends ((hu _ (counterReg_evtReg hk)).trans (State.actGate_evt hk)), ?_⟩
      rw [← State.actGate_gate, State.gateOpen, State.gateOpen, State.bit, State.bit, ← hg, hrn ho, hu _ (counterReg_hrn ho)]
    simp only [List.mem_cons, Prod.mk.injEq, List.not_mem_nil, or_false] at hbc
    rcases hbc with ⟨rfl, rfl, rfl⟩ | ⟨rfl, rfl, rfl⟩
    · exact ⟨_, congrArg Host.Outcome.next (acts _), gate (State.ev_writes _ 0xCD 0).1⟩
    · exact ⟨_, congrArg Host.Outcome.next (acts _), gate fun _ _ => rfl⟩
  case pulse =>
    subst ha
    obtain ⟨regs, pulse⟩ := s.setPulse_rest (evTarget q.w1 % 8) (some (q.inst + pulseWidth (bitsOf q.w3 16 16)))
    refine ⟨_, congrArg Host.Outcome.next (acts _), ends (State.rd_congr regs _), ?_⟩
    rw [(State.finishAct_rest hc' hr).1]
    exact pulse
  case sample =>
    subst ha
    have he : sampleAct i.val s = (s.sampleOn (tgt / 2 ^ 8 % 8) (tgt % 2 ^ 8) q.idx q.inst q.late q.proj).finishAct q :=
      (acts _).trans (congrArg (State.finishAct · q) (if_pos ht))
    refine ⟨_, congrArg Host.Outcome.next he, ends (s.sampleOn_drives _ _ _ _ _ _ _ (drivenReg_evt hk)), ?_⟩
    rw [State.adc, (State.finishAct_rest hc' hr).2]
    exact s.sampleOn_holds _ _ _ _ _ _
  case irq =>
    subst ha
    obtain ⟨line, flag⟩ := s.raiseLine_spec (Nat.mod_lt tgt (show 32 > 0 by decide))
    refine ⟨_, congrArg Host.Outcome.next (acts _), ends (s.raiseLine_evt hk), ?_, fun he => ?_⟩
    · rw [State.bit, hrn (by decide)]
      exact line
    · rw [State.bit, hrn (by decide)]
      exact flag he
  case chain =>
    subst ha
    refine ⟨_, congrArg Host.Outcome.next (acts _), ends (s.chainTo_other (by rw [hidx]; exact ht.symm)), ?_⟩
    have hj : tgt % 4096 < 4096 := Nat.mod_lt _ (by decide)
    rw [State.finishAct_rd hc' hr (finishRegs_other hj (by rw [hidx]; exact ht))]
    exact s.chainTo_arms _
end

section
/-! PROOFS. O25 is refuted: the statement judges the named channels by the access as its master sends it, where a side-band
access carries the secure world only within a secure session (R41). -/

namespace Sys2Proof.Machine

/-- Shepherd may write HRN and Channel 0, whose page is of the secure world; no service session is open. -/
def secureChannel : State :=
  (State.reset.wr (hrnBase + Reg.Hdr.OWNER) 0x400).wr (chanBase 0 + Reg.Hdr.OWNER) 0x401

/-- A side-band access that claims the secure world. -/
def claimsSecure : Access := ⟨.shep, true, 0⟩

theorem secureChannel_takes : Takes secureChannel claimsSecure (hrnBase + Reg.Hrn.LINE_SET + 4 * 0) := by
  unfold Takes
  decide +kernel

theorem secureChannel_lineOk : secureChannel.lineOk claimsSecure 0 = true := by decide +kernel

/-- LINE_SET of Channel 0 over the side band. -/
def secureChannelSet : State :=
  secureChannel.write claimsSecure 4 (hrnBase + Reg.Hrn.LINE_SET + 4 * 0) 1 (fun acc => lineWrite acc 0 true 1)

/-- The access acts as of the normal world, which the channel's page turns away. -/
theorem secureChannelSet_level : secureChannelSet.level 0 = false := by decide +kernel

end Sys2Proof.Machine

open Sys2Proof Sys2Proof.Machine

/-- Refutes O25: in `secureChannel` a side-band LINE_SET that claims the secure world without a secure session leaves Channel 0
low, where the statement has it high, since it checks the channel's page against the world claimed. -/
theorem not_linesAndOutputs : ¬ Obligations.LinesAndOutputs := by
  unfold Obligations.LinesAndOutputs
  rintro ⟨lines, -⟩
  obtain ⟨t, run, -, level⟩ := lines secureChannel claimsSecure 0 1 true _ (.inl ⟨rfl, rfl, secureChannel_takes⟩)
  have ht : secureChannelSet = t := Host.Outcome.next.inj run
  have high : t.level 0 = true := by
    rw [level 0 (by decide), if_pos ⟨rfl, by decide, secureChannel_lineOk⟩]
  rw [← ht, secureChannelSet_level] at high
  exact absurd high (by decide)
end

section
/-! PROOFS. What stands among the registers through a change of the state, fields of one register, and what an occurrence
recorded by the monitor writes (R346, R349). -/

namespace Sys2Proof.Machine

/-! ## Registers that stand -/

/-- The registers `p` does not name read in `t` as in `s`. -/
def RegsBut (p : Nat → Bool) (s t : State) : Prop := ∀ k, p k = false → t.rd k = s.rd k

section
variable {p q : Nat → Bool} {s t u : State}

theorem RegsBut.refl (p : Nat → Bool) (s : State) : RegsBut p s s := fun _ _ => rfl

theorem RegsBut.trans (h : RegsBut p s t) (h' : RegsBut p t u) : RegsBut p s u := fun k hk => (h' k hk).trans (h k hk)

theorem RegsBut.mono (h : RegsBut p s t) (hq : ∀ k, p k = true → q k = true) : RegsBut q s t :=
  fun k hk => h k (Bool.eq_false_iff.2 fun hc => by simp [hq k hc] at hk)

theorem RegsBut.same (h : t.regs = s.regs) : RegsBut p s t := fun k _ => State.rd_congr h k

theorem RegsBut.wr (h : RegsBut p s t) {k : Nat} (hk : p k = true) (v : Word) : RegsBut p s (t.wr k v) :=
  h.trans ((Writes.refl _ _).wr hk v).1

theorem RegsBut.onlyIf (h : RegsBut p s t) {c : Bool} {f : State → State} (hf : c = true → RegsBut p t (f t)) :
    RegsBut p s (t.onlyIf c f) := State.onlyIf_ind h fun hc => h.trans (hf hc)

theorem RegsBut.each (h : RegsBut p s t) {α : Type} {l : List α} {f : State → α → State}
    (hf : ∀ x ∈ l, ∀ u, RegsBut p u (f u x)) : RegsBut p s (t.each l f) :=
  State.each_ind h fun x hx u hu => hu.trans (hf x hx u)

theorem RegsBut.count (h : RegsBut p s t) {k : Nat} (hk : p k = true) : RegsBut p s (t.count k) :=
  h.trans (RegsBut.mono (t.count_writes k).1 fun _ hj => by rwa [beq_iff_eq.1 hj])

theorem RegsBut.fld (h : RegsBut p s t) {k : Nat} (hk : p k = false) (lo n : Nat) : t.fld k lo n = s.fld k lo n :=
  congrArg (bitsOf · lo n) (h k hk)

theorem RegsBut.bit (h : RegsBut p s t) {k : Nat} (hk : p k = false) (i : Nat) : t.bit k i = s.bit k i :=
  congrArg (bitOf · i) (h k hk)

end

/-! ## Fields of a register -/

section
variable (s : State) (k : Nat) {lo n lo' n' : Nat} (v : Nat)

theorem State.fld_setFld_same (h : lo + n ≤ 32) : (s.setFld k lo n v).fld k lo n = v % 2 ^ n := by
  rw [State.fld, State.setFld_eq, State.rd_wr_same, bitsOf_setBits_same _ _ h]

theorem State.fld_setFld_apart (h : lo + n ≤ 32) (ha : lo + n ≤ lo' ∨ lo' + n' ≤ lo) :
    (s.setFld k lo n v).fld k lo' n' = s.fld k lo' n' := by
  rw [State.fld, State.setFld_eq, State.rd_wr_same]
  rcases ha with ha | ha
  · exact bitsOf_setBits_above _ _ h ha
  · exact bitsOf_setBits_below _ _ h ha

theorem State.fld_wr_other {j : Nat} (h : j ≠ k) (w : Word) (lo n : Nat) : (s.wr k w).fld j lo n = s.fld j lo n :=
  congrArg (bitsOf · lo n) (s.rd_wr_ne k j w h)

/-- A field of the register counted in, and the counted field itself, saturating. -/
theorem State.fld_countFld_same (h : lo + n ≤ 32) : (s.countFld k lo n).fld k lo n = min (2 ^ n - 1) (s.fld k lo n + 1) := by
  have hlt : s.fld k lo n < 2 ^ n := bitsOf_lt _ _ _
  unfold State.countFld
  split
  · next he => omega
  · rw [State.fld_setFld_same _ _ _ h, Nat.mod_eq_of_lt (by omega)]
    omega

theorem State.countFld_writes (lo n : Nat) : Writes (· == k) s (s.countFld k lo n) := by
  unfold State.countFld
  split
  · exact .refl _ s
  · exact s.wr_writes _ _

end

/-! ## The monitor -/

/-- The registers of SAFE but the reactions assigned, and the event counters. -/
def recordReg (k : Nat) : Bool :=
  counterReg k || decide (safeBase ≤ k ∧ k < safeBase + 0x64)

theorem safeReg_recordReg {off : Nat} (h : off < 0x64) : recordReg (safeReg off) = true := by
  simp [recordReg, safeReg, h]

theorem recordReg_counter {k : Nat} (h : counterReg k = true) : recordReg k = true := by simp [recordReg, h]

/-- A shared source whose reaction is LOG or IRQ is recorded, and nothing follows (R346). -/
theorem State.react_writes (s : State) {src r : Nat} (hs : 32 ≤ src) (hr : r ≤ 1) (info : Word) :
    Writes recordReg s (s.react src info r) := by
  have hn : srcHalf src = none := by rw [srcHalf, if_neg (by omega), if_neg (by omega)]
  have h5 : r ≠ 5 := by omega
  simp only [State.react, hn, if_neg h5]
  exact (Writes.refl _ s).onlyIf fun _ => (Writes.refl _ s).wr (safeReg_recordReg (off := Reg.Hdr.IRQ_RAW) (by decide)) _

theorem State.record_writes (s : State) {src : Nat} (hs : 32 ≤ src) (hl : src < 64) (hr : s.reaction src ≤ 1) (info : Word) :
    Writes recordReg s (s.record src info) := by
  unfold State.record State.recordAs
  split
  · exact .refl _ s
  · extract_lets r0 r s1 s2 s3 s4
    have stat : recordReg (safeReg Reg.Safe.ERR_STAT0 + 4 * (src / 32)) = true := by
      rw [safeReg, Nat.add_assoc]
      exact safeReg_recordReg (by unfold Reg.Safe.ERR_STAT0; omega)
    have h1 : Writes recordReg s s1 := (Writes.refl _ s).wr stat _
    have h2 : Writes recordReg s s2 := (h1.trans ((s1.count_writes _).mono fun k hk => by
      rw [beq_iff_eq.1 hk]; exact safeReg_recordReg (by decide))).trans ((State.ev_writes _ _ _).mono fun _ => recordReg_counter)
    have h3 : Writes recordReg s s3 := (h2.wr (safeReg_recordReg (by decide)) _).wr (safeReg_recordReg (by decide)) _
    have h4 : Writes recordReg s s4 := h3.onlyIf fun _ =>
      ((((Writes.refl _ s3).wr (safeReg_recordReg (by decide)) _).wr (safeReg_recordReg (by decide)) _).wr
        (safeReg_recordReg (by decide)) _).wr (safeReg_recordReg (by decide)) _
    refine h4.trans (s4.react_writes hs ?_ info)
    simp only [r, r0]
    split <;> omega

end Sys2Proof.Machine
end

section
/-! PROOFS. What follows a change inside a tile: its channels settle and FAULT_N follows, and what that leaves alone (R158, R205,
R206, R214, R220). -/

namespace Sys2Proof.Machine

/-! ## The tiles' own registers -/

/-- The registers of the tiles' own. -/
def tileOwn (k : Nat) : Bool := decide (2 ^ 33 ≤ k)

theorem tk_mod (n : Nat) {off : Nat} (ho : off < 0x1000) : tk n off % 0x1000 = off := by
  unfold tk bank chanBase
  omega

theorem tk_ne (n m : Nat) {a b : Nat} (h : a ≠ b) (ha : a < 0x1000) (hb : b < 0x1000) : tk n a ≠ tk m b := fun he =>
  h (by rw [← tk_mod n ha, ← tk_mod m hb, he])

theorem tileOwn_tk (n off : Nat) : tileOwn (tk n off) = true := by
  unfold tileOwn tk bank chanBase
  rw [decide_eq_true_eq]
  omega

theorem tileOwn_tt (t off : Nat) : tileOwn (tt t off) = true := by
  unfold tileOwn tt bank tileBase
  rw [decide_eq_true_eq]
  omega

theorem tt_mod (t : Nat) {off : Nat} (ho : off < 0x1000) : tt t off % 0x1000 = off := by
  unfold tt bank tileBase
  omega

theorem recordReg_tileOwn {k : Nat} (h : tileOwn k = true) : recordReg k = false := by
  simp only [tileOwn, decide_eq_true_eq] at h
  simp only [recordReg, counterReg, Bool.or_eq_false_iff, decide_eq_false_iff_not]
  unfold ecBase safeBase
  omega

/-- The registers that follow a channel's settling: PROT_STAT, CLAMP_CNT, and what the monitor and the event counters record. -/
def settleReg (k : Nat) : Bool := recordReg k || (tileOwn k && atPlaces [Reg.Chan.PROT_STAT, Reg.Chan.CLAMP_CNT] k)

theorem settleReg_tk (n : Nat) {off : Nat} (ho : off < 0x1000) :
    settleReg (tk n off) = [Reg.Chan.PROT_STAT, Reg.Chan.CLAMP_CNT].contains off := by
  rw [settleReg, recordReg_tileOwn (tileOwn_tk _ _), tileOwn_tk, atPlaces, tk_mod n ho]
  rfl

theorem settleReg_leash (t : Nat) : settleReg (tt t Reg.Tile.LEASH_STAT) = false := by
  rw [settleReg, recordReg_tileOwn (tileOwn_tt _ _), tileOwn_tt, atPlaces, tt_mod t (by decide)]
  rfl

/-! ## What settling leaves -/

/-- A channel's record but for conduction, its inrush window, its off-state sequence and the instant conduction ended. -/
def ChanT.kept (c : ChanT) : ChanT := { c with conducts := false, inrush := false, diag := 0, offAt := none }

/-- A tile's record but for FAULT_N as last seen. -/
def Tile.kept (m : Tile) : Tile := { m with faultLow := false }

/-- What settling leaves: registers but those of `settleReg`, of PROT_STAT all between PROT and REGULATING, the tiles' and
channels' records as `kept`, the clocks and the edges under way. -/
structure Settled (s u : State) : Prop where
  regs : RegsBut settleReg s u
  prot : ∀ n lo w, 3 ≤ lo → lo + w ≤ 21 → u.fld (tk n Reg.Chan.PROT_STAT) lo w = s.fld (tk n Reg.Chan.PROT_STAT) lo w
  tile : ∀ t, (u.tile t).kept = (s.tile t).kept
  chan : ∀ n, (u.chan n).kept = (s.chan n).kept
  time : u.time = s.time
  inFlight : u.inFlight = s.inFlight

section
variable {s t u : State}

theorem Settled.refl (s : State) : Settled s s :=
  ⟨.refl _ s, fun _ _ _ _ _ => rfl, fun _ => rfl, fun _ => rfl, rfl, rfl⟩

theorem Settled.trans (h : Settled s t) (h' : Settled t u) : Settled s u where
  regs := h.regs.trans h'.regs
  prot n lo w hl hw := (h'.prot n lo w hl hw).trans (h.prot n lo w hl hw)
  tile x := (h'.tile x).trans (h.tile x)
  chan n := (h'.chan n).trans (h.chan n)
  time := h'.time.trans h.time
  inFlight := h'.inFlight.trans h.inFlight

/-- A step that leaves registers and records. -/
theorem Settled.same (hr : u.regs = s.regs) (ht : u.tiles = s.tiles) (hc : u.chans = s.chans) (htime : u.time = s.time)
    (hf : u.inFlight = s.inFlight) : Settled s u where
  regs := .same hr
  prot n lo w _ _ := congrArg (bitsOf · lo w) (State.rd_congr hr _)
  tile x := by rw [State.tile, State.tile, ht]
  chan n := by rw [State.chan, State.chan, hc]
  time := htime
  inFlight := hf

/-- A step that writes registers and leaves of PROT_STAT what lies between PROT and REGULATING. -/
theorem Settled.writes {p : Nat → Bool} (h : Writes p s u) (hp : ∀ k, p k = true → settleReg k = true)
    (hq : ∀ n lo w, 3 ≤ lo → lo + w ≤ 21 → u.fld (tk n Reg.Chan.PROT_STAT) lo w = s.fld (tk n Reg.Chan.PROT_STAT) lo w) :
    Settled s u where
  regs := RegsBut.mono h.1 hp
  prot := hq
  tile x := by rw [State.tile, State.tile, h.2]
  chan n := by rw [State.chan, State.chan, h.2]
  time := h.time
  inFlight := by rw [h.2]

/-- A step that writes registers other than PROT_STAT. -/
theorem Settled.writesOther {p : Nat → Bool} (h : Writes p s u) (hp : ∀ k, p k = true → settleReg k = true)
    (hq : ∀ n, p (tk n Reg.Chan.PROT_STAT) = false) : Settled s u :=
  .writes h hp fun n lo w _ _ => congrArg (bitsOf · lo w) (h.1 _ (hq n))

/-- PROT or REGULATING of a channel set. -/
theorem Settled.setProt (s : State) (n : Nat) {lo w : Nat} (v : Nat) (h : lo + w ≤ 3 ∨ 21 ≤ lo ∧ lo + w ≤ 32) :
    Settled s (s.setFld (tk n Reg.Chan.PROT_STAT) lo w v) := by
  refine .writes (s.wr_writes _ _) (fun k hk => ?_) fun m lo' w' hl hw => ?_
  · rw [beq_iff_eq.1 hk, settleReg_tk n (by decide)]
    decide
  · by_cases e : tk m Reg.Chan.PROT_STAT = tk n Reg.Chan.PROT_STAT
    · rw [e]
      exact s.fld_setFld_apart _ _ (by omega) (by omega)
    · exact s.fld_wr_other _ e _ _ _

@[simp] theorem State.chan_setChan_same (s : State) (n : Nat) (c : ChanT) : (s.setChan n c).chan n = c := Tbl.get_set_same _ _ _ _

theorem State.chan_setChan_ne (s : State) {n m : Nat} (c : ChanT) (h : m ≠ n) : (s.setChan n c).chan m = s.chan m :=
  Tbl.get_set_ne _ _ _ _ _ _ h

theorem State.chan_emit (s : State) (e : Emit) (n : Nat) : (s.emit e).chan n = s.chan n := rfl

theorem State.chan_freshBool (s : State) (n : Nat) : s.freshBool.2.chan n = s.chan n := rfl

@[simp] theorem State.tile_setTile_same (s : State) (t : Nat) (m : Tile) : (s.setTile t m).tile t = m := Tbl.get_set_same _ _ _ _

theorem State.tile_setTile_ne (s : State) {t x : Nat} (m : Tile) (h : x ≠ t) : (s.setTile t m).tile x = s.tile x :=
  Tbl.get_set_ne _ _ _ _ _ _ h

theorem Settled.setChan (s : State) (n : Nat) (c : ChanT) (h : c.kept = (s.chan n).kept) : Settled s (s.setChan n c) where
  regs := .same rfl
  prot _ _ _ _ _ := rfl
  tile _ := rfl
  chan m := by
    by_cases e : m = n
    · rw [e, State.chan_setChan_same, h]
    · rw [State.chan_setChan_ne _ _ e]
  time := rfl
  inFlight := rfl

theorem Settled.setTile (s : State) (t : Nat) (m : Tile) (h : m.kept = (s.tile t).kept) : Settled s (s.setTile t m) where
  regs := .same rfl
  prot _ _ _ _ _ := rfl
  tile x := by
    by_cases e : x = t
    · rw [e, State.tile_setTile_same, h]
    · rw [State.tile_setTile_ne _ _ e]
  chan _ := rfl
  time := rfl
  inFlight := rfl

theorem Settled.onlyIf (h : Settled s t) {c : Bool} {f : State → State} (hf : Settled t (f t)) : Settled s (t.onlyIf c f) :=
  State.onlyIf_ind h fun _ => h.trans hf

/-! ## What is read from what stands -/

theorem Settled.leashStat (h : Settled s u) (t : Nat) : u.rd (tt t Reg.Tile.LEASH_STAT) = s.rd (tt t Reg.Tile.LEASH_STAT) :=
  h.regs _ (settleReg_leash t)

theorem Settled.leashState (h : Settled s u) (t : Nat) : u.leashState t = s.leashState t :=
  congrArg (bitsOf · 18 3) (h.leashStat t)

theorem Settled.leashHolder (h : Settled s u) (t : Nat) : u.leashHolder t = s.leashHolder t :=
  congrArg (bitsOf · 16 2) (h.leashStat t)

theorem Settled.leashCur (h : Settled s u) (t : Nat) : u.leashCur t = s.leashCur t :=
  congrArg (bitsOf · 0 16) (h.leashStat t)

theorem Settled.rd_tk (h : Settled s u) (n : Nat) {off : Nat} (ho : off < 0x1000)
    (hn : off ∉ [Reg.Chan.PROT_STAT, Reg.Chan.CLAMP_CNT]) : u.rd (tk n off) = s.rd (tk n off) :=
  h.regs _ (by rw [settleReg_tk n ho]; simpa using hn)

theorem Settled.protBit (h : Settled s u) (n : Nat) {i : Nat} (h3 : 3 ≤ i) (hi : i < 21) :
    u.bit (tk n Reg.Chan.PROT_STAT) i = s.bit (tk n Reg.Chan.PROT_STAT) i :=
  congrArg (· == 1) (h.prot n i 1 h3 hi)

theorem Settled.reaction (h : Settled s u) : u.reaction 32 = s.reaction 32 :=
  congrArg (bitsOf · _ _) (h.regs _ (by decide))

/-- A part of a tile's record other than FAULT_N as last seen. -/
theorem Settled.tilePart (h : Settled s u) {α : Type} (f : Tile → α) (t : Nat) (hf : ∀ m, f m.kept = f m) :
    f (u.tile t) = f (s.tile t) := by rw [← hf, h.tile, hf]

/-- A part of a channel's record that settling leaves. -/
theorem Settled.chanPart (h : Settled s u) {α : Type} (f : ChanT → α) (n : Nat) (hf : ∀ c, f c.kept = f c) :
    f (u.chan n) = f (s.chan n) := by rw [← hf, h.chan, hf]

theorem Settled.srcLevel (h : Settled s u) (n : Nat) : u.srcLevel n = s.srcLevel n := by
  simp only [State.srcLevel, State.lhLevel, h.leashState, h.rd_tk n (off := Reg.Chan.CH_POL_ACT) (by decide) (by decide),
    h.tilePart Tile.powered (n / 16) fun _ => rfl, h.tilePart Tile.latch (n / 16) fun _ => rfl,
    h.tilePart Tile.inLv (n / 16) fun _ => rfl, h.tilePart Tile.stay (n / 16) fun _ => rfl,
    h.tilePart Tile.park (n / 16) fun _ => rfl, h.tilePart Tile.lh (n / 16) fun _ => rfl]

theorem Settled.outWord (h : Settled s u) (t : Nat) : u.outWord t = s.outWord t := by
  simp only [State.outWord, h.srcLevel]

theorem Settled.ocLatch (h : Settled s u) (n : Nat) : u.ocLatch n = s.ocLatch n :=
  congrArg (bitOf · 8) (h.rd_tk n (by decide) (by decide))

theorem Settled.thLatch (h : Settled s u) (n : Nat) : u.thLatch n = s.thLatch n := h.protBit n (by decide) (by decide)

theorem Settled.lockout (h : Settled s u) (n : Nat) : u.lockout n = s.lockout n := h.protBit n (by decide) (by decide)

theorem Settled.restartPend (h : Settled s u) (n : Nat) : u.restartPend n = s.restartPend n := h.protBit n (by decide) (by decide)

theorem Settled.retryLeft (h : Settled s u) (n : Nat) : u.retryLeft n = s.retryLeft n := h.prot n 8 4 (by decide) (by decide)

theorem Settled.mayConduct (h : Settled s u) (n : Nat) : u.mayConduct n = s.mayConduct n := by
  simp only [State.mayConduct, h.srcLevel, h.ocLatch, h.thLatch, h.lockout, State.bit,
    h.rd_tk n (off := Reg.Chan.CH_CFG) (by decide) (by decide)]

end

/-! ## A channel settles -/

section
variable (s : State) (n : Nat)

/-- Conduction and the inrush window as the channel's conditions have them now (R158, R205). -/
def State.switchChan (s : State) (n : Nat) : State :=
  if s.mayConduct n && !(s.chan n).conducts then
    (s.setChan n { s.chan n with
      conducts := true, inrush := s.fld (tk n Reg.Chan.OC_CFG) 16 10 != 0, diag := 0 }).emit (.output n true)
  else if !s.mayConduct n && (s.chan n).conducts then
    let r := ((s.setChan n { s.chan n with conducts := false, offAt := some s.time.tbf.nsTotal }).emit (.output n false)).freshBool
    r.2.onlyIf r.1 (·.count (tk n Reg.Chan.CLAMP_CNT))
  else s

/-- An off-state sequence ends where the channel is no longer eligible (R218). -/
def State.endDiag (s : State) (n : Nat) : State := s.onlyIf (!s.diagEligible n) (fun s => s.setChan n { s.chan n with diag := 0 })

/-- PROT by the row of R214 that holds. -/
def State.showProt (s : State) (n : Nat) : State := s.setFld (tk n Reg.Chan.PROT_STAT) 0 3 (s.protCode n)

theorem State.settleChan_eq : s.settleChan n = (((s.switchChan n).endDiag n).regulate n).showProt n := by
  unfold State.settleChan State.switchChan
  rfl

theorem State.clampCount_settled : Settled s (s.count (tk n Reg.Chan.CLAMP_CNT)) :=
  .writesOther (s.count_writes _) (fun k hk => by rw [beq_iff_eq.1 hk, settleReg_tk n (by decide)]; decide)
    fun m => beq_false_of_ne (tk_ne m n (by decide) (by decide) (by decide))

theorem State.switchChan_settled : Settled s (s.switchChan n) := by
  unfold State.switchChan
  split
  · exact (Settled.setChan s n { s.chan n with conducts := true, inrush := _, diag := 0 } rfl).trans (.same rfl rfl rfl rfl rfl)
  split
  · extract_lets c r
    have off : Settled s r.2 := (Settled.setChan s n { s.chan n with conducts := false, offAt := some s.time.tbf.nsTotal } rfl).trans
      (.same rfl rfl rfl rfl rfl)
    exact off.onlyIf (State.clampCount_settled _ _)
  · exact .refl s

theorem State.count_chans (k : Nat) : (s.count k).chans = s.chans := by rw [(s.count_writes k).2]

theorem State.switchChan_conducts : ((s.switchChan n).chan n).conducts = s.mayConduct n := by
  unfold State.switchChan
  split
  · next h =>
    rw [Bool.and_eq_true] at h
    rw [State.chan_emit, State.chan_setChan_same, h.1]
  split
  · next h =>
    extract_lets c r
    have hr : (r.2.chan n).conducts = s.mayConduct n := by
      rw [Bool.and_eq_true, Bool.not_eq_true'] at h
      rw [State.chan_freshBool, State.chan_emit, State.chan_setChan_same, h.1]
    refine State.onlyIf_ind (P := fun u => (u.chan n).conducts = s.mayConduct n) hr fun _ => ?_
    rwa [State.chan, State.count_chans]
  · next h1 h2 => cases hm : s.mayConduct n <;> simp_all

theorem State.endDiag_settled : Settled s (s.endDiag n) := (Settled.refl s).onlyIf (Settled.setChan s n _ rfl)

theorem State.endDiag_conducts (m : Nat) : ((s.endDiag n).chan m).conducts = (s.chan m).conducts := by
  refine State.onlyIf_ind (P := fun u => (u.chan m).conducts = (s.chan m).conducts) rfl fun _ => ?_
  by_cases e : m = n
  · rw [e, State.chan_setChan_same]
  · rw [State.chan_setChan_ne _ _ e]

theorem State.regulate_closed (h : s.regOpen n = false) : s.regulate n = s.setPs n 21 false := if_neg (by simp [h])

/-- In an open window the load decides (R206). -/
theorem State.regulate_open (h : s.regOpen n = true) : ∃ (b c : Bool) (e : Emit),
    s.regulate n = (s.freshBool.2.setPs n 21 b).onlyIf c (·.emit e) := ⟨_, _, _, if_pos h⟩

theorem State.regulate_settled : Settled s (s.regulate n) := by
  have set (u : State) (b : Bool) : Settled u (u.setPs n 21 b) := Settled.setProt u n (lo := 21) (w := 1) _ (.inr (by decide))
  cases h : s.regOpen n with
  | false =>
    rw [s.regulate_closed n h]
    exact set s _
  | true =>
    obtain ⟨b, c, e, eq⟩ := s.regulate_open n h
    have drawn : Settled s s.freshBool.2 := .same rfl rfl rfl rfl rfl
    rw [eq]
    exact (drawn.trans (set _ b)).onlyIf (Settled.same (u := (s.freshBool.2.setPs n 21 b).emit e) rfl rfl rfl rfl rfl)

theorem State.setPs_chans (i : Nat) (b : Bool) : (s.setPs n i b).chans = s.chans := s.wr_chans _ _

theorem State.regulate_chans : (s.regulate n).chans = s.chans := by
  cases h : s.regOpen n with
  | false => rw [s.regulate_closed n h, State.setPs_chans]
  | true =>
    obtain ⟨b, c, e, eq⟩ := s.regulate_open n h
    rw [eq]
    refine State.onlyIf_ind (P := fun u => u.chans = s.chans) ?_ fun _ => ?_
    · rw [State.setPs_chans]; rfl
    · rw [State.emit_chans, State.setPs_chans]; rfl

theorem State.settleChan_settled : Settled s (s.settleChan n) := by
  rw [State.settleChan_eq]
  exact (((s.switchChan_settled n).trans (State.endDiag_settled _ n)).trans (State.regulate_settled _ n)).trans
    (Settled.setProt _ n _ (.inl (by decide)))

/-- A settled channel conducts just where it may (R158). -/
theorem State.settleChan_conducts : ((s.settleChan n).chan n).conducts = (s.settleChan n).mayConduct n := by
  have shown (u : State) : (u.showProt n).chan n = u.chan n := rfl
  have regulated (u : State) : (u.regulate n).chan n = u.chan n := by rw [State.chan, State.regulate_chans, State.chan]
  rw [(s.settleChan_settled n).mayConduct, State.settleChan_eq, shown, regulated, State.endDiag_conducts,
    State.switchChan_conducts]

/-- PROT of a settled channel that is locked out (R214). -/
theorem State.settleChan_lockout (h : s.lockout n = true) : (s.settleChan n).fld (tk n Reg.Chan.PROT_STAT) 0 3 = 5 := by
  have hl : (((s.switchChan n).endDiag n).regulate n).lockout n = true := by
    rw [(State.regulate_settled _ n).lockout, (State.endDiag_settled _ n).lockout, (s.switchChan_settled n).lockout, h]
  rw [State.settleChan_eq, State.showProt, State.fld_setFld_same _ _ _ (by decide), State.protCode, hl]
  rfl

/-! ## FAULT_N -/

variable {s} (t : Nat) (hr : s.reaction 32 ≤ 1)
include hr

/-- A falling FAULT_N is recorded, and nothing follows where its reaction is LOG or IRQ (R220, R223). -/
theorem State.seeFault_settled : Settled s (s.seeFault t) := by
  unfold State.seeFault
  extract_lets low was m u
  have hu : Settled s u := .setTile s t _ rfl
  have hv : Settled s (u.ev 0xD5 t) := hu.trans (.writesOther (u.ev_writes _ _) (fun k hk => by simp [settleReg, recordReg, hk])
    fun n => Bool.eq_false_iff.2 fun hc => by
      have := recordReg_tileOwn (tileOwn_tk n Reg.Chan.PROT_STAT)
      simp [recordReg, hc] at this)
  split
  · exact hv.trans (.writesOther (State.record_writes _ (by decide) (by decide) (by rw [hv.reaction]; exact hr) _)
      (fun k hk => by simp [settleReg, hk]) fun n => recordReg_tileOwn (tileOwn_tk n _))
  · exact hu

theorem State.seeFault_chans : (s.seeFault t).chans = s.chans := by
  unfold State.seeFault
  extract_lets low was m u
  have hu : Settled s u := .setTile s t _ rfl
  have hv := u.ev_writes 0xD5 t
  have hw : (u.ev 0xD5 t).reaction 32 ≤ 1 := by
    rw [State.reaction, State.fld, hv.1 _ (by decide)]
    exact hr
  split
  · rw [(State.record_writes _ (by decide) (by decide) hw _).2, hv.2]
    rfl
  · rfl

/-- FAULT_N's record leaves a channel's PROT_STAT whole. -/
theorem State.seeFault_prot (n : Nat) {lo w : Nat} :
    (s.seeFault t).fld (tk n Reg.Chan.PROT_STAT) lo w = s.fld (tk n Reg.Chan.PROT_STAT) lo w := by
  unfold State.seeFault
  extract_lets low was m u
  have hv := u.ev_writes 0xD5 t
  have hw : (u.ev 0xD5 t).reaction 32 ≤ 1 := by
    rw [State.reaction, State.fld, hv.1 _ (by decide)]
    exact hr
  have own := recordReg_tileOwn (tileOwn_tk n Reg.Chan.PROT_STAT)
  split
  · refine congrArg (bitsOf · lo w) (((State.record_writes _ (by decide) (by decide) hw _).1 _ own).trans (hv.1 _ ?_))
    exact Bool.eq_false_iff.2 fun hc => by simp [recordReg, hc] at own
  · rfl

theorem State.settleOne_settled (n : Nat) : Settled s (s.settleOne n) :=
  (s.settleChan_settled n).trans (State.seeFault_settled _ (by rw [(s.settleChan_settled n).reaction]; exact hr))

theorem State.settleOne_conducts (n : Nat) : ((s.settleOne n).chan n).conducts = (s.settleOne n).mayConduct n := by
  have hc : (s.settleChan n).reaction 32 ≤ 1 := by
    rw [(s.settleChan_settled n).reaction]
    exact hr
  rw [State.settleOne, (State.seeFault_settled (n / 16) hc).mayConduct, ← State.settleChan_conducts, State.chan,
    State.seeFault_chans _ hc]
  rfl

theorem State.settleTile_settled : Settled s (s.settleTile t) := by
  have hc : Settled s (s.each ((List.range 16).map (16 * t + ·)) State.settleChan) :=
    State.each_ind (P := Settled s) (.refl s) fun n _ u hu => hu.trans (u.settleChan_settled n)
  exact hc.trans (State.seeFault_settled t (by rw [hc.reaction]; exact hr))

end

end Sys2Proof.Machine
end

section
/-! PROOFS. O32: over-current trips (R158, R202 to R206, R211, R215, R217). -/

namespace Sys2Proof.Machine

/-! ## What a trip writes -/

section
variable (s : State) (n : Nat)

theorem State.bit_setBit_ne (k : Nat) {i j : Nat} (h : i ≠ j) (hi : i < 32) (b : Bool) : (s.setBit k i b).bit k j = s.bit k j :=
  congrArg (· == 1) (s.fld_setFld_apart k _ (by omega) (by omega))

theorem State.setTk_writes (off lo w v : Nat) : Writes tileOwn s (s.setFld (tk n off) lo w v) :=
  (s.wr_writes _ _).mono fun k hk => by rw [beq_iff_eq.1 hk, tileOwn_tk]

theorem State.countTk_writes (off lo w : Nat) : Writes tileOwn s (s.countFld (tk n off) lo w) :=
  (s.countFld_writes _ _ _).mono fun k hk => by rw [beq_iff_eq.1 hk, tileOwn_tk]

theorem State.setPs_writes (i : Nat) (b : Bool) : Writes tileOwn s (s.setPs n i b) := s.setTk_writes n _ _ _ _

theorem State.setDh_writes (i : Nat) (b : Bool) : Writes tileOwn s (s.setDh n i b) := s.setTk_writes n _ _ _ _

/-- Another register of the tile's own stands when one is written. -/
theorem State.fld_setTk_other {off off' : Nat} (h : off ≠ off') (ho : off < 0x1000) (ho' : off' < 0x1000) (lo w v lo' w' : Nat) :
    (s.setFld (tk n off') lo' w' v).fld (tk n off) lo w = s.fld (tk n off) lo w :=
  s.fld_wr_other _ (tk_ne n n h ho ho') _ _ _

theorem State.fld_countTk_other {off off' : Nat} (h : off ≠ off') (ho : off < 0x1000) (ho' : off' < 0x1000) (lo w lo' w' : Nat) :
    (s.countFld (tk n off') lo' w').fld (tk n off) lo w = s.fld (tk n off) lo w :=
  congrArg (bitsOf · lo w) ((s.countFld_writes _ _ _).1 _ (beq_false_of_ne (tk_ne n n h ho ho')))

/-- The cause that stands after a trip: of trips of one clock the first in the order of R215. -/
def State.tripCause (s : State) (n cause : Nat) : Nat :=
  if s.tripsNow n && decide (causeRank (s.fld (tk n Reg.Chan.PROT_STAT) 12 3) < causeRank cause)
  then s.fld (tk n Reg.Chan.PROT_STAT) 12 3 else cause

/-- The registers of a trip: the restart pending, the cause, the count (R211). -/
def State.tripRegs (s : State) (n cause : Nat) (thermal : Bool) : State :=
  ((s.setPs n 6 true).setFld (tk n Reg.Chan.PROT_STAT) 12 3 (s.tripCause n cause)).countFld
    (tk n Reg.Chan.TRIP_CNT) (if thermal then 16 else 0) 16

variable (cause : Nat) (thermal : Bool)

theorem State.trip_eq : s.trip n cause thermal = (s.tripRegs n cause thermal).setChan n
    { (s.tripRegs n cause thermal).chan n with
      timer := true, deferred := false, clean := false, tripAt := some s.time.tbf.nsTotal } := by
  have ht : (s.tripRegs n cause thermal).time = s.time :=
    (((s.setPs_writes n 6 true).trans (State.setTk_writes _ n _ _ _ _)).trans (State.countTk_writes _ n _ _ _)).time
  rw [← ht]
  rfl

theorem State.tripRegs_writes : Writes tileOwn s (s.tripRegs n cause thermal) :=
  ((s.setPs_writes n 6 true).trans (State.setTk_writes _ n _ _ _ _)).trans (State.countTk_writes _ n _ _ _)

theorem State.tripRegs_cause (hc : cause < 8) : (s.tripRegs n cause thermal).fld (tk n Reg.Chan.PROT_STAT) 12 3 = s.tripCause n cause := by
  have hold : s.fld (tk n Reg.Chan.PROT_STAT) 12 3 < 8 := bitsOf_lt _ _ _
  rw [State.tripRegs, State.fld_countTk_other _ n (by decide) (by decide) (by decide), State.fld_setFld_same _ _ _ (by decide)]
  refine Nat.mod_eq_of_lt ?_
  unfold State.tripCause
  split <;> omega

theorem State.tripRegs_restartPend : (s.tripRegs n cause thermal).restartPend n = true := by
  have h6 : (s.setPs n 6 true).restartPend n = true := s.bit_setBit_same _ (by decide) true
  have stands : (s.tripRegs n cause thermal).fld (tk n Reg.Chan.PROT_STAT) 6 1 = (s.setPs n 6 true).fld (tk n Reg.Chan.PROT_STAT) 6 1 := by
    rw [State.tripRegs, State.fld_countTk_other _ n (by decide) (by decide) (by decide),
      State.fld_setFld_apart _ _ _ (by decide) (by decide)]
  exact (congrArg (· == 1) stands).trans h6

/-- The other fields of PROT_STAT stand through a trip. -/
theorem State.tripRegs_prot {lo w : Nat} (h6 : lo + w ≤ 6 ∨ 7 ≤ lo) (h12 : lo + w ≤ 12 ∨ 15 ≤ lo) :
    (s.tripRegs n cause thermal).fld (tk n Reg.Chan.PROT_STAT) lo w = s.fld (tk n Reg.Chan.PROT_STAT) lo w := by
  rw [State.tripRegs, State.fld_countTk_other _ n (by decide) (by decide) (by decide),
    State.fld_setFld_apart _ _ _ (by decide) (by omega), State.setPs, State.setBit, State.fld_setFld_apart _ _ _ (by decide) (by omega)]

theorem State.tripRegs_count :
    (s.tripRegs n cause thermal).fld (tk n Reg.Chan.TRIP_CNT) (if thermal then 16 else 0) 16 =
      min 0xFFFF (s.fld (tk n Reg.Chan.TRIP_CNT) (if thermal then 16 else 0) 16 + 1) := by
  rw [State.tripRegs, State.fld_countFld_same _ _ (by split <;> decide), State.fld_setTk_other _ n (by decide) (by decide) (by decide),
    State.setPs, State.setBit, State.fld_setTk_other _ n (by decide) (by decide) (by decide)]
  rfl

theorem State.tripRegs_rd {off : Nat} (ho : off < 0x1000) (hp : off ≠ Reg.Chan.PROT_STAT) (hc : off ≠ Reg.Chan.TRIP_CNT) :
    (s.tripRegs n cause thermal).rd (tk n off) = s.rd (tk n off) := by
  rw [State.tripRegs, (State.countFld_writes _ _ _ _).1 _ (beq_false_of_ne (tk_ne n n hc ho (by decide))), State.setFld_eq,
    State.rd_wr_ne _ _ _ _ (tk_ne n n hp ho (by decide)), State.setPs, State.setBit_eq,
    State.rd_wr_ne _ _ _ _ (tk_ne n n hp ho (by decide))]

end

/-! ## An over-current trip -/

section
variable (s : State) (n : Nat)

theorem Writes.chan {p : Nat → Bool} {s u : State} (h : Writes p s u) (n : Nat) : u.chan n = s.chan n := by
  rw [State.chan, State.chan, h.2]

theorem Writes.tile {p : Nat → Bool} {s u : State} (h : Writes p s u) (t : Nat) : u.tile t = s.tile t := by
  rw [State.tile, State.tile, h.2]

theorem Writes.tripsNow {s u : State} (h : Writes tileOwn s u) (n : Nat) : u.tripsNow n = s.tripsNow n := by
  rw [State.tripsNow, State.tripsNow, State.sameClock, State.sameClock, h.chan, h.time, State.devState, State.devState,
    State.fld, State.fld, h.1 _ (by decide)]

theorem Writes.reaction {s u : State} (h : Writes tileOwn s u) : u.reaction 32 = s.reaction 32 :=
  congrArg (bitsOf · _ _) (h.1 _ (by decide))

/-- OC_LATCH with SHORT_GND and its history, as the output stands against the feed (R211, R217). -/
def State.ocMarks (s : State) (n : Nat) (short : Bool) : State :=
  ((s.setDh n 8 true).setPs n 15 short).onlyIf short (·.setDh n 4 true)

theorem State.ocMarks_writes (short : Bool) : Writes tileOwn s (s.ocMarks n short) :=
  ((s.setDh_writes n 8 true).trans (State.setPs_writes _ n 15 short)).onlyIf fun _ => State.setDh_writes _ n 4 true

theorem State.ocMarks_spec (short : Bool) :
    (s.ocMarks n short).ocLatch n = true ∧ (s.ocMarks n short).bit (tk n Reg.Chan.PROT_STAT) 15 = short ∧
      (s.ocMarks n short).fld (tk n Reg.Chan.PROT_STAT) 12 3 = s.fld (tk n Reg.Chan.PROT_STAT) 12 3 ∧
      (s.ocMarks n short).rd (tk n Reg.Chan.TRIP_CNT) = s.rd (tk n Reg.Chan.TRIP_CNT) := by
  let u := (s.setDh n 8 true).setPs n 15 short
  have hu : u.ocLatch n = true ∧ u.bit (tk n Reg.Chan.PROT_STAT) 15 = short ∧
      u.fld (tk n Reg.Chan.PROT_STAT) 12 3 = s.fld (tk n Reg.Chan.PROT_STAT) 12 3 ∧
      u.rd (tk n Reg.Chan.TRIP_CNT) = s.rd (tk n Reg.Chan.TRIP_CNT) := by
    refine ⟨?_, State.bit_setBit_same _ _ (by decide) _, ?_, ?_⟩
    · have latched : (s.setDh n 8 true).ocLatch n = true := s.bit_setBit_same _ (by decide) true
      rw [← latched]
      exact congrArg (· == 1) (State.fld_setTk_other _ n (by decide) (by decide) (by decide) _ _ _ _ _)
    · exact (State.fld_setFld_apart _ _ _ (by decide) (by decide)).trans
        (s.fld_setTk_other n (by decide) (by decide) (by decide) _ _ _ _ _)
    · exact (State.rd_wr_ne _ _ _ _ (tk_ne n n (by decide) (by decide) (by decide))).trans
        (State.rd_wr_ne _ _ _ _ (tk_ne n n (by decide) (by decide) (by decide)))
  obtain ⟨oc, short', cause, count⟩ := hu
  have other {off : Nat} (ho : off < 0x1000) (h : off ≠ Reg.Chan.DIAG_HIST) : (u.setDh n 4 true).rd (tk n off) = u.rd (tk n off) :=
    State.rd_wr_ne _ _ _ _ (tk_ne n n h ho (by decide))
  refine State.onlyIf_ind (P := fun v => v.ocLatch n = true ∧ v.bit (tk n Reg.Chan.PROT_STAT) 15 = short ∧
    v.fld (tk n Reg.Chan.PROT_STAT) 12 3 = s.fld (tk n Reg.Chan.PROT_STAT) 12 3 ∧
    v.rd (tk n Reg.Chan.TRIP_CNT) = s.rd (tk n Reg.Chan.TRIP_CNT)) ⟨oc, short', cause, count⟩ fun _ => ⟨?_, ?_, ?_, ?_⟩
  · exact (u.bit_setBit_ne _ (by decide) (by decide) _).trans oc
  · exact (congrArg (bitOf · 15) (other (by decide) (by decide))).trans short'
  · exact (congrArg (bitsOf · 12 3) (other (by decide) (by decide))).trans cause
  · exact (other (by decide) (by decide)).trans count

/-- A tripped channel: latched, off, with its restart pending and its timer running; the cause, the count, SHORT_GND. -/
def State.OcTripped (s : State) (n cause : Nat) (short : Bool) (u : State) : Prop :=
  u.ocLatch n = true ∧ u.restartPend n = true ∧ (u.chan n).timer = true ∧ (u.chan n).conducts = false ∧
    u.fld (tk n Reg.Chan.PROT_STAT) 12 3 = s.tripCause n cause ∧
    u.fld (tk n Reg.Chan.TRIP_CNT) 0 16 = min 0xFFFF (s.fld (tk n Reg.Chan.TRIP_CNT) 0 16 + 1) ∧
    u.bit (tk n Reg.Chan.PROT_STAT) 15 = short

theorem State.ocTrip_spec {cause : Nat} (hc : cause < 8) (out : Nat) (hr : s.reaction 32 ≤ 1) :
    s.OcTripped n cause (decide (out * 100 < (s.tile (n / 16)).feed * 30)) (s.ocTrip n cause out) := by
  let short := decide (out * 100 < (s.tile (n / 16)).feed * 30)
  let m := s.ocMarks n short
  let v := m.trip n cause false
  have hm : Writes tileOwn s m := s.ocMarks_writes n short
  have hv : Writes tileOwn s (m.tripRegs n cause false) := hm.trans (m.tripRegs_writes n cause false)
  have veq : v = (m.tripRegs n cause false).setChan n _ := m.trip_eq n cause false
  have rd (k : Nat) : v.rd k = (m.tripRegs n cause false).rd k := by rw [veq]; rfl
  have fld (k lo w : Nat) : v.fld k lo w = (m.tripRegs n cause false).fld k lo w := congrArg (bitsOf · lo w) (rd k)
  have settled : Settled v (s.ocTrip n cause out) := State.settleOne_settled (by
    rw [State.reaction, fld]
    exact hv.reaction.trans_le hr) n
  obtain ⟨oc, sg, old, cnt⟩ := s.ocMarks_spec n short
  have latched : v.ocLatch n = true := by
    rw [State.ocLatch, State.bit, rd, m.tripRegs_rd n cause false (by decide) (by decide) (by decide)]
    exact oc
  refine ⟨settled.ocLatch n |>.trans latched, ?_, ?_, ?_, ?_, ?_, ?_⟩
  · rw [settled.restartPend, State.restartPend, State.bit, rd]
    exact m.tripRegs_restartPend n cause false
  · rw [settled.chanPart ChanT.timer n fun _ => rfl, veq, State.chan_setChan_same]
  · have hv' : v.reaction 32 ≤ 1 := by
      rw [State.reaction, fld]
      exact hv.reaction.trans_le hr
    rw [show s.ocTrip n cause out = v.settleOne n from rfl, State.settleOne_conducts hv', (State.settleOne_settled hv' n).mayConduct,
      State.mayConduct, latched]
    simp
  · rw [settled.prot n 12 3 (by decide) (by decide), fld, m.tripRegs_cause n cause false hc, State.tripCause, State.tripCause, old,
      hm.tripsNow]
  · rw [State.fld, settled.rd_tk n (by decide) (by decide), rd]
    refine (m.tripRegs_count n cause false).trans ?_
    rw [State.fld, cnt]
    rfl
  · rw [settled.protBit n (by decide) (by decide), State.bit, rd]
    exact (congrArg (· == 1) (m.tripRegs_prot n cause false (.inr (by decide)) (.inr (by decide)))).trans sg

/-! ## Thresholds -/

theorem State.reaches_below {x thr tol : Nat} (h : x + tol < thr) : s.reaches x thr tol = (false, s) := if_pos h

theorem State.reaches_above {x thr tol : Nat} (h : thr + tol ≤ x) : s.reaches x thr tol = (true, s) := by
  rw [State.reaches, if_neg (by omega), if_pos h]

variable {s} {n} {ma out : Nat}

theorem fastTrip_idle (h : s.trips n = false) : fastTrip n ma out s = s := if_pos (by simp [h])

theorem fastTrip_below (h : s.trips n = true) (hm : ma + 2 * nominalMa n * 15 / 100 < 2 * nominalMa n) :
    fastTrip n ma out s = s := by
  simp [fastTrip, h, s.reaches_below hm]

theorem fastTrip_above (h : s.trips n = true) (hm : 2 * nominalMa n + 2 * nominalMa n * 15 / 100 ≤ ma) :
    fastTrip n ma out s = s.ocTrip n 1 out := by
  simp [fastTrip, h, s.reaches_above hm]

/-- The digital threshold in mA and its tolerance (R203). -/
def State.digitalMa (s : State) (n : Nat) : Nat := nominalMa n * s.digitalLim n / 100
def State.digitalTol (s : State) (n : Nat) : Nat := s.digitalMa n * 2 / 100 + nominalMa n / 100

theorem digitalTrip_idle (h : s.trips n = false ∨ (s.chan n).inrush = true ∧ s.bit (tk n Reg.Chan.OC_CFG) 29 = true) :
    digitalTrip n ma out s = s := if_pos (by rcases h with h | h <;> simp [h])

section
variable (h : s.trips n = true) (hw : (s.chan n).inrush = false ∨ s.bit (tk n Reg.Chan.OC_CFG) 29 = false)
include h hw

theorem digitalTrip_watches : digitalTrip n ma out s =
    if (s.reaches ma (s.digitalMa n) (s.digitalTol n)).1
    then (s.reaches ma (s.digitalMa n) (s.digitalTol n)).2.ocTrip n (if (s.chan n).inrush then 3 else 2) out
    else (s.reaches ma (s.digitalMa n) (s.digitalTol n)).2 := by
  refine if_neg ?_
  rcases hw with hw | hw <;> simp [h, hw]

theorem digitalTrip_below (hm : ma + s.digitalTol n < s.digitalMa n) : digitalTrip n ma out s = s := by
  rw [digitalTrip_watches h hw, s.reaches_below hm]
  rfl

theorem digitalTrip_above (hm : s.digitalMa n + s.digitalTol n ≤ ma) :
    digitalTrip n ma out s = s.ocTrip n (if (s.chan n).inrush then 3 else 2) out := by
  rw [digitalTrip_watches h hw, s.reaches_above hm]
  rfl

end

end

end Sys2Proof.Machine

open Sys2Proof Sys2Proof.Machine

/-- Settles O32: each stage acts by its threshold's band (`fastTrip_above`, `digitalTrip_above`), and a trip leaves what
`State.ocTrip_spec` says. -/
theorem overcurrentTrips : Obligations.OvercurrentTrips := by
  unfold Obligations.OvercurrentTrips
  intro s n ma out c nom lim tol old tripped
  have trip {cause : Nat} (hc : cause < 8) (hr : s.reaction 32 ≤ 1) : tripped (s.ocTrip n.val cause out) cause := by
    obtain ⟨oc, pend, timer, off, cause, count, short⟩ := s.ocTrip_spec n.val hc out hr
    refine ⟨oc, pend, timer, off, cause.trans ?_, count, short⟩
    simp only [State.tripCause, Bool.and_eq_true, decide_eq_true_eq]
    rfl
  refine ⟨fun h => ⟨_, rfl, fastTrip_idle h⟩, fun h hm => ⟨_, rfl, fastTrip_below h hm⟩, fun h hm hr => ⟨_, rfl, ?fast⟩,
    fun h => ⟨_, rfl, digitalTrip_idle h⟩, fun h hw => ⟨fun hm => ⟨_, rfl, digitalTrip_below h hw hm⟩, fun hm hr => ⟨_, rfl, ?digital⟩⟩⟩
  case fast =>
    rw [fastTrip_above h hm]
    exact trip (by decide) hr
  case digital =>
    rw [digitalTrip_above h hw hm]
    exact trip (by split <;> decide) hr
end

section
/-! PROOFS. O34: the restart rule and CLEAN_TIME (R158, R211, R212). -/

namespace Sys2Proof.Machine

/-! ## The restart rule -/

section
variable (s : State) (n : Nat)

/-- The channel's registers as they stand before the restart rule acts, kept with the instant (R215). -/
def State.remember (s : State) (n : Nat) : State :=
  s.setChan n { s.chan n with
    before := some (s.time.tbf.nsTotal, s.rd (tk n Reg.Chan.PROT_STAT), s.rd (tk n Reg.Chan.DIAG_HIST),
      s.rd (tk n Reg.Chan.RESTART_CNT)) }

/-- The restart deferred for the thermal latch, and counted. -/
def State.deferRestart (s : State) (n : Nat) : State :=
  (s.setChan n { s.chan n with deferred := true }).countFld (tk n Reg.Chan.RESTART_CNT) 16 16

/-- The channel locked out. -/
def State.lockOut (s : State) (n : Nat) : State := ((s.remember n).setPs n 4 true).setPs n 6 false

/-- One retry taken, OC_LATCH and the pending restart cleared. -/
def State.takeRetry (s : State) (n : Nat) : State :=
  (((s.remember n).setFld (tk n Reg.Chan.PROT_STAT) 8 4 (s.retryLeft n - 1)).setDh n 8 false).setPs n 6 false

/-- An automatic restart before its count: CLEAN_TIME runs. -/
def State.cleanStarted (s : State) (n : Nat) : State := (s.takeRetry n).setChan n { (s.takeRetry n).chan n with clean := true }

/-- An automatic restart, counted. -/
def State.restartNow (s : State) (n : Nat) : State := (s.cleanStarted n).countFld (tk n Reg.Chan.RESTART_CNT) 0 16

variable {s} {n}

theorem State.restartRule_defers (hp : s.restartPend n = true) (ht : (s.chan n).timer = false) (hth : s.thLatch n = true)
    (hd : (s.chan n).deferred = false) : s.restartRule n = s.deferRestart n := by
  simp [State.restartRule, hp, ht, hth, hd, State.deferRestart]

theorem State.restartRule_locks (hp : s.restartPend n = true) (ht : (s.chan n).timer = false) (hth : s.thLatch n = false)
    (hl : s.retryLeft n = 0) : s.restartRule n = s.lockOut n := by
  have left : (s.remember n).retryLeft n = 0 := hl
  exact (if_neg (by simp [hp, ht])).trans ((if_neg (by simp [hth])).trans (if_pos left))

theorem State.restartRule_restarts (hp : s.restartPend n = true) (ht : (s.chan n).timer = false) (hth : s.thLatch n = false)
    (hl : s.retryLeft n ≠ 0) : s.restartRule n = s.restartNow n := by
  have left : (s.remember n).retryLeft n ≠ 0 := hl
  exact (if_neg (by simp [hp, ht])).trans ((if_neg (by simp [hth])).trans (if_neg left))

/-! ## What it leaves in the registers -/

theorem State.setChan_reaction (s : State) (n : Nat) (c : ChanT) (i : Nat) : (s.setChan n c).reaction i = s.reaction i := rfl

theorem State.setChan_fld (s : State) (n : Nat) (c : ChanT) (k lo w : Nat) : (s.setChan n c).fld k lo w = s.fld k lo w := rfl

theorem State.takeRetry_writes (s : State) (n : Nat) : Writes tileOwn (s.remember n) (s.takeRetry n) :=
  ((State.setTk_writes _ n _ _ _ _).trans (State.setDh_writes _ n _ _)).trans (State.setPs_writes _ n _ _)

/-- A field of PROT_STAT a retry does not touch. -/
theorem State.takeRetry_prot (s : State) (n : Nat) {lo w : Nat} (h6 : lo + w ≤ 6 ∨ 7 ≤ lo) (h8 : lo + w ≤ 8 ∨ 12 ≤ lo) :
    (s.takeRetry n).fld (tk n Reg.Chan.PROT_STAT) lo w = s.fld (tk n Reg.Chan.PROT_STAT) lo w := by
  rw [State.takeRetry, State.setPs, State.setBit, State.fld_setFld_apart _ _ _ (by decide) (by omega), State.setDh, State.setBit,
    State.fld_setTk_other _ n (by decide) (by decide) (by decide), State.fld_setFld_apart _ _ _ (by decide) (by omega)]
  rfl

theorem State.takeRetry_spec (s : State) (n : Nat) :
    (s.takeRetry n).ocLatch n = false ∧ (s.takeRetry n).restartPend n = false ∧ (s.takeRetry n).retryLeft n = s.retryLeft n - 1 ∧
      (s.takeRetry n).lockout n = s.lockout n := by
  refine ⟨?_, State.bit_setBit_same _ _ (by decide) _, ?_, congrArg (· == 1) (s.takeRetry_prot n (.inl (by decide)) (.inl (by decide)))⟩
  · have cleared (u : State) : (u.setDh n 8 false).ocLatch n = false := u.bit_setBit_same _ (by decide) false
    refine Eq.trans (congrArg (· == 1) ?_) (cleared ((s.remember n).setFld (tk n Reg.Chan.PROT_STAT) 8 4 (s.retryLeft n - 1)))
    exact State.fld_setTk_other _ n (by decide) (by decide) (by decide) _ _ _ _ _
  · have hlt : s.retryLeft n < 16 := bitsOf_lt _ _ _
    rw [State.retryLeft, State.takeRetry, State.setPs, State.setBit, State.fld_setFld_apart _ _ _ (by decide) (by decide), State.setDh,
      State.setBit, State.fld_setTk_other _ n (by decide) (by decide) (by decide), State.fld_setFld_same _ _ _ (by decide)]
    exact Nat.mod_eq_of_lt (by omega)

theorem State.takeRetry_rd (s : State) (n : Nat) {off : Nat} (ho : off < 0x1000) (hp : off ≠ Reg.Chan.PROT_STAT)
    (hd : off ≠ Reg.Chan.DIAG_HIST) : (s.takeRetry n).rd (tk n off) = s.rd (tk n off) := by
  rw [State.takeRetry, State.setPs, State.setBit_eq, State.rd_wr_ne _ _ _ _ (tk_ne n n hp ho (by decide)), State.setDh, State.setBit_eq,
    State.rd_wr_ne _ _ _ _ (tk_ne n n hd ho (by decide)), State.setFld_eq, State.rd_wr_ne _ _ _ _ (tk_ne n n hp ho (by decide))]
  rfl

theorem State.restartNow_writes (s : State) (n : Nat) : Writes tileOwn (s.cleanStarted n) (s.restartNow n) :=
  State.countTk_writes _ n _ _ _

theorem State.restartNow_reaction (s : State) (n : Nat) : (s.restartNow n).reaction 32 = s.reaction 32 :=
  calc (s.restartNow n).reaction 32
    _ = (s.cleanStarted n).reaction 32 := (s.restartNow_writes n).reaction
    _ = (s.takeRetry n).reaction 32 := State.setChan_reaction _ _ _ _
    _ = (s.remember n).reaction 32 := (s.takeRetry_writes n).reaction
    _ = s.reaction 32 := State.setChan_reaction _ _ _ _

theorem State.restartNow_clean (s : State) (n : Nat) : ((s.restartNow n).chan n).clean = true := by
  rw [(s.restartNow_writes n).chan, State.cleanStarted, State.chan_setChan_same]

theorem State.restartNow_prot (s : State) (n : Nat) :
    (s.restartNow n).ocLatch n = false ∧ (s.restartNow n).restartPend n = false ∧ (s.restartNow n).retryLeft n = s.retryLeft n - 1 ∧
      (s.restartNow n).lockout n = s.lockout n := by
  have stands {off : Nat} (ho : off ≠ Reg.Chan.RESTART_CNT) (hlt : off < 0x1000) (lo w : Nat) :
      (s.restartNow n).fld (tk n off) lo w = (s.takeRetry n).fld (tk n off) lo w :=
    ((s.cleanStarted n).fld_countTk_other n ho hlt (by decide) _ _ _ _).trans (State.setChan_fld _ _ _ _ _ _)
  obtain ⟨oc, pend, left, lock⟩ := s.takeRetry_spec n
  exact ⟨(congrArg (· == 1) (stands (by decide) (by decide) 8 1)).trans oc,
    (congrArg (· == 1) (stands (by decide) (by decide) 6 1)).trans pend, (stands (by decide) (by decide) 8 4).trans left,
    (congrArg (· == 1) (stands (by decide) (by decide) 4 1)).trans lock⟩

theorem State.restartNow_counts (s : State) (n : Nat) :
    (s.restartNow n).fld (tk n Reg.Chan.RESTART_CNT) 0 16 = min 0xFFFF (s.fld (tk n Reg.Chan.RESTART_CNT) 0 16 + 1) := by
  have before : (s.cleanStarted n).fld (tk n Reg.Chan.RESTART_CNT) 0 16 = s.fld (tk n Reg.Chan.RESTART_CNT) 0 16 :=
    by
    rw [State.cleanStarted, State.setChan_fld, State.fld, s.takeRetry_rd n (by decide) (by decide) (by decide), State.fld]
  exact ((s.cleanStarted n).fld_countFld_same _ (by decide)).trans (congrArg (fun c => min 0xFFFF (c + 1)) before)

theorem State.lockOut_spec (s : State) (n : Nat) : (s.lockOut n).lockout n = true ∧ (s.lockOut n).restartPend n = false :=
  ⟨(State.bit_setBit_ne _ _ (by decide) (by decide) _).trans (State.bit_setBit_same _ _ (by decide) _),
    State.bit_setBit_same _ _ (by decide) _⟩

end

/-! ## The retry timer -/

section
variable {s : State} {n : Nat}

/-- The channel with its retry timer expired. -/
def State.timerOver (s : State) (n : Nat) : State := s.setChan n { s.chan n with timer := false }

theorem retryExpiry_idle (h : (s.chan n).timer = false) : retryExpiry n s = s := if_neg (by simp [h])

variable (h : (s.chan n).timer = true) (hp : s.restartPend n = true) (hr : s.reaction 32 ≤ 1)

include h in
theorem retryExpiry_expires : retryExpiry n s = ((s.timerOver n).restartRule n).settleOne n := if_pos h

theorem State.timerOver_timer (s : State) (n : Nat) : ((s.timerOver n).chan n).timer = false :=
  congrArg ChanT.timer (State.chan_setChan_same _ _ _)

include h hp hr

theorem retryExpiry_restarts (hth : s.thLatch n = false) (hl : s.retryLeft n ≠ 0) :
    let u := retryExpiry n s
    u.ocLatch n = false ∧ u.restartPend n = false ∧ u.retryLeft n = s.retryLeft n - 1 ∧
      u.lockout n = s.lockout n ∧ (u.chan n).clean = true ∧ (u.chan n).conducts = u.mayConduct n ∧
      u.fld (tk n Reg.Chan.RESTART_CNT) 0 16 = min 0xFFFF (s.fld (tk n Reg.Chan.RESTART_CNT) 0 16 + 1) := by
  have eq : retryExpiry n s = ((s.timerOver n).restartNow n).settleOne n :=
    (retryExpiry_expires h).trans
      (congrArg (·.settleOne n) (State.restartRule_restarts (s := s.timerOver n) hp (s.timerOver_timer n) hth hl))
  have hv : ((s.timerOver n).restartNow n).reaction 32 ≤ 1 := ((s.timerOver n).restartNow_reaction n).trans_le hr
  have settled := State.settleOne_settled hv n
  obtain ⟨oc, pend, left, lock⟩ := (s.timerOver n).restartNow_prot n
  intro u
  rw [show u = _ from eq]
  refine ⟨(settled.ocLatch n).trans oc, (settled.restartPend n).trans pend, (settled.retryLeft n).trans left,
    (settled.lockout n).trans lock, ?_, State.settleOne_conducts hv n, ?_⟩
  · rw [settled.chanPart ChanT.clean n fun _ => rfl, State.restartNow_clean]
  · rw [State.fld, settled.rd_tk n (by decide) (by decide)]
    exact (s.timerOver n).restartNow_counts n

theorem retryExpiry_locks (hth : s.thLatch n = false) (hl : s.retryLeft n = 0) :
    let u := retryExpiry n s
    u.lockout n = true ∧ u.restartPend n = false ∧ (u.chan n).conducts = false ∧ u.fld (tk n Reg.Chan.PROT_STAT) 0 3 = 5 := by
  let x := s.timerOver n
  let v := x.lockOut n
  have eq : retryExpiry n s = v.settleOne n := by
    rw [retryExpiry_expires h, State.restartRule_locks (s := x) hp (s.timerOver_timer n) hth hl]
  have locked : Writes tileOwn (x.remember n) v := (State.setPs_writes _ n _ _).trans (State.setPs_writes _ n _ _)
  have hv : v.reaction 32 ≤ 1 := locked.reaction.trans_le hr
  have settled := State.settleOne_settled hv n
  obtain ⟨lock, pend⟩ := x.lockOut_spec n
  have hc : (v.settleChan n).reaction 32 ≤ 1 := (v.settleChan_settled n).reaction.trans_le hv
  intro u
  rw [show u = v.settleOne n from eq]
  refine ⟨(settled.lockout n).trans lock, (settled.restartPend n).trans pend, ?_, ?_⟩
  · rw [State.settleOne_conducts hv, settled.mayConduct, State.mayConduct, lock]
    simp
  · exact (State.seeFault_prot _ hc n).trans (v.settleChan_lockout n lock)

theorem retryExpiry_defers (hth : s.thLatch n = true) (hd : (s.chan n).deferred = false) :
    let u := retryExpiry n s
    u.restartPend n = true ∧ (u.chan n).deferred = true ∧ u.retryLeft n = s.retryLeft n ∧
      u.fld (tk n Reg.Chan.RESTART_CNT) 16 16 = min 0xFFFF (s.fld (tk n Reg.Chan.RESTART_CNT) 16 16 + 1) := by
  let x := s.timerOver n
  let y := x.setChan n { x.chan n with deferred := true }
  let v := y.countFld (tk n Reg.Chan.RESTART_CNT) 16 16
  have counted : Writes tileOwn y v := y.countTk_writes n _ _ _
  have hd' : (x.chan n).deferred = false := (congrArg ChanT.deferred (State.chan_setChan_same _ _ _)).trans hd
  have eq : retryExpiry n s = v.settleOne n := by
    rw [retryExpiry_expires h, State.restartRule_defers (s := x) hp (s.timerOver_timer n) hth hd']
    rfl
  have prot (lo w : Nat) : v.fld (tk n Reg.Chan.PROT_STAT) lo w = s.fld (tk n Reg.Chan.PROT_STAT) lo w :=
    y.fld_countTk_other n (by decide) (by decide) (by decide) _ _ _ _
  have settled := State.settleOne_settled (counted.reaction.trans_le hr) n
  intro u
  rw [show u = v.settleOne n from eq]
  refine ⟨?_, ?_, ?_, ?_⟩
  · rw [settled.restartPend]
    exact (congrArg (· == 1) (prot 6 1)).trans hp
  · rw [settled.chanPart ChanT.deferred n fun _ => rfl, counted.chan, State.chan_setChan_same]
  · rw [settled.retryLeft]
    exact prot 8 4
  · rw [State.fld, settled.rd_tk n (by decide) (by decide)]
    exact y.fld_countFld_same _ (by decide)

end

/-! ## CLEAN_TIME -/

section
variable {s : State} {n : Nat}

theorem cleanExpiry_idle (h : (s.chan n).clean = false ∨ s.fld (tk n Reg.Chan.RETRY_CFG) 16 8 = 0) : cleanExpiry n s = s :=
  if_neg (by rcases h with h | h <;> simp [h])

theorem cleanExpiry_restores (h : (s.chan n).clean = true) (h0 : s.fld (tk n Reg.Chan.RETRY_CFG) 16 8 ≠ 0)
    (hr : s.reaction 32 ≤ 1) :
    (cleanExpiry n s).retryLeft n = s.fld (tk n Reg.Chan.RETRY_CFG) 0 4 ∧ ((cleanExpiry n s).chan n).clean = false := by
  let x := s.setFld (tk n Reg.Chan.PROT_STAT) 8 4 (s.fld (tk n Reg.Chan.RETRY_CFG) 0 4)
  let v := x.setChan n { s.chan n with clean := false }
  have eq : cleanExpiry n s = v.settleOne n := if_pos (by simp [h, h0])
  have hv : v.reaction 32 ≤ 1 := (s.setTk_writes n Reg.Chan.PROT_STAT 8 4 _).reaction.trans_le hr
  have settled : Settled v (v.settleOne n) := State.settleOne_settled hv n
  rw [eq]
  refine ⟨?_, ?_⟩
  · rw [settled.retryLeft]
    exact (s.fld_setFld_same _ _ (by decide)).trans (Nat.mod_eq_of_lt (bitsOf_lt _ _ _))
  · rw [settled.chanPart ChanT.clean n fun _ => rfl, State.chan_setChan_same]

end

end Sys2Proof.Machine

open Sys2Proof Sys2Proof.Machine

/-- Settles O34, by what the restart rule does where it restarts, locks out and defers. -/
theorem restarts : Obligations.Restarts := by
  unfold Obligations.Restarts
  intro s n c
  exact ⟨fun hr h hp => ⟨fun hth hl => ⟨_, rfl, retryExpiry_restarts h hp hr hth hl⟩,
      fun hth hl => ⟨_, rfl, retryExpiry_locks h hp hr hth hl⟩, fun hth hd => ⟨_, rfl, retryExpiry_defers h hp hr hth hd⟩⟩,
    fun h => ⟨_, rfl, retryExpiry_idle h⟩, fun hr h h0 => ⟨_, rfl, cleanExpiry_restores h h0 hr⟩,
    fun h => ⟨_, rfl, cleanExpiry_idle h⟩⟩
end

section
/-! PROOFS. O26: what a tile does with a request, and its reply (R167 to R171, R176 to R178, R185, R187, R189). -/

namespace Sys2Proof.Machine

/-! ## Replies -/

theorem counterReg_tileOwn {k : Nat} (h : tileOwn k = true) : counterReg k = false :=
  (Bool.or_eq_false_iff.1 (recordReg_tileOwn h)).1

/-- A tile's reply to a request, stored with it and sent (R170, R171), of which `p` holds. -/
def State.Replied (u : State) (t : Nat) (q : TclReq) (p : TclRep → Prop) : Prop :=
  (u.tile t).lastReq = some q ∧ ∃ r, (u.tile t).lastRep = some r ∧ u.out.head? = some (.tclRep t r.octets) ∧
    r.seq = q.seq ∧ r.holder = u.leashHolder t ∧ r.state = u.leashState t ∧ r.cur = u.leashCur t ∧ p r

/-- A request refused: NACK with its reason, the Leash and a pending TRST left (R177). -/
def State.Nacked (s u : State) (t : Nat) (q : TclReq) (reason : Nat) : Prop :=
  u.Replied t q (fun r => r.type = 12 ∧ r.reason = reason ∧ r.refType = q.type) ∧
    u.rd (tt t Reg.Tile.LEASH_STAT) = s.rd (tt t Reg.Tile.LEASH_STAT) ∧ (u.tile t).trst = (s.tile t).trst

/-- The Leash HELD by `holder` under `cur`, the levels `l` latched until the take instant (R178). -/
def State.TakenBy (u : State) (t cur holder l : Nat) : Prop :=
  u.leashCur t = cur ∧ u.leashHolder t = holder ∧ u.leashState t = 1 ∧ (u.tile t).latch = some l

section
variable (s : State) (t : Nat) (q : TclReq)

/-- What a reply leaves of the tile: all but the stored request and reply. -/
theorem State.tileReply_tile (r : TclRep) :
    ∃ r', (s.tileReply t q r).tile t = { s.tile t with lastReq := some q, lastRep := some r' } :=
  ⟨_, State.tile_setTile_same _ _ _⟩

/-- The parts of a reply the tile does not fill in for the Leash. -/
theorem State.tileReply_replied (r : TclRep) {p : TclRep → Prop}
    (hp : p { r with seq := q.seq, holder := s.leashHolder t, state := s.leashState t, cur := s.leashCur t }) :
    (s.tileReply t q r).Replied t q p := by
  have stored : (s.tileReply t q r).tile t = { s.tile t with
      lastReq := some q
      lastRep := some { r with seq := q.seq, holder := s.leashHolder t, state := s.leashState t, cur := s.leashCur t } } :=
    State.tile_setTile_same _ _ _
  exact ⟨by rw [stored], _, by rw [stored], rfl, rfl, rfl, rfl, rfl, hp⟩

theorem State.tileReply_part (r : TclRep) {α : Type} (f : Tile → α)
    (hf : ∀ m a b, f { m with lastReq := a, lastRep := b } = f m) : f ((s.tileReply t q r).tile t) = f (s.tile t) := by
  obtain ⟨r', h⟩ := s.tileReply_tile t q r
  rw [h, hf]

theorem State.tileStatus_replied : (s.tileStatus t q).Replied t q (fun r => r.type = 9 ∧ r.out = s.outWord t) :=
  s.tileReply_replied t q _ ⟨rfl, rfl⟩

theorem State.tileStatus_status : (s.tileStatus t q).Replied t q (fun r => r.type = 9) := s.tileReply_replied t q _ rfl

/-- A Leash field reads after a reply as before it. -/
theorem State.tileStatus_fld (k lo w : Nat) : (s.tileStatus t q).fld k lo w = s.fld k lo w := rfl

theorem State.tileStatus_part {α : Type} (f : Tile → α) (hf : ∀ m a b, f { m with lastReq := a, lastRep := b } = f m) :
    f ((s.tileStatus t q).tile t) = f (s.tile t) := s.tileReply_part t q _ f hf

theorem State.tileNack_nacked (reason : Nat) : s.Nacked (s.tileNack t q reason) t q reason :=
  ⟨s.tileReply_replied t q _ ⟨rfl, rfl, rfl⟩, rfl, s.tileReply_part t q _ Tile.trst fun _ _ _ => rfl⟩

end

/-- A reply stands where the tile, its Leash register and what was sent stand. -/
theorem State.Replied.keep {s u : State} {t : Nat} {q : TclReq} {p : TclRep → Prop} (h : s.Replied t q p)
    (hw : Writes counterReg s u) : u.Replied t q p := by
  have leash (lo w : Nat) : u.fld (tt t Reg.Tile.LEASH_STAT) lo w = s.fld (tt t Reg.Tile.LEASH_STAT) lo w :=
    congrArg (bitsOf · lo w) (hw.1 _ (counterReg_tileOwn (tileOwn_tt _ _)))
  obtain ⟨req, r, rep, sent, seq, holder, state, cur, hp⟩ := h
  have tile : u.tile t = s.tile t := by rw [State.tile, State.tile, hw.2]
  have out : u.out = s.out := by rw [hw.2]
  exact ⟨by rw [tile, req], r, by rw [tile, rep], by rw [out, sent], seq, holder.trans (leash 16 2).symm,
    state.trans (leash 18 3).symm, cur.trans (leash 0 16).symm, hp⟩

theorem State.TakenBy.keep {s u : State} {t cur holder l : Nat} (h : s.TakenBy t cur holder l) (hw : Writes counterReg s u) :
    u.TakenBy t cur holder l := by
  have leash (lo w : Nat) : u.fld (tt t Reg.Tile.LEASH_STAT) lo w = s.fld (tt t Reg.Tile.LEASH_STAT) lo w :=
    congrArg (bitsOf · lo w) (hw.1 _ (counterReg_tileOwn (tileOwn_tt _ _)))
  obtain ⟨hc, hh, hs, hl⟩ := h
  have tile : u.tile t = s.tile t := by rw [State.tile, State.tile, hw.2]
  exact ⟨(leash 0 16).trans hc, (leash 16 2).trans hh, (leash 18 3).trans hs, by rw [tile, hl]⟩

/-! ## The Leash set -/

section
variable (s : State) (t cur holder state : Nat)

theorem State.setLeash_writes : Writes tileOwn s (s.setLeash t cur holder state) :=
  (s.wr_writes _ _).mono fun k hk => by rw [beq_iff_eq.1 hk, tileOwn_tt]

theorem State.setLeash_fld (lo w : Nat) (h : lo + w ≤ 32) :
    (s.setLeash t cur holder state).fld (tt t Reg.Tile.LEASH_STAT) lo w =
      (cur % 2 ^ 16 + holder % 4 * 2 ^ 16 + state % 8 * 2 ^ 18) / 2 ^ lo % 2 ^ w := by
  rw [State.fld, State.setLeash, State.wrN, State.rd_wr_same, bitsOf_word h]

/-- The Leash set, and the tile's channels settled on it. -/
def State.leashSettled : State := (s.setLeash t cur holder state).settleTile t

variable (hr : s.reaction 32 ≤ 1)
include hr

theorem State.leashSettled_settled : Settled (s.setLeash t cur holder state) (s.leashSettled t cur holder state) :=
  State.settleTile_settled t ((s.setLeash_writes t cur holder state).reaction.trans_le hr)

theorem State.leashSettled_cur (h : cur < 65536) : (s.leashSettled t cur holder state).leashCur t = cur := by
  rw [(s.leashSettled_settled t cur holder state hr).leashCur, State.leashCur, State.setLeash_fld _ _ _ _ _ _ _ (by decide)]
  omega

theorem State.leashSettled_holder (h : holder < 4) : (s.leashSettled t cur holder state).leashHolder t = holder := by
  rw [(s.leashSettled_settled t cur holder state hr).leashHolder, State.leashHolder,
    State.setLeash_fld _ _ _ _ _ _ _ (by decide)]
  omega

theorem State.leashSettled_state (h : state < 8) : (s.leashSettled t cur holder state).leashState t = state := by
  rw [(s.leashSettled_settled t cur holder state hr).leashState]
  refine (State.setLeash_fld _ _ _ _ _ _ _ (by decide)).trans ?_
  omega

/-- A part of the tile's record settling leaves. -/
theorem State.leashSettled_part {α : Type} (f : Tile → α) (hf : ∀ m, f m.kept = f m) :
    f ((s.leashSettled t cur holder state).tile t) = f (s.tile t) := by
  rw [(s.leashSettled_settled t cur holder state hr).tilePart f t hf, (s.setLeash_writes t cur holder state).tile]

end

section
variable {s : State} {t : Nat} (q : TclReq)

theorem State.leashCur_lt (s : State) (t : Nat) : s.leashCur t < 65536 := bitsOf_lt _ _ _

theorem State.leashHolder_lt (s : State) (t : Nat) : s.leashHolder t < 4 := bitsOf_lt _ _ _

theorem State.take_replied (cur holder : Nat) : (s.take t cur holder q).Replied t q (fun r => r.type = 9) :=
  State.tileStatus_status _ t q

/-- The tile with the levels of its sources latched (R178). -/
def State.latched (s : State) (t : Nat) : State := s.setTile t { s.tile t with latch := some (s.outWord t) }

theorem State.take_eq (cur holder : Nat) : s.take t cur holder q = ((s.latched t).leashSettled t cur holder 1).tileStatus t q := rfl

theorem State.setTile_reaction (s : State) (t : Nat) (m : Tile) (i : Nat) : (s.setTile t m).reaction i = s.reaction i := rfl

theorem State.take_taken {cur holder : Nat} (hc : cur < 65536) (hh : holder < 4) (hr : s.reaction 32 ≤ 1) :
    (s.take t cur holder q).TakenBy t cur holder (s.outWord t) := by
  have hx : (s.latched t).reaction 32 ≤ 1 := (s.setTile_reaction t _ 32).trans_le hr
  rw [State.take_eq]
  refine ⟨(State.tileStatus_fld _ t q _ _ _).trans ((s.latched t).leashSettled_cur t cur holder 1 hx hc),
    (State.tileStatus_fld _ t q _ _ _).trans ((s.latched t).leashSettled_holder t cur holder 1 hx hh),
    (State.tileStatus_fld _ t q _ _ _).trans ((s.latched t).leashSettled_state t cur holder 1 hx (by decide)), ?_⟩
  rw [State.tileStatus_part _ t q Tile.latch fun _ _ _ => rfl, State.leashSettled_part _ t _ _ _ hx Tile.latch fun _ => rfl,
    State.latched, State.tile_setTile_same]

/-- The tile with the levels of its sources kept for PARK (R187). -/
def State.parkKept (s : State) (t : Nat) : State := s.setTile t { s.tile t with park := s.outWord t, latch := none }

/-- A tile in PARK, the levels at its acceptance kept (R187). -/
def State.parked (s : State) (t : Nat) (q : TclReq) : State :=
  ((s.parkKept t).leashSettled t (s.leashCur t) (s.leashHolder t) 4).tileStatus t q

theorem State.parked_replied : (s.parked t q).Replied t q (fun r => r.type = 9) := State.tileStatus_status _ t q

theorem State.parked_park (hr : s.reaction 32 ≤ 1) :
    (s.parked t q).leashState t = 4 ∧ (s.parked t q).leashCur t = s.leashCur t ∧ ((s.parked t q).tile t).park = s.outWord t := by
  have hx : (s.parkKept t).reaction 32 ≤ 1 := (s.setTile_reaction t _ 32).trans_le hr
  refine ⟨(State.tileStatus_fld _ t q _ _ _).trans ((s.parkKept t).leashSettled_state t _ _ 4 hx (by decide)),
    (State.tileStatus_fld _ t q _ _ _).trans ((s.parkKept t).leashSettled_cur t _ _ 4 hx (s.leashCur_lt t)), ?_⟩
  rw [State.parked, State.tileStatus_part _ t q Tile.park fun _ _ _ => rfl,
    State.leashSettled_part _ t _ _ _ hx Tile.park fun _ => rfl, State.parkKept, State.tile_setTile_same]

/-! ## What a tile does with each request -/

theorem State.fromHolder_iff : s.fromHolder t q = true ↔ q.src = s.leashHolder t ∧ q.claim = s.leashCur t := by
  simp [State.fromHolder]

variable {q}

/-- The request is of the holder, and the tile is claimed. -/
def State.ofHolder (s : State) (t : Nat) (q : TclReq) : Bool := s.fromHolder t q && s.leashState t != 0

theorem State.ofHolder_of (h : q.src = s.leashHolder t ∧ q.claim = s.leashCur t) (h0 : s.leashState t ≠ 0) : s.ofHolder t q = true := by
  rw [State.ofHolder, (s.fromHolder_iff q).2 h, bne_iff_ne.2 h0]
  rfl

theorem State.not_ofHolder (h : ¬(q.src = s.leashHolder t ∧ q.claim = s.leashCur t) ∨ s.leashState t = 0) : s.ofHolder t q = false := by
  rcases h with h | h
  · rw [State.ofHolder, Bool.eq_false_iff.2 fun hf => h ((s.fromHolder_iff q).1 hf), Bool.false_and]
  · simp [State.ofHolder, h]

theorem tileAct_denied (h5 : q.type ≠ 5) (h0 : q.type ≠ 0) (h7 : q.type ≤ 7) (h : q.src = 0 ∨ q.src = 3) :
    s.tileAct t q = s.tileNack t q 4 := (if_neg (by omega)).trans (if_pos ⟨h5, h⟩)

section
variable (hs : ¬(q.src = 0 ∨ q.src = 3))
include hs

theorem tileAct_keepalive (h : q.type = 1) : s.tileAct t q =
    if !s.ofHolder t q then s.tileNack t q 1
    else (if s.leashState t = 2 then s.take t (s.leashCur t) (s.leashHolder t) q else s.tileStatus t q).ev 0xD4 t := by
  rw [State.tileAct, if_neg (by omega), if_neg (fun he => hs he.2), h]
  rfl

theorem tileAct_claim (h : q.type = 2) : s.tileAct t q =
    if s.leashCur t = 0xFFFF then s.tileNack t q 3
    else if s.leashCur t < q.claim then s.take t q.claim q.src q
    else s.tileNack t q 2 := by
  rw [State.tileAct, if_neg (by omega), if_neg (fun he => hs he.2), h]
  rfl

theorem tileAct_renew (h : q.type = 3) : s.tileAct t q =
    if s.ofHolder t q then s.take t (s.leashCur t) (s.leashHolder t) q else s.tileNack t q 1 := by
  rw [State.tileAct, if_neg (by omega), if_neg (fun he => hs he.2), h]
  rfl

theorem tileAct_write (h : q.type = 4) : s.tileAct t q =
    if !s.ofHolder t q then s.tileNack t q 1
    else
      match s.tileWrite t q.unit (regOff q.reg) q.data with
      | some (s', d) =>
        s'.tileReply t q { type := 10, seq := 0, holder := 0, state := 0, cur := 0, unit := q.unit, reg := q.reg, data := d }
      | none => s.tileNack t q 5 := by
  rw [State.tileAct, if_neg (by omega), if_neg (fun he => hs he.2), h]
  rfl

theorem tileAct_park (h : q.type = 6) : s.tileAct t q =
    if s.fromHolder t q && (s.leashState t == 1 || s.leashState t == 2 || s.leashState t == 3) then s.parked t q
    else s.tileNack t q 1 := by
  rw [State.tileAct, if_neg (by omega), if_neg (fun he => hs he.2), h]
  rfl

theorem tileAct_trst (h : q.type = 7) : s.tileAct t q =
    if !s.fromHolder t q then s.tileNack t q 1
    else if q.key ≠ 0xC3A5 then s.tileNack t q 6
    else (s.tileStatus t q).setTile t { (s.tileStatus t q).tile t with trst := true } := by
  rw [State.tileAct, if_neg (by omega), if_neg (fun he => hs he.2), h]
  rfl

end

theorem tileAct_read (h : q.type = 5) : s.tileAct t q =
    match s.tileRead t q.unit (regOff q.reg) with
    | some d =>
      s.tileReply t q { type := 11, seq := 0, holder := 0, state := 0, cur := 0, unit := q.unit, reg := q.reg, data := d }
    | none => s.tileNack t q 5 := by
  rw [State.tileAct, if_neg (by omega), if_neg (fun he => he.1 h), h]
  rfl

end

/-! ## The outcomes of a request -/

theorem tileAct_denied_nacked {s : State} {t : Nat} {q : TclReq} (h5 : q.type ≠ 5) (h0 : q.type ≠ 0) (h7 : q.type ≤ 7)
    (h : q.src = 0 ∨ q.src = 3) : s.Nacked (s.tileAct t q) t q 4 := by
  rw [tileAct_denied h5 h0 h7 h]
  exact s.tileNack_nacked t q 4

section
variable {s : State} {t : Nat} {q : TclReq} (hs : ¬(q.src = 0 ∨ q.src = 3))
include hs

theorem keepalive_status (h : q.type = 1) (ho : s.ofHolder t q = true) (h2 : s.leashState t ≠ 2) :
    (s.tileAct t q).Replied t q (fun r => r.type = 9 ∧ r.out = s.outWord t) ∧
      (s.tileAct t q).rd (tt t Reg.Tile.LEASH_STAT) = s.rd (tt t Reg.Tile.LEASH_STAT) := by
  rw [tileAct_keepalive hs h, if_neg (by simp [ho]), if_neg h2]
  have counted := (s.tileStatus t q).ev_writes 0xD4 t
  exact ⟨(s.tileStatus_replied t q).keep counted, counted.1 _ (counterReg_tileOwn (tileOwn_tt _ _))⟩

theorem keepalive_takes (h : q.type = 1) (ho : s.ofHolder t q = true) (h2 : s.leashState t = 2) (hr : s.reaction 32 ≤ 1) :
    (s.tileAct t q).Replied t q (fun r => r.type = 9) ∧
      (s.tileAct t q).TakenBy t (s.leashCur t) (s.leashHolder t) (s.outWord t) := by
  rw [tileAct_keepalive hs h, if_neg (by simp [ho]), if_pos h2]
  have counted := (s.take t (s.leashCur t) (s.leashHolder t) q).ev_writes 0xD4 t
  exact ⟨(s.take_replied q _ _).keep counted, (s.take_taken q (s.leashCur_lt t) (s.leashHolder_lt t) hr).keep counted⟩

theorem keepalive_refused (h : q.type = 1) (ho : s.ofHolder t q = false) : s.Nacked (s.tileAct t q) t q 1 := by
  rw [tileAct_keepalive hs h, if_pos (by simp [ho])]
  exact s.tileNack_nacked t q 1

theorem claim_takes (h : q.type = 2) (hf : s.leashCur t ≠ 0xFFFF) (hlt : s.leashCur t < q.claim) (hc : q.claim < 65536)
    (hh : q.src < 4) (hr : s.reaction 32 ≤ 1) :
    (s.tileAct t q).Replied t q (fun r => r.type = 9) ∧ (s.tileAct t q).TakenBy t q.claim q.src (s.outWord t) := by
  rw [tileAct_claim hs h, if_neg hf, if_pos hlt]
  exact ⟨s.take_replied q _ _, s.take_taken q hc hh hr⟩

theorem claim_stale (h : q.type = 2) (hf : s.leashCur t ≠ 0xFFFF) (hle : q.claim ≤ s.leashCur t) :
    s.Nacked (s.tileAct t q) t q 2 := by
  rw [tileAct_claim hs h, if_neg hf, if_neg (by omega)]
  exact s.tileNack_nacked t q 2

theorem claim_spent (h : q.type = 2) (hf : s.leashCur t = 0xFFFF) : s.Nacked (s.tileAct t q) t q 3 := by
  rw [tileAct_claim hs h, if_pos hf]
  exact s.tileNack_nacked t q 3

theorem renew_takes (h : q.type = 3) (ho : s.ofHolder t q = true) (hr : s.reaction 32 ≤ 1) :
    (s.tileAct t q).Replied t q (fun r => r.type = 9) ∧
      (s.tileAct t q).TakenBy t (s.leashCur t) (s.leashHolder t) (s.outWord t) := by
  rw [tileAct_renew hs h, if_pos ho]
  exact ⟨s.take_replied q _ _, s.take_taken q (s.leashCur_lt t) (s.leashHolder_lt t) hr⟩

theorem renew_refused (h : q.type = 3) (ho : s.ofHolder t q = false) : s.Nacked (s.tileAct t q) t q 1 := by
  rw [tileAct_renew hs h, if_neg (by simp [ho])]
  exact s.tileNack_nacked t q 1

/-- What a WRITE the tile defines leads to. -/
theorem write_applies (h : q.type = 4) (ho : s.ofHolder t q = true) {u : State} {d : Word}
    (hw : s.tileWrite t q.unit (regOff q.reg) q.data = some (u, d)) : ∃ r : TclRep,
      s.tileAct t q = u.tileReply t q r ∧ r.type = 10 ∧ r.data = d := by
  rw [tileAct_write hs h, if_neg (by simp [ho]), hw]
  exact ⟨_, rfl, rfl, rfl⟩

theorem write_config (h : q.type = 4) (ho : s.ofHolder t q = true) (hu : q.unit < 16) (hreg : regOff q.reg = Reg.Chan.CH_CFG)
    (hr : s.reaction 32 ≤ 1) :
    (s.tileAct t q).Replied t q (fun r => r.type = 10 ∧ r.data = q.data &&& 7) ∧
      (s.tileAct t q).rd (tk (16 * t + q.unit) Reg.Chan.CH_CFG) = q.data &&& 7 := by
  let x := s.wr (tk (16 * t + q.unit) Reg.Chan.CH_CFG) (q.data &&& 7)
  have hw : s.tileWrite t q.unit (regOff q.reg) q.data = some (x.settleOne (16 * t + q.unit), q.data &&& 7) := by
    rw [hreg]
    exact (if_neg (by omega)).trans (if_pos hu)
  have written : Writes tileOwn s x := (s.wr_writes _ _).mono fun k hk => by rw [beq_iff_eq.1 hk, tileOwn_tk]
  have settled := State.settleOne_settled (written.reaction.trans_le hr) (16 * t + q.unit)
  obtain ⟨r, he, htype, hdata⟩ := write_applies hs h ho hw
  rw [he]
  refine ⟨State.tileReply_replied _ t q r ⟨htype, hdata⟩, ?_⟩
  exact (settled.rd_tk _ (by decide) (by decide)).trans (s.rd_wr_same _ _)

theorem write_stayTime (h : q.type = 4) (ho : s.ofHolder t q = true) (hu : q.unit = 16) (hreg : regOff q.reg = Reg.Tile.STAY_TIME) :
    (s.tileAct t q).Replied t q (fun r => r.type = 10 ∧ r.data = word (stayTimeStored q.data)) ∧
      (s.tileAct t q).rd (tt t Reg.Tile.STAY_TIME_ACT) = word (stayTimeStored q.data) := by
  have hw : s.tileWrite t q.unit (regOff q.reg) q.data =
      some (s.wrN (tt t Reg.Tile.STAY_TIME_ACT) (stayTimeStored q.data), word (stayTimeStored q.data)) := by
    rw [hreg]
    exact if_pos hu
  obtain ⟨r, he, htype, hdata⟩ := write_applies hs h ho hw
  rw [he]
  exact ⟨State.tileReply_replied _ t q r ⟨htype, hdata⟩, s.rd_wr_same _ _⟩

theorem write_undefined (h : q.type = 4) (ho : s.ofHolder t q = true) (hu : 16 < q.unit) : s.Nacked (s.tileAct t q) t q 5 := by
  have hw : s.tileWrite t q.unit (regOff q.reg) q.data = none := (if_neg (by omega)).trans (if_neg (by omega))
  rw [tileAct_write hs h, if_neg (by simp [ho]), hw]
  exact s.tileNack_nacked t q 5

theorem write_unheld (h : q.type = 4) (ho : s.ofHolder t q = false) : s.Nacked (s.tileAct t q) t q 1 := by
  rw [tileAct_write hs h, if_pos (by simp [ho])]
  exact s.tileNack_nacked t q 1

theorem park_parks (h : q.type = 6) (ho : s.fromHolder t q = true)
    (hst : s.leashState t = 1 ∨ s.leashState t = 2 ∨ s.leashState t = 3) (hr : s.reaction 32 ≤ 1) :
    (s.tileAct t q).Replied t q (fun r => r.type = 9) ∧ (s.tileAct t q).leashState t = 4 ∧
      (s.tileAct t q).leashCur t = s.leashCur t ∧ ((s.tileAct t q).tile t).park = s.outWord t := by
  rw [tileAct_park hs h, if_pos (by rcases hst with hst | hst | hst <;> simp [ho, hst])]
  exact ⟨s.parked_replied q, s.parked_park q hr⟩

theorem park_refused (h : q.type = 6) (ho : s.fromHolder t q = false ∨ s.leashState t = 0 ∨ s.leashState t = 4) :
    s.Nacked (s.tileAct t q) t q 1 := by
  rw [tileAct_park hs h, if_neg (by rcases ho with ho | ho | ho <;> simp [ho])]
  exact s.tileNack_nacked t q 1

theorem trst_accepted (h : q.type = 7) (ho : s.fromHolder t q = true) (hk : q.key = 0xC3A5) :
    (s.tileAct t q).Replied t q (fun r => r.type = 9) ∧ ((s.tileAct t q).tile t).trst = true ∧ (s.tileAct t q).regs = s.regs := by
  rw [tileAct_trst hs h, if_neg (by simp [ho]), if_neg (not_not.2 hk)]
  obtain ⟨req, r, rep, fields⟩ := s.tileStatus_status t q
  refine ⟨⟨?_, r, ?_, fields⟩, ?_, rfl⟩
  · rw [State.tile_setTile_same, req]
  · rw [State.tile_setTile_same, rep]
  · rw [State.tile_setTile_same]

theorem trst_key (h : q.type = 7) (ho : s.fromHolder t q = true) (hk : q.key ≠ 0xC3A5) : s.Nacked (s.tileAct t q) t q 6 := by
  rw [tileAct_trst hs h, if_neg (by simp [ho]), if_pos hk]
  exact s.tileNack_nacked t q 6

theorem trst_refused (h : q.type = 7) (ho : s.fromHolder t q = false) : s.Nacked (s.tileAct t q) t q 1 := by
  rw [tileAct_trst hs h, if_pos (by simp [ho])]
  exact s.tileNack_nacked t q 1

end

section
variable {s : State} {t : Nat} {q : TclReq} (h : q.type = 5)
include h

theorem read_answered {d : Word} (hd : s.tileRead t q.unit (regOff q.reg) = some d) :
    (s.tileAct t q).Replied t q (fun r => r.type = 11 ∧ r.data = d) ∧ (s.tileAct t q).regs = s.regs := by
  rw [tileAct_read h, hd]
  exact ⟨s.tileReply_replied t q _ ⟨rfl, rfl⟩, rfl⟩

theorem read_undefined (hd : s.tileRead t q.unit (regOff q.reg) = none) :
    s.Nacked (s.tileAct t q) t q 5 ∧ (s.tileAct t q).regs = s.regs := by
  rw [tileAct_read h, hd]
  exact ⟨s.tileNack_nacked t q 5, rfl⟩

end

/-! ## Requests that reach the tile -/

section
variable {s : State} {t : Nat} {q : TclReq} (hp : (s.tile t).powered = true) (hs : (s.tile t).starting = false)
include hp hs

theorem tclFrame_acts (h : (s.tile t).lastReq ≠ some q) : s.tclFrame t q = s.tileAct t q :=
  (if_neg (by simp [hp, hs])).trans (if_neg h)

theorem tclFrame_repeats {r : TclRep} (h : (s.tile t).lastReq = some q) (hr : (s.tile t).lastRep = some r) :
    s.tclFrame t q = s.emit (.tclRep t r.octets) := by
  refine (if_neg (by simp [hp, hs])).trans ((if_pos h).trans ?_)
  rw [hr]

end

/-! ## Frames of octets (R167, R168) -/

theorem tclOpen_seal (d : List Nat) : tclOpen (tclSeal d) = some d := by
  have taken : ((tclSeal d).drop 1).take ((tclSeal d).length - 3) = d := by
    simp [tclSeal, littleEnd]
  rw [tclOpen, taken, if_pos rfl]

/-- A request without fields after its header, its reserved bits 0, is what its frame spells. -/
theorem tclRequest_octets {type seq src claim : Nat} (ht : type = 1 ∨ type = 2 ∨ type = 3 ∨ type = 6) (hq : seq < 16)
    (hc : claim < 65536) : tclRequest ({ type := type, seq := seq, src := src, claim := claim } : TclReq).octets =
      some { type := type, seq := seq, src := src, claim := claim } := by
  have open_ : tclOpen ({ type := type, seq := seq, src := src, claim := claim } : TclReq).octets =
      some [type * 16 + seq, src * 64, claim % 256, claim / 256 % 256] := by
    rw [TclReq.octets, tclOpen_seal]
    rcases ht with rfl | rfl | rfl | rfl <;> simp [TclReq.body, littleEnd, List.range_succ]
  have number : le [type * 16 + seq, src * 64, claim % 256, claim / 256 % 256] 2 2 = claim := by
    simp [le, List.range_succ]
    omega
  have htype : (type * 16 + seq) / 16 = type := by omega
  have hseq : (type * 16 + seq) % 16 = seq := by omega
  rw [tclRequest, open_]
  simp only [List.getD_cons_zero, List.getD_cons_succ, number, htype, hseq]
  rcases ht with rfl | rfl | rfl | rfl <;> simp [reqBody]

end Sys2Proof.Machine

open Sys2Proof Sys2Proof.Machine

/-- Settles O26, by what a tile does with each TYPE of request. -/
theorem tileRequests : Obligations.TileRequests := by
  unfold Obligations.TileRequests
  intro s k seq src claim t q replied nacked taken half holds st hp hs
  have source (hh : half) : ¬(src.val = 0 ∨ src.val = 3) := by omega
  have acts {c : Instr} {q' : TclReq} {P : State → Prop} (hl : (s.tile t).lastReq ≠ some q')
      (hc : exec c s = .next (s.tclFrame t q')) (h : P (s.tileAct t q')) : Leads c s P :=
    ⟨_, hc, tclFrame_acts hp hs hl ▸ h⟩
  have from_ {q' : TclReq} (h : holds) (hq : q'.src = src.val ∧ q'.claim = claim.val) : s.fromHolder t q' = true :=
    (s.fromHolder_iff q').2 ⟨hq.1.trans h.1, hq.2.trans h.2⟩
  have not_from {q' : TclReq} (h : ¬holds) (hq : q'.src = src.val ∧ q'.claim = claim.val) : s.fromHolder t q' = false :=
    Bool.eq_false_iff.2 fun hf =>
      have ⟨hsrc, hclaim⟩ := (s.fromHolder_iff q').1 hf
      h ⟨hq.1.symm.trans hsrc, hq.2.symm.trans hclaim⟩
  have of_ {q' : TclReq} (h : holds) (h0 : st ≠ 0) (hq : q'.src = src.val ∧ q'.claim = claim.val) : s.ofHolder t q' = true :=
    State.ofHolder_of ⟨hq.1.trans h.1, hq.2.trans h.2⟩ h0
  have not_of {q' : TclReq} (h : ¬holds ∨ st = 0) (hq : q'.src = src.val ∧ q'.claim = claim.val) : s.ofHolder t q' = false :=
    State.not_ofHolder (h.imp_left fun hn hf => hn ⟨hq.1.symm.trans hf.1, hq.2.symm.trans hf.2⟩)
  have heldBy {u : State} (h : holds) (ht : u.TakenBy t (s.leashCur t) (s.leashHolder t) (s.outWord t)) :
      taken u claim.val src.val := by
    obtain ⟨hsrc, hclaim⟩ := h
    rw [hsrc, hclaim]
    exact ht
  refine ⟨fun hl hh => ⟨fun h hst => acts hl rfl (keepalive_status (source hh) rfl (of_ h (by omega) ⟨rfl, rfl⟩) (by omega)),
      fun h h2 hr => acts hl rfl ?_,
      fun h => acts hl rfl (keepalive_refused (source hh) rfl (not_of h ⟨rfl, rfl⟩))⟩,
    fun hl hh => ⟨fun hf hlt hr => acts hl rfl (claim_takes (source hh) rfl hf hlt claim.isLt src.isLt hr),
      fun hf hle => acts hl rfl (claim_stale (source hh) rfl hf hle),
      fun hf => acts hl rfl (claim_spent (source hh) rfl hf)⟩,
    fun hl hh => ⟨fun h h0 hr => acts hl rfl ?_,
      fun h => acts hl rfl (renew_refused (source hh) rfl (not_of h ⟨rfl, rfl⟩))⟩,
    fun unit reg data hl hh =>
      ⟨fun h h0 hu hreg hr => acts hl rfl (write_config (source hh) rfl (of_ h h0 ⟨rfl, rfl⟩) hu hreg hr),
      fun h h0 hu hreg => acts hl rfl (write_stayTime (source hh) rfl (of_ h h0 ⟨rfl, rfl⟩) (congrArg Fin.val hu) hreg),
      fun h h0 hu => acts hl rfl (write_undefined (source hh) rfl (of_ h h0 ⟨rfl, rfl⟩) hu),
      fun h => acts hl rfl (write_unheld (source hh) rfl (not_of h ⟨rfl, rfl⟩))⟩,
    fun unit reg hl => ⟨fun d hd => acts hl rfl (read_answered rfl hd), fun hd => acts hl rfl (read_undefined rfl hd)⟩,
    fun hl hh => ⟨fun h hst hr => acts hl rfl (park_parks (source hh) rfl (from_ h ⟨rfl, rfl⟩) hst hr),
      fun h => acts hl rfl (park_refused (source hh) rfl (h.imp_left fun hn => not_from (q' := q 6) hn ⟨rfl, rfl⟩))⟩,
    fun key hl hh => ⟨fun h hk => acts hl rfl (trst_accepted (source hh) rfl (from_ h ⟨rfl, rfl⟩) hk),
      fun h hk => acts hl rfl (trst_key (source hh) rfl (from_ h ⟨rfl, rfl⟩) hk),
      fun h => acts hl rfl (trst_refused (source hh) rfl (not_from h ⟨rfl, rfl⟩))⟩,
    fun r q' c hc hq hr => ?_, fun q' c hc => ?_, fun h hl => acts hl rfl ?_⟩
  · obtain ⟨hrep, ht⟩ := keepalive_takes (q := q 1) (source hh) rfl (of_ h (by omega) ⟨rfl, rfl⟩) h2 hr
    exact ⟨hrep, heldBy h ht⟩
  · obtain ⟨hrep, ht⟩ := renew_takes (q := q 3) (source hh) rfl (of_ h h0 ⟨rfl, rfl⟩) hr
    exact ⟨hrep, heldBy h ht⟩
  · have repeated : s.tclFrame t q' = s.emit (.tclRep t r.octets) := tclFrame_repeats hp hs hq hr
    simp only [List.mem_cons, Prod.mk.injEq, List.not_mem_nil, or_false] at hc
    obtain ⟨rfl, rfl⟩ | ⟨rfl, rfl⟩ | ⟨rfl, rfl⟩ | ⟨rfl, rfl⟩ := hc <;> exact ⟨_, rfl, repeated⟩
  · have spelled (type : Nat) (ht : type = 1 ∨ type = 2 ∨ type = 3 ∨ type = 6) :
        tclBadFrame t (q type).octets s = s.tclFrame t (q type) := by
      refine (if_neg (by simp [hp, t])).trans ?_
      rw [tclRequest_octets ht seq.isLt claim.isLt]
    simp only [List.mem_cons, Prod.mk.injEq, List.not_mem_nil, or_false] at hc
    obtain ⟨rfl, rfl⟩ | ⟨rfl, rfl⟩ | ⟨rfl, rfl⟩ | ⟨rfl, rfl⟩ := hc
    · exact congrArg _ (spelled 1 (by decide))
    · exact congrArg _ (spelled 2 (by decide))
    · exact congrArg _ (spelled 3 (by decide))
    · exact congrArg _ (spelled 6 (by decide))
  · have denied : src.val = 0 ∨ src.val = 3 := by omega
    exact tileAct_denied_nacked (q := q 2) (by simp [q]) (by simp [q]) (by simp [q]) denied
end

section
/-! PROOFS. What a change of a tile's mirror writes: the flags of the channels' pages and of the composites above them, CH_STAT,
CH_POL_ACT, and registers of the tile's page (R47, R186, R190, R193, R197, R198, R231). -/

namespace Sys2Proof.Machine

/-! ## The places of the tile pages -/

/-- The flags of a page: UNIT_STAT and IRQ_RAW. -/
def flagPlaces : List Nat := [Reg.Hdr.UNIT_STAT, Reg.Hdr.IRQ_RAW]

/-- The flags of any page, the registers at the places `cs` of channel pages and at the places `ts` of tile pages. -/
def mirrorReg (cs ts : List Nat) (k : Nat) : Bool :=
  atPlaces (flagPlaces ++ if k % 0x20000 < 0x1000 then ts else cs) k

section
variable {cs ts cs' ts' : List Nat}

theorem mirrorReg_chan (n : Nat) {off : Nat} (ho : off < 0x1000) : mirrorReg cs ts (mc n off) = (flagPlaces ++ cs).contains off := by
  rw [mirrorReg, if_neg (by unfold mc chanBase; omega), mc, atPlaces_add (chanBase_mod n) ho]

theorem tileBase_mod (t : Nat) : tileBase t % 0x1000 = 0 := by
  unfold tileBase
  omega

theorem mirrorReg_tile (t : Nat) {off : Nat} (ho : off < 0x1000) : mirrorReg cs ts (mt t off) = (flagPlaces ++ ts).contains off := by
  rw [mirrorReg, if_pos (by unfold mt tileBase; omega), mt, atPlaces_add (tileBase_mod t) ho]

theorem mirrorReg_flag {b off : Nat} (hb : b % 0x1000 = 0) (ho : off ∈ flagPlaces) : mirrorReg cs ts (b + off) = true := by
  have lt : off < 0x1000 := by
    simp only [flagPlaces, Reg.Hdr.UNIT_STAT, Reg.Hdr.IRQ_RAW, List.mem_cons, List.not_mem_nil, or_false] at ho
    omega
  rw [mirrorReg, atPlaces_add hb lt, List.contains_iff_mem]
  exact List.mem_append_left _ ho

theorem mirrorReg_mono (hc : cs ⊆ cs') (ht : ts ⊆ ts') {k : Nat} (h : mirrorReg cs ts k = true) : mirrorReg cs' ts' k = true := by
  rw [mirrorReg, atPlaces, List.contains_iff_mem, List.mem_append] at h ⊢
  refine h.imp_right fun hk => ?_
  split at hk <;> simp only [if_pos, if_neg, *, not_false_eq_true]
  · exact ht hk
  · exact hc hk

end

theorem compBase_mod (l : Nat) : compBase l % 0x1000 = 0 := by
  unfold compBase
  split
  · rfl
  split
  · exact tileBase_mod _
  split
  · exact cgBase_mod _
  · exact chanBase_mod _

/-- Composites above a channel lie below the tiles' own registers. -/
theorem State.above_lt (s : State) {n : Nat} (hn : n < 128) {l : Nat} (hl : l ∈ s.above n) : compBase l < 2 ^ 32 := by
  simp only [State.above, List.cons_append, List.nil_append, List.mem_cons, List.mem_map] at hl
  obtain rfl | rfl | ⟨g, hg, rfl⟩ := hl
  · rw [compBase, if_neg (by omega), if_pos (by omega), tileBase]
    omega
  · rw [compBase, if_pos rfl]
    decide
  · have lt : g < 64 := by
      cases hgr : s.groupOf n with
      | none => simp [hgr, State.groupChain] at hg
      | some y =>
        rw [hgr] at hg
        refine State.groupChain_lt ?_ hg
        unfold State.groupOf at hgr
        split at hgr
        · cases hgr
          exact bitsOf_lt _ _ _
        · cases hgr
    rw [compBase_group lt, cgBase]
    omega

/-! ## The flags of a page -/

/-- `p` names the flags of the page at `b`. -/
def FlagsIn (p : Nat → Bool) (b : Nat) : Prop := ∀ off ∈ flagPlaces, p (b + off) = true

/-- `p` names the flags of channel n and of every composite above it. -/
def ChanFlagsIn (p : Nat → Bool) (n : Nat) : Prop :=
  FlagsIn p (chanBase n) ∧ ∀ (u : State), ∀ l ∈ u.above n, FlagsIn p (compBase l)

theorem mirrorReg_flags (cs ts : List Nat) {b : Nat} (hb : b % 0x1000 = 0) : FlagsIn (mirrorReg cs ts) b := fun _ => mirrorReg_flag hb

theorem mirrorReg_chanFlags (cs ts : List Nat) (n : Nat) : ChanFlagsIn (mirrorReg cs ts) n :=
  ⟨mirrorReg_flags _ _ (chanBase_mod n), fun _ l _ => mirrorReg_flags _ _ (compBase_mod l)⟩

/-- A register of a page below the tiles' own. -/
theorem outside_of_lt {b off : Nat} (hb : b < 2 ^ 32) (ho : off < 0x1000) : (!tileOwn (b + off)) = true := by
  rw [tileOwn, decide_eq_false (by omega)]
  rfl

theorem outside_flags {b : Nat} (hb : b < 2 ^ 32) : FlagsIn (fun k => !tileOwn k) b := fun off ho => by
  refine outside_of_lt hb ?_
  simp only [flagPlaces, Reg.Hdr.UNIT_STAT, Reg.Hdr.IRQ_RAW, List.mem_cons, List.not_mem_nil, or_false] at ho
  omega

theorem chanBase_lt {n : Nat} (hn : n < 128) : chanBase n < 2 ^ 32 := by
  unfold chanBase
  omega

theorem outside_chanFlags {n : Nat} (hn : n < 128) : ChanFlagsIn (fun k => !tileOwn k) n :=
  ⟨outside_flags (chanBase_lt hn), fun u _ hl => outside_flags (u.above_lt hn hl)⟩

/-! ## What is written -/

section
variable (s : State) {p : Nat → Bool} {b n : Nat}

theorem State.setUnit_flags (hb : FlagsIn p b) (on partly fault : Bool) (prot : Nat) : Writes p s (s.setUnit b on partly fault prot) :=
  (s.setUnit_writes b on partly fault prot).mono fun k hk => by
    rw [Bool.or_eq_true, beq_iff_eq, beq_iff_eq] at hk
    rcases hk with rfl | rfl
    · exact hb _ (by decide)
    · exact hb _ (by decide)

theorem State.raise_flags (hb : FlagsIn p b) (i : Nat) : Writes p s (s.raise b i) :=
  (s.raise_writes b i).mono fun k hk => by
    rw [beq_iff_eq.1 hk]
    exact hb _ (by decide)

theorem State.refreshChan_writes (h : ChanFlagsIn p n) : Writes p s (s.refreshChan n) :=
  ((s.setUnit_flags h.1 _ _ _ _).wr (h.1 _ (by decide)) _).trans
    ((Writes.refl _ _).each fun _ hl _ _ => State.setUnit_flags _ (h.2 _ _ hl) _ _ _ _)

theorem State.putChStat_writes (h : ChanFlagsIn p n) (hs : p (mc n Reg.Chan.CH_STAT) = true) (v : Word) :
    Writes p s (s.putChStat n v) :=
  (((Writes.refl _ s).onlyIf fun _ => s.raise_flags h.1 16).wr hs _).trans (State.refreshChan_writes _ h)

theorem State.reSrc_writes (h : ChanFlagsIn p n) (hs : p (mc n Reg.Chan.CH_STAT) = true) : Writes p s (s.reSrc n) :=
  s.putChStat_writes h hs _

theorem State.reSrc_outside (hn : n < 128) : Writes (fun k => !tileOwn k) s (s.reSrc n) :=
  s.reSrc_writes (outside_chanFlags hn) (outside_of_lt (chanBase_lt hn) (by decide))

/-- SYNC of the copies writes CH_POL_ACT, TILE_STAT and flags (R186). -/
theorem State.polSync_writes (t : Nat) : Writes (mirrorReg [Reg.Chan.CH_POL_ACT] [Reg.Tile.TILE_STAT]) s (s.polSync t) := by
  have sync (n : Nat) (u : State) : Writes (mirrorReg [Reg.Chan.CH_POL_ACT] [Reg.Tile.TILE_STAT]) u (u.syncChan n) :=
    ((Writes.refl _ u).wr ((mirrorReg_chan n (by decide)).trans (by decide)) _).onlyIf fun _ =>
      State.raise_flags _ (mirrorReg_flags _ _ (chanBase_mod n)) 17
  exact ((Writes.refl _ s).each fun n _ u _ => sync n u).wr ((mirrorReg_tile t (by decide)).trans (by decide)) _

theorem State.mirFaults_writes {t : Nat} (hf : p (mt t Reg.Tile.FAULT_STAT) = true) (hl : p (mt t Reg.Tile.LATCH_SUM) = true) :
    Writes p s (s.mirFaults t) := ((Writes.refl p s).wr hf _).wr hl _

theorem State.protIrqs_writes (h : FlagsIn p (chanBase n)) (was : State) : Writes p s (s.protIrqs n was) := by
  have raised (i : Nat) (u : State) : Writes p u (u.raise (chanBase n) i) := u.raise_flags h i
  exact (((((((Writes.refl p s).onlyIf fun _ => raised _ _).onlyIf fun _ => raised _ _).onlyIf fun _ => raised _ _).onlyIf
    fun _ => raised _ _).onlyIf fun _ => raised _ _).onlyIf fun _ => raised _ _).onlyIf fun _ => raised _ _

end

end Sys2Proof.Machine
end

section
/-! PROOFS. O27: what a tile does by itself (R154, R156, R158, R171, R172, R178, R180, R185, R188, R189). -/

namespace Sys2Proof.Machine

/-! ## Bits of a number, and registers lost -/

theorem testBit_setNatBit (x i : Nat) (b : Bool) : (setNatBit x i b).testBit i = b := by
  unfold setNatBit
  split
  · next h => exact beq_iff_eq.1 h
  · next h =>
    split
    · next hb =>
      have h0 : x.testBit i = false := by simpa [hb] using h
      rw [Nat.add_comm, Nat.testBit_two_pow_add_eq, h0, hb]
      rfl
    · next hb =>
      have h1 : x.testBit i = true := by simpa [hb] using h
      have whole : 2 ^ i + (x - 2 ^ i) = x := Nat.add_sub_cancel' (Nat.ge_two_pow_of_testBit h1)
      have flipped : (x - 2 ^ i).testBit i = false := by
        have := Nat.testBit_two_pow_add_eq (x - 2 ^ i) i
        rw [whole, h1] at this
        simpa using this.symm
      rw [flipped, Bool.eq_false_iff.2 hb]

theorem State.loseRegs_keeps (s : State) {lose : Nat → Bool} {k : Nat} (h : lose k = false) : (s.loseRegs lose).rd k = s.rd k := by
  have kept (l : Tbl Word) : Tbl.get (regReset k) (l.filter (fun e => !lose e.1)) k = Tbl.get (regReset k) l k := by
    induction l with
    | nil => rfl
    | cons e l ih =>
      rw [List.filter_cons]
      split
      · rw [Tbl.get, Tbl.get, ih]
      · next he =>
        rw [Tbl.get, if_neg (by rintro rfl; simp [h] at he), ih]
  exact kept s.regs

/-! ## Frames and the stored request -/

theorem badFrame_counts {s : State} {t : Nat} {octs : List Nat} (hp : (s.tile t).powered = true) (h : tclRequest octs = none) :
    tclBadFrame t octs s = s.countFld (tileBase t + Reg.Tile.TCL_ERR) 0 16 := by
  refine (if_neg (by simp [hp])).trans ?_
  rw [h]

theorem badFrame_spec {s : State} {t : Nat} {octs : List Nat} (hp : (s.tile t).powered = true) (h : tclRequest octs = none) :
    (tclBadFrame t octs s).fld (tileBase t + Reg.Tile.TCL_ERR) 0 16 =
        min 0xFFFF (s.fld (tileBase t + Reg.Tile.TCL_ERR) 0 16 + 1) ∧
      Keeps (· == tileBase t + Reg.Tile.TCL_ERR) s (tclBadFrame t octs s) := by
  rw [badFrame_counts hp h]
  exact ⟨s.fld_countFld_same _ (by decide), (Keeps.refl _ s).writes (s.countFld_writes _ _ _)⟩

theorem badFrame_request {s : State} {t : Nat} {octs : List Nat} {q : TclReq} (hp : (s.tile t).powered = true)
    (h : tclRequest octs = some q) : tclBadFrame t octs s = s.tclFrame t q := by
  refine (if_neg (by simp [hp])).trans ?_
  rw [h]

theorem tileAct_reserved {s : State} {t : Nat} {q : TclReq} (h : q.type = 0 ∨ 7 < q.type) : s.tileAct t q = s.tileNack t q 7 := if_pos h

theorem badFrame_reserved {s : State} {t : Nat} {octs : List Nat} {q : TclReq} (h : tclRequest octs = some q)
    (hp : (s.tile t).powered = true) (hs : (s.tile t).starting = false) (hq : q.type = 0 ∨ 7 < q.type)
    (hl : (s.tile t).lastReq ≠ some q) : (tclBadFrame t octs s).regs = s.regs ∧
      ∃ r, ((tclBadFrame t octs s).tile t).lastRep = some r ∧
        (tclBadFrame t octs s).out.head? = some (.tclRep t r.octets) ∧ r.type = 12 ∧ r.reason = 7 ∧ r.refType = q.type := by
  rw [badFrame_request hp h, tclFrame_acts hp hs hl, tileAct_reserved hq]
  obtain ⟨⟨-, r, rep, sent, -, -, -, -, fields⟩, -⟩ := s.tileNack_nacked t q 7
  exact ⟨rfl, r, rep, sent, fields⟩

theorem storedDiscard_spec (s : State) (t : Nat) : ((storedDiscard t s).tile t).lastReq = none ∧
    ((storedDiscard t s).tile t).lastRep = none ∧ (storedDiscard t s).regs = s.regs := by
  rw [storedDiscard, State.tile_setTile_same]
  exact ⟨rfl, rfl, rfl⟩

/-! ## The Leash on its own -/

section
variable {s : State} {t : Nat}

/-- The levels that STAY holds: those latched, else those of IN (R180). -/
def State.stayLevels (s : State) (t : Nat) : Nat := match (s.tile t).latch with | some l => l | none => (s.tile t).inLv

/-- The tile with the levels of STAY kept. -/
def State.stayKept (s : State) (t : Nat) : State := s.setTile t { s.tile t with stay := s.stayLevels t, latch := none }

theorem stayEntry_held (h : s.leashState t = 1) :
    stayEntry t s = (s.stayKept t).leashSettled t (s.leashCur t) (s.leashHolder t) 2 := if_pos h

theorem stayEntry_spec (h : s.leashState t = 1) (hr : s.reaction 32 ≤ 1) :
    (stayEntry t s).leashState t = 2 ∧ (stayEntry t s).leashCur t = s.leashCur t ∧
      (stayEntry t s).leashHolder t = s.leashHolder t ∧ ((stayEntry t s).tile t).stay = s.stayLevels t := by
  have hx : (s.stayKept t).reaction 32 ≤ 1 := (s.setTile_reaction t _ 32).trans_le hr
  rw [stayEntry_held h]
  refine ⟨State.leashSettled_state _ t _ _ 2 hx (by decide), State.leashSettled_cur _ t _ _ 2 hx (s.leashCur_lt t),
    State.leashSettled_holder _ t _ _ 2 hx (s.leashHolder_lt t), ?_⟩
  rw [State.leashSettled_part _ t _ _ 2 hx Tile.stay fun _ => rfl, State.stayKept, State.tile_setTile_same]

theorem lossEntry_spec (h : s.leashState t = 2) (hr : s.reaction 32 ≤ 1) :
    (lossEntry t s).leashState t = 3 ∧ (lossEntry t s).leashCur t = s.leashCur t ∧
      (lossEntry t s).leashHolder t = s.leashHolder t := by
  rw [show lossEntry t s = s.leashSettled t (s.leashCur t) (s.leashHolder t) 3 from if_pos h]
  exact ⟨State.leashSettled_state _ t _ _ 3 hr (by decide), State.leashSettled_cur _ t _ _ 3 hr (s.leashCur_lt t),
    State.leashSettled_holder _ t _ _ 3 hr (s.leashHolder_lt t)⟩

/-! ## The take instant -/

/-- Past the take instant a tile in HELD follows IN (R178). -/
theorem State.srcLevel_held {n : Nat} (hp : (s.tile (n / 16)).powered = true) (hl : (s.tile (n / 16)).latch = none)
    (h1 : s.leashState (n / 16) = 1) : s.srcLevel n = (s.tile (n / 16)).inLv.testBit (n % 16) := by
  simp [State.srcLevel, hp, hl, h1]

/-- The tile with nothing latched. -/
def State.unlatched (s : State) (t : Nat) : State := s.setTile t { s.tile t with latch := none }

theorem takeNow_latched {l : Nat} (h : (s.tile t).latch = some l) :
    s.takeNow t = (s.unlatched t).settleTile t := by
  rw [State.takeNow, h, State.unlatched]

theorem takeInstant_latched (ht : t < 8) (h : (s.tile t).latch ≠ none) :
    Writes (fun k => !tileOwn k) (s.takeNow t) (takeInstant t s) := by
  rw [takeInstant, if_pos (by simpa [Option.isSome_iff_ne_none] using h)]
  refine (Writes.refl _ _).onlyIf fun _ => (Writes.refl _ _).each fun n hn u _ => u.reSrc_outside ?_
  obtain ⟨c, hc, rfl⟩ := List.mem_map.1 hn
  rw [List.mem_range] at hc
  omega

theorem takeInstant_spec (ht : t < 8) (h : (s.tile t).latch ≠ none) (hp : (s.tile t).powered = true) (h1 : s.leashState t = 1)
    (hr : s.reaction 32 ≤ 1) : ((takeInstant t s).tile t).latch = none ∧
      ∀ c < 16, (takeInstant t s).srcLevel (16 * t + c) = (s.tile t).inLv.testBit c := by
  obtain ⟨l, hl⟩ := Option.ne_none_iff_exists'.1 h
  have outside := takeInstant_latched ht h
  have settled := (s.unlatched t).settleTile_settled t ((s.setTile_reaction t _ 32).trans_le hr)
  rw [takeNow_latched hl] at outside
  have part {α : Type} (f : Tile → α) (hf : ∀ m, f m.kept = f m) :
      f ((takeInstant t s).tile t) = f { s.tile t with latch := none } := by
    have same : (takeInstant t s).tile t = ((s.unlatched t).settleTile t).tile t := by
      rw [State.tile, State.tile, outside.2]
    rw [same, settled.tilePart f t hf, State.unlatched, State.tile_setTile_same]
  have state : (takeInstant t s).leashState t = 1 :=
    (congrArg (bitsOf · 18 3) (outside.1 _ (congrArg not (tileOwn_tt t Reg.Tile.LEASH_STAT)))).trans
      ((settled.leashState t).trans h1)
  refine ⟨part Tile.latch fun _ => rfl, fun c hc => ?_⟩
  have hn : (16 * t + c) / 16 = t := by omega
  have hm : (16 * t + c) % 16 = c := by omega
  rw [State.srcLevel_held (by rw [hn, part Tile.powered fun _ => rfl, hp]) (by rw [hn, part Tile.latch fun _ => rfl])
    (by rw [hn, state]), hn, hm, part Tile.inLv fun _ => rfl]

/-! ## TRST -/

theorem State.seeFault_chan (hr : s.reaction 32 ≤ 1) (n : Nat) : (s.seeFault t).chan n = s.chan n := by
  rw [State.chan, State.seeFault_chans t hr, State.chan]

theorem State.setTile_chan (s : State) (t : Nat) (m : Tile) (n : Nat) : (s.setTile t m).chan n = s.chan n := rfl

/-- The tile's record as a TRST leaves it (R189). -/
def Tile.reset (m : Tile) : Tile := { m with trst := false, starting := false, latch := none, stay := 0, park := 0, ptr := 0 }

/-- The tile's registers lost and its record reset, before its channels settle. -/
def State.tileLost (s : State) (t : Nat) : State := (s.loseRegs (tileCopy t)).setTile t (s.tile t).reset

/-- Every channel of tile t with a new record. -/
def State.freshChans (s : State) (t : Nat) : State := s.each (tileChans t) (fun s n => s.setChan n {})

theorem State.tileReset_eq : s.tileReset t = (((s.tileLost t).settleTile t).freshChans t).seeFault t := rfl

theorem tileCopy_tileOwn {k : Nat} (h : tileCopy t k = true) : tileOwn k = true := by
  unfold tileCopy bank tileBase at h
  unfold tileOwn
  simp only [decide_eq_true_eq] at h ⊢
  omega

theorem tileCopy_tt {off : Nat} (ho : off < 0x1000) : tileCopy t (tt t off) = true := by
  unfold tileCopy tt bank tileBase
  rw [decide_eq_true_eq]
  omega

theorem tileCopy_tk {c off : Nat} (hc : c < 16) (ho : off < 0x1000) : tileCopy t (tk (16 * t + c) off) = true := by
  unfold tileCopy tk bank tileBase chanBase
  rw [decide_eq_true_eq]
  omega

theorem State.tileLost_reaction : (s.tileLost t).reaction 32 = s.reaction 32 :=
  congrArg (bitsOf · _ _) (s.loseRegs_keeps (Bool.eq_false_iff.2 fun h => absurd (tileCopy_tileOwn h) (by decide)))

theorem State.freshChans_stands (u : State) (t : Nat) :
    (u.freshChans t).regs = u.regs ∧ (u.freshChans t).tiles = u.tiles ∧ (u.freshChans t).time = u.time :=
  State.each_ind (P := fun v => v.regs = u.regs ∧ v.tiles = u.tiles ∧ v.time = u.time) ⟨rfl, rfl, rfl⟩ fun _ _ _ hv => hv

theorem State.freshChans_chan (u : State) {n : Nat} (hn : n ∈ tileChans t) : (u.freshChans t).chan n = {} := by
  have fresh (l : List Nat) (v : State) (h : n ∈ l ∨ v.chan n = {}) : (v.each l (fun s n => s.setChan n {})).chan n = {} := by
    induction l generalizing v with
    | nil => simpa using h
    | cons m l ih =>
      refine ih _ ?_
      by_cases hm : n = m
      · right
        rw [hm, State.chan_setChan_same]
      · rw [State.chan_setChan_ne _ _ hm]
        simpa [hm] using h
  exact fresh _ u (.inl hn)

theorem mem_tileChans {c : Nat} (hc : c < 16) : 16 * t + c ∈ tileChans t := List.mem_map_of_mem (List.mem_range.2 hc)

variable (hr : s.reaction 32 ≤ 1)
include hr

theorem State.tileReset_settled :
    Settled (s.tileLost t) ((s.tileLost t).settleTile t) ∧
      Settled (((s.tileLost t).settleTile t).freshChans t) (s.tileReset t) := by
  have lost := (s.tileLost t).settleTile_settled t (s.tileLost_reaction.trans_le hr)
  obtain ⟨regs, -, -⟩ := ((s.tileLost t).settleTile t).freshChans_stands t
  refine ⟨lost, State.seeFault_settled t ?_⟩
  rw [State.reaction, State.fld, State.rd_congr regs]
  exact lost.reaction.trans_le (s.tileLost_reaction.trans_le hr)

theorem State.tileReset_reaction : (s.tileReset t).reaction 32 ≤ 1 := by
  obtain ⟨lost, fault⟩ := s.tileReset_settled (t := t) hr
  obtain ⟨regs, -, -⟩ := ((s.tileLost t).settleTile t).freshChans_stands t
  rw [fault.reaction, State.reaction, State.fld, State.rd_congr regs]
  exact lost.reaction.trans_le (s.tileLost_reaction.trans_le hr)

/-- A register of the tile's own that settling leaves is at its Reset value after a TRST. -/
theorem State.tileReset_rd {k : Nat} (hc : tileCopy t k = true) (hk : settleReg k = false) : (s.tileReset t).rd k = regReset k := by
  obtain ⟨lost, fault⟩ := s.tileReset_settled (t := t) hr
  obtain ⟨regs, -, -⟩ := ((s.tileLost t).settleTile t).freshChans_stands t
  rw [fault.regs k hk, State.rd_congr regs, lost.regs k hk]
  exact s.loseRegs_rd hc

theorem State.tileReset_part {α : Type} (f : Tile → α) (hf : ∀ m, f m.kept = f m) :
    f ((s.tileReset t).tile t) = f (s.tile t).reset := by
  obtain ⟨lost, fault⟩ := s.tileReset_settled (t := t) hr
  obtain ⟨-, tiles, -⟩ := ((s.tileLost t).settleTile t).freshChans_stands t
  rw [fault.tilePart f t hf, State.tile, tiles]
  exact (lost.tilePart f t hf).trans (congrArg f (State.tile_setTile_same _ _ _))

theorem State.tileReset_chan {c : Nat} (hc : c < 16) : ((s.tileReset t).chan (16 * t + c)).conducts = false := by
  obtain ⟨lost, -⟩ := s.tileReset_settled (t := t) hr
  obtain ⟨regs, -, -⟩ := ((s.tileLost t).settleTile t).freshChans_stands t
  have small : (((s.tileLost t).settleTile t).freshChans t).reaction 32 ≤ 1 := by
    rw [State.reaction, State.fld, State.rd_congr regs]
    exact lost.reaction.trans_le (s.tileLost_reaction.trans_le hr)
  rw [State.tileReset_eq, State.seeFault_chan small, State.freshChans_chan _ (mem_tileChans hc)]

end

/-- The Reset values of the Leash registers. -/
theorem leash_reset : ∀ t < 8, regReset (tt t Reg.Tile.LEASH_STAT) = 0 := by decide +kernel

/-- UNCLAIMED, and every channel off (R189). -/
def State.TileOff (u : State) (t : Nat) : Prop :=
  u.leashState t = 0 ∧ u.leashCur t = 0 ∧ ∀ c < 16, (u.chan (16 * t + c)).conducts = false

section
variable {s : State} {t : Nat}

theorem State.tileReset_off (ht : t < 8) (hr : s.reaction 32 ≤ 1) : (s.tileReset t).TileOff t := by
  have leash : (s.tileReset t).rd (tt t Reg.Tile.LEASH_STAT) = 0 :=
    (State.tileReset_rd hr (tileCopy_tt (by decide)) (settleReg_leash t)).trans (leash_reset t ht)
  exact ⟨congrArg (bitsOf · 18 3) leash, congrArg (bitsOf · 0 16) leash, fun c hc => State.tileReset_chan hr hc⟩

/-- CH_CFG of a channel has the Reset value after a TRST. -/
theorem State.tileReset_config {c : Nat} (hc : c < 16) (hr : s.reaction 32 ≤ 1) :
    (s.tileReset t).rd (tk (16 * t + c) Reg.Chan.CH_CFG) = regReset (tk (16 * t + c) Reg.Chan.CH_CFG) :=
  State.tileReset_rd hr (tileCopy_tk hc (by decide)) ((settleReg_tk _ (by decide)).trans (by decide))

theorem trstEffect_spec (ht : t < 8) (h : (s.tile t).trst = true) (hp : (s.tile t).powered = true) (hr : s.reaction 32 ≤ 1) :
    (trstEffect t s).TileOff t ∧ ((trstEffect t s).tile t).trst = false ∧ ((trstEffect t s).tile t).starting = false ∧
      ∀ c < 16, (trstEffect t s).rd (tk (16 * t + c) Reg.Chan.CH_CFG) = regReset (tk (16 * t + c) Reg.Chan.CH_CFG) := by
  rw [show trstEffect t s = s.tileReset t from if_pos (by simp [h, hp])]
  exact ⟨State.tileReset_off ht hr, State.tileReset_part hr Tile.trst fun _ => rfl, State.tileReset_part hr Tile.starting fun _ => rfl,
    fun c hc => State.tileReset_config hc hr⟩

/-! ## Feed, supply and inputs -/

/-- A tile's record set, then FAULT_N seen: a part settling leaves is as set. -/
theorem State.seeFault_part (hr : s.reaction 32 ≤ 1) {m : Tile} {α : Type} (f : Tile → α) (hf : ∀ m, f m.kept = f m) :
    f (((s.setTile t m).seeFault t).tile t) = f m := by
  have settled := State.seeFault_settled (s := s.setTile t m) t ((s.setTile_reaction t _ 32).trans_le hr)
  rw [settled.tilePart f t hf, State.tile_setTile_same]

/-- A tile's record set, and its channels settled: a part settling leaves is as set. -/
theorem State.settleTile_part (hr : s.reaction 32 ≤ 1) {m : Tile} {α : Type} (f : Tile → α) (hf : ∀ m, f m.kept = f m) :
    f (((s.setTile t m).settleTile t).tile t) = f m := by
  have settled := State.settleTile_settled (s := s.setTile t m) t ((s.setTile_reaction t _ 32).trans_le hr)
  rw [settled.tilePart f t hf, State.tile_setTile_same]

theorem powerUp_spec {mv : Nat} (hp : (s.tile t).powered = false) (hv : 3000 ≤ mv) (hr : s.reaction 32 ≤ 1) :
    ((powerUp t mv s).tile t).powered = true ∧ ((powerUp t mv s).tile t).starting = true ∧
      ((powerUp t mv s).tile t).trst = true ∧ ((powerUp t mv s).tile t).feed = mv := by
  rw [powerUp, if_pos (by simp [hp, hv])]
  exact ⟨State.seeFault_part hr Tile.powered fun _ => rfl, State.seeFault_part hr Tile.starting fun _ => rfl,
    State.seeFault_part hr Tile.trst fun _ => rfl, State.seeFault_part hr Tile.feed fun _ => rfl⟩

/-- A tile's record without power, its feed at `mv` (R156). -/
def Tile.dark (m : Tile) (mv : Nat) : Tile :=
  { m with powered := false, feed := mv, moved := true, lastReq := none, lastRep := none }

theorem brownout_acts {mv : Nat} (hp : (s.tile t).powered = true) (hv : mv < 2800) :
    brownout t mv s = ((s.tileReset t).setTile t (((s.tileReset t).tile t).dark mv)).seeFault t := if_pos (by simp [hp, hv])

theorem State.setTile_leash (s : State) (t : Nat) (m : Tile) (lo w : Nat) :
    (s.setTile t m).fld (tt t Reg.Tile.LEASH_STAT) lo w = s.fld (tt t Reg.Tile.LEASH_STAT) lo w := rfl

theorem brownout_spec {mv : Nat} (ht : t < 8) (hp : (s.tile t).powered = true) (hv : mv < 2800) (hr : s.reaction 32 ≤ 1) :
    (brownout t mv s).TileOff t ∧ ((brownout t mv s).tile t).powered = false ∧ ((brownout t mv s).tile t).feed = mv := by
  have hx : (s.tileReset t).reaction 32 ≤ 1 := State.tileReset_reaction hr
  have hm : ((s.tileReset t).setTile t (((s.tileReset t).tile t).dark mv)).reaction 32 ≤ 1 :=
    (State.setTile_reaction _ t _ 32).trans_le hx
  have settled := State.seeFault_settled t hm
  obtain ⟨state, cur, chans⟩ := State.tileReset_off ht hr
  rw [brownout_acts hp hv]
  refine ⟨⟨(settled.leashState t).trans ((State.setTile_leash _ t _ 18 3).trans state),
    (settled.leashCur t).trans ((State.setTile_leash _ t _ 0 16).trans cur), fun c hc => ?_⟩,
    State.seeFault_part hx Tile.powered fun _ => rfl, State.seeFault_part hx Tile.feed fun _ => rfl⟩
  rw [State.seeFault_chan hm, State.setTile_chan]
  exact chans c hc

theorem bandChange_spec {mv : Nat} (hr : s.reaction 32 ≤ 1) : ((bandChange t mv s).tile t).feed = mv ∧
    ((s.tile t).powered = true →
      ((bandChange t mv s).tile t).moved = ((s.tile t).moved || feedBand (s.tile t).feed != feedBand mv)) := by
  by_cases hp : (s.tile t).powered = true
  · rw [bandChange, if_pos hp]
    exact ⟨State.settleTile_part hr Tile.feed fun _ => rfl, fun _ => State.settleTile_part hr Tile.moved fun _ => rfl⟩
  · rw [bandChange, if_neg hp, State.tile_setTile_same]
    exact ⟨rfl, fun h => absurd h hp⟩

theorem supplySample_spec {x : Nat} (hp : (s.tile t).powered = true) :
    ((supplySample t x s).tile t).samples = (x :: (s.tile t).samples).take 1000 ∧ (supplySample t x s).regs = s.regs ∧
      (((supplySample t x s).tile t).supWarn = true ↔ ((supplySample t x s).tile t).samples.length = 1000 ∧
        12000 * 1000 < ((supplySample t x s).tile t).samples.foldl (· + ·) 0) := by
  rw [supplySample, if_pos hp, State.tile_setTile_same]
  exact ⟨rfl, rfl, decide_eq_true_iff⟩

theorem lhChange_tile {i : Nat} {lv : Bool} (ht : t < 8) (hp : (s.tile t).powered = true) (hr : s.reaction 32 ≤ 1) :
    ((lhChange t i lv s).tile t).lh.testBit i = lv := by
  rw [lhChange, if_neg (by omega), if_pos hp]
  rw [State.settleTile_part hr Tile.lh fun _ => rfl]
  exact testBit_setNatBit _ _ _

theorem State.lhAgree_writes (s : State) : Writes (· == lhBase + Reg.Lh.LH_DIFF) s s.lhAgree :=
  (Writes.refl _ s).each fun _ _ u _ => (Writes.refl _ u).onlyIf fun _ => (Writes.refl _ u).wr (by simp) _

/-- The level the bank takes from its own comparators (R457). -/
theorem lhChange_bank {i : Nat} {lv : Bool} (hi : i < 32) (hd : s.domainOn 9 = true) :
    (lhChange 8 i lv s).bit (lhBase + Reg.Lh.LH_LEVEL) i = lv := by
  rw [lhChange, if_pos rfl]
  split
  · have agrees := (s.setBit (lhBase + Reg.Lh.LH_LEVEL) i lv).lhAgree_writes.1 (lhBase + Reg.Lh.LH_LEVEL) (by decide)
    rw [State.bit, State.distNow, State.rd_dist, agrees]
    exact s.bit_setBit_same _ hi lv
  · next h => simpa [hd] using h

theorem inEdge_arrives {c : Nat} {lv : Bool} (h : s.inFlight.find? (fun e => e.1 == c) = some (c, lv)) (hr : s.reaction 32 ≤ 1) :
    ((inEdge c s).tile (c / 16)).inLv.testBit (c % 16) = lv ∧ (inEdge c s).inFlight = s.inFlight.erase (c, lv) := by
  let x : State := { s with inFlight := s.inFlight.erase (c, lv) }
  let m : Tile := { x.tile (c / 16) with inLv := setNatBit (x.tile (c / 16)).inLv (c % 16) lv }
  let y := x.setTile (c / 16) m
  have eq : inEdge c s = if (x.tile (c / 16)).powered then y.settleOne c else y := by rw [inEdge, h]
  have settled : Settled y (inEdge c s) := by
    rw [eq]
    split
    · exact State.settleOne_settled ((x.setTile_reaction _ m 32).trans_le hr) c
    · exact .refl y
  refine ⟨?_, settled.inFlight⟩
  rw [settled.tilePart Tile.inLv _ fun _ => rfl, State.tile_setTile_same]
  exact testBit_setNatBit _ _ _

end

end Sys2Proof.Machine

open Sys2Proof Sys2Proof.Machine

/-- Settles O27, event by event. -/
theorem tileEvents : Obligations.TileEvents := by
  unfold Obligations.TileEvents
  intro s k t m off
  have ht : t < 8 := k.isLt
  refine ⟨fun octs h hp => ⟨_, rfl, badFrame_spec hp h⟩,
    fun octs q h hp hs hq hl => ⟨_, rfl, badFrame_reserved h hp hs hq hl⟩,
    fun hp octs => ⟨_, rfl, if_pos (by simp [show (s.tile k.val).powered = false from hp])⟩,
    ⟨_, rfl, storedDiscard_spec s t⟩,
    fun h hr => ⟨_, rfl, stayEntry_spec h hr⟩, fun h => ⟨_, rfl, if_neg h⟩,
    fun h hr => ⟨_, rfl, lossEntry_spec h hr⟩, fun h => ⟨_, rfl, if_neg h⟩,
    fun hl hp h1 hr => ⟨_, rfl, takeInstant_spec ht hl hp h1 hr⟩,
    fun hl => ⟨_, rfl, if_neg (by simp [show (s.tile k.val).latch = none from hl])⟩,
    fun h hp hr => ⟨_, rfl, trstEffect_spec ht h hp hr⟩,
    fun h => ⟨_, rfl, if_neg (by simp [show (s.tile k.val).trst = false from h])⟩,
    fun mv => ⟨fun hp hv hr => ⟨_, rfl, powerUp_spec hp hv hr⟩, fun h => ⟨_, rfl, if_neg ?_⟩,
      fun hp hv hr => ⟨_, rfl, brownout_spec ht hp hv hr⟩, fun h => ⟨_, rfl, if_neg ?_⟩,
      fun hr => ⟨_, rfl, bandChange_spec hr⟩⟩,
    fun x => ⟨fun hp => ⟨_, rfl, supplySample_spec hp⟩,
      fun hp => ⟨_, rfl, if_neg (by simp [show (s.tile k.val).powered = false from hp])⟩⟩,
    fun i lv => ⟨fun hp hr => ⟨_, rfl, lhChange_tile ht hp hr⟩, fun hd => ⟨_, rfl, lhChange_bank (by omega) hd⟩,
      fun hd => ⟨_, rfl, ?_⟩⟩,
    fun c lv h hc hr => ⟨_, rfl, hc ▸ inEdge_arrives h hr⟩, fun c h => ⟨_, rfl, ?_⟩⟩
  · rw [Bool.and_eq_true, Bool.not_eq_true', decide_eq_true_eq]
    rintro ⟨hp, hv⟩
    exact h.elim (fun hp' => absurd (hp.symm.trans hp') (by decide)) (by omega)
  · rw [Bool.and_eq_true, decide_eq_true_eq]
    rintro ⟨hp, hv⟩
    exact h.elim (fun hp' => absurd (hp.symm.trans hp') (by decide)) (by omega)
  · exact (if_pos rfl).trans (if_neg (by simp [hd]))
  · rw [inEdge, h]
end

section
/-! PROOFS. The request queues of tile control: what waits goes out in its order and is not lost (R168, R173). -/

namespace Sys2Proof.Machine

/-! ## Entries that move along the queues -/

/-- An entry but for the SEQ it takes when it is sent. -/
def TcEntry.bare (e : TcEntry) : TcEntry := { e with req := { e.req with seq := 0 } }

/-- Tile control's record of a tile but for its queues. -/
def TileCtl.rest (c : TileCtl) : TileCtl := { c with seq := 0, sent := [], ctlQ := [], rwQ := [], held := [] }

/-- An entry like `e` among `l`. -/
def TcEntry.Among (e : TcEntry) (l : List TcEntry) : Prop := ∃ e' ∈ l, e'.bare = e.bare

/-- What is queued in `c` is queued or sent in `d`; nothing but the queues differs. -/
structure TileCtl.Moves (c d : TileCtl) : Prop where
  ctl : ∀ e ∈ c.ctlQ ++ c.sent, e.Among (d.ctlQ ++ d.sent)
  rw : ∀ e ∈ c.rwQ ++ c.sent, e.Among (d.rwQ ++ d.sent)
  own : ∀ e ∈ c.rwQ ++ c.held ++ c.sent, e.Among (d.rwQ ++ d.held ++ d.sent)
  rest : d.rest = c.rest

theorem TcEntry.Among.of_mem {e : TcEntry} {l : List TcEntry} (h : e ∈ l) : e.Among l := ⟨e, h, rfl⟩

section
variable {c d f : TileCtl}

theorem TileCtl.Moves.refl (c : TileCtl) : c.Moves c := ⟨fun _ => .of_mem, fun _ => .of_mem, fun _ => .of_mem, rfl⟩

theorem TcEntry.Among.trans {l l' : List TcEntry} (h : ∀ e ∈ l, e.Among l') {e : TcEntry} (he : e.Among l) : e.Among l' := by
  obtain ⟨x, hx, same⟩ := he
  obtain ⟨y, hy, same'⟩ := h x hx
  exact ⟨y, hy, same'.trans same⟩

theorem TileCtl.Moves.trans (h : c.Moves d) (h' : d.Moves f) : c.Moves f :=
  ⟨fun e he => (h.ctl e he).trans h'.ctl, fun e he => (h.rw e he).trans h'.rw, fun e he => (h.own e he).trans h'.own,
    h'.rest.trans h.rest⟩

/-- What is not in the queues stands. -/
theorem TileCtl.Moves.part (h : c.Moves d) {α : Type} (g : TileCtl → α) (hg : ∀ c, g c.rest = g c) : g d = g c := by
  rw [← hg, h.rest, hg]

theorem TileCtl.Moves.claimOf (h : c.Moves d) (src : Nat) : d.claimOf src = c.claimOf src :=
  h.part (·.claimOf src) fun _ => rfl

/-- The next request is one of the waiting ones, and the others wait on. -/
theorem TileCtl.nextReq_spec {e : TcEntry} (h : c.nextReq = some (e, d)) :
    (e ∈ c.ctlQ ∧ d = { c with ctlQ := c.ctlQ.erase e }) ∨ (e ∈ c.rwQ ∧ d = { c with rwQ := c.rwQ.erase e }) := by
  unfold TileCtl.nextReq at h
  split at h
  · next x hx =>
    cases h
    exact .inl ⟨List.mem_of_find?_eq_some hx, rfl⟩
  split at h
  · next x r _ hq =>
    cases h
    refine .inl ⟨hq ▸ List.mem_cons_self, ?_⟩
    rw [hq, List.erase_cons_head]
  · next x r _ hr =>
    cases h
    refine .inr ⟨hr ▸ List.mem_cons_self, ?_⟩
    rw [hr, List.erase_cons_head]
  · cases h

/-- The entry as it is sent with the link's SEQ. -/
def TcEntry.sentAs (e : TcEntry) (seq : Nat) : TcEntry := { e with req := { e.req with seq := seq } }

/-- The record once an entry is sent (R168). -/
def TileCtl.sending (c : TileCtl) (e : TcEntry) : TileCtl :=
  { c with seq := (c.seq + 1) % 16, sent := c.sent ++ [e.sentAs c.seq] }

theorem TileCtl.nextReq_moves {e : TcEntry} (h : c.nextReq = some (e, d)) : c.Moves (d.sending e) := by
  have last {l : List TcEntry} {seq : Nat} : e.Among (l ++ (c.sent ++ [e.sentAs seq])) := ⟨e.sentAs seq, by simp, rfl⟩
  have stays {x : TcEntry} {l : List TcEntry} (hx : x ∈ l) (hne : x ≠ e) : x ∈ l.erase e := (List.mem_erase_of_ne hne).2 hx
  have other {x : TcEntry} {l l' : List TcEntry} {seq : Nat} (hne : x ≠ e) (hl : x ∈ l → x ∈ l') (hx : x ∈ l ++ c.sent) :
      x.Among (l' ++ (c.sent ++ [e.sentAs seq])) := by
    rw [List.mem_append] at hx
    exact .of_mem (by rcases hx with hx | hx <;> simp [hl, hx])
  rcases TileCtl.nextReq_spec h with ⟨-, rfl⟩ | ⟨-, rfl⟩
  · refine ⟨fun x hx => ?_, fun x hx => ?_, fun x hx => ?_, rfl⟩ <;> by_cases hne : x = e
    · exact hne ▸ last
    · exact other hne (stays · hne) hx
    · exact hne ▸ last
    · exact other hne id hx
    · exact hne ▸ last
    · exact other hne id hx
  · refine ⟨fun x hx => ?_, fun x hx => ?_, fun x hx => ?_, rfl⟩ <;> by_cases hne : x = e
    · exact hne ▸ last
    · exact other hne id hx
    · exact hne ▸ last
    · exact other hne (stays · hne) hx
    · exact hne ▸ last
    · refine other hne (fun hl => ?_) hx
      rw [List.mem_append] at hl ⊢
      exact hl.imp_left (stays · hne)

theorem TileCtl.refill_moves (fuel : Nat) (c : TileCtl) : c.Moves (c.refill fuel) := by
  induction fuel generalizing c with
  | zero => exact .refl c
  | succ fuel ih =>
    rw [TileCtl.refill]
    split
    · next e r hh =>
      split
      · refine .trans (d := { c with rwQ := c.rwQ ++ [e], held := r })
          ⟨fun _ => .of_mem, fun x hx => .of_mem ?_, fun x hx => .of_mem ?_, rfl⟩ (ih _)
        · simp only [List.mem_append] at hx ⊢
          exact hx.imp_left .inl
        · simp only [hh, List.mem_append, List.mem_cons, List.not_mem_nil, or_false] at hx ⊢
          tauto
      · exact .refl c
    · exact .refl c

end

/-! ## The state while requests move -/

/-- From `s` to `u` requests moved along the queues of tile control, and were counted and sent; nothing else changed. -/
structure Queues (s u : State) : Prop where
  tc : ∀ t, (s.tc t).Moves (u.tc t)
  regs : RegsStand s u
  frame : u = { s with regs := u.regs, tcs := u.tcs, out := u.out }

theorem State.tc_setTc_same (s : State) (t : Nat) (c : TileCtl) : (s.setTc t c).tc t = c := Tbl.get_set_same _ _ _ _

theorem State.tc_setTc_ne (s : State) {t x : Nat} (c : TileCtl) (h : x ≠ t) : (s.setTc t c).tc x = s.tc x :=
  Tbl.get_set_ne _ _ _ _ _ _ h

section
variable {s t u : State}

theorem Queues.refl (s : State) : Queues s s := ⟨fun _ => .refl _, fun _ _ => rfl, rfl⟩

theorem Queues.trans (h : Queues s t) (h' : Queues t u) : Queues s u :=
  ⟨fun x => (h.tc x).trans (h'.tc x), fun k hk => (h'.regs k hk).trans (h.regs k hk), by rw [h'.frame, h.frame]⟩

/-- Requests queued or moved at one tile. -/
theorem Queues.setTc (s : State) (x : Nat) {c : TileCtl} (h : (s.tc x).Moves c) : Queues s (s.setTc x c) where
  tc y := by
    by_cases hy : y = x
    · rw [hy, State.tc_setTc_same]
      exact h
    · rw [State.tc_setTc_ne _ _ hy]
      exact .refl _
  regs _ _ := rfl
  frame := rfl

theorem State.ev_queues (s : State) (code inst : Nat) : Queues s (s.ev code inst) where
  tc x := by
    rw [State.tc, State.tc, (s.ev_writes code inst).2]
    exact .refl _
  regs := (s.ev_writes code inst).1
  frame := by rw [(s.ev_writes code inst).2]

theorem State.emit_queues (s : State) (e : Emit) : Queues s (s.emit e) := ⟨fun _ => .refl _, fun _ _ => rfl, rfl⟩

theorem State.tcSend_eq (s : State) (x : Nat) (e : TcEntry) :
    s.tcSend x e = ((s.setTc x ((s.tc x).sending e)).emit (.tclReq x (e.sentAs (s.tc x).seq).req.octets)).ev 0xD1 x := rfl

theorem State.tcPump_queues (fuel : Nat) (s : State) (x : Nat) : Queues s (s.tcPump fuel x) := by
  induction fuel generalizing s with
  | zero => exact .refl s
  | succ fuel ih =>
    unfold State.tcPump
    dsimp only
    split
    · exact .refl s
    split
    · next e d hn =>
      have sent : Queues s ((s.setTc x d).setTc x (d.sending e)) := by
        refine ⟨fun y => ?_, fun _ _ => rfl, rfl⟩
        by_cases hy : y = x
        · rw [hy, State.tc_setTc_same]
          exact TileCtl.nextReq_moves hn
        · rw [State.tc_setTc_ne _ _ hy, State.tc_setTc_ne _ _ hy]
          exact .refl _
      have out : Queues s ((s.setTc x d).tcSend x e) := by
        rw [State.tcSend_eq, State.tc_setTc_same]
        exact (sent.trans (State.emit_queues _ _)).trans (State.ev_queues _ _ _)
      exact out.trans (ih _)
    · exact .refl s

theorem State.pump_queues (s : State) (x : Nat) : Queues s (s.pump x) :=
  (State.onlyIf_ind (P := Queues s) (.refl s) fun _ => Queues.setTc s x (TileCtl.refill_moves _ _)).trans (State.tcPump_queues 4 _ x)

/-! ## Requests put in the queues -/

variable (x : Nat) (q : TclReq) (why : TcWhy)

theorem TileCtl.Moves.pushCtl (c : TileCtl) (e : TcEntry) : c.Moves { c with ctlQ := c.ctlQ ++ [e] } :=
  ⟨fun _ h => .of_mem (by simp only [List.mem_append] at h ⊢; tauto), fun _ => .of_mem, fun _ => .of_mem, rfl⟩

theorem TileCtl.Moves.pushRw (c : TileCtl) (e : TcEntry) : c.Moves { c with rwQ := c.rwQ ++ [e] } :=
  ⟨fun _ => .of_mem, fun _ h => .of_mem (by simp only [List.mem_append] at h ⊢; tauto),
    fun _ h => .of_mem (by simp only [List.mem_append] at h ⊢; tauto), rfl⟩

theorem TileCtl.Moves.pushHeld (c : TileCtl) (e : TcEntry) : c.Moves { c with held := c.held ++ [e] } :=
  ⟨fun _ => .of_mem, fun _ => .of_mem, fun _ h => .of_mem (by simp only [List.mem_append] at h ⊢; tauto), rfl⟩

theorem State.ctlPush_queues (s : State) : Queues s (s.ctlPush x q why) :=
  (Queues.setTc s x (.pushCtl _ _)).trans (State.pump_queues _ x)

theorem State.rwPush_queues (s : State) : Queues s (s.rwPush x q why) :=
  (Queues.setTc s x (.pushRw _ _)).trans (State.pump_queues _ x)

theorem State.rwOwn_queues (s : State) : Queues s (s.rwOwn x q why) :=
  (Queues.setTc s x (.pushHeld _ _)).trans (State.pump_queues _ x)

theorem State.ctlPush_queued (s : State) :
    TcEntry.Among { req := q, why := why } (((s.ctlPush x q why).tc x).ctlQ ++ ((s.ctlPush x q why).tc x).sent) :=
  ((State.pump_queues (s.setTc x { s.tc x with ctlQ := (s.tc x).ctlQ ++ [{ req := q, why := why }] }) x).tc x).ctl _
    (by simp [State.tc_setTc_same])

theorem State.rwPush_queued (s : State) :
    TcEntry.Among { req := q, why := why } (((s.rwPush x q why).tc x).rwQ ++ ((s.rwPush x q why).tc x).sent) :=
  ((State.pump_queues (s.setTc x { s.tc x with rwQ := (s.tc x).rwQ ++ [{ req := q, why := why }] }) x).tc x).rw _
    (by simp [State.tc_setTc_same])

theorem State.rwOwn_queued (s : State) :
    TcEntry.Among { req := q, why := why }
      (((s.rwOwn x q why).tc x).rwQ ++ ((s.rwOwn x q why).tc x).held ++ ((s.rwOwn x q why).tc x).sent) :=
  ((State.pump_queues (s.setTc x { s.tc x with held := (s.tc x).held ++ [{ req := q, why := why }] }) x).tc x).own _
    (by simp [State.tc_setTc_same])

end

end Sys2Proof.Machine
end

section
/-! PROOFS. O28: what tile control queues and sends (R173 to R175, R182, R183, R186, R189, R195). -/

namespace Sys2Proof.Machine

/-! ## An accepted write at tile control -/

section
variable {s : State} {acc : Access} {addr : Nat} {v : Word}

theorem State.taken_tcs : (s.taken acc addr v).tcs = s.tcs := State.taken_eq (·.tcs) fun _ _ _ _ => rfl

theorem State.taken_tc (t : Nat) : (s.taken acc addr v).tc t = s.tc t := by rw [State.tc, State.taken_tcs, State.tc]

theorem State.taken_fld {k : Nat} (hk : k % 0x1000 ≠ Reg.Local.CMP_WRITES) (lo w : Nat) :
    (s.taken acc addr v).fld k lo w = s.fld k lo w := congrArg (bitsOf · lo w) (State.taken_rd hk)

theorem mt_mod (t : Nat) {off : Nat} (ho : off < 0x1000) : mt t off % 0x1000 = off := by
  unfold mt tileBase
  omega

theorem mc_mod (n : Nat) {off : Nat} (ho : off < 0x1000) : mc n off % 0x1000 = off := by
  unfold mc chanBase
  omega

theorem State.taken_mirCur (t : Nat) : (s.taken acc addr v).mirCur t = s.mirCur t :=
  State.taken_fld (by rw [mt_mod t (by decide)]; decide) _ _

theorem State.taken_mirHolder (t : Nat) : (s.taken acc addr v).mirHolder t = s.mirHolder t :=
  State.taken_fld (by rw [mt_mod t (by decide)]; decide) _ _

end

/-- A queued entry seen by the parts that sending leaves. -/
theorem TcEntry.Among.exists {e : TcEntry} {l : List TcEntry} (h : e.Among l) {p : TcEntry → Prop} (hp : ∀ e, p e.bare ↔ p e)
    (he : p e) : ∃ e' ∈ l, p e' := by
  obtain ⟨e', hm, same⟩ := h
  exact ⟨e', hm, (hp e').1 (same ▸ (hp e).2 he)⟩

/-! ## LEASH_CTRL and TRST_REQ -/

section
variable {s : State} (m : Master) (t : Nat)

/-- The request of a master that LEASH_CTRL or TRST_REQ queues. -/
def CtlOf (u : State) (m : Master) (t type claim : Nat) : Prop :=
  ∃ e ∈ (u.tc t).ctlQ ++ (u.tc t).sent, e.req.type = type ∧ e.req.src = m.src ∧ e.req.claim = claim ∧ e.why = .agent

theorem ctlPush_ctlOf (s : State) {q : TclReq} (hq : q.src = m.src) : CtlOf (s.ctlPush t q .agent) m t q.type q.claim :=
  (s.ctlPush_queued t q .agent).exists (fun _ => .rfl) ⟨rfl, hq, rfl, rfl⟩

/-- The request of a LEASH_CTRL command. -/
def leashReq (m : Master) (type claim : Nat) : TclReq := { type := type, seq := 0, src := m.src, claim := claim }

theorem leashCtrl_claim (s : State) : leashCtrl m t 1 s = s.ctlPush t (leashReq m 2 ((s.mirCur t + 1) % 65536)) .agent := rfl

theorem leashCtrl_renew (s : State) : leashCtrl m t 2 s = s.ctlPush t (leashReq m 3 (s.mirCur t)) .agent := rfl

theorem leashCtrl_park (s : State) : leashCtrl m t 4 s = s.ctlPush t (leashReq m 6 ((s.tc t).claimOf m.src)) .agent := rfl

theorem ctlPush_resp (s : State) (q : TclReq) (why : TcWhy) : (s.ctlPush t q why).resp = s.resp := by
  rw [(s.ctlPush_queues t q why).frame]

theorem rwPush_resp (s : State) (q : TclReq) (why : TcWhy) : (s.rwPush t q why).resp = s.resp := by
  rw [(s.rwPush_queues t q why).frame]

/-- An accepted write whose effect queues a request of the writer. -/
theorem leads_ctlPush {acc : Access} {addr : Nat} {v : Word} {i : Instr} {eff : Access → State → State} {q : TclReq}
    (ht : Takes s acc addr) (hi : exec i s = .next (s.write acc 4 addr v eff))
    (he : eff (s.asSent acc) (s.taken acc addr v) = (s.taken acc addr v).ctlPush t q .agent) (hq : q.src = acc.master.src) :
    Leads i s fun u => u.resp = .ok ∧ CtlOf u acc.master t q.type q.claim := by
  refine leads_taken ht hi ?_
  rw [he]
  exact ⟨ctlPush_resp t _ q .agent, ctlPush_ctlOf acc.master t _ hq⟩

end

/-! ## A tile-held register written (R174) -/

section
variable {s : State} {t : Nat}

theorem State.rwAccess_queued (h : (s.tc t).rwUsed < 32) (q : TclReq) (why : TcWhy) : s.rwAccess t q why = s.rwPush t q why :=
  if_neg (by omega)

theorem State.rwAccess_full (h : 32 ≤ (s.tc t).rwUsed) (q : TclReq) (why : TcWhy) : s.rwAccess t q why = s.answer .stalled := if_pos h

theorem State.sbRefuse_tc (s : State) (c t : Nat) : (s.sbRefuse c).tc t = s.tc t := by
  rw [State.tc, State.sbRefuse, State.tc]
  exact congrArg (fun u : State => Tbl.get {} u.tcs t) (s.count_writes _).2

/-- The WRITE a queued entry carries. -/
def WriteOf (u : State) (m : Master) (t unit off claim : Nat) (v : Word) : Prop :=
  ∃ e ∈ (u.tc t).rwQ ++ (u.tc t).sent, e.req.type = 4 ∧ e.req.src = m.src ∧ e.req.claim = claim ∧ e.req.unit = unit ∧
    e.req.reg = (off - 0x40) / 4 ∧ e.req.data = v

theorem rwPush_writeOf (s : State) (m : Master) (t unit off : Nat) (v : Word) (why : TcWhy) :
    WriteOf (s.rwPush t (s.tcWrite m t unit off v) why) m t unit off ((s.tc t).claimOf m.src) v :=
  (s.rwPush_queued t _ why).exists (fun _ => .rfl) ⟨rfl, rfl, rfl, rfl, rfl, rfl⟩

theorem rwtWrite_half (x : Half) (n off : Nat) (v : Word) (s : State) :
    rwtWrite (.half x) n off v s = s.rwAccess (n / 16) (s.tcWrite (.half x) (n / 16) (n % 16) off v) .master := rfl

theorem rwtWrite_shep (n off : Nat) (v : Word) (s : State) : rwtWrite .shep n off v s =
    (s.rwAccess (n / 16) (s.tcWrite .shep (n / 16) (n % 16) off v) .master).sbRefuse sbNotClaimed := rfl

theorem rwtWrite_posted {n : Nat} (hn : n / 16 = t) (h : (s.tc t).rwUsed < 32) (m : Master) (off : Nat) (v : Word) (hs : s.resp = .ok) :
    (rwtWrite m n off v s).resp = (match m with | .half _ => .ok | .shep => .code sbNotClaimed) ∧
      WriteOf (rwtWrite m n off v s) m t (n % 16) off ((s.tc t).claimOf m.src) v := by
  subst hn
  cases m with
  | half x =>
    rw [rwtWrite_half, State.rwAccess_queued h]
    exact ⟨(rwPush_resp _ s _ _).trans hs, rwPush_writeOf s _ _ _ _ _ _⟩
  | shep =>
    rw [rwtWrite_shep, State.rwAccess_queued h]
    refine ⟨rfl, ?_⟩
    rw [WriteOf, State.sbRefuse_tc]
    exact rwPush_writeOf s _ _ _ _ _ _

theorem rwtWrite_stalls {n : Nat} (hn : n / 16 = t) (h : 32 ≤ (s.tc t).rwUsed) (x : Half) (off : Nat) (v : Word) :
    rwtWrite (.half x) n off v s = s.answer .stalled := by
  subst hn
  exact State.rwAccess_full h _ _

end

/-! ## A persistent word written (R10, R319) -/

section
variable {s : State} {acc : Access} {prim k : Nat} {v : Word}

theorem wearKey_mod (k : Nat) : wearKey k % 0x1000 = Reg.Hdr.WEAR := by
  unfold wearKey Reg.Hdr.WEAR
  omega

/-- The registers a write of the persistent word `k` may change: the word, its page's wear, the flags, the event counters. -/
def wordReg (prim k j : Nat) : Bool := counterReg j || j == k || j == wearKey k || j == prim + Reg.Hdr.IRQ_RAW

theorem State.putP_spec (hk : k ≠ wearKey k) (hp : k ≠ prim + Reg.Hdr.IRQ_RAW) :
    (s.putP prim k v).rd k = v ∧ (s.putP prim k v).tcs = s.tcs ∧ RegsBut (wordReg prim k) s (s.putP prim k v) := by
  let x : State := { s.wr k v with wear := Tbl.set 0 s.wear k (s.wearOf k + 1) }
  have rest : Writes (fun j => j == wearKey k || j == prim + Reg.Hdr.IRQ_RAW) x (s.putP prim k v) := by
    unfold State.putP
    dsimp only
    split
    · exact .refl _ x
    · exact ((Writes.refl _ x).onlyIf fun _ => (Writes.refl _ _).wr (by simp) _).onlyIf fun _ =>
        ((Writes.refl _ _).wr (by simp) _).wr (by simp) _
  refine ⟨?_, by rw [rest.2]; rfl, fun j hj => ?_⟩
  · rw [rest.1 k (by simp [hk, hp])]
    exact s.rd_wr_same k v
  · simp only [wordReg, Bool.or_eq_false_iff, beq_eq_false_iff_ne] at hj
    obtain ⟨⟨⟨-, hne⟩, hwear⟩, hirq⟩ := hj
    rw [rest.1 j (by simp [hwear, hirq])]
    exact s.rd_wr_ne k j v hne

/-- What precedes the write of a word: the writer's event is counted. -/
def State.writeCounted (s : State) (acc : Access) : State :=
  match acc.master with
  | .half h => s.onlyIf (s.unmuzzled acc.secure) (·.evHalf h.idx 0x50 0)
  | .shep => s

theorem State.writeCounted_writes (s : State) (acc : Access) : Writes counterReg s (s.writeCounted acc) := by
  unfold State.writeCounted
  split
  · next h _ =>
    exact (Writes.refl _ s).onlyIf fun _ => s.ecEvent_writes (by cases h <;> decide) _ _
  · exact .refl _ s

theorem State.writeP_spec (hw : s.worn k = false) (hk : k ≠ wearKey k) (hp : k ≠ prim + Reg.Hdr.IRQ_RAW) :
    (s.writeP acc prim k v).rd k = v ∧ (s.writeP acc prim k v).tcs = s.tcs ∧ RegsBut (wordReg prim k) s (s.writeP acc prim k v) := by
  have counted := s.writeCounted_writes acc
  have worn : (s.writeCounted acc).worn k = false := by
    rw [← hw, State.worn, State.wearOf, counted.2, State.worn, State.wearOf]
  have eq : s.writeP acc prim k v = (s.writeCounted acc).putP prim k v := if_neg fun h => absurd (worn.symm.trans h) (by decide)
  obtain ⟨rd, tcs, regs⟩ := (s.writeCounted acc).putP_spec (v := v) hk hp
  rw [eq]
  refine ⟨rd, tcs.trans (by rw [counted.2]), RegsBut.trans (RegsBut.mono counted.1 fun j hj => ?_) regs⟩
  simp [wordReg, hj]

end

/-! ## Policy writes (R186) -/

section
variable {s : State}

/-- The word stored, the copies' SYNC, and from the holder its WRITE to the tile. -/
def State.policyPut (s : State) (acc : Access) (t unit off key prim : Nat) (v : Word) : State :=
  let u := (s.writeP acc prim key v).polSync t
  if acc.master.src = u.mirHolder t then u.rwAccess t (u.tcWrite acc.master t unit off v) .master else u

theorem policyWrite_tile {acc : Access} {t : Nat} {v : Word} (hw : s.worn (mt t Reg.Tile.STAY_TIME) = false) :
    policyWrite acc t 16 v s =
      s.policyPut acc t 16 Reg.Tile.STAY_TIME (mt t Reg.Tile.STAY_TIME) (tileBase t) (word (stayTimeStored v)) :=
  if_neg fun h => absurd (hw.symm.trans h) (by decide)

theorem policyWrite_chan {acc : Access} {t unit : Nat} {v : Word} (hu : unit ≠ 16)
    (hw : s.worn (mc (16 * t + unit) Reg.Chan.CH_POL) = false) :
    policyWrite acc t unit v s =
      s.policyPut acc t unit Reg.Chan.CH_POL (mc (16 * t + unit) Reg.Chan.CH_POL) (chanBase (16 * t + unit)) (v &&& 0x1FF) := by
  have hb : (unit == 16) = false := beq_false_of_ne hu
  unfold policyWrite
  simp only [hb, hw, Bool.false_eq_true, if_false]
  rfl

theorem State.taken_worn {acc : Access} {addr : Nat} {v : Word} (k : Nat) : (s.taken acc addr v).worn k = s.worn k :=
  State.taken_eq (·.worn k) fun _ _ _ _ => rfl

theorem State.policyPut_spec {acc : Access} {t unit off key prim : Nat} {v : Word} (ht : t < 8) (hw : s.worn key = false)
    (hb : prim % 0x1000 = 0) (hm : key % 0x1000 ∉ [Reg.Hdr.IRQ_RAW, Reg.Hdr.WEAR]) (hlt : key < ecBase 0)
    (hs : mirrorReg [Reg.Chan.CH_POL_ACT] [Reg.Tile.TILE_STAT] key = false) (hne : key ≠ mt t Reg.Tile.LEASH_STAT) :
    (s.policyPut acc t unit off key prim v).rd key = v ∧
      (acc.master.src ≠ s.mirHolder t → (s.policyPut acc t unit off key prim v).tcs = s.tcs) ∧
      (acc.master.src = s.mirHolder t → (s.tc t).rwUsed < 32 →
        WriteOf (s.policyPut acc t unit off key prim v) acc.master t unit off ((s.tc t).claimOf acc.master.src) v) := by
  let u := (s.writeP acc prim key v).polSync t
  have place {k : Nat} (hk : k % 0x1000 ∉ [Reg.Hdr.IRQ_RAW, Reg.Hdr.WEAR]) : k ≠ wearKey key ∧ k ≠ prim + Reg.Hdr.IRQ_RAW := by
    have hwear := wearKey_mod key
    simp only [Reg.Hdr.IRQ_RAW, Reg.Hdr.WEAR, List.mem_cons, List.not_mem_nil, or_false, not_or] at hk hwear ⊢
    omega
  obtain ⟨hk, hp⟩ := place hm
  have hc : counterReg key = false := counterReg_of_lt hlt
  have hl : wordReg prim key (mt t Reg.Tile.LEASH_STAT) = false := by
    obtain ⟨hw', hi'⟩ := place (k := mt t Reg.Tile.LEASH_STAT) (by rw [mt_mod t (by decide)]; decide)
    have hcl : counterReg (mt t Reg.Tile.LEASH_STAT) = false := counterReg_of_lt (by unfold mt tileBase ecBase Reg.Tile.LEASH_STAT; omega)
    simp [wordReg, hcl, hw', hi', hne.symm]
  obtain ⟨rd, tcs, regs⟩ := State.writeP_spec (acc := acc) (v := v) hw hk hp
  have synced := (s.writeP acc prim key v).polSync_writes t
  have hrd : u.rd key = v := (synced.1 key hs).trans rd
  have htcs : u.tcs = s.tcs := by
    rw [← tcs, show u = _ from synced.2]
  have htc : u.tc t = s.tc t := by rw [State.tc, htcs, State.tc]
  have holder : u.mirHolder t = s.mirHolder t :=
    congrArg (bitsOf · 16 2) ((synced.1 _ ((mirrorReg_tile t (by decide)).trans (by decide))).trans (regs _ hl))
  rw [State.policyPut, holder]
  refine ⟨?_, fun hne => by rw [if_neg hne]; exact htcs, fun he hq => ?_⟩
  · split
    · exact (State.rwAccess_regsStand u t _ .master key hc).trans hrd
    · exact hrd
  · rw [if_pos he]
    have hq' : (u.tc t).rwUsed < 32 := htc ▸ hq
    have queued := rwPush_writeOf u acc.master t unit off v .master
    rw [htc] at queued
    rw [State.rwAccess_queued hq']
    exact queued

end

/-- An accepted policy write (R186). -/
theorem leads_policy {s : State} {acc : Access} {i : Instr} {t unit off key prim : Nat} {v v' : Word} (ht : t < 8)
    (hta : Takes s acc key) (hw : s.worn key = false)
    (hi : exec i s = .next (s.write acc 4 key v (fun acc => policyWrite acc t unit v)))
    (he : ∀ u : State, u.worn key = false → policyWrite (s.asSent acc) t unit v u = u.policyPut (s.asSent acc) t unit off key prim v')
    (hb : prim % 0x1000 = 0) (hm : key % 0x1000 ∉ [Reg.Hdr.IRQ_RAW, Reg.Hdr.WEAR]) (hlt : key < ecBase 0)
    (hs : mirrorReg [Reg.Chan.CH_POL_ACT] [Reg.Tile.TILE_STAT] key = false) (hne : key ≠ mt t Reg.Tile.LEASH_STAT) :
    Leads i s fun u => u.rd key = v' ∧ (acc.master.src ≠ s.mirHolder t → u.tcs = s.tcs) ∧
      (acc.master.src = s.mirHolder t → (s.tc t).rwUsed < 32 → ∃ e ∈ (u.tc t).rwQ ++ (u.tc t).sent,
        e.req.type = 4 ∧ e.req.src = acc.master.src ∧ e.req.unit = unit ∧ e.req.data = v') := by
  refine leads_taken hta hi ?_
  have worn : (s.taken acc key v).worn key = false := (State.taken_worn key).trans hw
  rw [he _ worn]
  obtain ⟨rd, others, queued⟩ := State.policyPut_spec (acc := s.asSent acc) (unit := unit) (off := off) (v := v') ht worn hb hm hlt hs hne
  rw [State.asSent_master, State.taken_mirHolder] at others queued
  rw [State.taken_tcs] at others
  rw [State.taken_tc] at queued
  refine ⟨rd, others, fun hh hq => ?_⟩
  obtain ⟨e, hmem, htype, hsrc, -, hunit, -, hdata⟩ := queued hh hq
  exact ⟨e, hmem, htype, hsrc, hunit, hdata⟩

/-! ## Keepalives and the poll -/

section
variable {s : State}

/-- The KEEPALIVE of a half's agent. -/
def keepaliveReq (s : State) (h : Half) (t : Nat) : TclReq :=
  { type := 1, seq := 0, src := h.code2, claim := (s.tc t).claimOf h.code2 }

theorem keepalives_queued (h : Half) {l : List Nat} {t : Nat} (ht : t ∈ l) :
    let u := s.each l (fun s t => s.ctlPush t (keepaliveReq s h t) .agent)
    TcEntry.Among { req := keepaliveReq s h t, why := .agent } ((u.tc t).ctlQ ++ (u.tc t).sent) := by
  let f (s : State) (t : Nat) : State := s.ctlPush t (keepaliveReq s h t) .agent
  have moved (l : List Nat) (u : State) : Queues u (u.each l f) :=
    State.each_ind (P := Queues u) (.refl u) fun x _ v hv => hv.trans (State.ctlPush_queues x _ .agent v)
  obtain ⟨a, b, rfl⟩ := List.append_of_mem ht
  let x := s.each a f
  have same : keepaliveReq x h t = keepaliveReq s h t := by
    rw [keepaliveReq, ((moved a s).tc t).claimOf, keepaliveReq]
  have split : s.each (a ++ t :: b) f = (x.ctlPush t (keepaliveReq x h t) .agent).each b f := by
    rw [State.each, List.foldl_append, List.foldl_cons]
    rfl
  intro u
  rw [show u = _ from split, ← same]
  exact (x.ctlPush_queued t _ .agent).trans ((moved b _).tc t).ctl

theorem keepaliveTimer_queues {h : Half} {t : Nat} (ht : t < 8) (hr : s.role h = roleActive) (hrun : s.running h = true)
    (ha : (s.tc t).agent h = true) : ∃ e ∈ ((keepaliveTimer h s).tc t).ctlQ ++ ((keepaliveTimer h s).tc t).sent,
      e.req.type = 1 ∧ e.req.src = h.code2 ∧ e.req.claim = (s.tc t).claimOf h.code2 := by
  have agents : t ∈ (List.range 8).filter (fun t => (s.tc t).agent h) := List.mem_filter.2 ⟨List.mem_range.2 ht, ha⟩
  rw [keepaliveTimer, if_pos (by simp [hr, hrun])]
  exact (keepalives_queued h agents).exists (fun _ => .rfl) ⟨rfl, rfl, rfl⟩

end

end Sys2Proof.Machine

open Sys2Proof Sys2Proof.Machine

/-- Settles O28, by what each of tile control's queues takes in. -/
theorem tileControlRequests : Obligations.TileControlRequests := by
  unfold Obligations.TileControlRequests
  intro s acc k t m ctl
  have ht8 : t < 8 := k.isLt
  refine ⟨fun ht => ⟨?_, ?_, ?_⟩, fun v ht => ⟨fun hv => ?_, fun hv => ?_⟩, fun n r v hn ht => ⟨fun hq => ?_, fun h hm hq => ?_⟩,
    fun unit v => ?_, fun h hr hrun ha => ⟨_, rfl, keepaliveTimer_queues ht8 hr hrun ha⟩, fun h hn => ⟨_, rfl, if_neg ?_⟩,
    ⟨_, rfl, ?_⟩⟩
  · exact leads_ctlPush t (q := leashReq m 2 ((s.mirCur t + 1) % 65536)) ht (i := .leashCtrlClaim acc k) rfl
      (by rw [leashCtrl_claim, State.asSent_master, State.taken_mirCur]) rfl
  · exact leads_ctlPush t (q := leashReq m 3 (s.mirCur t)) ht (i := .leashCtrlRenew acc k) rfl
      (by rw [leashCtrl_renew, State.asSent_master, State.taken_mirCur]) rfl
  · exact leads_ctlPush t (q := leashReq m 6 ((s.tc t).claimOf m.src)) ht (i := .leashCtrlPark acc k) rfl
      (by rw [leashCtrl_park, State.asSent_master, State.taken_tc]) rfl
  · refine leads_ctlPush t (q := { leashReq m 7 ((s.tc t).claimOf m.src) with key := 0xC3A5 }) ht (i := .trstReq acc k v) rfl ?_ rfl
    rw [trstReq, if_pos hv, State.asSent_master, State.taken_tc]
    rfl
  · refine leads_taken ht (i := .trstReq acc k v) rfl ?_
    rw [trstReq, if_neg hv]
    exact ⟨rfl, s.taken_keeps _ acc _ v⟩
  · let off := rwtOffs.getD r.val 0
    refine leads_taken ht (i := .rwtWrite acc n r v) rfl ?_
    rw [State.asSent_master]
    have posted := rwtWrite_posted (s := s.taken acc (mc n.val off) v) hn (by rw [State.taken_tc]; exact hq) m off v rfl
    rw [State.taken_tc] at posted
    exact posted
  · refine leads_taken ht (i := .rwtWrite acc n r v) rfl ?_
    rw [State.asSent_master, show acc.master = .half h from hm,
      rwtWrite_stalls (s := s.taken acc (mc n.val (rwtOffs.getD r.val 0)) v) hn (by rw [State.taken_tc]; exact hq)]
    exact ⟨rfl, State.taken_tcs, rfl⟩
  · refine fun ht hw => ?_
    by_cases hu : unit = 16
    · subst hu
      exact leads_policy ht8 (unit := 16) (key := mt t Reg.Tile.STAY_TIME) ht hw rfl (fun u hw => policyWrite_tile hw)
        (tileBase_mod t) (by rw [mt_mod t (by decide)]; decide) (by unfold Machine.mt tileBase ecBase Reg.Tile.STAY_TIME; omega)
        ((mirrorReg_tile t (by decide)).trans (by decide)) (by unfold Machine.mt Reg.Tile.STAY_TIME Reg.Tile.LEASH_STAT; omega)
    · have hne : unit.val ≠ 16 := fun h => hu (Fin.ext h)
      simp only [if_neg hu] at ht hw ⊢
      exact leads_policy ht8 (unit := unit.val) (key := mc (16 * t + unit.val) Reg.Chan.CH_POL) ht hw
        (by simp only [exec, execPolicyWrite, if_neg hne]; rfl) (fun u hw => policyWrite_chan hne hw) (chanBase_mod _)
        (by rw [mc_mod _ (by decide)]; decide) (by unfold mc chanBase ecBase Reg.Chan.CH_POL; omega)
        ((mirrorReg_chan _ (by decide)).trans (by decide)) (by
          unfold mc chanBase Machine.mt tileBase Reg.Chan.CH_POL Reg.Tile.LEASH_STAT
          omega)
  · rw [Bool.and_eq_true, beq_iff_eq]
    rintro ⟨hr, hrun⟩
    exact hn.elim (fun h' => h' hr) fun h' => absurd (hrun.symm.trans h') (by decide)
  · exact (s.rwOwn_queued t _ .poll).exists (fun _ => .rfl) ⟨rfl, rfl, rfl, rfl⟩
end

section
/-! PROOFS. What a matched reply leaves of tile control before its own effect: the Leash in the mirror, the link up, its request
over (R173 to R175, R183). -/

namespace Sys2Proof.Machine

/-! ## The tile pages and the other registers -/

/-- The registers that are on no tile or channel page. -/
def elsewhere (k : Nat) : Bool := decide (k < 0x40200000 ∨ 0x40300000 ≤ k)

theorem elsewhere_mt {t off : Nat} (ht : t < 8) (ho : off < 0x1000) : elsewhere (mt t off) = false := by
  unfold elsewhere mt tileBase
  rw [decide_eq_false_iff_not]
  omega

theorem elsewhere_mc {n off : Nat} (hn : n < 128) (ho : off < 0x1000) : elsewhere (mc n off) = false := by
  obtain ⟨hlo, hhi⟩ := mc_bounds hn ho
  rw [elsewhere, decide_eq_false_iff_not]
  omega

theorem elsewhere_counter {k : Nat} (h : counterReg k = true) : elsewhere k = true := by
  rw [counterReg, decide_eq_true_eq] at h
  rw [elsewhere, decide_eq_true_eq]
  unfold ecBase at h
  omega

theorem counterReg_of_elsewhere {k : Nat} (h : elsewhere k = false) : counterReg k = false :=
  Bool.eq_false_iff.2 fun hc => absurd ((elsewhere_counter hc).symm.trans h) (by decide)

theorem elsewhere_driven {k : Nat} (h : drivenReg k = true) : elsewhere k = true := by
  simp only [drivenReg, Bool.or_eq_true, beq_iff_eq, decide_eq_true_eq] at h
  obtain (((hc | rfl) | rfl) | rfl) | hs := h
  · exact elsewhere_counter hc
  · decide
  · decide
  · decide
  · rw [elsewhere, decide_eq_true_eq]
    unfold sadcBase at hs
    omega

/-- The registers a reply may change before its own effect: the mirror's at these places, and those on other pages. -/
def replyReg (ts : List Nat) (k : Nat) : Bool := mirrorReg [Reg.Chan.CH_STAT] ts k || elsewhere k

theorem replyReg_mirror {cs ts ts' : List Nat} (hc : cs ⊆ [Reg.Chan.CH_STAT]) (ht : ts ⊆ ts') {k : Nat}
    (h : mirrorReg cs ts k = true) : replyReg ts' k = true := by rw [replyReg, mirrorReg_mono hc ht h, Bool.true_or]

theorem replyReg_elsewhere {ts : List Nat} {k : Nat} (h : elsewhere k = true) : replyReg ts k = true := by
  rw [replyReg, h, Bool.or_true]

theorem replyReg_mt {ts : List Nat} {t off : Nat} (ht : t < 8) (ho : off < 0x1000) :
    replyReg ts (mt t off) = (flagPlaces ++ ts).contains off := by
  rw [replyReg, elsewhere_mt ht ho, Bool.or_false, mirrorReg_tile t ho]

/-! ## What a reply reports -/

/-- Tile control's record of a tile but for the agents and the reset it expects. -/
def TileCtl.core (c : TileCtl) : TileCtl := { c with agentA := false, agentB := false, expReset := false }

/-- From `s` to `u` a reply reported the tile: the registers `p` does not name stand, a link that is up stays so, and of tile
control's record the core stands. -/
structure Reported (p : Nat → Bool) (t : Nat) (s u : State) : Prop where
  regs : RegsBut p s u
  link : s.linkUp t = true → u.linkUp t = true
  core : (u.tc t).core = (s.tc t).core

section
variable {p : Nat → Bool} {t : Nat} {s u v : State}

theorem Reported.refl (p : Nat → Bool) (t : Nat) (s : State) : Reported p t s s := ⟨.refl _ s, id, rfl⟩

theorem Reported.trans (h : Reported p t s u) (h' : Reported p t u v) : Reported p t s v :=
  ⟨h.regs.trans h'.regs, h'.link ∘ h.link, h'.core.trans h.core⟩

theorem Reported.onlyIf (h : Reported p t s u) {c : Bool} {f : State → State} (hf : c = true → Reported p t u (f u)) :
    Reported p t s (u.onlyIf c f) := State.onlyIf_ind h fun hc => h.trans (hf hc)

theorem Reported.each {α : Type} {l : List α} {f : State → α → State} (h : Reported p t s u)
    (hf : ∀ x ∈ l, ∀ v, Reported p t v (f v x)) : Reported p t s (u.each l f) :=
  State.each_ind h fun x hx v hv => hv.trans (hf x hx v)

theorem Reported.mono {q : Nat → Bool} (h : Reported p t s u) (hq : ∀ k, p k = true → q k = true) : Reported q t s u :=
  ⟨RegsBut.mono h.regs hq, h.link, h.core⟩

theorem Reported.part (h : Reported p t s u) {α : Type} (f : TileCtl → α) (hf : ∀ c, f c.core = f c) : f (u.tc t) = f (s.tc t) := by
  rw [← hf, h.core, hf]

/-- A step that writes registers other than TILE_STAT. -/
theorem Reported.writes {q : Nat → Bool} (h : Writes q s u) (hq : ∀ k, q k = true → p k = true)
    (hs : q (mt t Reg.Tile.TILE_STAT) = false) : Reported p t s u where
  regs := RegsBut.mono h.1 hq
  link hl := (congrArg (bitOf · 0) (h.1 _ hs)).trans hl
  core := by rw [State.tc, h.2, State.tc]

/-- One register other than TILE_STAT written. -/
theorem Reported.wr (s : State) {k : Nat} (x : Word) (hk : p k = true) (hs : k ≠ mt t Reg.Tile.TILE_STAT) :
    Reported p t s (s.wr k x) := .writes (s.wr_writes k x) (fun _ hj => beq_iff_eq.1 hj ▸ hk) (beq_false_of_ne hs.symm)

/-- A bit of TILE_STAT other than LINK_UP. -/
theorem Reported.setStat (s : State) {i : Nat} (hi : 0 < i) (hi32 : i < 32) (hp : p (mt t Reg.Tile.TILE_STAT) = true) (b : Bool) :
    Reported p t s (s.setBit (mt t Reg.Tile.TILE_STAT) i b) where
  regs := RegsBut.mono (s.wr_writes _ _).1 fun _ hk => beq_iff_eq.1 hk ▸ hp
  link hl := (State.bit_setBit_ne _ _ (by omega) hi32 b).trans hl
  core := rfl

/-- Tile control's record set, its core standing. -/
theorem Reported.setTc (p : Nat → Bool) (t : Nat) (s : State) {c : TileCtl} (h : c.core = (s.tc t).core) :
    Reported p t s (s.setTc t c) := ⟨fun _ _ => rfl, id, by rw [State.tc_setTc_same, h]⟩

theorem TileCtl.core_setAgent (c : TileCtl) (h : Half) (b : Bool) : (c.setAgent h b).core = c.core := by cases h <;> rfl

theorem mt_ne (t : Nat) {a b : Nat} (h : a ≠ b) : mt t a ≠ mt t b := by
  unfold mt
  omega

theorem Reported.raise (hp : FlagsIn p (tileBase t)) (s : State) (i : Nat) : Reported p t s (s.raise (tileBase t) i) :=
  .wr s _ (hp _ (by decide)) (mt_ne t (a := Reg.Hdr.IRQ_RAW) (by decide))

theorem Reported.leashLost (hp : FlagsIn p (tileBase t)) (s : State) (h : Half) : Reported p t s (s.leashLost t h) :=
  (Reported.setTc p t s (TileCtl.core_setAgent _ _ _)).trans (.raise hp _ 17)

/-- What a report may write: the flags and TILE_STAT of the tile's page, the event counters, and SADC_STAT. -/
structure ReportsIn (p : Nat → Bool) (t : Nat) : Prop where
  flags : FlagsIn p (tileBase t)
  stat : p (mt t Reg.Tile.TILE_STAT) = true
  counters : ∀ k, counterReg k = true → p k = true
  adc : p (sadcBase t + Reg.Sadc.SADC_STAT) = true

theorem Reported.ev (hp : ReportsIn p t) (ht : t < 8) (s : State) (code inst : Nat) : Reported p t s (s.ev code inst) :=
  .writes (s.ev_writes code inst) hp.counters (counterReg_of_elsewhere (elsewhere_mt ht (by decide)))

theorem elsewhere_adc {t : Nat} (ht : t < 8) : elsewhere (sadcBase t + Reg.Sadc.SADC_STAT) = true := by
  unfold elsewhere sadcBase Reg.Sadc.SADC_STAT
  rw [decide_eq_true_eq]
  omega

theorem reportsIn_reply (ht : t < 8) {ts : List Nat} (hts : Reg.Tile.TILE_STAT ∈ ts) : ReportsIn (replyReg ts) t where
  flags _ ho := replyReg_mirror (cs := []) (ts := []) (by simp) (by simp) (mirrorReg_flag (tileBase_mod t) ho)
  stat := by
    rw [replyReg_mt ht (by decide), List.contains_iff_mem]
    exact List.mem_append_right _ hts
  counters _ hk := replyReg_elsewhere (elsewhere_counter hk)
  adc := replyReg_elsewhere (elsewhere_adc ht)

/-! ### The parts of a report -/

/-- The link comes up, its mirror not yet valid (R173). -/
def State.linked (s : State) (t : Nat) : State :=
  s.onlyIf (!s.linkUp t) (fun s => (s.setBit (mt t Reg.Tile.TILE_STAT) 0 true).setBit (mt t Reg.Tile.TILE_STAT) 1 false)

theorem State.linked_link (s : State) (t : Nat) : (s.linked t).linkUp t = true := by
  unfold State.linked State.onlyIf
  split
  · exact (State.bit_setBit_ne _ _ (by decide) (by decide) _).trans (State.bit_setBit_same _ _ (by decide) _)
  · next h => simpa using h

theorem State.linked_reported (hp : ReportsIn p t) (s : State) : Reported p t s (s.linked t) where
  regs := ((Writes.refl p s).onlyIf fun _ => ((Writes.refl p s).wr hp.stat _).wr hp.stat _).1
  link _ := s.linked_link t
  core := State.onlyIf_ind (P := fun u : State => (u.tc t).core = (s.tc t).core) rfl fun _ => rfl

theorem State.report_reported (hp : ReportsIn p t) (ht : t < 8) (s : State) (r : TclRep) : Reported p t (s.linked t) (s.report t r) := by
  unfold State.report
  extract_lets st s1 was s2 s3 s4
  have hs2 : Reported p t s1 s2 := by
    refine (Reported.refl p t s1).onlyIf fun _ => ?_
    have shown : Reported p t s1 (s1.setBlockStat (tileBase t) r.state) :=
      .wr s1 _ (hp.flags _ (by decide)) (mt_ne t (a := Reg.Hdr.UNIT_STAT) (by decide))
    exact (shown.trans (.ev hp ht _ 0xD7 t)).onlyIf fun _ => .raise hp.flags _ _
  have hs3 : Reported p t s1 s3 :=
    hs2.onlyIf fun _ => (Reported.setStat s2 (i := 6) (by decide) (by decide) hp.stat true).trans (.raise hp.flags _ 24)
  have hs4 : Reported p t s1 s4 := by
    refine hs3.onlyIf fun _ => ((Reported.setStat s3 (i := 1) (by decide) (by decide) hp.stat false).trans
      (.raise hp.flags _ 23)).trans (.wr _ _ hp.adc fun he => ?_)
    have far := elsewhere_adc ht
    rw [he, elsewhere_mt ht (by decide)] at far
    cases far
  exact hs4.each fun h _ v => (Reported.refl p t v).onlyIf fun _ => .leashLost hp.flags v h

theorem State.report_regs (hp : ReportsIn p t) (ht : t < 8) (s : State) (r : TclRep) : RegsBut p s (s.report t r) :=
  ((s.linked_reported hp).trans (s.report_reported hp ht r)).regs

/-! ## The mirror as a matched reply shows it -/

/-- The Leash word of a reply (R196). -/
def TclRep.leashWord (r : TclRep) : Word := word (r.cur % 2 ^ 16 + r.holder % 4 * 2 ^ 16 + r.state % 8 * 2 ^ 18)

/-- The mirror's Leash word set (R174). -/
def State.leashShown (s : State) (t : Nat) (r : TclRep) : State := s.wr (mt t Reg.Tile.LEASH_STAT) r.leashWord

theorem State.mirReply_reported (s : State) (t : Nat) (r : TclRep) : Reported (replyReg []) t (s.leashShown t r) (s.mirReply t r) := by
  unfold State.mirReply
  extract_lets s1 s2
  have hs2 : Reported (replyReg []) t s1 s2 := (Reported.refl _ t s1).onlyIf fun _ => .setTc _ t s1 rfl
  refine hs2.each fun n _ v => .writes (q := mirrorReg [Reg.Chan.CH_STAT] []) ?_ (fun _ => replyReg_mirror (fun _ h => h) (fun _ h => h))
    ((mirrorReg_tile t (by decide)).trans (by decide))
  exact v.putChStat_writes (mirrorReg_chanFlags _ _ n) ((mirrorReg_chan n (by decide)).trans (by decide)) _

theorem State.leashShown_reported (s : State) (t : Nat) (r : TclRep) :
    Reported (replyReg [Reg.Tile.LEASH_STAT]) t s (s.leashShown t r) :=
  .wr s _ (replyReg_mirror (cs := []) (by simp) (fun _ h => h) ((mirrorReg_tile t (by decide)).trans (by decide)))
    (mt_ne t (by decide))

theorem replyReg_mono {ts ts' : List Nat} (hs : ts ⊆ ts') {k : Nat} (hk : replyReg ts k = true) : replyReg ts' k = true := by
  rw [replyReg, Bool.or_eq_true] at hk
  exact hk.elim (replyReg_mirror (fun _ h => h) hs) replyReg_elsewhere

end

/-! ## A matched reply -/

section
variable {s : State} {t : Nat} {r : TclRep} {e : TcEntry}

/-- Tile control with the request `e` over (R173). -/
def State.requestOver (s : State) (t : Nat) (e : TcEntry) : State :=
  s.setTc t { s.tc t with sent := (s.tc t).sent.erase e, timeouts := 0 }

/-- The state a matched reply hands to its own effect. -/
def State.answered (s : State) (t : Nat) (r : TclRep) (e : TcEntry) : State :=
  (((s.report t r).requestOver t e).onlyIf ((e.req.src == 1 || e.req.src == 2) && r.holder != e.req.src)
    (·.leashLost t (halfOf (e.req.src - 1)))).mirReply t r

/-- From the end of the request to the reply's own effect. -/
theorem State.answered_reported (ht : t < 8) (s : State) (r : TclRep) (e : TcEntry) :
    Reported (replyReg [Reg.Tile.TILE_STAT, Reg.Tile.LEASH_STAT]) t ((s.report t r).requestOver t e) (s.answered t r e) := by
  have shown (x : State) : Reported (replyReg [Reg.Tile.TILE_STAT, Reg.Tile.LEASH_STAT]) t x (x.mirReply t r) :=
    ((x.leashShown_reported t r).mono fun _ => replyReg_mono (by simp)).trans
      ((x.mirReply_reported t r).mono fun _ => replyReg_mono (by simp))
  exact ((Reported.refl _ t _).onlyIf fun _ => .leashLost (reportsIn_reply ht (by simp)).flags _ _).trans (shown _)

variable (ht : t < 8)
include ht

theorem State.report_match (s : State) (r : TclRep) : ((s.report t r).tc t).match? r = (s.tc t).match? r := by
  have hp : ReportsIn (replyReg [Reg.Tile.TILE_STAT]) t := reportsIn_reply ht (by simp)
  exact ((s.linked_reported hp).trans (s.report_reported hp ht r)).part (·.match? r) fun _ => rfl

theorem State.report_link (s : State) (r : TclRep) : (s.report t r).linkUp t = true :=
  (s.report_reported (reportsIn_reply ht (List.mem_singleton.2 rfl)) ht r).link (s.linked_link t)

theorem tcReply_matched (h : (s.tc t).match? r = some e) (k : State → TcEntry → State) :
    s.tcReply t r k = (k (s.answered t r e) e).pump t := by
  rw [State.tcReply, State.report_match ht, h]
  rfl

theorem State.answered_regs (s : State) (r : TclRep) (e : TcEntry) :
    RegsBut (replyReg [Reg.Tile.TILE_STAT, Reg.Tile.LEASH_STAT]) s (s.answered t r e) := by
  have ended : RegsBut (replyReg [Reg.Tile.TILE_STAT, Reg.Tile.LEASH_STAT]) (s.report t r) ((s.report t r).requestOver t e) :=
    fun _ _ => rfl
  exact ((s.report_regs (reportsIn_reply ht (by simp)) ht r).trans ended).trans (s.answered_reported ht r e).regs

/-- The tile's Leash shown in the mirror, the link up, and no reply missing in a row (R173, R174). -/
def State.Mirrored (u : State) (t : Nat) (r : TclRep) : Prop :=
  u.rd (mt t Reg.Tile.LEASH_STAT) = r.leashWord ∧ u.linkUp t = true ∧ (u.tc t).timeouts = 0

theorem State.answered_mirrored (s : State) (r : TclRep) (e : TcEntry) : (s.answered t r e).Mirrored t r := by
  have after := s.answered_reported ht r e
  refine ⟨?_, after.link (s.report_link ht r), ?_⟩
  · refine ((State.mirReply_reported _ t r).regs _ ((replyReg_mt ht (by decide)).trans (by decide))).trans ?_
    exact State.rd_wr_same _ _ _
  · rw [after.part TileCtl.timeouts fun _ => rfl, State.requestOver, State.tc_setTc_same]

end

end Sys2Proof.Machine
end

section
/-! PROOFS. O29: what replies and missing replies do to tile control (R134, R173 to R175, R177, R182, R186, R216). -/

namespace Sys2Proof.Machine

/-! ## What stands -/

/-- The mirror's Leash, the link and the count of replies missing in a row stand. -/
structure LinkStands (t : Nat) (s u : State) : Prop where
  leash : u.rd (mt t Reg.Tile.LEASH_STAT) = s.rd (mt t Reg.Tile.LEASH_STAT)
  link : u.linkUp t = s.linkUp t
  timeouts : (u.tc t).timeouts = (s.tc t).timeouts

section
variable {t : Nat} {s u v : State} {p : Nat → Bool}

theorem LinkStands.refl (t : Nat) (s : State) : LinkStands t s s := ⟨rfl, rfl, rfl⟩

theorem LinkStands.trans (h : LinkStands t s u) (h' : LinkStands t u v) : LinkStands t s v :=
  ⟨h'.leash.trans h.leash, h'.link.trans h.link, h'.timeouts.trans h.timeouts⟩

theorem LinkStands.regs (h : RegsBut p s u) (hl : p (mt t Reg.Tile.LEASH_STAT) = false) (hs : p (mt t Reg.Tile.TILE_STAT) = false)
    (ht : (u.tc t).timeouts = (s.tc t).timeouts) : LinkStands t s u := ⟨h _ hl, congrArg (bitOf · 0) (h _ hs), ht⟩

theorem Writes.tcs (h : Writes p s u) : u.tcs = s.tcs := by rw [h.2]

theorem Writes.tc (h : Writes p s u) (t : Nat) : u.tc t = s.tc t := by rw [State.tc, h.tcs, State.tc]

theorem LinkStands.writes (h : Writes p s u) (hl : p (mt t Reg.Tile.LEASH_STAT) = false) (hs : p (mt t Reg.Tile.TILE_STAT) = false) :
    LinkStands t s u := .regs h.1 hl hs (by rw [h.tc])

theorem LinkStands.queues (ht : t < 8) (h : Queues s u) : LinkStands t s u :=
  .regs (p := counterReg) h.regs (counterReg_of_elsewhere (elsewhere_mt ht (by decide)))
    (counterReg_of_elsewhere (elsewhere_mt ht (by decide))) ((h.tc t).part TileCtl.timeouts fun _ => rfl)

theorem LinkStands.each {α : Type} {l : List α} {f : State → α → State} (h : LinkStands t s u)
    (hf : ∀ x ∈ l, ∀ v, LinkStands t v (f v x)) : LinkStands t s (u.each l f) :=
  State.each_ind h fun x hx v hv => hv.trans (hf x hx v)

/-- Fields of TILE_STAT above LINK_UP. -/
theorem LinkStands.setStat (t : Nat) (s : State) {lo w : Nat} (hlo : 0 < lo) (hw : lo + w ≤ 32) (x : Nat) :
    LinkStands t s (s.setFld (mt t Reg.Tile.TILE_STAT) lo w x) where
  leash := s.rd_wr_ne _ _ _ (by simp [mt, Reg.Tile.TILE_STAT, Reg.Tile.LEASH_STAT])
  link := congrArg (· == 1) (s.fld_setFld_apart _ _ hw (by omega))
  timeouts := rfl

theorem LinkStands.mirror {cs ts : List Nat} (h : Writes (mirrorReg cs ts) s u) (hl : Reg.Tile.LEASH_STAT ∉ ts)
    (hs : Reg.Tile.TILE_STAT ∉ ts) : LinkStands t s u := by
  refine .writes h ?_ ?_ <;> rw [mirrorReg_tile t (by decide), Bool.eq_false_iff, Ne, List.contains_iff_mem, List.mem_append, not_or]
  · exact ⟨by decide, hl⟩
  · exact ⟨by decide, hs⟩

theorem LinkStands.wr (t : Nat) (s : State) {k : Nat} (x : Word) (hl : k ≠ mt t Reg.Tile.LEASH_STAT)
    (hs : k ≠ mt t Reg.Tile.TILE_STAT) : LinkStands t s (s.wr k x) :=
  .writes (s.wr_writes k x) (beq_false_of_ne hl.symm) (beq_false_of_ne hs.symm)

theorem State.Mirrored.stands {r : TclRep} (h : s.Mirrored t r) (hs : LinkStands t s u) : u.Mirrored t r := by
  obtain ⟨leash, link, timeouts⟩ := h
  exact ⟨hs.leash.trans leash, hs.link.trans link, hs.timeouts.trans timeouts⟩

theorem State.pump_stands (ht : t < 8) (s : State) : LinkStands t s (s.pump t) := .queues ht (s.pump_queues t)

/-- A register of the tile pages stands while requests go out. -/
theorem State.pump_rd (s : State) (t : Nat) {k : Nat} (hk : elsewhere k = false) : (s.pump t).rd k = s.rd k :=
  s.pump_regsStand t k (counterReg_of_elsewhere hk)

theorem State.pump_resp (s : State) (t : Nat) : (s.pump t).resp = s.resp := by rw [(s.pump_queues t).frame]

end

/-! ## The value entered into the mirror -/

section
variable {t : Nat} (s : State)

theorem State.ioChan_stands (n : Nat) : LinkStands t s (s.ioChan n) :=
  .mirror (cs := [Reg.Chan.CH_STAT]) (ts := [])
    (s.putChStat_writes (mirrorReg_chanFlags _ _ n) ((mirrorReg_chan n (by decide)).trans (by decide)) _) (by decide) (by decide)

theorem State.putChStat_stands (n : Nat) (v : Word) : LinkStands t s (s.putChStat n v) :=
  .mirror (cs := [Reg.Chan.CH_STAT]) (ts := [])
    (s.putChStat_writes (mirrorReg_chanFlags _ _ n) ((mirrorReg_chan n (by decide)).trans (by decide)) v) (by decide) (by decide)

/-- What follows a channel's register in the mirror. -/
theorem State.enterChan_writes (n off : Nat) (v : Word) :
    Writes (mirrorReg [Reg.Chan.CH_STAT] [Reg.Tile.FAULT_STAT, Reg.Tile.LATCH_SUM]) (s.wr (mc n off) v) (s.enterChan n off v) :=
  ((State.protIrqs_writes _ (mirrorReg_flags _ _ (chanBase_mod n)) s).trans
    (State.reSrc_writes _ (mirrorReg_chanFlags _ _ n) ((mirrorReg_chan n (by decide)).trans (by decide)))).trans
    (State.mirFaults_writes _ ((mirrorReg_tile _ (by decide)).trans (by decide)) ((mirrorReg_tile _ (by decide)).trans (by decide)))

theorem mc_ne_mt (t unit off : Nat) {o : Nat} (ho : o < 0x1000) : mc (16 * t + unit) off ≠ mt t o := by
  unfold mc chanBase mt tileBase
  omega

theorem State.enter?_stands (unit off : Nat) (v : Word) : LinkStands t s (s.enter? t unit off v) := by
  have tile {o : Nat} (h : o ≠ Reg.Tile.LEASH_STAT) (h' : o ≠ Reg.Tile.TILE_STAT) : LinkStands t s (s.wr (mt t o) v) :=
    .wr t s v (by unfold mt; omega) (by unfold mt; omega)
  have chan (o : Nat) (x : Word) : LinkStands t s (s.wr (mc (16 * t + unit) o) x) :=
    .wr t s x (mc_ne_mt t unit o (by decide)) (mc_ne_mt t unit o (by decide))
  unfold State.enter?
  split
  · split
    · exact tile (by decide) (by decide)
    split
    · exact .setStat t s (by decide) (by decide) _
    split
    · exact .refl t s
    split
    · next _ hstat hleash _ => exact (tile hleash hstat).each fun n _ x => x.ioChan_stands n
    · next _ hstat hleash _ => exact tile hleash hstat
  · split
    · exact (chan _ _).trans (State.ioChan_stands _ _)
    split
    · exact .refl t s
    split
    · exact s.putChStat_stands _ v
    · exact (chan _ v).trans (.mirror (s.enterChan_writes _ _ v) (by decide) (by decide))

theorem State.polSync_stands : LinkStands t s (s.polSync t) := by
  have sync (n : Nat) (u : State) : LinkStands t u (u.syncChan n) := by
    refine .mirror (cs := [Reg.Chan.CH_POL_ACT]) (ts := []) ?_ (by decide) (by decide)
    exact ((Writes.refl _ u).wr ((mirrorReg_chan n (by decide)).trans (by decide)) _).onlyIf fun _ =>
      State.raise_flags _ (mirrorReg_flags _ _ (chanBase_mod n)) 17
  exact ((LinkStands.refl t s).each fun n _ u => sync n u).trans (.setStat t _ (by decide) (by decide) _)

/-- The mirror with a value entered and the copies' SYNC. -/
def State.entered (s : State) (t : Nat) (e : TcEntry) (v : Word) : State := (s.enter? t e.req.unit (regOff e.req.reg) v).polSync t

theorem State.entered_stands (e : TcEntry) (v : Word) : LinkStands t s (s.entered t e v) :=
  (s.enter?_stands _ _ v).trans (State.polSync_stands _)

theorem State.entered_config {e : TcEntry} (hu : e.req.unit < 16) (hreg : regOff e.req.reg = Reg.Chan.CH_CFG) (v : Word) :
    (s.entered t e v).rd (mc (16 * t + e.req.unit) Reg.Chan.CH_CFG) = v := by
  have eq : s.enter? t e.req.unit (regOff e.req.reg) v = s.enterChan (16 * t + e.req.unit) Reg.Chan.CH_CFG v := by
    rw [hreg]
    exact if_neg (by omega)
  rw [State.entered, eq, (State.polSync_writes _ t).1 _ ((mirrorReg_chan _ (by decide)).trans (by decide)),
    (s.enterChan_writes _ _ v).1 _ ((mirrorReg_chan _ (by decide)).trans (by decide)), State.rd_wr_same]

end

end Sys2Proof.Machine
end

section
/-! PROOFS. O29: the effects of a claim accepted, of a read served, of a refusal and of a reply that does not come (R134, R173 to
R175, R177, R182, R186, R216). -/

namespace Sys2Proof.Machine

/-! ## The image adopted (R134, R135) -/

/-- Registers on the tile and channel pages stand, and tile control's records. -/
def Far (s u : State) : Prop := RegsBut elsewhere s u ∧ u.tcs = s.tcs

section
variable {s u v : State}

theorem Far.refl (s : State) : Far s s := ⟨.refl _ s, rfl⟩

theorem Far.trans (h : Far s u) (h' : Far u v) : Far s v := ⟨RegsBut.trans h.1 h'.1, h'.2.trans h.2⟩

theorem Far.each {α : Type} {l : List α} {f : State → α → State} (h : Far s u) (hf : ∀ x ∈ l, ∀ v, Far v (f v x)) :
    Far s (u.each l f) := State.each_ind h fun x hx v hv => hv.trans (hf x hx v)

theorem Far.onlyIf (h : Far s u) {c : Bool} {f : State → State} (hf : Far u (f u)) : Far s (u.onlyIf c f) :=
  State.onlyIf_ind h fun _ => h.trans hf

theorem Far.writes {p : Nat → Bool} (h : Writes p s u) (hp : ∀ k, p k = true → elsewhere k = true) : Far s u :=
  ⟨RegsBut.mono h.1 hp, h.tcs⟩

/-- A change of the registers of `drivenReg` only. -/
theorem Far.drives (h : Drives s u) (htc : u.tcs = s.tcs) : Far s u :=
  ⟨fun k hk => h k (Bool.eq_false_iff.2 fun hd => absurd ((elsewhere_driven hd).symm.trans hk) (by decide)), htc⟩

theorem State.ev_tcs (s : State) (code inst : Nat) : (s.ev code inst).tcs = s.tcs := (s.ev_writes code inst).tcs

theorem State.slip_tcs (s : State) : s.slip.tcs = s.tcs :=
  (State.ev_tcs _ _ _).trans ((State.raise_writes _ _ _).tcs.trans (s.count_writes _).tcs)

/-- An edge the tile refuses is counted (R134). -/
def State.stayEdge (s : State) : State := ((s.count (hrnBase + Reg.Hrn.STAY_EDGES)).raise hrnBase 19).ev 0xC4 0

theorem State.stayEdge_tcs (s : State) : s.stayEdge.tcs = s.tcs := by
  rw [State.stayEdge, State.ev_tcs, (State.raise_writes _ _ _).tcs, (s.count_writes _).tcs]

theorem State.emitLine_tcs (s : State) (n : Nat) (lv : Bool) (t16 : Nat) : (s.emitLine n lv t16).tcs = s.tcs := by
  let x : State := { s with lineLast := Tbl.set 0 s.lineLast n (t16 + 1), inFlight := s.inFlight ++ [(n, lv)] }
  let y := (x.emit (.inLine n lv t16)).ev 0xD8 (n / 16)
  have sent : y.tcs = s.tcs := State.ev_tcs _ _ _
  have eq : s.emitLine n lv t16 = y.onlyIf (y.leashState (n / 16) != 1) State.stayEdge := rfl
  rw [eq]
  exact State.onlyIf_ind (P := fun u : State => u.tcs = s.tcs) sent fun _ => y.stayEdge_tcs.trans sent

theorem State.putLine_far (s : State) (n : Nat) (lv : Bool) (inst : Nat) : Far s (s.putLine n lv inst) := by
  refine .drives (s.putLine_drives n lv inst) ?_
  unfold State.putLine
  split
  · rfl
  · extract_lets last x
    split
    · exact (State.slip_tcs _).trans (State.emitLine_tcs _ _ _ _)
    · exact State.emitLine_tcs _ _ _ _

theorem State.setAdc_tcs (s : State) (c : Nat) (a : Adc) : (s.setAdc c a).tcs = s.tcs := rfl

theorem State.capStart_tcs (s : State) (c t0 : Nat) : (s.capStart c t0).tcs = s.tcs := by
  unfold State.capStart
  extract_lets a st s1 s2 s3
  have h2 : Writes (fun _ => true) s s2 := ((((Writes.refl _ s).wr rfl _).wr rfl _).wr rfl _).wr rfl _
  have h3 : s3.tcs = s.tcs := (s2.setAdc_tcs c _).trans h2.tcs
  refine State.each_ind (P := fun u : State => u.tcs = s.tcs) h3 fun h _ u hu => ?_
  refine (State.setAdc_tcs _ _ _).trans ?_
  exact (State.onlyIf_ind (P := fun x : State => x.tcs = u.tcs) rfl fun _ => u.slip_tcs).trans hu

theorem State.setLevel_far (s : State) {n : Nat} (hn : n < 128) (lv : Bool) (inst : Nat) : Far s (s.setLevel n lv inst) := by
  have image : Far s (s.setBit (hrnBase + Reg.Hrn.LEVEL + 4 * (n / 32)) (n % 32) lv) := by
    refine .writes (s.wr_writes _ _) fun k hk => ?_
    rw [beq_iff_eq.1 hk, elsewhere, decide_eq_true_eq]
    unfold hrnBase Reg.Hrn.LEVEL
    omega
  refine image.onlyIf (.drives (State.capEdge_drives _ hn inst) ?_)
  unfold State.capEdge
  extract_lets c
  split
  · exact State.capStart_tcs _ _ _
  · rfl

/-- The image of tile t adopted (R135). -/
theorem State.adoptImage_spec {t : Nat} (ht : t < 8) (s : State) (out : Nat) :
    RegsBut elsewhere s (s.adoptImage t out) ∧ (s.adoptImage t out).tc t = { s.tc t with adopted := true } := by
  have lt {n : Nat} (hn : n ∈ tileChans t) : n < 128 := by
    obtain ⟨c, hc, rfl⟩ := List.mem_map.1 hn
    rw [List.mem_range] at hc
    omega
  unfold State.adoptImage
  extract_lets s1
  have put : Far s1 (s1.each (tileChans t) fun s n => s.putLine n (s.level n) s.tb0.nsTotal) :=
    (Far.refl s1).each fun n _ v => v.putLine_far n _ _
  have adopted : RegsBut elsewhere s s1 ∧ s1.tc t = { s.tc t with adopted := true } := by
    by_cases ha : (s.tc t).adopted = true
    · have same : s1 = s := by
        unfold s1 State.onlyIf
        rw [ha]
        rfl
      rw [same]
      exact ⟨.refl _ s, by rw [← ha]⟩
    · let u := s.each (tileChans t) fun s n => s.setLevel n (out.testBit (n % 16)) s.tb0.nsTotal
      have imaged : Far s u := (Far.refl s).each fun n hn v => v.setLevel_far (lt hn) _ _
      have same : s1 = u.setTc t { u.tc t with adopted := true } := by
        unfold s1 State.onlyIf
        rw [Bool.eq_false_iff.2 ha]
        rfl
      rw [same, State.tc_setTc_same, State.tc, imaged.2]
      exact ⟨imaged.1, rfl⟩
  refine ⟨RegsBut.trans adopted.1 put.1, ?_⟩
  rw [State.tc, put.2]
  exact adopted.2

theorem State.copyPolicies_queues (s : State) (t : Nat) (m : Master) : Queues s (s.copyPolicies t m) :=
  State.each_ind (P := Queues s) (State.rwOwn_queues _ _ _ _) fun _ _ _ hu => hu.trans (State.rwOwn_queues _ _ _ _)

/-! ## A claim accepted -/

/-- Tile control's record with the half's own claim number (R174). -/
def TileCtl.claimed (c : TileCtl) (src claim : Nat) : TileCtl := if src = 1 then { c with claimA := claim } else { c with claimB := claim }

theorem TileCtl.claimed_spec (c : TileCtl) {src claim : Nat} (hs : src = 1 ∨ src = 2) (h : Half) (b : Bool) :
    ((c.claimed src claim).setAgent h b).claimOf src = claim ∧ ((c.claimed src claim).setAgent h b).timeouts = c.timeouts := by
  rcases hs with rfl | rfl <;> cases h <;> exact ⟨rfl, rfl⟩

theorem claimDone_spec {t : Nat} (ht : t < 8) (s : State) {e : TcEntry} (r : TclRep) (hw : e.why = .agent)
    (hs : e.req.src = 1 ∨ e.req.src = 2) :
    LinkStands t s (s.claimDone t e r) ∧ ((s.claimDone t e r).tc t).claimOf e.req.src = e.req.claim ∧
      (s.claimDone t e r).bit (tileBase t + Reg.Hdr.IRQ_RAW) 16 = true ∧ ((s.claimDone t e r).tc t).adopted = true := by
  let h := halfOf (e.req.src - 1)
  let c := ((s.tc t).claimed e.req.src e.req.claim).setAgent h (s.role h == roleActive && s.running h)
  let x := (s.setTc t c).raise (tileBase t) 16
  let y := x.adoptImage t r.out
  have eq : s.claimDone t e r = y.onlyIf ((s.setTc t c).role h == roleActive) (·.copyPolicies t (.half h)) := by
    unfold State.claimDone
    rw [hw]
    rfl
  obtain ⟨claim, timeouts⟩ := (s.tc t).claimed_spec (claim := e.req.claim) hs h (s.role h == roleActive && s.running h)
  have raised := (s.setTc t c).raise_writes (tileBase t) 16
  have hx : x.tc t = c := (raised.tc t).trans (s.tc_setTc_same t c)
  obtain ⟨regs, tc⟩ := x.adoptImage_spec ht r.out
  have copied : Queues y (s.claimDone t e r) := eq ▸ State.onlyIf_ind (P := Queues y) (.refl y) fun _ => y.copyPolicies_queues t _
  have moves := copied.tc t
  have hy : y.tc t = { c with adopted := true } := tc.trans (by rw [hx])
  have flag {k : Nat} (hk : elsewhere k = false) : (s.claimDone t e r).rd k = x.rd k :=
    (copied.regs k (counterReg_of_elsewhere hk)).trans (regs k hk)
  have outside {o : Nat} (ho : o < 0x1000) : elsewhere (tileBase t + o) = false := elsewhere_mt ht ho
  have ne {o : Nat} (ho : o ≠ Reg.Hdr.IRQ_RAW) : mt t o ≠ tileBase t + Reg.Hdr.IRQ_RAW := by
    unfold mt
    omega
  have before {o : Nat} (ho : o < 0x1000) (hne : o ≠ Reg.Hdr.IRQ_RAW) : (s.claimDone t e r).rd (mt t o) = s.rd (mt t o) :=
    (flag (outside ho)).trans (raised.1 _ (beq_false_of_ne (ne hne)))
  refine ⟨⟨before (by decide) (by decide), congrArg (bitOf · 0) (before (by decide) (by decide)), ?_⟩, ?_, ?_, ?_⟩
  · rw [moves.part TileCtl.timeouts fun _ => rfl, hy]
    exact timeouts
  · rw [moves.claimOf, hy]
    exact claim
  · rw [State.bit, flag (outside (by decide))]
    exact State.bit_raise _ _ (by decide)
  · rw [moves.part TileCtl.adopted fun _ => rfl, hy]

end

end Sys2Proof.Machine
end

section
/-! PROOFS. O29: the statement (R173 to R175, R177, R216). -/

namespace Sys2Proof.Machine

/-! ## A read served (R175) -/

section
variable {t : Nat} (s : State)

theorem State.serveEnds_data (acc : Access) (addr : Nat) (again : Bool) (d : Word) :
    (s.serveEnds t acc addr again (.data d)).regs = s.regs ∧ (s.serveEnds t acc addr again (.data d)).tcs = s.tcs ∧
      (again = false → (s.serveEnds t acc addr again (.data d)).resp = .data d) ∧
      (again = true → s.mirrorValid t = false → (acc, addr, .data d) ∈ (s.serveEnds t acc addr again (.data d)).served) := by
  cases again with
  | false => exact ⟨rfl, rfl, fun _ => rfl, fun h => absurd h (by decide)⟩
  | true =>
    cases hv : s.mirrorValid t with
    | true =>
      have eq : s.serveEnds t acc addr true (.data d) = s := if_pos hv
      rw [eq]
      exact ⟨rfl, rfl, fun h => absurd h (by decide), fun _ h => absurd h (by decide)⟩
    | false =>
      have eq : s.serveEnds t acc addr true (.data d) = { s with served := s.served ++ [(acc, addr, .data d)] } := by
        rw [State.serveEnds, if_neg (by decide), if_neg (by simp [hv])]
      rw [eq]
      exact ⟨rfl, rfl, fun h => absurd h (by decide), fun _ _ => by simp⟩

end

/-! ## A request refused or timed out (R177) -/

section
variable {t : Nat} (s : State) (e : TcEntry) (reason : Nat)

/-- LAST_NACK as it records a request and the reason it ended with. -/
def nackWord (e : TcEntry) (reason : Nat) : Nat := reason + e.req.type % 16 * 2 ^ 4 + e.req.src % 4 * 2 ^ 8 + 2 ^ 31

/-- The end of a request recorded, counted and flagged. -/
def State.nackRecorded (s : State) (t : Nat) (e : TcEntry) (reason : Nat) : State :=
  ((s.wrN (mt t Reg.Tile.LAST_NACK) (nackWord e reason)).count (mt t Reg.Tile.NACK_CNT)).raise (tileBase t) 21

theorem tcFail_master (hw : e.why = .master) : s.tcFail t e reason = s.nackRecorded t e reason := by
  rw [State.tcFail, hw]
  rfl

theorem State.nackRecorded_writes :
    Writes (mirrorReg [] [Reg.Tile.LAST_NACK, Reg.Tile.NACK_CNT]) s (s.nackRecorded t e reason) := by
  have key {o : Nat} (ho : o < 0x1000) (h : o ∈ [Reg.Tile.LAST_NACK, Reg.Tile.NACK_CNT]) :
      mirrorReg [] [Reg.Tile.LAST_NACK, Reg.Tile.NACK_CNT] (mt t o) = true := by
    rw [mirrorReg_tile t ho, List.contains_iff_mem]
    exact List.mem_append_right _ h
  exact (((Writes.refl _ s).wr (key (by decide) (by simp)) _).trans ((State.count_writes _ _).mono fun k hk => by
    rw [beq_iff_eq.1 hk]
    exact key (by decide) (by simp))).trans (State.raise_flags _ (mirrorReg_flags _ _ (tileBase_mod t)) 21)

theorem State.nackRecorded_spec (hr : reason < 16) :
    (s.nackRecorded t e reason).rdN (mt t Reg.Tile.LAST_NACK) = nackWord e reason ∧
      (s.nackRecorded t e reason).rdN (mt t Reg.Tile.NACK_CNT) = min 0xFFFFFFFF (s.rdN (mt t Reg.Tile.NACK_CNT) + 1) ∧
      (s.nackRecorded t e reason).bit (tileBase t + Reg.Hdr.IRQ_RAW) 21 = true := by
  let x := s.wrN (mt t Reg.Tile.LAST_NACK) (nackWord e reason)
  have raised := (x.count (mt t Reg.Tile.NACK_CNT)).raise_writes (tileBase t) 21
  have ne {o : Nat} (ho : o ≠ Reg.Hdr.IRQ_RAW) : (mt t o == tileBase t + Reg.Hdr.IRQ_RAW) = false :=
    beq_false_of_ne (mt_ne t ho)
  refine ⟨?_, ?_, State.bit_raise _ _ (by decide)⟩
  · have last : (s.nackRecorded t e reason).rd (mt t Reg.Tile.LAST_NACK) = word (nackWord e reason) :=
      (raised.1 _ (ne (by decide))).trans ((x.count_ne _ _ (mt_ne t (by decide))).trans (s.rd_wr_same _ _))
    rw [State.rdN, last, word, BitVec.toNat_ofNat]
    refine Nat.mod_eq_of_lt ?_
    unfold nackWord
    omega
  · have counted : (s.nackRecorded t e reason).rdN (mt t Reg.Tile.NACK_CNT) = (x.count (mt t Reg.Tile.NACK_CNT)).rdN (mt t Reg.Tile.NACK_CNT) :=
      congrArg BitVec.toNat (raised.1 _ (ne (by decide)))
    have before : x.rdN (mt t Reg.Tile.NACK_CNT) = s.rdN (mt t Reg.Tile.NACK_CNT) :=
      congrArg BitVec.toNat (s.rd_wr_ne _ _ _ (mt_ne t (by decide)))
    rw [counted, State.rdN_count, before]

theorem State.nackRecorded_stands : LinkStands t s (s.nackRecorded t e reason) :=
  .mirror (s.nackRecorded_writes e reason) (by decide) (by decide)

end

/-! ## The four replies -/

section
variable {s : State} {t : Nat} {r : TclRep} {e : TcEntry} (ht : t < 8) (hm : (s.tc t).match? r = some e)
include ht hm

theorem replyStatus_claimed (hr : r.type = 9) (hs : e.req.src = 1 ∨ e.req.src = 2) (he : e.req.type = 2 ∨ e.req.type = 3)
    (hw : e.why = .agent) :
    (replyStatus t r s).Mirrored t r ∧ ((replyStatus t r s).tc t).claimOf e.req.src = e.req.claim ∧
      (replyStatus t r s).bit (tileBase t + Reg.Hdr.IRQ_RAW) 16 = true ∧ ((replyStatus t r s).tc t).adopted = true := by
  let x := (s.answered t r e).claimDone t e r
  have eq : replyStatus t r s = x.pump t := by
    rw [replyStatus, show ({ r with type := 9 } : TclRep) = r by rw [← hr], tcReply_matched ht hm, if_pos he]
  obtain ⟨stands, claim, flag, adopted⟩ := claimDone_spec ht (s.answered t r e) r hw hs
  have moves := (x.pump_queues t).tc t
  rw [eq]
  refine ⟨((s.answered_mirrored ht r e).stands stands).stands (x.pump_stands ht), (moves.claimOf _).trans claim, ?_,
    (moves.part TileCtl.adopted fun _ => rfl).trans adopted⟩
  exact (congrArg (bitOf · 16) (x.pump_rd t (elsewhere_mt ht (by decide)))).trans flag

theorem replyAck_eq (hr : r.type = 10) :
    replyAck t r s = ((match e.why with
      | .clear n => (((s.answered t r e).entered t e r.data).setBusy (chanBase n) false).cmdResult (chanBase n)
          (if bitOf r.data 1 then .done else .refused)
      | _ => (s.answered t r e).entered t e r.data) : State).pump t := by
  rw [replyAck, show ({ r with type := 10 } : TclRep) = r by rw [← hr], tcReply_matched ht hm]
  rfl

theorem replyAck_config (hr : r.type = 10) (hu : e.req.unit < 16) (hreg : regOff e.req.reg = Reg.Chan.CH_CFG) (hw : e.why = .master) :
    (replyAck t r s).Mirrored t r ∧ (replyAck t r s).rd (mc (16 * t + e.req.unit) Reg.Chan.CH_CFG) = r.data := by
  let x := (s.answered t r e).entered t e r.data
  have eq : replyAck t r s = x.pump t := by rw [replyAck_eq ht hm hr, hw]
  rw [eq]
  refine ⟨((s.answered_mirrored ht r e).stands (State.entered_stands _ e r.data)).stands (x.pump_stands ht), ?_⟩
  rw [x.pump_rd t (elsewhere_mc (by omega) (by decide))]
  exact (s.answered t r e).entered_config hu hreg r.data

theorem replyAck_cleared {n : Nat} (hr : r.type = 10) (hn : n / 16 = t) (hw : e.why = .clear n) :
    (replyAck t r s).Mirrored t r ∧ (replyAck t r s).busy (chanBase n) = false ∧
      (replyAck t r s).fld (chanBase n + Reg.Hdr.UNIT_STAT) 7 3 =
        (if bitOf r.data 1 then CmdResult.done.code else CmdResult.refused.code) := by
  let x := (s.answered t r e).entered t e r.data
  let y := x.setBusy (chanBase n) false
  let z := y.cmdResult (chanBase n) (if bitOf r.data 1 then .done else .refused)
  have eq : replyAck t r s = z.pump t := by rw [replyAck_eq ht hm hr, hw]
  have flags : Writes (mirrorReg [] []) x z := by
    have key {o : Nat} (ho : o ∈ flagPlaces) : mirrorReg [] [] (chanBase n + o) = true := mirrorReg_flag (chanBase_mod n) ho
    refine ((Writes.refl _ x).wr (key (by decide)) _).trans ((y.cmdResult_writes _ _).mono fun k hk => ?_)
    rw [Bool.or_eq_true, beq_iff_eq, beq_iff_eq] at hk
    rcases hk with rfl | rfl
    · exact key (by decide)
    · exact key (by decide)
  have stat : (z.pump t).rd (chanBase n + Reg.Hdr.UNIT_STAT) = z.rd (chanBase n + Reg.Hdr.UNIT_STAT) :=
    z.pump_rd t (elsewhere_mc (n := n) (by omega) (by decide))
  have stands : LinkStands t x z := .mirror flags (by simp) (by simp)
  rw [eq]
  refine ⟨(((s.answered_mirrored ht r e).stands (State.entered_stands _ e r.data)).stands stands).stands (z.pump_stands ht), ?_, ?_⟩
  · rw [State.busy, State.bit, stat]
    exact (y.cmdResult_busy _ _).trans (x.setBusy_busy _ false)
  · rw [State.fld, stat, ← apply_ite CmdResult.code]
    exact y.cmdResult_code _ _

theorem replyData_served {acc : Access} {addr : Nat} {again : Bool} (hr : r.type = 11) (hw : e.why = .serve acc addr again) :
    let u := replyData t r s
    let d := if e.req.unit < 16 ∧ regOff e.req.reg = Reg.Chan.CH_POL_ACT
      then u.rd (mc (16 * t + e.req.unit) Reg.Chan.CH_POL_ACT) else r.data
    u.Mirrored t r ∧ (again = false → u.resp = .data d) ∧
      (again = true → u.mirrorValid t = false → (acc, addr, .data d) ∈ u.served) := by
  let x := (s.answered t r e).entered t e r.data
  let d := x.servedWord t e r
  let y := x.serveEnds t acc addr again (.data d)
  have eq : replyData t r s = y.pump t := by
    rw [replyData, show ({ r with type := 11 } : TclRep) = r by rw [← hr], tcReply_matched ht hm, hw]
    rfl
  obtain ⟨regs, tcs, now, later⟩ := x.serveEnds_data (t := t) acc addr again d
  have rd {k : Nat} (hk : elsewhere k = false) : (y.pump t).rd k = x.rd k := (y.pump_rd t hk).trans (State.rd_congr regs k)
  have stands : LinkStands t x y := .regs (p := fun _ => false) (fun k _ => State.rd_congr regs k) rfl rfl (by rw [State.tc, tcs, State.tc])
  have word : (if e.req.unit < 16 ∧ regOff e.req.reg = Reg.Chan.CH_POL_ACT
      then (y.pump t).rd (mc (16 * t + e.req.unit) Reg.Chan.CH_POL_ACT) else r.data) = d := by
    unfold d State.servedWord
    split
    · next h => exact rd (elsewhere_mc (by omega) (by decide))
    · rfl
  intro u
  rw [show u = y.pump t from eq, word]
  refine ⟨((s.answered_mirrored ht r e).stands (State.entered_stands _ e r.data)).stands (stands.trans (y.pump_stands ht)),
    fun h => (y.pump_resp t).trans (now h), fun h hv => ?_⟩
  have valid : x.mirrorValid t = false := (congrArg (bitOf · 1) (rd (elsewhere_mt ht (by decide)))).symm.trans hv
  rw [(y.pump_queues t).frame]
  exact later h valid

theorem replyNack_recorded (hr : r.type = 12) (hw : e.why = .master) (hreason : r.reason < 16) :
    (replyNack t r s).Mirrored t r ∧ (replyNack t r s).rdN (mt t Reg.Tile.LAST_NACK) = nackWord e r.reason ∧
      (replyNack t r s).rdN (mt t Reg.Tile.NACK_CNT) = min 0xFFFFFFFF (s.rdN (mt t Reg.Tile.NACK_CNT) + 1) ∧
      (replyNack t r s).bit (tileBase t + Reg.Hdr.IRQ_RAW) 21 = true := by
  let x := s.answered t r e
  let y := (x.onlyIf (r.reason == 1 && (e.req.src == 1 || e.req.src == 2)) (·.leashLost t (halfOf (e.req.src - 1)))).ev 0xD2 t
  let z := y.nackRecorded t e r.reason
  have eq : replyNack t r s = z.pump t := by
    rw [replyNack, show ({ r with type := 12 } : TclRep) = r by rw [← hr], tcReply_matched ht hm, tcFail_master _ _ _ hw]
  have reports : ReportsIn (replyReg [Reg.Tile.TILE_STAT]) t := reportsIn_reply ht (by simp)
  have lost : Reported (replyReg [Reg.Tile.TILE_STAT]) t x y :=
    ((Reported.refl _ t x).onlyIf fun _ => .leashLost reports.flags x _).trans (.ev reports ht _ _ t)
  have mirrored : y.Mirrored t r := by
    obtain ⟨leash, link, timeouts⟩ := s.answered_mirrored ht r e
    exact ⟨(lost.regs _ ((replyReg_mt ht (by decide)).trans (by decide))).trans leash, lost.link link,
      (lost.part TileCtl.timeouts fun _ => rfl).trans timeouts⟩
  have before : y.rdN (mt t Reg.Tile.NACK_CNT) = s.rdN (mt t Reg.Tile.NACK_CNT) :=
    congrArg BitVec.toNat ((lost.regs _ ((replyReg_mt ht (by decide)).trans (by decide))).trans
      (s.answered_regs ht r e _ ((replyReg_mt ht (by decide)).trans (by decide))))
  obtain ⟨last, count, flag⟩ := y.nackRecorded_spec (t := t) e r.reason hreason
  have rd {o : Nat} (ho : o < 0x1000) : (z.pump t).rd (mt t o) = z.rd (mt t o) := z.pump_rd t (elsewhere_mt ht ho)
  rw [eq]
  refine ⟨(mirrored.stands (y.nackRecorded_stands e r.reason)).stands (z.pump_stands ht), ?_, ?_, ?_⟩
  · exact (congrArg BitVec.toNat (rd (by decide))).trans last
  · rw [← before]
    exact (congrArg BitVec.toNat (rd (by decide))).trans count
  · exact (congrArg (bitOf · 21) (rd (o := Reg.Hdr.IRQ_RAW) (by decide))).trans flag

end

end Sys2Proof.Machine
end

section
/-! PROOFS. O29: a reply that does not come, and the statement (R173). -/

namespace Sys2Proof.Machine

/-- A reply that began and is not valid is counted. -/
def State.badCounted (s : State) (t : Nat) (began : Option (List Nat)) : State :=
  s.onlyIf began.isSome (·.countFld (mt t Reg.Tile.TCL_ERR) 0 16)

theorem State.badCounted_writes (s : State) (t : Nat) (began : Option (List Nat)) :
    Writes (· == mt t Reg.Tile.TCL_ERR) s (s.badCounted t began) := (Writes.refl _ s).onlyIf fun _ => s.countFld_writes _ _ _

section
variable {s : State} {t seq : Nat} {began : Option (List Nat)} {e : TcEntry}

theorem replyTimeout_unmatched (h : (s.tc t).sent.find? (fun e => e.req.seq == seq) = none) : replyTimeout t seq began s = s := by
  rw [replyTimeout, h]

variable (h : (s.tc t).sent.find? (fun e => e.req.seq == seq) = some e)
include h

theorem replyTimeout_valid (hg : began.any tclReplyGood = true) : replyTimeout t seq began s = s := by
  rw [replyTimeout, h]
  exact if_pos hg

/-- The entry sent once more (R173). -/
def TcEntry.again (e : TcEntry) : TcEntry := { e with tries := e.tries + 1 }

/-- Tile control with the attempt of `e` repeated. -/
def State.retried (s : State) (t : Nat) (began : Option (List Nat)) (e : TcEntry) : State :=
  ((s.badCounted t began).setTc t
    { s.tc t with sent := (s.tc t).sent.map (fun (x : TcEntry) => if x = e then x.again else x) }).emit (.tclReq t e.req.octets)

theorem replyTimeout_retries (hg : began.any tclReplyGood = false) (ht : e.tries < 2) :
    replyTimeout t seq began s = s.retried t began e := by
  rw [replyTimeout, h]
  exact (if_neg (by simp [hg])).trans (if_pos ht)

theorem replyTimeout_again (hg : began.any tclReplyGood = false) (ht : e.tries < 2) :
    let u := replyTimeout t seq began s
    u.out = .tclReq t e.req.octets :: s.out ∧ (u.tc t).timeouts = (s.tc t).timeouts ∧
      (∃ e' ∈ (u.tc t).sent, e'.req = e.req ∧ e'.tries = e.tries + 1) := by
  intro u
  have hu : u = s.retried t began e := replyTimeout_retries h hg ht
  have htc : u.tc t = { s.tc t with sent := (s.tc t).sent.map (fun (x : TcEntry) => if x = e then x.again else x) } := by
    rw [hu]
    exact State.tc_setTc_same _ _ _
  have hout : (s.badCounted t began).out = s.out := by rw [(s.badCounted_writes t began).2]
  refine ⟨?_, by rw [htc], e.again, ?_, rfl, rfl⟩
  · rw [hu, ← hout]
    rfl
  · rw [htc]
    exact List.mem_map.2 ⟨e, List.mem_of_find?_eq_some h, if_pos rfl⟩

/-- Tile control with `e` over for want of a reply. -/
def State.abandoned (s : State) (t : Nat) (began : Option (List Nat)) (e : TcEntry) : State :=
  (s.badCounted t began).setTc t { s.tc t with sent := (s.tc t).sent.erase e, timeouts := (s.tc t).timeouts + 1 }

/-- The timeout counted, and the request of a master over. -/
def State.timedOut (s : State) (t : Nat) (began : Option (List Nat)) (e : TcEntry) : State :=
  (((s.abandoned t began e).countFld (mt t Reg.Tile.TCL_ERR) 16 16).ev 0xD3 t).nackRecorded t e 0xF

theorem replyTimeout_ends (hg : began.any tclReplyGood = false) (ht : 2 ≤ e.tries) (hw : e.why = .master) :
    replyTimeout t seq began s =
      ((s.timedOut t began e).onlyIf (decide (3 ≤ ((s.timedOut t began e).tc t).timeouts) && (s.timedOut t began e).linkUp t)
        (·.tcLinkDown t)).pump t := by
  rw [replyTimeout, h]
  refine (if_neg (by simp [hg])).trans ((if_neg (by omega)).trans ?_)
  dsimp only
  rw [tcFail_master _ _ _ hw]
  rfl

omit h

theorem State.timedOut_stands (ht : t < 8) (s : State) (began : Option (List Nat)) (e : TcEntry) :
    (s.timedOut t began e).linkUp t = s.linkUp t ∧ ((s.timedOut t began e).tc t).timeouts = (s.tc t).timeouts + 1 ∧
      (s.timedOut t began e).reaction 33 = s.reaction 33 := by
  let x := (s.abandoned t began e).countFld (mt t Reg.Tile.TCL_ERR) 16 16
  have bad := s.badCounted_writes t began
  have counted : Writes (· == mt t Reg.Tile.TCL_ERR) (s.abandoned t began e) x := State.countFld_writes _ _ _ _
  have seen := x.ev_writes 0xD3 t
  have last := (x.ev 0xD3 t).nackRecorded_writes (t := t) e 0xF
  have rd {k : Nat} (hc : counterReg k = false) (he : k ≠ mt t Reg.Tile.TCL_ERR)
      (hm : mirrorReg [] [Reg.Tile.LAST_NACK, Reg.Tile.NACK_CNT] k = false) : (s.timedOut t began e).rd k = s.rd k :=
    (last.1 k hm).trans ((seen.1 k hc).trans ((counted.1 k (beq_false_of_ne he)).trans (bad.1 k (beq_false_of_ne he))))
  have tc : (s.timedOut t began e).tc t = (s.abandoned t began e).tc t := (last.tc t).trans ((seen.tc t).trans (counted.tc t))
  refine ⟨congrArg (bitOf · 0) (rd (counterReg_of_elsewhere (elsewhere_mt ht (by decide))) (mt_ne t (by decide))
    ((mirrorReg_tile t (by decide)).trans (by decide))), ?_, congrArg (bitsOf · _ _) (rd (by decide) ?_ (by decide))⟩
  · rw [tc, State.abandoned, State.tc_setTc_same]
  · unfold mt tileBase Reg.Tile.TCL_ERR safeReg safeBase Reg.Safe.REACT0
    omega

theorem tcLinkDown_spec (ht : t < 8) (s : State) (hr : s.reaction 33 ≤ 1) :
    (s.tcLinkDown t).linkUp t = false ∧ (s.tcLinkDown t).bit (tileBase t + Reg.Hdr.IRQ_RAW) 22 = true := by
  let x := s.setBit (mt t Reg.Tile.TILE_STAT) 0 false
  let y := x.raise (tileBase t) 22
  have raised := x.raise_writes (tileBase t) 22
  have hy : y.reaction 33 ≤ 1 := by
    have key : RegsBut (fun k => k == mt t Reg.Tile.TILE_STAT || k == tileBase t + Reg.Hdr.IRQ_RAW) s y :=
      (RegsBut.mono (s.wr_writes _ _).1 fun k hk => by rw [hk, Bool.true_or]).trans
        (RegsBut.mono raised.1 fun k hk => by rw [hk, Bool.or_true])
    refine (congrArg (bitsOf · _ _) (key _ ?_)).trans_le hr
    rw [Bool.or_eq_false_iff, beq_eq_false_iff_ne, beq_eq_false_iff_ne]
    unfold mt tileBase Reg.Tile.TILE_STAT safeReg safeBase Reg.Safe.REACT0 Reg.Hdr.IRQ_RAW
    omega
  have recorded : Writes recordReg y (s.tcLinkDown t) := y.record_writes (by decide) (by decide) hy _
  have outside {o : Nat} (ho : o < 0x1000) : recordReg (mt t o) = false := by
    rw [recordReg, counterReg_of_elsewhere (elsewhere_mt ht ho), Bool.false_or, decide_eq_false_iff_not]
    unfold mt tileBase safeBase
    omega
  refine ⟨?_, ?_⟩
  · refine (congrArg (bitOf · 0) ((recorded.1 _ (outside (by decide))).trans
      (raised.1 _ (beq_false_of_ne (mt_ne t (by decide)))))).trans ?_
    exact s.bit_setBit_same _ (by decide) false
  · exact (congrArg (bitOf · 22) (recorded.1 _ (outside (o := Reg.Hdr.IRQ_RAW) (by decide)))).trans (State.bit_raise _ _ (by decide))

include h

theorem replyTimeout_counted (ht : t < 8) (hg : began.any tclReplyGood = false) (h2 : 2 ≤ e.tries) (hw : e.why = .master)
    (hfew : (s.tc t).timeouts < 2) :
    let u := replyTimeout t seq began s
    (u.tc t).timeouts = (s.tc t).timeouts + 1 ∧ u.linkUp t = s.linkUp t ∧
      u.rdN (mt t Reg.Tile.LAST_NACK) = nackWord e 0xF := by
  let x := s.timedOut t began e
  obtain ⟨link, timeouts, -⟩ := s.timedOut_stands ht began e
  have eq : replyTimeout t seq began s = x.pump t := by
    rw [replyTimeout_ends h hg h2 hw, timeouts, decide_eq_false (by omega), State.onlyIf, Bool.false_and, if_neg Bool.false_ne_true]
  have stands := x.pump_stands ht
  obtain ⟨last, -, -⟩ := (((s.abandoned t began e).countFld (mt t Reg.Tile.TCL_ERR) 16 16).ev 0xD3 t).nackRecorded_spec (t := t) e 0xF
    (by decide)
  intro u
  rw [show u = x.pump t from eq]
  exact ⟨stands.timeouts.trans timeouts, stands.link.trans link,
    (congrArg BitVec.toNat (x.pump_rd t (elsewhere_mt ht (by decide)))).trans last⟩

theorem replyTimeout_linkDown (ht : t < 8) (hg : began.any tclReplyGood = false) (h2 : 2 ≤ e.tries) (hw : e.why = .master)
    (hmany : 2 ≤ (s.tc t).timeouts) (hup : s.linkUp t = true) (hr : s.reaction 33 ≤ 1) :
    (replyTimeout t seq began s).linkUp t = false ∧ (replyTimeout t seq began s).bit (tileBase t + Reg.Hdr.IRQ_RAW) 22 = true := by
  let x := s.timedOut t began e
  obtain ⟨link, timeouts, reaction⟩ := s.timedOut_stands ht began e
  have eq : replyTimeout t seq began s = (x.tcLinkDown t).pump t := by
    rw [replyTimeout_ends h hg h2 hw, timeouts, decide_eq_true (by omega), link, hup, State.onlyIf, Bool.and_self, if_pos rfl]
  obtain ⟨down, flag⟩ := tcLinkDown_spec ht x (reaction.trans_le hr)
  rw [eq]
  exact ⟨((x.tcLinkDown t).pump_stands ht).link.trans down,
    (congrArg (bitOf · 22) ((x.tcLinkDown t).pump_rd t (elsewhere_mt (off := Reg.Hdr.IRQ_RAW) ht (by decide)))).trans flag⟩

end

end Sys2Proof.Machine

open Sys2Proof Sys2Proof.Machine

/-- Settles O29, reply by reply. -/
theorem tileControlReplies : Obligations.TileControlReplies := by
  unfold Obligations.TileControlReplies
  intro s k r e t leash mirrored
  have ht : t < 8 := k.isLt
  exact ⟨fun hr hm hs he hw => ⟨_, rfl, replyStatus_claimed ht hm hr hs he hw⟩,
    fun hr hm hu hreg hw => ⟨_, rfl, replyAck_config ht hm hr hu hreg hw⟩,
    fun n hr hm hu hn hreg hw => ⟨_, rfl, replyAck_cleared ht hm hr hn hw⟩,
    fun acc addr again hr hm hw => ⟨_, rfl, replyData_served ht hm hr hw⟩,
    fun hr hm hw hreason => ⟨_, rfl, replyNack_recorded ht hm hr hw hreason⟩,
    fun seq began h => ⟨fun hg => ⟨_, rfl, replyTimeout_valid h hg⟩,
      fun hg => ⟨fun h2 => ⟨_, rfl, replyTimeout_again h hg h2⟩,
        fun h2 hw hfew => ⟨_, rfl, replyTimeout_counted h ht hg h2 hw hfew⟩,
        fun h2 hw hmany hup hr => ⟨_, rfl, replyTimeout_linkDown h ht hg h2 hw hmany hup hr⟩⟩⟩,
    fun seq began h => ⟨_, rfl, replyTimeout_unmatched h⟩⟩
end

section
/-! PROOFS. O30: the registers of a tile carried to its mirror (R175, R198, R206, R222, R231). -/

namespace Sys2Proof.Machine

/-! ## Steps over a list, and copies -/

/-- What step `a` of a list brings about holds at its end, where every step keeps it. -/
theorem State.each_done {α : Type} {Q P : State → Prop} {s : State} {l : List α} {f : State → α → State} {a : α} (ha : a ∈ l) (hs : Q s)
    (inv : ∀ x ∈ l, ∀ u, Q u → Q (f u x)) (done : ∀ u, Q u → P (f u a)) (keep : ∀ x ∈ l, ∀ u, Q u → P u → P (f u x)) :
    P (s.each l f) := by
  obtain ⟨b, c, rfl⟩ := List.append_of_mem ha
  have before : Q (s.each b f) := State.each_ind (P := Q) hs fun x hx u hu => inv x (List.mem_append_left _ hx) u hu
  have split : s.each (b ++ a :: c) f = (f (s.each b f) a).each c f := by
    rw [State.each, List.foldl_append, List.foldl_cons]
    rfl
  rw [split]
  refine (State.each_ind (P := fun u => Q u ∧ P u) ⟨inv a ha _ before, done _ before⟩ fun x hx u hu => ?_).2
  have mem : x ∈ b ++ a :: c := List.mem_append_right _ (List.mem_cons_of_mem _ hx)
  exact ⟨inv x mem u hu.1, keep x mem u hu.1 hu.2⟩

/-- Registers read at `g` and entered at `f`, one by one. -/
def State.copies (s : State) (l : List Nat) (f g : Nat → Nat) : State := s.each l (fun s o => s.wr (f o) (s.rd (g o)))

section
variable {s : State} {l : List Nat} {f g : Nat → Nat}

theorem State.copies_writes (s : State) (l : List Nat) (f g : Nat → Nat) : Writes (fun k => l.any (k == f ·)) s (s.copies l f g) :=
  (Writes.refl _ s).each fun o ho _ _ => (Writes.refl _ _).wr (by exact List.any_eq_true.2 ⟨o, ho, by simp⟩) _

theorem State.copies_rd {o : Nat} (ho : o ∈ l) (hf : ∀ a ∈ l, f a = f o → a = o) (hg : ∀ a ∈ l, ∀ b ∈ l, g a ≠ f b) :
    (s.copies l f g).rd (f o) = s.rd (g o) := by
  have source (u : State) (x : Nat) (hx : x ∈ l) (w : Word) : (u.wr (f x) w).rd (g o) = u.rd (g o) :=
    u.rd_wr_ne _ _ _ (hg o ho x hx)
  have done (u : State) : (u.wr (f o) (u.rd (g o))).rd (f o) = u.rd (g o) := u.rd_wr_same _ _
  refine State.each_done (Q := fun u => u.rd (g o) = s.rd (g o)) (P := fun u => u.rd (f o) = s.rd (g o)) ho rfl
    (fun x hx u hu => (source u x hx _).trans hu) (fun u hu => (done u).trans hu) fun x hx u hu hp => ?_
  by_cases h : f x = f o
  · rw [hf x hx h]
    exact (done u).trans hu
  · exact (u.rd_wr_ne _ _ _ (Ne.symm h)).trans hp

end

/-! ## Keys of the mirror and of the tile -/

theorem chanBase_inj {n m : Nat} (h : chanBase n = chanBase m) : n = m := by
  unfold chanBase at h
  omega

theorem mc_inj {n m a b : Nat} (ha : a < 0x1000) (hb : b < 0x1000) (h : mc n a = mc m b) : n = m ∧ a = b := by
  have place : a = b := by rw [← mc_mod n ha, ← mc_mod m hb, h]
  subst place
  exact ⟨chanBase_inj (Nat.add_right_cancel h), rfl⟩

theorem tk_inj {n m a b : Nat} (ha : a < 0x1000) (hb : b < 0x1000) (h : tk n a = tk m b) : n = m ∧ a = b :=
  mc_inj ha hb (by unfold tk bank at h; unfold mc; omega)

theorem mc_outside {n off : Nat} (hn : n < 128) (ho : off < 0x1000) : tileOwn (mc n off) = false := by
  obtain ⟨-, hhi⟩ := mc_bounds hn ho
  rw [tileOwn, decide_eq_false_iff_not]
  omega

theorem mt_outside {t off : Nat} (ht : t < 8) (ho : off < 0x1000) : tileOwn (mt t off) = false := by
  unfold tileOwn mt tileBase
  rw [decide_eq_false_iff_not]
  omega

theorem ne_of_tileOwn {j k : Nat} (hj : tileOwn j = true) (hk : tileOwn k = false) : j ≠ k := by
  rintro rfl
  cases hj.symm.trans hk

/-- The flags of a page are no tile's own registers of these places. -/
theorem mirrorReg_tk {cs ts : List Nat} (n : Nat) {off : Nat} (ho : off < 0x1000) :
    mirrorReg cs ts (tk n off) = (flagPlaces ++ cs).contains off := by
  rw [mirrorReg, if_neg (by unfold tk bank chanBase; omega), atPlaces, tk_mod n ho]

theorem reportsIn_outside {t : Nat} (ht : t < 8) : ReportsIn (fun k => !tileOwn k) t where
  flags := outside_flags (by unfold tileBase; omega)
  stat := by rw [mt_outside ht (by decide)]; rfl
  counters k hk := by
    rw [counterReg, decide_eq_true_eq] at hk
    rw [tileOwn, decide_eq_false]
    · rfl
    · unfold ecBase at hk
      omega
  adc := outside_of_lt (by unfold sadcBase; omega) (by decide)

/-! ## The tile's own conditions (R154, R156, R198, R222) -/

/-- `p` names what a read of the tile's conditions writes. -/
structure TileReadIn (p : Nat → Bool) (t : Nat) : Prop where
  flags : FlagsIn p (tileBase t)
  tile : ∀ o ∈ [Reg.Tile.TILE_STAT, Reg.Tile.SUPPLY_I, Reg.Tile.LH_STATE, Reg.Tile.IO_STATE], p (mt t o) = true
  chan : ∀ n ∈ tileChans t, ChanFlagsIn p n ∧ p (mc n Reg.Chan.CH_STAT) = true

/-- The places of the tile's page such a read writes. -/
def readPlaces : List Nat := [Reg.Tile.TILE_STAT, Reg.Tile.SUPPLY_I, Reg.Tile.LH_STATE, Reg.Tile.IO_STATE]

theorem tileReadIn_mirror (t : Nat) : TileReadIn (mirrorReg [Reg.Chan.CH_STAT] readPlaces) t where
  flags := mirrorReg_flags _ _ (tileBase_mod t)
  tile o ho := by
    have lt : o < 0x1000 := by
      simp only [Reg.Tile.TILE_STAT, Reg.Tile.SUPPLY_I, Reg.Tile.LH_STATE, Reg.Tile.IO_STATE, List.mem_cons, List.not_mem_nil,
        or_false] at ho
      omega
    rw [mirrorReg_tile t lt, List.contains_iff_mem]
    exact List.mem_append_right _ ho
  chan n _ := ⟨mirrorReg_chanFlags _ _ n, (mirrorReg_chan n (by decide)).trans (by decide)⟩

theorem tileChans_lt {t n : Nat} (ht : t < 8) (hn : n ∈ tileChans t) : n < 128 := by
  obtain ⟨c, hc, rfl⟩ := List.mem_map.1 hn
  rw [List.mem_range] at hc
  omega

section
variable {s : State} {t : Nat}

/-- The band, the moves and the warning entered and flagged. -/
def State.condsRead (s : State) (t : Nat) : State :=
  (((s.setFld (mt t Reg.Tile.TILE_STAT) 3 3 (s.tileConds t / 8)).onlyIf (s.tile t).moved (·.raise (tileBase t) 26)).onlyIf
    ((s.tile t).supWarn && !s.bit (mt t Reg.Tile.TILE_STAT) 5) (·.raise (tileBase t) 25)).setTile t { s.tile t with moved := false }

/-- The current and the levels entered. -/
def State.levelsRead (s : State) (t lh io : Nat) : State :=
  ((s.wrN (mt t Reg.Tile.SUPPLY_I) (s.supplyMean t % 2 ^ 16)).wrN (mt t Reg.Tile.LH_STATE) lh).wrN (mt t Reg.Tile.IO_STATE) io

theorem State.readTile_eq (s : State) (t : Nat) : ∃ io,
    s.readTile t = ((s.condsRead t).levelsRead t (s.tile t).lh io).each (tileChans t) State.ioChan := ⟨_, rfl⟩

theorem State.condsRead_regs {p : Nat → Bool} (hp : TileReadIn p t) (s : State) : RegsBut p s (s.condsRead t) :=
  (((Writes.refl p s).wr (hp.tile _ (by simp)) _).onlyIf fun _ => State.raise_flags _ hp.flags _).onlyIf
    (fun _ => State.raise_flags _ hp.flags _) |>.1

theorem State.levelsRead_writes {p : Nat → Bool} (hp : TileReadIn p t) (s : State) (lh io : Nat) :
    Writes p s (s.levelsRead t lh io) :=
  (((Writes.refl p s).wr (hp.tile _ (by simp)) _).wr (hp.tile _ (by simp)) _).wr (hp.tile _ (by simp)) _

theorem State.ioChans_writes {p : Nat → Bool} (hp : ∀ n ∈ tileChans t, ChanFlagsIn p n ∧ p (mc n Reg.Chan.CH_STAT) = true) (s : State) :
    Writes p s (s.each (tileChans t) State.ioChan) :=
  (Writes.refl p s).each fun n hn u _ => u.putChStat_writes (hp n hn).1 (hp n hn).2 _

theorem State.readTile_regs {p : Nat → Bool} (hp : TileReadIn p t) (s : State) : RegsBut p s (s.readTile t) := by
  obtain ⟨io, eq⟩ := s.readTile_eq t
  rw [eq]
  exact ((s.condsRead_regs hp).trans (State.levelsRead_writes hp _ _ io).1).trans (State.ioChans_writes hp.chan _).1

theorem State.condsRead_supply (s : State) (t : Nat) : (s.condsRead t).supplyMean t = s.supplyMean t := by
  rw [State.supplyMean, State.condsRead, State.tile_setTile_same, State.supplyMean]

theorem State.readTile_levels (s : State) (t : Nat) :
    (s.readTile t).rd (mt t Reg.Tile.SUPPLY_I) = word (s.supplyMean t % 2 ^ 16) ∧
      (s.readTile t).rd (mt t Reg.Tile.LH_STATE) = word (s.tile t).lh := by
  obtain ⟨io, eq⟩ := s.readTile_eq t
  have chans (u : State) : Writes (mirrorReg [Reg.Chan.CH_STAT] []) u (u.each (tileChans t) State.ioChan) :=
    u.ioChans_writes fun n _ => ⟨mirrorReg_chanFlags _ _ n, (mirrorReg_chan n (by decide)).trans (by decide)⟩
  have ne {a b : Nat} (h : a ≠ b) : mt t a ≠ mt t b := mt_ne t h
  rw [eq]
  refine ⟨((chans _).1 _ ((mirrorReg_tile t (by decide)).trans (by decide))).trans ?_,
    ((chans _).1 _ ((mirrorReg_tile t (by decide)).trans (by decide))).trans ?_⟩
  · rw [State.levelsRead, State.wrN, State.wrN, State.wrN, State.rd_wr_ne _ _ _ _ (ne (by decide)),
      State.rd_wr_ne _ _ _ _ (ne (by decide)), State.rd_wr_same, State.condsRead_supply]
  · rw [State.levelsRead, State.wrN, State.wrN, State.rd_wr_ne _ _ _ _ (ne (by decide)), State.rd_wr_same]

end

end Sys2Proof.Machine
end

section
/-! PROOFS. O30: MIRROR_RELOAD and MIRROR_REFRESH (R175, R206, R222). -/

namespace Sys2Proof.Machine

/-! ## A channel reloaded (R175) -/

/-- The registers a reload copies. -/
def copied : List Nat := chanHeld.erase Reg.Chan.CH_POL_ACT

theorem copied_lt : ∀ o ∈ copied, o < 0x1000 := by decide

theorem copied_places : ∀ o ∈ copied, (flagPlaces ++ [Reg.Chan.CH_STAT]).contains o = false ∧ o ≠ Reg.Chan.CH_POL_ACT := by decide

/-- What the reload of channel n writes. -/
def reloadReg (n k : Nat) : Bool := mirrorReg [Reg.Chan.CH_STAT] [] k || k == mc n Reg.Chan.CH_POL_ACT || copied.any (k == mc n ·)

section
variable (s : State) {t n : Nat}

theorem State.reloadChan_eq (t n : Nat) : ∃ x v, s.reloadChan t n =
    (((s.copies copied (mc n) (tk n)).setFld (mc n Reg.Chan.CH_POL_ACT) 0 9 x).protIrqs n s).putChStat n v := ⟨_, _, rfl⟩

/-- What follows the copies of a reload. -/
theorem State.reloadTail_writes {p : Nat → Bool} (h : ChanFlagsIn p n) (hs : p (mc n Reg.Chan.CH_STAT) = true) (was : State) (v : Word) :
    Writes p s ((s.protIrqs n was).putChStat n v) := (s.protIrqs_writes h.1 was).trans (State.putChStat_writes _ h hs v)

theorem State.reloadChan_writes {p : Nat → Bool} (h : ChanFlagsIn p n) (hs : p (mc n Reg.Chan.CH_STAT) = true)
    (hp : p (mc n Reg.Chan.CH_POL_ACT) = true) (hc : ∀ o ∈ copied, p (mc n o) = true) : Writes p s (s.reloadChan t n) := by
  obtain ⟨x, v, eq⟩ := s.reloadChan_eq t n
  rw [eq]
  refine (((s.copies_writes copied (mc n) (tk n)).mono fun k hk => ?_).wr hp _).trans (State.reloadTail_writes _ h hs s v)
  obtain ⟨o, ho, hk⟩ := List.any_eq_true.1 hk
  rw [beq_iff_eq.1 hk]
  exact hc o ho

theorem State.reloadChan_regs (t n : Nat) : RegsBut (reloadReg n) s (s.reloadChan t n) := by
  have mirror {k : Nat} (hk : mirrorReg [Reg.Chan.CH_STAT] [] k = true) : reloadReg n k = true := by simp [reloadReg, hk]
  refine (s.reloadChan_writes (p := reloadReg n) ⟨fun o ho => mirror (mirrorReg_flag (chanBase_mod n) ho),
    fun u l _ o ho => mirror (mirrorReg_flag (compBase_mod l) ho)⟩ (mirror ((mirrorReg_chan n (by decide)).trans (by decide)))
    (by simp [reloadReg]) fun o ho => ?_).1
  have some : copied.any (mc n o == mc n ·) = true := List.any_eq_true.2 ⟨o, ho, by simp⟩
  rw [reloadReg, some, Bool.or_true]

theorem State.reloadChan_outside (t : Nat) (hn : n < 128) : RegsBut (fun k => !tileOwn k) s (s.reloadChan t n) :=
  (s.reloadChan_writes (outside_chanFlags hn) (outside_of_lt (chanBase_lt hn) (by decide)) (outside_of_lt (chanBase_lt hn) (by decide))
    fun o ho => outside_of_lt (chanBase_lt hn) (copied_lt o ho)).1

theorem State.reloadChan_rd (t : Nat) (hn : n < 128) {o : Nat} (ho : o ∈ copied) : (s.reloadChan t n).rd (mc n o) = s.rd (tk n o) := by
  obtain ⟨x, v, eq⟩ := s.reloadChan_eq t n
  obtain ⟨places, hpol⟩ := copied_places o ho
  have lt := copied_lt o ho
  have tail (u : State) : Writes (mirrorReg [Reg.Chan.CH_STAT] []) u ((u.protIrqs n s).putChStat n v) :=
    u.reloadTail_writes (mirrorReg_chanFlags _ _ n) ((mirrorReg_chan n (by decide)).trans (by decide)) s v
  have ne : mc n o ≠ mc n Reg.Chan.CH_POL_ACT := fun h => hpol (mc_inj lt (by decide) h).2
  rw [eq, (tail _).1 _ ((mirrorReg_chan n lt).trans places), State.setFld_eq, State.rd_wr_ne _ _ _ _ ne]
  exact State.copies_rd ho (fun a ha h => (mc_inj (copied_lt a ha) lt h).2)
    fun a _ b hb => ne_of_tileOwn (tileOwn_tk n a) (mc_outside hn (copied_lt b hb))

/-- A register of another channel, or one of the tile's page, is not of a channel's reload. -/
theorem reloadReg_chan {n m o : Nat} (h : m ≠ n) (ho : o ∈ copied) : reloadReg n (mc m o) = false := by
  obtain ⟨places, -⟩ := copied_places o ho
  have ne {b : Nat} (hb : b < 0x1000) : mc m o ≠ mc n b := fun he => h (mc_inj (copied_lt o ho) hb he).1
  have none : copied.any (mc m o == mc n ·) = false :=
    List.any_eq_false.2 fun b hb => by simpa using ne (copied_lt b hb)
  rw [reloadReg, mirrorReg_chan m (copied_lt o ho), places, beq_false_of_ne (ne (by decide)), none]
  rfl

theorem reloadReg_tile {c off : Nat} (ho : off < 0x1000) (hf : off ∉ flagPlaces) : reloadReg (16 * t + c) (mt t off) = false := by
  have none : copied.any (mt t off == mc (16 * t + c) ·) = false :=
    List.any_eq_false.2 fun b _ => by simpa using (mc_ne_mt t c b ho).symm
  rw [reloadReg, none, beq_false_of_ne (mc_ne_mt t c _ ho).symm, mirrorReg_tile t ho, List.append_nil,
    Bool.eq_false_iff.2 fun h => hf (List.contains_iff_mem.1 h)]
  rfl

/-- Every channel of a tile reloaded. -/
def State.reloadChans (s : State) (t : Nat) : State := s.each (tileChans t) (fun s n => s.reloadChan t n)

variable (ht : t < 8)
include ht

theorem State.reloadChans_rd {n o : Nat} (hn : n ∈ tileChans t) (ho : o ∈ copied) :
    (s.reloadChans t).rd (mc n o) = s.rd (tk n o) := by
  have own : (!tileOwn (tk n o)) = false := by rw [tileOwn_tk]; rfl
  have done (u : State) (hu : RegsBut (fun k => !tileOwn k) s u) : (u.reloadChan t n).rd (mc n o) = s.rd (tk n o) :=
    (u.reloadChan_rd t (tileChans_lt ht hn) ho).trans (hu _ own)
  refine State.each_done (P := fun u => u.rd (mc n o) = s.rd (tk n o)) hn (.refl (fun k => !tileOwn k) s)
    (fun m hm u hu => hu.trans (u.reloadChan_outside t (tileChans_lt ht hm))) done fun m _ u hu hp => ?_
  by_cases h : n = m
  · exact h ▸ done u hu
  · exact (u.reloadChan_regs t m _ (reloadReg_chan h ho)).trans hp

omit ht in
theorem State.reloadChans_tile {off : Nat} (ho : off < 0x1000) (hf : off ∉ flagPlaces) :
    (s.reloadChans t).rd (mt t off) = s.rd (mt t off) := by
  refine State.each_ind (P := fun u => u.rd (mt t off) = s.rd (mt t off)) rfl fun n hn u hu => ?_
  obtain ⟨c, -, rfl⟩ := List.mem_map.1 hn
  exact (u.reloadChan_regs t _ _ (reloadReg_tile ho hf)).trans hu

/-! ## MIRROR_RELOAD -/

/-- The Leash and STAY_TIME as they are in the tile, entered after its report. -/
def State.leashReloaded (s : State) (t : Nat) : State :=
  (s.report t { type := 11, seq := 0, holder := s.leashHolder t, state := s.leashState t, cur := s.leashCur t }).copies
    [Reg.Tile.LEASH_STAT, Reg.Tile.STAY_TIME_ACT] (mt t) (tt t)

/-- The mirror with the link up and itself valid. -/
def State.mirrorUp (s : State) (t : Nat) : State :=
  (((s.readTile t).mirFaults t).setFld (mt t Reg.Tile.TILE_STAT) 0 2 3).polSync t

theorem State.leashReloaded_outside : RegsBut (fun k => !tileOwn k) s (s.leashReloaded t) := by
  refine (s.report_regs (reportsIn_outside ht) ht _).trans (RegsBut.mono (State.copies_writes _ _ _ _).1 fun k hk => ?_)
  obtain ⟨o, ho, hk⟩ := List.any_eq_true.1 hk
  have lt : o < 0x1000 := by
    simp only [Reg.Tile.LEASH_STAT, Reg.Tile.STAY_TIME_ACT, List.mem_cons, List.not_mem_nil, or_false] at ho
    omega
  rw [beq_iff_eq.1 hk, mt_outside ht lt]
  rfl

theorem State.leashReloaded_rd {o : Nat} (ho : o ∈ [Reg.Tile.LEASH_STAT, Reg.Tile.STAY_TIME_ACT]) :
    (s.leashReloaded t).rd (mt t o) = s.rd (tt t o) := by
  have lt {a : Nat} (ha : a ∈ [Reg.Tile.LEASH_STAT, Reg.Tile.STAY_TIME_ACT]) : a < 0x1000 := by
    simp only [Reg.Tile.LEASH_STAT, Reg.Tile.STAY_TIME_ACT, List.mem_cons, List.not_mem_nil, or_false] at ha
    omega
  have own : (!tileOwn (tt t o)) = false := by rw [tileOwn_tt]; rfl
  refine (State.copies_rd ho (fun a _ h => ?_) fun a _ b hb => ne_of_tileOwn (tileOwn_tt t a) (mt_outside ht (lt hb))).trans
    (s.report_regs (reportsIn_outside ht) ht _ _ own)
  unfold mt at h
  omega

omit ht in
/-- What follows the copies leaves them. -/
theorem State.mirrorUp_regs (s : State) (t : Nat) :
    RegsBut (mirrorReg [Reg.Chan.CH_STAT, Reg.Chan.CH_POL_ACT] (readPlaces ++ [Reg.Tile.FAULT_STAT, Reg.Tile.LATCH_SUM])) s (s.mirrorUp t) := by
  have read := s.readTile_regs (tileReadIn_mirror t)
  have faults := (s.readTile t).mirFaults_writes (t := t) (p := mirrorReg [] [Reg.Tile.FAULT_STAT, Reg.Tile.LATCH_SUM])
    ((mirrorReg_tile t (by decide)).trans (by decide)) ((mirrorReg_tile t (by decide)).trans (by decide))
  have up := ((s.readTile t).mirFaults t).wr_writes (mt t Reg.Tile.TILE_STAT)
    (setBits (((s.readTile t).mirFaults t).rd (mt t Reg.Tile.TILE_STAT)) 0 2 3)
  have synced := State.polSync_writes (((s.readTile t).mirFaults t).setFld (mt t Reg.Tile.TILE_STAT) 0 2 3) t
  refine (((RegsBut.mono read fun _ => mirrorReg_mono (by simp) (by simp)).trans
    (RegsBut.mono faults.1 fun _ => mirrorReg_mono (by simp) (by simp))).trans (RegsBut.mono up.1 fun k hk => ?_)).trans
    (RegsBut.mono synced.1 fun _ => mirrorReg_mono (by simp) (by simp [readPlaces]))
  rw [beq_iff_eq.1 hk]
  exact (mirrorReg_tile t (by decide)).trans (by decide)

omit ht in
/-- LINK_UP and MIRROR_VALID stand while the copies' SYNC moves. -/
theorem State.polSync_stat (s : State) (t : Nat) {i : Nat} (hi : i < 2) :
    (s.polSync t).bit (mt t Reg.Tile.TILE_STAT) i = s.bit (mt t Reg.Tile.TILE_STAT) i := by
  have sync (n : Nat) (u : State) : Writes (mirrorReg [Reg.Chan.CH_POL_ACT] []) u (u.syncChan n) :=
    ((Writes.refl _ u).wr ((mirrorReg_chan n (by decide)).trans (by decide)) _).onlyIf fun _ =>
      State.raise_flags _ (mirrorReg_flags _ _ (chanBase_mod n)) 17
  have all := (Writes.refl (mirrorReg [Reg.Chan.CH_POL_ACT] []) s).each (l := tileChans t) fun n _ u _ => sync n u
  exact (State.bit_setBit_ne _ _ (by omega) (by decide) _).trans
    (congrArg (bitOf · i) (all.1 _ ((mirrorReg_tile t (by decide)).trans (by decide))))

omit ht in
theorem State.mirrorUp_stat (s : State) (t : Nat) : (s.mirrorUp t).linkUp t = true ∧ (s.mirrorUp t).mirrorValid t = true := by
  have set : (((s.readTile t).mirFaults t).setFld (mt t Reg.Tile.TILE_STAT) 0 2 3).fld (mt t Reg.Tile.TILE_STAT) 0 2 = 3 :=
    State.fld_setFld_same _ _ _ (by decide)
  have parts (w : Word) (h : bitsOf w 0 2 = 3) : bitOf w 0 = true ∧ bitOf w 1 = true := by
    unfold bitsOf at h
    unfold bitOf bitsOf
    simp only [beq_iff_eq]
    omega
  obtain ⟨b0, b1⟩ := parts _ set
  exact ⟨(State.polSync_stat _ t (by decide)).trans b0, (State.polSync_stat _ t (by decide)).trans b1⟩

omit ht in
theorem State.startClaim_regs (s : State) (h : Half) (t : Nat) : RegsStand s (s.startClaim h t) := by
  unfold State.startClaim
  extract_lets c x
  have cleared (k : Nat) : x.rd k = s.rd k := State.rd_congr rfl k
  split <;> exact fun k hk => ((State.ctlPush_queues t _ .agent x).regs k hk).trans (cleared k)

omit ht in
/-- A reload is the report, the copies, and the mirror made valid; then a start-up claim that waited goes out (R175, R263). -/
theorem mirrorReload_regs (hp : (s.tile t).powered = true) (hs : (s.tile t).starting = false) :
    RegsStand (((s.leashReloaded t).reloadChans t).mirrorUp t) (mirrorReload t s) := by
  unfold mirrorReload
  rw [if_neg (by simp [hp, hs])]
  extract_lets +onlyGivenNames st s1 s2 s3 s4
  change RegsStand s4 _
  -- The state before the last part is made opaque: that part is the same for every state.
  obtain ⟨x, hx⟩ : ∃ x, s4 = x := ⟨_, rfl⟩
  rw [hx]
  intro k hk
  dsimp only
  split
  · exact State.startClaim_regs _ _ t k hk
  · rfl

omit ht in
theorem mirrorReload_rd (hp : (s.tile t).powered = true) (hs : (s.tile t).starting = false) {k : Nat} (hk : elsewhere k = false) :
    (mirrorReload t s).rd k = (((s.leashReloaded t).reloadChans t).mirrorUp t).rd k :=
  mirrorReload_regs s hp hs k (counterReg_of_elsewhere hk)

theorem mirrorReload_spec (hp : (s.tile t).powered = true) (hs : (s.tile t).starting = false) :
    (mirrorReload t s).linkUp t = true ∧ (mirrorReload t s).mirrorValid t = true ∧
      (∀ o ∈ [Reg.Tile.LEASH_STAT, Reg.Tile.STAY_TIME_ACT], (mirrorReload t s).rd (mt t o) = s.rd (tt t o)) ∧
      ∀ n ∈ tileChans t, ∀ o ∈ copied, (mirrorReload t s).rd (mc n o) = s.rd (tk n o) := by
  let x := (s.leashReloaded t).reloadChans t
  have stat := mirrorReload_rd s hp hs (elsewhere_mt (off := Reg.Tile.TILE_STAT) ht (by decide))
  obtain ⟨link, valid⟩ := x.mirrorUp_stat t
  refine ⟨(congrArg (bitOf · 0) stat).trans link, (congrArg (bitOf · 1) stat).trans valid, fun o ho => ?_, fun n hn o ho => ?_⟩
  · have place : o < 0x1000 ∧ o ∉ flagPlaces ∧
        (flagPlaces ++ (readPlaces ++ [Reg.Tile.FAULT_STAT, Reg.Tile.LATCH_SUM])).contains o = false := by
      revert o
      decide
    obtain ⟨lt, flag, free⟩ := place
    calc (mirrorReload t s).rd (mt t o)
      _ = (x.mirrorUp t).rd (mt t o) := mirrorReload_rd s hp hs (elsewhere_mt ht lt)
      _ = x.rd (mt t o) := x.mirrorUp_regs t _ ((mirrorReg_tile t lt).trans free)
      _ = (s.leashReloaded t).rd (mt t o) := State.reloadChans_tile _ lt flag
      _ = s.rd (tt t o) := s.leashReloaded_rd ht ho
  · have lt := copied_lt o ho
    have free : (flagPlaces ++ [Reg.Chan.CH_STAT, Reg.Chan.CH_POL_ACT]).contains o = false := by
      revert o
      decide
    have own : (!tileOwn (tk n o)) = false := by rw [tileOwn_tk]; rfl
    calc (mirrorReload t s).rd (mc n o)
      _ = (x.mirrorUp t).rd (mc n o) := mirrorReload_rd s hp hs (elsewhere_mc (tileChans_lt ht hn) lt)
      _ = x.rd (mc n o) := x.mirrorUp_regs t _ ((mirrorReg_chan n lt).trans free)
      _ = (s.leashReloaded t).rd (tk n o) := State.reloadChans_rd _ ht hn ho
      _ = s.rd (tk n o) := s.leashReloaded_outside ht _ own

end

end Sys2Proof.Machine
end

section
/-! PROOFS. O30: MIRROR_REFRESH (R206, R222). -/

namespace Sys2Proof.Machine

/-- Only registers `p` names move: the tiles' and the channels' records stand. -/
structure Carries (p : Nat → Bool) (s u : State) : Prop where
  regs : RegsBut p s u
  tiles : u.tiles = s.tiles
  chans : u.chans = s.chans

section
variable {p q : Nat → Bool} {s t u : State}

theorem Carries.refl (p : Nat → Bool) (s : State) : Carries p s s := ⟨.refl p s, rfl, rfl⟩

theorem Carries.trans (h : Carries p s t) (h' : Carries p t u) : Carries p s u :=
  ⟨h.regs.trans h'.regs, h'.tiles.trans h.tiles, h'.chans.trans h.chans⟩

theorem Writes.carries (h : Writes p s u) : Carries p s u := ⟨h.1, by rw [h.2], by rw [h.2]⟩

theorem Carries.mono (h : Carries p s u) (hq : ∀ k, p k = true → q k = true) : Carries q s u :=
  ⟨h.regs.mono hq, h.tiles, h.chans⟩

theorem Carries.onlyIf (h : Carries p s t) {c : Bool} {f : State → State} (hf : ∀ v, Carries p v (f v)) :
    Carries p s (t.onlyIf c f) := State.onlyIf_ind h fun _ => h.trans (hf t)

end

/-- The protection registers a refresh carries. -/
def protPlaces : List Nat := [Reg.Chan.PROT_STAT, Reg.Chan.DIAG_HIST, Reg.Chan.TRIP_CNT, Reg.Chan.RESTART_CNT]

theorem protPlaces_spec : ∀ o ∈ protPlaces, o < 0x1000 ∧ (flagPlaces ++ [Reg.Chan.CH_STAT]).contains o = false ∧ o ∉ flagPlaces := by
  decide

/-- What the refresh of channel n writes: in an open regulating window (`live`), PROT_STAT in the tile. -/
def protReg (n : Nat) (live : Bool) (k : Nat) : Bool :=
  mirrorReg [] [] k || (live && k == tk n Reg.Chan.PROT_STAT) || protPlaces.any (k == mc n ·)

section
variable {s : State} {n m o : Nat}

/-- A register of the tile stands through a refresh, but for PROT_STAT in an open regulating window. -/
theorem protReg_tk {live : Bool} (hn : n < 128) (ho : o < 0x1000) (hf : o ∉ flagPlaces)
    (h : n = m → o = Reg.Chan.PROT_STAT → live = false) : protReg n live (tk m o) = false := by
  have carried : protPlaces.any (tk m o == mc n ·) = false := List.any_eq_false.2 fun b hb => by
    simpa using ne_of_tileOwn (tileOwn_tk m o) (mc_outside hn (protPlaces_spec b hb).1)
  have regulated : (live && tk m o == tk n Reg.Chan.PROT_STAT) = false := by
    by_cases e : tk m o = tk n Reg.Chan.PROT_STAT
    · obtain ⟨hm, ho⟩ := tk_inj ho (by decide) e
      rw [h hm.symm ho, Bool.false_and]
    · rw [beq_false_of_ne e, Bool.and_false]
  rw [protReg, carried, regulated, mirrorReg_tk m ho, List.append_nil, Bool.eq_false_iff.2 fun h => hf (List.contains_iff_mem.1 h)]
  rfl

/-- The mirror of another channel stands through a refresh. -/
theorem protReg_mc {live : Bool} (hm : m < 128) (h : m ≠ n) (ho : o ∈ protPlaces) : protReg n live (mc m o) = false := by
  obtain ⟨lt, -, flag⟩ := protPlaces_spec o ho
  have carried : protPlaces.any (mc m o == mc n ·) = false := List.any_eq_false.2 fun b hb => by
    simpa using fun he => h (mc_inj lt (protPlaces_spec b hb).1 he).1
  rw [protReg, carried, beq_false_of_ne (ne_of_tileOwn (tileOwn_tk n _) (mc_outside hm lt)).symm, mirrorReg_chan m lt, List.append_nil,
    Bool.eq_false_iff.2 fun h => flag (List.contains_iff_mem.1 h), Bool.and_false]
  rfl

/-! ## One channel -/

theorem State.regulate_carries (s : State) (n : Nat) : Carries (· == tk n Reg.Chan.PROT_STAT) s (s.regulate n) := by
  have set (u : State) (b : Bool) : Carries (· == tk n Reg.Chan.PROT_STAT) u (u.setPs n 21 b) := (u.wr_writes _ _).carries
  cases h : s.regOpen n with
  | false =>
    rw [s.regulate_closed n h]
    exact set s false
  | true =>
    obtain ⟨b, c, e, eq⟩ := s.regulate_open n h
    rw [eq]
    have drawn : Carries (· == tk n Reg.Chan.PROT_STAT) s s.freshBool.2 := ⟨.same rfl, rfl, rfl⟩
    exact (drawn.trans (set _ b)).onlyIf fun v => ⟨.same rfl, rfl, rfl⟩

theorem State.reRegulate_carries (s : State) (n : Nat) : Carries (fun k => s.regOpen n && k == tk n Reg.Chan.PROT_STAT) s (s.reRegulate n) := by
  cases h : s.regOpen n with
  | false =>
    rw [State.reRegulate, h]
    exact .refl _ s
  | true =>
    rw [State.reRegulate, h]
    exact ((s.regulate_carries n).trans (State.wr_writes _ _ _).carries).mono fun k hk => hk

theorem State.dist_carries (p : Nat → Bool) (s : State) (x : DistItem) : Carries p s (s.dist x) := by
  refine ⟨fun k _ => s.rd_dist x k, ?_, ?_⟩ <;> unfold State.dist <;> split <;> rfl

/-- The input of the distributor for a channel's protection registers (R266). -/
def State.protItem (u : State) (n : Nat) : DistItem :=
  { source := 0x0C, tsLo := u.tb0.tsLo, tsHi := u.tb0.tsHi, id := n
    w5 := u.rd (mc n Reg.Chan.PROT_STAT), w6 := u.rd (mc n Reg.Chan.DIAG_HIST), w7 := u.rd (mc n Reg.Chan.TRIP_CNT) }

/-- The refresh up to the copies, and what follows them. -/
theorem State.readProt_eq (s : State) (n : Nat) : ∃ c : Bool,
    s.readProt n = ((((s.reRegulate n).copies protPlaces (mc n) (tk n)).protIrqs n s).refreshChan n).onlyIf c (fun u => u.dist (u.protItem n)) :=
  ⟨_, rfl⟩

/-- What follows the copies writes flags only. -/
theorem State.readTail_carries (u was : State) (n : Nat) (c : Bool) :
    Carries (mirrorReg [] []) u (((u.protIrqs n was).refreshChan n).onlyIf c (fun u => u.dist (u.protItem n))) :=
  (((u.protIrqs_writes (mirrorReg_flags _ _ (chanBase_mod n)) was).trans
    (State.refreshChan_writes _ (mirrorReg_chanFlags _ _ n))).carries).onlyIf fun v => v.dist_carries _ _

theorem State.readProt_carries (s : State) (n : Nat) : Carries (protReg n (s.regOpen n)) s (s.readProt n) := by
  obtain ⟨c, eq⟩ := s.readProt_eq n
  rw [eq]
  have regulated := (s.reRegulate_carries n).mono (q := protReg n (s.regOpen n)) fun k hk => by
    simp only [protReg, hk, Bool.or_true, Bool.true_or]
  have copied := (State.copies_writes (s.reRegulate n) protPlaces (mc n) (tk n)).carries.mono (q := protReg n (s.regOpen n))
    fun k hk => by simp only [protReg, hk, Bool.or_true]
  have tail := (State.readTail_carries ((s.reRegulate n).copies protPlaces (mc n) (tk n)) s n c).mono (q := protReg n (s.regOpen n))
    fun k hk => by simp only [protReg, hk, Bool.true_or]
  exact (regulated.trans copied).trans tail

theorem State.readProt_rd (s : State) (hn : n < 128) (ho : o ∈ protPlaces) : (s.readProt n).rd (mc n o) = (s.readProt n).rd (tk n o) := by
  obtain ⟨c, eq⟩ := s.readProt_eq n
  obtain ⟨lt, places, flag⟩ := protPlaces_spec o ho
  have free : flagPlaces.contains o = false := Bool.eq_false_iff.2 fun h => flag (List.contains_iff_mem.1 h)
  let x := s.reRegulate n
  have tail := (State.readTail_carries (x.copies protPlaces (mc n) (tk n)) s n c).regs
  have apart : ∀ a ∈ protPlaces, ∀ b ∈ protPlaces, tk n a ≠ mc n b :=
    fun a _ b hb => ne_of_tileOwn (tileOwn_tk n a) (mc_outside hn (protPlaces_spec b hb).1)
  have kept : (x.copies protPlaces (mc n) (tk n)).rd (tk n o) = x.rd (tk n o) :=
    (x.copies_writes protPlaces (mc n) (tk n)).1 _ (List.any_eq_false.2 fun b hb => by simpa using apart o ho b hb)
  rw [eq]
  calc _
    _ = (x.copies protPlaces (mc n) (tk n)).rd (mc n o) := tail _ ((mirrorReg_chan n lt).trans (by rw [List.append_nil, free]))
    _ = x.rd (tk n o) := State.copies_rd ho (fun a ha h => (mc_inj (protPlaces_spec a ha).1 lt h).2) apart
    _ = (x.copies protPlaces (mc n) (tk n)).rd (tk n o) := kept.symm
    _ = _ := (tail _ ((mirrorReg_tk n lt).trans (by rw [List.append_nil, free]))).symm

end

/-! ## Every channel of a tile -/

/-- What stands while the channels of a tile are read, one by one. -/
structure Sampling (s u : State) : Prop where
  tiles : u.tiles = s.tiles
  chans : u.chans = s.chans
  regs : ∀ m o, o < 0x1000 → o ∉ flagPlaces → (o ≠ Reg.Chan.PROT_STAT ∨ s.regOpen m = false) → u.rd (tk m o) = s.rd (tk m o)

section
variable {s u : State} {t n : Nat}

theorem Sampling.regOpen (h : Sampling s u) (n : Nat) : u.regOpen n = s.regOpen n := by
  have cfg : u.bit (tk n Reg.Chan.OC_CFG) 29 = s.bit (tk n Reg.Chan.OC_CFG) 29 :=
    congrArg (bitOf · 29) (h.regs n _ (by decide) (by decide) (.inl (by decide)))
  rw [State.regOpen, State.regOpen, cfg, State.chan, State.chan, h.chans]

theorem Sampling.readProt (h : Sampling s u) (hn : n < 128) : Sampling s (u.readProt n) := by
  have moved := u.readProt_carries n
  refine ⟨moved.tiles.trans h.tiles, moved.chans.trans h.chans, fun m o ho hf hs => ?_⟩
  refine (moved.regs _ (protReg_tk hn ho hf fun hm hp => ?_)).trans (h.regs m o ho hf hs)
  rcases hs with hs | hs
  · exact absurd hp hs
  · rw [hm, h.regOpen, hs]

/-- The channels of a tile refreshed. -/
def State.readProts (s : State) (t : Nat) : State := s.each (tileChans t) State.readProt

theorem State.readProts_sampling (s : State) (ht : t < 8) : Sampling s (s.readProts t) :=
  State.each_ind (P := Sampling s) ⟨rfl, rfl, fun _ _ _ _ _ => rfl⟩ fun _ hn _ hu => hu.readProt (tileChans_lt ht hn)

theorem State.readProts_rd (s : State) (ht : t < 8) {o : Nat} (hn : n ∈ tileChans t) (ho : o ∈ protPlaces) :
    (s.readProts t).rd (mc n o) = (s.readProts t).rd (tk n o) := by
  have lt := tileChans_lt ht hn
  obtain ⟨ho', -, flag⟩ := protPlaces_spec o ho
  refine State.each_done (Q := fun _ => True) (P := fun u => u.rd (mc n o) = u.rd (tk n o)) hn trivial (fun _ _ _ _ => trivial)
    (fun u _ => u.readProt_rd lt ho) fun m hm u _ hu => ?_
  by_cases h : n = m
  · exact h ▸ u.readProt_rd lt ho
  · have moved := (u.readProt_carries m).regs
    rw [moved _ (protReg_mc lt h ho), hu, moved _ (protReg_tk (tileChans_lt ht hm) ho' flag fun e _ => absurd e.symm h)]

/-- A refresh is the reads of the channels, of the tile's own conditions, and the sums over both. -/
theorem mirrorRefresh_eq (hl : s.linkUp t = true) (hp : (s.tile t).powered = true) (hs : (s.tile t).starting = false) :
    mirrorRefresh t s = ((s.readProts t).readTile t).mirFaults t := if_pos (by simp [hl, hp, hs])

theorem mirrorRefresh_down (hl : s.linkUp t = false) : mirrorRefresh t s = s := if_neg (by simp [hl])

theorem mirrorReload_unpowered (hp : (s.tile t).powered = false) : mirrorReload t s = s := if_pos (by simp [hp])

theorem mirrorRefresh_spec (ht : t < 8) (hl : s.linkUp t = true) (hp : (s.tile t).powered = true) (hs : (s.tile t).starting = false) :
    (mirrorRefresh t s).rd (mt t Reg.Tile.SUPPLY_I) = word (s.supplyMean t % 2 ^ 16) ∧
      (mirrorRefresh t s).rd (mt t Reg.Tile.LH_STATE) = word (s.tile t).lh ∧
      ∀ n ∈ tileChans t, ∀ o ∈ protPlaces, (mirrorRefresh t s).rd (mc n o) = (mirrorRefresh t s).rd (tk n o) ∧
        (o ≠ Reg.Chan.PROT_STAT ∨ s.regOpen n = false → (mirrorRefresh t s).rd (tk n o) = s.rd (tk n o)) := by
  let x := s.readProts t
  have sampling : Sampling s x := s.readProts_sampling ht
  have tile : x.tile t = s.tile t := by rw [State.tile, State.tile, sampling.tiles]
  have sums := (x.readTile t).mirFaults_writes (t := t) (p := mirrorReg [] [Reg.Tile.FAULT_STAT, Reg.Tile.LATCH_SUM])
    ((mirrorReg_tile t (by decide)).trans (by decide)) ((mirrorReg_tile t (by decide)).trans (by decide))
  have mirror : RegsBut (mirrorReg [Reg.Chan.CH_STAT] (readPlaces ++ [Reg.Tile.FAULT_STAT, Reg.Tile.LATCH_SUM])) x ((x.readTile t).mirFaults t) :=
    (RegsBut.mono (x.readTile_regs (tileReadIn_mirror t)) fun _ => mirrorReg_mono (by simp) (by simp)).trans
      (RegsBut.mono sums.1 fun _ => mirrorReg_mono (by simp) (by simp))
  obtain ⟨supply, lh⟩ := x.readTile_levels t
  rw [mirrorRefresh_eq hl hp hs]
  refine ⟨?_, ?_, fun n hn o ho => ?_⟩
  · rw [sums.1 _ ((mirrorReg_tile t (by decide)).trans (by decide)), supply, State.supplyMean, State.supplyMean, tile]
  · rw [sums.1 _ ((mirrorReg_tile t (by decide)).trans (by decide)), lh, tile]
  · obtain ⟨lt, places, flag⟩ := protPlaces_spec o ho
    have own := mirror _ ((mirrorReg_tk n lt).trans places)
    exact ⟨(mirror _ ((mirrorReg_chan n lt).trans places)).trans ((s.readProts_rd ht hn ho).trans own.symm),
      fun h => own.trans (sampling.regs n o lt flag h)⟩

end

end Sys2Proof.Machine
end

section
/-! PROOFS. O30: CHANNEL_ON, CHANNEL_OFF and CHANNEL_CLEAR (R132, R190, R216). -/

namespace Sys2Proof.Machine

/-! ## What the command is judged by -/

/-- The page of a channel's UNIT_CTRL. -/
theorem pageOf_chan {n : Nat} (hn : n < 128) (view : Nat) :
    pageOf view (mc n Reg.Hdr.UNIT_CTRL) = some (.own .chan n (chanBase n)) := by
  have number : mc n Reg.Hdr.UNIT_CTRL / 0x1000 = 0x40200 + n / 16 * 0x20 + 1 + n % 16 := by
    unfold mc chanBase Reg.Hdr.UNIT_CTRL
    omega
  have tile : (n / 16 * 0x20 + 1 + n % 16) / 0x20 = n / 16 := by omega
  have place : (n / 16 * 0x20 + 1 + n % 16) % 0x20 = 1 + n % 16 := by omega
  have chan : 16 * (n / 16) + (1 + n % 16 - 1) = n := by omega
  unfold pageOf
  rw [number]
  dsimp only
  rw [if_neg (by omega), if_neg (by omega), if_pos (by omega),
    show 0x40200 + n / 16 * 0x20 + 1 + n % 16 - 0x40000 - 0x200 = n / 16 * 0x20 + 1 + n % 16 by omega, tile, place, if_neg (by omega),
    if_pos (by omega), chan]

theorem shepSees_chan {n : Nat} (hn : n < 128) : shepSees (mc n Reg.Hdr.UNIT_CTRL) = true := by
  obtain ⟨hlo, hhi⟩ := mc_bounds hn (off := Reg.Hdr.UNIT_CTRL) (by decide)
  rw [shepSees, decide_eq_false (by omega)]
  rfl

/-- An accepted write passed the check of its page (R34, R43). -/
theorem State.judge_judgePage {s : State} {acc : Access} {addr : Nat} {p : Page} (ht : Takes s acc addr)
    (hp : acc.page addr = some p) : s.judgePage acc true p = .accept := by
  unfold Takes State.judge at ht
  rw [hp] at ht
  dsimp only at ht
  split at ht
  · cases ht
  split at ht
  · split at ht <;> cases ht
  split at ht
  · cases ht
  split at ht
  · split at ht <;> cases ht
  · exact ht

section
variable {s : State} {acc : Access} {n : Nat} {v : Word}

/-- A side-band write that is accepted at a channel's page passes R132 for the channel, with the world it claims as with the world
it carries (R41). -/
theorem State.lineOk_shep (hn : n < 128) (hm : acc.master = .shep) (ht : Takes s acc (mc n Reg.Hdr.UNIT_CTRL)) :
    s.lineOk acc n = true ∧ s.lineOk (s.asSent acc) n = true := by
  have page : acc.page (mc n Reg.Hdr.UNIT_CTRL) = some (.own .chan n (chanBase n)) := by
    rw [Access.page, hm]
    dsimp only
    rw [if_pos (shepSees_chan hn), pageOf_chan hn]
  have judged := State.judge_judgePage ht page
  have owner : (Page.own .chan n (chanBase n)).ownerKey = chanBase n + Reg.Hdr.OWNER := rfl
  unfold State.judgePage at judged
  rw [hm, owner] at judged
  dsimp only at judged
  split at judged
  · cases judged
  next world =>
  split at judged
  · cases judged
  next writes =>
  have sent : worldOk (s.rd (chanBase n + Reg.Hdr.OWNER)) (s.asSent acc) = true := by simpa using world
  have may : s.spMayWrite (s.rd (chanBase n + Reg.Hdr.OWNER)) = true := by simpa using writes
  have claimed : worldOk (s.rd (chanBase n + Reg.Hdr.OWNER)) acc = true := by
    simp only [worldOk, State.asSent, hm, Bool.or_eq_true, Bool.and_eq_true] at sent ⊢
    exact sent.imp_right And.left
  constructor
  · simp [State.lineOk, viOk, hm, claimed, may]
  · simp [State.lineOk, viOk, hm, sent, may]

theorem State.chanRefused_asSent (hn : n < 128) (ht : Takes s acc (mc n Reg.Hdr.UNIT_CTRL)) :
    s.chanRefused (s.asSent acc) n = s.chanRefused acc n := by
  cases hm : acc.master with
  | half h => rw [State.asSent_half hm]
  | shep =>
    obtain ⟨claimed, sent⟩ := State.lineOk_shep hn hm ht
    rw [State.chanRefused, State.chanRefused, claimed, sent]

/-! ## An accepted write changes none of it -/

variable {addr : Nat} {acc' : Access}

theorem State.taken_chan {off : Nat} (ho : off < 0x1000) (hc : off ≠ Reg.Local.CMP_WRITES) (n : Nat) :
    (s.taken acc addr v).rd (mc n off) = s.rd (mc n off) := State.taken_rd (by rwa [mc_mod n ho])

theorem State.taken_chanBit {off : Nat} (ho : off < 0x1000) (hc : off ≠ Reg.Local.CMP_WRITES) (n i : Nat) :
    (s.taken acc addr v).bit (mc n off) i = s.bit (mc n off) i := congrArg (bitOf · i) (State.taken_chan ho hc n)

theorem State.taken_busy (n : Nat) : (s.taken acc addr v).busy (chanBase n) = s.busy (chanBase n) :=
  State.taken_chanBit (off := Reg.Hdr.UNIT_STAT) (by decide) (by decide) n 6

theorem State.taken_halfState (h : Half) : (s.taken acc addr v).halfState h = s.halfState h :=
  State.taken_fld (by cases h <;> decide) 4 3

theorem State.taken_lineOk : (s.taken acc addr v).lineOk acc' n = s.lineOk acc' n := by
  have active : (s.taken acc addr v).activeHalf = s.activeHalf := State.taken_eq (·.activeHalf) fun _ _ _ _ => rfl
  have owner : (s.taken acc addr v).rd (chanBase n + Reg.Hdr.OWNER) = s.rd (chanBase n + Reg.Hdr.OWNER) :=
    State.taken_chan (by decide) (by decide) n
  simp only [State.lineOk, State.halfOk, State.spMayWrite, State.ownerHalfState, State.taken_halfState, active, owner]

theorem State.taken_chanRefused : (s.taken acc addr v).chanRefused acc' n = s.chanRefused acc' n := by
  have leash : (s.taken acc addr v).mirState (n / 16) = s.mirState (n / 16) :=
    State.taken_fld (by rw [mt_mod _ (by decide)]; decide) 18 3
  rw [State.chanRefused, State.taken_lineOk, leash, State.chanRefused]

theorem State.taken_mirLatched : (s.taken acc addr v).mirLatched n = s.mirLatched n := by
  simp only [State.mirLatched, State.taken_chanBit (off := Reg.Chan.DIAG_HIST) (by decide) (by decide),
    State.taken_chanBit (off := Reg.Chan.PROT_STAT) (by decide) (by decide)]

/-! ## Ends -/

/-- A command of the page at b that ended with result r and did nothing else. -/
def Concluded (b : Nat) (r : CmdResult) (s u : State) : Prop :=
  u.resp = .ok ∧ u.fld (b + Reg.Hdr.UNIT_STAT) 7 3 = r.code ∧ u.bit (b + Reg.Hdr.IRQ_RAW) 2 = true ∧
    Keeps (fun k => k == b + Reg.Hdr.UNIT_STAT || k == b + Reg.Hdr.IRQ_RAW) s u

theorem State.taken_concluded (b : Nat) (r : CmdResult) : Concluded b r s ((s.taken acc addr v).cmdResult b r) :=
  ⟨(State.cmdResult_writes _ b r).resp, State.cmdResult_code _ b r, State.cmdResult_done _ b r,
    (s.taken_keeps _ acc addr v).writes (State.cmdResult_writes _ b r)⟩

/-- A channel driven to a level, with DONE (R190). -/
theorem State.driven_done (s : State) (hn : n < 128) (lv : Bool) (x : Nat) :
    let u := (s.driveLine n lv x false).cmdResult (chanBase n) .done
    u.level n = lv ∧ u.fld (chanBase n + Reg.Hdr.UNIT_STAT) 7 3 = CmdResult.done.code ∧ u.bit (chanBase n + Reg.Hdr.IRQ_RAW) 2 = true := by
  refine ⟨?_, State.cmdResult_code _ _ _, State.cmdResult_done _ _ _⟩
  have image : hrnBase + Reg.Hrn.LEVEL + 4 * (n / 32) < 0x40200000 := by
    unfold hrnBase Reg.Hrn.LEVEL
    omega
  have page {off : Nat} (ho : off < 0x1000) : hrnBase + Reg.Hrn.LEVEL + 4 * (n / 32) ≠ chanBase n + off :=
    (image.trans (mc_bounds hn ho).1).ne
  have apart := ((s.driveLine n lv x false).cmdResult_writes (chanBase n) .done).1 (hrnBase + Reg.Hrn.LEVEL + 4 * (n / 32))
    (Bool.or_eq_false_iff.2 ⟨beq_false_of_ne (page (by decide)), beq_false_of_ne (page (by decide))⟩)
  exact (congrArg (bitOf · (n % 32)) apart).trans (State.driveLine_level hn lv x false)

/-! ## The cases of the commands -/

theorem channel_busy (hb : s.busy (chanBase n) = true) :
    channelOn acc n s = s.cmdResult (chanBase n) .busy ∧ channelOff acc n s = s.cmdResult (chanBase n) .busy ∧
      channelClear acc n s = s.cmdResult (chanBase n) .busy := ⟨if_pos hb, if_pos hb, if_pos hb⟩

theorem channelOn_accepted (hb : s.busy (chanBase n) = false) (hr : s.chanRefused acc n = false)
    (he : s.bit (mc n Reg.Chan.CH_CFG) 0 = true) (hl : s.mirLatched n = false) :
    channelOn acc n s = (s.driveLine n true s.tb0.nsTotal false).cmdResult (chanBase n) .done := by
  rw [channelOn, if_neg (by simp [hb]), if_neg (by simp [hr, he, hl])]

theorem channelOn_refused (hb : s.busy (chanBase n) = false)
    (hr : s.chanRefused acc n = true ∨ s.bit (mc n Reg.Chan.CH_CFG) 0 = false ∨ s.mirLatched n = true) :
    channelOn acc n s = s.cmdResult (chanBase n) .refused := by
  rw [channelOn, if_neg (by simp [hb]), if_pos]
  rcases hr with h | h | h <;> simp [h]

theorem channelOff_accepted (hb : s.busy (chanBase n) = false) (hr : s.chanRefused acc n = false) :
    channelOff acc n s = (s.driveLine n false s.tb0.nsTotal false).cmdResult (chanBase n) .done := by
  rw [channelOff, if_neg (by simp [hb]), if_neg (by simp [hr])]

theorem channelOff_refused (hb : s.busy (chanBase n) = false) (hr : s.chanRefused acc n = true) :
    channelOff acc n s = s.cmdResult (chanBase n) .refused := by
  rw [channelOff, if_neg (by simp [hb]), if_pos hr]

theorem channelClear_refused (hb : s.busy (chanBase n) = false) (hr : s.chanRefused acc n = true) :
    channelClear acc n s = s.cmdResult (chanBase n) .refused := by
  rw [channelClear, if_neg (by simp [hb]), if_pos hr]

theorem channelClear_accepted (hb : s.busy (chanBase n) = false) (hr : s.chanRefused acc n = false) (hq : (s.tc (n / 16)).rwUsed < 32) :
    channelClear acc n s = (s.setBusy (chanBase n) true).rwPush (n / 16)
      (s.tcWrite acc.master (n / 16) (n % 16) Reg.Chan.PROT_CLR 0xF) (.clear n) := by
  rw [channelClear, if_neg (by simp [hb]), if_neg (by simp [hr]), if_neg (by omega)]

/-- PROT_CLR with all four bits, queued for channel n. -/
def ClearQueued (n : Nat) (u : State) : Prop :=
  ∃ e ∈ (u.tc (n / 16)).rwQ ++ (u.tc (n / 16)).sent, e.why = .clear n ∧ e.req.type = 4 ∧ e.req.unit = n % 16 ∧
    regOff e.req.reg = Reg.Chan.PROT_CLR ∧ e.req.data = 0xF

theorem channelClear_queued (hn : n < 128) (hb : s.busy (chanBase n) = false) (hr : s.chanRefused acc n = false)
    (hq : (s.tc (n / 16)).rwUsed < 32) :
    (channelClear acc n s).busy (chanBase n) = true ∧ ClearQueued n (channelClear acc n s) := by
  rw [channelClear_accepted hb hr hq]
  have stands := ((s.setBusy (chanBase n) true).rwPush_queues (n / 16) (s.tcWrite acc.master (n / 16) (n % 16) Reg.Chan.PROT_CLR 0xF)
    (.clear n)).regs (chanBase n + Reg.Hdr.UNIT_STAT) (counterReg_of_elsewhere (elsewhere_mc hn (by decide)))
  exact ⟨(congrArg (bitOf · 6) stands).trans (s.setBusy_busy _ true),
    (State.rwPush_queued _ _ _ _).exists (fun _ => .rfl) ⟨rfl, rfl, rfl, by rfl, rfl⟩⟩

end

end Sys2Proof.Machine

open Sys2Proof Sys2Proof.Machine

/-- Settles O30: the reload and the refresh carry the tile's registers to the mirrors, and the commands end as their checks say. -/
theorem mirrorsAndChannelCommands : Obligations.MirrorsAndChannelCommands := by
  unfold Obligations.MirrorsAndChannelCommands
  constructor
  · intro s k
    have chan {c : Nat} (hc : c < 16) : 16 * k.val + c ∈ tileChans k.val := List.mem_map.2 ⟨c, List.mem_range.2 hc, rfl⟩
    refine ⟨fun hp hs => ⟨_, rfl, ?_⟩, fun hp => ⟨_, rfl, mirrorReload_unpowered hp⟩, fun hl hp hs => ⟨_, rfl, ?_⟩,
      fun hl => ⟨_, rfl, mirrorRefresh_down hl⟩⟩
    · obtain ⟨link, valid, tile, chans⟩ := mirrorReload_spec s k.isLt hp hs
      exact ⟨link, valid, tile _ (by simp), tile _ (by simp), fun c hc o ho hne =>
        chans _ (chan hc) o ((List.mem_erase_of_ne hne).2 ho)⟩
    · obtain ⟨supply, lh, chans⟩ := mirrorRefresh_spec k.isLt hl hp hs
      exact ⟨supply, lh, fun c hc o ho => chans _ (chan hc) o ho⟩
  · intro s acc n ht
    let x (v : Word) := s.taken acc (mc n.val Reg.Hdr.UNIT_CTRL) v
    have idle {b : Bool} (h : s.busy (chanBase n.val) = b) (v : Word) : (x v).busy (chanBase n.val) = b := (State.taken_busy _).trans h
    have refused {b : Bool} (h : s.chanRefused acc n.val = b) (v : Word) : (x v).chanRefused (s.asSent acc) n.val = b :=
      State.taken_chanRefused.trans ((State.chanRefused_asSent n.isLt ht).trans h)
    have enabled {b : Bool} (h : s.bit (mc n.val Reg.Chan.CH_CFG) 0 = b) (v : Word) : (x v).bit (mc n.val Reg.Chan.CH_CFG) 0 = b :=
      (State.taken_chanBit (by decide) (by decide) _ _).trans h
    have latched {b : Bool} (h : s.mirLatched n.val = b) (v : Word) : (x v).mirLatched n.val = b := State.taken_mirLatched.trans h
    have ends {i : Instr} {v : Word} {eff : Access → State → State} {r : CmdResult}
        (hi : exec i s = .next (s.write acc 4 (mc n.val Reg.Hdr.UNIT_CTRL) v eff))
        (he : eff (s.asSent acc) (x v) = (x v).cmdResult (chanBase n.val) r) : Leads i s (Concluded (chanBase n.val) r s) :=
      leads_taken ht hi (he ▸ State.taken_concluded _ r)
    refine ⟨fun hb hr he hl => leads_taken ht rfl ?_, fun hb hr => leads_taken ht rfl ?_, fun hb hr hq => leads_taken ht rfl ?_,
      fun hb h => ends rfl (channelOn_refused (idle hb 1) ?_),
      fun hb hr => ⟨ends rfl (channelOff_refused (idle hb 2) (refused hr 2)), ends rfl (channelClear_refused (idle hb 3) (refused hr 3))⟩,
      fun hb => ?_⟩
    · rw [channelOn_accepted (idle hb 1) (refused hr 1) (enabled he 1) (latched hl 1)]
      exact State.driven_done _ n.isLt true _
    · rw [channelOff_accepted (idle hb 2) (refused hr 2)]
      exact State.driven_done _ n.isLt false _
    · exact channelClear_queued n.isLt (idle hb 3) (refused hr 3) (by rwa [State.taken_tc])
    · exact h.imp (refused · 1) (Or.imp (enabled · 1) (latched · 1))
    · obtain ⟨on, -, -⟩ := channel_busy (acc := s.asSent acc) (idle hb 1)
      obtain ⟨-, off, -⟩ := channel_busy (acc := s.asSent acc) (idle hb 2)
      obtain ⟨-, -, clear⟩ := channel_busy (acc := s.asSent acc) (idle hb 3)
      exact ⟨ends rfl on, ends rfl off, ends rfl clear⟩

end
